-- ==== Sys2Proof/Word.lean ====
section
/-!
DEFINITION. The two widths the spec gives every register and every stored byte: a DW of 32 bits (R51, R54) and a byte
of 8 bits (R9, R10).
-/

namespace Sys2Proof

/-- A register of the FY8C: one DW of 32 bits (R9, R51). -/
abbrev Word := BitVec 32

/-- A byte (R9). -/
abbrev Byte := BitVec 8

end Sys2Proof
end

