-- ==== Sys2Proof/Syntax.lean ====
section
/-!
DEFINITION. The commands of the FY8C as syntax: one constructor per row of spec/opcode_table.json, with the operands the row
needs. What a row takes from outside the chip (a measured voltage, a level on a pin, a word of a disc, a TLP) is an operand;
what the chip itself holds is not.
-/

namespace Sys2Proof

/-- Who reaches a register: the PF, a VF, one of the two management cores, or the partner (R51). -/
inductive Req
  | pf
  | vf (v : Nat)
  | mgmt (c : Nat)
  | partner
deriving DecidableEq, Repr

/-- An apply unit (R44). The owning chapters list them: R58, R121, R152, R180, R217, R246, R273, R296, R311, R332, R366,
R367, R403, R434, R461, R462, R463, R498. -/
inductive UnitId
  | glbTemp | hqeArb | hqeVol | pcxCtl | pcxWin (w : Nat) | buf | onx | grn | tpz
  | stn (n : Nat) | lane (l : Nat) | wrs (n : Nat) | spn (n : Nat) | spnBus | sld (n : Nat)
  | brlStn (n : Nat) | brlSlot (k : Nat) | brlBank (b k : Nat)
  | jsp | cal | cgl | drk | qtz | evl
deriving DecidableEq, Repr

/-- A block of an on-chip SRAM as it is read (R330): eight bytes, one even row-parity bit per byte, and the column byte. -/
structure SramBlock where
  bytes : Vector Byte 8
  rows : BitVec 8
  col : Byte
deriving DecidableEq, Repr

/-- What reaches a lane since its last command: the differential RF input of its beam at the ADC's sampling instants, 1.000 GS/s
(R93), and the sample at which a frame 0 begins by the station's wobble slot mark, or a frame by the write timing that WRS gives a verify
lane, where one begins in this stretch (R105, R106). -/
structure LaneIn where
  rf : List Int
  mark : Option Nat
deriving DecidableEq, Repr

/-- Why a lane's DSP section has failed (R114): a block of one of its memories as it was read (R330), or 64 frame periods without a
confirmed frame. -/
inductive LaneFault
  | memory (b : SramBlock)
  | noFrames
deriving DecidableEq, Repr

/-- The masters that order a station (R292). -/
inductive Master
  | pins
  | ring
  | pf
  | vf (v : Nat)
  | partner
deriving DecidableEq, Repr

/-- An order that reaches a station in the same station cycle (R293): its master and its CMD. `later` says that it came after
the order itself. -/
structure Rival where
  master : Master
  cmd : Nat
  later : Bool
deriving DecidableEq, Repr

/-- What a mount step finds on the disc (R278). -/
inductive MountIn
  /-- Nothing beyond what the chip holds. -/
  | none
  /-- The 36 record bytes of each copy of a layer's information, in slot order (R86). -/
  | layer (copies : List (List (BitVec 8)))
  /-- Step 5: the first 8 slots of both map zones and of the data region are blank on every arm of L0; and the UID of the FY8C that wrote the
  disc's newest checkpoint (R281, R360). -/
  | kind (blank : Bool) (writer : Option Nat)
  /-- Step 6: the written slots of each arm's data region at or after its recorded frontier, those of each map zone and arm, keyed
  8 × layer + 4 × zone B + arm (R282), and the first blank test slots, keyed 8 × layer + 4 × outer zone + arm (R67). -/
  | fronts (written : List (List Nat)) (maps : List (Nat × List Nat)) (tests : List (Nat × Nat))
deriving DecidableEq, Repr

/-- A DRAM fitting as a channel's mode registers report it (R312, R313): dies of 2^density × 4 Gb (1 to 3), ranks, x8 dies. -/
structure Fitting where
  density : Nat
  ranks : Nat
  byteMode : Bool
deriving DecidableEq, Repr

/-- What a scrub read finds in one codeword that holds an error (R321, R322): which of the four codewords of the 64 bytes at the scrubber's
position it is, its nibbles in error, whether the other copy of the word is bad as well (of a word of the system region that in the other half of the
memory, of a mirrored page the partner's, R460), and for a word of the system region the map entry that holds it, where one does, and the entry as the
newest checkpoint holds it (its 32 bytes). -/
structure WordErr where
  word : Fin 4
  bad : Nat
  entry : Option Nat
  otherBad : Bool
  old : List (BitVec 8)
deriving DecidableEq, Repr

/-- What a scrub read finds (R322, R325): the rank that holds the place, and the codewords there that hold errors. -/
structure ScrubIn where
  rank : Fin 2
  errs : List WordErr
deriving DecidableEq, Repr

/-- An error that a demand read finds in a buffer page (R322): the page, the rank, the codeword of the page, its nibbles in error, and whether the partner's
copy of the page fails too (R460). -/
structure ReadErr where
  bpn : Nat
  rank : Fin 2
  word : Fin 256
  bad : Nat
  peerBad : Bool
deriving DecidableEq, Repr

/-- A MAP cluster as the survey reads it back (R362): the station, WRITER_UID of its header, its PCA and its user bytes. -/
structure MapClu where
  station : Fin 8
  uid : BitVec 64
  pca : Nat
  bytes : List (BitVec 8)
deriving DecidableEq, Repr

/-- The header of the last written cluster before the frontier of an arm (R363): WRITER_UID, COMMIT_GROUP, REEL and STRIPE. -/
structure LastHdr where
  uid : BitVec 64
  group : Nat
  reel : Nat
  stripe : Nat
deriving DecidableEq, Repr

/-- What the survey of the map zones finds (R362, R363): MAP clusters of the mounted discs, and the headers before the frontiers. -/
structure MapIn where
  found : List MapClu
  heads : List LastHdr
deriving DecidableEq, Repr
/-- A submission queue entry as it is read from host memory (R375). -/
structure Sqe where
  op : Nat
  flags : Nat
  cid : Nat
  vol : Nat
  addr : Nat
  listCount : Nat
  lba : Nat
  blocks : Nat
  group : Nat
  version : Nat
  reel : Nat
  a0 : Nat
  a1 : Nat
  a2 : Nat
  a3 : Nat
deriving DecidableEq, Repr

/-- A descriptor of a list (R376): address and length. -/
structure Desc where
  addr : Nat
  len : Nat
deriving DecidableEq, Repr

/-- A posted write to BAR2 (R416 to R420): requester ID, offset in BAR2, data, poisoned; and the errors found by the reads that a write of
part of a codeword makes before it writes (R322). -/
structure Tlp where
  rid : Nat
  addr : Nat
  data : List (BitVec 8)
  poisoned : Bool
  errs : List ReadErr
deriving DecidableEq, Repr

/-- Requests that are not to memory (R411). -/
inductive ReqKind
  | config0 | config1 | io | atomic
deriving DecidableEq, Repr

/-- A configuration request (R405 to R411), or another request that is not to memory: its kind, function (of a request that the FY8C does
not serve the requester), dword number, write or read, byte enables, data. -/
structure CfgReq where
  kind : ReqKind
  fn : Nat
  dw : Fin 1024
  write : Bool
  be : BitVec 4
  data : Word
deriving DecidableEq, Repr

/-- How a completion ends a request (R423). -/
inductive CplStatus
  | ok | unsupported | abort | poisoned
deriving DecidableEq, Repr

/-- Why the endpoint is contained (R425), in the order of PCX_CONTAIN.CAUSE. -/
inductive ContainCause
  | linkDown | dataLink | tlp | ecrc | internal
deriving DecidableEq, Repr

/-- The identity that the partner announces (R439). -/
structure PeerId where
  uid : BitVec 64
  mode : Nat
  role : Nat
  home : BitVec 64
  epoch : Nat
  /-- Quartz time of its newest complete checkpoint (R448). -/
  ckpt : Nat
  /-- Its pair state (R436). -/
  state : Nat
deriving DecidableEq, Repr

/-- A step of a reel as the home mirrors it (R440, R476). -/
inductive ReelStep
  | opened (lba time tc : Nat)
  | mark (time tc offset : Nat)
  | markDropped
  | closed (blocks time tc : Nat)
deriving DecidableEq, Repr

/-- Why a mirrored page may be freed (R318): its stripe is in the map here, or a newer version has superseded it. -/
inductive Freed
  | mapped | superseded
deriving DecidableEq, Repr

/-- The admission record of a write (R440): its place in admission order, volume, first block, blocks, version, group and reel. -/
structure WriteRec where
  adm : Nat
  vol : Nat
  lba : Nat
  blocks : Nat
  ver : Nat
  group : Nat
  reel : Nat
deriving DecidableEq, Repr

/-- The time exchange of a control flit (R458): the sender's time at sending, and the one-way measurement it took of the last such flit it received, ns. -/
structure Stamp where
  time : Nat
  oneWay : Option Int
deriving DecidableEq, Repr

/-- What a data flit carries (R440, R443, R448, R450). The spec fixes the flit and leaves the layout of its payload open. -/
inductive FlitBody
  /-- A write has been admitted (R440). -/
  | record (w : WriteRec)
  /-- A write ended without acknowledgement, so that its version is one no more. -/
  | ended (w : WriteRec)
  /-- A mirrored page: volume, block, version, group, reel, admission place, data; whether it is the last of its write. -/
  | page (vol lba ver group reel adm : Nat) (last : Bool) (bytes : List (BitVec 8))
  /-- A step of a commit group: 0 opened, 1 closing, 2 visible, 3 rolled back. -/
  | group (id : Nat) (step : Nat)
  /-- A step of a reel. -/
  | reel (serial : Nat) (vol : Nat) (step : ReelStep)
  /-- A window's ACK. -/
  | ack (window : Nat) (ack : Nat)
  /-- A stream's cluster closes with these blocks, by number and version (R132). -/
  | close (vol : Nat) (reel : Nat) (blocks : List (Nat × Nat))
  /-- A map change: the entry's index and its 32 bytes (R338). -/
  | map (index : Nat) (bytes : List (BitVec 8))
  /-- A page that catches the partner up (R448): volume, block, version, group, reel, data. -/
  | catchUp (vol lba ver group reel : Nat) (bytes : List (BitVec 8))
  /-- A page may be freed as far as the sender goes (R318). -/
  | release (vol lba ver : Nat) (how : Freed)
  /-- A cluster is asked for, and its answer (R443): its user bytes, and whether it was rebuilt from its stripe. -/
  | readReq (disc pca : Nat)
  | readData (disc pca : Nat) (bytes : Option (List (BitVec 8))) (rebuilt : Bool)
  /-- A FLUSH of a volume, and the checkpoint that covers it (R442). -/
  | flush (tag vol : Nat)
  | flushDone (tag seq : Nat)
  /-- An order to a station (R450), with the other orders that reach the station in the same cycle (R293) and the pickup image that a mount reads
  (R300). -/
  | order (station cmd : Nat) (retire : Bool) (rivals : List Rival) (img : List (BitVec 8))
  /-- A flit type that no pair state allows (R444). -/
  | unknown
deriving DecidableEq, Repr

/-- What a control flit carries (R436). -/
structure Ctl where
  /-- Data flits acknowledged up to this sequence number. -/
  ack : Option Nat
  /-- The flit to be sent again. -/
  nak : Option Nat
  /-- Pages that are in the partner's buffer (R441): volume, block, version. -/
  confirm : List (Nat × Nat × Nat)
  /-- Groups whose step into VISIBLE the partner confirms (R442). -/
  groups : List Nat
  leave : Bool
  /-- Its pair state. -/
  state : Nat
  /-- The time exchange (R458). -/
  stamp : Option Stamp
deriving DecidableEq, Repr

/-- What owns an on-chip SRAM (R330): a read channel lane (R114), a Beryl pipeline (R211), or a block for which the spec gives no rule. -/
inductive SramOwner
  | lane (l : Fin 68) | pipe (p : Fin 4) | other
deriving DecidableEq, Repr

/-- A write of some bytes of an SRAM block (R331): the block as its reads find it, which bytes are written, and their new content. -/
structure SramWrite where
  owner : SramOwner
  block : SramBlock
  mask : BitVec 8
  new : Vector Byte 8
deriving DecidableEq, Repr

/-- One register TLP (R54): its requester and its requester ID, the byte offset of its first DW in the requester's BAR0 (0x40_0000 and
up: BAR4), its length in DWs, the byte enables of the first and the second DW, and (for a write) their data. For a write of
STN_CMD also what the row of the order itself takes: the orders that reach the station with it (R293) and the pickup's image
(R300). `sram` is the SRAM block a write falls into, where it is kept in one (R331). -/
structure Access where
  req : Req
  rid : Nat
  addr : Nat
  dws : Nat
  be : BitVec 4
  be2 : BitVec 4
  data : Word
  data2 : Word
  rivals : List Rival
  img : List (BitVec 8)
  sram : Option SramWrite
deriving DecidableEq, Repr

/-- The commands: one constructor per row of the opcode table, in the table's order. -/
inductive Instr
  /-- REGISTER_WRITE (R54). A write to a register that has no row of its own acts on the enabled bytes of RW, RWA, W1C and W1S fields and marks RWA registers as written. -/
  | registerWrite (a : Access)
  /-- READ_CLEAR (R13). A read of an RC field returns its value and then clears it, provided the enabled bytes cover the whole field. -/
  | readClear (a : Access)
  /-- READ_64_LOW (R51). A full read of the low word of a 64-bit register latches the high word into the requester's read shadow. -/
  | read64Low (a : Access)
  /-- READ_64_HIGH (R51). A read of the high word returns the shadow if its tag matches and clears the tag, and otherwise returns the live high word. -/
  | read64High (a : Access)
  /-- WRITE_64_LOW (R52). A write of the low word of a writable 64-bit register goes to the requester's write shadow. -/
  | write64Low (a : Access)
  /-- WRITE_64_HIGH (R52). A write of the high word writes all 64 bits at once, taking the low word from the shadow if its tag matches. -/
  | write64High (a : Access)
  /-- GLB_APPLY (R45). A write to GLB_APPLY stages the pending values of every unit of the selected apply groups and sets GLB_APPLY_BUSY. -/
  | glbApply (w : BitVec 32)
  /-- APPLY_AT_BOUNDARY (R45). At a domain's next boundary a unit's staging copy becomes active in one step, after its consistency sets are checked. -/
  | applyAtBoundary (units : List UnitId)
  /-- AUTO_APPLY (R47). At a block's boundary, a unit whose pending copy has been written applies without a strobe, set by set. -/
  | autoApply (u : UnitId)
  /-- GLB_RESET (R56). A write to GLB_RESET with KEY 0x0FA5 and DEVICE set starts a device reset. -/
  | glbReset (w : BitVec 32)
  /-- TEMP_SENSOR_UPDATE (R57). Every 1 ms each die temperature sensor updates, and WARN and CRIT are set at their thresholds. -/
  | tempSensorUpdate (t : Vector Int 8)
  /-- THERMAL_TRIP_RELEASE (R57). Once every sensor reads below +115.0 °C, the device leaves the thermal reset with GLB_RESET_CAUSE[3] set. -/
  | thermalTripRelease (t : Vector Int 8)
  /-- ADIP_WORD_DECODE (R71). A station decodes an ADIP word copy of a slot and accepts the slot's address or not. -/
  | adipWordDecode (n : Fin 8) (arm : Fin 4) (newSlot : Bool) (w : BitVec 60)
  /-- WOBBLE_SEED_UPDATE (R280). Every 64 wobbles while tracking lock holds, the station updates the measured wobble period that seeds the lanes. -/
  | wobbleSeedUpdate (n : Fin 8) (samples : List Int)
  /-- PRIMARY_SYNC_MATCH (R103). The framer accepts a primary sync in the window and delivers or opens hypotheses by the case table. -/
  | primarySyncMatch (l : Fin 68) (p : Int) (f : LaneIn)
  /-- SECONDARY_SYNC_MATCH (R103). The framer accepts a secondary sync and aligns half B and the flywheel to it. -/
  | secondarySyncMatch (l : Fin 68) (p : Int) (f : LaneIn)
  /-- HYPOTHESIS_DECIDE (R104). When both secondary windows of an early primary have closed, the best secondary match picks the winning hypothesis. -/
  | hypothesisDecide (l : Fin 68) (f : LaneIn)
  /-- FLYWHEEL_INSERTION (R103). A frame with no confirmed sync is delivered as a whole-frame erasure and timed from the prediction. -/
  | flywheelInsertion (l : Fin 68) (f : LaneIn)
  /-- FRAME_LOCK_REGAINED (R105). A primary match followed by a matching secondary regains frame lock, and data resumes at the next slot. -/
  | frameLockRegained (l : Fin 68) (p : Int) (f : LaneIn)
  /-- DEFECT_DECLARED (R107). An envelope out of bounds for MIN_LEN × 8 channel bits declares a defect and holds the lane's loops. -/
  | defectDeclared (l : Fin 68) (f : LaneIn)
  /-- DEFECT_END (R107). An envelope back within bounds for MIN_LEN × 8 channel bits ends the defect. -/
  | defectEnd (l : Fin 68) (f : LaneIn)
  /-- DEFECT_HOLD_EXCEEDED (R109). A defect lasting longer than MAX_HOLD frames sets HOLD_EXCEEDED, and the lane resynchronises when it ends. -/
  | defectHoldExceeded (l : Fin 68) (f : LaneIn)
  /-- FRAME_DELIVERY (R111). A data lane delivers one frame's bytes, erasure flags and status word to Topaz. -/
  | frameDelivery (l : Fin 68) (f : LaneIn) (sram : Option SramBlock)
  /-- CLUSTER_STATISTICS (R113). At the end of each cluster a lane publishes tap means, metric margins and asymmetry, or withholds them. -/
  | clusterStatistics (l : Fin 68)
  /-- LANE_FAILED (R114). A lane's DSP section fails, from an unmendable memory error or 64 frame periods without a confirmed frame. -/
  | laneFailed (l : Fin 68) (why : LaneFault)
  /-- ADC_FAILED (R114). A lane ADC fails, from a stuck code or a missing code at start-up. -/
  | adcFailed (l : Fin 64) (f : LaneIn) (startUp : Bool)
  /-- LANE_SPARE_SWITCH (R115). At the beam's next cluster boundary, a failed or forced lane's work moves to a spare, or the beam stops if none is free. -/
  | laneSpareSwitch (bs : List (Fin 8 × Fin 4))
  /-- SPARE_FORCE (R122). OPL_SPARE_CMD FORCE moves a lane's work to a free spare at the beam's next cluster boundary. -/
  | spareForce (n : Fin 8) (ver : Bool) (m : Fin 4)
  /-- SPARE_RELEASE (R122). OPL_SPARE_CMD RELEASE returns a forced lane's work from its spare at the beam's next cluster boundary. -/
  | spareRelease (n : Fin 8) (ver : Bool) (m : Fin 4)
  /-- MICROCODE_TAKE (R119). A lane takes newly loaded framer microcode at its next cluster boundary. -/
  | microcodeTake (l : Fin 68)
  /-- BLOCK_JOIN_CLUSTER (R132). An acknowledged block joins its stream's open cluster in admission order, closing the cluster at a rule's limit. -/
  | blockJoinCluster (vol : Nat) (reel : Nat)
  /-- STREAM_IDLE_EXPIRY (R134). A stream's idle clock reaches IDLE_CLOSE, and its open cluster and stripe close short. -/
  | streamIdleExpiry (vol : Nat) (reel : Nat)
  /-- STRIPE_OPEN (R525). A stripe is formed as its first data member begins to fill, fixing its geometry and layout. -/
  | stripeOpen (vol : Nat) (reel : Nat)
  /-- STRIPE_SERIAL_ASSIGN (R525). A stripe whose last data member is complete takes the next serial, computes parity and queues members to stations. -/
  | stripeSerialAssign
  /-- CLUSTER_ENCODE (R123). Topaz encodes a cluster into 320 rows, with header, digest and product code, and queues it to its station. -/
  | clusterEncode (n : Fin 8) (t : Nat)
  /-- CLUSTER_DECODED (R129). After row 319 arrives, Topaz runs its decoding rounds and judges the cluster recovered or unrecovered. -/
  | clusterDecoded (pca : Nat)
  /-- DEGRADED_REBUILD (R144). When a station with absent members is available and has no cluster queued, Topaz rebuilds and writes those members in serial order. -/
  | degradedRebuild (n : Fin 8)
  /-- SWEEP_CLUSTER (R147). The disc sweep reads back the next written cluster of a station and judges whether to relocate it. -/
  | sweepCluster (n : Fin 8)
  /-- RELOCATION_COMPLETE (R149). A verified relocated copy moves the map record to the new PCA, and RELOCATED is logged. -/
  | relocationComplete (disc : Nat) (pca : Nat)
  /-- LINK_SYNC_WORD (R161). WRS sends a SYNC word with a CRC-8 in every 64th word slot of each laser-link pair. -/
  | linkSyncWord (n : Fin 8) (m : Fin 4) (osc : List (Nat × Nat))
  /-- CLUSTER_WRITE_START (R158). A beam starts writing a queued cluster at an accepted slot while every write condition holds. -/
  | clusterWriteStart (n : Fin 8) (m : Fin 4) (slot : Nat)
  /-- CLUSTER_INTERRUPTED (R159). A write condition ceasing during a cluster drops the beam to PR and interrupts the cluster. -/
  | clusterInterrupted (n : Fin 8) (m : Fin 4)
  /-- FRAME_VERIFY_RESULT (R170). WRS receives a frame's verify result and judges whether the frame passed. -/
  | frameVerifyResult (n : Fin 8) (m : Fin 4) (f : LaneIn)
  /-- VERIFY_RESULT_TIMEOUT (R170). No verify result arrives within 8 frame periods, so the frame fails. -/
  | verifyResultTimeout (n : Fin 8) (m : Fin 4)
  /-- CLUSTER_ABANDON (R172). With ABANDON set, a cluster whose failed frames exceed FRAME_FAIL_MAX drops to PR at the next frame boundary. -/
  | clusterAbandon (n : Fin 8) (m : Fin 4)
  /-- CLUSTER_VERDICT (R171). WRS judges a cluster passed or failed and reports the verdict with its PCA to Garnet. -/
  | clusterVerdict (n : Fin 8) (m : Fin 4)
  /-- BEAM_RESUME (R179). WRS_BEAM_CMD RESUME ends a beam's suspension from its next slot. -/
  | beamResume (n : Fin 8) (m : Fin 4)
  /-- SAMPLE_TICK (R182). At each 400 kHz Beryl tick the due loop samples are shared among pipelines, computed, and released at the next tick. -/
  | sampleTick (pd : List (List Int)) (fails : List (Fin 4 × Nat)) (srams : List (Fin 4 × SramBlock))
  /-- SERVO_HOLD_EXPIRY (R198). A servo hold lasting beyond HOLD_MAX samples loses focus lock, opens focus and logs LOCK_LOST. -/
  | servoHoldExpiry (n : Fin 8)
  /-- FOCUS_LOCK_GAINED (R197). Focus lock is gained after 64 consecutive qualifying samples. -/
  | focusLockGained (n : Fin 8)
  /-- FOCUS_LOCK_LOST (R197). Focus lock is lost after 16 samples of excess error, or when the loop opens. -/
  | focusLockLost (n : Fin 8)
  /-- TRACKING_LOCK_GAINED (R197). Tracking lock is gained after 64 consecutive qualifying samples. -/
  | trackingLockGained (n : Fin 8)
  /-- TRACKING_LOCK_LOST (R199). Tracking lock is lost after 8 samples of excess error, writing stops and LOCK_LOST is logged. -/
  | trackingLockLost (n : Fin 8)
  /-- FOCUS_ACQ (R203). The sequencer command acquires focus and tracking on the nearest layer. -/
  | focusAcq (n : Fin 8)
  /-- TRACK_JUMP (R205). The sequencer command moves the spots by N turns of the quad spiral. -/
  | trackJump (n : Fin 8) (arg : BitVec 8)
  /-- LAYER_JUMP (R206). The sequencer command moves focus to the target layer. -/
  | layerJump (n : Fin 8) (arg : BitVec 8)
  /-- SEQ_STOP (R209). The sequencer STOP command opens the station's optical loops at the next tick. -/
  | seqStop (n : Fin 8)
  /-- FF_CLEAR (R196). The sequencer command clears the station's feed-forward tables. -/
  | ffClear (n : Fin 8)
  /-- SET_LAYER (R200). The sequencer command sets SEQ_STATUS.LAYER without motion. -/
  | setLayer (n : Fin 8) (arg : BitVec 8)
  /-- JUMP_WAIT_RELEASE (R202). A jump waiting in WAIT starts once no beam of the station is writing. -/
  | jumpWaitRelease (n : Fin 8)
  /-- SEQUENCE_TIMER_EXPIRY (R203). A sequence's SA_SETTLE, KICK_T, BRAKE_T or JUMP_SETTLE time ends and the next step begins. -/
  | sequenceTimerExpiry (n : Fin 8)
  /-- SEQUENCE_CROSSING (R205). A counted zero crossing or S-curve during a sequence brakes or closes the loop. -/
  | sequenceCrossing (n : Fin 8) (sCurve : Bool) (d : Int)
  /-- FOCUS_SWEEP_END (R204). A focus sweep reaching OUT_MAX with no crossing sweeps back, or fails the acquisition after the second rise. -/
  | focusSweepEnd (n : Fin 8)
  /-- JUMP_TIMEOUT (R207). The closing crossing not reached within JUMP_TIMEOUT fails the jump and opens focus. -/
  | jumpTimeout (n : Fin 8)
  /-- JSP_ARM (R214). JSP_CMD ARM copies the JSP configuration and starts a capture. -/
  | jspArm
  /-- JSP_DISARM (R214). JSP_CMD DISARM stops a capture without setting DONE. -/
  | jspDisarm
  /-- JSP_FORCE (R214). JSP_CMD FORCE triggers an armed capture. -/
  | jspForce
  /-- JSP_CAPTURE_DONE (R214). After POST further samples the capture stops with DONE set. -/
  | jspCaptureDone
  /-- PWM_PERIOD (R224). Each 40 kHz PWM period samples currents and bus voltage, runs the transforms and observer, and modulates the voltage. -/
  | pwmPeriod (n : Fin 8) (ia : Int) (ib : Int) (ic : Int) (vbus : Nat) (va : Int) (vb : Int) (vc : Int)
  /-- PHASE_OVERCURRENT (R226). A phase current at or above I_TRIP gates the bridge off and puts the spindle in FAULT. -/
  | phaseOvercurrent (n : Fin 8) (i : Int)
  /-- ENCODER_UPDATE (R229). At 200 kHz the virtual encoder publishes the extrapolated mechanical rotor angle. -/
  | encoderUpdate (n : Fin 8)
  /-- OBSERVER_VALID (R228). The observer becomes valid after 2 ms of small angle error, which hands a start over to RUN. -/
  | observerValid (n : Fin 8)
  /-- OBSERVER_INVALID (R228). The observer becomes invalid from low speed or persistent error, and a spindle in RUN starts a catch. -/
  | observerInvalid (n : Fin 8)
  /-- SPEED_REF_UPDATE (R231). At 10 kHz the speed reference moves toward the CAV set-point at ACCEL or DECEL. -/
  | speedRefUpdate (n : Fin 8)
  /-- CAV_REGULATION_GAINED (R232). IN_REG becomes 1 after the speed has held within 0.1 % of the set-point for 10 ms. -/
  | cavRegulationGained (n : Fin 8)
  /-- CAV_REGULATION_LOST (R232). IN_REG becomes 0 after 1 ms of speed error beyond 0.5 %. -/
  | cavRegulationLost (n : Fin 8)
  /-- SPIN_MEASURE_END (R235). After 20 ms of measurement the start continues by the measured speed and direction. -/
  | spinMeasureEnd (n : Fin 8)
  /-- SPIN_ALIGN_END (R234). ALIGN_T ends and the open-loop current ramp begins. -/
  | spinAlignEnd (n : Fin 8)
  /-- SPIN_IF_RAMP_END (R234). IF_T ends at IF_SPEED and the wait for a valid observer begins. -/
  | spinIfRampEnd (n : Fin 8)
  /-- SPIN_OBS_TIMEOUT (R234). OBS_T ends with no valid observer, so the bridge goes off for RETRY_WAIT or the spindle enters FAULT START. -/
  | spinObsTimeout (n : Fin 8)
  /-- SPIN_RETRY_END (R234). The 200 ms RETRY_WAIT ends and the start repeats from step 1. -/
  | spinRetryEnd (n : Fin 8)
  /-- SHORT_BRAKE_START (R237). A braking spindle reaching SHORT_SPEED switches on all low-side switches. -/
  | shortBrakeStart (n : Fin 8)
  /-- SHORT_BRAKE_END (R237). SHORT_T ends, the bridge turns off, the spindle is STOPPED and the next loss-braking station begins. -/
  | shortBrakeEnd (n : Fin 8)
  /-- BUS_SAMPLE (R241). At 200 kHz the bus unit samples the bus voltage and chopper current and acts at the thresholds. -/
  | busSample (v : Nat) (i : Nat)
  /-- CHOPPER_FAULT (R242). A chopper judged faulty over its test window sets CHOP_FAULT and braking changes to loss braking. -/
  | chopperFault (cause : Nat)
  /-- CHOPPER_CLEAR (R242). SPN_BUS_CMD CLEAR clears CHOP_FAULT and CHOP_CAUSE. -/
  | chopperClear
  /-- BUS_TRIP (R241). The analogue comparator at 32.0 V gates off every spindle and sled bridge within 1 µs. -/
  | busTrip (v : Nat)
  /-- BUS_TRIP_RELEASE (R243). After the bus has stayed below 27.0 V for 10 ms, bridges re-energise and spindles restart or stop. -/
  | busTripRelease
  /-- SAFE_SPEED_MEASURE (R294). Every 100 ms while the bridges are off, the spindle speed is measured from back-EMF. -/
  | safeSpeedMeasure (n : Fin 8)
  /-- SLED_PROFILE_TICK (R255). At 10 kHz the sled profile advances a move, a stop or a homing step. -/
  | sledProfileTick (n : Fin 8)
  /-- SLED_POSITION_UPDATE (R249). At 200 kHz the commanded sled position, geared where engaged, drives the microstep table address. -/
  | sledPositionUpdate (n : Fin 8)
  /-- SLED_CURRENT_PERIOD (R250). At 40 kHz each sled phase PI regulator samples its current and drives its H-bridge. -/
  | sledCurrentPeriod (n : Fin 8) (iA : Int) (iB : Int)
  /-- SLED_OVERCURRENT (R250). A sled phase current at or above I_FS gates the bridge off and puts the sled in FAULT. -/
  | sledOvercurrent (n : Fin 8) (i : Int)
  /-- SLED_HOLD_CURRENT (R250). After HOLD_DELAY at rest the sled current falls to I_HOLD. -/
  | sledHoldCurrent (n : Fin 8)
  /-- SLD_MOVE (R252). SLD_CMD MOVE moves the sled to SLD_MOVE_TARGET, or arms the move with SYNC. -/
  | sldMove (n : Fin 8) (sync : Bool)
  /-- SLD_STOP (R252). SLD_CMD STOP ramps the sled to rest at DECEL. -/
  | sldStop (n : Fin 8)
  /-- SLD_HALT (R253). SLD_CMD HALT stops the sled at the next 10 kHz tick. -/
  | sldHalt (n : Fin 8)
  /-- SLD_HOME (R268). SLD_CMD HOME runs the homing sequence. -/
  | sldHome (n : Fin 8)
  /-- SLD_ENGAGE (R259). SLD_CMD ENGAGE starts gearing the sled to the spindle angle. -/
  | sldEngage (n : Fin 8)
  /-- SLD_ARM_CHANGE (R262). SLD_CMD ARM_CHANGE latches the next gear ratio and its change position. -/
  | sldArmChange (n : Fin 8)
  /-- SLD_DISENGAGE (R259). SLD_CMD DISENGAGE ends gearing, folding the correction into the position. -/
  | sldDisengage (n : Fin 8)
  /-- SLD_SET_POS (R252). SLD_CMD SET_POS sets the position without motion and marks it referenced. -/
  | sldSetPos (n : Fin 8)
  /-- SLD_RELEASE (R252). SLD_CMD RELEASE turns the sled bridge off. -/
  | sldRelease (n : Fin 8)
  /-- SLD_ENERGISE (R252). SLD_CMD ENERGISE turns the bridge on at the held address. -/
  | sldEnergise (n : Fin 8)
  /-- SLD_CLEAR (R271). SLD_CMD CLEAR clears FAULT_CAUSE before the command in CMD is carried out. -/
  | sldClear (n : Fin 8) (cmd : BitVec 4) (sync : Bool)
  /-- ARMED_MOVE_START (R258). An armed move starts at the first 10 kHz tick at or after SLD_START_TIME. -/
  | armedMoveStart (n : Fin 8)
  /-- SWITCH_QUALIFIED (R264). A HOME or END level stable for QUAL qualifies, which can stop the sled or advance homing. -/
  | switchQualified (n : Fin 8) (endSw : Bool) (level : Bool) (ago : Nat)
  /-- HOME_CHATTER (R265). More than 8 raw switch transitions within 50 ms log HOME_CHATTER. -/
  | homeChatter (n : Fin 8) (endSw : Bool) (k : Nat)
  /-- DISC_PRESENT_QUALIFIED (R277). A qualified change of DISC_PRESENT starts a mount, a release or a fault of the station. -/
  | discPresentQualified (n : Fin 8) (level : Bool) (ago : Nat) (img : List (BitVec 8))
  /-- STATION_MOUNT (R292). The MOUNT order starts loading a present disc. -/
  | stationMount (n : Fin 8) (m : Master) (rivals : List Rival) (img : List (BitVec 8))
  /-- STATION_RELEASE (R290). The RELEASE order releases the disc with mode SHELVE or RETIRE. -/
  | stationRelease (n : Fin 8) (m : Master) (retire : Bool) (rivals : List Rival)
  /-- STATION_PARK (R292). The PARK order moves the station toward IDLE_SPIN or PARKED. -/
  | stationPark (n : Fin 8) (m : Master) (rivals : List Rival)
  /-- STATION_WAKE (R285). The WAKE order returns an idle station to ACTIVE. -/
  | stationWake (n : Fin 8) (m : Master) (rivals : List Rival)
  /-- STATION_OFFLINE (R294). The OFFLINE order releases the disc and takes the station out of service. -/
  | stationOffline (n : Fin 8) (m : Master) (retire : Bool) (rivals : List Rival)
  /-- STATION_ONLINE (R292). The ONLINE order returns an OFFLINE station to EMPTY. -/
  | stationOnline (n : Fin 8) (m : Master) (rivals : List Rival) (img : List (BitVec 8))
  /-- STATION_RESET (R289). The RESET order restarts the station's state machine and clears its suspensions and faults. -/
  | stationReset (n : Fin 8) (m : Master) (rivals : List Rival) (img : List (BitVec 8))
  /-- LOADING_COMPLETE (R276). With the spindle in regulation and the sled referenced at MOUNT_POS, the station enters MOUNTING. -/
  | loadingComplete (n : Fin 8)
  /-- MOUNT_STEP_COMPLETE (R278). A mount step finishes and the next begins, ending in ACTIVE, REJECTED or FAULTED. -/
  | mountStepComplete (n : Fin 8) (i : MountIn)
  /-- ADDRESS_TIMEOUT (R278). No ADIP address accepted within 50 ms makes the station try the next layer, home the sled or declare the disc UNREADABLE. -/
  | addressTimeout (n : Fin 8)
  /-- SPINDLE_STOPPED (R276). The spindle reaching STOPPED completes a park or a release. -/
  | spindleStopped (n : Fin 8)
  /-- T_SPIN_EXPIRY (R284). The T_SPIN idle timer expires, and the station stops its sweep and enters IDLE_SPIN. -/
  | tSpinExpiry (n : Fin 8)
  /-- T_PARK_EXPIRY (R284). The T_PARK idle timer expires, and the station stops the spindle toward PARKED. -/
  | tParkExpiry (n : Fin 8)
  /-- WORK_ARRIVES (R285). Work for an idle station returns it to ACTIVE. -/
  | workArrives (n : Fin 8)
  /-- PICKUP_TEMP_READ (R302). Every 100 ms CAL reads the pickup temperature, or falls back to the port sensor. -/
  | pickupTempRead (n : Fin 8) (v : Option Int)
  /-- CALIBRATION_INTERVAL (R307). INTERVAL minutes since the working layer's newest set raise a deferred calibration. -/
  | calibrationInterval (n : Fin 8)
  /-- CALIBRATION_START (R308). A pending calibration starts once the station is ACTIVE with no work. -/
  | calibrationStart (n : Fin 8)
  /-- CALIBRATION_DEFER_EXPIRY (R308). MAX_DEFER seconds pass, so the calibration runs at the next cluster boundary. -/
  | calibrationDeferExpiry (n : Fin 8)
  /-- CALIBRATION_STEP_COMPLETE (R305). A step of a layer calibration finishes and the next begins, ending with storing and loading the results. -/
  | calibrationStepComplete (n : Fin 8)
  /-- CAL_CALIBRATE (R311). CAL_CMD CALIBRATE raises a calibration of the named layer, deferred or at once. -/
  | calCalibrate (n : Fin 8) (layer : Fin 16) (now : Bool)
  /-- CAL_INVALIDATE (R311). CAL_CMD INVALIDATE marks every set of the station not valid. -/
  | calInvalidate (n : Fin 8)
  /-- DRAM_TRAINING_COMPLETE (R313). A channel's training attempt ends, passing, retraining or failing the buffer. -/
  | dramTrainingComplete (c : Fin 4) (fit : Fitting) (ok : Bool)
  /-- WCK_OSCILLATOR_READ (R314). Every 100 ms the FY8C reads each rank's interval oscillator and adjusts write timing. -/
  | wckOscillatorRead (c : Fin 4) (rank : Fin 2) (count : Nat)
  /-- BUFFER_INIT_DONE (R319). Every codeword has been initialised and INIT_DONE is set. -/
  | bufferInitDone
  /-- SCRUB_READ (R325). The patrol scrubber reads the next codeword and acts on what the code finds. -/
  | scrubRead (x : ScrubIn)
  /-- STRIPE_MAP_UPDATE (R342). Once every member of a stripe is verified or dropped, Garnet enters its map changes through the journal. -/
  | stripeMapUpdate
  /-- ONYX_MISS (R346). An Onyx miss chooses a way to fill and moves the evicted line to the victim cache. -/
  | onyxMiss (bad : Option Nat)
  /-- ONYX_FILL_COMPLETE (R349). A line fill returns and is installed, or is poisoned by a maintenance operation. -/
  | onyxFillComplete (line : Nat)
  /-- ONX_INVALIDATE (R348). ONX_OP_CMD INVALIDATE removes the lines in the range, writing back dirty ones first. -/
  | onxInvalidate
  /-- ONX_CLEAN (R348). ONX_OP_CMD CLEAN writes back dirty lines in the range and keeps them. -/
  | onxClean
  /-- ONX_CLEAN_INVALIDATE (R348). ONX_OP_CMD CLEAN_INVALIDATE acts as INVALIDATE. -/
  | onxCleanInvalidate
  /-- ONX_LOCK (R347). ONX_OP_CMD LOCK locks a way for each line in the range. -/
  | onxLock
  /-- ONX_UNLOCK (R347). ONX_OP_CMD UNLOCK clears the lock tags of the lines in the range. -/
  | onxUnlock
  /-- GROUP_VISIBLE (R353). A closing group whose member commands all completed SUCCESS becomes visible in one core cycle. -/
  | groupVisible (id : Nat)
  /-- CHECKPOINT_INTERVAL (R359). INTERVAL seconds after the previous periodic cut, a periodic checkpoint is taken. -/
  | checkpointInterval
  /-- CHECKPOINT_COMPLETE (R359). All clusters of a checkpoint are verified, its groups become DURABLE, and waiting FLUSH and SEAL commands complete. -/
  | checkpointComplete (seq : Nat)
  /-- GRN_CHECKPOINT (R367). GRN_CKPT_CMD CHECKPOINT takes a delta checkpoint. -/
  | grnCheckpoint
  /-- GRN_BASE (R367). GRN_CKPT_CMD BASE takes a base checkpoint. -/
  | grnBase
  /-- MAP_LOAD_COMPLETE (R362). Loading of the newest complete checkpoint ends and LOADED is set. -/
  | mapLoadComplete (x : MapIn)
  /-- CFGTX_COMMIT (R364). GRN_CFGTX_CMD COMMIT applies the units of the selected groups all or nothing. -/
  | cfgtxCommit
  /-- ADMIN_QUEUE_ENABLE (R369). Setting HQE_AQ_CTRL.EN starts the admin queue pair. -/
  | adminQueueEnable (fn : Fin 256)
  /-- ADMIN_QUEUE_DISABLE (R369). Clearing HQE_AQ_CTRL.EN stops fetching from the admin SQ, and READY clears once admitted commands complete. -/
  | adminQueueDisable (fn : Fin 256)
  /-- SQ_TAIL_DOORBELL (R371). A write of an SQ tail doorbell posts commands, or is ignored as invalid. -/
  | sqTailDoorbell (fn : Fin 256) (q value : Nat)
  /-- CQ_HEAD_DOORBELL (R371). A write of a CQ head doorbell consumes entries, or is ignored as invalid. -/
  | cqHeadDoorbell (fn : Fin 256) (q value : Nat)
  /-- COMMAND_FETCH (R388). The arbiter fetches the next command from an SQ in its order of precedence. -/
  | commandFetch
  /-- COMMAND_ADMISSION (R389). A fetched command is checked, given a tag and admitted at the single serial point. -/
  | commandAdmission (rivals : List Rival)
  /-- CREATE_CQ (R373). The admin command creates a completion queue. -/
  | createCq (tag : Nat)
  /-- CREATE_SQ (R373). The admin command creates a submission queue. -/
  | createSq (tag : Nat)
  /-- DELETE_SQ (R374). The admin command stops an SQ, aborts its abortable commands and deletes it. -/
  | deleteSq (tag : Nat)
  /-- DELETE_CQ (R374). The admin command deletes a CQ that no SQ names. -/
  | deleteCq (tag : Nat)
  /-- ABORT (R394). The admin command looks for a target command and sends it an abort request. -/
  | abort (tag : Nat)
  /-- ABORT_REQUEST_ARRIVAL (R395). The abort request reaches the target's tag state machine, which completes the target ABORTED or with its own status. -/
  | abortRequestArrival (tag : Nat)
  /-- SET_POWER (R401). The admin command enters a host-side power state once commands in flight have completed. -/
  | setPower (tag : Nat)
  /-- STATION_ORDER (R386). The admin command passes a station order to a station's state machine. -/
  | stationOrder (tag : Nat) (rivals : List Rival) (img : List (BitVec 8))
  /-- RETIRE_PAGE (R328). The admin command retires a DRAM page. -/
  | retirePage (tag : Nat)
  /-- WRITE (R380). The I/O command writes blocks of a volume into the buffer under a new version. -/
  | write (tag : Nat)
  /-- WRITE_ACKNOWLEDGE (R391). A write whose data is in the buffer, and confirmed by the partner when paired, is acknowledged at its effective point. -/
  | writeAcknowledge (tag : Nat)
  /-- READ (R381). The I/O command returns the newest visible version of each block. -/
  | read (tag : Nat) (errs : List ReadErr)
  /-- FLUSH (R382). The I/O command completes when a complete checkpoint covers every earlier write of its volume. -/
  | flush (tag : Nat)
  /-- COMMIT_OPEN (R351). The I/O command creates a commit group. -/
  | commitOpen (tag : Nat)
  /-- COMMIT_CLOSE (R352). The I/O command closes a group, completing when it is visible or rolled back. -/
  | commitClose (tag : Nat)
  /-- REEL_OPEN (R383). The I/O command opens a reel on a volume, optionally binding an ingest window. -/
  | reelOpen (tag : Nat)
  /-- REEL_CLOSE (R384). The I/O command closes a reel, unbinds its window and closes its cluster and stripe. -/
  | reelClose (tag : Nat)
  /-- SEAL (R385). The I/O command returns a closed reel's manifest. -/
  | seal (tag : Nat)
  /-- MANIFEST_SIGN (R476). After a reel closes and its last cluster is hashed, TRU builds and signs the manifest and records it as a SEAL cluster. -/
  | manifestSign (serial : Nat)
  /-- COMPLETION_POSTED (R372). A completion entry is written to its CQ once there is room. -/
  | completionPosted (fn : Fin 256) (cq : Nat)
  /-- FUNCTION_LEVEL_RESET (R402). A Function Level Reset discards the function's queues, drops its commands and rolls back its groups. -/
  | functionLevelReset (fn : Fin 256)
  /-- HOT_RESET (R428). A hot or link-down reset resets every function and configuration space. -/
  | hotReset (linkDown : Bool)
  /-- FUNDAMENTAL_RESET (R428). PERST# resets every function, clears CONTAINED and sets GLB_RESET_CAUSE[1]. -/
  | fundamentalReset
  /-- CONFIG_REQUEST (R405). A configuration request is served, or receives CRS until the endpoint is ready. -/
  | configRequest (r : CfgReq)
  /-- VF_ENABLE (R409). Setting or clearing VF Enable enables the VFs, or resets them as by FLR. -/
  | vfEnable (on : Bool)
  /-- SERDES_LANE_FAILURE (R406). A failed PCIe lane retrains the link at a narrower width and logs LINK_DEGRADED. -/
  | serdesLaneFailure (lane : Fin 8)
  /-- INGEST_TLP (R420). A posted write to BAR2 is taken as window data, dropped, or treated as a violation. -/
  | ingestTlp (t : Tlp)
  /-- BAR2_READ (R411). A memory read of BAR2 completes with zero data and no side effect. -/
  | bar2Read (rid len : Nat)
  /-- CREDIT_HOLD_EXPIRY (R422). Credits held for HOLD µs drop the waiting TLP and set REFUSED. -/
  | creditHoldExpiry
  /-- GRACE_INTERVAL_END (R421). The grace interval after a window swap ends and the old map is discarded. -/
  | graceIntervalEnd (w : Fin 256)
  /-- TRANSLATION_COMPLETION (R413). A translation completion fills the ATS cache, or the access is issued untranslated. -/
  | translationCompletion (tag : Nat) (ok : Bool) (phys : Nat) (rd wr : Bool)
  /-- INVALIDATE_REQUEST (R414). An ATS Invalidate Request stops matching entries and is answered once matching requests are done. -/
  | invalidateRequest (fn : Fin 256) (page count itag : Nat)
  /-- DMA_COMPLETION (R423). A completion for an outstanding DMA read arrives, ending the request successfully or with an error. -/
  | dmaCompletion (tag : Nat) (st : CplStatus) (data : List (BitVec 8))
  /-- COMPLETION_TIMEOUT (R423). A non-posted request times out after CPL_TO, and its tag is quarantined. -/
  | completionTimeout (tag : Nat)
  /-- LATE_COMPLETION (R424). A completion for a timed-out tag is discarded and releases the tag. -/
  | lateCompletion (tag : Nat)
  /-- CONTAINMENT_EVENT (R425). A link or protocol error puts the endpoint in CONTAINED and logs LINK_CONTAINED. -/
  | containmentEvent (cause : ContainCause)
  /-- DATA_LINK_UP (R427). The data link comes up again and DL_UP reads 1, with the endpoint still CONTAINED. -/
  | dataLinkUp (speed width lanes : Nat)
  /-- CONTAIN_RELEASE_RESUME (R427). PCX_CONTAIN_CMD RELEASE with RESUME leaves CONTAINED and lets held traffic proceed in order. -/
  | containReleaseResume
  /-- CONTAIN_RELEASE_DISCARD (R427). PCX_CONTAIN_CMD RELEASE with DISCARD resets every function and leaves CONTAINED. -/
  | containReleaseDiscard
  /-- FROZEN_RELEASE_ENTRY (R431). PCX_FROZEN_CMD releases one frozen master. -/
  | frozenReleaseEntry (i : Fin 64)
  /-- FROZEN_RELEASE_ALL (R431). PCX_FROZEN_CMD releases every frozen master. -/
  | frozenReleaseAll
  /-- VECTOR_UNMASK (R432). Unmasking an MSI-X vector with its PBA bit set sends the pending message. -/
  | vectorUnmask (fn : Fin 256) (v : Nat)
  /-- CGL_LINK_UP (R439). When CorgeLink comes up, the partners exchange identity and pair, mismatch or begin a rejoin. -/
  | cglLinkUp (p : PeerId) (lanes : Nat)
  /-- DATA_FLIT (R437). A CorgeLink data flit is received in sequence, carrying mirrored data, map changes or remote reads. -/
  | dataFlit (seq : Nat) (ok : Bool) (body : FlitBody)
  /-- CONTROL_FLIT (R436). A CorgeLink control flit carries acknowledgements, credits, pair state and the time exchange. -/
  | controlFlit (c : Ctl)
  /-- CGL_RETRAIN_COMPLETE (R437). A CorgeLink retraining ends at the widest working width. -/
  | cglRetrainComplete (lanes : Nat)
  /-- DEAD_TIME_EXPIRY (R445). Silence from the partner for DEAD_TIME loses it, and the survivor enters ISOLATED or TAKEN_OVER. -/
  | deadTimeExpiry
  /-- TAKEOVER (R447). CGL_CMD TAKEOVER moves an ISOLATED FY8C to TAKEN_OVER, taking the partner's volumes. -/
  | takeover
  /-- HANDBACK (R449). CGL_CMD HANDBACK starts returning taken-over volumes to their home. -/
  | handback
  /-- LEAVE (R445). CGL_CMD LEAVE announces LEAVE to the partner. -/
  | leave
  /-- HANDBACK_DRAIN_COMPLETE (R449). Once admitted commands on handed-back volumes are confirmed, home moves back in one step. -/
  | handbackDrainComplete
  /-- SYNC_COMPLETE (R448). Rejoin catch-up completes, both partners enter PAIRED and log PAIR_JOINED. -/
  | syncComplete
  /-- PIN_QUALIFIED_EDGE (R451). A qualified GPIO edge carries out the pin's RECORD, STOP or MARK function. -/
  | pinQualifiedEdge (k : Fin 16) (level : Bool) (ago : Nat) (rivals : List Rival)
  /-- LTC_FRAME (R459). A decoded linear timecode frame updates QTZ_TC and the rate measurement. -/
  | ltcFrame (good : Bool) (tc : BitVec 32) (drop : Bool) (period start : Nat)
  /-- TC_VALID_LOSS (R459). Eight frames without a good LTC frame clear TC_VALID. -/
  | tcValidLoss
  /-- RING_MESSAGE (R452). A Dorak ring message is received, checked, forwarded or removed, and taken by its type. -/
  | ringMessage (bytes : List (BitVec 8))
  /-- RING_ACTION_TIME (R455). A START, STOP or MARK action is carried out once at its carried time. -/
  | ringActionTime (rivals : List Rival)
  /-- TIME_SEND (R454). Every 1 ms the time master sends a TIME message. -/
  | timeSend
  /-- RING_REPEAT_SEND (R455). The originator sends each action message three times, 100 µs apart. -/
  | ringRepeatSend
  /-- PAIR_ALIVE_SEND (R455). While paired mode is set, each FY8C sends PAIR_ALIVE every 100 µs. -/
  | pairAliveSend
  /-- DRK_SEND_START (R455). DRK_SEND START sends a START message with the action time of now plus START_LEAD. -/
  | drkSendStart (arg : BitVec 16)
  /-- DRK_SEND_STOP (R455). DRK_SEND STOP sends a STOP message with the action time of now plus START_LEAD. -/
  | drkSendStop (arg : BitVec 16)
  /-- DRK_SEND_MARK (R455). DRK_SEND MARK sends a MARK message with the action time of now plus START_LEAD. -/
  | drkSendMark (arg : BitVec 16)
  /-- RING_IN_LOCK_LOSS (R456). The ring IN port losing lock logs RING_FAULT. -/
  | ringInLockLoss
  /-- TIME_MASTER_RESUME (R462). A stood-down time master sends TIME again after 10 ms with no foreign TIME message. -/
  | timeMasterResume
  /-- QUARTZ_REFERENCE_UPDATE (R457). A new reference measurement makes Quartz slew toward it or step forward. -/
  | quartzReferenceUpdate (o : Int)
  /-- QTZ_SET (R457). A write of QTZ_SET's high word sets a later time at once, or is refused. -/
  | qtzSet (t : BitVec 64)
  /-- TIME_FOLLOWER_CORRECTION (R31). Every 1.024 µs each domain's time follower is corrected from Quartz. -/
  | timeFollowerCorrection (dt : Nat)
  /-- POWER_GOOD (R469). PWRGOOD rising starts Quartz and runs start-up, choosing and verifying the boot slot. -/
  | powerGood
  /-- PWRGOOD_LOW (R504). PWRGOOD low for 100 ns or more holds the FY8C in reset with its outputs safe. -/
  | pwrgoodLow
  /-- WATCHDOG_EXPIRY (R495). A management-core watchdog expiry starts a device reset. -/
  | watchdogExpiry
  /-- FLASH_READ (R478). TRU_FLASH_CMD with CMD READ reads flash into TRU_BUF. -/
  | flashRead (len : BitVec 13)
  /-- FLASH_PROGRAM (R478). TRU_FLASH_CMD with CMD PROGRAM programs up to 4 KiB from TRU_BUF. -/
  | flashProgram (len : BitVec 13)
  /-- FLASH_ERASE (R478). TRU_FLASH_CMD with CMD ERASE erases a 64 KiB sector. -/
  | flashErase (len : BitVec 13)
  /-- FLASH_COMMAND_COMPLETE (R478). A flash command ends and DONE is set. -/
  | flashCommandComplete
  /-- UPDATE_VERIFY (R479). TRU_UPDATE_CMD VERIFY checks the other slot and reports the result. -/
  | updateVerify
  /-- ACTIVATE (R479). TRU_UPDATE_CMD ACTIVATE loads the other slot's boot image into the running cores and starts a trial. -/
  | activate
  /-- TRIAL_EXPIRY (R479). TRIAL clears 10 s after activation. -/
  | trialExpiry
  /-- RESTART (R470). TRU_UPDATE_CMD RESTART performs a device reset. -/
  | restart
  /-- PROVISION (R482). TRU_UPDATE_CMD PROVISION fuses the owner public keys, once only. -/
  | provision
  /-- RAISE_SEC (R482). TRU_UPDATE_CMD RAISE_SEC fuses a higher minimum SEC_VERSION. -/
  | raiseSec
  /-- DOE_DISCOVERY (R472). The DOE Discovery request is answered through the PF mailbox. -/
  | doeDiscovery (index : Nat)
  /-- GET_VERSION (R472). The SPDM request returns the supported versions. -/
  | getVersion
  /-- GET_CAPABILITIES (R472). The SPDM request returns the responder's capabilities. -/
  | getCapabilities
  /-- NEGOTIATE_ALGORITHMS (R472). The SPDM request negotiates the algorithms. -/
  | negotiateAlgorithms (offered : Bool)
  /-- GET_DIGESTS (R472). The SPDM request returns the certificate chain digests. -/
  | getDigests
  /-- GET_CERTIFICATE (R472). The SPDM request returns a certificate chain. -/
  | getCertificate (slot offset len : Nat)
  /-- CHALLENGE (R472). The SPDM request is answered with a doubly signed response. -/
  | challenge (slot : Nat) (transcript : List (BitVec 8))
  /-- GET_MEASUREMENTS (R473). The SPDM request returns the signed measurements. -/
  | getMeasurements (index : Nat) (signed : Bool) (transcript : List (BitVec 8))
  /-- JTAG_TEST_INSTRUCTION (R522). Loading a JTAG test instruction starts a device reset with GLB_RESET_CAUSE[6] set. -/
  | jtagTestInstruction
  /-- JTAG_TEST_EXIT (R522). Leaving the test instructions ends the reset and start-up follows from step 2. -/
  | jtagTestExit
  /-- EVENT_ENTRY (R488). An event reaching the serial point is entered in the log, merged or dropped. -/
  | eventEntry
  /-- EVL_HEAD_WRITE (R491). A write to EVL_HEAD consumes records, re-arms the interrupt, or is ignored with HEAD_BAD set. -/
  | evlHeadWrite (v : BitVec 32)
  /-- CLUSTER_WRITE_END (R291). A beam writes the last channel bit of its cluster, WRITING clears, and the station's waits for a cluster boundary (release, calibration start, speed change, idle entry) proceed. -/
  | clusterWriteEnd (n : Fin 8) (m : Fin 4)
  /-- TAG_QUARANTINE_EXPIRY (R423). A quarantined PCIe tag with no late completion is released after 4 × CPL_TO, and requests waiting for a tag proceed. -/
  | tagQuarantineExpiry (tag : Nat)
  /-- CGL_LANE_LOSS (R437). The loss of a CorgeLink lane starts a retraining at the widest working width, during which mirror confirmations and acknowledgements wait. -/
  | cglLaneLoss (lane : Fin 8)
  /-- SYSTEM_REGION_INIT_DONE (R469). The system region has been written with valid check bits, the retirement list is applied, admin queues run and the stations named in the image are brought up. -/
  | systemRegionInitDone (imgs : List (List (BitVec 8)))
  /-- ONX_OPERATION_END (R348). An Onyx maintenance operation has acted on every line of its range, BUSY clears and DONE is set. -/
  | onxOperationEnd
  /-- UPDATE_COMMAND_COMPLETE (R479). A TRU update command (VERIFY, ACTIVATE, PROVISION or RAISE_SEC) ends, BUSY clears and DONE or FAILED is set, with FW_ACTIVATED logged after the core switch for ACTIVATE. -/
  | updateCommandComplete
deriving DecidableEq, Repr

end Sys2Proof
end

