-- ==== Sys2Proof/Decode.lean ====
section
/-!
DEFINITION. Commands spelled as words. The opcode table gives no row any bits: the commands of the FY8C are register accesses,
TLPs, flits, ring messages, events of the disc and ticks, and none has an encoding of its own in the table. So no word spells a command.
-/

namespace Sys2Proof

/-- The command that a word of the opcode table's bits spells: none, since the table gives no row bits. -/
def decodeTableWord (_nbits _w : Nat) : Option Instr := none

end Sys2Proof
end

