-- ==== Sys2Proof/Machine/RegMap.lean ====
section
/-!
DEFINITION. The names of the registers and of their fields: where each register of PF BAR0 lies (R36, R37 and the register
tables of the chapters) and which bits each field takes (R9). `R.X` is the BAR0 offset of register X, and `R.X_F` is field F
of X. An index after the name is the spec's own (station n, window w, lane l ...). A lane index runs over the 64 station
lanes (8 × station + data m, or 8 × station + 4 + verify m) and then the four spare lanes (64 + k).
-/

namespace Sys2Proof.Machine

/-- A field of a register: the register's BAR0 offset, the field's lowest bit and its width (R9). -/
structure FRef where
  addr : Nat
  lo : Nat
  w : Nat
deriving DecidableEq, Repr

/-- BAR0 offset of Opal lane l (R37): station lanes D0 to D3 and V0 to V3, then the spare lanes. -/
def laneBase (l : Nat) : Nat :=
  if l < 64 then 0x81000 + 0x10000 * (l / 8) + 0x200 * (l % 8) else 0x200000 + 0x200 * (l - 64)

/-- GLB_ID (R56). -/
def R.GLB_ID : Nat := 0x0
def R.GLB_ID_PART : FRef := ⟨R.GLB_ID, 16, 16⟩
def R.GLB_ID_STATIONS : FRef := ⟨R.GLB_ID, 12, 4⟩
def R.GLB_ID_BEAMS : FRef := ⟨R.GLB_ID, 8, 4⟩
def R.GLB_ID_CGL_LANES : FRef := ⟨R.GLB_ID, 4, 4⟩
def R.GLB_ID_DRAM_CH : FRef := ⟨R.GLB_ID, 0, 4⟩
/-- GLB_VERSION (R56). -/
def R.GLB_VERSION : Nat := 0x4
def R.GLB_VERSION_MAJOR : FRef := ⟨R.GLB_VERSION, 8, 8⟩
def R.GLB_VERSION_MINOR : FRef := ⟨R.GLB_VERSION, 0, 8⟩
/-- GLB_UID_LO (R56). -/
def R.GLB_UID_LO : Nat := 0x8
def R.GLB_UID_LO_UID : FRef := ⟨R.GLB_UID_LO, 0, 32⟩
/-- GLB_UID_HI (R56). -/
def R.GLB_UID_HI : Nat := 0xC
def R.GLB_UID_HI_UID : FRef := ⟨R.GLB_UID_HI, 0, 32⟩
/-- GLB_RESET_CAUSE (R56). -/
def R.GLB_RESET_CAUSE : Nat := 0x10
def R.GLB_RESET_CAUSE_TEST : FRef := ⟨R.GLB_RESET_CAUSE, 6, 1⟩
def R.GLB_RESET_CAUSE_MEMORY : FRef := ⟨R.GLB_RESET_CAUSE, 5, 1⟩
def R.GLB_RESET_CAUSE_WATCHDOG : FRef := ⟨R.GLB_RESET_CAUSE, 4, 1⟩
def R.GLB_RESET_CAUSE_THERMAL : FRef := ⟨R.GLB_RESET_CAUSE, 3, 1⟩
def R.GLB_RESET_CAUSE_DEVICE : FRef := ⟨R.GLB_RESET_CAUSE, 2, 1⟩
def R.GLB_RESET_CAUSE_FUNDAMENTAL : FRef := ⟨R.GLB_RESET_CAUSE, 1, 1⟩
def R.GLB_RESET_CAUSE_POWER_ON : FRef := ⟨R.GLB_RESET_CAUSE, 0, 1⟩
/-- GLB_RESET (R56). -/
def R.GLB_RESET : Nat := 0x14
def R.GLB_RESET_KEY : FRef := ⟨R.GLB_RESET, 16, 16⟩
def R.GLB_RESET_DEVICE : FRef := ⟨R.GLB_RESET, 0, 1⟩
/-- GLB_APPLY (R56). -/
def R.GLB_APPLY : Nat := 0x20
def R.GLB_APPLY_GROUP : FRef := ⟨R.GLB_APPLY, 0, 32⟩
/-- GLB_APPLY_BUSY (R56). -/
def R.GLB_APPLY_BUSY : Nat := 0x24
def R.GLB_APPLY_BUSY_GROUP : FRef := ⟨R.GLB_APPLY_BUSY, 0, 32⟩
/-- GLB_AUTO_APPLY (R56). -/
def R.GLB_AUTO_APPLY : Nat := 0x28
def R.GLB_AUTO_APPLY_SLD : FRef := ⟨R.GLB_AUTO_APPLY, 5, 1⟩
def R.GLB_AUTO_APPLY_SPN : FRef := ⟨R.GLB_AUTO_APPLY, 4, 1⟩
def R.GLB_AUTO_APPLY_WRS : FRef := ⟨R.GLB_AUTO_APPLY, 3, 1⟩
def R.GLB_AUTO_APPLY_OPL : FRef := ⟨R.GLB_AUTO_APPLY, 2, 1⟩
def R.GLB_AUTO_APPLY_BRL : FRef := ⟨R.GLB_AUTO_APPLY, 1, 1⟩
def R.GLB_AUTO_APPLY_PCX : FRef := ⟨R.GLB_AUTO_APPLY, 0, 1⟩
/-- GLB_CFGREJ (R56). -/
def R.GLB_CFGREJ : Nat := 0x30
def R.GLB_CFGREJ_VALID : FRef := ⟨R.GLB_CFGREJ, 31, 1⟩
def R.GLB_CFGREJ_OVERRUN : FRef := ⟨R.GLB_CFGREJ, 30, 1⟩
def R.GLB_CFGREJ_GROUP : FRef := ⟨R.GLB_CFGREJ, 24, 5⟩
def R.GLB_CFGREJ_ADDR : FRef := ⟨R.GLB_CFGREJ, 0, 22⟩
/-- GLB_CFGREJ_COUNT (R56). -/
def R.GLB_CFGREJ_COUNT : Nat := 0x34
def R.GLB_CFGREJ_COUNT_COUNT : FRef := ⟨R.GLB_CFGREJ_COUNT, 0, 32⟩
/-- GLB_TEMPk (R56). -/
def R.GLB_TEMP (n : Nat) : Nat := 0x40 + 0x4 * n
def R.GLB_TEMP_VALID (n : Nat) : FRef := ⟨R.GLB_TEMP n, 31, 1⟩
def R.GLB_TEMP_VALUE (n : Nat) : FRef := ⟨R.GLB_TEMP n, 0, 16⟩
/-- GLB_TEMP_STATUS (R56). -/
def R.GLB_TEMP_STATUS : Nat := 0x60
def R.GLB_TEMP_STATUS_CRIT : FRef := ⟨R.GLB_TEMP_STATUS, 1, 1⟩
def R.GLB_TEMP_STATUS_WARN : FRef := ⟨R.GLB_TEMP_STATUS, 0, 1⟩
/-- GLB_TEMP_WARN (R57). -/
def R.GLB_TEMP_WARN : Nat := 0x64
def R.GLB_TEMP_WARN_LEVEL : FRef := ⟨R.GLB_TEMP_WARN, 0, 16⟩
/-- GLB_TEMP_CRIT (R57). -/
def R.GLB_TEMP_CRIT : Nat := 0x68
def R.GLB_TEMP_CRIT_LEVEL : FRef := ⟨R.GLB_TEMP_CRIT, 0, 16⟩
/-- GLB_TEMP_UNIT (R56). -/
def R.GLB_TEMP_UNIT : Nat := 0x6C
def R.GLB_TEMP_UNIT_APPLY_GRP : FRef := ⟨R.GLB_TEMP_UNIT, 0, 5⟩
/-- HQE_UNIT (R403). -/
def R.HQE_UNIT : Nat := 0x10000
def R.HQE_UNIT_APPLY_GRP : FRef := ⟨R.HQE_UNIT, 0, 5⟩
/-- HQE_ARB (R403). -/
def R.HQE_ARB : Nat := 0x10004
def R.HQE_ARB_BURST : FRef := ⟨R.HQE_ARB, 24, 3⟩
def R.HQE_ARB_W_LOW : FRef := ⟨R.HQE_ARB, 16, 8⟩
def R.HQE_ARB_W_MED : FRef := ⟨R.HQE_ARB, 8, 8⟩
def R.HQE_ARB_W_HIGH : FRef := ⟨R.HQE_ARB, 0, 8⟩
/-- HQE_STATUS (R403). -/
def R.HQE_STATUS : Nat := 0x10080
def R.HQE_STATUS_CLOSED : FRef := ⟨R.HQE_STATUS, 3, 1⟩
def R.HQE_STATUS_ENTERING : FRef := ⟨R.HQE_STATUS, 2, 1⟩
def R.HQE_STATUS_POWER : FRef := ⟨R.HQE_STATUS, 0, 2⟩
/-- HQE_TAGS (R403). -/
def R.HQE_TAGS : Nat := 0x10084
def R.HQE_TAGS_FREE : FRef := ⟨R.HQE_TAGS, 0, 15⟩
/-- HQE_QUEUES (R403). -/
def R.HQE_QUEUES : Nat := 0x10088
def R.HQE_QUEUES_FREE : FRef := ⟨R.HQE_QUEUES, 0, 14⟩
/-- HQE_CNT_ADMITTED (R403). -/
def R.HQE_CNT_ADMITTED : Nat := 0x10100
def R.HQE_CNT_ADMITTED_COUNT : FRef := ⟨R.HQE_CNT_ADMITTED, 0, 32⟩
/-- HQE_CNT_HELD (R403). -/
def R.HQE_CNT_HELD : Nat := 0x10104
def R.HQE_CNT_HELD_COUNT : FRef := ⟨R.HQE_CNT_HELD, 0, 32⟩
/-- HQE_CNT_ABORTED (R403). -/
def R.HQE_CNT_ABORTED : Nat := 0x10108
def R.HQE_CNT_ABORTED_COUNT : FRef := ⟨R.HQE_CNT_ABORTED, 0, 32⟩
/-- HQE_CNT_REJECTED (R403). -/
def R.HQE_CNT_REJECTED : Nat := 0x1010C
def R.HQE_CNT_REJECTED_COUNT : FRef := ⟨R.HQE_CNT_REJECTED, 0, 32⟩
/-- HQE_ASQ_LO (R403). -/
def R.HQE_ASQ_LO : Nat := 0x10200
def R.HQE_ASQ_LO_ADDR : FRef := ⟨R.HQE_ASQ_LO, 12, 20⟩
/-- HQE_ASQ_HI (R403). -/
def R.HQE_ASQ_HI : Nat := 0x10204
def R.HQE_ASQ_HI_ADDR : FRef := ⟨R.HQE_ASQ_HI, 0, 32⟩
/-- HQE_ACQ_LO (R403). -/
def R.HQE_ACQ_LO : Nat := 0x10208
def R.HQE_ACQ_LO_ADDR : FRef := ⟨R.HQE_ACQ_LO, 12, 20⟩
/-- HQE_ACQ_HI (R403). -/
def R.HQE_ACQ_HI : Nat := 0x1020C
def R.HQE_ACQ_HI_ADDR : FRef := ⟨R.HQE_ACQ_HI, 0, 32⟩
/-- HQE_AQ_CFG (R403). -/
def R.HQE_AQ_CFG : Nat := 0x10210
def R.HQE_AQ_CFG_ASQS : FRef := ⟨R.HQE_AQ_CFG, 16, 12⟩
def R.HQE_AQ_CFG_ACQS : FRef := ⟨R.HQE_AQ_CFG, 0, 12⟩
/-- HQE_AQ_CTRL (R403). -/
def R.HQE_AQ_CTRL : Nat := 0x10214
def R.HQE_AQ_CTRL_READY : FRef := ⟨R.HQE_AQ_CTRL, 1, 1⟩
def R.HQE_AQ_CTRL_EN : FRef := ⟨R.HQE_AQ_CTRL, 0, 1⟩
/-- HQE_VF_LIMITv (R403). -/
def R.HQE_VF_LIMIT (n : Nat) : Nat := 0x10404 + 0x4 * n
def R.HQE_VF_LIMIT_TAGS (n : Nat) : FRef := ⟨R.HQE_VF_LIMIT n, 16, 15⟩
def R.HQE_VF_LIMIT_QUEUES (n : Nat) : FRef := ⟨R.HQE_VF_LIMIT n, 0, 13⟩
/-- HQE_VOL_UNIT (R403). -/
def R.HQE_VOL_UNIT : Nat := 0x10F00
def R.HQE_VOL_UNIT_APPLY_GRP : FRef := ⟨R.HQE_VOL_UNIT, 0, 5⟩
/-- HQE_VOL_SIZE_LOv (R403). -/
def R.HQE_VOL_SIZE_LO (n : Nat) : Nat := 0x11000 + 0x10 * n
def R.HQE_VOL_SIZE_LO_SIZE (n : Nat) : FRef := ⟨R.HQE_VOL_SIZE_LO n, 0, 32⟩
/-- HQE_VOL_SIZE_HIv (R403). -/
def R.HQE_VOL_SIZE_HI (n : Nat) : Nat := 0x11004 + 0x10 * n
def R.HQE_VOL_SIZE_HI_SIZE (n : Nat) : FRef := ⟨R.HQE_VOL_SIZE_HI n, 0, 32⟩
/-- HQE_VOL_OWNERv (R403). -/
def R.HQE_VOL_OWNER (n : Nat) : Nat := 0x11008 + 0x10 * n
def R.HQE_VOL_OWNER_VF (n : Nat) : FRef := ⟨R.HQE_VOL_OWNER n, 8, 8⟩
def R.HQE_VOL_OWNER_PARTNER (n : Nat) : FRef := ⟨R.HQE_VOL_OWNER n, 4, 1⟩
def R.HQE_VOL_OWNER_VF_EN (n : Nat) : FRef := ⟨R.HQE_VOL_OWNER n, 3, 1⟩
def R.HQE_VOL_OWNER_PF (n : Nat) : FRef := ⟨R.HQE_VOL_OWNER n, 2, 1⟩
def R.HQE_VOL_OWNER_RING (n : Nat) : FRef := ⟨R.HQE_VOL_OWNER n, 1, 1⟩
def R.HQE_VOL_OWNER_PINS (n : Nat) : FRef := ⟨R.HQE_VOL_OWNER n, 0, 1⟩
/-- PCX_UNIT (R434). -/
def R.PCX_UNIT : Nat := 0x20000
def R.PCX_UNIT_APPLY_GRP : FRef := ⟨R.PCX_UNIT, 0, 5⟩
/-- PCX_TIMING (R434). -/
def R.PCX_TIMING : Nat := 0x20004
def R.PCX_TIMING_GRACE : FRef := ⟨R.PCX_TIMING, 16, 10⟩
def R.PCX_TIMING_CPL_TO : FRef := ⟨R.PCX_TIMING, 0, 10⟩
/-- PCX_VIOL (R434). -/
def R.PCX_VIOL : Nat := 0x20008
def R.PCX_VIOL_UR_FREEZE : FRef := ⟨R.PCX_VIOL, 16, 1⟩
def R.PCX_VIOL_DOORBELL_MAX : FRef := ⟨R.PCX_VIOL, 0, 16⟩
/-- PCX_CREDIT (R434). -/
def R.PCX_CREDIT : Nat := 0x2000C
def R.PCX_CREDIT_HOLD : FRef := ⟨R.PCX_CREDIT, 0, 16⟩
/-- PCX_ID (R434). -/
def R.PCX_ID : Nat := 0x20080
def R.PCX_ID_DEVICE : FRef := ⟨R.PCX_ID, 16, 16⟩
def R.PCX_ID_VENDOR : FRef := ⟨R.PCX_ID, 0, 16⟩
/-- PCX_LINK (R434). -/
def R.PCX_LINK : Nat := 0x20084
def R.PCX_LINK_DL_UP : FRef := ⟨R.PCX_LINK, 31, 1⟩
def R.PCX_LINK_SPEED : FRef := ⟨R.PCX_LINK, 16, 4⟩
def R.PCX_LINK_WIDTH : FRef := ⟨R.PCX_LINK, 8, 4⟩
def R.PCX_LINK_LANES_OK : FRef := ⟨R.PCX_LINK, 0, 8⟩
/-- PCX_CONTAIN (R434). -/
def R.PCX_CONTAIN : Nat := 0x20088
def R.PCX_CONTAIN_CONTAINED : FRef := ⟨R.PCX_CONTAIN, 31, 1⟩
def R.PCX_CONTAIN_CAUSE : FRef := ⟨R.PCX_CONTAIN, 0, 4⟩
/-- PCX_CONTAIN_CMD (R434). -/
def R.PCX_CONTAIN_CMD : Nat := 0x2008C
def R.PCX_CONTAIN_CMD_KEY : FRef := ⟨R.PCX_CONTAIN_CMD, 16, 16⟩
def R.PCX_CONTAIN_CMD_CMD : FRef := ⟨R.PCX_CONTAIN_CMD, 0, 2⟩
/-- PCX_FROZEN_STATUS (R434). -/
def R.PCX_FROZEN_STATUS : Nat := 0x20090
def R.PCX_FROZEN_STATUS_OVERFLOW : FRef := ⟨R.PCX_FROZEN_STATUS, 31, 1⟩
def R.PCX_FROZEN_STATUS_COUNT : FRef := ⟨R.PCX_FROZEN_STATUS, 0, 7⟩
/-- PCX_FROZEN_CMD (R434). -/
def R.PCX_FROZEN_CMD : Nat := 0x20094
def R.PCX_FROZEN_CMD_INDEX : FRef := ⟨R.PCX_FROZEN_CMD, 8, 6⟩
def R.PCX_FROZEN_CMD_CMD : FRef := ⟨R.PCX_FROZEN_CMD, 0, 2⟩
/-- PCX_INTX (R434). -/
def R.PCX_INTX : Nat := 0x20098
def R.PCX_INTX_WIRE : FRef := ⟨R.PCX_INTX, 31, 1⟩
def R.PCX_INTX_MASK : FRef := ⟨R.PCX_INTX, 8, 5⟩
def R.PCX_INTX_PENDING : FRef := ⟨R.PCX_INTX, 0, 5⟩
/-- PCX_CNT_UNBOUND (R434). -/
def R.PCX_CNT_UNBOUND : Nat := 0x20100
def R.PCX_CNT_UNBOUND_COUNT : FRef := ⟨R.PCX_CNT_UNBOUND, 0, 32⟩
/-- PCX_CNT_OLD_MAP (R434). -/
def R.PCX_CNT_OLD_MAP : Nat := 0x20104
def R.PCX_CNT_OLD_MAP_COUNT : FRef := ⟨R.PCX_CNT_OLD_MAP, 0, 32⟩
/-- PCX_CNT_VIOLATIONS (R434). -/
def R.PCX_CNT_VIOLATIONS : Nat := 0x20108
def R.PCX_CNT_VIOLATIONS_COUNT : FRef := ⟨R.PCX_CNT_VIOLATIONS, 0, 32⟩
/-- PCX_CNT_TIMEOUTS (R434). -/
def R.PCX_CNT_TIMEOUTS : Nat := 0x2010C
def R.PCX_CNT_TIMEOUTS_COUNT : FRef := ⟨R.PCX_CNT_TIMEOUTS, 0, 32⟩
/-- PCX_CNT_LATE (R434). -/
def R.PCX_CNT_LATE : Nat := 0x20110
def R.PCX_CNT_LATE_COUNT : FRef := ⟨R.PCX_CNT_LATE, 0, 32⟩
/-- PCX_CNT_INVALIDATIONS (R434). -/
def R.PCX_CNT_INVALIDATIONS : Nat := 0x20114
def R.PCX_CNT_INVALIDATIONS_COUNT : FRef := ⟨R.PCX_CNT_INVALIDATIONS, 0, 32⟩
/-- PCX_FROZEN_LISTi (R434). -/
def R.PCX_FROZEN_LIST (n : Nat) : Nat := 0x20200 + 0x4 * n
def R.PCX_FROZEN_LIST_VALID (n : Nat) : FRef := ⟨R.PCX_FROZEN_LIST n, 31, 1⟩
def R.PCX_FROZEN_LIST_KIND (n : Nat) : FRef := ⟨R.PCX_FROZEN_LIST n, 29, 2⟩
def R.PCX_FROZEN_LIST_CAUSE (n : Nat) : FRef := ⟨R.PCX_FROZEN_LIST n, 24, 4⟩
def R.PCX_FROZEN_LIST_ID (n : Nat) : FRef := ⟨R.PCX_FROZEN_LIST n, 0, 16⟩
/-- PCX_WINw_UNIT (R434). -/
def R.PCX_WIN_UNIT (n : Nat) : Nat := 0x22000 + 0x40 * n
def R.PCX_WIN_UNIT_EPOCH (n : Nat) : FRef := ⟨R.PCX_WIN_UNIT n, 8, 8⟩
def R.PCX_WIN_UNIT_APPLY_GRP (n : Nat) : FRef := ⟨R.PCX_WIN_UNIT n, 0, 5⟩
/-- PCX_WINw_CFG (R434). -/
def R.PCX_WIN_CFG (n : Nat) : Nat := 0x22004 + 0x40 * n
def R.PCX_WIN_CFG_EN (n : Nat) : FRef := ⟨R.PCX_WIN_CFG n, 31, 1⟩
def R.PCX_WIN_CFG_OWNER (n : Nat) : FRef := ⟨R.PCX_WIN_CFG n, 23, 8⟩
def R.PCX_WIN_CFG_NOTIFY_GRAN (n : Nat) : FRef := ⟨R.PCX_WIN_CFG n, 19, 4⟩
def R.PCX_WIN_CFG_SIZE (n : Nat) : FRef := ⟨R.PCX_WIN_CFG n, 0, 19⟩
/-- PCX_WINw_BASE (R434). -/
def R.PCX_WIN_BASE (n : Nat) : Nat := 0x22008 + 0x40 * n
def R.PCX_WIN_BASE_BASE (n : Nat) : FRef := ⟨R.PCX_WIN_BASE n, 0, 18⟩
/-- PCX_WINw_RID (R434). -/
def R.PCX_WIN_RID (n : Nat) : Nat := 0x2200C + 0x40 * n
def R.PCX_WIN_RID_MASK (n : Nat) : FRef := ⟨R.PCX_WIN_RID n, 16, 16⟩
def R.PCX_WIN_RID_RID (n : Nat) : FRef := ⟨R.PCX_WIN_RID n, 0, 16⟩
/-- PCX_WINw_NOTIFY_LO (R434). -/
def R.PCX_WIN_NOTIFY_LO (n : Nat) : Nat := 0x22010 + 0x40 * n
def R.PCX_WIN_NOTIFY_LO_ADDR (n : Nat) : FRef := ⟨R.PCX_WIN_NOTIFY_LO n, 0, 32⟩
/-- PCX_WINw_NOTIFY_HI (R434). -/
def R.PCX_WIN_NOTIFY_HI (n : Nat) : Nat := 0x22014 + 0x40 * n
def R.PCX_WIN_NOTIFY_HI_ADDR (n : Nat) : FRef := ⟨R.PCX_WIN_NOTIFY_HI n, 0, 32⟩
/-- PCX_WINw_STATUS (R434). -/
def R.PCX_WIN_STATUS (n : Nat) : Nat := 0x22020 + 0x40 * n
def R.PCX_WIN_STATUS_BOUND (n : Nat) : FRef := ⟨R.PCX_WIN_STATUS n, 31, 1⟩
def R.PCX_WIN_STATUS_OLD_MAP (n : Nat) : FRef := ⟨R.PCX_WIN_STATUS n, 30, 1⟩
def R.PCX_WIN_STATUS_REFUSED (n : Nat) : FRef := ⟨R.PCX_WIN_STATUS n, 29, 1⟩
/-- PCX_WINw_REEL (R434). -/
def R.PCX_WIN_REEL (n : Nat) : Nat := 0x22024 + 0x40 * n
def R.PCX_WIN_REEL_REEL (n : Nat) : FRef := ⟨R.PCX_WIN_REEL n, 0, 32⟩
/-- PCX_WINw_ACK_LO (R434). -/
def R.PCX_WIN_ACK_LO (n : Nat) : Nat := 0x22028 + 0x40 * n
def R.PCX_WIN_ACK_LO_ACK (n : Nat) : FRef := ⟨R.PCX_WIN_ACK_LO n, 0, 32⟩
/-- PCX_WINw_ACK_HI (R434). -/
def R.PCX_WIN_ACK_HI (n : Nat) : Nat := 0x2202C + 0x40 * n
def R.PCX_WIN_ACK_HI_ACK (n : Nat) : FRef := ⟨R.PCX_WIN_ACK_HI n, 0, 32⟩
/-- PCX_MSIX_ADDR_LOv (R434, R432). -/
def R.PCX_MSIX_ADDR_LO (n : Nat) : Nat := 0x30000 + 0x10 * n
def R.PCX_MSIX_ADDR_LO_ADDR_LO (n : Nat) : FRef := ⟨R.PCX_MSIX_ADDR_LO n, 2, 30⟩
/-- PCX_MSIX_ADDR_HIv (R434, R432). -/
def R.PCX_MSIX_ADDR_HI (n : Nat) : Nat := 0x30004 + 0x10 * n
def R.PCX_MSIX_ADDR_HI_ADDR_HI (n : Nat) : FRef := ⟨R.PCX_MSIX_ADDR_HI n, 0, 32⟩
/-- PCX_MSIX_DATAv (R434, R432). -/
def R.PCX_MSIX_DATA (n : Nat) : Nat := 0x30008 + 0x10 * n
def R.PCX_MSIX_DATA_DATA (n : Nat) : FRef := ⟨R.PCX_MSIX_DATA n, 0, 32⟩
/-- PCX_MSIX_CTRLv (R434, R432). -/
def R.PCX_MSIX_CTRL (n : Nat) : Nat := 0x3000C + 0x10 * n
def R.PCX_MSIX_CTRL_MASK (n : Nat) : FRef := ⟨R.PCX_MSIX_CTRL n, 0, 1⟩
/-- PCX_MSIX_PBAi (R434, R432). -/
def R.PCX_MSIX_PBA (n : Nat) : Nat := 0x38000 + 0x4 * n
def R.PCX_MSIX_PBA_PBA (n : Nat) : FRef := ⟨R.PCX_MSIX_PBA n, 0, 32⟩
/-- BUF_UNIT (R332). -/
def R.BUF_UNIT : Nat := 0x40000
def R.BUF_UNIT_APPLY_GRP : FRef := ⟨R.BUF_UNIT, 0, 5⟩
/-- BUF_SCRUB (R332). -/
def R.BUF_SCRUB : Nat := 0x40004
def R.BUF_SCRUB_EN : FRef := ⟨R.BUF_SCRUB, 31, 1⟩
def R.BUF_SCRUB_PERIOD : FRef := ⟨R.BUF_SCRUB, 0, 16⟩
/-- BUF_RETIRE_ADV (R332). -/
def R.BUF_RETIRE_ADV : Nat := 0x40008
def R.BUF_RETIRE_ADV_CE_THRESH : FRef := ⟨R.BUF_RETIRE_ADV, 0, 8⟩
/-- BUF_STATUS (R332). -/
def R.BUF_STATUS : Nat := 0x40080
def R.BUF_STATUS_TRAIN_FAIL : FRef := ⟨R.BUF_STATUS, 4, 4⟩
def R.BUF_STATUS_SCRUB_BUSY : FRef := ⟨R.BUF_STATUS, 1, 1⟩
def R.BUF_STATUS_INIT_DONE : FRef := ⟨R.BUF_STATUS, 0, 1⟩
/-- BUF_CONFIG (R332). -/
def R.BUF_CONFIG : Nat := 0x40084
def R.BUF_CONFIG_FITTED : FRef := ⟨R.BUF_CONFIG, 16, 16⟩
def R.BUF_CONFIG_DENSITY : FRef := ⟨R.BUF_CONFIG, 4, 4⟩
def R.BUF_CONFIG_RANKS : FRef := ⟨R.BUF_CONFIG, 1, 1⟩
def R.BUF_CONFIG_BYTE_MODE : FRef := ⟨R.BUF_CONFIG, 0, 1⟩
/-- BUF_POOL_TOTAL (R332). -/
def R.BUF_POOL_TOTAL : Nat := 0x40088
def R.BUF_POOL_TOTAL_PAGES : FRef := ⟨R.BUF_POOL_TOTAL, 0, 25⟩
/-- BUF_POOL_FREE (R332). -/
def R.BUF_POOL_FREE : Nat := 0x4008C
def R.BUF_POOL_FREE_PAGES : FRef := ⟨R.BUF_POOL_FREE, 0, 25⟩
/-- BUF_RETIRED (R332). -/
def R.BUF_RETIRED : Nat := 0x40090
def R.BUF_RETIRED_COUNT : FRef := ⟨R.BUF_RETIRED, 0, 13⟩
/-- BUF_SCRUB_POS (R332). -/
def R.BUF_SCRUB_POS : Nat := 0x40094
def R.BUF_SCRUB_POS_ADDR : FRef := ⟨R.BUF_SCRUB_POS, 0, 32⟩
/-- BUF_SCRUB_PASSES (R332). -/
def R.BUF_SCRUB_PASSES : Nat := 0x40098
def R.BUF_SCRUB_PASSES_PASSES : FRef := ⟨R.BUF_SCRUB_PASSES, 0, 32⟩
/-- BUF_CNT_CE (R332). -/
def R.BUF_CNT_CE : Nat := 0x40100
def R.BUF_CNT_CE_COUNT : FRef := ⟨R.BUF_CNT_CE, 0, 32⟩
/-- BUF_CNT_UE (R332). -/
def R.BUF_CNT_UE : Nat := 0x40104
def R.BUF_CNT_UE_COUNT : FRef := ⟨R.BUF_CNT_UE, 0, 32⟩
/-- BUF_CNT_SRAM_MENDED (R332). -/
def R.BUF_CNT_SRAM_MENDED : Nat := 0x40108
def R.BUF_CNT_SRAM_MENDED_COUNT : FRef := ⟨R.BUF_CNT_SRAM_MENDED, 0, 32⟩
/-- BUF_CNT_SRAM_UE (R332). -/
def R.BUF_CNT_SRAM_UE : Nat := 0x4010C
def R.BUF_CNT_SRAM_UE_COUNT : FRef := ⟨R.BUF_CNT_SRAM_UE, 0, 32⟩
/-- ONX_UNIT (R366). -/
def R.ONX_UNIT : Nat := 0x50000
def R.ONX_UNIT_APPLY_GRP : FRef := ⟨R.ONX_UNIT, 0, 5⟩
/-- ONX_CTRL (R366). -/
def R.ONX_CTRL : Nat := 0x50004
def R.ONX_CTRL_VICTIM_EN : FRef := ⟨R.ONX_CTRL, 1, 1⟩
def R.ONX_CTRL_REPL : FRef := ⟨R.ONX_CTRL, 0, 1⟩
/-- ONX_OP_FIRST (R366). -/
def R.ONX_OP_FIRST : Nat := 0x50080
def R.ONX_OP_FIRST_ENTRY : FRef := ⟨R.ONX_OP_FIRST, 0, 20⟩
/-- ONX_OP_COUNT (R366). -/
def R.ONX_OP_COUNT : Nat := 0x50084
def R.ONX_OP_COUNT_COUNT : FRef := ⟨R.ONX_OP_COUNT, 0, 21⟩
/-- ONX_OP_CMD (R366). -/
def R.ONX_OP_CMD : Nat := 0x50088
def R.ONX_OP_CMD_CMD : FRef := ⟨R.ONX_OP_CMD, 0, 3⟩
/-- ONX_OP_STATUS (R366). -/
def R.ONX_OP_STATUS : Nat := 0x5008C
def R.ONX_OP_STATUS_LOCK_FULL : FRef := ⟨R.ONX_OP_STATUS, 3, 1⟩
def R.ONX_OP_STATUS_REFUSED : FRef := ⟨R.ONX_OP_STATUS, 2, 1⟩
def R.ONX_OP_STATUS_DONE : FRef := ⟨R.ONX_OP_STATUS, 1, 1⟩
def R.ONX_OP_STATUS_BUSY : FRef := ⟨R.ONX_OP_STATUS, 0, 1⟩
/-- ONX_STATUS (R366). -/
def R.ONX_STATUS : Nat := 0x50090
def R.ONX_STATUS_DIRTY : FRef := ⟨R.ONX_STATUS, 16, 16⟩
def R.ONX_STATUS_LOCKED : FRef := ⟨R.ONX_STATUS, 0, 16⟩
/-- ONX_CNT_HITS (R366). -/
def R.ONX_CNT_HITS : Nat := 0x50100
def R.ONX_CNT_HITS_COUNT : FRef := ⟨R.ONX_CNT_HITS, 0, 32⟩
/-- ONX_CNT_MISSES (R366). -/
def R.ONX_CNT_MISSES : Nat := 0x50104
def R.ONX_CNT_MISSES_COUNT : FRef := ⟨R.ONX_CNT_MISSES, 0, 32⟩
/-- ONX_CNT_VICTIM_HITS (R366). -/
def R.ONX_CNT_VICTIM_HITS : Nat := 0x50108
def R.ONX_CNT_VICTIM_HITS_COUNT : FRef := ⟨R.ONX_CNT_VICTIM_HITS, 0, 32⟩
/-- ONX_CNT_WRITEBACKS (R366). -/
def R.ONX_CNT_WRITEBACKS : Nat := 0x5010C
def R.ONX_CNT_WRITEBACKS_COUNT : FRef := ⟨R.ONX_CNT_WRITEBACKS, 0, 32⟩
/-- ONX_CNT_PARITY_CLEAN (R366). -/
def R.ONX_CNT_PARITY_CLEAN : Nat := 0x50110
def R.ONX_CNT_PARITY_CLEAN_COUNT : FRef := ⟨R.ONX_CNT_PARITY_CLEAN, 0, 32⟩
/-- ONX_CNT_PARITY_DIRTY (R366). -/
def R.ONX_CNT_PARITY_DIRTY : Nat := 0x50114
def R.ONX_CNT_PARITY_DIRTY_COUNT : FRef := ⟨R.ONX_CNT_PARITY_DIRTY, 0, 32⟩
/-- ONX_CNT_POISONED (R366). -/
def R.ONX_CNT_POISONED : Nat := 0x50118
def R.ONX_CNT_POISONED_COUNT : FRef := ⟨R.ONX_CNT_POISONED, 0, 32⟩
/-- GRN_UNIT (R367). -/
def R.GRN_UNIT : Nat := 0x60000
def R.GRN_UNIT_APPLY_GRP : FRef := ⟨R.GRN_UNIT, 0, 5⟩
/-- GRN_MAP_CTRL (R367). -/
def R.GRN_MAP_CTRL : Nat := 0x60004
def R.GRN_MAP_CTRL_RESERVE : FRef := ⟨R.GRN_MAP_CTRL, 0, 20⟩
/-- GRN_CKPT_CTRL (R367). -/
def R.GRN_CKPT_CTRL : Nat := 0x60008
def R.GRN_CKPT_CTRL_BASE_EVERY : FRef := ⟨R.GRN_CKPT_CTRL, 16, 8⟩
def R.GRN_CKPT_CTRL_INTERVAL : FRef := ⟨R.GRN_CKPT_CTRL, 0, 16⟩
/-- GRN_STATUS (R367). -/
def R.GRN_STATUS : Nat := 0x60080
def R.GRN_STATUS_JOURNAL_FULL : FRef := ⟨R.GRN_STATUS, 2, 1⟩
def R.GRN_STATUS_MAP_LOW : FRef := ⟨R.GRN_STATUS, 1, 1⟩
def R.GRN_STATUS_LOADED : FRef := ⟨R.GRN_STATUS, 0, 1⟩
/-- GRN_MAP_FREE (R367). -/
def R.GRN_MAP_FREE : Nat := 0x60084
def R.GRN_MAP_FREE_COUNT : FRef := ⟨R.GRN_MAP_FREE, 0, 21⟩
/-- GRN_GROUPS_OPEN (R367). -/
def R.GRN_GROUPS_OPEN : Nat := 0x60088
def R.GRN_GROUPS_OPEN_COUNT : FRef := ⟨R.GRN_GROUPS_OPEN, 0, 13⟩
/-- GRN_JOURNAL_USED (R367). -/
def R.GRN_JOURNAL_USED : Nat := 0x6008C
def R.GRN_JOURNAL_USED_RECORDS : FRef := ⟨R.GRN_JOURNAL_USED, 0, 20⟩
/-- GRN_CKPT_SEQ_LO (R367). -/
def R.GRN_CKPT_SEQ_LO : Nat := 0x60090
def R.GRN_CKPT_SEQ_LO_SEQ : FRef := ⟨R.GRN_CKPT_SEQ_LO, 0, 32⟩
/-- GRN_CKPT_SEQ_HI (R367). -/
def R.GRN_CKPT_SEQ_HI : Nat := 0x60094
def R.GRN_CKPT_SEQ_HI_SEQ : FRef := ⟨R.GRN_CKPT_SEQ_HI, 0, 32⟩
/-- GRN_CKPT_CMD (R367). -/
def R.GRN_CKPT_CMD : Nat := 0x60098
def R.GRN_CKPT_CMD_CMD : FRef := ⟨R.GRN_CKPT_CMD, 0, 2⟩
/-- GRN_CFGTX_CMD (R367). -/
def R.GRN_CFGTX_CMD : Nat := 0x600A0
def R.GRN_CFGTX_CMD_COMMIT : FRef := ⟨R.GRN_CFGTX_CMD, 0, 1⟩
/-- GRN_CFGTX_GROUPS (R367). -/
def R.GRN_CFGTX_GROUPS : Nat := 0x600A4
def R.GRN_CFGTX_GROUPS_GROUP : FRef := ⟨R.GRN_CFGTX_GROUPS, 0, 32⟩
/-- GRN_CFGTX_STATUS (R367). -/
def R.GRN_CFGTX_STATUS : Nat := 0x600A8
def R.GRN_CFGTX_STATUS_SETS : FRef := ⟨R.GRN_CFGTX_STATUS, 16, 16⟩
def R.GRN_CFGTX_STATUS_REJECTED : FRef := ⟨R.GRN_CFGTX_STATUS, 2, 1⟩
def R.GRN_CFGTX_STATUS_DONE : FRef := ⟨R.GRN_CFGTX_STATUS, 1, 1⟩
def R.GRN_CFGTX_STATUS_BUSY : FRef := ⟨R.GRN_CFGTX_STATUS, 0, 1⟩
/-- GRN_CNT_VISIBLE (R367). -/
def R.GRN_CNT_VISIBLE : Nat := 0x60100
def R.GRN_CNT_VISIBLE_COUNT : FRef := ⟨R.GRN_CNT_VISIBLE, 0, 32⟩
/-- GRN_CNT_ROLLED_BACK (R367). -/
def R.GRN_CNT_ROLLED_BACK : Nat := 0x60104
def R.GRN_CNT_ROLLED_BACK_COUNT : FRef := ⟨R.GRN_CNT_ROLLED_BACK, 0, 32⟩
/-- GRN_CNT_CHECKPOINTS (R367). -/
def R.GRN_CNT_CHECKPOINTS : Nat := 0x60108
def R.GRN_CNT_CHECKPOINTS_COUNT : FRef := ⟨R.GRN_CNT_CHECKPOINTS, 0, 32⟩
/-- GRN_CNT_CHANGES (R367). -/
def R.GRN_CNT_CHANGES : Nat := 0x6010C
def R.GRN_CNT_CHANGES_COUNT : FRef := ⟨R.GRN_CNT_CHANGES, 0, 32⟩
/-- TPZ_UNIT (R152). -/
def R.TPZ_UNIT : Nat := 0x70000
def R.TPZ_UNIT_APPLY_GRP : FRef := ⟨R.TPZ_UNIT, 0, 5⟩
/-- TPZ_GEOMETRY (R152). -/
def R.TPZ_GEOMETRY : Nat := 0x70004
def R.TPZ_GEOMETRY_GEOM : FRef := ⟨R.TPZ_GEOMETRY, 0, 1⟩
/-- TPZ_STRIPE_CTRL (R152). -/
def R.TPZ_STRIPE_CTRL : Nat := 0x70008
def R.TPZ_STRIPE_CTRL_IDLE_CLOSE : FRef := ⟨R.TPZ_STRIPE_CTRL, 0, 16⟩
/-- TPZ_DEC_CTRL (R152). -/
def R.TPZ_DEC_CTRL : Nat := 0x7000C
def R.TPZ_DEC_CTRL_ROUNDS : FRef := ⟨R.TPZ_DEC_CTRL, 8, 2⟩
def R.TPZ_DEC_CTRL_INNER_T : FRef := ⟨R.TPZ_DEC_CTRL, 0, 4⟩
/-- TPZ_SWEEP_CTRL (R152). -/
def R.TPZ_SWEEP_CTRL : Nat := 0x70010
def R.TPZ_SWEEP_CTRL_EN : FRef := ⟨R.TPZ_SWEEP_CTRL, 24, 1⟩
def R.TPZ_SWEEP_CTRL_RELOC_ROWS : FRef := ⟨R.TPZ_SWEEP_CTRL, 16, 5⟩
def R.TPZ_SWEEP_CTRL_PACE : FRef := ⟨R.TPZ_SWEEP_CTRL, 0, 16⟩
/-- TPZ_STATUS (R152). -/
def R.TPZ_STATUS : Nat := 0x70080
def R.TPZ_STATUS_UNAVAIL : FRef := ⟨R.TPZ_STATUS, 8, 8⟩
def R.TPZ_STATUS_NARROW : FRef := ⟨R.TPZ_STATUS, 2, 1⟩
def R.TPZ_STATUS_REBUILDING : FRef := ⟨R.TPZ_STATUS, 1, 1⟩
def R.TPZ_STATUS_STALLED : FRef := ⟨R.TPZ_STATUS, 0, 1⟩
/-- TPZ_SERIAL_LO (R152). -/
def R.TPZ_SERIAL_LO : Nat := 0x70088
def R.TPZ_SERIAL_LO_SERIAL : FRef := ⟨R.TPZ_SERIAL_LO, 0, 32⟩
/-- TPZ_SERIAL_HI (R152). -/
def R.TPZ_SERIAL_HI : Nat := 0x7008C
def R.TPZ_SERIAL_HI_SERIAL : FRef := ⟨R.TPZ_SERIAL_HI, 0, 32⟩
/-- TPZ_DEGRADED (R152). -/
def R.TPZ_DEGRADED : Nat := 0x70090
def R.TPZ_DEGRADED_COUNT : FRef := ⟨R.TPZ_DEGRADED, 0, 32⟩
/-- TPZ_SWEEP_POSn (R152). -/
def R.TPZ_SWEEP_POS (n : Nat) : Nat := 0x700C0 + 0x4 * n
def R.TPZ_SWEEP_POS_PCA (n : Nat) : FRef := ⟨R.TPZ_SWEEP_POS n, 0, 32⟩
/-- TPZ_SWEEP_PASSn (R152). -/
def R.TPZ_SWEEP_PASS (n : Nat) : Nat := 0x700E0 + 0x4 * n
def R.TPZ_SWEEP_PASS_PASSES (n : Nat) : FRef := ⟨R.TPZ_SWEEP_PASS n, 0, 32⟩
/-- TPZ_CNT_DECODED (R153). -/
def R.TPZ_CNT_DECODED : Nat := 0x70100
def R.TPZ_CNT_DECODED_COUNT : FRef := ⟨R.TPZ_CNT_DECODED, 0, 32⟩
/-- TPZ_CNT_INNER_CORR (R153). -/
def R.TPZ_CNT_INNER_CORR : Nat := 0x70104
def R.TPZ_CNT_INNER_CORR_COUNT : FRef := ⟨R.TPZ_CNT_INNER_CORR, 0, 32⟩
/-- TPZ_CNT_ROWS_FAILED (R153). -/
def R.TPZ_CNT_ROWS_FAILED : Nat := 0x70108
def R.TPZ_CNT_ROWS_FAILED_COUNT : FRef := ⟨R.TPZ_CNT_ROWS_FAILED, 0, 32⟩
/-- TPZ_CNT_OUTER_CORR (R153). -/
def R.TPZ_CNT_OUTER_CORR : Nat := 0x7010C
def R.TPZ_CNT_OUTER_CORR_COUNT : FRef := ⟨R.TPZ_CNT_OUTER_CORR, 0, 32⟩
/-- TPZ_CNT_UNRECOVERED (R153). -/
def R.TPZ_CNT_UNRECOVERED : Nat := 0x70110
def R.TPZ_CNT_UNRECOVERED_COUNT : FRef := ⟨R.TPZ_CNT_UNRECOVERED, 0, 32⟩
/-- TPZ_CNT_RECONSTRUCTED (R153). -/
def R.TPZ_CNT_RECONSTRUCTED : Nat := 0x70114
def R.TPZ_CNT_RECONSTRUCTED_COUNT : FRef := ⟨R.TPZ_CNT_RECONSTRUCTED, 0, 32⟩
/-- TPZ_CNT_RELOCATED (R153). -/
def R.TPZ_CNT_RELOCATED : Nat := 0x70118
def R.TPZ_CNT_RELOCATED_COUNT : FRef := ⟨R.TPZ_CNT_RELOCATED, 0, 32⟩
/-- TPZ_CNT_RANGE_LOST (R153). -/
def R.TPZ_CNT_RANGE_LOST : Nat := 0x7011C
def R.TPZ_CNT_RANGE_LOST_COUNT : FRef := ⟨R.TPZ_CNT_RANGE_LOST, 0, 32⟩
/-- STN_UNIT (R296). -/
def R.STN_UNIT (n : Nat) : Nat := 0x80000 + 0x10000 * n
def R.STN_UNIT_APPLY_GRP (n : Nat) : FRef := ⟨R.STN_UNIT n, 0, 5⟩
/-- STN_CFG (R296). -/
def R.STN_CFG (n : Nat) : Nat := 0x80004 + 0x10000 * n
def R.STN_CFG_RECOVER_WINDOW (n : Nat) : FRef := ⟨R.STN_CFG n, 16, 8⟩
def R.STN_CFG_RECOVER_MAX (n : Nat) : FRef := ⟨R.STN_CFG n, 8, 4⟩
def R.STN_CFG_SPEED (n : Nat) : FRef := ⟨R.STN_CFG n, 2, 2⟩
def R.STN_CFG_REF_MODE (n : Nat) : FRef := ⟨R.STN_CFG n, 1, 1⟩
def R.STN_CFG_AUTO_MOUNT (n : Nat) : FRef := ⟨R.STN_CFG n, 0, 1⟩
/-- STN_IDLE (R296). -/
def R.STN_IDLE (n : Nat) : Nat := 0x80008 + 0x10000 * n
def R.STN_IDLE_T_PARK (n : Nat) : FRef := ⟨R.STN_IDLE n, 16, 16⟩
def R.STN_IDLE_T_SPIN (n : Nat) : FRef := ⟨R.STN_IDLE n, 0, 16⟩
/-- STN_MOUNT (R296). -/
def R.STN_MOUNT (n : Nat) : Nat := 0x8000C + 0x10000 * n
def R.STN_MOUNT_DISC_QUAL (n : Nat) : FRef := ⟨R.STN_MOUNT n, 22, 10⟩
def R.STN_MOUNT_MOUNT_POS (n : Nat) : FRef := ⟨R.STN_MOUNT n, 0, 20⟩
/-- STN_STATUS (R296). -/
def R.STN_STATUS (n : Nat) : Nat := 0x80080 + 0x10000 * n
def R.STN_STATUS_LAST_FAULT (n : Nat) : FRef := ⟨R.STN_STATUS n, 20, 4⟩
def R.STN_STATUS_SAFE (n : Nat) : FRef := ⟨R.STN_STATUS n, 19, 1⟩
def R.STN_STATUS_AVAILABLE (n : Nat) : FRef := ⟨R.STN_STATUS n, 18, 1⟩
def R.STN_STATUS_DISC_PRESENT (n : Nat) : FRef := ⟨R.STN_STATUS n, 17, 1⟩
def R.STN_STATUS_WORK (n : Nat) : FRef := ⟨R.STN_STATUS n, 16, 1⟩
def R.STN_STATUS_DISC_KIND (n : Nat) : FRef := ⟨R.STN_STATUS n, 12, 3⟩
def R.STN_STATUS_MOUNT_PHASE (n : Nat) : FRef := ⟨R.STN_STATUS n, 8, 4⟩
def R.STN_STATUS_STATE (n : Nat) : FRef := ⟨R.STN_STATUS n, 0, 4⟩
/-- STN_LATENCY (R296). -/
def R.STN_LATENCY (n : Nat) : Nat := 0x80084 + 0x10000 * n
def R.STN_LATENCY_PARKED_EXIT (n : Nat) : FRef := ⟨R.STN_LATENCY n, 16, 16⟩
def R.STN_LATENCY_IDLE_SPIN_EXIT (n : Nat) : FRef := ⟨R.STN_LATENCY n, 0, 16⟩
/-- STN_DISC_ID_LO (R296). -/
def R.STN_DISC_ID_LO (n : Nat) : Nat := 0x80088 + 0x10000 * n
def R.STN_DISC_ID_LO_DISC_ID (n : Nat) : FRef := ⟨R.STN_DISC_ID_LO n, 0, 32⟩
/-- STN_DISC_ID_HI (R296). -/
def R.STN_DISC_ID_HI (n : Nat) : Nat := 0x8008C + 0x10000 * n
def R.STN_DISC_ID_HI_DISC_ID (n : Nat) : FRef := ⟨R.STN_DISC_ID_HI n, 0, 32⟩
/-- STN_OWNER (R296). -/
def R.STN_OWNER (n : Nat) : Nat := 0x800A0 + 0x10000 * n
def R.STN_OWNER_VF (n : Nat) : FRef := ⟨R.STN_OWNER n, 8, 8⟩
def R.STN_OWNER_PARTNER (n : Nat) : FRef := ⟨R.STN_OWNER n, 4, 1⟩
def R.STN_OWNER_VF_EN (n : Nat) : FRef := ⟨R.STN_OWNER n, 3, 1⟩
def R.STN_OWNER_PF (n : Nat) : FRef := ⟨R.STN_OWNER n, 2, 1⟩
def R.STN_OWNER_RING (n : Nat) : FRef := ⟨R.STN_OWNER n, 1, 1⟩
def R.STN_OWNER_PINS (n : Nat) : FRef := ⟨R.STN_OWNER n, 0, 1⟩
/-- STN_CMD (R296). -/
def R.STN_CMD (n : Nat) : Nat := 0x800A4 + 0x10000 * n
def R.STN_CMD_MODE (n : Nat) : FRef := ⟨R.STN_CMD n, 8, 1⟩
def R.STN_CMD_CMD (n : Nat) : FRef := ⟨R.STN_CMD n, 0, 4⟩
/-- STN_CMD_RESULT (R296). -/
def R.STN_CMD_RESULT (n : Nat) : Nat := 0x800A8 + 0x10000 * n
def R.STN_CMD_RESULT_SEQ (n : Nat) : FRef := ⟨R.STN_CMD_RESULT n, 8, 8⟩
def R.STN_CMD_RESULT_MASTER (n : Nat) : FRef := ⟨R.STN_CMD_RESULT n, 4, 3⟩
def R.STN_CMD_RESULT_RESULT (n : Nat) : FRef := ⟨R.STN_CMD_RESULT n, 0, 4⟩
/-- STN_CNT_MOUNTS (R296). -/
def R.STN_CNT_MOUNTS (n : Nat) : Nat := 0x80100 + 0x10000 * n
def R.STN_CNT_MOUNTS_COUNT (n : Nat) : FRef := ⟨R.STN_CNT_MOUNTS n, 0, 32⟩
/-- STN_CNT_WAKES (R296). -/
def R.STN_CNT_WAKES (n : Nat) : Nat := 0x80104 + 0x10000 * n
def R.STN_CNT_WAKES_COUNT (n : Nat) : FRef := ⟨R.STN_CNT_WAKES n, 0, 32⟩
/-- STN_CNT_RECOVERIES (R296). -/
def R.STN_CNT_RECOVERIES (n : Nat) : Nat := 0x80108 + 0x10000 * n
def R.STN_CNT_RECOVERIES_COUNT (n : Nat) : FRef := ⟨R.STN_CNT_RECOVERIES n, 0, 32⟩
/-- STN_CNT_FAULTS (R296). -/
def R.STN_CNT_FAULTS (n : Nat) : Nat := 0x8010C + 0x10000 * n
def R.STN_CNT_FAULTS_COUNT (n : Nat) : FRef := ⟨R.STN_CNT_FAULTS n, 0, 32⟩
/-- OPL_UNIT (R121). -/
def R.OPL_UNIT (l : Nat) : Nat := laneBase l
def R.OPL_UNIT_SPARE (l : Nat) : FRef := ⟨R.OPL_UNIT l, 31, 1⟩
def R.OPL_UNIT_STATION (l : Nat) : FRef := ⟨R.OPL_UNIT l, 28, 3⟩
def R.OPL_UNIT_VERIFY (l : Nat) : FRef := ⟨R.OPL_UNIT l, 27, 1⟩
def R.OPL_UNIT_INDEX (l : Nat) : FRef := ⟨R.OPL_UNIT l, 24, 3⟩
def R.OPL_UNIT_APPLY_GRP (l : Nat) : FRef := ⟨R.OPL_UNIT l, 0, 5⟩
/-- OPL_MODE (R121). -/
def R.OPL_MODE (l : Nat) : Nat := laneBase l + 0x4
def R.OPL_MODE_BLR_BW (l : Nat) : FRef := ⟨R.OPL_MODE l, 8, 2⟩
def R.OPL_MODE_TARGET (l : Nat) : FRef := ⟨R.OPL_MODE l, 4, 3⟩
def R.OPL_MODE_MODE (l : Nat) : FRef := ⟨R.OPL_MODE l, 0, 2⟩
/-- OPL_AFE (R121). -/
def R.OPL_AFE (l : Nat) : Nat := laneBase l + 0x8
def R.OPL_AFE_AGC_TARGET (l : Nat) : FRef := ⟨R.OPL_AFE l, 16, 8⟩
def R.OPL_AFE_LPF (l : Nat) : FRef := ⟨R.OPL_AFE l, 14, 2⟩
def R.OPL_AFE_HPF (l : Nat) : FRef := ⟨R.OPL_AFE l, 12, 2⟩
def R.OPL_AFE_AGC_BW (l : Nat) : FRef := ⟨R.OPL_AFE l, 10, 2⟩
def R.OPL_AFE_AGC_EN (l : Nat) : FRef := ⟨R.OPL_AFE l, 8, 1⟩
def R.OPL_AFE_GAIN_INIT (l : Nat) : FRef := ⟨R.OPL_AFE l, 0, 8⟩
/-- OPL_TR (R121). -/
def R.OPL_TR (l : Nat) : Nat := laneBase l + 0xC
def R.OPL_TR_CLAMP (l : Nat) : FRef := ⟨R.OPL_TR l, 24, 2⟩
def R.OPL_TR_KI_EXP (l : Nat) : FRef := ⟨R.OPL_TR l, 16, 4⟩
def R.OPL_TR_KP_EXP (l : Nat) : FRef := ⟨R.OPL_TR l, 8, 4⟩
def R.OPL_TR_SEED_SRC (l : Nat) : FRef := ⟨R.OPL_TR l, 0, 1⟩
/-- OPL_TR_PERIOD (R121). -/
def R.OPL_TR_PERIOD (l : Nat) : Nat := laneBase l + 0x10
def R.OPL_TR_PERIOD_PERIOD (l : Nat) : FRef := ⟨R.OPL_TR_PERIOD l, 0, 24⟩
/-- OPL_EQ_CTRL (R121). -/
def R.OPL_EQ_CTRL (l : Nat) : Nat := laneBase l + 0x14
def R.OPL_EQ_CTRL_MU_EXP (l : Nat) : FRef := ⟨R.OPL_EQ_CTRL l, 4, 4⟩
def R.OPL_EQ_CTRL_CTR_ADAPT (l : Nat) : FRef := ⟨R.OPL_EQ_CTRL l, 1, 1⟩
def R.OPL_EQ_CTRL_ADAPT_EN (l : Nat) : FRef := ⟨R.OPL_EQ_CTRL l, 0, 1⟩
/-- OPL_TARGET_PROG (R121). -/
def R.OPL_TARGET_PROG (l : Nat) : Nat := laneBase l + 0x18
def R.OPL_TARGET_PROG_C2 (l : Nat) : FRef := ⟨R.OPL_TARGET_PROG l, 16, 8⟩
def R.OPL_TARGET_PROG_C1 (l : Nat) : FRef := ⟨R.OPL_TARGET_PROG l, 8, 8⟩
def R.OPL_TARGET_PROG_C0 (l : Nat) : FRef := ⟨R.OPL_TARGET_PROG l, 0, 8⟩
/-- OPL_SYNC (R121). -/
def R.OPL_SYNC (l : Nat) : Nat := laneBase l + 0x1C
def R.OPL_SYNC_POOR (l : Nat) : FRef := ⟨R.OPL_SYNC l, 8, 8⟩
def R.OPL_SYNC_SEC_MAXDIFF (l : Nat) : FRef := ⟨R.OPL_SYNC l, 4, 3⟩
def R.OPL_SYNC_PRI_MAXDIFF (l : Nat) : FRef := ⟨R.OPL_SYNC l, 0, 3⟩
/-- OPL_DEFECT (R121). -/
def R.OPL_DEFECT (l : Nat) : Nat := laneBase l + 0x20
def R.OPL_DEFECT_MAX_HOLD (l : Nat) : FRef := ⟨R.OPL_DEFECT l, 24, 5⟩
def R.OPL_DEFECT_MIN_LEN (l : Nat) : FRef := ⟨R.OPL_DEFECT l, 16, 4⟩
def R.OPL_DEFECT_HIGH (l : Nat) : FRef := ⟨R.OPL_DEFECT l, 8, 8⟩
def R.OPL_DEFECT_LOW (l : Nat) : FRef := ⟨R.OPL_DEFECT l, 0, 8⟩
/-- OPL_EQ_INITk (R121). -/
def R.OPL_EQ_INIT (l j : Nat) : Nat := laneBase l + 0x40 + 0x4 * j
def R.OPL_EQ_INIT_TAP_HI (l j : Nat) : FRef := ⟨R.OPL_EQ_INIT l j, 16, 16⟩
def R.OPL_EQ_INIT_TAP_LO (l j : Nat) : FRef := ⟨R.OPL_EQ_INIT l j, 0, 16⟩
/-- OPL_STATUS (R121). -/
def R.OPL_STATUS (l : Nat) : Nat := laneBase l + 0x80
def R.OPL_STATUS_HOLD_EXCEEDED (l : Nat) : FRef := ⟨R.OPL_STATUS l, 18, 1⟩
def R.OPL_STATUS_CLIP_SEEN (l : Nat) : FRef := ⟨R.OPL_STATUS l, 17, 1⟩
def R.OPL_STATUS_RESYNC_SEEN (l : Nat) : FRef := ⟨R.OPL_STATUS l, 16, 1⟩
def R.OPL_STATUS_ADC_FAILED (l : Nat) : FRef := ⟨R.OPL_STATUS l, 10, 1⟩
def R.OPL_STATUS_FAILED (l : Nat) : FRef := ⟨R.OPL_STATUS l, 9, 1⟩
def R.OPL_STATUS_SPARED (l : Nat) : FRef := ⟨R.OPL_STATUS l, 8, 1⟩
def R.OPL_STATUS_ACTIVE (l : Nat) : FRef := ⟨R.OPL_STATUS l, 5, 1⟩
def R.OPL_STATUS_RATE_ERR (l : Nat) : FRef := ⟨R.OPL_STATUS l, 4, 1⟩
def R.OPL_STATUS_HYPOTHESIS (l : Nat) : FRef := ⟨R.OPL_STATUS l, 3, 1⟩
def R.OPL_STATUS_DEFECT (l : Nat) : FRef := ⟨R.OPL_STATUS l, 2, 1⟩
def R.OPL_STATUS_FRAME_LOCK (l : Nat) : FRef := ⟨R.OPL_STATUS l, 1, 1⟩
def R.OPL_STATUS_TIMING_LOCK (l : Nat) : FRef := ⟨R.OPL_STATUS l, 0, 1⟩
/-- OPL_RATE (R121). -/
def R.OPL_RATE (l : Nat) : Nat := laneBase l + 0x84
def R.OPL_RATE_PERIOD (l : Nat) : FRef := ⟨R.OPL_RATE l, 0, 24⟩
/-- OPL_GAIN (R121). -/
def R.OPL_GAIN (l : Nat) : Nat := laneBase l + 0x88
def R.OPL_GAIN_ENVELOPE (l : Nat) : FRef := ⟨R.OPL_GAIN l, 16, 8⟩
def R.OPL_GAIN_GAIN (l : Nat) : FRef := ⟨R.OPL_GAIN l, 0, 8⟩
/-- OPL_QUALITY (R121). -/
def R.OPL_QUALITY (l : Nat) : Nat := laneBase l + 0x8C
def R.OPL_QUALITY_VALID (l : Nat) : FRef := ⟨R.OPL_QUALITY l, 31, 1⟩
def R.OPL_QUALITY_MARGIN_MIN (l : Nat) : FRef := ⟨R.OPL_QUALITY l, 8, 8⟩
def R.OPL_QUALITY_MARGIN_MEAN (l : Nat) : FRef := ⟨R.OPL_QUALITY l, 0, 8⟩
/-- OPL_ASYM (R121). -/
def R.OPL_ASYM (l : Nat) : Nat := laneBase l + 0x90
def R.OPL_ASYM_VALID (l : Nat) : FRef := ⟨R.OPL_ASYM l, 31, 1⟩
def R.OPL_ASYM_ASYM (l : Nat) : FRef := ⟨R.OPL_ASYM l, 0, 16⟩
/-- OPL_EQ_LIVEk (R121). -/
def R.OPL_EQ_LIVE (l j : Nat) : Nat := laneBase l + 0xC0 + 0x4 * j
def R.OPL_EQ_LIVE_TAP_HI (l j : Nat) : FRef := ⟨R.OPL_EQ_LIVE l j, 16, 16⟩
def R.OPL_EQ_LIVE_TAP_LO (l j : Nat) : FRef := ⟨R.OPL_EQ_LIVE l j, 0, 16⟩
/-- OPL_CNT_FRAMES (R121). -/
def R.OPL_CNT_FRAMES (l : Nat) : Nat := laneBase l + 0x100
def R.OPL_CNT_FRAMES_COUNT (l : Nat) : FRef := ⟨R.OPL_CNT_FRAMES l, 0, 32⟩
/-- OPL_CNT_PRI_MISSED (R121). -/
def R.OPL_CNT_PRI_MISSED (l : Nat) : Nat := laneBase l + 0x104
def R.OPL_CNT_PRI_MISSED_COUNT (l : Nat) : FRef := ⟨R.OPL_CNT_PRI_MISSED l, 0, 32⟩
/-- OPL_CNT_LATE (R121). -/
def R.OPL_CNT_LATE (l : Nat) : Nat := laneBase l + 0x108
def R.OPL_CNT_LATE_COUNT (l : Nat) : FRef := ⟨R.OPL_CNT_LATE l, 0, 32⟩
/-- OPL_CNT_EARLY (R121). -/
def R.OPL_CNT_EARLY (l : Nat) : Nat := laneBase l + 0x10C
def R.OPL_CNT_EARLY_COUNT (l : Nat) : FRef := ⟨R.OPL_CNT_EARLY l, 0, 32⟩
/-- OPL_CNT_EARLY_PRED (R121). -/
def R.OPL_CNT_EARLY_PRED (l : Nat) : Nat := laneBase l + 0x110
def R.OPL_CNT_EARLY_PRED_COUNT (l : Nat) : FRef := ⟨R.OPL_CNT_EARLY_PRED l, 0, 32⟩
/-- OPL_CNT_ERASED (R121). -/
def R.OPL_CNT_ERASED (l : Nat) : Nat := laneBase l + 0x114
def R.OPL_CNT_ERASED_COUNT (l : Nat) : FRef := ⟨R.OPL_CNT_ERASED l, 0, 32⟩
/-- OPL_CNT_HALF_ERASED (R121). -/
def R.OPL_CNT_HALF_ERASED (l : Nat) : Nat := laneBase l + 0x118
def R.OPL_CNT_HALF_ERASED_COUNT (l : Nat) : FRef := ⟨R.OPL_CNT_HALF_ERASED l, 0, 32⟩
/-- OPL_CNT_RESYNC (R121). -/
def R.OPL_CNT_RESYNC (l : Nat) : Nat := laneBase l + 0x11C
def R.OPL_CNT_RESYNC_COUNT (l : Nat) : FRef := ⟨R.OPL_CNT_RESYNC l, 0, 32⟩
/-- OPL_CNT_INVALID_WORD (R121). -/
def R.OPL_CNT_INVALID_WORD (l : Nat) : Nat := laneBase l + 0x120
def R.OPL_CNT_INVALID_WORD_COUNT (l : Nat) : FRef := ⟨R.OPL_CNT_INVALID_WORD l, 0, 32⟩
/-- OPL_CNT_MISMATCH (R121). -/
def R.OPL_CNT_MISMATCH (l : Nat) : Nat := laneBase l + 0x124
def R.OPL_CNT_MISMATCH_COUNT (l : Nat) : FRef := ⟨R.OPL_CNT_MISMATCH l, 0, 32⟩
/-- OPL_SPARE_MAP (R122). -/
def R.OPL_SPARE_MAP : Nat := 0x200800
def R.OPL_SPARE_MAP_ASSIGNED0 : FRef := ⟨R.OPL_SPARE_MAP, 7, 1⟩
def R.OPL_SPARE_MAP_STATION0 : FRef := ⟨R.OPL_SPARE_MAP, 4, 3⟩
def R.OPL_SPARE_MAP_VERIFY0 : FRef := ⟨R.OPL_SPARE_MAP, 3, 1⟩
def R.OPL_SPARE_MAP_BEAM0 : FRef := ⟨R.OPL_SPARE_MAP, 0, 2⟩
def R.OPL_SPARE_MAP_ASSIGNED1 : FRef := ⟨R.OPL_SPARE_MAP, 15, 1⟩
def R.OPL_SPARE_MAP_STATION1 : FRef := ⟨R.OPL_SPARE_MAP, 12, 3⟩
def R.OPL_SPARE_MAP_VERIFY1 : FRef := ⟨R.OPL_SPARE_MAP, 11, 1⟩
def R.OPL_SPARE_MAP_BEAM1 : FRef := ⟨R.OPL_SPARE_MAP, 8, 2⟩
def R.OPL_SPARE_MAP_ASSIGNED2 : FRef := ⟨R.OPL_SPARE_MAP, 23, 1⟩
def R.OPL_SPARE_MAP_STATION2 : FRef := ⟨R.OPL_SPARE_MAP, 20, 3⟩
def R.OPL_SPARE_MAP_VERIFY2 : FRef := ⟨R.OPL_SPARE_MAP, 19, 1⟩
def R.OPL_SPARE_MAP_BEAM2 : FRef := ⟨R.OPL_SPARE_MAP, 16, 2⟩
def R.OPL_SPARE_MAP_ASSIGNED3 : FRef := ⟨R.OPL_SPARE_MAP, 31, 1⟩
def R.OPL_SPARE_MAP_STATION3 : FRef := ⟨R.OPL_SPARE_MAP, 28, 3⟩
def R.OPL_SPARE_MAP_VERIFY3 : FRef := ⟨R.OPL_SPARE_MAP, 27, 1⟩
def R.OPL_SPARE_MAP_BEAM3 : FRef := ⟨R.OPL_SPARE_MAP, 24, 2⟩
/-- OPL_SPARE_CMD (R122). -/
def R.OPL_SPARE_CMD : Nat := 0x200804
def R.OPL_SPARE_CMD_BEAM : FRef := ⟨R.OPL_SPARE_CMD, 8, 2⟩
def R.OPL_SPARE_CMD_VERIFY : FRef := ⟨R.OPL_SPARE_CMD, 7, 1⟩
def R.OPL_SPARE_CMD_STATION : FRef := ⟨R.OPL_SPARE_CMD, 4, 3⟩
def R.OPL_SPARE_CMD_CMD : FRef := ⟨R.OPL_SPARE_CMD, 0, 2⟩
/-- WRS_UNIT (R180). -/
def R.WRS_UNIT (n : Nat) : Nat := 0x83000 + 0x10000 * n
def R.WRS_UNIT_APPLY_GRP (n : Nat) : FRef := ⟨R.WRS_UNIT n, 0, 5⟩
/-- WRS_CTRL (R180). -/
def R.WRS_CTRL (n : Nat) : Nat := 0x83004 + 0x10000 * n
def R.WRS_CTRL_PC_EN (n : Nat) : FRef := ⟨R.WRS_CTRL n, 5, 1⟩
def R.WRS_CTRL_ABANDON (n : Nat) : FRef := ⟨R.WRS_CTRL n, 4, 1⟩
def R.WRS_CTRL_BEAM_EN (n : Nat) : FRef := ⟨R.WRS_CTRL n, 0, 4⟩
/-- WRS_TIMING (R180). -/
def R.WRS_TIMING (n : Nat) : Nat := 0x83008 + 0x10000 * n
def R.WRS_TIMING_LINK_LAT (n : Nat) : FRef := ⟨R.WRS_TIMING n, 16, 12⟩
def R.WRS_TIMING_TRAIL (n : Nat) : FRef := ⟨R.WRS_TIMING n, 0, 14⟩
/-- WRS_VERIFY (R180). -/
def R.WRS_VERIFY (n : Nat) : Nat := 0x8300C + 0x10000 * n
def R.WRS_VERIFY_MARGIN_MIN (n : Nat) : FRef := ⟨R.WRS_VERIFY n, 24, 8⟩
def R.WRS_VERIFY_FRAME_FAIL_MAX (n : Nat) : FRef := ⟨R.WRS_VERIFY n, 16, 5⟩
def R.WRS_VERIFY_ERASED_MAX (n : Nat) : FRef := ⟨R.WRS_VERIFY n, 8, 5⟩
def R.WRS_VERIFY_MISMATCH_MAX (n : Nat) : FRef := ⟨R.WRS_VERIFY n, 0, 5⟩
/-- WRS_RETRY (R180). -/
def R.WRS_RETRY (n : Nat) : Nat := 0x83010 + 0x10000 * n
def R.WRS_RETRY_BEAM_FAIL_RUN (n : Nat) : FRef := ⟨R.WRS_RETRY n, 8, 4⟩
def R.WRS_RETRY_ATTEMPT_MAX (n : Nat) : FRef := ⟨R.WRS_RETRY n, 0, 4⟩
/-- WRS_PC (R180). -/
def R.WRS_PC (n : Nat) : Nat := 0x83014 + 0x10000 * n
def R.WRS_PC_ASYM_TARGET (n : Nat) : FRef := ⟨R.WRS_PC n, 16, 16⟩
def R.WRS_PC_GAIN (n : Nat) : FRef := ⟨R.WRS_PC n, 8, 8⟩
def R.WRS_PC_LIMIT (n : Nat) : FRef := ⟨R.WRS_PC n, 0, 8⟩
/-- WRS_RATIO (R180). -/
def R.WRS_RATIO (n : Nat) : Nat := 0x83018 + 0x10000 * n
def R.WRS_RATIO_PM (n : Nat) : FRef := ⟨R.WRS_RATIO n, 16, 8⟩
def R.WRS_RATIO_PC (n : Nat) : FRef := ⟨R.WRS_RATIO n, 8, 8⟩
def R.WRS_RATIO_PS (n : Nat) : FRef := ⟨R.WRS_RATIO n, 0, 8⟩
/-- WRS_LIMIT (R180). -/
def R.WRS_LIMIT (n : Nat) : Nat := 0x8301C + 0x10000 * n
def R.WRS_LIMIT_PW_MAX (n : Nat) : FRef := ⟨R.WRS_LIMIT n, 0, 16⟩
/-- WRS_PW_Bb (R180). -/
def R.WRS_PW (n i : Nat) : Nat := 0x83020 + 0x10000 * n + 0x4 * i
def R.WRS_PW_PR (n i : Nat) : FRef := ⟨R.WRS_PW n i, 16, 16⟩
def R.WRS_PW_PW (n i : Nat) : FRef := ⟨R.WRS_PW n i, 0, 16⟩
/-- WRS_LEADk (R180). -/
def R.WRS_LEAD (n i : Nat) : Nat := 0x83040 + 0x10000 * n + 0x4 * i
def R.WRS_LEAD_S3 (n i : Nat) : FRef := ⟨R.WRS_LEAD n i, 24, 8⟩
def R.WRS_LEAD_S2 (n i : Nat) : FRef := ⟨R.WRS_LEAD n i, 16, 8⟩
def R.WRS_LEAD_S1 (n i : Nat) : FRef := ⟨R.WRS_LEAD n i, 8, 8⟩
def R.WRS_LEAD_S0 (n i : Nat) : FRef := ⟨R.WRS_LEAD n i, 0, 8⟩
/-- WRS_TRAILk (R180). -/
def R.WRS_TRAIL (n i : Nat) : Nat := 0x83060 + 0x10000 * n + 0x4 * i
def R.WRS_TRAIL_S3 (n i : Nat) : FRef := ⟨R.WRS_TRAIL n i, 24, 8⟩
def R.WRS_TRAIL_S2 (n i : Nat) : FRef := ⟨R.WRS_TRAIL n i, 16, 8⟩
def R.WRS_TRAIL_S1 (n i : Nat) : FRef := ⟨R.WRS_TRAIL n i, 8, 8⟩
def R.WRS_TRAIL_S0 (n i : Nat) : FRef := ⟨R.WRS_TRAIL n i, 0, 8⟩
/-- WRS_SHAPEk (R180). -/
def R.WRS_SHAPE (n i : Nat) : Nat := 0x83080 + 0x10000 * n + 0x4 * i
def R.WRS_SHAPE_TTOP (n i : Nat) : FRef := ⟨R.WRS_SHAPE n i, 8, 8⟩
def R.WRS_SHAPE_TCOOL (n i : Nat) : FRef := ⟨R.WRS_SHAPE n i, 0, 8⟩
/-- WRS_STATUS (R180). -/
def R.WRS_STATUS (n : Nat) : Nat := 0x830C0 + 0x10000 * n
def R.WRS_STATUS_LINK_ACTIVE (n : Nat) : FRef := ⟨R.WRS_STATUS n, 13, 1⟩
def R.WRS_STATUS_ROTOR_OK (n : Nat) : FRef := ⟨R.WRS_STATUS n, 12, 1⟩
def R.WRS_STATUS_PC_LIMIT (n : Nat) : FRef := ⟨R.WRS_STATUS n, 8, 4⟩
def R.WRS_STATUS_SUSPENDED (n : Nat) : FRef := ⟨R.WRS_STATUS n, 4, 4⟩
def R.WRS_STATUS_WRITING (n : Nat) : FRef := ⟨R.WRS_STATUS n, 0, 4⟩
/-- WRS_PW_LIVEb (R180). -/
def R.WRS_PW_LIVE (n i : Nat) : Nat := 0x830D0 + 0x10000 * n + 0x4 * i
def R.WRS_PW_LIVE_PW (n i : Nat) : FRef := ⟨R.WRS_PW_LIVE n i, 0, 16⟩
/-- WRS_BEAM_CMD (R180). -/
def R.WRS_BEAM_CMD (n : Nat) : Nat := 0x830E0 + 0x10000 * n
def R.WRS_BEAM_CMD_BEAM (n : Nat) : FRef := ⟨R.WRS_BEAM_CMD n, 8, 2⟩
def R.WRS_BEAM_CMD_CMD (n : Nat) : FRef := ⟨R.WRS_BEAM_CMD n, 0, 2⟩
/-- WRS_CNT_CLUSTERS (R180). -/
def R.WRS_CNT_CLUSTERS (n : Nat) : Nat := 0x83100 + 0x10000 * n
def R.WRS_CNT_CLUSTERS_COUNT (n : Nat) : FRef := ⟨R.WRS_CNT_CLUSTERS n, 0, 32⟩
/-- WRS_CNT_PASSED (R180). -/
def R.WRS_CNT_PASSED (n : Nat) : Nat := 0x83104 + 0x10000 * n
def R.WRS_CNT_PASSED_COUNT (n : Nat) : FRef := ⟨R.WRS_CNT_PASSED n, 0, 32⟩
/-- WRS_CNT_FAILED (R180). -/
def R.WRS_CNT_FAILED (n : Nat) : Nat := 0x83108 + 0x10000 * n
def R.WRS_CNT_FAILED_COUNT (n : Nat) : FRef := ⟨R.WRS_CNT_FAILED n, 0, 32⟩
/-- WRS_CNT_ABANDONED (R180). -/
def R.WRS_CNT_ABANDONED (n : Nat) : Nat := 0x8310C + 0x10000 * n
def R.WRS_CNT_ABANDONED_COUNT (n : Nat) : FRef := ⟨R.WRS_CNT_ABANDONED n, 0, 32⟩
/-- WRS_CNT_INTERRUPTED (R180). -/
def R.WRS_CNT_INTERRUPTED (n : Nat) : Nat := 0x83110 + 0x10000 * n
def R.WRS_CNT_INTERRUPTED_COUNT (n : Nat) : FRef := ⟨R.WRS_CNT_INTERRUPTED n, 0, 32⟩
/-- WRS_CNT_FRAMES_FAILED (R180). -/
def R.WRS_CNT_FRAMES_FAILED (n : Nat) : Nat := 0x83114 + 0x10000 * n
def R.WRS_CNT_FRAMES_FAILED_COUNT (n : Nat) : FRef := ⟨R.WRS_CNT_FRAMES_FAILED n, 0, 32⟩
/-- WRS_CNT_DROPPED (R180). -/
def R.WRS_CNT_DROPPED (n : Nat) : Nat := 0x83118 + 0x10000 * n
def R.WRS_CNT_DROPPED_COUNT (n : Nat) : FRef := ⟨R.WRS_CNT_DROPPED n, 0, 32⟩
/-- WRS_CNT_SUSPENDED (R180). -/
def R.WRS_CNT_SUSPENDED (n : Nat) : Nat := 0x8311C + 0x10000 * n
def R.WRS_CNT_SUSPENDED_COUNT (n : Nat) : FRef := ⟨R.WRS_CNT_SUSPENDED n, 0, 32⟩
/-- SPN_UNIT (R246). -/
def R.SPN_UNIT (n : Nat) : Nat := 0x84000 + 0x10000 * n
def R.SPN_UNIT_APPLY_GRP (n : Nat) : FRef := ⟨R.SPN_UNIT n, 0, 5⟩
/-- SPN_CTRL (R246). -/
def R.SPN_CTRL (n : Nat) : Nat := 0x84004 + 0x10000 * n
def R.SPN_CTRL_SPEED_SEL (n : Nat) : FRef := ⟨R.SPN_CTRL n, 0, 2⟩
/-- SPN_RAMP (R246). -/
def R.SPN_RAMP (n : Nat) : Nat := 0x84008 + 0x10000 * n
def R.SPN_RAMP_DECEL (n : Nat) : FRef := ⟨R.SPN_RAMP n, 16, 16⟩
def R.SPN_RAMP_ACCEL (n : Nat) : FRef := ⟨R.SPN_RAMP n, 0, 16⟩
/-- SPN_MOTOR (R246). -/
def R.SPN_MOTOR (n : Nat) : Nat := 0x8400C + 0x10000 * n
def R.SPN_MOTOR_DIR (n : Nat) : FRef := ⟨R.SPN_MOTOR n, 31, 1⟩
def R.SPN_MOTOR_POLE_PAIRS (n : Nat) : FRef := ⟨R.SPN_MOTOR n, 24, 4⟩
def R.SPN_MOTOR_I_FS (n : Nat) : FRef := ⟨R.SPN_MOTOR n, 0, 16⟩
/-- SPN_MODEL (R246). -/
def R.SPN_MODEL (n : Nat) : Nat := 0x84010 + 0x10000 * n
def R.SPN_MODEL_LS (n : Nat) : FRef := ⟨R.SPN_MODEL n, 16, 16⟩
def R.SPN_MODEL_RS (n : Nat) : FRef := ⟨R.SPN_MODEL n, 0, 16⟩
/-- SPN_FLUX (R246). -/
def R.SPN_FLUX (n : Nat) : Nat := 0x84014 + 0x10000 * n
def R.SPN_FLUX_KE (n : Nat) : FRef := ⟨R.SPN_FLUX n, 0, 16⟩
/-- SPN_OBS (R246). -/
def R.SPN_OBS (n : Nat) : Nat := 0x84018 + 0x10000 * n
def R.SPN_OBS_OBS_MIN (n : Nat) : FRef := ⟨R.SPN_OBS n, 16, 16⟩
def R.SPN_OBS_BW (n : Nat) : FRef := ⟨R.SPN_OBS n, 0, 16⟩
/-- SPN_SPEEDS (R246). -/
def R.SPN_SPEEDS (n : Nat) : Nat := 0x8401C + 0x10000 * n
def R.SPN_SPEEDS_IF_SPEED (n : Nat) : FRef := ⟨R.SPN_SPEEDS n, 16, 16⟩
def R.SPN_SPEEDS_SHORT_SPEED (n : Nat) : FRef := ⟨R.SPN_SPEEDS n, 0, 16⟩
/-- SPN_START (R246). -/
def R.SPN_START (n : Nat) : Nat := 0x84020 + 0x10000 * n
def R.SPN_START_ALIGN_T (n : Nat) : FRef := ⟨R.SPN_START n, 24, 8⟩
def R.SPN_START_IF_T (n : Nat) : FRef := ⟨R.SPN_START n, 16, 8⟩
def R.SPN_START_OBS_T (n : Nat) : FRef := ⟨R.SPN_START n, 8, 8⟩
def R.SPN_START_SHORT_T (n : Nat) : FRef := ⟨R.SPN_START n, 0, 8⟩
/-- SPN_STARTI (R246). -/
def R.SPN_STARTI (n : Nat) : Nat := 0x84024 + 0x10000 * n
def R.SPN_STARTI_ALIGN_I (n : Nat) : FRef := ⟨R.SPN_STARTI n, 16, 16⟩
def R.SPN_STARTI_IF_I (n : Nat) : FRef := ⟨R.SPN_STARTI n, 0, 16⟩
/-- SPN_LIMIT (R246). -/
def R.SPN_LIMIT (n : Nat) : Nat := 0x84028 + 0x10000 * n
def R.SPN_LIMIT_I_TRIP (n : Nat) : FRef := ⟨R.SPN_LIMIT n, 16, 16⟩
def R.SPN_LIMIT_I_MAX (n : Nat) : FRef := ⟨R.SPN_LIMIT n, 0, 16⟩
/-- SPN_LOSS (R246). -/
def R.SPN_LOSS (n : Nat) : Nat := 0x8402C + 0x10000 * n
def R.SPN_LOSS_PMARGIN (n : Nat) : FRef := ⟨R.SPN_LOSS n, 16, 16⟩
def R.SPN_LOSS_LOSS_ID (n : Nat) : FRef := ⟨R.SPN_LOSS n, 0, 16⟩
/-- SPN_PWM (R246). -/
def R.SPN_PWM (n : Nat) : Nat := 0x84030 + 0x10000 * n
def R.SPN_PWM_MIN_PULSE (n : Nat) : FRef := ⟨R.SPN_PWM n, 16, 10⟩
def R.SPN_PWM_DEADTIME (n : Nat) : FRef := ⟨R.SPN_PWM n, 0, 10⟩
/-- SPN_STATUS (R246). -/
def R.SPN_STATUS (n : Nat) : Nat := 0x84080 + 0x10000 * n
def R.SPN_STATUS_FAULT_CAUSE (n : Nat) : FRef := ⟨R.SPN_STATUS n, 8, 3⟩
def R.SPN_STATUS_VSAT (n : Nat) : FRef := ⟨R.SPN_STATUS n, 6, 1⟩
def R.SPN_STATUS_IN_REG (n : Nat) : FRef := ⟨R.SPN_STATUS n, 5, 1⟩
def R.SPN_STATUS_ANGLE_VALID (n : Nat) : FRef := ⟨R.SPN_STATUS n, 4, 1⟩
def R.SPN_STATUS_STATE (n : Nat) : FRef := ⟨R.SPN_STATUS n, 0, 4⟩
/-- SPN_SPEED (R246). -/
def R.SPN_SPEED (n : Nat) : Nat := 0x84084 + 0x10000 * n
def R.SPN_SPEED_SPEED (n : Nat) : FRef := ⟨R.SPN_SPEED n, 0, 24⟩
/-- SPN_ANGLE (R246). -/
def R.SPN_ANGLE (n : Nat) : Nat := 0x84088 + 0x10000 * n
def R.SPN_ANGLE_EPOCH (n : Nat) : FRef := ⟨R.SPN_ANGLE n, 24, 8⟩
def R.SPN_ANGLE_ANGLE (n : Nat) : FRef := ⟨R.SPN_ANGLE n, 0, 16⟩
/-- SPN_CNT_STARTS (R246). -/
def R.SPN_CNT_STARTS (n : Nat) : Nat := 0x84100 + 0x10000 * n
def R.SPN_CNT_STARTS_COUNT (n : Nat) : FRef := ⟨R.SPN_CNT_STARTS n, 0, 32⟩
/-- SPN_CNT_CATCHES (R246). -/
def R.SPN_CNT_CATCHES (n : Nat) : Nat := 0x84104 + 0x10000 * n
def R.SPN_CNT_CATCHES_COUNT (n : Nat) : FRef := ⟨R.SPN_CNT_CATCHES n, 0, 32⟩
/-- SPN_CNT_VSAT (R246). -/
def R.SPN_CNT_VSAT (n : Nat) : Nat := 0x84108 + 0x10000 * n
def R.SPN_CNT_VSAT_COUNT (n : Nat) : FRef := ⟨R.SPN_CNT_VSAT n, 0, 32⟩
/-- SPN_CNT_OBS_LOST (R246). -/
def R.SPN_CNT_OBS_LOST (n : Nat) : Nat := 0x8410C + 0x10000 * n
def R.SPN_CNT_OBS_LOST_COUNT (n : Nat) : FRef := ⟨R.SPN_CNT_OBS_LOST n, 0, 32⟩
/-- SPN_BUS_UNIT (R246). -/
def R.SPN_BUS_UNIT : Nat := 0x84800
def R.SPN_BUS_UNIT_APPLY_GRP : FRef := ⟨R.SPN_BUS_UNIT, 0, 5⟩
/-- SPN_BUS_CTRL (R246). -/
def R.SPN_BUS_CTRL : Nat := 0x84804
def R.SPN_BUS_CTRL_CHOP_IMIN : FRef := ⟨R.SPN_BUS_CTRL, 8, 8⟩
def R.SPN_BUS_CTRL_TRIP_RESTART : FRef := ⟨R.SPN_BUS_CTRL, 1, 1⟩
def R.SPN_BUS_CTRL_CHOP_EN : FRef := ⟨R.SPN_BUS_CTRL, 0, 1⟩
/-- SPN_BUS_STATUS (R246). -/
def R.SPN_BUS_STATUS : Nat := 0x84880
def R.SPN_BUS_STATUS_LOSS_QUEUE : FRef := ⟨R.SPN_BUS_STATUS, 16, 8⟩
def R.SPN_BUS_STATUS_CHOP_CAUSE : FRef := ⟨R.SPN_BUS_STATUS, 8, 2⟩
def R.SPN_BUS_STATUS_UV : FRef := ⟨R.SPN_BUS_STATUS, 4, 1⟩
def R.SPN_BUS_STATUS_TRIPPED : FRef := ⟨R.SPN_BUS_STATUS, 3, 1⟩
def R.SPN_BUS_STATUS_REGEN_LIMIT : FRef := ⟨R.SPN_BUS_STATUS, 2, 1⟩
def R.SPN_BUS_STATUS_CHOP_FAULT : FRef := ⟨R.SPN_BUS_STATUS, 1, 1⟩
def R.SPN_BUS_STATUS_CHOP_ON : FRef := ⟨R.SPN_BUS_STATUS, 0, 1⟩
/-- SPN_BUS_VOLT (R246). -/
def R.SPN_BUS_VOLT : Nat := 0x84884
def R.SPN_BUS_VOLT_PEAK : FRef := ⟨R.SPN_BUS_VOLT, 16, 12⟩
def R.SPN_BUS_VOLT_VOLT : FRef := ⟨R.SPN_BUS_VOLT, 0, 12⟩
/-- SPN_BUS_CHOP (R246). -/
def R.SPN_BUS_CHOP : Nat := 0x84888
def R.SPN_BUS_CHOP_CURRENT : FRef := ⟨R.SPN_BUS_CHOP, 0, 12⟩
/-- SPN_BUS_CMD (R246). -/
def R.SPN_BUS_CMD : Nat := 0x8488C
def R.SPN_BUS_CMD_CMD : FRef := ⟨R.SPN_BUS_CMD, 0, 2⟩
/-- SPN_BUS_CNT_CHOP (R246). -/
def R.SPN_BUS_CNT_CHOP : Nat := 0x848C0
def R.SPN_BUS_CNT_CHOP_COUNT : FRef := ⟨R.SPN_BUS_CNT_CHOP, 0, 32⟩
/-- SPN_BUS_CNT_REGEN (R246). -/
def R.SPN_BUS_CNT_REGEN : Nat := 0x848C4
def R.SPN_BUS_CNT_REGEN_COUNT : FRef := ⟨R.SPN_BUS_CNT_REGEN, 0, 32⟩
/-- SPN_BUS_CNT_TRIP (R246). -/
def R.SPN_BUS_CNT_TRIP : Nat := 0x848C8
def R.SPN_BUS_CNT_TRIP_COUNT : FRef := ⟨R.SPN_BUS_CNT_TRIP, 0, 32⟩
/-- SLD_UNIT (R273). -/
def R.SLD_UNIT (n : Nat) : Nat := 0x85000 + 0x10000 * n
def R.SLD_UNIT_IMMEDIATE (n : Nat) : FRef := ⟨R.SLD_UNIT n, 8, 1⟩
def R.SLD_UNIT_APPLY_GRP (n : Nat) : FRef := ⟨R.SLD_UNIT n, 0, 5⟩
/-- SLD_VMAX (R273). -/
def R.SLD_VMAX (n : Nat) : Nat := 0x85004 + 0x10000 * n
def R.SLD_VMAX_VMAX (n : Nat) : FRef := ⟨R.SLD_VMAX n, 0, 18⟩
/-- SLD_ACCEL (R273). -/
def R.SLD_ACCEL (n : Nat) : Nat := 0x85008 + 0x10000 * n
def R.SLD_ACCEL_DECEL (n : Nat) : FRef := ⟨R.SLD_ACCEL n, 16, 16⟩
def R.SLD_ACCEL_ACCEL (n : Nat) : FRef := ⟨R.SLD_ACCEL n, 0, 16⟩
/-- SLD_GEOM (R273). -/
def R.SLD_GEOM (n : Nat) : Nat := 0x8500C + 0x10000 * n
def R.SLD_GEOM_ELEC_OFFSET (n : Nat) : FRef := ⟨R.SLD_GEOM n, 16, 10⟩
def R.SLD_GEOM_HOME_RADIUS (n : Nat) : FRef := ⟨R.SLD_GEOM n, 0, 16⟩
/-- SLD_SOFT_MIN (R273). -/
def R.SLD_SOFT_MIN (n : Nat) : Nat := 0x85010 + 0x10000 * n
def R.SLD_SOFT_MIN_POS (n : Nat) : FRef := ⟨R.SLD_SOFT_MIN n, 0, 32⟩
/-- SLD_SOFT_MAX (R273). -/
def R.SLD_SOFT_MAX (n : Nat) : Nat := 0x85014 + 0x10000 * n
def R.SLD_SOFT_MAX_POS (n : Nat) : FRef := ⟨R.SLD_SOFT_MAX n, 0, 32⟩
/-- SLD_SWITCH (R273). -/
def R.SLD_SWITCH (n : Nat) : Nat := 0x85018 + 0x10000 * n
def R.SLD_SWITCH_LIMIT_STOP (n : Nat) : FRef := ⟨R.SLD_SWITCH n, 16, 1⟩
def R.SLD_SWITCH_QUAL (n : Nat) : FRef := ⟨R.SLD_SWITCH n, 8, 8⟩
def R.SLD_SWITCH_POL (n : Nat) : FRef := ⟨R.SLD_SWITCH n, 4, 2⟩
def R.SLD_SWITCH_EN (n : Nat) : FRef := ⟨R.SLD_SWITCH n, 0, 2⟩
/-- SLD_STOPS (R273). -/
def R.SLD_STOPS (n : Nat) : Nat := 0x8501C + 0x10000 * n
def R.SLD_STOPS_VSAFE (n : Nat) : FRef := ⟨R.SLD_STOPS n, 16, 16⟩
def R.SLD_STOPS_LIMIT_DECEL (n : Nat) : FRef := ⟨R.SLD_STOPS n, 0, 16⟩
/-- SLD_HOMING (R273). -/
def R.SLD_HOMING (n : Nat) : Nat := 0x85020 + 0x10000 * n
def R.SLD_HOMING_HOME_EXIT (n : Nat) : FRef := ⟨R.SLD_HOMING n, 0, 20⟩
/-- SLD_CURRENT (R273). -/
def R.SLD_CURRENT (n : Nat) : Nat := 0x85024 + 0x10000 * n
def R.SLD_CURRENT_I_RUN (n : Nat) : FRef := ⟨R.SLD_CURRENT n, 24, 8⟩
def R.SLD_CURRENT_I_HOLD (n : Nat) : FRef := ⟨R.SLD_CURRENT n, 16, 8⟩
def R.SLD_CURRENT_I_FS (n : Nat) : FRef := ⟨R.SLD_CURRENT n, 0, 16⟩
/-- SLD_CURPI (R273). -/
def R.SLD_CURPI (n : Nat) : Nat := 0x85028 + 0x10000 * n
def R.SLD_CURPI_HOLD_DELAY (n : Nat) : FRef := ⟨R.SLD_CURPI n, 24, 8⟩
def R.SLD_CURPI_KP (n : Nat) : FRef := ⟨R.SLD_CURPI n, 12, 12⟩
def R.SLD_CURPI_KI (n : Nat) : FRef := ⟨R.SLD_CURPI n, 0, 12⟩
/-- SLD_STATUS (R273). -/
def R.SLD_STATUS (n : Nat) : Nat := 0x85080 + 0x10000 * n
def R.SLD_STATUS_FAULT_CAUSE (n : Nat) : FRef := ⟨R.SLD_STATUS n, 16, 3⟩
def R.SLD_STATUS_CHANGE_ARMED (n : Nat) : FRef := ⟨R.SLD_STATUS n, 12, 1⟩
def R.SLD_STATUS_LATE_START (n : Nat) : FRef := ⟨R.SLD_STATUS n, 11, 1⟩
def R.SLD_STATUS_DECEL_CLAMPED (n : Nat) : FRef := ⟨R.SLD_STATUS n, 10, 1⟩
def R.SLD_STATUS_REFUSED (n : Nat) : FRef := ⟨R.SLD_STATUS n, 9, 1⟩
def R.SLD_STATUS_REFERENCED (n : Nat) : FRef := ⟨R.SLD_STATUS n, 8, 1⟩
def R.SLD_STATUS_END (n : Nat) : FRef := ⟨R.SLD_STATUS n, 7, 1⟩
def R.SLD_STATUS_HOME (n : Nat) : FRef := ⟨R.SLD_STATUS n, 6, 1⟩
def R.SLD_STATUS_STATE (n : Nat) : FRef := ⟨R.SLD_STATUS n, 0, 4⟩
/-- SLD_POS (R273). -/
def R.SLD_POS (n : Nat) : Nat := 0x85084 + 0x10000 * n
def R.SLD_POS_POS (n : Nat) : FRef := ⟨R.SLD_POS n, 0, 32⟩
/-- SLD_VEL (R273). -/
def R.SLD_VEL (n : Nat) : Nat := 0x85088 + 0x10000 * n
def R.SLD_VEL_VEL (n : Nat) : FRef := ⟨R.SLD_VEL n, 0, 32⟩
/-- SLD_MOVE_TARGET (R273). -/
def R.SLD_MOVE_TARGET (n : Nat) : Nat := 0x8508C + 0x10000 * n
def R.SLD_MOVE_TARGET_POS (n : Nat) : FRef := ⟨R.SLD_MOVE_TARGET n, 0, 32⟩
/-- SLD_GEAR_RATIO (R273). -/
def R.SLD_GEAR_RATIO (n : Nat) : Nat := 0x85090 + 0x10000 * n
def R.SLD_GEAR_RATIO_RATIO (n : Nat) : FRef := ⟨R.SLD_GEAR_RATIO n, 0, 32⟩
/-- SLD_GEAR_CHANGE (R273). -/
def R.SLD_GEAR_CHANGE (n : Nat) : Nat := 0x85094 + 0x10000 * n
def R.SLD_GEAR_CHANGE_POS (n : Nat) : FRef := ⟨R.SLD_GEAR_CHANGE n, 0, 32⟩
/-- SLD_GEAR_ACTIVE (R273). -/
def R.SLD_GEAR_ACTIVE (n : Nat) : Nat := 0x85098 + 0x10000 * n
def R.SLD_GEAR_ACTIVE_RATIO (n : Nat) : FRef := ⟨R.SLD_GEAR_ACTIVE n, 0, 32⟩
/-- SLD_START_TIME_LO (R273). -/
def R.SLD_START_TIME_LO (n : Nat) : Nat := 0x850A0 + 0x10000 * n
def R.SLD_START_TIME_LO_TIME (n : Nat) : FRef := ⟨R.SLD_START_TIME_LO n, 0, 32⟩
/-- SLD_START_TIME_HI (R273). -/
def R.SLD_START_TIME_HI (n : Nat) : Nat := 0x850A4 + 0x10000 * n
def R.SLD_START_TIME_HI_TIME (n : Nat) : FRef := ⟨R.SLD_START_TIME_HI n, 0, 32⟩
/-- SLD_CMD (R273). -/
def R.SLD_CMD (n : Nat) : Nat := 0x850A8 + 0x10000 * n
def R.SLD_CMD_CLEAR (n : Nat) : FRef := ⟨R.SLD_CMD n, 8, 1⟩
def R.SLD_CMD_SYNC (n : Nat) : FRef := ⟨R.SLD_CMD n, 4, 1⟩
def R.SLD_CMD_CMD (n : Nat) : FRef := ⟨R.SLD_CMD n, 0, 4⟩
/-- SLD_CNT_MOVES (R273). -/
def R.SLD_CNT_MOVES (n : Nat) : Nat := 0x85100 + 0x10000 * n
def R.SLD_CNT_MOVES_COUNT (n : Nat) : FRef := ⟨R.SLD_CNT_MOVES n, 0, 32⟩
/-- SLD_CNT_CLAMPED (R273). -/
def R.SLD_CNT_CLAMPED (n : Nat) : Nat := 0x85104 + 0x10000 * n
def R.SLD_CNT_CLAMPED_COUNT (n : Nat) : FRef := ⟨R.SLD_CNT_CLAMPED n, 0, 32⟩
/-- SLD_CNT_LIMIT (R273). -/
def R.SLD_CNT_LIMIT (n : Nat) : Nat := 0x85108 + 0x10000 * n
def R.SLD_CNT_LIMIT_COUNT (n : Nat) : FRef := ⟨R.SLD_CNT_LIMIT n, 0, 32⟩
/-- SLD_CNT_CHATTER (R273). -/
def R.SLD_CNT_CHATTER (n : Nat) : Nat := 0x8510C + 0x10000 * n
def R.SLD_CNT_CHATTER_COUNT (n : Nat) : FRef := ⟨R.SLD_CNT_CHATTER n, 0, 32⟩
/-- SLD_CNT_GEAR_CHANGES (R273). -/
def R.SLD_CNT_GEAR_CHANGES (n : Nat) : Nat := 0x85110 + 0x10000 * n
def R.SLD_CNT_GEAR_CHANGES_COUNT (n : Nat) : FRef := ⟨R.SLD_CNT_GEAR_CHANGES n, 0, 32⟩
/-- SLD_TABLEj (R273). -/
def R.SLD_TABLE (n i : Nat) : Nat := 0x85400 + 0x10000 * n + 0x4 * i
def R.SLD_TABLE_ENTRY_HI (n i : Nat) : FRef := ⟨R.SLD_TABLE n i, 16, 16⟩
def R.SLD_TABLE_ENTRY_LO (n i : Nat) : FRef := ⟨R.SLD_TABLE n i, 0, 16⟩
/-- BRL_PIPE (R218). -/
def R.BRL_PIPE : Nat := 0x100000
def R.BRL_PIPE_SHED : FRef := ⟨R.BRL_PIPE, 16, 8⟩
def R.BRL_PIPE_FAILED : FRef := ⟨R.BRL_PIPE, 8, 4⟩
def R.BRL_PIPE_OK : FRef := ⟨R.BRL_PIPE, 0, 4⟩
/-- BRL_LOAD (R218). -/
def R.BRL_LOAD : Nat := 0x100004
def R.BRL_LOAD_CAPACITY : FRef := ⟨R.BRL_LOAD, 16, 12⟩
def R.BRL_LOAD_BOUND : FRef := ⟨R.BRL_LOAD, 0, 12⟩
/-- BRL_CNT_HELD (R218). -/
def R.BRL_CNT_HELD : Nat := 0x100008
def R.BRL_CNT_HELD_COUNT : FRef := ⟨R.BRL_CNT_HELD, 0, 32⟩
/-- BRL_STN_UNIT (R218). -/
def R.BRL_STN_UNIT (n : Nat) : Nat := 0x100400 + 0x40 * n
def R.BRL_STN_UNIT_APPLY_GRP (n : Nat) : FRef := ⟨R.BRL_STN_UNIT n, 0, 5⟩
/-- BRL_STN_FOK (R218). -/
def R.BRL_STN_FOK (n : Nat) : Nat := 0x100404 + 0x40 * n
def R.BRL_STN_FOK_HOLD_MAX (n : Nat) : FRef := ⟨R.BRL_STN_FOK n, 24, 8⟩
def R.BRL_STN_FOK_FOK_LEVEL (n : Nat) : FRef := ⟨R.BRL_STN_FOK n, 0, 24⟩
/-- BRL_STN_LOCKERR (R218). -/
def R.BRL_STN_LOCKERR (n : Nat) : Nat := 0x100408 + 0x40 * n
def R.BRL_STN_LOCKERR_TLOCK_ERR (n : Nat) : FRef := ⟨R.BRL_STN_LOCKERR n, 16, 16⟩
def R.BRL_STN_LOCKERR_FLOCK_ERR (n : Nat) : FRef := ⟨R.BRL_STN_LOCKERR n, 0, 16⟩
/-- BRL_STN_JUMP (R218). -/
def R.BRL_STN_JUMP (n : Nat) : Nat := 0x10040C + 0x40 * n
def R.BRL_STN_JUMP_BRAKE_T (n : Nat) : FRef := ⟨R.BRL_STN_JUMP n, 24, 8⟩
def R.BRL_STN_JUMP_KICK_T (n : Nat) : FRef := ⟨R.BRL_STN_JUMP n, 16, 8⟩
def R.BRL_STN_JUMP_KICK (n : Nat) : FRef := ⟨R.BRL_STN_JUMP n, 0, 16⟩
/-- BRL_STN_SEQT (R218). -/
def R.BRL_STN_SEQT (n : Nat) : Nat := 0x100410 + 0x40 * n
def R.BRL_STN_SEQT_JUMP_TIMEOUT (n : Nat) : FRef := ⟨R.BRL_STN_SEQT n, 24, 8⟩
def R.BRL_STN_SEQT_SWEEP_T (n : Nat) : FRef := ⟨R.BRL_STN_SEQT n, 16, 8⟩
def R.BRL_STN_SEQT_SA_SETTLE (n : Nat) : FRef := ⟨R.BRL_STN_SEQT n, 8, 8⟩
def R.BRL_STN_SEQT_JUMP_SETTLE (n : Nat) : FRef := ⟨R.BRL_STN_SEQT n, 0, 8⟩
/-- BRL_STN_FF (R218). -/
def R.BRL_STN_FF (n : Nat) : Nat := 0x100414 + 0x40 * n
def R.BRL_STN_FF_LEARN_T (n : Nat) : FRef := ⟨R.BRL_STN_FF n, 17, 1⟩
def R.BRL_STN_FF_LEARN_F (n : Nat) : FRef := ⟨R.BRL_STN_FF n, 16, 1⟩
def R.BRL_STN_FF_ADV (n : Nat) : FRef := ⟨R.BRL_STN_FF n, 8, 5⟩
def R.BRL_STN_FF_LEARN_EXP (n : Nat) : FRef := ⟨R.BRL_STN_FF n, 0, 4⟩
/-- BRL_STN_SEQ_CMD (R218). -/
def R.BRL_STN_SEQ_CMD (n : Nat) : Nat := 0x100420 + 0x40 * n
def R.BRL_STN_SEQ_CMD_ARG (n : Nat) : FRef := ⟨R.BRL_STN_SEQ_CMD n, 8, 8⟩
def R.BRL_STN_SEQ_CMD_CMD (n : Nat) : FRef := ⟨R.BRL_STN_SEQ_CMD n, 0, 4⟩
/-- BRL_STN_SEQ_STATUS (R218). -/
def R.BRL_STN_SEQ_STATUS (n : Nat) : Nat := 0x100424 + 0x40 * n
def R.BRL_STN_SEQ_STATUS_LAYER (n : Nat) : FRef := ⟨R.BRL_STN_SEQ_STATUS n, 24, 4⟩
def R.BRL_STN_SEQ_STATUS_LAST_CMD (n : Nat) : FRef := ⟨R.BRL_STN_SEQ_STATUS n, 16, 8⟩
def R.BRL_STN_SEQ_STATUS_FF_VALID (n : Nat) : FRef := ⟨R.BRL_STN_SEQ_STATUS n, 15, 1⟩
def R.BRL_STN_SEQ_STATUS_REFUSED (n : Nat) : FRef := ⟨R.BRL_STN_SEQ_STATUS n, 14, 1⟩
def R.BRL_STN_SEQ_STATUS_FAILED (n : Nat) : FRef := ⟨R.BRL_STN_SEQ_STATUS n, 13, 1⟩
def R.BRL_STN_SEQ_STATUS_DONE (n : Nat) : FRef := ⟨R.BRL_STN_SEQ_STATUS n, 12, 1⟩
def R.BRL_STN_SEQ_STATUS_TLOCK (n : Nat) : FRef := ⟨R.BRL_STN_SEQ_STATUS n, 9, 1⟩
def R.BRL_STN_SEQ_STATUS_FLOCK (n : Nat) : FRef := ⟨R.BRL_STN_SEQ_STATUS n, 8, 1⟩
def R.BRL_STN_SEQ_STATUS_STATE (n : Nat) : FRef := ⟨R.BRL_STN_SEQ_STATUS n, 0, 4⟩
/-- BRL_SLOT_UNIT (R218). -/
def R.BRL_SLOT_UNIT (n : Nat) : Nat := 0x101000 + 0x40 * n
def R.BRL_SLOT_UNIT_APPLY_GRP (n : Nat) : FRef := ⟨R.BRL_SLOT_UNIT n, 0, 5⟩
/-- BRL_SLOT_CFG (R218). -/
def R.BRL_SLOT_CFG (n : Nat) : Nat := 0x101004 + 0x40 * n
def R.BRL_SLOT_CFG_EN (n : Nat) : FRef := ⟨R.BRL_SLOT_CFG n, 31, 1⟩
def R.BRL_SLOT_CFG_TYPE (n : Nat) : FRef := ⟨R.BRL_SLOT_CFG n, 24, 4⟩
def R.BRL_SLOT_CFG_STATION (n : Nat) : FRef := ⟨R.BRL_SLOT_CFG n, 20, 3⟩
def R.BRL_SLOT_CFG_BANK_SEL (n : Nat) : FRef := ⟨R.BRL_SLOT_CFG n, 16, 1⟩
def R.BRL_SLOT_CFG_BQ_EN (n : Nat) : FRef := ⟨R.BRL_SLOT_CFG n, 8, 5⟩
def R.BRL_SLOT_CFG_FF_EN (n : Nat) : FRef := ⟨R.BRL_SLOT_CFG n, 0, 1⟩
/-- BRL_SLOT_OFFSET (R218). -/
def R.BRL_SLOT_OFFSET (n : Nat) : Nat := 0x101008 + 0x40 * n
def R.BRL_SLOT_OFFSET_OFFSET (n : Nat) : FRef := ⟨R.BRL_SLOT_OFFSET n, 0, 24⟩
/-- BRL_SLOT_WNi (R218). -/
def R.BRL_SLOT_WN (n i : Nat) : Nat := 0x101010 + 0x40 * n + 0x4 * i
def R.BRL_SLOT_WN_W_HI (n i : Nat) : FRef := ⟨R.BRL_SLOT_WN n i, 16, 16⟩
def R.BRL_SLOT_WN_W_LO (n i : Nat) : FRef := ⟨R.BRL_SLOT_WN n i, 0, 16⟩
/-- BRL_SLOT_WDi (R218). -/
def R.BRL_SLOT_WD (n i : Nat) : Nat := 0x101020 + 0x40 * n + 0x4 * i
def R.BRL_SLOT_WD_W_HI (n i : Nat) : FRef := ⟨R.BRL_SLOT_WD n i, 16, 16⟩
def R.BRL_SLOT_WD_W_LO (n i : Nat) : FRef := ⟨R.BRL_SLOT_WD n i, 0, 16⟩
/-- BRL_SLOT_STATUS (R218). -/
def R.BRL_SLOT_STATUS (n : Nat) : Nat := 0x101030 + 0x40 * n
def R.BRL_SLOT_STATUS_PIPE (n : Nat) : FRef := ⟨R.BRL_SLOT_STATUS n, 24, 2⟩
def R.BRL_SLOT_STATUS_ACTIVE_BANK (n : Nat) : FRef := ⟨R.BRL_SLOT_STATUS n, 16, 1⟩
def R.BRL_SLOT_STATUS_FROZEN (n : Nat) : FRef := ⟨R.BRL_SLOT_STATUS n, 15, 1⟩
def R.BRL_SLOT_STATUS_HELD (n : Nat) : FRef := ⟨R.BRL_SLOT_STATUS n, 14, 1⟩
def R.BRL_SLOT_STATUS_I_CLAMP (n : Nat) : FRef := ⟨R.BRL_SLOT_STATUS n, 13, 1⟩
def R.BRL_SLOT_STATUS_SAT (n : Nat) : FRef := ⟨R.BRL_SLOT_STATUS n, 12, 1⟩
def R.BRL_SLOT_STATUS_PHASE (n : Nat) : FRef := ⟨R.BRL_SLOT_STATUS n, 0, 9⟩
/-- BRL_SLOT_OUT (R218). -/
def R.BRL_SLOT_OUT (n : Nat) : Nat := 0x101034 + 0x40 * n
def R.BRL_SLOT_OUT_VALUE (n : Nat) : FRef := ⟨R.BRL_SLOT_OUT n, 0, 24⟩
/-- BRL_SLOT_ERR (R218). -/
def R.BRL_SLOT_ERR (n : Nat) : Nat := 0x101038 + 0x40 * n
def R.BRL_SLOT_ERR_VALUE (n : Nat) : FRef := ⟨R.BRL_SLOT_ERR n, 0, 24⟩
/-- BRL_SLOT_COST (R218). -/
def R.BRL_SLOT_COST (n : Nat) : Nat := 0x10103C + 0x40 * n
def R.BRL_SLOT_COST_COST (n : Nat) : FRef := ⟨R.BRL_SLOT_COST n, 0, 6⟩
/-- BRL_BANK_UNIT (R218). -/
def R.BRL_BANK_UNIT (n i : Nat) : Nat := 0x110000 + 0x10000 * n + 0x100 * i
def R.BRL_BANK_UNIT_APPLY_GRP (n i : Nat) : FRef := ⟨R.BRL_BANK_UNIT n i, 0, 5⟩
/-- BRL_BANK_GAIN (R218). -/
def R.BRL_BANK_GAIN (n i : Nat) : Nat := 0x110004 + 0x10000 * n + 0x100 * i
def R.BRL_BANK_GAIN_GAIN_EXP (n i : Nat) : FRef := ⟨R.BRL_BANK_GAIN n i, 24, 4⟩
def R.BRL_BANK_GAIN_GAIN (n i : Nat) : FRef := ⟨R.BRL_BANK_GAIN n i, 0, 24⟩
/-- BRL_BANK_KI (R218). -/
def R.BRL_BANK_KI (n i : Nat) : Nat := 0x110008 + 0x10000 * n + 0x100 * i
def R.BRL_BANK_KI_VALUE (n i : Nat) : FRef := ⟨R.BRL_BANK_KI n i, 0, 24⟩
/-- BRL_BANK_ILIM (R218). -/
def R.BRL_BANK_ILIM (n i : Nat) : Nat := 0x11000C + 0x10000 * n + 0x100 * i
def R.BRL_BANK_ILIM_VALUE (n i : Nat) : FRef := ⟨R.BRL_BANK_ILIM n i, 0, 24⟩
/-- BRL_BANK_OUTMIN (R218). -/
def R.BRL_BANK_OUTMIN (n i : Nat) : Nat := 0x110010 + 0x10000 * n + 0x100 * i
def R.BRL_BANK_OUTMIN_VALUE (n i : Nat) : FRef := ⟨R.BRL_BANK_OUTMIN n i, 0, 24⟩
/-- BRL_BANK_OUTMAX (R218). -/
def R.BRL_BANK_OUTMAX (n i : Nat) : Nat := 0x110014 + 0x10000 * n + 0x100 * i
def R.BRL_BANK_OUTMAX_VALUE (n i : Nat) : FRef := ⟨R.BRL_BANK_OUTMAX n i, 0, 24⟩
/-- BRL_BANK_BIAS (R218). -/
def R.BRL_BANK_BIAS (n i : Nat) : Nat := 0x110018 + 0x10000 * n + 0x100 * i
def R.BRL_BANK_BIAS_VALUE (n i : Nat) : FRef := ⟨R.BRL_BANK_BIAS n i, 0, 24⟩
/-- BRL_BANK_BQq_c (R218). -/
def R.BRL_BANK_BQ (n i j k : Nat) : Nat := 0x110020 + 0x10000 * n + 0x100 * i + 0x20 * j + 0x4 * k
def R.BRL_BANK_BQ_COEF (n i j k : Nat) : FRef := ⟨R.BRL_BANK_BQ n i j k, 0, 24⟩
/-- BRL_FF_ENTRY (R216). -/
def R.BRL_FF_ENTRY (n i j : Nat) : Nat := 0x130000 + 0x1000 * n + 0x800 * i + 0x4 * j
def R.BRL_FF_ENTRY_VALUE (n i j : Nat) : FRef := ⟨R.BRL_FF_ENTRY n i j, 0, 24⟩
/-- JSP_UNIT (R219). -/
def R.JSP_UNIT : Nat := 0x140000
def R.JSP_UNIT_APPLY_GRP : FRef := ⟨R.JSP_UNIT, 0, 5⟩
/-- JSP_CTRL (R219). -/
def R.JSP_CTRL : Nat := 0x140004
def R.JSP_CTRL_POST : FRef := ⟨R.JSP_CTRL, 16, 16⟩
def R.JSP_CTRL_DIV : FRef := ⟨R.JSP_CTRL, 0, 16⟩
/-- JSP_TRIG (R219). -/
def R.JSP_TRIG : Nat := 0x140008
def R.JSP_TRIG_MODE : FRef := ⟨R.JSP_TRIG, 28, 4⟩
def R.JSP_TRIG_CHANNEL : FRef := ⟨R.JSP_TRIG, 16, 5⟩
def R.JSP_TRIG_STATION : FRef := ⟨R.JSP_TRIG, 12, 3⟩
def R.JSP_TRIG_EVENT : FRef := ⟨R.JSP_TRIG, 0, 12⟩
/-- JSP_TRIG_LEVEL (R219). -/
def R.JSP_TRIG_LEVEL : Nat := 0x14000C
def R.JSP_TRIG_LEVEL_LEVEL : FRef := ⟨R.JSP_TRIG_LEVEL, 0, 24⟩
/-- JSP_CMD (R219). -/
def R.JSP_CMD : Nat := 0x140010
def R.JSP_CMD_CMD : FRef := ⟨R.JSP_CMD, 0, 2⟩
/-- JSP_STATUS (R219). -/
def R.JSP_STATUS : Nat := 0x140014
def R.JSP_STATUS_WRAPPED : FRef := ⟨R.JSP_STATUS, 3, 1⟩
def R.JSP_STATUS_DONE : FRef := ⟨R.JSP_STATUS, 2, 1⟩
def R.JSP_STATUS_TRIGGERED : FRef := ⟨R.JSP_STATUS, 1, 1⟩
def R.JSP_STATUS_ARMED : FRef := ⟨R.JSP_STATUS, 0, 1⟩
/-- JSP_TRIG_INDEX (R219). -/
def R.JSP_TRIG_INDEX : Nat := 0x140018
def R.JSP_TRIG_INDEX_INDEX : FRef := ⟨R.JSP_TRIG_INDEX, 0, 16⟩
/-- JSP_TRIG_TIME_LO (R219). -/
def R.JSP_TRIG_TIME_LO : Nat := 0x140020
def R.JSP_TRIG_TIME_LO_TIME : FRef := ⟨R.JSP_TRIG_TIME_LO, 0, 32⟩
/-- JSP_TRIG_TIME_HI (R219). -/
def R.JSP_TRIG_TIME_HI : Nat := 0x140024
def R.JSP_TRIG_TIME_HI_TIME : FRef := ⟨R.JSP_TRIG_TIME_HI, 0, 32⟩
/-- JSP_WINw (R219). -/
def R.JSP_WIN (n : Nat) : Nat := 0x140030 + 0x4 * n
def R.JSP_WIN_CH (n : Nat) : FRef := ⟨R.JSP_WIN n, 16, 5⟩
def R.JSP_WIN_PAGE (n : Nat) : FRef := ⟨R.JSP_WIN n, 0, 2⟩
/-- JSP_CHc (R219). -/
def R.JSP_CH (n : Nat) : Nat := 0x140100 + 0x4 * n
def R.JSP_CH_CLASS (n : Nat) : FRef := ⟨R.JSP_CH n, 12, 4⟩
def R.JSP_CH_INDEX (n : Nat) : FRef := ⟨R.JSP_CH n, 0, 12⟩
/-- CAL_UNIT (R311). -/
def R.CAL_UNIT : Nat := 0x180000
def R.CAL_UNIT_APPLY_GRP : FRef := ⟨R.CAL_UNIT, 0, 5⟩
/-- CAL_CTRL (R311). -/
def R.CAL_CTRL : Nat := 0x180004
def R.CAL_CTRL_MARGIN_TRIG : FRef := ⟨R.CAL_CTRL, 24, 8⟩
def R.CAL_CTRL_QUALITY_EN : FRef := ⟨R.CAL_CTRL, 2, 1⟩
def R.CAL_CTRL_INTERVAL_EN : FRef := ⟨R.CAL_CTRL, 1, 1⟩
def R.CAL_CTRL_TEMP_EN : FRef := ⟨R.CAL_CTRL, 0, 1⟩
/-- CAL_TRIG (R311). -/
def R.CAL_TRIG : Nat := 0x180008
def R.CAL_TRIG_MAX_DEFER : FRef := ⟨R.CAL_TRIG, 16, 16⟩
def R.CAL_TRIG_INTERVAL : FRef := ⟨R.CAL_TRIG, 8, 8⟩
def R.CAL_TRIG_DELTA_T : FRef := ⟨R.CAL_TRIG, 0, 8⟩
/-- CAL_GRID (R311). -/
def R.CAL_GRID : Nat := 0x18000C
def R.CAL_GRID_LADDER : FRef := ⟨R.CAL_GRID, 24, 8⟩
def R.CAL_GRID_TILT_STEP : FRef := ⟨R.CAL_GRID, 16, 8⟩
def R.CAL_GRID_FOCUS_STEP : FRef := ⟨R.CAL_GRID, 8, 8⟩
def R.CAL_GRID_SA_STEP : FRef := ⟨R.CAL_GRID, 0, 8⟩
/-- CAL_TEMPSET (R311). -/
def R.CAL_TEMPSET : Nat := 0x180010
def R.CAL_TEMPSET_STEP : FRef := ⟨R.CAL_TEMPSET, 8, 8⟩
def R.CAL_TEMPSET_BASE : FRef := ⟨R.CAL_TEMPSET, 0, 8⟩
/-- CAL_SAK (R311). -/
def R.CAL_SAK : Nat := 0x180014
def R.CAL_SAK_SA_K : FRef := ⟨R.CAL_SAK, 0, 24⟩
/-- CAL_SAD0 (R311). -/
def R.CAL_SAD0 : Nat := 0x180018
def R.CAL_SAD0_SA_D0 : FRef := ⟨R.CAL_SAD0, 0, 12⟩
/-- CAL_STATUS (R311). -/
def R.CAL_STATUS : Nat := 0x180080
def R.CAL_STATUS_PENDING : FRef := ⟨R.CAL_STATUS, 16, 8⟩
def R.CAL_STATUS_BUSY : FRef := ⟨R.CAL_STATUS, 0, 8⟩
/-- CAL_CMD (R311). -/
def R.CAL_CMD : Nat := 0x180084
def R.CAL_CMD_LAYER : FRef := ⟨R.CAL_CMD, 12, 4⟩
def R.CAL_CMD_NOW : FRef := ⟨R.CAL_CMD, 11, 1⟩
def R.CAL_CMD_STATION : FRef := ⟨R.CAL_CMD, 8, 3⟩
def R.CAL_CMD_CMD : FRef := ⟨R.CAL_CMD, 0, 2⟩
/-- CAL_TEMPn (R311). -/
def R.CAL_TEMP (n : Nat) : Nat := 0x1800A0 + 0x4 * n
def R.CAL_TEMP_VALID (n : Nat) : FRef := ⟨R.CAL_TEMP n, 31, 1⟩
def R.CAL_TEMP_SOURCE (n : Nat) : FRef := ⟨R.CAL_TEMP n, 30, 1⟩
def R.CAL_TEMP_IMAGE_BAD (n : Nat) : FRef := ⟨R.CAL_TEMP n, 29, 1⟩
def R.CAL_TEMP_TEMP (n : Nat) : FRef := ⟨R.CAL_TEMP n, 0, 16⟩
/-- CAL_CNT_RUNS (R311). -/
def R.CAL_CNT_RUNS : Nat := 0x180100
def R.CAL_CNT_RUNS_COUNT : FRef := ⟨R.CAL_CNT_RUNS, 0, 32⟩
/-- CAL_CNT_ABANDONED (R311). -/
def R.CAL_CNT_ABANDONED : Nat := 0x180104
def R.CAL_CNT_ABANDONED_COUNT : FRef := ⟨R.CAL_CNT_ABANDONED, 0, 32⟩
/-- CAL_SET0 (R311). -/
def R.CAL_SET0 (n i j : Nat) : Nat := 0x190000 + 0x1000 * n + 0x100 * i + 0x20 * j
def R.CAL_SET0_VALID (n i j : Nat) : FRef := ⟨R.CAL_SET0 n i j, 31, 1⟩
def R.CAL_SET0_FOCUS (n i j : Nat) : FRef := ⟨R.CAL_SET0 n i j, 0, 24⟩
/-- CAL_SET1 (R311). -/
def R.CAL_SET1 (n i j : Nat) : Nat := 0x190004 + 0x1000 * n + 0x100 * i + 0x20 * j
def R.CAL_SET1_TILT (n i j : Nat) : FRef := ⟨R.CAL_SET1 n i j, 0, 24⟩
/-- CAL_SET2 (R311). -/
def R.CAL_SET2 (n i j : Nat) : Nat := 0x190008 + 0x1000 * n + 0x100 * i + 0x20 * j
def R.CAL_SET2_SA (n i j : Nat) : FRef := ⟨R.CAL_SET2 n i j, 0, 24⟩
/-- CAL_SET3 (R311). -/
def R.CAL_SET3 (n i j : Nat) : Nat := 0x19000C + 0x1000 * n + 0x100 * i + 0x20 * j
def R.CAL_SET3_PW_B1 (n i j : Nat) : FRef := ⟨R.CAL_SET3 n i j, 16, 16⟩
def R.CAL_SET3_PW_B0 (n i j : Nat) : FRef := ⟨R.CAL_SET3 n i j, 0, 16⟩
/-- CAL_SET4 (R311). -/
def R.CAL_SET4 (n i j : Nat) : Nat := 0x190010 + 0x1000 * n + 0x100 * i + 0x20 * j
def R.CAL_SET4_PW_B3 (n i j : Nat) : FRef := ⟨R.CAL_SET4 n i j, 16, 16⟩
def R.CAL_SET4_PW_B2 (n i j : Nat) : FRef := ⟨R.CAL_SET4 n i j, 0, 16⟩
/-- CAL_SET5 (R311). -/
def R.CAL_SET5 (n i j : Nat) : Nat := 0x190014 + 0x1000 * n + 0x100 * i + 0x20 * j
def R.CAL_SET5_SPEED_SEL (n i j : Nat) : FRef := ⟨R.CAL_SET5 n i j, 16, 2⟩
def R.CAL_SET5_TEMP (n i j : Nat) : FRef := ⟨R.CAL_SET5 n i j, 0, 16⟩
/-- CAL_SET6 (R311). -/
def R.CAL_SET6 (n i j : Nat) : Nat := 0x190018 + 0x1000 * n + 0x100 * i + 0x20 * j
def R.CAL_SET6_POWER_EDGE (n i j : Nat) : FRef := ⟨R.CAL_SET6 n i j, 12, 4⟩
def R.CAL_SET6_TILT_EDGE (n i j : Nat) : FRef := ⟨R.CAL_SET6 n i j, 11, 1⟩
def R.CAL_SET6_FOCUS_EDGE (n i j : Nat) : FRef := ⟨R.CAL_SET6 n i j, 10, 1⟩
def R.CAL_SET6_SA_EDGE (n i j : Nat) : FRef := ⟨R.CAL_SET6 n i j, 9, 1⟩
def R.CAL_SET6_MARGIN (n i j : Nat) : FRef := ⟨R.CAL_SET6 n i j, 0, 8⟩
/-- CAL_SET7 (R311). -/
def R.CAL_SET7 (n i j : Nat) : Nat := 0x19001C + 0x1000 * n + 0x100 * i + 0x20 * j
def R.CAL_SET7_TIME (n i j : Nat) : FRef := ⟨R.CAL_SET7 n i j, 0, 32⟩
/-- CAL_TAPk (R311). -/
def R.CAL_TAP (n i j : Nat) : Nat := 0x198000 + 0x200 * n + 0x20 * i + 0x4 * j
def R.CAL_TAP_TAP_HI (n i j : Nat) : FRef := ⟨R.CAL_TAP n i j, 16, 16⟩
def R.CAL_TAP_TAP_LO (n i j : Nat) : FRef := ⟨R.CAL_TAP n i j, 0, 16⟩
/-- CGL_UNIT (R461). -/
def R.CGL_UNIT : Nat := 0x1C0000
def R.CGL_UNIT_APPLY_GRP : FRef := ⟨R.CGL_UNIT, 0, 5⟩
/-- CGL_CTRL (R461). -/
def R.CGL_CTRL : Nat := 0x1C0004
def R.CGL_CTRL_DEAD_TIME : FRef := ⟨R.CGL_CTRL, 8, 16⟩
def R.CGL_CTRL_AUTO_HANDBACK : FRef := ⟨R.CGL_CTRL, 6, 1⟩
def R.CGL_CTRL_RING_ARB : FRef := ⟨R.CGL_CTRL, 5, 1⟩
def R.CGL_CTRL_ROLE : FRef := ⟨R.CGL_CTRL, 4, 1⟩
def R.CGL_CTRL_MODE : FRef := ⟨R.CGL_CTRL, 0, 2⟩
/-- CGL_PEER_UID_LO (R461). -/
def R.CGL_PEER_UID_LO : Nat := 0x1C0008
def R.CGL_PEER_UID_LO_UID : FRef := ⟨R.CGL_PEER_UID_LO, 0, 32⟩
/-- CGL_PEER_UID_HI (R461). -/
def R.CGL_PEER_UID_HI : Nat := 0x1C000C
def R.CGL_PEER_UID_HI_UID : FRef := ⟨R.CGL_PEER_UID_HI, 0, 32⟩
/-- CGL_HOME_LO (R461). -/
def R.CGL_HOME_LO : Nat := 0x1C0010
def R.CGL_HOME_LO_HOME : FRef := ⟨R.CGL_HOME_LO, 0, 32⟩
/-- CGL_HOME_HI (R461). -/
def R.CGL_HOME_HI : Nat := 0x1C0014
def R.CGL_HOME_HI_HOME : FRef := ⟨R.CGL_HOME_HI, 0, 32⟩
/-- CGL_STATUS (R461). -/
def R.CGL_STATUS : Nat := 0x1C0080
def R.CGL_STATUS_LOSS_CAUSE : FRef := ⟨R.CGL_STATUS, 28, 3⟩
def R.CGL_STATUS_MISMATCH_CAUSE : FRef := ⟨R.CGL_STATUS, 25, 3⟩
def R.CGL_STATUS_PEER_ON_RING : FRef := ⟨R.CGL_STATUS, 24, 1⟩
def R.CGL_STATUS_LANES_OK : FRef := ⟨R.CGL_STATUS, 16, 8⟩
def R.CGL_STATUS_WIDTH : FRef := ⟨R.CGL_STATUS, 8, 4⟩
def R.CGL_STATUS_STATE : FRef := ⟨R.CGL_STATUS, 0, 4⟩
/-- CGL_EPOCH (R461). -/
def R.CGL_EPOCH : Nat := 0x1C0084
def R.CGL_EPOCH_EPOCH : FRef := ⟨R.CGL_EPOCH, 0, 32⟩
/-- CGL_CMD (R461). -/
def R.CGL_CMD : Nat := 0x1C0088
def R.CGL_CMD_KEY : FRef := ⟨R.CGL_CMD, 16, 16⟩
def R.CGL_CMD_CMD : FRef := ⟨R.CGL_CMD, 0, 2⟩
/-- CGL_SYNC_REMAIN (R461). -/
def R.CGL_SYNC_REMAIN : Nat := 0x1C008C
def R.CGL_SYNC_REMAIN_PAGES : FRef := ⟨R.CGL_SYNC_REMAIN, 0, 32⟩
/-- CGL_CNT_REPLAYS (R461). -/
def R.CGL_CNT_REPLAYS : Nat := 0x1C0100
def R.CGL_CNT_REPLAYS_COUNT : FRef := ⟨R.CGL_CNT_REPLAYS, 0, 32⟩
/-- CGL_CNT_RETRAINS (R461). -/
def R.CGL_CNT_RETRAINS : Nat := 0x1C0104
def R.CGL_CNT_RETRAINS_COUNT : FRef := ⟨R.CGL_CNT_RETRAINS, 0, 32⟩
/-- CGL_CNT_TAKEOVERS (R461). -/
def R.CGL_CNT_TAKEOVERS : Nat := 0x1C0108
def R.CGL_CNT_TAKEOVERS_COUNT : FRef := ⟨R.CGL_CNT_TAKEOVERS, 0, 32⟩
/-- CGL_CNT_REMOTE_READS (R461). -/
def R.CGL_CNT_REMOTE_READS : Nat := 0x1C010C
def R.CGL_CNT_REMOTE_READS_COUNT : FRef := ⟨R.CGL_CNT_REMOTE_READS, 0, 32⟩
/-- DRK_UNIT (R462). -/
def R.DRK_UNIT : Nat := 0x1C8000
def R.DRK_UNIT_APPLY_GRP : FRef := ⟨R.DRK_UNIT, 0, 5⟩
/-- DRK_CTRL (R462). -/
def R.DRK_CTRL : Nat := 0x1C8004
def R.DRK_CTRL_NODE_ID : FRef := ⟨R.DRK_CTRL, 8, 5⟩
def R.DRK_CTRL_ACCEPT_MARK : FRef := ⟨R.DRK_CTRL, 5, 1⟩
def R.DRK_CTRL_ACCEPT_STOP : FRef := ⟨R.DRK_CTRL, 4, 1⟩
def R.DRK_CTRL_ACCEPT_START : FRef := ⟨R.DRK_CTRL, 3, 1⟩
def R.DRK_CTRL_FWD_PINS : FRef := ⟨R.DRK_CTRL, 2, 1⟩
def R.DRK_CTRL_TIME_MASTER : FRef := ⟨R.DRK_CTRL, 1, 1⟩
def R.DRK_CTRL_EN : FRef := ⟨R.DRK_CTRL, 0, 1⟩
/-- DRK_DELAY (R462). -/
def R.DRK_DELAY : Nat := 0x1C8008
def R.DRK_DELAY_START_LEAD : FRef := ⟨R.DRK_DELAY, 16, 16⟩
def R.DRK_DELAY_LINK_DELAY : FRef := ⟨R.DRK_DELAY, 0, 16⟩
/-- DRK_PIN_QUAL (R462). -/
def R.DRK_PIN_QUAL : Nat := 0x1C800C
def R.DRK_PIN_QUAL_QUAL : FRef := ⟨R.DRK_PIN_QUAL, 0, 8⟩
/-- DRK_STATUS (R462). -/
def R.DRK_STATUS : Nat := 0x1C8080
def R.DRK_STATUS_FAULT_CAUSE : FRef := ⟨R.DRK_STATUS, 3, 3⟩
def R.DRK_STATUS_FAULT : FRef := ⟨R.DRK_STATUS, 2, 1⟩
def R.DRK_STATUS_IN_RING : FRef := ⟨R.DRK_STATUS, 1, 1⟩
def R.DRK_STATUS_IN_LOCK : FRef := ⟨R.DRK_STATUS, 0, 1⟩
/-- DRK_RTT (R462). -/
def R.DRK_RTT : Nat := 0x1C8084
def R.DRK_RTT_RTT : FRef := ⟨R.DRK_RTT, 0, 32⟩
/-- DRK_SEND (R462). -/
def R.DRK_SEND : Nat := 0x1C8088
def R.DRK_SEND_ARG : FRef := ⟨R.DRK_SEND, 16, 16⟩
def R.DRK_SEND_TYPE : FRef := ⟨R.DRK_SEND, 0, 4⟩
/-- DRK_PIN_IN (R462). -/
def R.DRK_PIN_IN : Nat := 0x1C808C
def R.DRK_PIN_IN_LEVEL : FRef := ⟨R.DRK_PIN_IN, 0, 16⟩
/-- DRK_PINk (R462). -/
def R.DRK_PIN (n : Nat) : Nat := 0x1C8040 + 0x4 * n
def R.DRK_PIN_ARG (n : Nat) : FRef := ⟨R.DRK_PIN n, 16, 16⟩
def R.DRK_PIN_DRIVE (n : Nat) : FRef := ⟨R.DRK_PIN n, 5, 1⟩
def R.DRK_PIN_POL (n : Nat) : FRef := ⟨R.DRK_PIN n, 4, 1⟩
def R.DRK_PIN_FUNC (n : Nat) : FRef := ⟨R.DRK_PIN n, 0, 4⟩
/-- DRK_CNT_RX (R462). -/
def R.DRK_CNT_RX : Nat := 0x1C8100
def R.DRK_CNT_RX_COUNT : FRef := ⟨R.DRK_CNT_RX, 0, 32⟩
/-- DRK_CNT_CRC (R462). -/
def R.DRK_CNT_CRC : Nat := 0x1C8104
def R.DRK_CNT_CRC_COUNT : FRef := ⟨R.DRK_CNT_CRC, 0, 32⟩
/-- DRK_CNT_LATE (R462). -/
def R.DRK_CNT_LATE : Nat := 0x1C8108
def R.DRK_CNT_LATE_COUNT : FRef := ⟨R.DRK_CNT_LATE, 0, 32⟩
/-- QTZ_UNIT (R463). -/
def R.QTZ_UNIT : Nat := 0x1D0000
def R.QTZ_UNIT_APPLY_GRP : FRef := ⟨R.QTZ_UNIT, 0, 5⟩
/-- QTZ_CTRL (R463). -/
def R.QTZ_CTRL : Nat := 0x1D0004
def R.QTZ_CTRL_SOURCE : FRef := ⟨R.QTZ_CTRL, 0, 2⟩
/-- QTZ_LIMITS (R463). -/
def R.QTZ_LIMITS : Nat := 0x1D0008
def R.QTZ_LIMITS_STEP_LIMIT : FRef := ⟨R.QTZ_LIMITS, 16, 16⟩
def R.QTZ_LIMITS_SLEW_MAX : FRef := ⟨R.QTZ_LIMITS, 0, 16⟩
/-- QTZ_OFFSET (R463). -/
def R.QTZ_OFFSET : Nat := 0x1D0090
def R.QTZ_OFFSET_OFFSET : FRef := ⟨R.QTZ_OFFSET, 0, 32⟩
/-- QTZ_STATUS (R463). -/
def R.QTZ_STATUS : Nat := 0x1D0094
def R.QTZ_STATUS_TC_RATE : FRef := ⟨R.QTZ_STATUS, 4, 3⟩
def R.QTZ_STATUS_STEPPED : FRef := ⟨R.QTZ_STATUS, 3, 1⟩
def R.QTZ_STATUS_SET_REFUSED : FRef := ⟨R.QTZ_STATUS, 2, 1⟩
def R.QTZ_STATUS_TC_VALID : FRef := ⟨R.QTZ_STATUS, 1, 1⟩
def R.QTZ_STATUS_LOCKED : FRef := ⟨R.QTZ_STATUS, 0, 1⟩
/-- QTZ_TC (R463). -/
def R.QTZ_TC : Nat := 0x1D0098
def R.QTZ_TC_HOURS : FRef := ⟨R.QTZ_TC, 24, 8⟩
def R.QTZ_TC_MINUTES : FRef := ⟨R.QTZ_TC, 16, 8⟩
def R.QTZ_TC_SECONDS : FRef := ⟨R.QTZ_TC, 8, 8⟩
def R.QTZ_TC_FRAMES : FRef := ⟨R.QTZ_TC, 0, 8⟩
/-- QTZ_TIME_LO (R463). -/
def R.QTZ_TIME_LO : Nat := 0x1D0080
def R.QTZ_TIME_LO_TIME : FRef := ⟨R.QTZ_TIME_LO, 0, 32⟩
/-- QTZ_TIME_HI (R463). -/
def R.QTZ_TIME_HI : Nat := 0x1D0084
def R.QTZ_TIME_HI_TIME : FRef := ⟨R.QTZ_TIME_HI, 0, 32⟩
/-- QTZ_SET_LO (R463). -/
def R.QTZ_SET_LO : Nat := 0x1D0088
def R.QTZ_SET_LO_TIME : FRef := ⟨R.QTZ_SET_LO, 0, 32⟩
/-- QTZ_SET_HI (R463). -/
def R.QTZ_SET_HI : Nat := 0x1D008C
def R.QTZ_SET_HI_TIME : FRef := ⟨R.QTZ_SET_HI, 0, 32⟩
/-- QTZ_TC_TIME_LO (R463). -/
def R.QTZ_TC_TIME_LO : Nat := 0x1D00A0
def R.QTZ_TC_TIME_LO_TIME : FRef := ⟨R.QTZ_TC_TIME_LO, 0, 32⟩
/-- QTZ_TC_TIME_HI (R463). -/
def R.QTZ_TC_TIME_HI : Nat := 0x1D00A4
def R.QTZ_TC_TIME_HI_TIME : FRef := ⟨R.QTZ_TC_TIME_HI, 0, 32⟩
/-- QTZ_CNT_STEPS (R463). -/
def R.QTZ_CNT_STEPS : Nat := 0x1D0100
def R.QTZ_CNT_STEPS_COUNT : FRef := ⟨R.QTZ_CNT_STEPS, 0, 32⟩
/-- TRU_STATUS (R482). -/
def R.TRU_STATUS : Nat := 0x1E0000
def R.TRU_STATUS_TRIAL_FAILED : FRef := ⟨R.TRU_STATUS, 5, 1⟩
def R.TRU_STATUS_OWNER_KEYS : FRef := ⟨R.TRU_STATUS, 4, 1⟩
def R.TRU_STATUS_TRIAL : FRef := ⟨R.TRU_STATUS, 3, 1⟩
def R.TRU_STATUS_RECOVERY : FRef := ⟨R.TRU_STATUS, 2, 1⟩
def R.TRU_STATUS_FALLBACK : FRef := ⟨R.TRU_STATUS, 1, 1⟩
def R.TRU_STATUS_SLOT : FRef := ⟨R.TRU_STATUS, 0, 1⟩
/-- TRU_SERIAL (R482). -/
def R.TRU_SERIAL : Nat := 0x1E0004
def R.TRU_SERIAL_SERIAL : FRef := ⟨R.TRU_SERIAL, 0, 32⟩
/-- TRU_SEC (R482). -/
def R.TRU_SEC : Nat := 0x1E0008
def R.TRU_SEC_MIN : FRef := ⟨R.TRU_SEC, 0, 32⟩
/-- TRU_REJECT (R482). -/
def R.TRU_REJECT : Nat := 0x1E000C
def R.TRU_REJECT_SLOT : FRef := ⟨R.TRU_REJECT, 6, 2⟩
def R.TRU_REJECT_IMAGE : FRef := ⟨R.TRU_REJECT, 5, 1⟩
def R.TRU_REJECT_CAUSE : FRef := ⟨R.TRU_REJECT, 0, 4⟩
/-- TRU_FLASH_ADDR (R482). -/
def R.TRU_FLASH_ADDR : Nat := 0x1E0010
def R.TRU_FLASH_ADDR_ADDR : FRef := ⟨R.TRU_FLASH_ADDR, 0, 26⟩
/-- TRU_FLASH_CMD (R482). -/
def R.TRU_FLASH_CMD : Nat := 0x1E0014
def R.TRU_FLASH_CMD_KEY : FRef := ⟨R.TRU_FLASH_CMD, 16, 16⟩
def R.TRU_FLASH_CMD_LEN : FRef := ⟨R.TRU_FLASH_CMD, 0, 13⟩
/-- TRU_FLASH_STATUS (R482). -/
def R.TRU_FLASH_STATUS : Nat := 0x1E0018
def R.TRU_FLASH_STATUS_CMD : FRef := ⟨R.TRU_FLASH_STATUS, 30, 2⟩
def R.TRU_FLASH_STATUS_REFUSED : FRef := ⟨R.TRU_FLASH_STATUS, 2, 1⟩
def R.TRU_FLASH_STATUS_DONE : FRef := ⟨R.TRU_FLASH_STATUS, 1, 1⟩
def R.TRU_FLASH_STATUS_BUSY : FRef := ⟨R.TRU_FLASH_STATUS, 0, 1⟩
/-- TRU_UPDATE_CMD (R482). -/
def R.TRU_UPDATE_CMD : Nat := 0x1E0020
def R.TRU_UPDATE_CMD_KEY : FRef := ⟨R.TRU_UPDATE_CMD, 16, 16⟩
def R.TRU_UPDATE_CMD_CMD : FRef := ⟨R.TRU_UPDATE_CMD, 0, 3⟩
/-- TRU_UPDATE_STATUS (R482). -/
def R.TRU_UPDATE_STATUS : Nat := 0x1E0024
def R.TRU_UPDATE_STATUS_CAUSE : FRef := ⟨R.TRU_UPDATE_STATUS, 4, 4⟩
def R.TRU_UPDATE_STATUS_FAILED : FRef := ⟨R.TRU_UPDATE_STATUS, 3, 1⟩
def R.TRU_UPDATE_STATUS_DONE : FRef := ⟨R.TRU_UPDATE_STATUS, 2, 1⟩
def R.TRU_UPDATE_STATUS_BUSY : FRef := ⟨R.TRU_UPDATE_STATUS, 0, 1⟩
/-- TRU_CERT (R482). -/
def R.TRU_CERT : Nat := 0x1E0030
def R.TRU_CERT_CHAIN : FRef := ⟨R.TRU_CERT, 8, 1⟩
def R.TRU_CERT_PAGE : FRef := ⟨R.TRU_CERT, 0, 4⟩
/-- TRU_CNT_SEALS (R482). -/
def R.TRU_CNT_SEALS : Nat := 0x1E0100
def R.TRU_CNT_SEALS_COUNT : FRef := ⟨R.TRU_CNT_SEALS, 0, 32⟩
/-- TRU_CNT_SPDM (R482). -/
def R.TRU_CNT_SPDM : Nat := 0x1E0104
def R.TRU_CNT_SPDM_COUNT : FRef := ⟨R.TRU_CNT_SPDM, 0, 32⟩
/-- TRU_BUFi (R482). -/
def R.TRU_BUF (n : Nat) : Nat := 0x1E1000 + 0x4 * n
def R.TRU_BUF_DATA (n : Nat) : FRef := ⟨R.TRU_BUF n, 0, 32⟩
/-- EVL_UNIT (R498). -/
def R.EVL_UNIT : Nat := 0x1F0000
def R.EVL_UNIT_APPLY_GRP : FRef := ⟨R.EVL_UNIT, 0, 5⟩
/-- EVL_CFG (R498). -/
def R.EVL_CFG : Nat := 0x1F0004
def R.EVL_CFG_INT_EN : FRef := ⟨R.EVL_CFG, 31, 1⟩
def R.EVL_CFG_INT_LEVEL : FRef := ⟨R.EVL_CFG, 28, 2⟩
def R.EVL_CFG_VECTOR : FRef := ⟨R.EVL_CFG, 16, 11⟩
def R.EVL_CFG_COALESCE : FRef := ⟨R.EVL_CFG, 0, 16⟩
/-- EVL_STATUS (R498). -/
def R.EVL_STATUS : Nat := 0x1F0080
def R.EVL_STATUS_HEAD_BAD : FRef := ⟨R.EVL_STATUS, 4, 1⟩
def R.EVL_STATUS_LOSS_OVERFLOW : FRef := ⟨R.EVL_STATUS, 3, 1⟩
def R.EVL_STATUS_OVERFLOW : FRef := ⟨R.EVL_STATUS, 2, 1⟩
def R.EVL_STATUS_PENDING : FRef := ⟨R.EVL_STATUS, 1, 1⟩
def R.EVL_STATUS_ARMED : FRef := ⟨R.EVL_STATUS, 0, 1⟩
/-- EVL_TAIL (R498). -/
def R.EVL_TAIL : Nat := 0x1F0084
def R.EVL_TAIL_COUNT : FRef := ⟨R.EVL_TAIL, 0, 32⟩
/-- EVL_HEAD (R498). -/
def R.EVL_HEAD : Nat := 0x1F0088
def R.EVL_HEAD_COUNT : FRef := ⟨R.EVL_HEAD, 0, 32⟩
/-- EVL_PAGE (R498). -/
def R.EVL_PAGE : Nat := 0x1F008C
def R.EVL_PAGE_PAGE : FRef := ⟨R.EVL_PAGE, 0, 4⟩
/-- EVL_DROPPED (R498). -/
def R.EVL_DROPPED : Nat := 0x1F0090
def R.EVL_DROPPED_COUNT : FRef := ⟨R.EVL_DROPPED, 0, 32⟩
/-- EVL_CNT_LOGGED (R498). -/
def R.EVL_CNT_LOGGED : Nat := 0x1F0100
def R.EVL_CNT_LOGGED_COUNT : FRef := ⟨R.EVL_CNT_LOGGED, 0, 32⟩

end Sys2Proof.Machine
end

