-- ==== Sys2Proof/Machine/State.lean ====
section
/-!
DEFINITION. The state of the FY8C as plain data. Every register lives in one of the sparse register files (an unlisted
offset reads as the register's reset value); what a block holds beyond its registers stands in a structure of its own,
with the rule of the spec that gives it. The queue of waiting commands is `pending`.
-/

namespace Sys2Proof.Machine

/-- Why a command may stop with a fault. It has no constructor: what goes wrong in the FY8C is reported by its event log and
its status fields (R483, R492), and every command has an effect, so no meaning stops. -/
inductive Fault
deriving DecidableEq, Repr

/-- Why a command may be refused. -/
inductive Refusal
  /-- The command has no meaning in this model yet. Safe: no statement about it can be proved. -/
  | notModelled (mnemonic : String)
deriving DecidableEq, Repr

/-- A sparse table with keys strictly rising and no entry that equals what an unlisted key reads as. -/
abbrev SMap (α : Type) := List (Nat × α)

/-- Why the FY8C is held in reset (R57, R504, R522). -/
inductive Held
  | no | power | thermal | jtag
deriving DecidableEq, Repr

/-- How far start-up has come (R469), beyond what registers show. -/
structure Sys where
  /-- What holds the device in reset, if anything. -/
  held : Held
  /-- Step 7: the endpoint is ready, so configuration requests no longer receive CRS (R405). -/
  ready : Bool
  /-- Step 9: the system region is initialised and admin queues run (R319, R369). -/
  sysInit : Bool
  /-- Stations the configuration image brings up at step 10 (R469), as a bit mask. -/
  bringUp : BitVec 8
  /-- The PCI Subsystem IDs of the configuration image (R407). -/
  subsys : Word
  /-- The JTAG test instruction that is loaded (R522). -/
  jtagTest : Bool
deriving DecidableEq, Repr

/-- A read or write shadow of a 64-bit register (R51, R52): whose it is, the register's low address, the word. -/
structure Shadow where
  req : Req
  addr : Nat
  word : Word
deriving DecidableEq, Repr

/-- A unit whose staging copy waits for its boundary, and the groups whose strobes staged it (R45, R46). -/
structure Strobe where
  unit : UnitId
  groups : Word
  /-- Which of the strobes that wait staged it last: units of one strobe are checked together (R218). -/
  id : Nat
  /-- A configuration transaction has checked it (R364), or its sets have been judged at its boundary. -/
  checked : Bool
  /-- WRS has sent its words and waits for the beams to take them (R166). -/
  sent : Bool
deriving DecidableEq, Repr

/-- An event on its way to the log (R487, R492). -/
structure Event where
  time : Nat
  code : Nat
  cause : Nat
  src : Nat
  a0 : Nat
  a1 : Nat
  a2 : Nat
  a3 : Nat
deriving DecidableEq, Repr

/-- A record of the event ring (R487), with the time it was entered, which merging compares (R489). -/
structure Rec where
  ev : Event
  rep : Nat
  entered : Nat
deriving DecidableEq, Repr

/-- EVL beyond its registers (R486): the ring, newest record first, and the events that have been detected but have not
reached the serial point (R488), oldest first. -/
structure Evl where
  ring : List Rec
  inFlight : List Event
deriving DecidableEq, Repr

/-- What a station knows of the addresses embossed on one arm (R71): the last accepted address, the addresses decoded from
the copies of the slot under way, and the address accepted for that slot. -/
structure Adip where
  last : Option Nat
  copies : List Nat
  here : Option Nat
deriving DecidableEq, Repr

/-- The two hypotheses an early primary opens (R104): the offset of the matched primary from the prediction (−4 to −1), and
the secondary matches collected, oldest first: offset from the predicted secondary position, and differing bits. -/
structure Hyp where
  p : Int
  secs : List (Int × Nat)
deriving DecidableEq, Repr

/-- One row as a lane delivers it to Topaz (R111): the bytes, the erasure flags, the sync case of R103, the margins. -/
structure RxRow where
  bytes : List Byte
  era : List Bool
  case : Nat
  marginA : Nat
  marginB : Nat
  whole : Bool
  halfA : Bool
  defect : Bool
deriving DecidableEq, Repr

/-- A cluster's 320 rows as a lane delivered them, waiting for Topaz's decoder: the lane, whether it is marked RESYNCED. -/
structure RxCluster where
  lane : Nat
  resynced : Bool
  rows : List RxRow
deriving DecidableEq, Repr

/-- The DSP section and ADC of an Opal lane as they stand between two samples (R89, R93 to R101, R107). Values at the equaliser's input
are in units of 2⁻¹⁴ ADC codes, behind the equaliser in units of 2⁻²⁸. -/
structure Dsp where
  /-- The gain in units of 2⁻¹⁶ steps of 0.25 dB (R93). -/
  gain : Nat
  /-- The slow part of the RF input that the high-pass corner takes away, in units of 2⁻¹⁶ µV (R93). -/
  slow : Int
  /-- The latest peak of the equaliser's input (R93). -/
  peak : Nat
  /-- The latest ADC codes, newest first, and how many of the newest are equal (R94, R114). -/
  past : List Int
  same : Nat
  /-- The phase accumulator: the time of the next output after the newest sample, in units of 2⁻²¹ samples (R94). -/
  acc : Int
  /-- |e| of the last 256 outputs, newest first, in units of 2⁻²¹ channel bits (R96). -/
  errs : List Nat
  /-- The latest outputs of timing recovery, newest first: the equaliser's input (R94, R97). -/
  eqIn : List Int
  /-- The baseline offset (R99). -/
  base : Int
  /-- The path metric of each of the 16 states, and its surviving path, newest first: the levels with their Δ (R100, R101). -/
  metrics : List Nat
  paths : List (List (Bool × Nat))
  /-- The equaliser's latest outputs, newest first (R113). -/
  ys : List Int
  /-- The latest decided level. -/
  level : Bool
  /-- How many channel bits have been decided. -/
  n : Nat
  /-- The holding buffer: the latest decided channel bits with their Δ, newest first (R89, R101). -/
  bits : List (Bool × Nat)
  /-- The long-term envelope (R107). -/
  long : Int
  /-- For how many channel bits the short-term envelope has been below LOW, above HIGH, and back within its bounds (R107). -/
  low : Nat
  high : Nat
  good : Nat
  /-- Declared defects: the first channel bit, and the one after the last, newest first (R107, R110). -/
  defects : List (Nat × Option Nat)
  /-- The run under way: twice the levels at the centres of its channel bits, newest first (R113). -/
  run : List Int
  /-- The first channel bit of the cluster whose figures are taken, once it has begun (R113). -/
  figFrom : Option Nat
  /-- Four times the sums of the levels at the centres of long marks, long spaces, short marks and short spaces of the cluster under way, and
  their numbers (R113). -/
  sums : List (Int × Nat)
  /-- The sums of taps 0 to 14 over the outputs of the cluster under way, and their number (R113). -/
  tapSum : List Int
  tapN : Nat
deriving DecidableEq, Repr

/-- A DSP section that has processed nothing. -/
def Dsp.init : Dsp where
  gain := 0
  slow := 0
  peak := 0
  past := []
  same := 0
  acc := 0
  errs := []
  eqIn := []
  base := 0
  metrics := List.replicate 16 0
  paths := List.replicate 16 []
  ys := []
  level := false
  n := 0
  bits := []
  long := 0
  low := 0
  high := 0
  good := 0
  defects := []
  run := []
  figFrom := none
  sums := List.replicate 4 (0, 0)
  tapSum := List.replicate 15 0
  tapN := 0

/-- An Opal lane beyond its registers. -/
structure Lane where
  /-- The seed period last loaded, UQ3.21 (R95). -/
  seed : Nat
  /-- Equaliser taps 0 to 14, Q2.14 (R97). -/
  taps : Vector (BitVec 16) 15
  dsp : Dsp
  /-- The flywheel: the channel bit at which the next primary sync is predicted to begin (R102, R103). -/
  pred : Nat
  /-- The channel bit at which a frame 0, or the frame of a verify lane, begins by the station's timing (R105, R106). -/
  slotAt : Option Nat
  /-- A read begins: frame 0 of its first slot is searched for within ±48 channel bits of that place (R106). -/
  starting : Bool
  /-- The channel bit after the last frame confirmed (R114). -/
  confirmed : Nat
  /-- The primary accepted for the frame under way, as offset from the prediction. -/
  pri : Option Int
  /-- The secondary accepted for it, as offset from the predicted secondary position. -/
  sec : Option Int
  /-- The sync case decided by hypotheses (4 or 5); 0 while R103's other cases hold. -/
  decided : Nat
  /-- The frame under way of a verify lane is counted as a flywheel insertion (R103, R105). -/
  inserted : Bool
  hyp : Option Hyp
  /-- The initial taps are loaded at the lane's next frame boundary (R304). -/
  tapsDue : Bool
  /-- Consecutive flywheel insertions (R105). -/
  miss : Nat
  /-- The primary matched during the search: where it begins. -/
  searchPri : Option Nat
  /-- Frame lock is back, and data resumes at row 0 of the next slot (R105). -/
  awaitSlot : Bool
  /-- The cluster under way is marked RESYNCED. -/
  resynced : Bool
  /-- A resynchronisation was seen in the cluster under way (R113). -/
  sawResync : Bool
  /-- The declared defect outlasted MAX_HOLD (R109). -/
  held : Bool
  /-- Rows of the cluster under way, newest first. -/
  rows : List RxRow
  /-- Whole-frame erasures of the cluster under way (R113). -/
  erased : Nat
  /-- Sum, smallest and number of half-frame margins of the cluster under way (R113). -/
  marginSum : Nat
  marginMin : Nat
  halves : Nat
  /-- The slot of the boot image whose microcode the framer runs (R119). -/
  ucode : Nat
  /-- A FORCE or a RELEASE waits for the beam's next cluster boundary (R122). -/
  force : Bool
  release : Bool
  /-- A failure has been carried out at a cluster boundary: the work moved, or the beam stopped (R115, R117). -/
  handled : Bool
  /-- The beam has stopped for want of this lane (R117). -/
  stopped : Bool
  /-- The failure of its ADC has been carried out (R117). -/
  adcDone : Bool
deriving DecidableEq, Repr

/-- A lane after reset. -/
def Lane.init : Lane where
  seed := 0
  taps := Vector.replicate 15 0#16
  dsp := Dsp.init
  pred := 0
  slotAt := none
  starting := false
  confirmed := 0
  pri := none
  sec := none
  decided := 0
  inserted := false
  tapsDue := false
  hyp := none
  miss := 0
  searchPri := none
  awaitSlot := false
  resynced := false
  sawResync := false
  held := false
  rows := []
  erased := 0
  marginSum := 0
  marginMin := 255
  halves := 0
  ucode := 0
  force := false
  release := false
  handled := false
  stopped := false
  adcDone := false

/-- Why a cluster is written. -/
inductive JobKind
  /-- A stripe member in serial order (R340). -/
  | member
  /-- An absent member rebuilt (R144). -/
  | rebuild
  /-- A relocation (R149). -/
  | reloc
  /-- A part of a map checkpoint (R357). -/
  | mapPart
  /-- A calibration pattern (R67). -/
  | test
deriving DecidableEq, Repr

/-- The fields of a cluster header that are fixed before its slot and beam are known (R83, R84). -/
structure Hdr where
  typ : Nat
  vol : Nat
  reel : Nat
  stripe : Nat
  member : Nat
  geometry : Nat
  mask : Nat
  layout : Nat
  version : Nat
  lba : Nat
  group : Nat
  valid : Nat
  reelEnd : Bool
  relocated : Bool
  degraded : Bool
  origPca : Nat
  origStn : Nat
  /-- The WRITE_TIME a rebuilt or relocated copy carries over (R138, R149); none: that of its own frame 0. -/
  time : Option Nat
deriving DecidableEq, Repr

/-- A cluster queued to a station for writing. -/
structure Job where
  kind : JobKind
  /-- It is written again after a failed verdict (R173). -/
  rewrite : Bool
  hdr : Hdr
  /-- Rotation position of the member in its stripe (R339). -/
  rot : Nat
  bytes : List Byte
  /-- Counted attempts that failed (R176). -/
  attempts : Nat
  /-- The beam whose attempt failed; the rewrite goes to the next writing beam after it (R174). -/
  after : Option Nat
  /-- Checkpoint sequence number and part, for map parts (R357); layer and zone of the test slots, for a TEST cluster, whose arm `rot` is
  (R67). -/
  seq : Nat
  part : Nat
deriving DecidableEq, Repr

/-- A cluster encoded for a beam and a slot (R123, R124). -/
structure Enc where
  job : Job
  pca : Nat
  time : Nat
  rows : List (List Byte)
deriving DecidableEq, Repr

/-- A cluster a beam writes or has written, until its verdict. -/
structure Cur where
  job : Job
  pca : Nat
  time : Nat
  /-- Verify results received, and how many of them failed (R170). -/
  results : Nat
  failed : Nat
  /-- A frame failed under the last case of R170. -/
  laneFail : Bool
  interrupted : Bool
  abandoned : Bool
  /-- The rows it writes, the channel bits that have gone to the laser driver, and the level written last: 1 is mark (R75, R162). -/
  rows : List (List Byte)
  sent : Nat
  level : Bool
deriving DecidableEq, Repr

/-- One beam of a station's write strategy block. -/
structure Beam where
  enc : Option Enc
  cur : Option Cur
  /-- Clusters whose last bit is written and whose verdict is due, oldest first. -/
  judged : List Cur
  /-- Consecutive counted attempts that failed (R176). -/
  failRun : Nat
  /-- The running power offset, in units of 2^−23 / 1000 of the base (R168). -/
  offset : Int
  /-- The word counter of the pair's SYNC words (R161). -/
  sync : BitVec 16
  /-- The values of an apply in flight are due on this beam at a later cluster start (R166). -/
  due : Bool
  /-- How many of the words that wait belong to that set and stand before any later one (R166). -/
  owed : Nat
  /-- While an apply is on its way to the other beams, the register values that this beam has taken (R166); else empty. -/
  force : List (Nat × Word)
  /-- POWER and TABLE words that wait for slots of the pair, first to be sent first (R161, R166). -/
  link : List (BitVec 40)
  /-- Quartz time at which the beam was suspended (R178). -/
  suspAt : Option Nat
deriving DecidableEq, Repr

/-- WRS of one station, beyond its registers. -/
structure Wrs where
  beams : Vector Beam 4
  /-- Clusters queued for writing, first to be written first. -/
  queue : List Job
  /-- While an apply is on its way to the beams, the register values that its words carry (R166); else empty. -/
  told : List (Nat × Word)
deriving DecidableEq, Repr

/-- A cluster of data being gathered or complete (R132). -/
structure Clu where
  typ : Nat
  vol : Nat
  reel : Nat
  group : Nat
  ver : Nat
  lba : Nat
  /-- The buffer pages of its blocks, in logical block order. -/
  bpns : List Nat
  /-- The content of a cluster that comes from no page: a SEAL cluster's manifest (R476). -/
  bytes : List Byte
deriving DecidableEq, Repr

/-- What has become of a stripe member. -/
inductive MemSt
  | queued | verified | absent
deriving DecidableEq, Repr

/-- A member of a stripe that has its serial. -/
structure Mem where
  rot : Nat
  station : Nat
  st : MemSt
  pca : Nat
  time : Nat
  rewritten : Bool
  /-- The arms whose beams were writing when it was placed (R342). -/
  arms : Nat
  /-- The disc it lies on. -/
  disc : Nat
deriving DecidableEq, Repr

/-- A stripe from its forming until its map changes are entered (R525, R342). -/
structure Stripe where
  vol : Nat
  reel : Nat
  p : Nat
  k : Nat
  narrow : Bool
  setA : Nat
  /-- Complete data clusters, in member order. -/
  data : List Clu
  /-- The stream's open cluster. -/
  filling : Option Clu
  /-- The last data member is complete. -/
  closed : Bool
  /-- The serial; 0 while it has none. -/
  serial : Nat
  mems : List Mem
  /-- Quartz time at which the stream's idle clock was last restarted (R134). -/
  idle : Nat
deriving DecidableEq, Repr

/-- An absent member that awaits rebuild (R144). -/
structure Rebuild where
  serial : Nat
  rot : Nat
  /-- The station it belongs to. -/
  station : Nat
  p : Nat
  k : Nat
  narrow : Bool
  setA : Nat
  queued : Bool
  /-- The WRITE_TIME of the copy it replaces (R138); none where the member was never written. -/
  time : Option Nat
deriving DecidableEq, Repr

/-- A relocation in progress (R149, R151), keyed by the PCA of the old copy. -/
structure Reloc where
  station : Nat
  disc : Nat
  pca : Nat
  serial : Nat
  rot : Nat
  /-- 0 the sweep asked for it, 1 a READ (R492). -/
  byRead : Nat
  /-- The new copy has passed verification: where it lies. -/
  done : Option (Nat × Nat × Nat)
  /-- The content in the buffer, and whether it was rebuilt: the old copy is unrecovered. -/
  bytes : List Byte
  rebuilt : Bool
deriving DecidableEq, Repr

/-- A cluster that has been read back and judged (R129). -/
structure Result where
  station : Nat
  disc : Nat
  pca : Nat
  /-- The header and user bytes of a recovered cluster. -/
  content : Option (Hdr × List Byte)
  failedRows : Nat
deriving DecidableEq, Repr

/-- Topaz beyond its registers. -/
structure Tpz where
  stripes : List Stripe
  rebuilds : List Rebuild
  relocs : List Reloc
  results : List Result
  /-- Stations whose first degraded stripe since they became unavailable has been logged (R141). -/
  degLogged : BitVec 8
  /-- The next cluster the sweep of each station reads, and the clusters swept in the second under way (R147). -/
  sweepNext : Vector Nat 8
  sweepSec : Vector Nat 8
  sweepCount : Vector Nat 8
  /-- Discs released with RETIRE: every cluster on them counts as absent (R290). -/
  retired : List Nat
deriving DecidableEq, Repr

/-- The states of a biquad section (R191). -/
structure Bq where
  x1 : Int
  x2 : Int
  y1 : Int
  y2 : Int
deriving DecidableEq, Repr

/-- How the sequencer drives a slot (R203 to R209). -/
inductive Drive
  /-- The loop runs. -/
  | closed
  /-- Open by STOP or at reset: focus at OUT_MIN, tracking and tilt at BIAS, SA and SLED at their last output. -/
  | parked
  /-- Held at an output. -/
  | hold (v : Int)
  /-- On its way from one output to another: sample k of len. -/
  | ramp (a : Int) (b : Int) (k : Nat) (len : Nat)
  /-- A servo hold (R198): the last output before the drop, less FF. -/
  | servo (v : Int)
deriving DecidableEq, Repr

/-- The running state of a loop slot (R181, R188, R190). -/
structure Loop where
  /-- Integrator, Q2.30. -/
  integ : Int
  bq : Vector Bq 5
  satHi : Bool
  satLo : Bool
  /-- The output computed last, released at the loop's next sample, Q1.23 (R184). -/
  next : Int
  /-- Released outputs, newest first, 64 of them at most (R183, R206). -/
  hist : List Int
  /-- The sequencer uses bank 1 (R192). -/
  seqBank : Bool
  /-- The sequencer holds the integrator (R192). -/
  frozen : Bool
  drive : Drive
  /-- What a kick or a brake adds to the output, Q1.23 (R205, R206). -/
  kick : Int
  /-- The input of the last sample, Q1.23. -/
  x : Int
  /-- The feed-forward of the last sample, Q1.23. -/
  ff : Int
deriving DecidableEq, Repr

/-- The sequencer of a station, beyond its status register (R200 to R209). -/
structure Seq where
  cmd : Nat
  arg : Int
  /-- The part of the step under way that STATE does not tell apart. -/
  sub : Nat
  /-- Quartz time at which that part began. -/
  since : Nat
  /-- Quartz time at which the kick of the jump under way ended (R207). -/
  kickEnd : Nat
  /-- Crossings or S-curves counted. -/
  count : Nat
  /-- The SA slot has taken its set-point. -/
  saTaken : Bool
  /-- Consecutive samples that count toward gaining and losing focus lock and tracking lock (R197). -/
  fGood : Nat
  fBad : Nat
  tGood : Nat
  tBad : Nat
  /-- Samples of the servo hold in force (R198). -/
  held : Option Nat
  /-- Samples for which D has stayed below FOK_LEVEL (R197). -/
  low : Nat
  /-- The rotor's advance over which learning has run, in counts of the angle, and the angle at its last sample, none where learning
  has paused since (R196). -/
  turned : Nat
  lastAngle : Option Nat
  /-- What a STOP of this tick found: focus lock, tracking lock, and the samples of a servo hold in force (R210). -/
  atStop : Option (Bool × Bool × Option Nat)
deriving DecidableEq, Repr

/-- Beryl beyond its registers. -/
structure Brl where
  /-- The photodiode means of each station's last 16 ticks, newest first: TILT's input is the mean over its own loop period (R184). -/
  pds : Vector (List (List Int)) 8
  /-- Number of the next tick, modulo 400 (R182). -/
  tick : Nat
  loops : Vector Loop 96
  seq : Vector Seq 8
deriving DecidableEq, Repr

/-- Jasper beyond its registers (R213, R214). -/
structure Jsp where
  /-- The copies of JSP_CTRL, JSP_TRIG, JSP_TRIG_LEVEL and of the channels that ARM took. -/
  ctrl : Word
  trig : Word
  level : Word
  chans : Vector Word 32
  /-- Ticks since the last sample, the next address, samples still to be taken after the trigger. -/
  ticks : Nat
  addr : Nat
  left : Nat
  /-- The value the watched channel had at the last sample. -/
  lastVal : Int
  /-- A trigger has been asked for and waits for the next sample. -/
  due : Bool
  /-- The samples, 24 bits each, keyed 65,536 × channel + address; an address never written reads 0. -/
  mem : SMap (BitVec 24)
deriving DecidableEq, Repr

/-- The spindle drive of a station, beyond its registers. Currents and voltages are Q1.23 (R223). -/
structure Spn where
  id : Int
  iq : Int
  vd : Int
  vq : Int
  /-- Phase duties of the period, exact fractions of it, and the phase currents at its sample (R224, R225). -/
  duty : Vector Rat 3
  phase : Vector Int 3
  /-- The bridge switches. -/
  bridge : Bool
  /-- The lowest q-axis current that keeps the bus power at or above PMARGIN (R238), where that limit is in force. -/
  iqFloor : Option Int
  /-- The speed reference that SPN passes to the SPEED slot (R231), in units of 1/512 rpm, exact. -/
  ref : Rat
  /-- Quartz time at which the step of the start or stop under way began. -/
  since : Nat
  /-- In IF_RAMP: the ramp has ended and the wait for the observer runs (R234 step 4). -/
  waitObs : Bool
  /-- Speed at which the open-loop ramp began, Q1.23. -/
  ifFrom : Int
  /-- Start attempts that have failed (R234). -/
  tries : Nat
  /-- Braking ends in ALIGN, not STOPPED (R235), or in FAULT (R233). -/
  thenAlign : Bool
  thenFault : Bool
  /-- This short brake ends a loss braking, for which the loss queue waits (R239). -/
  lossShort : Bool
  /-- Loss braking goes over to active braking at 600 rpm (R235). -/
  lossTo600 : Bool
  /-- Quartz times of observer losses in RUN (R236). -/
  losses : List Nat
  /-- Since when: the angle error is below 10°, the angle error is above 30°, the speed is within 0.1 % with the reference at the
  set-point, the speed is outside 0.5 % (R228, R232). -/
  errLow : Option Nat
  errHigh : Option Nat
  inBand : Option Nat
  offBand : Option Nat
  /-- The electrical angle of the drive at the last sample, 65,536 to a turn, and the speed at which it goes on, 1/512 rpm; both at the sample
  before it too (R224). -/
  elec : Nat
  rate : Rat
  elecOld : Nat
  rateOld : Rat
  /-- The observer (R227): the phase currents at the last sample in A, the back-EMF at it and at the one before in V, both in stationary
  coordinates; its electrical angle, 65,536 to a turn, its speed, 1/512 rpm, and its angle error in the unit of the angle. -/
  amps : Rat × Rat
  emf : Rat × Rat
  emfOld : Rat × Rat
  obsAngle : Rat
  obsSpeed : Rat
  obsErr : Rat
  /-- The mechanical angle accumulated in this epoch, in counts, exact (R229). -/
  mech : Rat
  /-- Encoder updates since that period. -/
  subs : Nat
deriving DecidableEq, Repr

/-- The bus unit, beyond its registers (R240 to R243). -/
structure Bus where
  /-- Quartz time of the chopper's turn-on. -/
  chopOn : Nat
  /-- Its current has reached CHOP_IMIN within 20 µs of that; the bus voltages of the last 1 ms, with their times, from 200 µs after it; since
  when its current has exceeded CHOP_IMIN while it is off (R242). -/
  drawn : Bool
  rise : List (Nat × Nat)
  stuck : Option Nat
  /-- Since when the bus has stayed below 27.0 V. -/
  below : Option Nat
  /-- The peak since the trip, 10 mV. -/
  peak : Nat
deriving DecidableEq, Repr

/-- Why a sled ramps to rest. -/
inductive StopFor
  | idle | unref | retarget
  /-- A homing step ends; the next one follows. -/
  | homing (step : Nat)
deriving DecidableEq, Repr

/-- The sled of a station, beyond its registers. Positions are exact, in table steps; speeds in µm/s, positive outward. -/
structure Sld where
  /-- The profile's position at the last 10 kHz tick and at the one before it. -/
  pos : Rat
  prev : Rat
  vel : Rat
  /-- 200 kHz updates since the last tick. -/
  subs : Nat
  /-- The commanded position, in units of 2⁻⁴⁰ table steps (R249). -/
  cmd : Int
  target : Int
  /-- The target that follows a stop (R257). -/
  nextTarget : Option Int
  /-- The ramp under way brakes at LIMIT_DECEL. -/
  limitRamp : Bool
  stopFor : StopFor
  /-- The profile brakes at a_req because a lowered DECEL was clamped (R256). -/
  clamped : Bool
  /-- Step of the homing sequence (R268), and where it began. -/
  homeStep : Nat
  homeFrom : Rat
  /-- The geared position, in units of 2⁻⁴⁰ table steps (R259). -/
  geared : Int
  /-- The angle of the last update, and its epoch. -/
  angle : Nat
  epoch : Nat
  /-- The SLED slot's output at the last tick and the one before, and at ENGAGE, in units of 2⁻⁴⁰ table steps. -/
  corr : Int
  corrOld : Int
  corrBase : Int
  /-- The next ratio and the change position that ARM_CHANGE latched. -/
  nextRatio : Int
  changePos : Int
  /-- Quartz time since when the sled has been at rest; its current has fallen to I_HOLD (R250). -/
  restFrom : Nat
  holding : Bool
  /-- The regulators' integrals and the voltages they drive, V (R250). -/
  intA : Rat
  intB : Rat
  outA : Rat
  outB : Rat
  /-- The duties of the four outputs, exact fractions of a period: the two of phase A, then the two of phase B (R250). -/
  pwm : Vector Rat 4
  /-- The bridge went off by the 32.0 V trip (R254). -/
  tripped : Bool
  /-- A HALT waits for the next tick (R252). -/
  halt : Bool
  /-- No profile tick of the move has come yet: it is at its start, which is the unit's boundary (R30, R255). -/
  fresh : Bool
  /-- A MOVE has come since the last profile tick, and the armed target that it replaced (R257, R270). -/
  moveNew : Bool
  moveFrom : Option Int
  /-- The profile brakes on to its target (R256). -/
  braking : Bool
  /-- A limit stop that the next tick logs: its cause and its position in whole table steps (R263, R266, R270). -/
  limit : Option (Nat × Int)
  /-- The levels of the HOME and END inputs that qualified last (R264). -/
  homeLevel : Option Bool
  endLevel : Option Bool
deriving DecidableEq, Repr

/-- What a station's motions are for, beyond STN_STATUS: the sequence it goes through. -/
inductive StnTask
  | none
  /-- Returning to ACTIVE from an idle state (R285). -/
  | wake
  /-- Recovering after a disturbance (R287). -/
  | recover
  /-- Changing speed (R286). -/
  | speed
  /-- Waiting for every beam's cluster boundary before idling, releasing or calibrating. -/
  | toIdle | toRelease
  /-- Braking toward PARKED. -/
  | toPark
  /-- Braking after a rejected disc. -/
  | toReject
deriving DecidableEq, Repr

/-- The wobble measurement of a station (R280): the last sample of the push-pull signal, the time from the last zero crossing to it, the time of the
half periods counted so far, and their number; times in samples. -/
structure Wob where
  last : Option Int
  since : Option Rat
  total : Rat
  halves : Nat
deriving DecidableEq, Repr

/-- A station beyond its registers. -/
structure Stn where
  /-- The measurement under way (R280). -/
  meas : Wob
  /-- The measured wobble period, in units of 2⁻²¹ samples; its 128th part is the seed (R95, R280). -/
  wob : Nat
  adip : Vector Adip 4
  /-- FORMAT of the last ADIP word decoded (R281). -/
  format : Nat
  /-- The written frontier of each arm: the first blank slot in fill order (R282); none until found. -/
  fronts : Vector (Option Nat) 4
  task : StnTask
  /-- The order that released it: OFFLINE, and RETIRE (R290). -/
  toOffline : Bool
  retire : Bool
  /-- Quartz time at which the running idle timer started (R284). -/
  idleFrom : Nat
  /-- Quartz times of recoveries in the window (R287). -/
  recoveries : List Nat
  /-- Clusters whose reading a READ, a rebuild or Garnet waits for (R283), PCAs. -/
  reads : List Nat
  /-- Layers still to try for an address (R278 step 3), and layer information read so far. -/
  tryLayer : Nat
  layersRead : Nat
  /-- Beryl has logged STATION_LOST for the shed station (R288). -/
  shedTold : Bool
  /-- The DEPTH and POWER_START records found good, by layer (R86, R278 step 4). -/
  infoGood : BitVec 16
  /-- The back-EMF speed was below 60 rpm when last measured, with the bridge off since (R294). -/
  slow : Bool
  /-- Step of the task under way, and Quartz time at which the wait for an address or the step began. -/
  step : Nat
  since : Nat
  /-- Homing has been tried in this mount (R279). -/
  homed : Bool
  /-- The working layer is calibrated before the task ends (R285, R307). -/
  calAfter : Bool
  /-- A new SPEED is still to be written to SPEED_SEL (R286). -/
  speedDue : Bool
  /-- Quartz time of a station reset that found no disc (R295). -/
  resetAt : Option Nat
  /-- The frontiers of its disc are to be searched again before it next writes (R323). -/
  research : Bool
deriving DecidableEq, Repr

/-- The figures of one read or ladder cluster of a calibration (R297), each a mean over the lanes that published one. -/
structure CalFig where
  margin : Option Rat
  tilt : Option Rat
  /-- Taps 0 to 14, means over the data lanes. -/
  taps : Option (List Rat)
  /-- Asymmetry of each beam's verify lane, Q1.15. -/
  asym : Vector (Option Int) 4
deriving DecidableEq, Repr

/-- A calibration that runs (R305), with the copy of the configuration it took at step 1 (R309). -/
structure CalRun where
  layer : Nat
  /-- It runs in the outer test zone. -/
  outer : Bool
  /-- 0 moving to the test slots; 1 probe; 2 to 14 the read passes; 15 to 18 the ladder; 19 returning. -/
  step : Nat
  restarted : Bool
  grid : Word
  tempset : Word
  /-- The values loaded as it started: focus, tilt, SA, and the power of each beam. -/
  focus : Int
  tilt : Int
  sa : Int
  pw : Vector Nat 4
  /-- The SA and focus values chosen so far. -/
  newSa : Int
  newFocus : Int
  newTilt : Int
  figs : List CalFig
  /-- Beams whose results count (R309). -/
  beams : Nat
  edges : Nat
  /-- Quartz time at which it began. -/
  began : Nat
deriving DecidableEq, Repr

/-- A calibration that is pending (R308). -/
structure CalPend where
  layer : Nat
  since : Nat
  now : Bool
deriving DecidableEq, Repr

/-- Calibration of one station, beyond the registers. -/
structure CalStn where
  run : Option CalRun
  pend : List CalPend
  /-- DEPTH and POWER_START of each layer (R86, R278 step 4). -/
  depth : Vector Nat 16
  power : Vector Nat 16
  /-- SERIAL, SA_K and SA_D0 of the pickup image last read (R300). -/
  serial : Option Nat
  saK : Option Int
  saD0 : Option Nat
  /-- DISC_ID of the disc on which the sets were made (R301). -/
  disc : Nat
  /-- Temperature of the set last loaded for the working layer (R307). -/
  loaded : Option Int
  /-- Consecutive clusters with MARGIN_MEAN below MARGIN_TRIG, by beam (R307). -/
  low : Vector Nat 4
  /-- Consecutive failed reads of the pickup temperature (R302). -/
  badReads : Nat
  /-- The next blank test slot, keyed 8 × layer + 4 × outer zone + arm (R67). -/
  tests : SMap Nat
  /-- The set words that the driver wrote last, and the Quartz time at which it did (R309). -/
  wrote : List (Nat × Word)
  wroteAt : Nat
deriving DecidableEq, Repr

/-- What holds a buffer page. -/
inductive PageSt
  /-- Allocated to a write whose data is not yet complete. -/
  | filling
  /-- Its data is in the buffer, not yet acknowledged. -/
  | inBuffer
  /-- Acknowledged, waiting for its stream's open cluster (R132). -/
  | acked
  /-- In a cluster of a stripe. -/
  | joined
deriving DecidableEq, Repr

/-- One 4 KiB page of the data pool that is in use (R317, R318): one logical block of one version. -/
structure Page where
  vol : Nat
  lba : Nat
  ver : Nat
  reel : Nat
  group : Nat
  /-- Place of its write in admission order (R389). -/
  adm : Nat
  st : PageSt
  bytes : List Byte
  /-- The partner has confirmed its copy (R441), and the partner may free its own. -/
  mirrored : Bool
  /-- Held for the partner: a page of the partner's that this FY8C mirrors. -/
  foreign : Bool
  /-- Its content has been lost (R323). -/
  lost : Bool
  /-- Its stripe's changes are in the map (R21 stage 8); it waits for its group to become visible or for the partner's copy. -/
  mapped : Bool
  /-- The partner's copy may be freed (R318). -/
  peerFree : Bool
deriving DecidableEq, Repr

/-- Training of one DRAM channel (R313, R315). -/
inductive Train
  | none | trained | failed
deriving DecidableEq, Repr

/-- BUF beyond its registers. -/
structure Buf where
  pages : SMap Page
  /-- The retirement table: space 0 pool, 1 and 2 the system copies; page number (R328). -/
  retired : List (Nat × Nat)
  /-- Corrected nibbles of a page since the last device reset, keyed by 4 × page + space (R327). -/
  ceCounts : SMap Nat
  /-- Pages whose retirement has been advised since the last device reset, keyed likewise. -/
  advised : List Nat
  train : Vector Train 4
  /-- The fitting each channel reported at its last attempt (R313). -/
  fits : Vector (Option Fitting) 4
  /-- Training attempts made on each channel (R315). -/
  attempts : Vector Nat 4
  /-- The pool's size in pages before retirement (R317). -/
  poolSize : Nat
  /-- Pages of the pool written with valid check bits so far (R319). -/
  written : Nat
  /-- GLB_TEMP3 at the last training of steps 4 and 5 of each channel, Q10.6 (R314). -/
  trainTemp : Vector Int 4
  /-- The interval oscillator of each rank as last read (R314), by 2 × channel + rank. -/
  wck : Vector Nat 8
  /-- How often write timing was adjusted and steps 4 and 5 retrained (R314). -/
  retrains : Nat
  /-- Pages the image's retirement list names (R329), retired before the pool opens. -/
  imageRetire : List (Nat × Nat)
deriving DecidableEq, Repr

/-- A LOGICAL entry (R338). -/
structure LogicalE where
  lost : Bool
  vol : Nat
  k : Nat
  p : Nat
  narrow : Bool
  member0 : Nat
  version : Nat
  lba : Nat
  blocks : Nat
  group : Nat
  stripe0 : Nat
  reel : Nat
deriving DecidableEq, Repr

/-- A RUN entry (R338). -/
structure RunE where
  ws : Nat
  arms : Nat
  disc : Nat
  layout : Nat
  serial0 : Nat
  count : Nat
  pca0 : Nat
  time : Nat
deriving DecidableEq, Repr

/-- A MEMBER entry (R338). -/
structure MemberE where
  relocated : Bool
  rot : Nat
  ws : Nat
  disc : Nat
  layout : Nat
  serial : Nat
  pca : Nat
  time : Nat
deriving DecidableEq, Repr

/-- A DISC entry (R338): the recorded frontiers of arms 0 to 3. -/
structure DiscE where
  id : Nat
  front : Vector Nat 4
deriving DecidableEq, Repr

/-- A SEAL entry (R338). -/
structure SealE where
  vol : Nat
  k : Nat
  p : Nat
  narrow : Bool
  member : Nat
  length : Nat
  stripe : Nat
  reel : Nat
deriving DecidableEq, Repr

/-- An entry of the extent table (R337); a FREE entry is not listed. -/
inductive Entry
  | logical (e : LogicalE)
  | run (e : RunE)
  | member (e : MemberE)
  | disc (e : DiscE)
  | sealed (e : SealE)
deriving DecidableEq, Repr

/-- A way of an Onyx set (R345). -/
structure OnxWay where
  set : Nat
  way : Nat
  line : Nat
  dirty : Bool
deriving DecidableEq, Repr

/-- A lock tag (R347). -/
structure OnxLock where
  set : Nat
  way : Nat
  line : Nat
deriving DecidableEq, Repr

/-- A line whose fill is outstanding or queued (R346, R349). -/
structure OnxMiss where
  line : Nat
  /-- ONYX_MISS has chosen its way; none while it waits in the miss queue. -/
  way : Option Nat
  poisoned : Bool
  /-- A table change waits to be laid into it. -/
  dirty : Bool
  /-- It missed after the operation that runs (R349): it waits until that has passed the line. -/
  after : Bool
deriving DecidableEq, Repr

/-- The maintenance operation that runs (R348): its CMD, its entries, and the lines that missed before it. -/
structure OnxOp where
  cmd : Nat
  first : Nat
  count : Nat
  before : List Nat
deriving DecidableEq, Repr

/-- Onyx beyond its registers. -/
structure Onx where
  ways : List OnxWay
  locks : List OnxLock
  /-- The victim cache, oldest first: line and whether it is dirty. -/
  victims : List (Nat × Bool)
  /-- The pseudo-LRU tree of each set, 15 bits (R346). -/
  tree : SMap (BitVec 15)
  lfsr : BitVec 16
  misses : List OnxMiss
  op : Option OnxOp
  /-- Lines whose poisoned fill has come for the requests that missed before the operation (R349). -/
  given : List Nat
deriving DecidableEq, Repr

/-- States of a commit group (R352). -/
inductive GrpSt
  | opened | closing | visible | durable | rolledBack
deriving DecidableEq, Repr

/-- A commit group (R351). -/
structure Grp where
  id : Nat
  fn : Nat
  st : GrpSt
  /-- Member WRITEs admitted, and of them completed SUCCESS. -/
  joined : Nat
  good : Nat
  /-- The tag of its COMMIT_CLOSE, once admitted. -/
  closeTag : Option Nat
deriving DecidableEq, Repr

/-- Stages of a reel (R383, R384, R476). -/
inductive ReelSt
  | opened | closing | closed | signed
deriving DecidableEq, Repr

/-- A mark of a reel (R475). -/
structure Mark where
  time : Nat
  tc : Nat
  offset : Nat
deriving DecidableEq, Repr

/-- A reel (R383, R475). -/
structure Reel where
  serial : Nat
  vol : Nat
  fn : Nat
  window : Option Nat
  lba : Nat
  st : ReelSt
  blocks : Nat
  clusters : Nat
  openTime : Nat
  openTc : Nat
  closeTime : Nat
  closeTc : Nat
  marks : List Mark
  dropped : Nat
  chain : BitVec 512
  closeTag : Option Nat
  /-- A reel of the partner's, of which this FY8C records copy B (R476). -/
  copy : Bool
deriving DecidableEq, Repr

/-- A checkpoint on its way to one station's disc (R359). -/
structure CkptSt where
  station : Nat
  base : Bool
  parts : Nat
  passed : Nat
  /-- A part of it was dropped or the station became unavailable. -/
  out : Bool
  /-- Where the parts that have passed lie on its disc (R361). -/
  pcas : List Nat
deriving DecidableEq, Repr

/-- A checkpoint in progress (R359). -/
structure Ckpt where
  seq : Nat
  /-- The commands that wait for it: FLUSH and SEAL tags. -/
  tags : List Nat
  groups : List Nat
  stations : List CkptSt
  nextGroup : Nat
  nextReel : Nat
  nextStripe : Nat
  /-- Writes up to this place in admission order are covered. -/
  adm : Nat
deriving DecidableEq, Repr

/-- What a station's disc holds of the checkpoint chain (R360). -/
structure DiscChain where
  base : Nat
  deltas : Nat
  needBase : Bool
  /-- The next blank slot of each map zone and arm, keyed by 8 × layer + 4 × zone B + arm. -/
  fronts : SMap Nat
  /-- The disc it is the chain of. -/
  disc : Nat
  /-- Where the MAP clusters of the newest base and of the deltas after it lie, and those of them that are still to be read back in the
  sweep pass under way (R361). -/
  parts : List Nat
  check : List Nat
deriving DecidableEq, Repr

/-- Garnet beyond its registers. -/
structure Grn where
  /-- The table as lookups find it through Onyx. -/
  entries : SMap Entry
  /-- The two copies of the table in the system region (R317, R345). -/
  copies : Vector (SMap Entry) 2
  /-- New entries that wait for a free place in a full table (R344). -/
  waiting : List Entry
  /-- The line each journal record changed, oldest first (R356). -/
  journal : List Nat
  /-- Entries changed since the previous checkpoint (R357). -/
  changed : List Nat
  groups : List Grp
  nextGroup : Nat
  nextReel : Nat
  /-- Ceilings recorded by the newest complete checkpoint (R363). -/
  ceilGroup : Nat
  ceilReel : Nat
  ceilStripe : Nat
  reels : List Reel
  ckpts : List Ckpt
  nextSeq : Nat
  /-- Quartz time of the previous periodic cut (R359). -/
  lastCut : Nat
  chains : Vector DiscChain 8
  /-- Clusters whose loss has been reported (R150): stripe serial and rotation position. -/
  lostTold : List (Nat × Nat)
  /-- A delta checkpoint is due at once (R363). -/
  ceilingDue : Bool
  /-- The apply groups of the configuration transaction that runs (R364). -/
  cfgGroups : Word
  /-- Groups whose strobes wait for its end (R364). -/
  cfgWaits : Word
deriving DecidableEq, Repr

/-- A submission queue (R368). -/
structure Sq where
  base : Nat
  size : Nat
  head : Nat
  tail : Nat
  cq : Nat
  /-- 0 URGENT, 1 HIGH, 2 MEDIUM, 3 LOW; 4 admin. -/
  cls : Nat
  /-- Fetching has stopped: it is being deleted, or its admin pair taken down. -/
  stopped : Bool
  /-- The tag of the DELETE_SQ that waits for its commands. -/
  delTag : Option Nat
deriving DecidableEq, Repr

/-- A completion queue (R368, R372). -/
structure Cq where
  base : Nat
  size : Nat
  head : Nat
  tail : Nat
  phase : Bool
  vector : Nat
  ien : Bool
deriving DecidableEq, Repr

/-- Where an admitted command stands. -/
inductive CmdSt
  /-- Admitted, its work not yet begun or under way. -/
  | running
  /-- A WRITE whose data is in the buffer (R380). -/
  | inBuffer
  /-- A WRITE that is acknowledged, a READ that has taken its blocks: past its effective point (R391). -/
  | effective
  /-- Its completion entry waits to be written (R372). -/
  | completing
deriving DecidableEq, Repr

/-- An admitted command (R389); window writes (R418) are held likewise, with no tag of the queue engine. -/
structure Cmd where
  tag : Nat
  fn : Nat
  sq : Nat
  sqe : Sqe
  adm : Nat
  st : CmdSt
  /-- The version of a WRITE (R333). -/
  ver : Nat
  /-- The pages of a WRITE, in block order; empty while it waits for free pages (R318). -/
  bpns : List Nat
  /-- The window a window write came through (R418). -/
  window : Option Nat
  /-- An ABORT names it: the tag of the ABORT whose request is on its way (R394). -/
  abortBy : Option Nat
  /-- How far a FLUSH or a SEAL has come: 1 its checkpoint is taken; a FLUSH whose own checkpoint, of sequence number n, is complete
  while the partner's is not has n + 2. A SEAL holds its manifest's length here once its checkpoint is taken. -/
  note : Nat
  /-- The write's group is rolled back or it was dropped: its data is discarded. -/
  dead : Bool
  /-- Where its data lies in host memory, in order (R376). -/
  descs : List Desc
  /-- Data transfers that have not ended; none until the transfer begins. A FLUSH at a volume's copy has 0 once the home knows of it. -/
  left : Option Nat
  /-- What a FLUSH covers (R382), none until every WRITE of its volume admitted before it has completed: blocks still in the buffer (volume,
  block, version), and runs of blocks of its volume already mapped (first block, count, version). -/
  cover : Option (List (Nat × Nat × Nat) × List (Nat × Nat × Nat))
  /-- The commit groups that were not visible when a READ was admitted (R353). -/
  hidden : List Nat
deriving DecidableEq, Repr

/-- A completion entry that waits (R372, R377). -/
structure Cqe where
  fn : Nat
  cq : Nat
  tag : Nat
  result : Nat
  sq : Nat
  cid : Nat
  status : Nat
  degraded : Bool
deriving DecidableEq, Repr

/-- A fetched command on its way to admission (R388): its entry once it has been read, its descriptor list once that has been
read (R376), and whether a read of the list has failed. -/
structure Fetched where
  /-- The number of its fetch. -/
  id : Nat
  fn : Nat
  sq : Nat
  slot : Nat
  sqe : Option Sqe
  descs : Option (List Desc)
  failed : Bool
  /-- The bytes of its list as they arrive, and the transfers still to come. -/
  raw : List Byte
  left : Nat
  /-- The head of its SQ has still to move past its slot (R370). -/
  ahead : Bool
deriving DecidableEq, Repr

/-- The place of the arbiter in its rounds (R388). -/
structure Arb where
  /-- The last queue served of each class, keyed 8192 × function + queue: admin, URGENT, HIGH, MEDIUM, LOW. -/
  last : Vector Nat 5
  /-- The queue that holds the grant and the commands left of its burst. -/
  grant : Option (Nat × Nat)
  /-- Turns taken of HIGH, MEDIUM and LOW in this round, and the class whose place it is. -/
  turns : Vector Nat 3
  place : Nat
deriving DecidableEq, Repr

/-- HQE beyond its registers. -/
structure Hqe where
  /-- Queues, keyed 8192 × function + queue; function 0 is the PF. -/
  sqs : SMap Sq
  cqs : SMap Cq
  fetched : List Fetched
  cmds : List Cmd
  cqes : List Cqe
  nextAdm : Nat
  arb : Arb
  /-- The tag of the SET_POWER that waits. -/
  powerTag : Option Nat
  /-- The number of the next fetch. -/
  nextFetch : Nat
deriving DecidableEq, Repr

/-- What a read of host memory is for. -/
inductive DmaFor
  /-- The entry of a submission queue that a fetch reads, by the number of the fetch (R370). -/
  | sqe (id : Nat)
  /-- The descriptor list of a fetched command (R376). -/
  | list (id : Nat)
  /-- The data of an admitted WRITE, by its tag (R380). -/
  | data (tag : Nat)
  /-- A translation of a page (R413). -/
  | trans (page : Nat)
  /-- Nothing any more: the command it served has ended. -/
  | orphan
deriving DecidableEq, Repr

/-- A read of host memory that waits to be issued: its function, its purpose, the offset in the data, address and length. -/
structure DmaRead where
  fn : Nat
  use : DmaFor
  off : Nat
  addr : Nat
  len : Nat
deriving DecidableEq, Repr

/-- An outstanding non-posted request (R423): its tag, the read, when it was sent, the page whose translation it used, and the bytes that have arrived. -/
structure NpReq where
  tag : Nat
  read : DmaRead
  sent : Nat
  page : Option Nat
  got : List Byte
deriving DecidableEq, Repr

/-- What waits to be sent, in order (R393, R412, R427). -/
inductive Tx
  /-- A memory write of a function. -/
  | write (fn : Nat) (addr : Nat) (bytes : List Byte)
  /-- An MSI-X message of a function (R432). -/
  | msix (fn : Nat) (vector : Nat)
  /-- Assert_INTA or Deassert_INTA (R433). -/
  | intx (on : Bool)
deriving DecidableEq, Repr

/-- An entry of the address translation cache (R413): pages of 4 KiB. -/
structure AtsEntry where
  fn : Nat
  page : Nat
  phys : Nat
  rd : Bool
  wr : Bool
deriving DecidableEq, Repr

/-- An Invalidate Request under way (R414): the requests whose end it waits for. -/
structure AtsInv where
  fn : Nat
  itag : Nat
  waits : List Nat
deriving DecidableEq, Repr

/-- A block of window data under way (R418): its number in the stream, its page, which of its bytes have arrived. -/
structure WinPart where
  block : Nat
  bpn : Nat
  got : BitVec 4096
deriving DecidableEq, Repr

/-- A window's descriptor as the old map keeps it during the grace interval (R421), and the reel it was bound to. -/
structure OldMap where
  cfg : Word
  base : Word
  rid : Word
  reel : Nat
  since : Nat
deriving DecidableEq, Repr

/-- An ingest window beyond its registers (R416 to R421). -/
structure Win where
  /-- The block named at REEL_OPEN, where its stream begins (R417). -/
  lba : Nat
  parts : List WinPart
  /-- Blocks of the stream admitted so far. -/
  admitted : Nat
  old : Option OldMap
  /-- WINDOW_REFUSED has been logged since REFUSED was last cleared (R422). -/
  told : Bool
deriving DecidableEq, Repr

/-- A posted write that waits for credits (R412, R422). -/
inductive Posted
  | tlp (t : Tlp)
  | sqTail (fn : Fin 256) (q value : Nat)
  | cqHead (fn : Fin 256) (q value : Nat)
  | adminEnable (fn : Fin 256)
  | adminDisable (fn : Fin 256)
  | access (a : Access)
  | unmask (fn : Fin 256) (v : Nat)
deriving DecidableEq, Repr

/-- A TLP that holds back posted credits (R422): the window that takes it, the offset in it, whether the old map led there (R420), since when, and the TLP. -/
structure HeldTlp where
  win : Nat
  off : Nat
  old : Bool
  since : Nat
  tlp : Tlp
deriving DecidableEq, Repr

/-- PCX beyond its registers. -/
structure Pcx where
  /-- Configuration space, by 1024 × function + dword; an unlisted dword reads as its reset value (R407 to R410). -/
  cfg : SMap Word
  wait : List DmaRead
  reqs : List NpReq
  /-- Tags in quarantine (R423): tag, function, since when. -/
  quarantine : List (Nat × Nat × Nat)
  tx : List Tx
  ats : List AtsEntry
  invs : List AtsInv
  /-- Translation Requests whose access goes on untranslated: function and page (R413). -/
  plain : List (Nat × Nat)
  wins : Vector Win 256
  /-- The TLP that holds back posted credits for want of a page (R422). -/
  hold : Option HeldTlp
  /-- The posted writes that wait behind it, in arrival order (R412, R422). -/
  posted : List Posted
  /-- Quartz times of invalid doorbells of VFs (R429). -/
  doorbells : List (Nat × Nat)
deriving DecidableEq, Repr

/-- A data flit that waits for the partner's acknowledgement (R437). -/
structure Replay where
  seq : Nat
  body : FlitBody
  tries : Nat
deriving DecidableEq, Repr

/-- CorgeLink beyond its registers (R435 to R449). -/
structure Cgl where
  /-- The link carries flits. -/
  up : Bool
  retraining : Bool
  peer : Option PeerId
  txSeq : Nat
  rxSeq : Nat
  replay : List Replay
  /-- Data flits that wait for the link or for room in the replay buffer, and behind them those of a catch-up (R448). -/
  sendQ : List FlitBody
  sync : List FlitBody
  /-- Quartz time of the last valid flit (R445). -/
  lastFlit : Nat
  /-- Quartz time of the partner's last PAIR_ALIVE on the ring (R445). -/
  alive : Option Nat
  /-- Volumes taken over (R447), and volumes being handed back (R449). -/
  taken : BitVec 64
  /-- Home volumes of this FY8C that the partner took over and has not handed back. -/
  lent : BitVec 64
  handing : BitVec 64
  /-- The partner announced LEAVE (R445). -/
  left : Bool
  /-- Highest version applied to each block of the partner's volumes, keyed 2^48 × volume + block (R444). -/
  applied : SMap Nat
  /-- Writes that the partner has admitted and this FY8C has not applied yet, in the home's admission order (R440, R441). -/
  admits : List WriteRec
  /-- Groups whose step into VISIBLE the partner has confirmed, and FLUSH tags whose checkpoint it has completed, with its SEQ (R442). -/
  grpDone : List Nat
  flushDone : List (Nat × Nat)
  /-- The partner's map, kept in span mode (R440), and the ACKs of its windows. -/
  shadow : SMap Entry
  acks : SMap Nat
  /-- Clusters fetched from the partner's discs (R443): disc, PCA, user bytes, none when it could not be had, and whether it was
  rebuilt. -/
  remote : List (Nat × Nat × Option (List Byte) × Bool)
  /-- Remote reads asked for, and those the partner has asked for and that are not answered yet. -/
  asked : List (Nat × Nat)
  serve : List (Nat × Nat)
  /-- Versions of the catch-up that must still be read from disc (R448): volume, block, version. -/
  due : List (Nat × Nat × Nat)
  /-- FLUSHes the partner mirrors that wait for their checkpoint here (R442): tag, volume, place in admission order. -/
  flushes : List (Nat × Nat × List (Nat × Nat × Nat))
  /-- Close points of the home that wait for a stripe (R132): volume, reel, the blocks of the cluster with their versions. -/
  closes : List (Nat × Nat × List (Nat × Nat))
  /-- The one-way measurement of the last time stamp from the partner, ns (R458). -/
  oneWay : Option Int
deriving DecidableEq, Repr

/-- An action of the ring or of a pin, to be carried out at its time (R451, R455). -/
structure RingAct where
  typ : Nat
  arg : Nat
  time : Nat
  /-- The pin it came from; none where it came on the ring. -/
  pin : Option Nat
deriving DecidableEq, Repr

/-- A message the node repeats (R455): type, sequence number, action time, argument, copies still to be sent, and when the
next one is. -/
structure RingRep where
  typ : Nat
  seq : Nat
  time : Nat
  arg : Nat
  left : Nat
  due : Nat
deriving DecidableEq, Repr

/-- The Dorak node beyond its registers. -/
structure Drk where
  seq : Nat
  /-- Actions acted on: origin, type, sequence number (R455). -/
  seen : List (Nat × Nat × Nat)
  acts : List RingAct
  reps : List RingRep
  /-- TIME messages sent whose round trip is not measured yet (R454): sequence number and sending time. -/
  sent : List (Nat × Nat)
  /-- Messages of its own that are on the ring: type and sequence number (R452, R462). -/
  own : List (Nat × Nat)
  /-- Quartz time of the last TIME message of another node while it stands down (R462). -/
  stood : Option Nat
deriving DecidableEq, Repr

/-- Quartz beyond its registers (R457, R459). -/
structure Qtz where
  /-- Offset still to be removed by slewing, in units of 2⁻¹⁶ ns. -/
  slew : Int
  /-- That offset as it was measured: slewing takes at least 1 s to remove it. -/
  slewFrom : Int
  /-- Fraction of a nanosecond of the time, in units of 2⁻¹⁶ ns. -/
  frac : Nat
  /-- Frame periods of the last good LTC frames, µs, newest first; frames since the last good one. -/
  periods : List Nat
  bad : Nat
  /-- Good frames in a row, and the Quartz time at which the last one ended. -/
  run : Nat
  lastGood : Nat
  /-- The rate the measurements select, and for how many good frames it has held. -/
  cand : Nat
  held : Nat
  /-- Rate of Quartz against its crystal under SOURCE LTC, in units of 2⁻³². -/
  rate : Nat
  /-- By how much ns the follower of each domain other than PCIe is ahead of Quartz, in the order of R27: core, DSP, Beryl, DRAM controller,
  stations 0 to 7, CorgeLink, Dorak, management (R31). -/
  skew : Vector Int 15
deriving DecidableEq, Repr

/-- A flash command that runs (R478): 0 READ, 1 PROGRAM, 2 ERASE; its address and its length. -/
structure FlashOp where
  cmd : Nat
  addr : Nat
  len : Nat
deriving DecidableEq, Repr

/-- A sealed manifest that TRU keeps (R477): the reel serial, and the manifest's bytes in the order they are signed. -/
structure Manifest where
  reel : Nat
  bytes : List Byte
deriving DecidableEq, Repr

/-- A request through the PF's mailbox (R472). -/
inductive DoeReq
  | version
  | capabilities
  /-- Whether the requester offers the algorithms of R472. -/
  | algorithms (offered : Bool)
  | digests
  | certificate (slot offset len : Nat)
  /-- `transcript` is what the responder signs (R472). -/
  | challenge (slot : Nat) (transcript : List Byte)
  | measurements (index : Nat) (signed : Bool) (transcript : List Byte)
deriving DecidableEq, Repr

/-- TRU beyond its registers. -/
structure Tru where
  /-- The xSPI flash (R464, R465): an unlisted byte reads as erased. -/
  flash : SMap Byte
  /-- The fused owner public keys (R482), empty until PROVISION. -/
  ownerKeys : List Byte
  /-- The boot and configuration image headers, bytes 0 to 87, of what runs (R473). -/
  bootHdr : List Byte
  cfgHdr : List Byte
  /-- The slot whose lane microcode has been loaded (R119, R479). -/
  ucodeSlot : Nat
  /-- The slot that ran before the last ACTIVATE (R468). -/
  prior : Nat
  flashOp : Option FlashOp
  /-- The TRU_UPDATE_CMD command that runs: 1 VERIFY, 2 ACTIVATE, 4 PROVISION, 5 RAISE_SEC. -/
  updOp : Option Nat
  /-- The minimum that a running RAISE_SEC fuses. -/
  secTo : Nat
  /-- SPDM: whether version, capabilities and algorithms have been negotiated (R472). -/
  spdmVersion : Bool
  spdmCaps : Bool
  spdmAlgs : Bool
  /-- SPDM requests that wait for the switch of an ACTIVATE, oldest first (R481). -/
  doeWait : List DoeReq
  /-- Manifests of the last 4,096 reels sealed since the last device reset, newest first (R477). -/
  manifests : List Manifest
  /-- Quartz time of the last activation (R479): TRIAL lasts 10 s from it. -/
  trialFrom : Nat
  /-- Flash areas whose programming a power loss interrupted (R478): first byte and length. -/
  torn : List (Nat × Nat)
deriving DecidableEq, Repr


/-- What the PF's mailbox answers (R472). The fields are those of DOE Discovery and of SPDM 1.3, whose encoding stands outside the
spec; `sigEd` and `sigMl` are the signature of a signed response and that of its Olelm element. -/
inductive DoeAnswer
  /-- Discovery: the protocol at an index (0 DOE Discovery, 1 SPDM), and the next index, 0 at the end. -/
  | discovery (protocol : Nat) (next : Nat)
  | version (major minor : Nat)
  | capabilities
  | algorithms
  /-- The digest of each chain. -/
  | digests (ds : List (List Byte))
  /-- A part of a chain, and how much follows it. -/
  | certificate (slot : Nat) (part : List Byte) (left : Nat)
  | challenge (slot : Nat) (chain : List Byte) (sigEd sigMl : List Byte)
  /-- The number of measurements there are, those asked for by index, and signatures where asked for. -/
  | measurements (total : Nat) (ms : List (Nat × List Byte)) (sigs : Option (List Byte × List Byte))
  | error
deriving DecidableEq, Repr

/-- A loop slot after reset. -/
def Loop.init : Loop := ⟨0, Vector.replicate 5 ⟨0, 0, 0, 0⟩, false, false, 0, [], false, false, .parked, 0, 0, 0⟩

/-- A sequencer after reset. -/
def Seq.init : Seq := ⟨0, 0, 0, 0, 0, 0, false, 0, 0, 0, 0, none, 0, 0, none, none⟩

/-- A spindle drive after reset. -/
def Spn.init : Spn where
  id := 0
  iq := 0
  vd := 0
  vq := 0
  duty := Vector.replicate 3 0
  phase := Vector.replicate 3 0
  bridge := false
  iqFloor := none
  ref := 0
  since := 0
  waitObs := false
  ifFrom := 0
  tries := 0
  thenAlign := false
  thenFault := false
  lossShort := false
  lossTo600 := false
  losses := []
  errLow := none
  errHigh := none
  inBand := none
  offBand := none
  elec := 0
  rate := 0
  elecOld := 0
  rateOld := 0
  amps := (0, 0)
  emf := (0, 0)
  emfOld := (0, 0)
  obsAngle := 0
  obsSpeed := 0
  obsErr := 0
  mech := 0
  subs := 0

/-- A sled after reset. -/
def Sld.init : Sld where
  pos := 0
  prev := 0
  vel := 0
  subs := 0
  cmd := 0
  target := 0
  nextTarget := none
  limitRamp := false
  stopFor := .idle
  clamped := false
  homeStep := 0
  homeFrom := 0
  geared := 0
  angle := 0
  epoch := 0
  corr := 0
  corrOld := 0
  corrBase := 0
  nextRatio := 0
  changePos := 0
  restFrom := 0
  holding := false
  intA := 0
  intB := 0
  outA := 0
  outB := 0
  pwm := Vector.replicate 4 0
  tripped := false
  halt := false
  fresh := false
  moveNew := false
  moveFrom := none
  braking := false
  limit := none
  homeLevel := none
  endLevel := none

/-- A station after reset. -/
def Stn.init : Stn where
  meas := ⟨none, none, 0, 0⟩
  wob := 0
  adip := Vector.replicate 4 ⟨none, [], none⟩
  format := 0
  fronts := Vector.replicate 4 none
  task := .none
  toOffline := false
  retire := false
  idleFrom := 0
  recoveries := []
  reads := []
  tryLayer := 0
  layersRead := 0
  shedTold := false
  infoGood := 0
  slow := false
  step := 0
  since := 0
  homed := false
  calAfter := false
  speedDue := false
  resetAt := none
  research := false

/-- A station's calibration after reset: the depths are the nominal ones of R60 until a record is read (R299). -/
def CalStn.init : CalStn :=
  ⟨none, [], Vector.ofFn (fun l => 1300 - 53 * l.val - 5 * (l.val % 2)), Vector.replicate 16 0, none, none, none, 0, none, Vector.replicate 4 0, 0, [],
    [], 0⟩

/-- A station's write strategy block after reset. -/
def Wrs.init : Wrs := ⟨Vector.replicate 4 ⟨none, none, [], 0, 0, 0#16, false, 0, [], [], none⟩, [], []⟩

/-- Topaz after reset. -/
def Tpz.init : Tpz :=
  ⟨[], [], [], [], 0#8, Vector.replicate 8 0, Vector.replicate 8 0, Vector.replicate 8 0, []⟩

/-- The buffer after reset: no channel is trained. -/
def Buf.init : Buf where
  pages := []
  retired := []
  ceCounts := []
  advised := []
  train := Vector.replicate 4 .none
  fits := Vector.replicate 4 none
  attempts := Vector.replicate 4 0
  poolSize := 0
  written := 0
  trainTemp := Vector.replicate 4 0
  wck := Vector.replicate 8 0
  retrains := 0
  imageRetire := []

/-- Onyx after reset: it holds no line. -/
def Onx.init : Onx := ⟨[], [], [], [], 1#16, [], none, []⟩

/-- Garnet after reset: the table is empty and nothing has been issued (R351, R363, R383). -/
def Grn.init : Grn where
  entries := []
  copies := Vector.replicate 2 []
  waiting := []
  journal := []
  changed := []
  groups := []
  nextGroup := 1
  nextReel := 1
  ceilGroup := 0
  ceilReel := 0
  ceilStripe := 0
  reels := []
  ckpts := []
  nextSeq := 1
  lastCut := 0
  chains := Vector.replicate 8 ⟨0, 0, true, [], 0, [], []⟩
  lostTold := []
  ceilingDue := false
  cfgGroups := 0
  cfgWaits := 0

/-- The queue engine after reset: no queue exists. -/
def Hqe.init : Hqe := ⟨[], [], [], [], [], 0, ⟨Vector.replicate 5 0, none, Vector.replicate 3 0, 0⟩, none, 0⟩

/-- A window after reset. -/
def Win.init : Win := ⟨0, [], 0, none, false⟩

/-- The endpoint after reset. -/
def Pcx.init : Pcx := ⟨[], [], [], [], [], [], [], [], Vector.replicate 256 Win.init, none, [], []⟩

/-- CorgeLink after reset. -/
def Cgl.init : Cgl where
  up := false
  retraining := false
  peer := none
  txSeq := 0
  rxSeq := 0
  replay := []
  sendQ := []
  sync := []
  lastFlit := 0
  alive := none
  taken := 0
  lent := 0
  handing := 0
  left := false
  applied := []
  grpDone := []
  flushDone := []
  shadow := []
  acks := []
  remote := []
  asked := []
  serve := []
  due := []
  flushes := []
  closes := []
  admits := []
  oneWay := none

/-- The ring node after reset. -/
def Drk.init : Drk := ⟨0, [], [], [], [], [], none⟩

/-- Quartz at power good. -/
def Qtz.init : Qtz := ⟨0, 0, 0, [], 0, 0, 0, 0, 0, 2 ^ 32, Vector.replicate 15 0⟩

/-- TRU at power good, with an erased flash. -/
def Tru.init : Tru where
  flash := []
  ownerKeys := []
  bootHdr := []
  cfgHdr := []
  ucodeSlot := 0
  prior := 0
  flashOp := none
  updOp := none
  secTo := 0
  spdmVersion := false
  spdmCaps := false
  spdmAlgs := false
  doeWait := []
  manifests := []
  trialFrom := 0
  torn := []

/-- What leaves the chip. -/
inductive Out
  /-- Read data of a register access (R51, R54). -/
  | readData (r : Req) (w : Word)
  /-- A request completed as Unsupported Request (R54). -/
  | unsupported (r : Req)
  /-- A word on laser-link pair m of station n (R160, R161). -/
  | laser (n : Nat) (m : Nat) (w : BitVec 40)
  /-- The rows that beam m of station n starts to write at a slot (R158). -/
  | written (n : Nat) (m : Nat) (pca : Nat) (rows : List (List Byte))
  /-- A memory read request with its tag (R404, R423): whether its address is translated (R413). -/
  | memRead (fn : Nat) (tag : Nat) (addr : Nat) (len : Nat) (translated : Bool)
  /-- A Translation Request with its tag (R413). -/
  | translate (fn : Nat) (tag : Nat) (page : Nat)
  /-- An Invalidate Completion (R414). -/
  | invalidated (fn : Nat) (itag : Nat)
  /-- A posted memory write (R372, R381, R419, R432): data, completion entries, notify writes, MSI-X messages. -/
  | memWrite (fn : Nat) (addr : Nat) (bytes : List Byte) (translated : Bool)
  /-- Assert_INTA or Deassert_INTA (R433). -/
  | intx (on : Bool)
  /-- A completion of a configuration request: data, or none for Configuration Request Retry Status (R405). -/
  | cfgDone (fn : Nat) (data : Option Word)
  /-- A configuration request or a memory request completed as Unsupported Request (R411, R430). -/
  | refused (rid : Nat)
  /-- The zero data of a read of BAR2 (R411). -/
  | zeroes (rid : Nat) (len : Nat)
  /-- A data flit to the partner (R437), and a control flit's news (R436). -/
  | flit (seq : Nat) (body : FlitBody)
  | ctl (c : Ctl)
  /-- A message leaves OUT of the Dorak ring (R452, R453). -/
  | ring (bytes : List Byte)
  /-- An answer through the mailbox of the PF (R472). -/
  | doe (a : DoeAnswer)
  /-- A TLP that carries ECRC (R404). -/
  | digest (tlp : Out)
deriving DecidableEq, Repr

/-- The state of the FY8C. -/
structure State where
  /-- The commands that wait, first in, first out. -/
  pending : List Instr
  /-- Active copies of configurable registers, and every other register, by BAR0 offset (R39, R41). -/
  regs : SMap Word
  /-- Pending copies of configurable registers (R39, R41). -/
  pend : SMap Word
  /-- Staging copies of the units that wait for their boundary (R45). -/
  stag : SMap Word
  /-- Configurable registers written since their last apply or rejection (R47, R49), rising. -/
  written : List Nat
  /-- The units whose staging copies wait (R45, R46). -/
  strobes : List Strobe
  rdShadows : List Shadow
  wrShadows : List Shadow
  /-- How many free values have been taken (the model's own field, not the spec's). -/
  free : Nat
  /-- What has left the chip, newest first. -/
  out : List Out
  sys : Sys
  evl : Evl
  tru : Tru
  lanes : Vector Lane 68
  stn : Vector Stn 8
  wrs : Vector Wrs 8
  tpz : Tpz
  buf : Buf
  grn : Grn
  onx : Onx
  hqe : Hqe
  /-- Clusters that wait for Topaz's decoder, oldest first (R111, R129). -/
  rx : List RxCluster
  brl : Brl
  jsp : Jsp
  spn : Vector Spn 8
  bus : Bus
  sld : Vector Sld 8
  cal : Vector CalStn 8
  /-- The registers of the VFs' BAR0s (R35), keyed 65,536 × VF + offset. -/
  vf : SMap Word
  pcx : Pcx
  cgl : Cgl
  drk : Drk
  qtz : Qtz
deriving DecidableEq, Repr

/-- The FY8C right after reset: held in reset by PWRGOOD, every register at its reset value (R42), nothing queued and nothing
under way (R504). -/
def State.reset : State where
  pending := []
  regs := []
  pend := []
  stag := []
  written := []
  strobes := []
  rdShadows := []
  wrShadows := []
  free := 0
  out := []
  sys := ⟨.power, false, false, 0, 0, false⟩
  evl := ⟨[], []⟩
  tru := Tru.init
  lanes := Vector.replicate 68 Lane.init
  stn := Vector.replicate 8 Stn.init
  wrs := Vector.replicate 8 Wrs.init
  tpz := Tpz.init
  buf := Buf.init
  grn := Grn.init
  onx := Onx.init
  hqe := Hqe.init
  rx := []
  brl := ⟨Vector.replicate 8 [], 0, Vector.replicate 96 Loop.init, Vector.replicate 8 Seq.init⟩
  jsp := ⟨0, 0, 0, Vector.replicate 32 0, 0, 0, 0, 0, false, []⟩
  spn := Vector.replicate 8 Spn.init
  bus := ⟨0, false, [], none, none, 0⟩
  sld := Vector.replicate 8 Sld.init
  cal := Vector.replicate 8 CalStn.init
  vf := []
  pcx := Pcx.init
  cgl := Cgl.init
  drk := Drk.init
  qtz := Qtz.init

end Sys2Proof.Machine
end

