-- ==== Sys2Proof/Machine/Data.lean ====
section
/-!
DEFINITION. Operations on the plain data that State is made of: sparse tables, fields of a 32-bit word, bytes.
-/

namespace Sys2Proof.Machine

/-- The value a sparse table lists for a key. -/
def smGet {α : Type} : SMap α → Nat → Option α
  | [], _ => none
  | (k', v) :: t, k => if k' = k then some v else smGet t k

/-- Remove a key. -/
def smErase {α : Type} : SMap α → Nat → SMap α
  | [], _ => []
  | (k', v) :: t, k => if k' = k then smErase t k else (k', v) :: smErase t k

/-- Put a key that is not listed into its place. -/
def smInsert {α : Type} : SMap α → Nat → α → SMap α
  | [], k, v => [(k, v)]
  | (k', v') :: t, k, v => if k < k' then (k, v) :: (k', v') :: t else (k', v') :: smInsert t k v

/-- List a value for a key, in place of what was listed. -/
def smPut {α : Type} (m : SMap α) (k : Nat) (v : α) : SMap α := smInsert (smErase m k) k v

/-- List a value for a key unless it equals what an unlisted key reads as. -/
def smSet {α : Type} [DecidableEq α] (d : α) (m : SMap α) (k : Nat) (v : α) : SMap α :=
  if v = d then smErase m k else smPut m k v

/-- The keys of a table rise strictly. -/
def smRising {α : Type} : SMap α → Bool
  | [] => true
  | (k, _) :: t => (match t with | [] => true | (k', _) :: _ => decide (k < k')) && smRising t

/-- The canonical form of a table whose unlisted keys read as `d`: rising keys, and no entry equal to `d` of its key. -/
def smWf {α : Type} [DecidableEq α] (d : Nat → α) (m : SMap α) : Bool :=
  smRising m && m.all (fun p => decide (p.2 ≠ d p.1))

/-- Field f of a word (R9). -/
def getF (w : Word) (f : FRef) : Nat := w.toNat / 2 ^ f.lo % 2 ^ f.w

/-- The bits of a field, as a mask. -/
def fieldMask (f : FRef) : Word := BitVec.ofNat 32 ((2 ^ f.w - 1) * 2 ^ f.lo)

/-- A word with field f set to v; the other bits stay (R9). -/
def setF (w : Word) (f : FRef) (v : Nat) : Word :=
  (w &&& ~~~ fieldMask f) ||| BitVec.ofNat 32 (v % 2 ^ f.w * 2 ^ f.lo)

/-- An unsigned field read as two's complement of its width (R7). -/
def toSigned (w v : Nat) : Int := if v < 2 ^ (w - 1) then (v : Int) else (v : Int) - 2 ^ w

/-- A signed value as the bits of a field of width w (R7). -/
def ofSigned (w : Nat) (v : Int) : Nat := (v % 2 ^ w).toNat

/-- A value kept between two bounds. -/
def clampI (lo hi v : Int) : Int := if v < lo then lo else if hi < v then hi else v

/-- The bytes of a number, most significant first, k of them (R82). -/
def bytesBE : Nat → Nat → List Byte
  | 0, _ => []
  | k + 1, v => bytesBE k (v / 256) ++ [BitVec.ofNat 8 v]

/-- The bytes of a number, least significant first, k of them (R10). -/
def bytesLE : Nat → Nat → List Byte
  | 0, _ => []
  | k + 1, v => BitVec.ofNat 8 v :: bytesLE k (v / 256)

/-- The number that bytes spell, most significant first (R82). -/
def numBE (bs : List Byte) : Nat := bs.foldl (fun a b => a * 256 + b.toNat) 0

/-- The number that bytes spell, least significant first (R10). -/
def numLE (bs : List Byte) : Nat := bs.foldr (fun b a => b.toNat + 256 * a) 0

/-- The number of bits set. -/
def popCount : Nat → Nat → Nat
  | 0, _ => 0
  | k + 1, v => v % 2 + popCount k (v / 2)

/-- The lowest of k bits that is set. -/
def lowestSet : Nat → Nat → Option Nat
  | 0, _ => none
  | k + 1, v => if v % 2 = 1 then some 0 else (lowestSet k (v / 2)).map (· + 1)

/-- Bit i of a number. -/
def bitOf (v i : Nat) : Nat := v / 2 ^ i % 2

/-- A truth value as a bit. -/
def b2n (b : Bool) : Nat := if b then 1 else 0

/-- Change one element of a vector. -/
def vmod {α : Type} {n : Nat} (v : Vector α n) (i : Fin n) (f : α → α) : Vector α n := v.set i (f v[i])

/-- Insert into a sorted list by a strict order, after the elements that do not come later. -/
def insertBy {α : Type} (lt : α → α → Bool) (x : α) : List α → List α
  | [] => [x]
  | y :: t => if lt x y then x :: y :: t else y :: insertBy lt x t

/-- Sort a list, equal elements in their order of appearance. -/
def sortBy {α : Type} (lt : α → α → Bool) : List α → List α
  | [] => []
  | x :: t => insertBy (fun a b => !(lt b a)) x (sortBy lt t)

/-- The stations, lowest first. -/
def stations : List (Fin 8) := [0, 1, 2, 3, 4, 5, 6, 7]

/-- The beams, lowest first. -/
def beams : List (Fin 4) := [0, 1, 2, 3]

end Sys2Proof.Machine
end

