-- ==== Sys2Proof/Config.lean ====
section
/-!
DEFINITION. What one FY8C part fixes, and the values the spec leaves open. Each is an opaque constant: nothing in Lean can
see its value, so a statement about the model holds whatever it is.
-/

namespace Sys2Proof.Config

/-- The unique die identifier of GLB_UID, "per die" (R56). -/
opaque uid : BitVec 64

/-- The PCI vendor ID, which the spec does not give (R407, R434). -/
opaque vendorId : BitVec 16

/-- Whether the owner keys were already fused (R482: one-time fuses, kept over power cycles). -/
opaque ownerKeysFused : Bool

/-- The fused minimum SEC_VERSION at first power-on (R468, R482). -/
opaque secMinFused : BitVec 32

/-- The owner public keys, where they were already fused. -/
opaque ownerKeys : List (BitVec 8)

/-- Whether a signature over a message verifies (R467): by Ed25519 or by ML-DSA-65, against owner keys, or against the Olelm image
keys where there are none. -/
opaque verifies (mlDsa : Bool) (keys : Option (List (BitVec 8))) (msg sig : List (BitVec 8)) : Bool

/-- The device's signature of a message (R471, R475): Ed25519 or ML-DSA-65. -/
opaque sign (mlDsa : Bool) (msg : List (BitVec 8)) : List (BitVec 8)

/-- The certificate chains in DER (R471): 0 Ed25519, 1 ML-DSA-65. -/
opaque certChain (chain : Nat) : List (BitVec 8)

/-- The digest of the boot ROM (R473). -/
opaque romDigest : List (BitVec 8)

/-- The lane microcode of a boot image body (R465), which a measurement digests (R473). -/
opaque microcode (body : List (BitVec 8)) : List (BitVec 8)

/-- What a configuration image body holds (R465), whose layout the spec does not give: register values by BAR0 offset, the Subsystem
IDs (R407), the page retirement list (R329), the stations to bring up (R469). -/
opaque imageRegs (body : List (BitVec 8)) : List (Nat × BitVec 32)
opaque imageSubsys (body : List (BitVec 8)) : BitVec 32
opaque imageRetire (body : List (BitVec 8)) : List (Nat × Nat)
opaque imageBringUp (body : List (BitVec 8)) : BitVec 8

/-- The measurement of the fuses (R473, index 5), a SHA-512 digest of the minimum SEC_VERSION and the digests of the owner keys, and that
of TRU_STATUS (index 6); how the digested bytes are laid out the spec does not say. -/
opaque fuseMeasure (min : BitVec 32) (keys : Option (List (BitVec 8))) : List (BitVec 8)
opaque statusMeasure (status : BitVec 32) : List (BitVec 8)

/-- The measurements of images (R473, indexes 2 to 4) while no image runs, which the spec does not give. -/
opaque noImageMeasure (index : Nat) : List (BitVec 8)

/-- The start value of the CRC-16 of a ring message (R453), which the spec does not give. -/
opaque ringCrcStart : BitVec 16

/-- The cause with which the check of R467 rejects an area that a power loss left half programmed (R478), which the spec does not give. -/
opaque tornCause : Nat

/-- How Jasper places a quantity that is wider than a trace sample in 24 bits (R213): 0 the integrator of a loop, 1 a position of a sled. -/
opaque trace24 (quantity : Nat) (value : Int) : Int

/-- The fifth-order anti-alias filter of a lane (R93) with its corner in MHz: the k-th sample of a stretch, in units of 2⁻¹⁶ µV. The spec gives
its order and its corners, and no response. -/
opaque antiAlias (corner : Nat) (x : List Int) (k : Nat) : Int

/-- Which of the two detected levels is a mark (R113); the spec does not say. -/
opaque markLevel : Bool

/-- The coefficient of tap j of the interpolator at one of its 64 phases (R94), in units of 2⁻¹⁴; the spec gives none. -/
opaque interp (phase j : Nat) : Int

/-- The level, in units of 2⁻²⁸ ADC codes, that a target coefficient of 2⁻⁶ stands for (R98, R100); the spec gives no scale. -/
opaque targetUnit : Nat

/-- The timing error that the detector of R96 forms from the two latest equaliser outputs and the target levels of the tentative
decisions for them, in units of 2⁻²¹ channel bits; the spec gives no form of it. -/
opaque phaseError (y0 y1 x0 x1 : Int) : Int

/-- The gains of the observer's tracking loop for a bandwidth of SPN_OBS.BW (R227), which alone the spec gives: 0 of its angle, 1 of its
speed in 1/512 rpm, per period and per 2⁻¹⁶ turn of angle error. -/
opaque observerGain (bw k : Nat) : Rat

/-- A free value: the k-th value that the spec says results without saying which. -/
opaque freeValue : Nat → Nat

end Sys2Proof.Config
end

