-- ==== Sys2Proof/Machine/RegTable.lean ====
section
/-!
DEFINITION. The layout of PF BAR0 as data: every register of every block with its offset, its fields, their access codes
(R13) and their reset values, taken from the register tables of the chapters; and the lookup of an offset in it.
-/

namespace Sys2Proof.Machine

/-- The access codes of R13. -/
inductive Acc
  | rw | ro | w1c | w1s | wo | rc | rwa
deriving DecidableEq, Repr

/-- A field of the layout: lowest bit, width, access code, reset value. -/
structure Field where
  lo : Nat
  w : Nat
  acc : Acc
  rst : Nat
deriving DecidableEq, Repr

/-- A row of a register table: the first register's offset, the (count, stride) of each index, whether it is the low (1) or
the high (2) word of a 64-bit register (R51) or neither (0), and its fields for given indexes. -/
structure Row where
  base : Nat
  dims : List (Nat × Nat)
  part : Nat
  fields : (Nat → Nat) → List Field

/-- A register: the word of a 64-bit register it is (0 neither, 1 low, 2 high), and its fields. -/
structure RegDef where
  part : Nat
  fields : List Field
deriving DecidableEq, Repr

/-- Entry i of the default microstep table (R273): the sine table's magnitudes for a quarter of a cycle. -/
def quarterSine : List Nat :=
  [0, 201, 402, 603, 804, 1005, 1206, 1407, 1608, 1809, 2009, 2210, 2410, 2611, 2811, 3012] ++
  [3212, 3412, 3612, 3811, 4011, 4210, 4410, 4609, 4808, 5007, 5205, 5404, 5602, 5800, 5998, 6195] ++
  [6393, 6590, 6786, 6983, 7179, 7375, 7571, 7767, 7962, 8157, 8351, 8545, 8739, 8933, 9126, 9319] ++
  [9512, 9704, 9896, 10087, 10278, 10469, 10659, 10849, 11039, 11228, 11417, 11605, 11793, 11980, 12167, 12353] ++
  [12539, 12725, 12910, 13094, 13279, 13462, 13645, 13828, 14010, 14191, 14372, 14553, 14732, 14912, 15090, 15269] ++
  [15446, 15623, 15800, 15976, 16151, 16325, 16499, 16673, 16846, 17018, 17189, 17360, 17530, 17700, 17869, 18037] ++
  [18204, 18371, 18537, 18703, 18868, 19032, 19195, 19357, 19519, 19680, 19841, 20000, 20159, 20317, 20475, 20631] ++
  [20787, 20942, 21096, 21250, 21403, 21554, 21705, 21856, 22005, 22154, 22301, 22448, 22594, 22739, 22884, 23027] ++
  [23170, 23311, 23452, 23592, 23731, 23870, 24007, 24143, 24279, 24413, 24547, 24680, 24811, 24942, 25072, 25201] ++
  [25329, 25456, 25582, 25708, 25832, 25955, 26077, 26198, 26319, 26438, 26556, 26674, 26790, 26905, 27019, 27133] ++
  [27245, 27356, 27466, 27575, 27683, 27790, 27896, 28001, 28105, 28208, 28310, 28411, 28510, 28609, 28706, 28803] ++
  [28898, 28992, 29085, 29177, 29268, 29358, 29447, 29534, 29621, 29706, 29791, 29874, 29956, 30037, 30117, 30195] ++
  [30273, 30349, 30424, 30498, 30571, 30643, 30714, 30783, 30852, 30919, 30985, 31050, 31113, 31176, 31237, 31297] ++
  [31356, 31414, 31470, 31526, 31580, 31633, 31685, 31736, 31785, 31833, 31880, 31926, 31971, 32014, 32057, 32098] ++
  [32137, 32176, 32213, 32250, 32285, 32318, 32351, 32382, 32412, 32441, 32469, 32495, 32521, 32545, 32567, 32589] ++
  [32609, 32628, 32646, 32663, 32678, 32692, 32705, 32717, 32728, 32737, 32745, 32752, 32757, 32761, 32765, 32766] ++
  [32767]

/-- Entry i of the reset microstep table (R273), as the 16 bits that hold it. -/
def sineEntry (i : Nat) : Nat :=
  let q := i % 1024
  let m := if q ≤ 256 then q else if q ≤ 512 then 512 - q else if q ≤ 768 then q - 512 else 1024 - q
  let v := (quarterSine[m]?).getD 0
  if q ≤ 512 ∨ v = 0 then v else 65536 - v

/-- The registers of block GLB, in the order of the spec's tables. -/
def rowsGlb : List Row := [
  ⟨0x0, [], 0, fun _ => [⟨16, 16, .ro, 8229⟩, ⟨12, 4, .ro, 8⟩, ⟨8, 4, .ro, 4⟩, ⟨4, 4, .ro, 8⟩, ⟨0, 4, .ro, 4⟩]⟩,
  ⟨0x4, [], 0, fun _ => [⟨8, 8, .ro, 1⟩, ⟨0, 8, .ro, 0⟩]⟩,
  ⟨0x8, [], 1, fun _ => [⟨0, 32, .ro, (Config.uid.toNat % 4294967296)⟩]⟩,
  ⟨0xC, [], 2, fun _ => [⟨0, 32, .ro, (Config.uid.toNat / 4294967296)⟩]⟩,
  ⟨0x10, [], 0, fun _ => [⟨6, 1, .w1c, 0⟩, ⟨5, 1, .w1c, 0⟩, ⟨4, 1, .w1c, 0⟩, ⟨3, 1, .w1c, 0⟩, ⟨2, 1, .w1c, 0⟩, ⟨1, 1, .w1c, 0⟩, ⟨0, 1, .w1c, 1⟩]⟩,
  ⟨0x14, [], 0, fun _ => [⟨16, 16, .wo, 0⟩, ⟨0, 1, .wo, 0⟩]⟩,
  ⟨0x20, [], 0, fun _ => [⟨0, 32, .wo, 0⟩]⟩,
  ⟨0x24, [], 0, fun _ => [⟨0, 32, .ro, 0⟩]⟩,
  ⟨0x28, [], 0, fun _ => [⟨5, 1, .rw, 0⟩, ⟨4, 1, .rw, 0⟩, ⟨3, 1, .rw, 0⟩, ⟨2, 1, .rw, 0⟩, ⟨1, 1, .rw, 0⟩, ⟨0, 1, .rw, 0⟩]⟩,
  ⟨0x30, [], 0, fun _ => [⟨31, 1, .w1c, 0⟩, ⟨30, 1, .w1c, 0⟩, ⟨24, 5, .ro, 0⟩, ⟨0, 22, .ro, 0⟩]⟩,
  ⟨0x34, [], 0, fun _ => [⟨0, 32, .rc, 0⟩]⟩,
  ⟨0x40, [(8, 0x4)], 0, fun _ => [⟨31, 1, .ro, 0⟩, ⟨0, 16, .ro, 0⟩]⟩,
  ⟨0x60, [], 0, fun _ => [⟨1, 1, .w1c, 0⟩, ⟨0, 1, .w1c, 0⟩]⟩,
  ⟨0x64, [], 0, fun _ => [⟨0, 16, .rwa, 7040⟩]⟩,
  ⟨0x68, [], 0, fun _ => [⟨0, 16, .rwa, 8000⟩]⟩,
  ⟨0x6C, [], 0, fun _ => [⟨0, 5, .rw, 0⟩]⟩]

/-- The registers of block HQE, in the order of the spec's tables. -/
def rowsHqe : List Row := [
  ⟨0x10000, [], 0, fun _ => [⟨0, 5, .rw, 1⟩]⟩,
  ⟨0x10004, [], 0, fun _ => [⟨24, 3, .rwa, 4⟩, ⟨16, 8, .rwa, 1⟩, ⟨8, 8, .rwa, 4⟩, ⟨0, 8, .rwa, 8⟩]⟩,
  ⟨0x10080, [], 0, fun _ => [⟨3, 1, .ro, 0⟩, ⟨2, 1, .ro, 0⟩, ⟨0, 2, .ro, 0⟩]⟩,
  ⟨0x10084, [], 0, fun _ => [⟨0, 15, .ro, 16384⟩]⟩,
  ⟨0x10088, [], 0, fun _ => [⟨0, 14, .ro, 8192⟩]⟩,
  ⟨0x10100, [], 0, fun _ => [⟨0, 32, .rc, 0⟩]⟩,
  ⟨0x10104, [], 0, fun _ => [⟨0, 32, .rc, 0⟩]⟩,
  ⟨0x10108, [], 0, fun _ => [⟨0, 32, .rc, 0⟩]⟩,
  ⟨0x1010C, [], 0, fun _ => [⟨0, 32, .rc, 0⟩]⟩,
  ⟨0x10200, [], 1, fun _ => [⟨12, 20, .rw, 0⟩]⟩,
  ⟨0x10204, [], 2, fun _ => [⟨0, 32, .rw, 0⟩]⟩,
  ⟨0x10208, [], 1, fun _ => [⟨12, 20, .rw, 0⟩]⟩,
  ⟨0x1020C, [], 2, fun _ => [⟨0, 32, .rw, 0⟩]⟩,
  ⟨0x10210, [], 0, fun _ => [⟨16, 12, .rw, 0⟩, ⟨0, 12, .rw, 0⟩]⟩,
  ⟨0x10214, [], 0, fun _ => [⟨1, 1, .ro, 0⟩, ⟨0, 1, .rw, 0⟩]⟩,
  ⟨0x10404, [(255, 0x4)], 0, fun _ => [⟨16, 15, .rw, 256⟩, ⟨0, 13, .rw, 32⟩]⟩,
  ⟨0x10F00, [], 0, fun _ => [⟨0, 5, .rw, 1⟩]⟩,
  ⟨0x11000, [(64, 0x10)], 1, fun _ => [⟨0, 32, .rwa, 0⟩]⟩,
  ⟨0x11004, [(64, 0x10)], 2, fun _ => [⟨0, 32, .rwa, 0⟩]⟩,
  ⟨0x11008, [(64, 0x10)], 0, fun _ => [⟨8, 8, .rw, 0⟩, ⟨4, 1, .rw, 0⟩, ⟨3, 1, .rw, 0⟩, ⟨2, 1, .rw, 1⟩, ⟨1, 1, .rw, 0⟩, ⟨0, 1, .rw, 1⟩]⟩]

/-- The registers of block PCX, part 1, in the order of the spec's tables. -/
def rowsPcx0 : List Row := [
  ⟨0x20000, [], 0, fun _ => [⟨0, 5, .rw, 1⟩]⟩,
  ⟨0x20004, [], 0, fun _ => [⟨16, 10, .rwa, 100⟩, ⟨0, 10, .rwa, 50⟩]⟩,
  ⟨0x20008, [], 0, fun _ => [⟨16, 1, .rwa, 1⟩, ⟨0, 16, .rwa, 64⟩]⟩,
  ⟨0x2000C, [], 0, fun _ => [⟨0, 16, .rwa, 1000⟩]⟩,
  ⟨0x20080, [], 0, fun _ => [⟨16, 16, .ro, 8229⟩, ⟨0, 16, .ro, (Config.vendorId.toNat)⟩]⟩,
  ⟨0x20084, [], 0, fun _ => [⟨31, 1, .ro, 0⟩, ⟨16, 4, .ro, 0⟩, ⟨8, 4, .ro, 0⟩, ⟨0, 8, .ro, 0⟩]⟩,
  ⟨0x20088, [], 0, fun _ => [⟨31, 1, .ro, 0⟩, ⟨0, 4, .ro, 0⟩]⟩,
  ⟨0x2008C, [], 0, fun _ => [⟨16, 16, .wo, 0⟩, ⟨0, 2, .wo, 0⟩]⟩,
  ⟨0x20090, [], 0, fun _ => [⟨31, 1, .w1c, 0⟩, ⟨0, 7, .ro, 0⟩]⟩,
  ⟨0x20094, [], 0, fun _ => [⟨8, 6, .wo, 0⟩, ⟨0, 2, .wo, 0⟩]⟩,
  ⟨0x20098, [], 0, fun _ => [⟨31, 1, .ro, 0⟩, ⟨8, 5, .rw, 0⟩, ⟨0, 5, .ro, 0⟩]⟩,
  ⟨0x20100, [], 0, fun _ => [⟨0, 32, .rc, 0⟩]⟩,
  ⟨0x20104, [], 0, fun _ => [⟨0, 32, .rc, 0⟩]⟩,
  ⟨0x20108, [], 0, fun _ => [⟨0, 32, .rc, 0⟩]⟩,
  ⟨0x2010C, [], 0, fun _ => [⟨0, 32, .rc, 0⟩]⟩,
  ⟨0x20110, [], 0, fun _ => [⟨0, 32, .rc, 0⟩]⟩,
  ⟨0x20114, [], 0, fun _ => [⟨0, 32, .rc, 0⟩]⟩,
  ⟨0x20200, [(64, 0x4)], 0, fun _ => [⟨31, 1, .ro, 0⟩, ⟨29, 2, .ro, 0⟩, ⟨24, 4, .ro, 0⟩, ⟨0, 16, .ro, 0⟩]⟩,
  ⟨0x22000, [(256, 0x40)], 0, fun _ => [⟨8, 8, .ro, 0⟩, ⟨0, 5, .rw, 1⟩]⟩,
  ⟨0x22004, [(256, 0x40)], 0, fun _ => [⟨31, 1, .rwa, 0⟩, ⟨23, 8, .rwa, 0⟩, ⟨19, 4, .rwa, 4⟩, ⟨0, 19, .rwa, 0⟩]⟩,
  ⟨0x22008, [(256, 0x40)], 0, fun _ => [⟨0, 18, .rwa, 0⟩]⟩,
  ⟨0x2200C, [(256, 0x40)], 0, fun _ => [⟨16, 16, .rwa, 0⟩, ⟨0, 16, .rwa, 0⟩]⟩,
  ⟨0x22010, [(256, 0x40)], 1, fun _ => [⟨0, 32, .rwa, 0⟩]⟩,
  ⟨0x22014, [(256, 0x40)], 2, fun _ => [⟨0, 32, .rwa, 0⟩]⟩,
  ⟨0x22020, [(256, 0x40)], 0, fun _ => [⟨31, 1, .ro, 0⟩, ⟨30, 1, .ro, 0⟩, ⟨29, 1, .w1c, 0⟩]⟩,
  ⟨0x22024, [(256, 0x40)], 0, fun _ => [⟨0, 32, .ro, 0⟩]⟩,
  ⟨0x22028, [(256, 0x40)], 1, fun _ => [⟨0, 32, .ro, 0⟩]⟩,
  ⟨0x2202C, [(256, 0x40)], 2, fun _ => [⟨0, 32, .ro, 0⟩]⟩,
  ⟨0x30000, [(2048, 0x10)], 0, fun _ => [⟨2, 30, .rw, 0⟩]⟩,
  ⟨0x30004, [(2048, 0x10)], 0, fun _ => [⟨0, 32, .rw, 0⟩]⟩]

/-- The registers of block PCX, part 2, in the order of the spec's tables. -/
def rowsPcx1 : List Row := [
  ⟨0x30008, [(2048, 0x10)], 0, fun _ => [⟨0, 32, .rw, 0⟩]⟩,
  ⟨0x3000C, [(2048, 0x10)], 0, fun _ => [⟨0, 1, .rw, 1⟩]⟩,
  ⟨0x38000, [(64, 0x4)], 0, fun _ => [⟨0, 32, .ro, 0⟩]⟩]

/-- The registers of block PCX. -/
def rowsPcx : List Row := rowsPcx0 ++ rowsPcx1

/-- The registers of block BUF, in the order of the spec's tables. -/
def rowsBuf : List Row := [
  ⟨0x40000, [], 0, fun _ => [⟨0, 5, .rw, 1⟩]⟩,
  ⟨0x40004, [], 0, fun _ => [⟨31, 1, .rwa, 1⟩, ⟨0, 16, .rwa, 60⟩]⟩,
  ⟨0x40008, [], 0, fun _ => [⟨0, 8, .rwa, 4⟩]⟩,
  ⟨0x40080, [], 0, fun _ => [⟨4, 4, .ro, 0⟩, ⟨1, 1, .ro, 0⟩, ⟨0, 1, .ro, 0⟩]⟩,
  ⟨0x40084, [], 0, fun _ => [⟨16, 16, .ro, 0⟩, ⟨4, 4, .ro, 0⟩, ⟨1, 1, .ro, 0⟩, ⟨0, 1, .ro, 0⟩]⟩,
  ⟨0x40088, [], 0, fun _ => [⟨0, 25, .ro, 0⟩]⟩,
  ⟨0x4008C, [], 0, fun _ => [⟨0, 25, .ro, 0⟩]⟩,
  ⟨0x40090, [], 0, fun _ => [⟨0, 13, .ro, 0⟩]⟩,
  ⟨0x40094, [], 0, fun _ => [⟨0, 32, .ro, 0⟩]⟩,
  ⟨0x40098, [], 0, fun _ => [⟨0, 32, .ro, 0⟩]⟩,
  ⟨0x40100, [], 0, fun _ => [⟨0, 32, .rc, 0⟩]⟩,
  ⟨0x40104, [], 0, fun _ => [⟨0, 32, .rc, 0⟩]⟩,
  ⟨0x40108, [], 0, fun _ => [⟨0, 32, .rc, 0⟩]⟩,
  ⟨0x4010C, [], 0, fun _ => [⟨0, 32, .rc, 0⟩]⟩]

/-- The registers of block ONX, in the order of the spec's tables. -/
def rowsOnx : List Row := [
  ⟨0x50000, [], 0, fun _ => [⟨0, 5, .rw, 0⟩]⟩,
  ⟨0x50004, [], 0, fun _ => [⟨1, 1, .rwa, 1⟩, ⟨0, 1, .rwa, 0⟩]⟩,
  ⟨0x50080, [], 0, fun _ => [⟨0, 20, .rw, 0⟩]⟩,
  ⟨0x50084, [], 0, fun _ => [⟨0, 21, .rw, 0⟩]⟩,
  ⟨0x50088, [], 0, fun _ => [⟨0, 3, .wo, 0⟩]⟩,
  ⟨0x5008C, [], 0, fun _ => [⟨3, 1, .w1c, 0⟩, ⟨2, 1, .w1c, 0⟩, ⟨1, 1, .w1c, 0⟩, ⟨0, 1, .ro, 0⟩]⟩,
  ⟨0x50090, [], 0, fun _ => [⟨16, 16, .ro, 0⟩, ⟨0, 16, .ro, 0⟩]⟩,
  ⟨0x50100, [], 0, fun _ => [⟨0, 32, .rc, 0⟩]⟩,
  ⟨0x50104, [], 0, fun _ => [⟨0, 32, .rc, 0⟩]⟩,
  ⟨0x50108, [], 0, fun _ => [⟨0, 32, .rc, 0⟩]⟩,
  ⟨0x5010C, [], 0, fun _ => [⟨0, 32, .rc, 0⟩]⟩,
  ⟨0x50110, [], 0, fun _ => [⟨0, 32, .rc, 0⟩]⟩,
  ⟨0x50114, [], 0, fun _ => [⟨0, 32, .rc, 0⟩]⟩,
  ⟨0x50118, [], 0, fun _ => [⟨0, 32, .rc, 0⟩]⟩]

/-- The registers of block GRN, in the order of the spec's tables. -/
def rowsGrn : List Row := [
  ⟨0x60000, [], 0, fun _ => [⟨0, 5, .rw, 0⟩]⟩,
  ⟨0x60004, [], 0, fun _ => [⟨0, 20, .rwa, 16384⟩]⟩,
  ⟨0x60008, [], 0, fun _ => [⟨16, 8, .rwa, 64⟩, ⟨0, 16, .rwa, 60⟩]⟩,
  ⟨0x60080, [], 0, fun _ => [⟨2, 1, .ro, 0⟩, ⟨1, 1, .ro, 0⟩, ⟨0, 1, .ro, 0⟩]⟩,
  ⟨0x60084, [], 0, fun _ => [⟨0, 21, .ro, 1048576⟩]⟩,
  ⟨0x60088, [], 0, fun _ => [⟨0, 13, .ro, 0⟩]⟩,
  ⟨0x6008C, [], 0, fun _ => [⟨0, 20, .ro, 0⟩]⟩,
  ⟨0x60090, [], 1, fun _ => [⟨0, 32, .ro, 0⟩]⟩,
  ⟨0x60094, [], 2, fun _ => [⟨0, 32, .ro, 0⟩]⟩,
  ⟨0x60098, [], 0, fun _ => [⟨0, 2, .wo, 0⟩]⟩,
  ⟨0x600A0, [], 0, fun _ => [⟨0, 1, .wo, 0⟩]⟩,
  ⟨0x600A4, [], 0, fun _ => [⟨0, 32, .rw, 0⟩]⟩,
  ⟨0x600A8, [], 0, fun _ => [⟨16, 16, .ro, 0⟩, ⟨2, 1, .w1c, 0⟩, ⟨1, 1, .w1c, 0⟩, ⟨0, 1, .ro, 0⟩]⟩,
  ⟨0x60100, [], 0, fun _ => [⟨0, 32, .rc, 0⟩]⟩,
  ⟨0x60104, [], 0, fun _ => [⟨0, 32, .rc, 0⟩]⟩,
  ⟨0x60108, [], 0, fun _ => [⟨0, 32, .rc, 0⟩]⟩,
  ⟨0x6010C, [], 0, fun _ => [⟨0, 32, .rc, 0⟩]⟩]

/-- The registers of block TPZ, in the order of the spec's tables. -/
def rowsTpz : List Row := [
  ⟨0x70000, [], 0, fun _ => [⟨0, 5, .rw, 0⟩]⟩,
  ⟨0x70004, [], 0, fun _ => [⟨0, 1, .rwa, 0⟩]⟩,
  ⟨0x70008, [], 0, fun _ => [⟨0, 16, .rwa, 100⟩]⟩,
  ⟨0x7000C, [], 0, fun _ => [⟨8, 2, .rwa, 2⟩, ⟨0, 4, .rwa, 6⟩]⟩,
  ⟨0x70010, [], 0, fun _ => [⟨24, 1, .rwa, 1⟩, ⟨16, 5, .rwa, 20⟩, ⟨0, 16, .rwa, 0⟩]⟩,
  ⟨0x70080, [], 0, fun _ => [⟨8, 8, .ro, 0⟩, ⟨2, 1, .ro, 0⟩, ⟨1, 1, .ro, 0⟩, ⟨0, 1, .ro, 0⟩]⟩,
  ⟨0x70088, [], 1, fun _ => [⟨0, 32, .ro, 1⟩]⟩,
  ⟨0x7008C, [], 2, fun _ => [⟨0, 32, .ro, 0⟩]⟩,
  ⟨0x70090, [], 0, fun _ => [⟨0, 32, .ro, 0⟩]⟩,
  ⟨0x700C0, [(8, 0x4)], 0, fun _ => [⟨0, 32, .ro, 0⟩]⟩,
  ⟨0x700E0, [(8, 0x4)], 0, fun _ => [⟨0, 32, .ro, 0⟩]⟩,
  ⟨0x70100, [], 0, fun _ => [⟨0, 32, .rc, 0⟩]⟩,
  ⟨0x70104, [], 0, fun _ => [⟨0, 32, .rc, 0⟩]⟩,
  ⟨0x70108, [], 0, fun _ => [⟨0, 32, .rc, 0⟩]⟩,
  ⟨0x7010C, [], 0, fun _ => [⟨0, 32, .rc, 0⟩]⟩,
  ⟨0x70110, [], 0, fun _ => [⟨0, 32, .rc, 0⟩]⟩,
  ⟨0x70114, [], 0, fun _ => [⟨0, 32, .rc, 0⟩]⟩,
  ⟨0x70118, [], 0, fun _ => [⟨0, 32, .rc, 0⟩]⟩,
  ⟨0x7011C, [], 0, fun _ => [⟨0, 32, .rc, 0⟩]⟩]

/-- The registers of block STN, in the order of the spec's tables. -/
def rowsStn : List Row := [
  ⟨0x80000, [(8, 0x10000)], 0, fun ix => [⟨0, 5, .rw, (2 + (ix 0))⟩]⟩,
  ⟨0x80004, [(8, 0x10000)], 0, fun _ => [⟨16, 8, .rwa, 10⟩, ⟨8, 4, .rwa, 3⟩, ⟨2, 2, .rwa, 3⟩, ⟨1, 1, .rwa, 0⟩, ⟨0, 1, .rwa, 1⟩]⟩,
  ⟨0x80008, [(8, 0x10000)], 0, fun _ => [⟨16, 16, .rwa, 600⟩, ⟨0, 16, .rwa, 60⟩]⟩,
  ⟨0x8000C, [(8, 0x10000)], 0, fun _ => [⟨22, 10, .rwa, 100⟩, ⟨0, 20, .rwa, 51166⟩]⟩,
  ⟨0x80080, [(8, 0x10000)], 0, fun _ => [⟨20, 4, .ro, 0⟩, ⟨19, 1, .ro, 0⟩, ⟨18, 1, .ro, 0⟩, ⟨17, 1, .ro, 0⟩, ⟨16, 1, .ro, 0⟩, ⟨12, 3, .ro, 0⟩, ⟨8, 4, .ro, 0⟩, ⟨0, 4, .ro, 0⟩]⟩,
  ⟨0x80084, [(8, 0x10000)], 0, fun _ => [⟨16, 16, .ro, 2500⟩, ⟨0, 16, .ro, 150⟩]⟩,
  ⟨0x80088, [(8, 0x10000)], 1, fun _ => [⟨0, 32, .ro, 0⟩]⟩,
  ⟨0x8008C, [(8, 0x10000)], 2, fun _ => [⟨0, 32, .ro, 0⟩]⟩,
  ⟨0x800A0, [(8, 0x10000)], 0, fun _ => [⟨8, 8, .rw, 0⟩, ⟨4, 1, .rw, 0⟩, ⟨3, 1, .rw, 0⟩, ⟨2, 1, .rw, 1⟩, ⟨1, 1, .rw, 0⟩, ⟨0, 1, .rw, 1⟩]⟩,
  ⟨0x800A4, [(8, 0x10000)], 0, fun _ => [⟨8, 1, .wo, 0⟩, ⟨0, 4, .wo, 0⟩]⟩,
  ⟨0x800A8, [(8, 0x10000)], 0, fun _ => [⟨8, 8, .ro, 0⟩, ⟨4, 3, .ro, 0⟩, ⟨0, 4, .ro, 0⟩]⟩,
  ⟨0x80100, [(8, 0x10000)], 0, fun _ => [⟨0, 32, .rc, 0⟩]⟩,
  ⟨0x80104, [(8, 0x10000)], 0, fun _ => [⟨0, 32, .rc, 0⟩]⟩,
  ⟨0x80108, [(8, 0x10000)], 0, fun _ => [⟨0, 32, .rc, 0⟩]⟩,
  ⟨0x8010C, [(8, 0x10000)], 0, fun _ => [⟨0, 32, .rc, 0⟩]⟩]

/-- The registers of block OPL, in the order of the spec's tables. -/
def rowsOpl : List Row := [
  ⟨0x81000, [(8, 0x10000), (8, 0x200)], 0, fun ix => [⟨31, 1, .ro, 0⟩, ⟨28, 3, .ro, ((ix 0))⟩, ⟨27, 1, .ro, ((ix 1) / 4)⟩, ⟨24, 3, .ro, ((ix 1) % 4)⟩, ⟨0, 5, .rw, (2 + (ix 0))⟩]⟩,
  ⟨0x81004, [(8, 0x10000), (8, 0x200)], 0, fun ix => [⟨8, 2, .rwa, 2⟩, ⟨4, 3, .rwa, 2⟩, ⟨0, 2, .rwa, (1 + (ix 1) / 4)⟩]⟩,
  ⟨0x81008, [(8, 0x10000), (8, 0x200)], 0, fun _ => [⟨16, 8, .rwa, 96⟩, ⟨14, 2, .rwa, 2⟩, ⟨12, 2, .rwa, 1⟩, ⟨10, 2, .rwa, 1⟩, ⟨8, 1, .rwa, 1⟩, ⟨0, 8, .rwa, 48⟩]⟩,
  ⟨0x8100C, [(8, 0x10000), (8, 0x200)], 0, fun _ => [⟨24, 2, .rwa, 1⟩, ⟨16, 4, .rwa, 11⟩, ⟨8, 4, .rwa, 5⟩, ⟨0, 1, .rwa, 1⟩]⟩,
  ⟨0x81010, [(8, 0x10000), (8, 0x200)], 0, fun _ => [⟨0, 24, .rwa, 3211566⟩]⟩,
  ⟨0x81014, [(8, 0x10000), (8, 0x200)], 0, fun _ => [⟨4, 4, .rwa, 4⟩, ⟨1, 1, .rwa, 0⟩, ⟨0, 1, .rwa, 1⟩]⟩,
  ⟨0x81018, [(8, 0x10000), (8, 0x200)], 0, fun _ => [⟨16, 8, .rwa, 128⟩, ⟨8, 8, .rwa, 128⟩, ⟨0, 8, .rwa, 64⟩]⟩,
  ⟨0x8101C, [(8, 0x10000), (8, 0x200)], 0, fun _ => [⟨8, 8, .rwa, 32⟩, ⟨4, 3, .rwa, 2⟩, ⟨0, 3, .rwa, 2⟩]⟩,
  ⟨0x81020, [(8, 0x10000), (8, 0x200)], 0, fun _ => [⟨24, 5, .rwa, 12⟩, ⟨16, 4, .rwa, 4⟩, ⟨8, 8, .rwa, 160⟩, ⟨0, 8, .rwa, 128⟩]⟩,
  ⟨0x81040, [(8, 0x10000), (8, 0x200), (8, 0x4)], 0, fun ix => if ix 2 = 7 then [⟨0, 16, .rwa, 0⟩] else [⟨16, 16, .rwa, (if (ix 2) = 3 then 16384 else 0)⟩, ⟨0, 16, .rwa, 0⟩]⟩,
  ⟨0x81080, [(8, 0x10000), (8, 0x200)], 0, fun _ => [⟨18, 1, .w1c, 0⟩, ⟨17, 1, .w1c, 0⟩, ⟨16, 1, .w1c, 0⟩, ⟨10, 1, .ro, 0⟩, ⟨9, 1, .ro, 0⟩, ⟨8, 1, .ro, 0⟩, ⟨5, 1, .ro, 0⟩, ⟨4, 1, .ro, 0⟩, ⟨3, 1, .ro, 0⟩, ⟨2, 1, .ro, 0⟩, ⟨1, 1, .ro, 0⟩, ⟨0, 1, .ro, 0⟩]⟩,
  ⟨0x81084, [(8, 0x10000), (8, 0x200)], 0, fun _ => [⟨0, 24, .ro, 0⟩]⟩,
  ⟨0x81088, [(8, 0x10000), (8, 0x200)], 0, fun _ => [⟨16, 8, .ro, 0⟩, ⟨0, 8, .ro, 0⟩]⟩,
  ⟨0x8108C, [(8, 0x10000), (8, 0x200)], 0, fun _ => [⟨31, 1, .ro, 0⟩, ⟨8, 8, .ro, 0⟩, ⟨0, 8, .ro, 0⟩]⟩,
  ⟨0x81090, [(8, 0x10000), (8, 0x200)], 0, fun _ => [⟨31, 1, .ro, 0⟩, ⟨0, 16, .ro, 0⟩]⟩,
  ⟨0x810C0, [(8, 0x10000), (8, 0x200), (8, 0x4)], 0, fun ix => if ix 2 = 7 then [⟨0, 16, .ro, 0⟩] else [⟨16, 16, .ro, 0⟩, ⟨0, 16, .ro, 0⟩]⟩,
  ⟨0x81100, [(8, 0x10000), (8, 0x200)], 0, fun _ => [⟨0, 32, .rc, 0⟩]⟩,
  ⟨0x81104, [(8, 0x10000), (8, 0x200)], 0, fun _ => [⟨0, 32, .rc, 0⟩]⟩,
  ⟨0x81108, [(8, 0x10000), (8, 0x200)], 0, fun _ => [⟨0, 32, .rc, 0⟩]⟩,
  ⟨0x8110C, [(8, 0x10000), (8, 0x200)], 0, fun _ => [⟨0, 32, .rc, 0⟩]⟩,
  ⟨0x81110, [(8, 0x10000), (8, 0x200)], 0, fun _ => [⟨0, 32, .rc, 0⟩]⟩,
  ⟨0x81114, [(8, 0x10000), (8, 0x200)], 0, fun _ => [⟨0, 32, .rc, 0⟩]⟩,
  ⟨0x81118, [(8, 0x10000), (8, 0x200)], 0, fun _ => [⟨0, 32, .rc, 0⟩]⟩,
  ⟨0x8111C, [(8, 0x10000), (8, 0x200)], 0, fun _ => [⟨0, 32, .rc, 0⟩]⟩,
  ⟨0x81120, [(8, 0x10000), (8, 0x200)], 0, fun _ => [⟨0, 32, .rc, 0⟩]⟩,
  ⟨0x81124, [(8, 0x10000), (8, 0x200)], 0, fun _ => [⟨0, 32, .rc, 0⟩]⟩]

/-- The registers of block SPARE, in the order of the spec's tables. -/
def rowsSpare : List Row := [
  ⟨0x200000, [(4, 0x200)], 0, fun ix => [⟨31, 1, .ro, 1⟩, ⟨28, 3, .ro, 0⟩, ⟨27, 1, .ro, 0⟩, ⟨24, 3, .ro, ((ix 0))⟩, ⟨0, 5, .rw, 0⟩]⟩,
  ⟨0x200004, [(4, 0x200)], 0, fun _ => [⟨8, 2, .rwa, 2⟩, ⟨4, 3, .rwa, 2⟩, ⟨0, 2, .rwa, 0⟩]⟩,
  ⟨0x200008, [(4, 0x200)], 0, fun _ => [⟨16, 8, .rwa, 96⟩, ⟨14, 2, .rwa, 2⟩, ⟨12, 2, .rwa, 1⟩, ⟨10, 2, .rwa, 1⟩, ⟨8, 1, .rwa, 1⟩, ⟨0, 8, .rwa, 48⟩]⟩,
  ⟨0x20000C, [(4, 0x200)], 0, fun _ => [⟨24, 2, .rwa, 1⟩, ⟨16, 4, .rwa, 11⟩, ⟨8, 4, .rwa, 5⟩, ⟨0, 1, .rwa, 1⟩]⟩,
  ⟨0x200010, [(4, 0x200)], 0, fun _ => [⟨0, 24, .rwa, 3211566⟩]⟩,
  ⟨0x200014, [(4, 0x200)], 0, fun _ => [⟨4, 4, .rwa, 4⟩, ⟨1, 1, .rwa, 0⟩, ⟨0, 1, .rwa, 1⟩]⟩,
  ⟨0x200018, [(4, 0x200)], 0, fun _ => [⟨16, 8, .rwa, 128⟩, ⟨8, 8, .rwa, 128⟩, ⟨0, 8, .rwa, 64⟩]⟩,
  ⟨0x20001C, [(4, 0x200)], 0, fun _ => [⟨8, 8, .rwa, 32⟩, ⟨4, 3, .rwa, 2⟩, ⟨0, 3, .rwa, 2⟩]⟩,
  ⟨0x200020, [(4, 0x200)], 0, fun _ => [⟨24, 5, .rwa, 12⟩, ⟨16, 4, .rwa, 4⟩, ⟨8, 8, .rwa, 160⟩, ⟨0, 8, .rwa, 128⟩]⟩,
  ⟨0x200040, [(4, 0x200), (8, 0x4)], 0, fun ix => if ix 1 = 7 then [⟨0, 16, .rwa, 0⟩] else [⟨16, 16, .rwa, (if (ix 1) = 3 then 16384 else 0)⟩, ⟨0, 16, .rwa, 0⟩]⟩,
  ⟨0x200080, [(4, 0x200)], 0, fun _ => [⟨18, 1, .w1c, 0⟩, ⟨17, 1, .w1c, 0⟩, ⟨16, 1, .w1c, 0⟩, ⟨10, 1, .ro, 0⟩, ⟨9, 1, .ro, 0⟩, ⟨8, 1, .ro, 0⟩, ⟨5, 1, .ro, 0⟩, ⟨4, 1, .ro, 0⟩, ⟨3, 1, .ro, 0⟩, ⟨2, 1, .ro, 0⟩, ⟨1, 1, .ro, 0⟩, ⟨0, 1, .ro, 0⟩]⟩,
  ⟨0x200084, [(4, 0x200)], 0, fun _ => [⟨0, 24, .ro, 0⟩]⟩,
  ⟨0x200088, [(4, 0x200)], 0, fun _ => [⟨16, 8, .ro, 0⟩, ⟨0, 8, .ro, 0⟩]⟩,
  ⟨0x20008C, [(4, 0x200)], 0, fun _ => [⟨31, 1, .ro, 0⟩, ⟨8, 8, .ro, 0⟩, ⟨0, 8, .ro, 0⟩]⟩,
  ⟨0x200090, [(4, 0x200)], 0, fun _ => [⟨31, 1, .ro, 0⟩, ⟨0, 16, .ro, 0⟩]⟩,
  ⟨0x2000C0, [(4, 0x200), (8, 0x4)], 0, fun ix => if ix 1 = 7 then [⟨0, 16, .ro, 0⟩] else [⟨16, 16, .ro, 0⟩, ⟨0, 16, .ro, 0⟩]⟩,
  ⟨0x200100, [(4, 0x200)], 0, fun _ => [⟨0, 32, .rc, 0⟩]⟩,
  ⟨0x200104, [(4, 0x200)], 0, fun _ => [⟨0, 32, .rc, 0⟩]⟩,
  ⟨0x200108, [(4, 0x200)], 0, fun _ => [⟨0, 32, .rc, 0⟩]⟩,
  ⟨0x20010C, [(4, 0x200)], 0, fun _ => [⟨0, 32, .rc, 0⟩]⟩,
  ⟨0x200110, [(4, 0x200)], 0, fun _ => [⟨0, 32, .rc, 0⟩]⟩,
  ⟨0x200114, [(4, 0x200)], 0, fun _ => [⟨0, 32, .rc, 0⟩]⟩,
  ⟨0x200118, [(4, 0x200)], 0, fun _ => [⟨0, 32, .rc, 0⟩]⟩,
  ⟨0x20011C, [(4, 0x200)], 0, fun _ => [⟨0, 32, .rc, 0⟩]⟩,
  ⟨0x200120, [(4, 0x200)], 0, fun _ => [⟨0, 32, .rc, 0⟩]⟩,
  ⟨0x200124, [(4, 0x200)], 0, fun _ => [⟨0, 32, .rc, 0⟩]⟩,
  ⟨0x200800, [], 0, fun _ => [⟨7, 1, .ro, 0⟩, ⟨4, 3, .ro, 0⟩, ⟨3, 1, .ro, 0⟩, ⟨0, 2, .ro, 0⟩, ⟨15, 1, .ro, 0⟩, ⟨12, 3, .ro, 0⟩, ⟨11, 1, .ro, 0⟩, ⟨8, 2, .ro, 0⟩, ⟨23, 1, .ro, 0⟩, ⟨20, 3, .ro, 0⟩, ⟨19, 1, .ro, 0⟩, ⟨16, 2, .ro, 0⟩, ⟨31, 1, .ro, 0⟩, ⟨28, 3, .ro, 0⟩, ⟨27, 1, .ro, 0⟩, ⟨24, 2, .ro, 0⟩]⟩,
  ⟨0x200804, [], 0, fun _ => [⟨8, 2, .wo, 0⟩, ⟨7, 1, .wo, 0⟩, ⟨4, 3, .wo, 0⟩, ⟨0, 2, .wo, 0⟩]⟩]

/-- The registers of block WRS, in the order of the spec's tables. -/
def rowsWrs : List Row := [
  ⟨0x83000, [(8, 0x10000)], 0, fun ix => [⟨0, 5, .rw, (2 + (ix 0))⟩]⟩,
  ⟨0x83004, [(8, 0x10000)], 0, fun _ => [⟨5, 1, .rwa, 1⟩, ⟨4, 1, .rwa, 1⟩, ⟨0, 4, .rwa, 15⟩]⟩,
  ⟨0x83008, [(8, 0x10000)], 0, fun _ => [⟨16, 12, .rwa, 40⟩, ⟨0, 14, .rwa, 200⟩]⟩,
  ⟨0x8300C, [(8, 0x10000)], 0, fun _ => [⟨24, 8, .rwa, 48⟩, ⟨16, 5, .rwa, 8⟩, ⟨8, 5, .rwa, 4⟩, ⟨0, 5, .rwa, 6⟩]⟩,
  ⟨0x83010, [(8, 0x10000)], 0, fun _ => [⟨8, 4, .rwa, 4⟩, ⟨0, 4, .rwa, 4⟩]⟩,
  ⟨0x83014, [(8, 0x10000)], 0, fun _ => [⟨16, 16, .rwa, 0⟩, ⟨8, 8, .rwa, 64⟩, ⟨0, 8, .rwa, 50⟩]⟩,
  ⟨0x83018, [(8, 0x10000)], 0, fun _ => [⟨16, 8, .rwa, 179⟩, ⟨8, 8, .rwa, 26⟩, ⟨0, 8, .rwa, 51⟩]⟩,
  ⟨0x8301C, [(8, 0x10000)], 0, fun _ => [⟨0, 16, .rwa, 10240⟩]⟩,
  ⟨0x83020, [(8, 0x10000), (4, 0x4)], 0, fun _ => [⟨16, 16, .rwa, 320⟩, ⟨0, 16, .rwa, 5120⟩]⟩,
  ⟨0x83040, [(8, 0x10000), (5, 0x4)], 0, fun _ => [⟨24, 8, .rwa, 0⟩, ⟨16, 8, .rwa, 0⟩, ⟨8, 8, .rwa, 0⟩, ⟨0, 8, .rwa, 0⟩]⟩,
  ⟨0x83060, [(8, 0x10000), (5, 0x4)], 0, fun _ => [⟨24, 8, .rwa, 0⟩, ⟨16, 8, .rwa, 0⟩, ⟨8, 8, .rwa, 0⟩, ⟨0, 8, .rwa, 0⟩]⟩,
  ⟨0x83080, [(8, 0x10000), (5, 0x4)], 0, fun ix => [⟨8, 8, .rwa, (if (ix 1) = 0 then 24 else if (ix 1) = 1 then 32 else if (ix 1) = 2 then 40 else 48)⟩, ⟨0, 8, .rwa, 16⟩]⟩,
  ⟨0x830C0, [(8, 0x10000)], 0, fun _ => [⟨13, 1, .ro, 0⟩, ⟨12, 1, .ro, 0⟩, ⟨8, 4, .w1c, 0⟩, ⟨4, 4, .ro, 0⟩, ⟨0, 4, .ro, 0⟩]⟩,
  ⟨0x830D0, [(8, 0x10000), (4, 0x4)], 0, fun _ => [⟨0, 16, .ro, 0⟩]⟩,
  ⟨0x830E0, [(8, 0x10000)], 0, fun _ => [⟨8, 2, .wo, 0⟩, ⟨0, 2, .wo, 0⟩]⟩,
  ⟨0x83100, [(8, 0x10000)], 0, fun _ => [⟨0, 32, .rc, 0⟩]⟩,
  ⟨0x83104, [(8, 0x10000)], 0, fun _ => [⟨0, 32, .rc, 0⟩]⟩,
  ⟨0x83108, [(8, 0x10000)], 0, fun _ => [⟨0, 32, .rc, 0⟩]⟩,
  ⟨0x8310C, [(8, 0x10000)], 0, fun _ => [⟨0, 32, .rc, 0⟩]⟩,
  ⟨0x83110, [(8, 0x10000)], 0, fun _ => [⟨0, 32, .rc, 0⟩]⟩,
  ⟨0x83114, [(8, 0x10000)], 0, fun _ => [⟨0, 32, .rc, 0⟩]⟩,
  ⟨0x83118, [(8, 0x10000)], 0, fun _ => [⟨0, 32, .rc, 0⟩]⟩,
  ⟨0x8311C, [(8, 0x10000)], 0, fun _ => [⟨0, 32, .rc, 0⟩]⟩]

/-- The registers of block SPN, in the order of the spec's tables. -/
def rowsSpn : List Row := [
  ⟨0x84000, [(8, 0x10000)], 0, fun ix => [⟨0, 5, .rw, (2 + (ix 0))⟩]⟩,
  ⟨0x84004, [(8, 0x10000)], 0, fun _ => [⟨0, 2, .rwa, 0⟩]⟩,
  ⟨0x84008, [(8, 0x10000)], 0, fun _ => [⟨16, 16, .rwa, 5000⟩, ⟨0, 16, .rwa, 4500⟩]⟩,
  ⟨0x8400C, [(8, 0x10000)], 0, fun _ => [⟨31, 1, .rwa, 0⟩, ⟨24, 4, .rwa, 4⟩, ⟨0, 16, .rwa, 2048⟩]⟩,
  ⟨0x84010, [(8, 0x10000)], 0, fun _ => [⟨16, 16, .rwa, 400⟩, ⟨0, 16, .rwa, 800⟩]⟩,
  ⟨0x84014, [(8, 0x10000)], 0, fun _ => [⟨0, 16, .rwa, 1500⟩]⟩,
  ⟨0x84018, [(8, 0x10000)], 0, fun _ => [⟨16, 16, .rwa, 300⟩, ⟨0, 16, .rwa, 200⟩]⟩,
  ⟨0x8401C, [(8, 0x10000)], 0, fun _ => [⟨16, 16, .rwa, 450⟩, ⟨0, 16, .rwa, 300⟩]⟩,
  ⟨0x84020, [(8, 0x10000)], 0, fun _ => [⟨24, 8, .rwa, 10⟩, ⟨16, 8, .rwa, 30⟩, ⟨8, 8, .rwa, 10⟩, ⟨0, 8, .rwa, 20⟩]⟩,
  ⟨0x84024, [(8, 0x10000)], 0, fun _ => [⟨16, 16, .rwa, 16384⟩, ⟨0, 16, .rwa, 16384⟩]⟩,
  ⟨0x84028, [(8, 0x10000)], 0, fun _ => [⟨16, 16, .rwa, 61440⟩, ⟨0, 16, .rwa, 49152⟩]⟩,
  ⟨0x8402C, [(8, 0x10000)], 0, fun _ => [⟨16, 16, .rwa, 200⟩, ⟨0, 16, .rwa, 9011⟩]⟩,
  ⟨0x84030, [(8, 0x10000)], 0, fun _ => [⟨16, 10, .rwa, 100⟩, ⟨0, 10, .rwa, 200⟩]⟩,
  ⟨0x84080, [(8, 0x10000)], 0, fun _ => [⟨8, 3, .ro, 0⟩, ⟨6, 1, .w1c, 0⟩, ⟨5, 1, .ro, 0⟩, ⟨4, 1, .ro, 0⟩, ⟨0, 4, .ro, 0⟩]⟩,
  ⟨0x84084, [(8, 0x10000)], 0, fun _ => [⟨0, 24, .ro, 0⟩]⟩,
  ⟨0x84088, [(8, 0x10000)], 0, fun _ => [⟨24, 8, .ro, 0⟩, ⟨0, 16, .ro, 0⟩]⟩,
  ⟨0x84100, [(8, 0x10000)], 0, fun _ => [⟨0, 32, .rc, 0⟩]⟩,
  ⟨0x84104, [(8, 0x10000)], 0, fun _ => [⟨0, 32, .rc, 0⟩]⟩,
  ⟨0x84108, [(8, 0x10000)], 0, fun _ => [⟨0, 32, .rc, 0⟩]⟩,
  ⟨0x8410C, [(8, 0x10000)], 0, fun _ => [⟨0, 32, .rc, 0⟩]⟩,
  ⟨0x84800, [], 0, fun _ => [⟨0, 5, .rw, 2⟩]⟩,
  ⟨0x84804, [], 0, fun _ => [⟨8, 8, .rwa, 5⟩, ⟨1, 1, .rwa, 1⟩, ⟨0, 1, .rwa, 1⟩]⟩,
  ⟨0x84880, [], 0, fun _ => [⟨16, 8, .ro, 0⟩, ⟨8, 2, .ro, 0⟩, ⟨4, 1, .ro, 0⟩, ⟨3, 1, .ro, 0⟩, ⟨2, 1, .ro, 0⟩, ⟨1, 1, .ro, 0⟩, ⟨0, 1, .ro, 0⟩]⟩,
  ⟨0x84884, [], 0, fun _ => [⟨16, 12, .rc, 0⟩, ⟨0, 12, .ro, 0⟩]⟩,
  ⟨0x84888, [], 0, fun _ => [⟨0, 12, .ro, 0⟩]⟩,
  ⟨0x8488C, [], 0, fun _ => [⟨0, 2, .wo, 0⟩]⟩,
  ⟨0x848C0, [], 0, fun _ => [⟨0, 32, .rc, 0⟩]⟩,
  ⟨0x848C4, [], 0, fun _ => [⟨0, 32, .rc, 0⟩]⟩,
  ⟨0x848C8, [], 0, fun _ => [⟨0, 32, .rc, 0⟩]⟩]

/-- The registers of block SLD, in the order of the spec's tables. -/
def rowsSld : List Row := [
  ⟨0x85000, [(8, 0x10000)], 0, fun ix => [⟨8, 1, .rw, 0⟩, ⟨0, 5, .rw, (2 + (ix 0))⟩]⟩,
  ⟨0x85004, [(8, 0x10000)], 0, fun _ => [⟨0, 18, .rwa, 150000⟩]⟩,
  ⟨0x85008, [(8, 0x10000)], 0, fun _ => [⟨16, 16, .rwa, 2000⟩, ⟨0, 16, .rwa, 2000⟩]⟩,
  ⟨0x8500C, [(8, 0x10000)], 0, fun _ => [⟨16, 10, .rwa, 0⟩, ⟨0, 16, .rwa, 21000⟩]⟩,
  ⟨0x85010, [(8, 0x10000)], 0, fun _ => [⟨0, 32, .rwa, 8192⟩]⟩,
  ⟨0x85014, [(8, 0x10000)], 0, fun _ => [⟨0, 32, .rwa, 657408⟩]⟩,
  ⟨0x85018, [(8, 0x10000)], 0, fun _ => [⟨16, 1, .rwa, 1⟩, ⟨8, 8, .rwa, 20⟩, ⟨4, 2, .rwa, 0⟩, ⟨0, 2, .rwa, 3⟩]⟩,
  ⟨0x8501C, [(8, 0x10000)], 0, fun _ => [⟨16, 16, .rwa, 20000⟩, ⟨0, 16, .rwa, 20000⟩]⟩,
  ⟨0x85020, [(8, 0x10000)], 0, fun _ => [⟨0, 20, .rwa, 8192⟩]⟩,
  ⟨0x85024, [(8, 0x10000)], 0, fun _ => [⟨24, 8, .rwa, 192⟩, ⟨16, 8, .rwa, 64⟩, ⟨0, 16, .rwa, 512⟩]⟩,
  ⟨0x85028, [(8, 0x10000)], 0, fun _ => [⟨24, 8, .rwa, 50⟩, ⟨12, 12, .rwa, 512⟩, ⟨0, 12, .rwa, 256⟩]⟩,
  ⟨0x85080, [(8, 0x10000)], 0, fun _ => [⟨16, 3, .ro, 0⟩, ⟨12, 1, .ro, 0⟩, ⟨11, 1, .w1c, 0⟩, ⟨10, 1, .w1c, 0⟩, ⟨9, 1, .w1c, 0⟩, ⟨8, 1, .ro, 0⟩, ⟨7, 1, .ro, 0⟩, ⟨6, 1, .ro, 0⟩, ⟨0, 4, .ro, 0⟩]⟩,
  ⟨0x85084, [(8, 0x10000)], 0, fun _ => [⟨0, 32, .ro, 0⟩]⟩,
  ⟨0x85088, [(8, 0x10000)], 0, fun _ => [⟨0, 32, .ro, 0⟩]⟩,
  ⟨0x8508C, [(8, 0x10000)], 0, fun _ => [⟨0, 32, .rw, 0⟩]⟩,
  ⟨0x85090, [(8, 0x10000)], 0, fun _ => [⟨0, 32, .rw, 0⟩]⟩,
  ⟨0x85094, [(8, 0x10000)], 0, fun _ => [⟨0, 32, .rw, 0⟩]⟩,
  ⟨0x85098, [(8, 0x10000)], 0, fun _ => [⟨0, 32, .ro, 0⟩]⟩,
  ⟨0x850A0, [(8, 0x10000)], 1, fun _ => [⟨0, 32, .rw, 0⟩]⟩,
  ⟨0x850A4, [(8, 0x10000)], 2, fun _ => [⟨0, 32, .rw, 0⟩]⟩,
  ⟨0x850A8, [(8, 0x10000)], 0, fun _ => [⟨8, 1, .wo, 0⟩, ⟨4, 1, .wo, 0⟩, ⟨0, 4, .wo, 0⟩]⟩,
  ⟨0x85100, [(8, 0x10000)], 0, fun _ => [⟨0, 32, .rc, 0⟩]⟩,
  ⟨0x85104, [(8, 0x10000)], 0, fun _ => [⟨0, 32, .rc, 0⟩]⟩,
  ⟨0x85108, [(8, 0x10000)], 0, fun _ => [⟨0, 32, .rc, 0⟩]⟩,
  ⟨0x8510C, [(8, 0x10000)], 0, fun _ => [⟨0, 32, .rc, 0⟩]⟩,
  ⟨0x85110, [(8, 0x10000)], 0, fun _ => [⟨0, 32, .rc, 0⟩]⟩,
  ⟨0x85400, [(8, 0x10000), (512, 0x4)], 0, fun ix => [⟨16, 16, .rwa, (sineEntry (2 * (ix 1) + 1))⟩, ⟨0, 16, .rwa, (sineEntry (2 * (ix 1)))⟩]⟩]

/-- The registers of block BRL, in the order of the spec's tables. -/
def rowsBrl : List Row := [
  ⟨0x100000, [], 0, fun _ => [⟨16, 8, .ro, 0⟩, ⟨8, 4, .ro, 0⟩, ⟨0, 4, .ro, 15⟩]⟩,
  ⟨0x100004, [], 0, fun _ => [⟨16, 12, .ro, 2236⟩, ⟨0, 12, .ro, 0⟩]⟩,
  ⟨0x100008, [], 0, fun _ => [⟨0, 32, .rc, 0⟩]⟩,
  ⟨0x100400, [(8, 0x40)], 0, fun ix => [⟨0, 5, .rw, (2 + (ix 0))⟩]⟩,
  ⟨0x100404, [(8, 0x40)], 0, fun _ => [⟨24, 8, .rwa, 40⟩, ⟨0, 24, .rwa, 1048576⟩]⟩,
  ⟨0x100408, [(8, 0x40)], 0, fun _ => [⟨16, 16, .rwa, 8192⟩, ⟨0, 16, .rwa, 4096⟩]⟩,
  ⟨0x10040C, [(8, 0x40)], 0, fun _ => [⟨24, 8, .rwa, 12⟩, ⟨16, 8, .rwa, 12⟩, ⟨0, 16, .rwa, 8192⟩]⟩,
  ⟨0x100410, [(8, 0x40)], 0, fun _ => [⟨24, 8, .rwa, 10⟩, ⟨16, 8, .rwa, 100⟩, ⟨8, 8, .rwa, 6⟩, ⟨0, 8, .rwa, 5⟩]⟩,
  ⟨0x100414, [(8, 0x40)], 0, fun _ => [⟨17, 1, .rwa, 1⟩, ⟨16, 1, .rwa, 1⟩, ⟨8, 5, .rwa, 4⟩, ⟨0, 4, .rwa, 6⟩]⟩,
  ⟨0x100420, [(8, 0x40)], 0, fun _ => [⟨8, 8, .wo, 0⟩, ⟨0, 4, .wo, 0⟩]⟩,
  ⟨0x100424, [(8, 0x40)], 0, fun _ => [⟨24, 4, .ro, 0⟩, ⟨16, 8, .ro, 0⟩, ⟨15, 1, .ro, 0⟩, ⟨14, 1, .w1c, 0⟩, ⟨13, 1, .w1c, 0⟩, ⟨12, 1, .w1c, 0⟩, ⟨9, 1, .ro, 0⟩, ⟨8, 1, .ro, 0⟩, ⟨0, 4, .ro, 10⟩]⟩,
  ⟨0x101000, [(96, 0x40)], 0, fun ix => [⟨0, 5, .rw, (if (ix 0) < 64 then 2 + (ix 0) / 8 else 0)⟩]⟩,
  ⟨0x101004, [(96, 0x40)], 0, fun ix => [⟨31, 1, .rwa, 0⟩, ⟨24, 4, .rwa, (if (ix 0) < 64 then 1 + (ix 0) % 8 else 0)⟩, ⟨20, 3, .rwa, (if (ix 0) < 64 then (ix 0) / 8 else 0)⟩, ⟨16, 1, .rwa, 0⟩, ⟨8, 5, .rwa, 0⟩, ⟨0, 1, .rwa, 0⟩]⟩,
  ⟨0x101008, [(96, 0x40)], 0, fun _ => [⟨0, 24, .rwa, 0⟩]⟩,
  ⟨0x101010, [(96, 0x40), (4, 0x4)], 0, fun _ => [⟨16, 16, .rwa, 0⟩, ⟨0, 16, .rwa, 0⟩]⟩,
  ⟨0x101020, [(96, 0x40), (4, 0x4)], 0, fun _ => [⟨16, 16, .rwa, 0⟩, ⟨0, 16, .rwa, 0⟩]⟩,
  ⟨0x101030, [(96, 0x40)], 0, fun _ => [⟨24, 2, .ro, 0⟩, ⟨16, 1, .ro, 0⟩, ⟨15, 1, .ro, 0⟩, ⟨14, 1, .w1c, 0⟩, ⟨13, 1, .w1c, 0⟩, ⟨12, 1, .w1c, 0⟩, ⟨0, 9, .ro, 0⟩]⟩,
  ⟨0x101034, [(96, 0x40)], 0, fun _ => [⟨0, 24, .ro, 0⟩]⟩,
  ⟨0x101038, [(96, 0x40)], 0, fun _ => [⟨0, 24, .ro, 0⟩]⟩,
  ⟨0x10103C, [(96, 0x40)], 0, fun _ => [⟨0, 6, .ro, 0⟩]⟩,
  ⟨0x110000, [(2, 0x10000), (96, 0x100)], 0, fun _ => [⟨0, 5, .rw, 10⟩]⟩,
  ⟨0x110004, [(2, 0x10000), (96, 0x100)], 0, fun _ => [⟨24, 4, .rwa, 0⟩, ⟨0, 24, .rwa, 0⟩]⟩,
  ⟨0x110008, [(2, 0x10000), (96, 0x100)], 0, fun _ => [⟨0, 24, .rwa, 0⟩]⟩,
  ⟨0x11000C, [(2, 0x10000), (96, 0x100)], 0, fun _ => [⟨0, 24, .rwa, 0⟩]⟩,
  ⟨0x110010, [(2, 0x10000), (96, 0x100)], 0, fun _ => [⟨0, 24, .rwa, 8388608⟩]⟩,
  ⟨0x110014, [(2, 0x10000), (96, 0x100)], 0, fun _ => [⟨0, 24, .rwa, 8388607⟩]⟩,
  ⟨0x110018, [(2, 0x10000), (96, 0x100)], 0, fun _ => [⟨0, 24, .rwa, 0⟩]⟩,
  ⟨0x110020, [(2, 0x10000), (96, 0x100), (5, 0x20), (5, 0x4)], 0, fun ix => [⟨0, 24, .rwa, (if (ix 3) = 0 then 0x200000 else 0)⟩]⟩,
  ⟨0x130000, [(8, 0x1000), (2, 0x800), (512, 0x4)], 0, fun _ => [⟨0, 24, .rw, 0⟩]⟩]

/-- The registers of block JSP, in the order of the spec's tables. -/
def rowsJsp : List Row := [
  ⟨0x140000, [], 0, fun _ => [⟨0, 5, .rw, 0⟩]⟩,
  ⟨0x140004, [], 0, fun _ => [⟨16, 16, .rwa, 32768⟩, ⟨0, 16, .rwa, 1⟩]⟩,
  ⟨0x140008, [], 0, fun _ => [⟨28, 4, .rwa, 0⟩, ⟨16, 5, .rwa, 0⟩, ⟨12, 3, .rwa, 0⟩, ⟨0, 12, .rwa, 0⟩]⟩,
  ⟨0x14000C, [], 0, fun _ => [⟨0, 24, .rwa, 0⟩]⟩,
  ⟨0x140010, [], 0, fun _ => [⟨0, 2, .wo, 0⟩]⟩,
  ⟨0x140014, [], 0, fun _ => [⟨3, 1, .ro, 0⟩, ⟨2, 1, .w1c, 0⟩, ⟨1, 1, .ro, 0⟩, ⟨0, 1, .ro, 0⟩]⟩,
  ⟨0x140018, [], 0, fun _ => [⟨0, 16, .ro, 0⟩]⟩,
  ⟨0x140020, [], 1, fun _ => [⟨0, 32, .ro, 0⟩]⟩,
  ⟨0x140024, [], 2, fun _ => [⟨0, 32, .ro, 0⟩]⟩,
  ⟨0x140030, [(3, 0x4)], 0, fun ix => [⟨16, 5, .rw, ((ix 0))⟩, ⟨0, 2, .rw, 0⟩]⟩,
  ⟨0x140100, [(32, 0x4)], 0, fun _ => [⟨12, 4, .rwa, 0⟩, ⟨0, 12, .rwa, 0⟩]⟩]

/-- The registers of block CAL, in the order of the spec's tables. -/
def rowsCal : List Row := [
  ⟨0x180000, [], 0, fun _ => [⟨0, 5, .rw, 0⟩]⟩,
  ⟨0x180004, [], 0, fun _ => [⟨24, 8, .rwa, 56⟩, ⟨2, 1, .rwa, 1⟩, ⟨1, 1, .rwa, 1⟩, ⟨0, 1, .rwa, 1⟩]⟩,
  ⟨0x180008, [], 0, fun _ => [⟨16, 16, .rwa, 30⟩, ⟨8, 8, .rwa, 60⟩, ⟨0, 8, .rwa, 50⟩]⟩,
  ⟨0x18000C, [], 0, fun _ => [⟨24, 8, .rwa, 10⟩, ⟨16, 8, .rwa, 8⟩, ⟨8, 8, .rwa, 8⟩, ⟨0, 8, .rwa, 16⟩]⟩,
  ⟨0x180010, [], 0, fun _ => [⟨8, 8, .rwa, 10⟩, ⟨0, 8, .rwa, 0⟩]⟩,
  ⟨0x180014, [], 0, fun _ => [⟨0, 24, .rwa, 104858⟩]⟩,
  ⟨0x180018, [], 0, fun _ => [⟨0, 12, .rwa, 900⟩]⟩,
  ⟨0x180080, [], 0, fun _ => [⟨16, 8, .ro, 0⟩, ⟨0, 8, .ro, 0⟩]⟩,
  ⟨0x180084, [], 0, fun _ => [⟨12, 4, .wo, 0⟩, ⟨11, 1, .wo, 0⟩, ⟨8, 3, .wo, 0⟩, ⟨0, 2, .wo, 0⟩]⟩,
  ⟨0x1800A0, [(8, 0x4)], 0, fun _ => [⟨31, 1, .ro, 0⟩, ⟨30, 1, .ro, 0⟩, ⟨29, 1, .ro, 0⟩, ⟨0, 16, .ro, 0⟩]⟩,
  ⟨0x180100, [], 0, fun _ => [⟨0, 32, .rc, 0⟩]⟩,
  ⟨0x180104, [], 0, fun _ => [⟨0, 32, .rc, 0⟩]⟩,
  ⟨0x190000, [(8, 0x1000), (16, 0x100), (8, 0x20)], 0, fun _ => [⟨31, 1, .rw, 0⟩, ⟨0, 24, .rw, 0⟩]⟩,
  ⟨0x190004, [(8, 0x1000), (16, 0x100), (8, 0x20)], 0, fun _ => [⟨0, 24, .rw, 0⟩]⟩,
  ⟨0x190008, [(8, 0x1000), (16, 0x100), (8, 0x20)], 0, fun _ => [⟨0, 24, .rw, 0⟩]⟩,
  ⟨0x19000C, [(8, 0x1000), (16, 0x100), (8, 0x20)], 0, fun _ => [⟨16, 16, .rw, 0⟩, ⟨0, 16, .rw, 0⟩]⟩,
  ⟨0x190010, [(8, 0x1000), (16, 0x100), (8, 0x20)], 0, fun _ => [⟨16, 16, .rw, 0⟩, ⟨0, 16, .rw, 0⟩]⟩,
  ⟨0x190014, [(8, 0x1000), (16, 0x100), (8, 0x20)], 0, fun _ => [⟨16, 2, .rw, 0⟩, ⟨0, 16, .rw, 0⟩]⟩,
  ⟨0x190018, [(8, 0x1000), (16, 0x100), (8, 0x20)], 0, fun _ => [⟨12, 4, .rw, 0⟩, ⟨11, 1, .rw, 0⟩, ⟨10, 1, .rw, 0⟩, ⟨9, 1, .rw, 0⟩, ⟨0, 8, .rw, 0⟩]⟩,
  ⟨0x19001C, [(8, 0x1000), (16, 0x100), (8, 0x20)], 0, fun _ => [⟨0, 32, .rw, 0⟩]⟩,
  ⟨0x198000, [(8, 0x200), (16, 0x20), (8, 0x4)], 0, fun ix => if ix 2 = 7 then [⟨0, 16, .rw, 0⟩] else [⟨16, 16, .rw, 0⟩, ⟨0, 16, .rw, 0⟩]⟩]

/-- The registers of block CGL, in the order of the spec's tables. -/
def rowsCgl : List Row := [
  ⟨0x1C0000, [], 0, fun _ => [⟨0, 5, .rw, 0⟩]⟩,
  ⟨0x1C0004, [], 0, fun _ => [⟨8, 16, .rwa, 50⟩, ⟨6, 1, .rwa, 0⟩, ⟨5, 1, .rwa, 1⟩, ⟨4, 1, .rwa, 0⟩, ⟨0, 2, .rwa, 0⟩]⟩,
  ⟨0x1C0008, [], 1, fun _ => [⟨0, 32, .rwa, 0⟩]⟩,
  ⟨0x1C000C, [], 2, fun _ => [⟨0, 32, .rwa, 0⟩]⟩,
  ⟨0x1C0010, [], 1, fun _ => [⟨0, 32, .rwa, 0⟩]⟩,
  ⟨0x1C0014, [], 2, fun _ => [⟨0, 32, .rwa, 0⟩]⟩,
  ⟨0x1C0080, [], 0, fun _ => [⟨28, 3, .ro, 0⟩, ⟨25, 3, .ro, 0⟩, ⟨24, 1, .ro, 0⟩, ⟨16, 8, .ro, 0⟩, ⟨8, 4, .ro, 0⟩, ⟨0, 4, .ro, 0⟩]⟩,
  ⟨0x1C0084, [], 0, fun _ => [⟨0, 32, .ro, 0⟩]⟩,
  ⟨0x1C0088, [], 0, fun _ => [⟨16, 16, .wo, 0⟩, ⟨0, 2, .wo, 0⟩]⟩,
  ⟨0x1C008C, [], 0, fun _ => [⟨0, 32, .ro, 0⟩]⟩,
  ⟨0x1C0100, [], 0, fun _ => [⟨0, 32, .rc, 0⟩]⟩,
  ⟨0x1C0104, [], 0, fun _ => [⟨0, 32, .rc, 0⟩]⟩,
  ⟨0x1C0108, [], 0, fun _ => [⟨0, 32, .rc, 0⟩]⟩,
  ⟨0x1C010C, [], 0, fun _ => [⟨0, 32, .rc, 0⟩]⟩]

/-- The registers of block DRK, in the order of the spec's tables. -/
def rowsDrk : List Row := [
  ⟨0x1C8000, [], 0, fun _ => [⟨0, 5, .rw, 0⟩]⟩,
  ⟨0x1C8004, [], 0, fun _ => [⟨8, 5, .rwa, 0⟩, ⟨5, 1, .rwa, 1⟩, ⟨4, 1, .rwa, 1⟩, ⟨3, 1, .rwa, 1⟩, ⟨2, 1, .rwa, 0⟩, ⟨1, 1, .rwa, 0⟩, ⟨0, 1, .rwa, 0⟩]⟩,
  ⟨0x1C8008, [], 0, fun _ => [⟨16, 16, .rwa, 100⟩, ⟨0, 16, .rwa, 0⟩]⟩,
  ⟨0x1C800C, [], 0, fun _ => [⟨0, 8, .rwa, 10⟩]⟩,
  ⟨0x1C8080, [], 0, fun _ => [⟨3, 3, .ro, 0⟩, ⟨2, 1, .w1c, 0⟩, ⟨1, 1, .ro, 0⟩, ⟨0, 1, .ro, 0⟩]⟩,
  ⟨0x1C8084, [], 0, fun _ => [⟨0, 32, .ro, 0⟩]⟩,
  ⟨0x1C8088, [], 0, fun _ => [⟨16, 16, .wo, 0⟩, ⟨0, 4, .wo, 0⟩]⟩,
  ⟨0x1C808C, [], 0, fun _ => [⟨0, 16, .ro, 0⟩]⟩,
  ⟨0x1C8040, [(16, 0x4)], 0, fun _ => [⟨16, 16, .rwa, 0⟩, ⟨5, 1, .rwa, 0⟩, ⟨4, 1, .rwa, 0⟩, ⟨0, 4, .rwa, 0⟩]⟩,
  ⟨0x1C8100, [], 0, fun _ => [⟨0, 32, .rc, 0⟩]⟩,
  ⟨0x1C8104, [], 0, fun _ => [⟨0, 32, .rc, 0⟩]⟩,
  ⟨0x1C8108, [], 0, fun _ => [⟨0, 32, .rc, 0⟩]⟩]

/-- The registers of block QTZ, in the order of the spec's tables. -/
def rowsQtz : List Row := [
  ⟨0x1D0000, [], 0, fun _ => [⟨0, 5, .rw, 0⟩]⟩,
  ⟨0x1D0004, [], 0, fun _ => [⟨0, 2, .rwa, 0⟩]⟩,
  ⟨0x1D0008, [], 0, fun _ => [⟨16, 16, .rwa, 100⟩, ⟨0, 16, .rwa, 200⟩]⟩,
  ⟨0x1D0090, [], 0, fun _ => [⟨0, 32, .ro, 0⟩]⟩,
  ⟨0x1D0094, [], 0, fun _ => [⟨4, 3, .ro, 0⟩, ⟨3, 1, .w1c, 0⟩, ⟨2, 1, .w1c, 0⟩, ⟨1, 1, .ro, 0⟩, ⟨0, 1, .ro, 0⟩]⟩,
  ⟨0x1D0098, [], 0, fun _ => [⟨24, 8, .ro, 0⟩, ⟨16, 8, .ro, 0⟩, ⟨8, 8, .ro, 0⟩, ⟨0, 8, .ro, 0⟩]⟩,
  ⟨0x1D0080, [], 1, fun _ => [⟨0, 32, .ro, 0⟩]⟩,
  ⟨0x1D0084, [], 2, fun _ => [⟨0, 32, .ro, 0⟩]⟩,
  ⟨0x1D0088, [], 1, fun _ => [⟨0, 32, .rw, 0⟩]⟩,
  ⟨0x1D008C, [], 2, fun _ => [⟨0, 32, .rw, 0⟩]⟩,
  ⟨0x1D00A0, [], 1, fun _ => [⟨0, 32, .ro, 0⟩]⟩,
  ⟨0x1D00A4, [], 2, fun _ => [⟨0, 32, .ro, 0⟩]⟩,
  ⟨0x1D0100, [], 0, fun _ => [⟨0, 32, .rc, 0⟩]⟩]

/-- The registers of block TRU, in the order of the spec's tables. -/
def rowsTru : List Row := [
  ⟨0x1E0000, [], 0, fun _ => [⟨5, 1, .ro, 0⟩, ⟨4, 1, .ro, (if Config.ownerKeysFused then 1 else 0)⟩, ⟨3, 1, .ro, 0⟩, ⟨2, 1, .ro, 0⟩, ⟨1, 1, .ro, 0⟩, ⟨0, 1, .ro, 0⟩]⟩,
  ⟨0x1E0004, [], 0, fun _ => [⟨0, 32, .ro, 0⟩]⟩,
  ⟨0x1E0008, [], 0, fun _ => [⟨0, 32, .ro, (Config.secMinFused.toNat)⟩]⟩,
  ⟨0x1E000C, [], 0, fun _ => [⟨6, 2, .ro, 0⟩, ⟨5, 1, .ro, 0⟩, ⟨0, 4, .ro, 0⟩]⟩,
  ⟨0x1E0010, [], 0, fun _ => [⟨0, 26, .rw, 0⟩]⟩,
  ⟨0x1E0014, [], 0, fun _ => [⟨16, 16, .wo, 0⟩, ⟨0, 13, .wo, 0⟩]⟩,
  ⟨0x1E0018, [], 0, fun _ => [⟨30, 2, .rw, 0⟩, ⟨2, 1, .w1c, 0⟩, ⟨1, 1, .w1c, 0⟩, ⟨0, 1, .ro, 0⟩]⟩,
  ⟨0x1E0020, [], 0, fun _ => [⟨16, 16, .wo, 0⟩, ⟨0, 3, .wo, 0⟩]⟩,
  ⟨0x1E0024, [], 0, fun _ => [⟨4, 4, .ro, 0⟩, ⟨3, 1, .w1c, 0⟩, ⟨2, 1, .w1c, 0⟩, ⟨0, 1, .ro, 0⟩]⟩,
  ⟨0x1E0030, [], 0, fun _ => [⟨8, 1, .rw, 0⟩, ⟨0, 4, .rw, 0⟩]⟩,
  ⟨0x1E0100, [], 0, fun _ => [⟨0, 32, .rc, 0⟩]⟩,
  ⟨0x1E0104, [], 0, fun _ => [⟨0, 32, .rc, 0⟩]⟩,
  ⟨0x1E1000, [(1024, 0x4)], 0, fun _ => [⟨0, 32, .rw, 0⟩]⟩]

/-- The registers of block EVL, in the order of the spec's tables. -/
def rowsEvl : List Row := [
  ⟨0x1F0000, [], 0, fun _ => [⟨0, 5, .rw, 0⟩]⟩,
  ⟨0x1F0004, [], 0, fun _ => [⟨31, 1, .rwa, 1⟩, ⟨28, 2, .rwa, 1⟩, ⟨16, 11, .rwa, 1⟩, ⟨0, 16, .rwa, 10⟩]⟩,
  ⟨0x1F0080, [], 0, fun _ => [⟨4, 1, .w1c, 0⟩, ⟨3, 1, .w1c, 0⟩, ⟨2, 1, .w1c, 0⟩, ⟨1, 1, .ro, 0⟩, ⟨0, 1, .ro, 1⟩]⟩,
  ⟨0x1F0084, [], 0, fun _ => [⟨0, 32, .ro, 0⟩]⟩,
  ⟨0x1F0088, [], 0, fun _ => [⟨0, 32, .rw, 0⟩]⟩,
  ⟨0x1F008C, [], 0, fun _ => [⟨0, 4, .rw, 0⟩]⟩,
  ⟨0x1F0090, [], 0, fun _ => [⟨0, 32, .rc, 0⟩]⟩,
  ⟨0x1F0100, [], 0, fun _ => [⟨0, 32, .rc, 0⟩]⟩]

/-- The row of a table that holds an offset, with the indexes that pick the register out of it. -/
def matchDims : Nat → List (Nat × Nat) → Option (List Nat)
  | rel, [] => if rel = 0 then some [] else none
  | rel, (c, st) :: ds =>
    if rel / st < c then (matchDims (rel % st) ds).map (rel / st :: ·) else none

/-- Look an offset up in a list of rows. -/
def findReg : List Row → Nat → Option RegDef
  | [], _ => none
  | r :: rs, a =>
    if r.base ≤ a then
      match matchDims (a - r.base) r.dims with
      | some ix => some ⟨r.part, r.fields (fun k => (ix[k]?).getD 0)⟩
      | none => findReg rs a
    else findReg rs a

/-- The rows of the frame an offset lies in (R36, R37). -/
def rowsFor (a : Nat) : List Row :=
  if 0x80000 ≤ a ∧ a < 0x100000 then
    let o := a % 0x10000 / 0x1000
    if o = 0 then rowsStn else if o = 1 then rowsOpl else if o = 3 then rowsWrs
    else if o = 4 then rowsSpn else if o = 5 then rowsSld else []
  else if a < 0x10000 then rowsGlb
  else if a < 0x20000 then rowsHqe
  else if a < 0x40000 then rowsPcx
  else if a < 0x50000 then rowsBuf
  else if a < 0x60000 then rowsOnx
  else if a < 0x70000 then rowsGrn
  else if a < 0x80000 then rowsTpz
  else if a < 0x140000 then rowsBrl
  else if a < 0x180000 then rowsJsp
  else if a < 0x1C0000 then rowsCal
  else if a < 0x1C8000 then rowsCgl
  else if a < 0x1D0000 then rowsDrk
  else if a < 0x1E0000 then rowsQtz
  else if a < 0x1F0000 then rowsTru
  else if a < 0x200000 then rowsEvl
  else rowsSpare

/-- The register at a BAR0 offset, if the spec places one there (the windows onto trace memory, R43, and onto the event
ring, R491, are no registers of this table). -/
def regAt (a : Nat) : Option RegDef := findReg (rowsFor a) a

/-- The reset word of a list of fields; reserved bits are 0 (R14). -/
def fieldsReset : List Field → Nat
  | [] => 0
  | f :: fs => (f.rst % 2 ^ f.w) * 2 ^ f.lo + fieldsReset fs

/-- The value a register takes at reset (R42); 0 where the spec places no register (R14). -/
def resetWord (a : Nat) : Word :=
  match regAt a with
  | some r => BitVec.ofNat 32 (fieldsReset r.fields)
  | none => 0#32

/-- A register is configurable if it holds an RWA field (R39). -/
def configurable (a : Nat) : Bool :=
  match regAt a with
  | some r => r.fields.any (fun f => f.acc == .rwa)
  | none => false

end Sys2Proof.Machine
end

