-- ==== Sys2Proof/Machine/Ops.lean ====
section
/-!
DEFINITION. The named operations that every meaning is made of: reading and setting fields of registers, counters, the
time, the event log's inbox, what leaves the chip, free values, and the answer of a command.
-/

namespace Sys2Proof.Machine

/-- A register of a sparse register file: what is listed, else its reset value. -/
def rdR (m : SMap Word) (a : Nat) : Word := (smGet m a).getD (resetWord a)

/-- Set a register of a sparse register file. -/
def wrR (m : SMap Word) (a : Nat) (w : Word) : SMap Word := smSet (resetWord a) m a w

/-- The active copy of the register at BAR0 offset a (R41). -/
def State.rd (s : State) (a : Nat) : Word := rdR s.regs a

/-- Set the active copy of a register. -/
def State.wr (s : State) (a : Nat) (w : Word) : State := { s with regs := wrR s.regs a w }

/-- Field f as it reads (R9, R41). -/
def State.g (s : State) (f : FRef) : Nat := getF (s.rd f.addr) f

/-- The hardware sets field f. -/
def State.u (s : State) (f : FRef) (v : Nat) : State := s.wr f.addr (setF (s.rd f.addr) f v)

/-- The hardware sets fields in turn. -/
def State.us (s : State) (l : List (FRef × Nat)) : State := l.foldl (fun t p => t.u p.1 p.2) s

/-- Whether field f reads 1. -/
def State.on (s : State) (f : FRef) : Bool := s.g f == 1

/-- Field f read as two's complement (R7). -/
def State.gi (s : State) (f : FRef) : Int := toSigned f.w (s.g f)

/-- The hardware sets field f to a signed value. -/
def State.ui (s : State) (f : FRef) (v : Int) : State := s.u f (ofSigned f.w v)

/-- The 64-bit register whose low word lies at a (R51). -/
def State.g64 (s : State) (a : Nat) : Nat := (s.rd a).toNat + 2 ^ 32 * (s.rd (a + 4)).toNat

/-- The hardware sets the 64-bit register whose low word lies at a. -/
def State.u64 (s : State) (a v : Nat) : State :=
  (s.wr a (BitVec.ofNat 32 v)).wr (a + 4) (BitVec.ofNat 32 (v / 2 ^ 32))

/-- Count k events in the counter at a, which saturates at 0xFFFF_FFFF. -/
def State.bumpN (s : State) (a k : Nat) : State :=
  s.wr a (BitVec.ofNat 32 (min (2 ^ 32 - 1) ((s.rd a).toNat + k)))

/-- Count one event in the counter at a. -/
def State.bump (s : State) (a : Nat) : State := s.bumpN a 1

/-- Quartz time, ns (R31, R457). (log entry 6) -/
def State.now (s : State) : Nat := s.g64 R.QTZ_TIME_LO

/-- The time that the follower of a domain keeps (R31); domains as in `Qtz.skew`. (log entry 66) -/
def State.stamp (s : State) (d : Fin 15) : Nat := ((s.now : Int) + s.qtz.skew[d]).toNat

/-- The domains whose followers give times that software reads (R27). -/
def coreDomain : Fin 15 := 0
def berylDomain : Fin 15 := 2
def stationDomain (n : Fin 8) : Fin 15 := ⟨4 + n, by omega⟩

/-- An event is detected: it is on its way to the serial point of the log (R487, R488). Source 0xFF names no station. -/
def State.log (s : State) (code src : Nat) (args : List Nat) (cause : Nat := 0) : State :=
  let e : Event := ⟨s.stamp coreDomain, code, cause, src, (args[0]?).getD 0 % 2 ^ 32, (args[1]?).getD 0 % 2 ^ 32,
    (args[2]?).getD 0 % 2 ^ 32, (args[3]?).getD 0 % 2 ^ 32⟩
  { s with evl := { s.evl with inFlight := s.evl.inFlight ++ [e] } }

/-- An event that names no station (R492). -/
def noStation : Nat := 0xFF

/-- Something leaves the chip. (log entry 5) -/
def State.emit (s : State) (o : Out) : State := { s with out := o :: s.out }

/-- The free value that comes next. (log entry 4) -/
def State.freeVal (s : State) : Nat := Config.freeValue s.free

/-- Take a free value. (log entry 4) -/
def State.tick (s : State) : State := { s with free := s.free + 1 }

/-- Narrow the exact quotient num / den to an integer. Where it is not whole the spec names no rounding, and the result is
one of the two integers beside it, taken from a free value; the state remembers that one was taken. (log entry 13) -/
def State.quant (s : State) (num den : Int) : Int × State :=
  if num % den = 0 then (num / den, s) else (num / den + (s.freeVal % 2 : Nat), s.tick)

/-- Not held in reset (R57, R504, R522). -/
def State.up (s : State) : Bool := s.sys.held == .no

/-- Out of reset and not in RECOVERY (R38, R470). -/
def State.live (s : State) : Bool := s.up && !s.on R.TRU_STATUS_RECOVERY

/-- The answer of a command: its effect, or nothing while the device is held in reset (R504, R505) or in RECOVERY (R470). (log entries 7, 68) -/
def answer (s : State) (k : State → State) : Host.Outcome State Fault Refusal :=
  if s.live then .next (k s) else .next s

/-- The answer of a command of a block that works in RECOVERY too: TRU, EVL, function 0 and the resets (R38, R470). (log entries 7, 68) -/
def answerUp (s : State) (k : State → State) : Host.Outcome State Fault Refusal :=
  if s.up then .next (k s) else .next s

/-- Do something only under a condition. -/
def State.whenB (s : State) (c : Bool) (k : State → State) : State := if c then k s else s

/-- Do something for each element of a list, in order. -/
def State.each {α : Type} (s : State) (l : List α) (k : State → α → State) : State := l.foldl k s

/-- What cross parity finds in a block (R330): nothing, a bad bit it mends, or an error it cannot mend. -/
inductive SramFound
  | good | mended | bad
deriving DecidableEq, Repr

/-- The column byte of eight bytes (R330): bit i is the XOR of bit i of each. -/
def columnOf (bytes : List Byte) : Byte := bytes.foldl (· ^^^ ·) 0#8

/-- The rows of a block whose parity fails (R330). -/
def rowFailures (b : SramBlock) : List (Fin 8) :=
  (List.finRange 8).filter (fun i => decide (popCount 8 b.bytes[i].toNat % 2 ≠ bitOf b.rows.toNat i.val))

/-- Check a block as it is read and mend it where that is possible (R330). -/
def sramCheck (b : SramBlock) : SramFound × SramBlock :=
  let diff := columnOf b.bytes.toList ^^^ b.col
  match rowFailures b, popCount 8 diff.toNat with
  | [], 0 => (.good, b)
  | [i], 1 => (.mended, { b with bytes := vmod b.bytes i (· ^^^ diff) })
  | [i], 0 => (.mended, { b with rows := b.rows ^^^ BitVec.ofNat 8 (2 ^ i.val) })
  | [], 1 => (.mended, { b with col := b.col ^^^ diff })
  | _, _ => (.bad, b)

/-- A read of an SRAM block (R330): what was found is counted; an uncorrectable block is left to the owning block's rule. -/
def sramRead (s : State) (b : Option SramBlock) : State :=
  match b with
  | none => s
  | some b =>
    match (sramCheck b).1 with
    | .good => s
    | .mended => s.bump R.BUF_CNT_SRAM_MENDED
    | .bad => s.bump R.BUF_CNT_SRAM_UE

/-- A block that was read holds an error that cross parity cannot mend. -/
def sramBad (b : Option SramBlock) : Bool :=
  match b with
  | none => false
  | some b => (sramCheck b).1 == .bad

/-- A write of part of a block reads the whole block first (R331): a replaced byte fails its row parity. -/
def sramReads (b : SramBlock) (mask : BitVec 8) : Bool := (rowFailures b).any (fun i => bitOf mask.toNat i.val == 1)

/-- A write of fewer than 8 bytes of a block (R331): `mask` says which bytes. Only the old bytes being replaced, their row
bits and the column byte are read; where a replaced byte fails its parity the whole block is checked first. -/
def sramWrite (b : SramBlock) (mask : BitVec 8) (new : Vector Byte 8) : SramBlock :=
  let b := if sramReads b mask then (sramCheck b).2 else b
  (List.finRange 8).foldl (fun c i =>
    if bitOf mask.toNat i.val = 1 then
      { bytes := vmod c.bytes i (fun _ => new[i])
        rows := (c.rows &&& ~~~ BitVec.ofNat 8 (2 ^ i.val)) |||
          BitVec.ofNat 8 (popCount 8 new[i].toNat % 2 * 2 ^ i.val)
        col := c.col ^^^ c.bytes[i] ^^^ new[i] }
    else c) b

end Sys2Proof.Machine
end

