-- ==== Sys2Proof/Machine/Num.lean ====
section
/-!
DEFINITION. Fixed-point arithmetic: rounding, saturation, exact fractions as they narrow, and the sines and square roots that
the spindle drive and the sled compute. Where the spec names no rounding, the narrowed value is one of the two beside the exact
one, by a free value.
-/

namespace Sys2Proof.Machine

/-- Round to the nearest integer; where two are equally near the spec names none, and a free value decides. (log entry 13) -/
def State.nearest (s : State) (num den : Int) : Int × State :=
  let twice := 2 * num
  if twice % den = 0 ∧ (twice / den) % 2 ≠ 0 then ((num / den) + (s.freeVal % 2 : Nat), s.tick)
  else ((2 * num + den) / (2 * den), s)

/-- Narrow an exact fraction to an integer (see `State.quant`). (log entry 13) -/
def State.quantR (s : State) (r : Rat) : Int × State := s.quant r.num r.den

/-- Round an exact fraction to the nearest integer. (log entry 13) -/
def State.nearestR (s : State) (r : Rat) : Int × State := s.nearest r.num r.den

/-- Saturate to Q1.23 (R190). -/
def sat24 (v : Int) : Int := clampI (-8388608) 8388607 v

/-- The largest integer whose square is no more than v. -/
def isqrt (v : Nat) : Nat :=
  (List.range 64).foldl (fun r i => let t := r + 2 ^ (63 - i); if t * t ≤ v then t else r) 0

/-- π in units of 2⁻⁶⁰, to its last bit. -/
def piQ60 : Int := 3622009729038561421

/-- The terms of the sine's series for x in units of 2⁻⁶⁰: the sum so far and the last term. -/
def sineTerms (x : Int) : Nat → Int × Int
  | 0 => (x, x)
  | k + 1 =>
    let (sum, t) := sineTerms x k
    let u := -(t * x / 2 ^ 60 * x / 2 ^ 60) / ((2 * k + 2) * (2 * k + 3) : Nat)
    (sum + u, u)

/-- The sine of an angle of 65,536 counts to the turn, in units of 2⁻⁶⁰, within 2⁻⁵⁰ of the exact value. (log entry 18) -/
def sineQ60 (a : Int) : Int :=
  let q := (a % 65536).toNat
  let fold := if q < 16384 then (q : Int) else if q < 49152 then 32768 - (q : Int) else (q : Int) - 65536
  (sineTerms (fold * piQ60 / 32768) 14).1

/-- The cosine. (log entry 18) -/
def cosineQ60 (a : Int) : Int := sineQ60 (a + 16384)

/-- √3 in units of 2⁻⁶⁰. (log entry 18) -/
def sqrt3Q60 : Int := 1996918623117814387

/-- A Q2.60 product narrowed to the format of v. -/
def mulQ60 (v c : Int) : Rat := (v * c : Int) / (2 ^ 60 : Int)

/-- An exact fraction between two bounds. -/
def clampR (lo hi v : Rat) : Rat := if v < lo then lo else if hi < v then hi else v

end Sys2Proof.Machine
end

