-- ==== Sys2Proof/Machine/Code.lean ====
section
/-!
DEFINITION. The codes of the Q16 disc and of the links: the fields GF(16) and GF(256), Reed-Solomon encoding and decoding
with errors and erasures (R70, R79), the DK45 channel code (R76), the syncs (R77), and the cyclic checks.
-/

namespace Sys2Proof.Machine

/-- Multiply two elements of a field GF(2^m) given by its polynomial, over k bits of the second. -/
def gfMulAux (m poly : Nat) : Nat → Nat → Nat → Nat
  | 0, _, _ => 0
  | k + 1, a, b =>
    let r := gfMulAux m poly k (if a * 2 < 2 ^ m then a * 2 else (a * 2) ^^^ poly) (b / 2)
    if b % 2 = 1 then a ^^^ r else r

/-- A field GF(2^m) generated by a polynomial. -/
structure GField where
  m : Nat
  poly : Nat
deriving DecidableEq, Repr

/-- GF(16) by x⁴ + x + 1 (R70). -/
def gf16 : GField := ⟨4, 0b10011⟩

/-- GF(256) by x⁸ + x⁴ + x³ + x² + 1 (R79). -/
def gf256 : GField := ⟨8, 0x11D⟩

/-- The product of two elements. -/
def gmul (g : GField) (a b : Nat) : Nat := gfMulAux g.m g.poly g.m a b

/-- a to the power k. -/
def gpow (g : GField) (a : Nat) : Nat → Nat
  | 0 => 1
  | k + 1 => gmul g a (gpow g a k)

/-- The inverse of a nonzero element: its power 2^m − 2. -/
def ginv (g : GField) (a : Nat) : Nat := gpow g a (2 ^ g.m - 2)

/-- α^i, with α = 2 and exponents taken modulo 2^m − 1 (R70, R79). -/
def galpha (g : GField) (i : Nat) : Nat := gpow g 2 (i % (2 ^ g.m - 1))

/-- Add two polynomials, lowest coefficient first. -/
def polyAdd : List Nat → List Nat → List Nat
  | [], q => q
  | p, [] => p
  | a :: p, b :: q => (a ^^^ b) :: polyAdd p q

/-- Multiply a polynomial by a constant. -/
def polyScale (g : GField) (c : Nat) (p : List Nat) : List Nat := p.map (gmul g c)

/-- Multiply two polynomials, lowest coefficient first. -/
def polyMul (g : GField) : List Nat → List Nat → List Nat
  | [], _ => []
  | a :: p, q => polyAdd (polyScale g a q) (0 :: polyMul g p q)

/-- The value of a polynomial, lowest coefficient first, at x. -/
def polyEval (g : GField) (x : Nat) : List Nat → Nat
  | [] => 0
  | a :: p => a ^^^ gmul g x (polyEval g x p)

/-- The formal derivative of a polynomial over a field of characteristic 2: the odd coefficients, moved down. -/
def polyDeriv : List Nat → List Nat
  | [] => []
  | [_] => []
  | _ :: b :: p => b :: 0 :: polyDeriv p

/-- Drop the zero coefficients at the top. -/
def polyTrim (p : List Nat) : List Nat := (p.reverse.dropWhile (· == 0)).reverse

/-- The generator (x − α⁰) … (x − α^(r−1)), lowest coefficient first (R70, R79). -/
def rsGen (g : GField) : Nat → List Nat
  | 0 => [1]
  | r + 1 => polyMul g (rsGen g r) [galpha g r, 1]

/-- One step of the systematic encoder: feed a symbol into the remainder register, highest coefficient first. -/
def rsFeed (g : GField) (genHigh : List Nat) (reg : List Nat) (x : Nat) : List Nat :=
  let f := x ^^^ reg.headD 0
  polyAdd (reg.tail ++ [0]) (polyScale g f genHigh)

/-- The check symbols of a systematic code with r checks, highest coefficient first (R70, R79). -/
def rsCheck (g : GField) (r : Nat) (info : List Nat) : List Nat :=
  info.foldl (rsFeed g ((rsGen g r).reverse.tail)) (List.replicate r 0)

/-- A codeword: the information symbols, then the check symbols. -/
def rsEncode (g : GField) (r : Nat) (info : List Nat) : List Nat := info ++ rsCheck g r info

/-- The value of a received word, highest coefficient first, at x. -/
def wordEval (g : GField) (x : Nat) (w : List Nat) : Nat := w.foldl (fun a c => gmul g a x ^^^ c) 0

/-- The r syndromes of a received word. -/
def rsSyndromes (g : GField) (r : Nat) (w : List Nat) : List Nat :=
  (List.range r).map (fun j => wordEval g (galpha g j) w)

/-- The discrepancy of step k (counted from 0): the sum of Λ_j · S_(k−j). -/
def discrepancy (g : GField) (lam syn : List Nat) (k : Nat) : Nat :=
  ((List.range (k + 1)).map (fun j => gmul g ((lam[j]?).getD 0) ((syn[k - j]?).getD 0))).foldl (· ^^^ ·) 0

/-- The state of the Berlekamp-Massey iteration. -/
structure BM where
  lam : List Nat
  b : List Nat
  len : Nat
deriving DecidableEq, Repr

/-- One step of the iteration, with e erasures. -/
def bmStep (g : GField) (syn : List Nat) (e : Nat) (t : BM) (k : Nat) : BM :=
  let d := discrepancy g t.lam syn k
  let b := 0 :: t.b
  if d = 0 then { t with b := b }
  else
    let n := polyAdd t.lam (polyScale g d b)
    if 2 * t.len ≤ k + e then ⟨n, polyScale g (ginv g d) t.lam, k + 1 + e - t.len⟩
    else { t with lam := n, b := b }

/-- What a decoder answers: the corrected word, and at how many places it changed a symbol that was not erased. -/
structure RsFixed where
  word : List Nat
  errors : Nat
deriving DecidableEq, Repr

/-- The symbols that an error value of locator class c changes in a word of n symbols. In a word longer than the field's 2^m − 1 nonzero
elements places i and i + 2^m − 1 share a locator, and the code tells the sum of their errors only: it goes to the one that is erased; where both
are erased, or neither is, the limit of R127 leaves more than one codeword, and a free value picks. (log entry 89) -/
def classFix (g : GField) (n : Nat) (erasures : List Nat) (free c v : Nat) : List (Nat × Nat) :=
  let j := c + (2 ^ g.m - 1)
  if n ≤ j then [(c, v)]
  else if erasures.contains c ∧ erasures.contains j then
    let x := Config.freeValue (free + c) % 2 ^ g.m
    [(c, x), (j, x ^^^ v)]
  else if erasures.contains c then [(c, v)]
  else if erasures.contains j ∨ Config.freeValue (free + c) % 2 = 1 then [(j, v)]
  else [(c, v)]

/-- The error values of a received word by locator class (R70, R79, R125, R127), of a code with r checks whose erasures are at the given places
(0 is the highest coefficient); none where 2 · errors + erasures exceeds r. -/
def rsErrors (g : GField) (r : Nat) (w : List Nat) (erasures : List Nat) : Option (List (Nat × Nat)) :=
  let n := w.length
  let ord := 2 ^ g.m - 1
  let classes := (erasures.map (· % ord)).eraseDups
  let e := classes.length
  let syn := rsSyndromes g r w
  if r < erasures.length then none
  else if syn.all (· == 0) then some []
  else
    let gam := classes.foldl (fun p i => polyMul g p [1, galpha g (n - 1 - i)]) [1]
    let t := ((List.range r).filter (fun k => decide (e ≤ k))).foldl (bmStep g syn e) ⟨gam, gam, e⟩
    let lam := polyTrim t.lam
    let deg := lam.length - 1
    let places := (List.range (min n ord)).filter
      (fun i => polyEval g (ginv g (galpha g (n - 1 - i))) lam == 0)
    if places.length ≠ deg ∨ r < 2 * (deg - e) + erasures.length then none
    else
      let om := (polyMul g syn lam).take r
      let dl := polyDeriv lam
      some (places.map (fun i =>
        let x := galpha g (n - 1 - i)
        let xi := ginv g x
        (i, gmul g x (gmul g (polyEval g xi om) (ginv g (polyEval g xi dl))))))

/-- Decode a received word of a code with r checks whose erasures are at the given places (0 is the highest coefficient): a codeword within
2 · errors + erasures ≤ r, or none. `free` is the first of the free values it may take. (log entry 89) -/
def rsDecode (g : GField) (r : Nat) (w : List Nat) (erasures : List Nat) (free : Nat) : Option RsFixed :=
  let n := w.length
  let ord := 2 ^ g.m - 1
  match rsErrors g r w erasures with
  | none => none
  | some errs =>
    let twins := ((erasures.filter (fun i => erasures.contains (i + ord))).filter (fun i => !errs.any (fun p => p.1 == i))).map (fun i => (i, 0))
    let fix := (errs ++ twins).flatMap (fun p => classFix g n erasures free p.1 p.2)
    let out := (List.range n).map (fun i =>
      (w[i]?).getD 0 ^^^ ((fix.find? (fun p => p.1 == i)).map Prod.snd).getD 0)
    if (rsSyndromes g r out).all (· == 0) then
      some ⟨out, (fix.filter (fun p => p.2 != 0 && !erasures.contains p.1)).length⟩
    else none

/-- The DK45 channel words of nibbles 0x0 to 0xF (R76). -/
def dk45Words : List (BitVec 5) :=
  [0b00001, 0b00011, 0b00101, 0b00110, 0b00111, 0b01001, 0b01010, 0b01011,
   0b01100, 0b01101, 0b01110, 0b10001, 0b10010, 0b10100, 0b11000, 0b10000]

/-- The channel word of a nibble (R76). -/
def dk45Word (nib : Nat) : BitVec 5 := (dk45Words[nib % 16]?).getD 0

/-- The nibble a channel word stands for; none for one of the 16 invalid patterns (R76). -/
def dk45Nibble (w : BitVec 5) : Option Nat :=
  let i := dk45Words.idxOf w
  if i < 16 then some i else none

/-- The channel words of bytes, high nibble first (R76). -/
def dk45Bytes (bs : List Byte) : List (BitVec 5) :=
  bs.flatMap (fun b => [dk45Word (b.toNat / 16), dk45Word (b.toNat % 16)])

/-- The primary and the secondary sync (R77). -/
def primarySync : BitVec 40 := 0x8008009249
def secondarySync : BitVec 40 := 0x8008008421

/-- The low k bits of a number, most significant first. -/
def msbBits (k v : Nat) : List Bool := (List.range k).map (fun i => bitOf v (k - 1 - i) == 1)

/-- The 1,240 channel bits of a half-frame's 124 bytes (R76, R78). -/
def halfBits (bs : List Byte) : List Bool := (dk45Bytes bs).flatMap (fun w => msbBits 5 w.toNat)

/-- The 2,560 channel bits of a frame that carries a row of 248 bytes (R77, R78): primary sync, half A, secondary sync, half B. -/
def frameBits (row : List Byte) : List Bool :=
  msbBits 40 primarySync.toNat ++ halfBits (row.take 124) ++ msbBits 40 secondarySync.toNat ++ halfBits (row.drop 124)

/-- The levels that channel bits write after a level, 1 the mark (R75): a channel bit 1 toggles the level. -/
def nrzi (lv : Bool) : List Bool → List Bool
  | [] => []
  | b :: t => (lv != b) :: nrzi (lv != b) t

/-- Channel bits q to q + k − 1 of a cluster's rows, k no more than a frame. -/
def clusterBits (rows : List (List Byte)) (q k : Nat) : List Bool :=
  let frame := fun (i : Nat) => ((rows[i]?).map frameBits).getD []
  ((frame (q / 2560) ++ frame (q / 2560 + 1)).drop (q % 2560)).take k

/-- In how many bits two 40-bit patterns differ (R102). -/
def syncDiff (a b : BitVec 40) : Nat := popCount 40 (a ^^^ b).toNat

/-- One bit of a cyclic check of width w, most significant bit first. -/
def crcBit (w poly : Nat) (crc : Nat) (bit : Nat) : Nat :=
  let top := crc / 2 ^ (w - 1) % 2
  let sh := crc * 2 % 2 ^ w
  if (top + bit) % 2 = 1 then sh ^^^ poly else sh

/-- The bits of a byte, most significant first. -/
def bitsMsb (b : Byte) : List Nat := (List.range 8).map (fun i => bitOf b.toNat (7 - i))

/-- The bits of a byte, least significant first. -/
def bitsLsb (b : Byte) : List Nat := (List.range 8).map (fun i => bitOf b.toNat i)

/-- A cyclic check over bytes, most significant bit first. -/
def crcMsb (w poly init : Nat) (bs : List Byte) : Nat := (bs.flatMap bitsMsb).foldl (crcBit w poly) init

/-- The w low bits of a number in reverse order. -/
def reverseBits : Nat → Nat → Nat
  | 0, _ => 0
  | w + 1, v => v % 2 * 2 ^ w + reverseBits w (v / 2)

/-- CRC-32C (R83, R86): polynomial 0x1EDC_6F41, bytes taken least significant bit first, all ones at the start and a final
complement, as the check of that name is defined. PRESUMED: the spec names the check and not its parameters. (log entry 11) -/
def crc32c (bs : List Byte) : Nat :=
  reverseBits 32 ((bs.flatMap bitsLsb).foldl (crcBit 32 0x1EDC6F41) 0xFFFFFFFF) ^^^ 0xFFFFFFFF

end Sys2Proof.Machine
end

