-- ==== Sys2Proof/Machine/Disc.lean ====
section
/-!
DEFINITION. The Q16 disc as the FY8C addresses it (chapter "The Q16 Disc and Its Recording Format"): physical cluster
addresses, zones, the order of slots along an arm.
-/

namespace Sys2Proof.Machine

/-- The fields of a physical cluster address (R72). -/
def pcaLayer (p : Nat) : Nat := p / 2 ^ 28 % 16
def pcaArm (p : Nat) : Nat := p / 2 ^ 26 % 4
def pcaZone (p : Nat) : Nat := p / 2 ^ 24 % 4
def pcaSlot (p : Nat) : Nat := p % 2 ^ 19

/-- The address of a slot (R72). -/
def mkPca (layer arm zone slot : Nat) : Nat := layer * 2 ^ 28 + arm * 2 ^ 26 + zone * 2 ^ 24 + slot

/-- Slots per arm of a zone, by its code (R64). -/
def zoneSlots (zone : Nat) : Nat :=
  if zone = 0 then 267296 else if zone = 1 then 7903 else if zone = 2 then 916 else 5584

/-- The zone that follows along the arm in the track direction (R63, R64, R71): outward on even layers, inward on odd. -/
def nextZone (layer zone : Nat) : Option Nat :=
  if layer % 2 = 0 then
    if zone = 1 then some 2 else if zone = 2 then some 0 else if zone = 0 then some 3 else none
  else
    if zone = 3 then some 0 else if zone = 0 then some 2 else if zone = 2 then some 1 else none

/-- The address that follows an accepted one on its arm (R71): the next slot of the zone, and after a zone's last slot, slot 0
of the next zone. -/
def nextPca (p : Nat) : Option Nat :=
  if pcaSlot p + 1 < zoneSlots (pcaZone p) then some (p + 1)
  else (nextZone (pcaLayer p) (pcaZone p)).map (fun z => mkPca (pcaLayer p) (pcaArm p) z 0)

/-- First slot and number of slots of the data region of an arm (R65). -/
def dataFirst : Nat := 1024
def dataEnd : Nat := 266272

/-- The slot lies in a map zone (R65). -/
def inMapZone (p : Nat) : Bool := pcaZone p == 0 && (pcaSlot p < dataFirst || dataEnd ≤ pcaSlot p)

/-- The place in recording order that follows an arm's frontier in the data region (R88): slot by slot, layer by layer;
none past layer 15. -/
def nextData (p : Nat) : Option Nat :=
  if pcaSlot p + 1 < dataEnd then some (p + 1)
  else if pcaLayer p < 15 then some (mkPca (pcaLayer p + 1) (pcaArm p) 0 dataFirst)
  else none

/-- The address an ADIP word carries, if it decodes with no more than three corrected nibbles (R70, R71). -/
def adipAddress (w : BitVec 60) : Option Nat :=
  let nibs := (List.range 15).map (fun i => w.toNat / 16 ^ (14 - i) % 16)
  (rsDecode gf16 6 nibs [] 0).map (fun f => (f.word.take 9).foldl (fun a d => a * 16 + d) 0 % 2 ^ 32)

/-- The ADIP word of a slot (R70): FORMAT 0x1, the address, six check nibbles. -/
def adipWord (pca : Nat) : BitVec 60 :=
  let info := 1 :: (List.range 8).map (fun i => pca / 16 ^ (7 - i) % 16)
  BitVec.ofNat 60 ((rsEncode gf16 6 info).foldl (fun a d => a * 16 + d) 0)

/-- The frame address field of row r of a slot (R82). -/
def frameAddress (r pca : Nat) : Nat :=
  r * 2 ^ 23 + pcaLayer pca * 2 ^ 19 + pcaArm pca * 2 ^ 17 + pcaZone pca * 2 ^ 15 + pcaSlot pca % 2 ^ 15

end Sys2Proof.Machine
end

