-- ==== Sys2Proof/Machine/LaneOps.lean ====
section
/-!
DEFINITION. Shared operations of the Opal lanes (chapter "Opal Read-Channel Lanes"): which lane does a beam's work, seeds,
the rows a lane delivers, resynchronisation, spares.
-/

namespace Sys2Proof.Machine

/-- The station lane of a beam: data lane D(m), or verify lane V(m) (R37). -/
def laneOf (n : Fin 8) (m : Fin 4) (ver : Bool) : Fin 68 :=
  ⟨8 * n.val + m.val + (if ver then 4 else 0), by split <;> omega⟩

/-- Spare lane k (R37). -/
def spareLane (k : Fin 4) : Fin 68 := ⟨64 + k.val, by omega⟩

/-- The spare lanes, lowest first. -/
def spares : List (Fin 4) := [0, 1, 2, 3]

/-- All lanes, station lanes first. -/
def allLanes : List (Fin 68) := List.finRange 68

/-- Change a lane. -/
def State.laneU (s : State) (l : Fin 68) (f : Lane → Lane) : State := { s with lanes := vmod s.lanes l f }

/-- Fields of OPL_SPARE_MAP for spare k (R122). -/
def mapAssigned (k : Fin 4) : FRef := ⟨R.OPL_SPARE_MAP, 8 * k.val + 7, 1⟩
def mapStation (k : Fin 4) : FRef := ⟨R.OPL_SPARE_MAP, 8 * k.val + 4, 3⟩
def mapVerify (k : Fin 4) : FRef := ⟨R.OPL_SPARE_MAP, 8 * k.val + 3, 1⟩
def mapBeam (k : Fin 4) : FRef := ⟨R.OPL_SPARE_MAP, 8 * k.val, 2⟩

/-- Spare k serves the lane of station n, beam m (R122). -/
def serves (s : State) (k : Fin 4) (n : Fin 8) (m : Fin 4) (ver : Bool) : Bool :=
  s.on (mapAssigned k) && s.g (mapStation k) == n.val && s.g (mapVerify k) == b2n ver && s.g (mapBeam k) == m.val

/-- The spare that serves a lane, if any. -/
def spareOf (s : State) (n : Fin 8) (m : Fin 4) (ver : Bool) : Option (Fin 4) :=
  spares.find? (fun k => serves s k n m ver)

/-- The lane that does the work of a beam: its own lane, or the spare that serves it (R116). -/
def workLane (s : State) (n : Fin 8) (m : Fin 4) (ver : Bool) : Fin 68 :=
  match spareOf s n m ver with
  | some k => spareLane k
  | none => laneOf n m ver

/-- The station a lane works for: its own, or the one a spare serves. -/
def laneStation (s : State) (l : Fin 68) : Nat := s.g (R.OPL_UNIT_STATION l.val)

/-- Lane l is a verify lane, or a spare serving one. -/
def laneVerify (s : State) (l : Fin 68) : Bool := s.on (R.OPL_UNIT_VERIFY l.val)

/-- The lane has frame lock and searches no longer (R102, R105). -/
def locked (s : State) (l : Fin 68) : Bool := s.on (R.OPL_STATUS_FRAME_LOCK l.val)

/-- Shortest and longest period a lane processes: 900 Mbit/s and 150 Mbit/s, UQ3.21 (R91, R121). -/
def periodMin : Nat := 0x238E39
def periodMax : Nat := 0xD55555

/-- Load the seed period of a lane (R95): the measured wobble period, in units of 2⁻²¹ samples, divided by 128, or OPL_TR_PERIOD; a seed
outside 150 Mbit/s to 900 Mbit/s sets RATE_ERR, and the lane then delivers nothing (R91). -/
def seedLoad (wobble : Nat) (s : State) (l : Fin 68) : State :=
  let (q, s) := if s.on (R.OPL_TR_SEED_SRC l.val) then s.quant wobble 128 else ((s.g (R.OPL_TR_PERIOD_PERIOD l.val) : Int), s)
  let sd := q.toNat
  let bad := !(periodMin ≤ sd && sd ≤ periodMax)
  let t := (s.laneU l (fun x => { x with seed := sd })).us
    [(R.OPL_RATE_PERIOD l.val, sd), (R.OPL_STATUS_RATE_ERR l.val, b2n bad)]
  t.whenB bad (fun u => u.u (R.OPL_STATUS_ACTIVE l.val) 0)

/-- The initial taps of OPL_EQ_INIT0 to OPL_EQ_INIT7 (R97): tap 2k from TAP_LO, tap 2k + 1 from TAP_HI of word k. -/
def initTaps (s : State) (l : Fin 68) : List (BitVec 16) :=
  (List.range 15).map (fun i => BitVec.ofNat 16 (if i % 2 = 0 then s.g (R.OPL_EQ_INIT_TAP_LO l.val (i / 2))
    else s.g (R.OPL_EQ_INIT_TAP_HI l.val (i / 2))))

/-- Load the equaliser taps from OPL_EQ_INIT0 to OPL_EQ_INIT7 (R97). -/
def tapsLoad (s : State) (l : Fin 68) : State :=
  s.laneU l (fun x => { x with taps := Vector.ofFn (fun i => ((initTaps s l)[i.val]?).getD 0#16), tapsDue := false })

/-- The lane takes its initial taps at its next frame boundary (R304): at once in role OFF. -/
def tapsAtBoundary (s : State) (l : Fin 68) : State :=
  if s.g (R.OPL_MODE_MODE l.val) = 0 then tapsLoad s l else s.laneU l (fun x => { x with tapsDue := true })

/-- How many outputs timing recovery has yielded: the decisions lag 63 outputs behind (R100). -/
def outputsOf (x : Dsp) : Nat := if x.n = 0 then x.ys.length else x.n + 63

/-- Some channel bit of a to b − 1 lies inside a declared defect (R111). -/
def defectWithin (x : Dsp) (a b : Nat) : Bool :=
  x.defects.any (fun d => decide (d.1 < b) && match d.2 with | some e => decide (a < e) | none => decide (a < outputsOf x))

/-- The figures of a cluster that begins at channel bit a start from nothing (R113). -/
def figuresFrom (a : Option Nat) (x : Dsp) : Dsp :=
  { x with figFrom := a, sums := List.replicate 4 (0, 0), tapSum := List.replicate 15 0, tapN := 0 }

/-- A whole-frame erasure as Topaz receives it (R103, R105). -/
def erasedRow (case : Nat) (isDefect : Bool) : RxRow :=
  ⟨List.replicate 248 0#8, List.replicate 248 true, case, 0, 0, true, false, isDefect⟩

/-- The station's calibration reads its probe: its data lanes act in role CAL (R90, R305 step 3). (log entry 32) -/
def calReads (s : State) (n : Nat) : Bool :=
  match (s.cal.toList[n]?).bind CalStn.run with
  | some r => 2 ≤ r.step && r.step ≤ 14
  | none => false

/-- A lane delivers a row to Topaz (R111); the 320th completes the cluster, which waits for Topaz's decoder. A lane in role CAL
delivers to the calibration block only (R90). (log entry 29) -/
def deliverRow (s : State) (l : Fin 68) (r : RxRow) : State :=
  let x := s.lanes[l]
  let rows := r :: x.rows
  let n := if r.whole then x.erased + 1 else x.erased
  let t := (s.laneU l (fun x => { x with
      rows := if rows.length < 320 then rows else []
      erased := n
      pri := none, sec := none, decided := 0, inserted := false, hyp := none })).bump (R.OPL_CNT_FRAMES l.val)
  let t := t.whenB r.whole (fun t => t.bump (R.OPL_CNT_ERASED l.val))
  let t := t.whenB r.halfA (fun t => t.bump (R.OPL_CNT_HALF_ERASED l.val))
  if rows.length < 320 then t
  else if s.g (R.OPL_MODE_MODE l.val) = 1 && !calReads s (laneStation s l) then
    { t with rx := t.rx ++ [⟨l.val, x.resynced, rows.reverse⟩] }
  else t

/-- Part of the frame that begins at channel bit q lies inside a declared defect (R111). (log entry 73) -/
def frameTouched (x : Dsp) (q : Nat) : Bool := defectWithin x q (q + 2560)

/-- Deliver up to k rows of the cluster under way, the next of which begins at channel bit q, as whole-frame erasures. -/
def eraseRows (s : State) (l : Fin 68) (q : Nat) : Nat → State
  | 0 => s
  | k + 1 =>
    if (s.lanes[l]).rows.length = 0 then s
    else eraseRows (deliverRow s l (erasedRow 6 (frameTouched (s.lanes[l]).dsp q))) l (q + 2560) k

/-- Deliver the rest of the cluster under way as whole-frame erasures, so that Topaz still receives 320 rows (R105). -/
def eraseRest (s : State) (l : Fin 68) : State := eraseRows s l (s.lanes[l]).pred 320

/-- Deliver a whole cluster, whose row 0 begins at channel bit q, as whole-frame erasures (R105, R106). -/
def eraseCluster (s : State) (l : Fin 68) (q : Nat) : State :=
  eraseRows (deliverRow s l (erasedRow 6 (frameTouched (s.lanes[l]).dsp q))) l (q + 2560) 320

/-- Resynchronise (R105): frame lock is dropped, the seed reloaded, the rest of the cluster erased, and every bit position is
searched for a primary sync. -/
def resync (wobble : Nat) (s : State) (l : Fin 68) : State :=
  let s := (s.us [(R.OPL_STATUS_FRAME_LOCK l.val, 0), (R.OPL_STATUS_RESYNC_SEEN l.val, 1),
    (R.OPL_STATUS_HYPOTHESIS l.val, 0), (R.OPL_STATUS_ACTIVE l.val, 0)]).bump (R.OPL_CNT_RESYNC l.val)
  let s := seedLoad wobble s l
  let s := eraseRest s l
  s.laneU l (fun x => { x with
    miss := 0, searchPri := none, starting := false, awaitSlot := true, sawResync := true, slotAt := none,
    held := false, hyp := none, pri := none, sec := none, decided := 0, inserted := false, dsp := figuresFrom none x.dsp })

/-- A lane starts a read or a verify at another place of the disc (a seek or a layer jump): its lock is gone, its seed is
loaded again, and the station's timing will say where frame 0 of its first slot begins (R95, R106). -/
def laneRestart (wobble : Nat) (s : State) (l : Fin 68) : State :=
  let s := s.us [(R.OPL_STATUS_FRAME_LOCK l.val, 0), (R.OPL_STATUS_HYPOTHESIS l.val, 0), (R.OPL_STATUS_ACTIVE l.val, 0)]
  let s := seedLoad wobble s l
  s.laneU l (fun x => { x with
    miss := 0, searchPri := none, starting := true, slotAt := none, awaitSlot := false, resynced := false, confirmed := x.dsp.n,
    hyp := none, pri := none, sec := none, decided := 0, inserted := false, rows := [], erased := 0, marginSum := 0, marginMin := 255,
    halves := 0, sawResync := false, dsp := figuresFrom none x.dsp })

/-- The wobble seed of the station a lane works for (R95). -/
def wobbleOf (s : State) (l : Fin 68) : Nat :=
  (s.stn[(⟨laneStation s l % 8, Nat.mod_lt _ (by omega)⟩ : Fin 8)]).wob

/-- The lanes that work for station n. -/
def stationLanes (s : State) (n : Fin 8) : List (Fin 68) :=
  beams.flatMap (fun m => [workLane s n m false, workLane s n m true])

/-- A seek or a layer jump of a station (R95, R106): its lanes start again at the new place, with the seed loaded. -/
def lanesSeek (s : State) (n : Fin 8) : State :=
  s.each (stationLanes s n) (fun t l => if t.g (R.OPL_MODE_MODE l.val) = 0 then t else laneRestart (wobbleOf t l) t l)

/-- A lane's signal path starts from nothing, with the gain at GAIN_INIT (R93): no defect is declared (R107) and no timing lock held (R96). -/
def gainLoad (s : State) (l : Fin 68) : State :=
  let g := min 144 (s.g (R.OPL_AFE_GAIN_INIT l.val))
  (s.laneU l (fun x => { x with dsp := { Dsp.init with gain := g * 2 ^ 16 }, held := false })).us
    [(R.OPL_GAIN_GAIN l.val, g), (R.OPL_STATUS_DEFECT l.val, 0), (R.OPL_STATUS_TIMING_LOCK l.val, 0)]

/-- A lane leaves OFF (R93, R95, R97): its signal path starts, seed and taps are loaded. -/
def laneBegin (wobble : Nat) (s : State) (l : Fin 68) : State := tapsLoad (laneRestart wobble (gainLoad s l) l) l

/-- The configurable registers of a lane (R120). -/
def laneRegs (l : Nat) : List Nat :=
  [R.OPL_MODE l, R.OPL_AFE l, R.OPL_TR l, R.OPL_TR_PERIOD l, R.OPL_EQ_CTRL l, R.OPL_TARGET_PROG l, R.OPL_SYNC l,
   R.OPL_DEFECT l] ++ (List.range 8).map (R.OPL_EQ_INIT l)

/-- A spare may take a lane's work: it serves none, and its own DSP section has not failed. -/
def spareFree (s : State) (k : Fin 4) : Bool :=
  !s.on (mapAssigned k) && !s.on (R.OPL_STATUS_FAILED (spareLane k).val)

/-- The lowest-numbered free spare (R115). -/
def freeSpare (s : State) : Option (Fin 4) := spares.find? (spareFree s)

/-- Free the spare that serves a lane: OPL_SPARE_MAP stops naming it, and it returns to group 0 (R36, R117, R122). Its role is OFF again,
in the active copy alone, without an apply; the pending copy of OPL_MODE stays. (log entry 29) -/
def spareClear (s : State) (k : Fin 4) : State :=
  (s.laneU (spareLane k) (fun _ => Lane.init)).us
    [(mapAssigned k, 0), (mapStation k, 0), (mapVerify k, 0), (mapBeam k, 0),
     (R.OPL_UNIT_STATION (spareLane k).val, 0), (R.OPL_UNIT_VERIFY (spareLane k).val, 0),
     (R.OPL_UNIT_APPLY_GRP (spareLane k).val, 0), (R.OPL_MODE_MODE (spareLane k).val, 0),
     (R.OPL_STATUS_FRAME_LOCK (spareLane k).val, 0), (R.OPL_STATUS_ACTIVE (spareLane k).val, 0),
     (R.OPL_STATUS_HYPOTHESIS (spareLane k).val, 0), (R.OPL_STATUS_DEFECT (spareLane k).val, 0),
     (R.OPL_STATUS_TIMING_LOCK (spareLane k).val, 0)]

/-- A cluster still takes verify results: those of a cluster that was interrupted or abandoned decide nothing any more (R169, R171, R172). (log entry 75) -/
def takesResults (c : Cur) : Bool := c.results < 320 && !c.interrupted && !c.abandoned

/-- A cluster that waits encoded for a beam goes back to the front of its station's queue, to be encoded for the beam that writes next
(R19, R123, R173). -/
def recallEnc (s : State) (n : Fin 8) (m : Fin 4) : State :=
  match ((s.wrs[n]).beams[m]).enc with
  | none => s
  | some e => { s with wrs := vmod s.wrs n (fun w => { w with
      beams := vmod w.beams m (fun b => { b with enc := none }), queue := e.job :: w.queue }) }

/-- At a cluster boundary a beam's verify lane leaves its work (R115, R178): the frames still in flight in it are failed verify results, under
the last case of R170. -/
def failInFlight (s : State) (n : Fin 8) (m : Fin 4) : State :=
  let js := ((s.wrs[n]).beams[m]).judged
  let owed := (js.map (fun c => if takesResults c then 320 - c.results else 0)).sum
  let f := fun (c : Cur) => if takesResults c then
    { c with laneFail := true, failed := c.failed + (320 - c.results), results := 320 } else c
  { s with wrs := vmod s.wrs n (fun w => { w with beams := vmod w.beams m (fun b => { b with judged := js.map f }) }) }.bumpN
    (R.WRS_CNT_FRAMES_FAILED n) owed

/-- Copy one configurable register of a lane, active and pending copy, to another lane (R115). -/
def copyReg (src dst : Nat) (s : State) : State :=
  { s with regs := wrR s.regs dst (rdR s.regs src), pend := wrR s.pend dst (rdR s.pend src) }

/-- Copy a lane's configuration to another lane (R115, step 1). (log entry 29) -/
def copyConfig (s : State) (src dst : Fin 68) : State :=
  s.each ((laneRegs src.val).zip (laneRegs dst.val)) (fun t p => copyReg p.1 p.2 t)

/-- A strobe that waits for a lane waits for the spare instead, with the values it staged (R115). -/
def moveStrobe (s : State) (src dst : Fin 68) : State :=
  if s.strobes.any (fun p => p.unit == .lane src.val) then
    let t := s.each ((laneRegs src.val).zip (laneRegs dst.val))
      (fun t p => { t with stag := wrR t.stag p.2 (rdR t.stag p.1) })
    { t with strobes := t.strobes.map (fun p => if p.unit == .lane src.val then { p with unit := .lane dst.val } else p) }
  else s

/-- The lane as OPL_SPARE_CMD bits 9:4 name it, for LANE_SPARED (R492). -/
def laneArg (n : Fin 8) (m : Fin 4) (ver : Bool) : Nat := 16 * m.val + 8 * b2n ver + n.val

/-- Move a lane's work to spare k (R115): configuration, apply group, status, map, event. A beam that had stopped for want of this lane works
again (R117, R122). A calibration that runs discards the
beam's results (R309). -/
def moveToSpare (s : State) (n : Fin 8) (m : Fin 4) (ver : Bool) (k : Fin 4) (cause : Nat) : State :=
  let old := workLane s n m ver
  let new := spareLane k
  let own := laneOf n m ver
  let s := moveStrobe (copyConfig s old new) old new
  let s := match spareOf s n m ver with
    | some j => spareClear s j
    | none => s
  let s := ((s.laneU new (fun _ => Lane.init)).laneU own (fun x => { x with stopped := false })).us
    [(R.OPL_UNIT_STATION new.val, n.val), (R.OPL_UNIT_VERIFY new.val, b2n ver),
     (R.OPL_UNIT_APPLY_GRP new.val, 2 + n.val), (R.OPL_STATUS_SPARED old.val, 1), (R.OPL_STATUS_SPARED own.val, 1),
     (mapAssigned k, 1), (mapStation k, n.val), (mapVerify k, b2n ver), (mapBeam k, m.val)]
  s.log 0x103 n.val [laneArg n m ver, k.val, cause]

end Sys2Proof.Machine
end

