-- ==== Sys2Proof/Machine/Sha.lean ====
section
/-!
DEFINITION. The SHA-512 digest that cluster headers, images, manifests and reel chains use (R83, R467, R475). Its constants
are computed from the primes, as the standard the spec names defines them (PRESUMED: FIPS 180-4).
-/

namespace Sys2Proof.Machine

/-- The largest r with r^k ≤ v, found bit by bit from bit b down. -/
def nthRoot (k v : Nat) : Nat → Nat → Nat
  | 0, r => r
  | b + 1, r => nthRoot k v b (if (r + 2 ^ b) ^ k ≤ v then r + 2 ^ b else r)

/-- No number from 2 to k divides p. -/
def noDivisor (p : Nat) : Nat → Bool
  | 0 => true
  | k + 1 => (k + 1 < 2 || p % (k + 1) != 0) && noDivisor p k

/-- The first 80 primes: those below 410. -/
def primes80 : List Nat := (List.range 410).filter (fun p => 2 ≤ p && noDivisor p (p - 1))

/-- The 80 round constants: the first 64 bits of the fractions of the cube roots of the first 80 primes. -/
def shaK : List (BitVec 64) := primes80.map (fun p => BitVec.ofNat 64 (nthRoot 3 (p * 2 ^ 192) 70 0))

/-- The initial value: the first 64 bits of the fractions of the square roots of the first 8 primes. -/
def shaInit : List (BitVec 64) := (primes80.take 8).map (fun p => BitVec.ofNat 64 (nthRoot 2 (p * 2 ^ 128) 70 0))

/-- The message schedule: 16 words extended to 80, newest first. -/
def shaSchedule : Nat → List (BitVec 64) → List (BitVec 64)
  | 0, w => w
  | k + 1, w =>
    let at' : Nat → BitVec 64 := fun i => (w[i]?).getD 0#64
    let s0 := (at' 14).rotateRight 1 ^^^ (at' 14).rotateRight 8 ^^^ (at' 14 >>> 7)
    let s1 := (at' 1).rotateRight 19 ^^^ (at' 1).rotateRight 61 ^^^ (at' 1 >>> 6)
    shaSchedule k ((at' 15 + s0 + at' 6 + s1) :: w)

/-- One round. -/
def shaRound (h : List (BitVec 64)) (kw : BitVec 64 × BitVec 64) : List (BitVec 64) :=
  match h with
  | [a, b, c, d, e, f, g, i] =>
    let s1 := e.rotateRight 14 ^^^ e.rotateRight 18 ^^^ e.rotateRight 41
    let ch := (e &&& f) ^^^ (~~~ e &&& g)
    let t1 := i + s1 + ch + kw.1 + kw.2
    let s0 := a.rotateRight 28 ^^^ a.rotateRight 34 ^^^ a.rotateRight 39
    let mj := (a &&& b) ^^^ (a &&& c) ^^^ (b &&& c)
    [t1 + s0 + mj, a, b, c, d + t1, e, f, g]
  | _ => h

/-- A 64-bit word from eight bytes. -/
def shaWord (bs : List Byte) : BitVec 64 := BitVec.ofNat 64 (numBE bs)

/-- Take one block of 128 bytes into the chaining value. -/
def shaBlock (h : List (BitVec 64)) (block : List Byte) : List (BitVec 64) :=
  let w := ((List.range 16).map (fun i => shaWord ((block.drop (8 * i)).take 8))).reverse
  let all := (shaSchedule 64 w).reverse
  (h.zip ((shaK.zip all).foldl shaRound h)).map (fun p => p.1 + p.2)

/-- The blocks of a padded message, k of them at most. -/
def shaBlocks : Nat → List (BitVec 64) → List Byte → List (BitVec 64)
  | 0, h, _ => h
  | k + 1, h, bs => if bs.isEmpty then h else shaBlocks k (shaBlock h (bs.take 128)) (bs.drop 128)

/-- SHA-512 as 64 bytes, most significant first. (log entry 10) -/
def sha512 (m : List Byte) : List Byte :=
  let zeros := (111 + 128 - m.length % 128) % 128
  let padded := m ++ [0x80#8] ++ List.replicate zeros 0#8 ++ bytesBE 16 (8 * m.length)
  (shaBlocks (padded.length / 128) shaInit padded).flatMap (fun w => bytesBE 8 w.toNat)

end Sys2Proof.Machine
end

