-- ==== Sys2Proof/Machine/StnBase.lean ====
section
/-!
DEFINITION. What the other blocks ask of a station (chapter "Station Lifecycle"): its state, its disc, whether Topaz may place
stripe members on it, whether it has work.
-/

namespace Sys2Proof.Machine

/-- STN_STATUS.STATE (R274). -/
def stSt (s : State) (n : Nat) : Nat := s.g (R.STN_STATUS_STATE n)

/-- The values of STN_STATUS.STATE (R274). -/
def stEMPTY : Nat := 0
def stLOADING : Nat := 1
def stMOUNTING : Nat := 2
def stACTIVE : Nat := 3
def stIDLE : Nat := 4
def stPARKED : Nat := 5
def stRELEASING : Nat := 6
def stREJECTED : Nat := 7
def stFAULTED : Nat := 8
def stOFFLINE : Nat := 9

/-- Change a station. -/
def State.stnU (s : State) (n : Fin 8) (f : Stn → Stn) : State := { s with stn := vmod s.stn n f }

/-- Change the write strategy block of a station. -/
def State.wrsU (s : State) (n : Fin 8) (f : Wrs → Wrs) : State := { s with wrs := vmod s.wrs n f }

/-- Change a beam. -/
def State.beamU (s : State) (n : Fin 8) (m : Fin 4) (f : Beam → Beam) : State :=
  s.wrsU n (fun w => { w with beams := vmod w.beams m f })

/-- A beam of a station. -/
def State.beam (s : State) (n : Fin 8) (m : Fin 4) : Beam := (s.wrs[n]).beams[m]

/-- The clusters that wait encoded for some beams go back to the front of their station's queue, in the order in which the station would write
them. -/
def recallOf (s : State) (n : Fin 8) (l : List (Fin 4)) : State :=
  let key := fun (m : Fin 4) => match (s.beam n m).enc with
    | some e => 4 * (pcaLayer e.pca * 2 ^ 19 + pcaSlot e.pca) + m.val
    | none => 0
  s.each (sortBy (fun a b => decide (key b < key a)) l) (fun t m => recallEnc t n m)

/-- Every cluster that waits encoded goes back to the front of its station's queue (R88, R173, R305). -/
def recallAll (s : State) (n : Fin 8) : State := recallOf s n beams

/-- A beam gives up the cluster that it holds encoded (R19, R158): it goes to the beam that writes next. A rewrite stays the station's next
cluster, ahead of those encoded on the other beams (R173). -/
def recallBeam (s : State) (n : Fin 8) (m : Fin 4) : State :=
  if ((s.beam n m).enc.map Enc.job).any Job.rewrite then recallEnc (recallOf s n (beams.filter (fun b => b != m))) n m else recallEnc s n m

/-- A beam's lane was spared or stopped, or the beam was suspended, while a calibration runs: that beam's results are discarded, and it writes no
more TEST clusters (R309). -/
def calWithout (s : State) (n : Fin 8) (m : Fin 4) : State :=
  let mine := fun (j : Job) => j.kind == .test && j.rot == m.val
  let drop := fun (r : CalRun) => { r with beams := r.beams - bitOf r.beams m.val * 2 ^ m.val }
  let s := { s with cal := vmod s.cal n (fun c => { c with run := c.run.map drop }) }
  s.wrsU n (fun w => { w with
    beams := vmod w.beams m (fun b => if (b.enc.map Enc.job).any mine then { b with enc := none } else b)
    queue := w.queue.filter (fun j => !mine j) })

/-- A station by a number taken modulo 8 (R135). -/
def stnOf (n : Nat) : Fin 8 := ⟨n % 8, Nat.mod_lt _ (by omega)⟩

/-- A beam by a number taken modulo 4 (R174). -/
def beamOf (m : Nat) : Fin 4 := ⟨m % 4, Nat.mod_lt _ (by omega)⟩

/-- The address that marks an arm as full (R338): slot 266,272 of L15. -/
def fullMark (arm : Nat) : Nat := mkPca 15 arm 0 dataEnd

/-- The slot that follows in an arm's fill sequence (R88, R282); past its end, the mark of a full arm (R338). -/
def nextFront (p : Nat) : Nat := (nextData p).getD (fullMark (pcaArm p))

/-- Arm m of the mounted disc has blank data-region slots. -/
def armBlank (s : State) (n : Fin 8) (m : Fin 4) : Bool :=
  match (s.stn[n]).fronts[m] with
  | some p => p != fullMark m.val
  | none => false

/-- The mounted disc has blank data-region slots. -/
def hasBlank (s : State) (n : Fin 8) : Bool := beams.any (armBlank s n)

/-- The station is available for stripe placement (R275). -/
def avail (s : State) (n : Fin 8) : Bool :=
  (stSt s n == stACTIVE || stSt s n == stIDLE || stSt s n == stPARKED) &&
    (s.g (R.STN_STATUS_DISC_KIND n) == 1 || s.g (R.STN_STATUS_DISC_KIND n) == 2) && hasBlank s n

/-- The stations available now, ascending. -/
def availSet (s : State) : List (Fin 8) := stations.filter (avail s)

/-- A set of stations as a bit mask. -/
def maskOf (l : List (Fin 8)) : Nat := l.foldl (fun a n => a + 2 ^ n.val) 0

/-- Parity members of a stripe formed now (R133). -/
def parityCount (s : State) : Nat := if s.on R.TPZ_GEOMETRY_GEOM then 2 else 1

/-- The stripe serial that is next to be issued (R135, R152). -/
def nextSerial (s : State) : Nat := s.g64 R.TPZ_SERIAL_LO

/-- Stripe serials are used up (R363). -/
def serialSpent (s : State) : Bool := 2 ^ 48 ≤ nextSerial s

/-- AVAILABLE of each station, and UNAVAIL, NARROW and STALLED (R142, R152, R275, R363), follow the stations' states. A station
that is available again may log STRIPE_DEGRADED anew when it next becomes unavailable (R141). -/
def refreshAvail (s : State) : State :=
  let a := availSet s
  let p := parityCount s
  let t := s.each stations (fun t n => t.u (R.STN_STATUS_AVAILABLE n) (b2n (a.contains n)))
  let un := 255 - maskOf a
  let t := t.us [(R.TPZ_STATUS_UNAVAIL, un), (R.TPZ_STATUS_NARROW, b2n (p < 8 - a.length)),
    (R.TPZ_STATUS_STALLED, b2n (a.length < p + 1 || serialSpent s))]
  { t with tpz := { t.tpz with degLogged := t.tpz.degLogged &&& BitVec.ofNat 8 un } }

/-- A calibration's cluster is not work (R308). -/
def realJob (j : Job) : Bool := j.kind != .test

/-- The station has work (R283): a cluster queued or being written, or a read that needs its disc. -/
def hasWork (s : State) (n : Fin 8) : Bool :=
  (s.wrs[n]).queue.any realJob ||
    beams.any (fun m => ((s.beam n m).enc.map Enc.job).any realJob || ((s.beam n m).cur.map Cur.job).any realJob) ||
    !(s.stn[n]).reads.isEmpty || s.tpz.rebuilds.any (fun r => r.station == n.val && r.queued)

/-- STN_STATUS.WORK follows, and an idle timer restarts when work ends (R284). -/
def refreshWork (s : State) (n : Fin 8) : State :=
  let w := hasWork s n
  let t := if s.on (R.STN_STATUS_WORK n) && !w then s.stnU n (fun x => { x with idleFrom := s.now }) else s
  t.u (R.STN_STATUS_WORK n) (b2n w)

/-- The DISC_ID of the mounted disc (R296). -/
def discId (s : State) (n : Nat) : Nat := s.g64 (R.STN_DISC_ID_LO n)

/-- The station holds a mounted disc: its kind is settled. -/
def mounted (s : State) (n : Nat) : Bool := s.g (R.STN_STATUS_DISC_KIND n) != 0

/-- The station that holds a disc now. -/
def stationOfDisc (s : State) (id : Nat) : Option (Fin 8) :=
  stations.find? (fun n => mounted s n && discId s n == id)

/-- UID of the partner (R362), 0 where none is known. -/
def partnerUid (s : State) : Nat := (s.cgl.peer.map (fun p => p.uid.toNat)).getD (s.g64 R.CGL_PEER_UID_LO)

/-- An order of clusters on a disc: layer, then slot (R88). -/
def frontKey (p : Nat) : Nat := pcaLayer p * 2 ^ 19 + pcaSlot p

end Sys2Proof.Machine
end

