-- ==== Sys2Proof/Machine/CalOps.lean ====
section
/-!
DEFINITION. What calibration loads (chapter "Calibration"): the values of a layer, by its sets or its seeds, and the base write
power of a beam (R167).
-/

namespace Sys2Proof.Machine

/-- Change the calibration of a station. -/
def State.calU (s : State) (n : Fin 8) (f : CalStn → CalStn) : State := { s with cal := vmod s.cal n f }

/-- Write field f into the active and the pending copy of its register together (R208, R231, R300, R304). -/
def State.uBoth (s : State) (f : FRef) (v : Nat) : State :=
  { s with
    regs := wrR s.regs f.addr (setF (rdR s.regs f.addr) f v)
    pend := wrR s.pend f.addr (setF (rdR s.pend f.addr) f v) }

/-- Write a register into both copies. -/
def State.wrBoth (s : State) (a : Nat) (w : Word) : State := { s with regs := wrR s.regs a w, pend := wrR s.pend a w }

/-- The pickup temperature of a station, Q10.6 (R302). -/
def pickupTemp (s : State) (n : Nat) : Int := s.gi (R.CAL_TEMP_TEMP n)

/-- The temperature slots of a layer that hold a usable set: valid, and of the active speed (R303); by recorded temperature. -/
def usableSets (s : State) (n layer : Nat) : List Nat :=
  let l := (List.range 8).filter (fun t => s.on (R.CAL_SET0_VALID n layer t) &&
    s.g (R.CAL_SET5_SPEED_SEL n layer t) == s.g (R.SPN_CTRL_SPEED_SEL n))
  sortBy (fun a b => decide (s.gi (R.CAL_SET5_TEMP n layer a) < s.gi (R.CAL_SET5_TEMP n layer b))) l

/-- Interpolate a quantity of the sets at the present temperature (R303); none with no usable set. -/
def interpolate (s : State) (n layer : Nat) (q : Nat → Int) : Option Rat :=
  let temp := fun t => s.gi (R.CAL_SET5_TEMP n layer t)
  let now := pickupTemp s n
  let l := usableSets s n layer
  let below := (l.filter (fun t => temp t ≤ now)).getLast?
  let above := l.find? (fun t => now < temp t)
  match below, above with
  | some a, some b => some ((q a : Rat) + (q b - q a : Int) * ((now - temp a : Int) : Rat) / ((temp b - temp a : Int) : Rat))
  | some a, none => some (q a)
  | none, some b => some (q b)
  | none, none => none

/-- The nominal depth of a layer (R60), 0.1 µm. -/
def nominalDepth (l : Nat) : Nat := 1300 - 53 * l - 5 * (l % 2)

/-- The SA seed of a layer (R299): SA_K × (DEPTH − SA_D0), from the pickup image or the registers. -/
def saSeed (s : State) (n : Fin 8) (layer : Nat) : Rat :=
  let c := s.cal[n]
  let k := c.saK.getD (toSigned 24 (s.g R.CAL_SAK_SA_K))
  let d0 := c.saD0.getD (s.g R.CAL_SAD0_SA_D0)
  (k * (((c.depth.toList[layer]?).getD 0 : Nat) - (d0 : Int)) : Int) / (10 : Int)

/-- CAV speeds in units of 1,800 rpm by SPEED_SEL (R231). -/
def speedUnits (sel : Nat) : Nat := if sel = 0 then 0 else sel + 1

/-- The power seed of a beam (R299): POWER_START × √(rpm / 7,200), or the active power when POWER_START is 0. -/
def powerSeed (s : State) (n : Fin 8) (layer : Nat) (m : Fin 4) : Int × State :=
  let p := ((s.cal[n]).power.toList[layer]?).getD 0
  if p = 0 then (s.g (R.WRS_PW_PW n m), s)
  else
    let u := speedUnits (s.g (R.SPN_CTRL_SPEED_SEL n))
    let r := isqrt (p * p * u / 4)
    if 4 * r * r = p * p * u then (r, s) else (r + (s.freeVal % 2 : Nat), s.tick)

/-- The SA set-point, focus offset and tilt offset that CAL holds for a layer (R299, R303), rounded as the example below R303 rounds
(DEDUCED). (log entry 14) -/
def saOf (s : State) (n : Fin 8) (layer : Nat) : Int × State :=
  let (v, t) := s.nearestR ((interpolate s n layer (fun k => s.gi (R.CAL_SET2_SA n layer k))).getD (saSeed s n layer))
  (sat24 v, t)

def focusOf (s : State) (n : Fin 8) (layer : Nat) : Int × State :=
  let (v, t) := s.nearestR ((interpolate s n layer (fun k => s.gi (R.CAL_SET0_FOCUS n layer k))).getD 0)
  (sat24 v, t)

def tiltOf (s : State) (n : Fin 8) (layer : Nat) : Int × State :=
  let (v, t) := s.nearestR ((interpolate s n layer (fun k => s.gi (R.CAL_SET1_TILT n layer k))).getD 0)
  (sat24 v, t)

/-- The power field of beam m in a set (R311). -/
def setPower (n layer t m : Nat) : FRef :=
  if m = 0 then R.CAL_SET3_PW_B0 n layer t else if m = 1 then R.CAL_SET3_PW_B1 n layer t
  else if m = 2 then R.CAL_SET4_PW_B2 n layer t else R.CAL_SET4_PW_B3 n layer t

/-- A base write power is capped at PW_MAX (R298). -/
def capPower (s : State) (n : Fin 8) (pw : Nat) : Nat := min (s.g (R.WRS_LIMIT_PW_MAX n)) pw

/-- The base power that CAL holds for a beam and a layer (R298, R299, R303). (log entry 14) -/
def powerOf (s : State) (n : Fin 8) (layer : Nat) (m : Fin 4) : Nat × State :=
  match interpolate s n layer (fun k => (s.g (setPower n layer k m) : Int)) with
  | some r => let (v, t) := s.nearestR r; (capPower s n v.toNat, t)
  | none => let (v, t) := powerSeed s n layer m; (capPower s n v.toNat, t)

/-- The unit of the running power offset (R168): 2⁻²³ / 1000 of the base. -/
def offsetUnit : Int := 2 ^ 23 * 1000

/-- The registers as some values override them. -/
def State.over (s : State) (l : List (Nat × Word)) : State := { s with regs := l.foldl (fun r p => wrR r p.1 p.2) s.regs }

/-- The registers that a beam's power and pulses follow (R166): the active ones, or the values of an apply in flight that it has taken. -/
def beamView (s : State) (n : Fin 8) (m : Fin 4) : State := s.over (s.beam n m).force

/-- The registers that the words sent to the pairs give (R166). -/
def toldView (s : State) (n : Fin 8) : State := s.over (s.wrs[n]).told

/-- WRS_PW_LIVE of a beam (R168): base × (1 + offset), rounded, capped at PW_MAX, by the registers of `view`. -/
def livePower (view s : State) (n : Fin 8) (m : Fin 4) : State :=
  let (v, t) := s.nearest ((view.g (R.WRS_PW_PW n m) : Int) * (offsetUnit + (s.beam n m).offset)) offsetUnit
  t.u (R.WRS_PW_LIVE_PW n m) (min (view.g (R.WRS_LIMIT_PW_MAX n)) v.toNat)

/-- A beam is writing a cluster. -/
def writing (s : State) (n : Nat) (m : Nat) : Bool := bitOf (s.g (R.WRS_STATUS_WRITING n)) m == 1

/-- A POWER word (R161). -/
def powerWord (level value : Nat) (atNext : Bool) : BitVec 40 :=
  BitVec.ofNat 40 (2 * 2 ^ 38 + level * 2 ^ 35 + b2n atNext * 2 ^ 34 + value % 2 ^ 16)

/-- A POWER or TABLE word waits for a slot of a pair that sends (R161, R166). -/
def linkPut (s : State) (n : Fin 8) (m : Fin 4) (w : BitVec 40) : State :=
  if s.on (R.WRS_STATUS_LINK_ACTIVE n) then s.beamU n m (fun b => { b with link := b.link ++ [w] }) else s

/-- A power level of a beam, by its code (R154): PS, PM and PC are fractions of the live PW. -/
def powerValue (s : State) (n : Fin 8) (m : Fin 4) (level : Nat) : Int × State :=
  let pw := s.g (R.WRS_PW_LIVE_PW n m)
  if level = 0 then ((s.g (R.WRS_PW_PR n m) : Int), s)
  else if level = 1 then s.quant (pw * s.g (R.WRS_RATIO_PS n) : Nat) 256
  else if level = 2 then s.quant (pw * s.g (R.WRS_RATIO_PM n) : Nat) 256
  else if level = 3 then (pw, s)
  else s.quant (pw * s.g (R.WRS_RATIO_PC n) : Nat) 256

/-- Send power levels of a beam, as the registers of `view` give them (R154, R163, R166). -/
def sendLevels (view s : State) (n : Fin 8) (m : Fin 4) (levels : List Nat) (atNext : Bool) : State :=
  s.each levels (fun s k =>
    let (v, t) := powerValue { view with free := s.free } n m k
    linkPut { s with free := t.free } n m (powerWord k v.toNat atNext))

/-- Send the five power levels of a beam (R154, R166, R168). -/
def sendPowers (s : State) (n : Fin 8) (m : Fin 4) (atNext : Bool) : State := sendLevels (beamView s n m) s n m [0, 1, 2, 3, 4] atNext

/-- A new base power is loaded (R167): the running offset is 0 again. It replaces that of an apply whose words are on their way. (log entry 46) -/
def loadBase (s : State) (n : Fin 8) (m : Fin 4) (pw : Nat) : State :=
  let f := R.WRS_PW_PW n m
  let keep := fun (l : List (Nat × Word)) => l.map (fun p => if p.1 = f.addr then (p.1, setF p.2 f pw) else p)
  let s := if s.strobes.any (fun t => t.unit == .wrs n && t.sent) then { s with stag := wrR s.stag f.addr (setF (rdR s.stag f.addr) f pw) } else s
  let s := (s.uBoth f pw).wrsU n (fun w => { w with told := keep w.told })
  let s := s.beamU n m (fun b => { b with offset := 0, force := keep b.force })
  sendPowers (livePower (beamView s n m) s n m) n m (writing s n m)

/-- The powers of the ladder of a calibration give way to the running ones again (R168, R309). -/
def restorePowers (s : State) (n : Fin 8) : State :=
  s.each beams (fun s m => sendPowers (livePower (beamView s n m) s n m) n m (writing s n m))

/-- The write power of a layer is loaded (R167, R206 step 8, R304). -/
def loadPowers (s : State) (n : Fin 8) (layer : Nat) : State :=
  s.each beams (fun s m => let (v, t) := powerOf s n layer m; loadBase t n m v)

/-- The starting taps of a layer are loaded, where they are valid (R304, R311); not with the seeds (R299). -/
def loadTaps (s : State) (n : Fin 8) (layer : Nat) : State :=
  if s.g (R.CAL_TAP_TAP_HI n layer 3) = 0 ∨ (usableSets s n layer).isEmpty then s
  else s.each (beams.flatMap (fun m => [workLane s n m false, workLane s n m true])) (fun s l =>
    tapsAtBoundary (s.each (List.range 8) (fun s k => s.wrBoth (R.OPL_EQ_INIT l.val k) (s.rd (R.CAL_TAP n layer k)))) l)

end Sys2Proof.Machine
end

