-- ==== Sys2Proof/Machine/BrlOps.lean ====
section
/-!
DEFINITION. Shared operations of the Beryl engine (chapter "Beryl Servo Loop Engine"): finding a loop's slot, driving it, the
sequencer's steps, load and shedding, the feed-forward tables.
-/

namespace Sys2Proof.Machine

/-- The values of TYPE (R183). -/
def tyFOCUS : Nat := 1
def tyTRACK : Nat := 2
def tyTILT : Nat := 3
def tySA : Nat := 4
def tyCURD : Nat := 5
def tyCURQ : Nat := 6
def tySPEED : Nat := 7
def tySLED : Nat := 8

/-- The values of SEQ_STATUS.STATE (R218). -/
def sqIDLE : Nat := 0
def sqWAIT : Nat := 1
def sqACQ_SA : Nat := 2
def sqSWEEP : Nat := 3
def sqFOCUS_SETTLE : Nat := 4
def sqTRACK_CLOSE : Nat := 5
def sqTRACK_SETTLE : Nat := 6
def sqTRACK_JUMP : Nat := 7
def sqLAYER_SA : Nat := 8
def sqLAYER_TRANSIT : Nat := 9
def sqSTOPPED : Nat := 10

/-- All slots. -/
def slots : List (Fin 96) := List.finRange 96

/-- Type and station of a slot. -/
def slotType (s : State) (k : Nat) : Nat := s.g (R.BRL_SLOT_CFG_TYPE k)
def slotStation (s : State) (k : Nat) : Nat := s.g (R.BRL_SLOT_CFG_STATION k)

/-- The enabled slot of a type of station n (R218: there is at most one). -/
def slotFor (s : State) (n typ : Nat) : Option (Fin 96) :=
  slots.find? (fun k => s.on (R.BRL_SLOT_CFG_EN k) && slotType s k == typ && slotStation s k == n)

/-- The loop in a slot. -/
def State.loop (s : State) (k : Fin 96) : Loop := s.brl.loops[k]

/-- Change a loop. -/
def State.loopU (s : State) (k : Fin 96) (f : Loop → Loop) : State :=
  { s with brl := { s.brl with loops := vmod s.brl.loops k f } }

/-- Change the loop of a type of a station, where a slot runs it. -/
def State.loopOf (s : State) (n typ : Nat) (f : Loop → Loop) : State :=
  match slotFor s n typ with
  | some k => s.loopU k f
  | none => s

/-- The sequencer of a station. -/
def State.sq (s : State) (n : Fin 8) : Seq := s.brl.seq[n]

/-- Change a sequencer. -/
def State.seqU (s : State) (n : Fin 8) (f : Seq → Seq) : State := { s with brl := { s.brl with seq := vmod s.brl.seq n f } }

/-- SEQ_STATUS.STATE. -/
def seqSt (s : State) (n : Nat) : Nat := s.g (R.BRL_STN_SEQ_STATUS_STATE n)

/-- A station's sequencer leaves IDLE: an armed capture that waits for that triggers at its next sample (R214). -/
def jspLeavesIdle (s : State) (n : Fin 8) (st : Nat) : State :=
  if s.on R.JSP_STATUS_ARMED && !s.on R.JSP_STATUS_TRIGGERED && getF s.jsp.trig R.JSP_TRIG_MODE == 4 &&
      getF s.jsp.trig R.JSP_TRIG_STATION == n.val && seqSt s n == sqIDLE && st != sqIDLE then
    { s with jsp := { s.jsp with due := true } }
  else s

/-- Enter a state of the sequencer, and a part of it, now. -/
def seqEnter (s : State) (n : Fin 8) (st sub : Nat) : State :=
  ((jspLeavesIdle s n st).u (R.BRL_STN_SEQ_STATUS_STATE n) st).seqU n (fun q => { q with sub := sub, since := s.now })

/-- Enter another part of the state the sequencer is in, now. -/
def seqPart (s : State) (n : Fin 8) (sub : Nat) : State := s.seqU n (fun q => { q with sub := sub, since := s.now })

/-- The active bank of a slot: BANK_SEL, or bank 1 while the sequencer uses it (R192). -/
def bankOf (s : State) (k : Fin 96) : Nat := if (s.loop k).seqBank then 1 else s.g (R.BRL_SLOT_CFG_BANK_SEL k)

/-- OUT_MIN, OUT_MAX and BIAS of the active bank. -/
def outMin (s : State) (k : Fin 96) : Int := s.gi (R.BRL_BANK_OUTMIN_VALUE (bankOf s k) k)
def outMax (s : State) (k : Fin 96) : Int := s.gi (R.BRL_BANK_OUTMAX_VALUE (bankOf s k) k)
def biasOf (s : State) (k : Fin 96) : Int := s.gi (R.BRL_BANK_BIAS_VALUE (bankOf s k) k)

/-- The last output of a slot. -/
def outOf (s : State) (k : Fin 96) : Int := s.gi (R.BRL_SLOT_OUT_VALUE k)

/-- The last output of a station's loop of a type; 0 with no enabled slot (R193). -/
def outFor (s : State) (n typ : Nat) : Int :=
  match slotFor s n typ with
  | some k => outOf s k
  | none => 0

/-- Hold a loop at its last output. (log entry 21) -/
def holdLoop (s : State) (n typ : Nat) : State := s.loopOf n typ (fun l => { l with drive := .hold (outFor s n typ) })

/-- Close a loop. -/
def closeLoop (s : State) (n typ : Nat) : State := s.loopOf n typ (fun l => { l with drive := .closed })

/-- Open a loop to where STOP leaves it. (log entry 21) -/
def parkLoop (s : State) (n typ : Nat) : State := s.loopOf n typ (fun l => { l with drive := .parked })

/-- Ramp the focus output to OUT_MIN over 1 ms, 400 samples (R198, R207, R209). -/
def rampDown (s : State) (n : Nat) : State :=
  match slotFor s n tyFOCUS with
  | some k => s.loopU k (fun l => { l with drive := .ramp (outOf s k) (outMin s k) 0 400 })
  | none => s

/-- Release what a sequence holds of a loop: its kick, its frozen integrator, bank 1. -/
def releaseLoop (s : State) (n typ : Nat) : State :=
  s.loopOf n typ (fun l => { l with kick := 0, frozen := false, seqBank := false })

/-- The mean of a list of outputs. -/
def meanOf (s : State) (l : List Int) : Int × State := if l.isEmpty then (0, s) else s.quant l.sum l.length

/-- Write the OFFSET of a loop's slot, active and pending copy together (R208). -/
def writeOffset (s : State) (n typ : Nat) (v : Int) : State :=
  match slotFor s n typ with
  | some k => s.uBoth (R.BRL_SLOT_OFFSET_OFFSET k) (ofSigned 24 v)
  | none => s

/-- Clear both feed-forward tables of a station (R196). -/
def ffTablesClear (s : State) (n : Fin 8) : State :=
  let lo := R.BRL_FF_ENTRY n 0 0
  let t := { s with regs := s.regs.filter (fun p => !(lo ≤ p.1 && p.1 < lo + 0x1000)) }
  (t.u (R.BRL_STN_SEQ_STATUS_FF_VALID n) 0).seqU n (fun q => { q with turned := 0, lastAngle := none })

/-- LOCK_LOST (R492): 0 focus, 1 tracking, and the sequencer's state. -/
def logLockLost (s : State) (n which : Nat) : State := s.log 0x105 n [which, seqSt s n]

/-- Focus and tracking lock read 0. -/
def locksOff (s : State) (n : Nat) : State :=
  s.us [(R.BRL_STN_SEQ_STATUS_FLOCK n, 0), (R.BRL_STN_SEQ_STATUS_TLOCK n, 0)]

/-- Focus opens and ramps down; tracking, tilt and sled following are held; LOCK_LOST is logged (R198, R207). (log entry 22) -/
def focusOpens (s : State) (n : Fin 8) : State :=
  let s := logLockLost s n 0
  let s := s.each [tyFOCUS, tyTRACK] (fun s t => releaseLoop s n t)
  let s := s.each [tyTRACK, tyTILT, tySLED] (fun s t => holdLoop s n t)
  locksOff ((rampDown s n).seqU n (fun q => { q with held := none, fGood := 0, fBad := 0, tGood := 0, tBad := 0, low := 0 })) n

/-- A sequence fails (R204, R207): FAILED is set and focus opens. (log entry 23) -/
def seqFails (s : State) (n : Fin 8) : State :=
  seqEnter ((focusOpens s n).u (R.BRL_STN_SEQ_STATUS_FAILED n) 1) n sqIDLE 0

/-- A kick amplitude, Q1.15 as Q1.23 (R188). -/
def kickOf (s : State) (n : Nat) : Int := s.g (R.BRL_STN_JUMP_KICK n) * 256

/-- FOCUS_ACQ begins (R203 step 1). -/
def startAcq (s : State) (n : Fin 8) : State :=
  let s := s.each [tyFOCUS, tyTRACK] (fun s t => releaseLoop s n t)
  let s := parkLoop (parkLoop s n tyTRACK) n tyTILT
  let s := holdLoop s n tySLED
  let s := match slotFor s n tyFOCUS with
    | some k => s.loopU k (fun l => { l with drive := .hold (outMin s k) })
    | none => s
  let (v, s) := saOf s n 15
  let s := writeOffset (closeLoop s n tySA) n tySA v
  let s := (locksOff s n).seqU n (fun q => { q with saTaken := (slotFor s n tySA).isNone, count := 0, held := none })
  seqEnter s n sqACQ_SA 0

/-- A track jump begins (R205 step 1). The station's lanes load their seeds (R95). -/
def startTrackJump (s : State) (n : Fin 8) : State :=
  let s := lanesSeek s n
  let s := holdLoop (holdLoop s n tyTILT) n tySLED
  let sgn : Int := if (s.sq n).arg < 0 then -1 else 1
  let out := outFor s n tyTRACK
  let s := s.loopOf n tyTRACK (fun l => { l with drive := .hold out, frozen := true, kick := sgn * kickOf s n })
  let s := (s.u (R.BRL_STN_SEQ_STATUS_TLOCK n) 0).seqU n (fun q => { q with count := 0 })
  seqEnter s n sqTRACK_JUMP 0

/-- A layer jump begins (R206 step 1). The station's lanes load their seeds (R95). -/
def startLayerJump (s : State) (n : Fin 8) : State :=
  let s := lanesSeek s n
  let s := match slotFor s n tyTRACK with
    | some k => let (v, t) := meanOf s ((s.loop k).hist.take 64); t.loopU k (fun l => { l with drive := .hold v })
    | none => s
  let s := holdLoop (holdLoop s n tyTILT) n tySLED
  let (v, s) := saOf s n (s.sq n).arg.toNat
  let s := writeOffset s n tySA v
  let s := (s.u (R.BRL_STN_SEQ_STATUS_TLOCK n) 0).seqU n (fun q => { q with saTaken := (slotFor s n tySA).isNone, count := 0 })
  seqEnter s n sqLAYER_SA 0

/-- STOP (R209). A lock that is lost in the same tick is still logged (R210). -/
def seqStopNow (s : State) (n : Fin 8) : State :=
  let s := s.seqU n (fun q => { q with
    atStop := some (s.on (R.BRL_STN_SEQ_STATUS_FLOCK n), s.on (R.BRL_STN_SEQ_STATUS_TLOCK n), q.held) })
  let s := s.each [tyFOCUS, tyTRACK] (fun s t => releaseLoop s n t)
  let s := s.each [tyTRACK, tyTILT] (fun s t => parkLoop s n t)
  let s := s.each [tySA, tySLED] (fun s t => holdLoop s n t)
  seqEnter ((locksOff (rampDown s n) n).seqU n (fun q => { q with held := none })) n sqSTOPPED 0

/-- The spindle of a station is in CAV regulation (R201, R232). -/
def inReg (s : State) (n : Nat) : Bool := s.on (R.SPN_STATUS_IN_REG n)

/-- A sequencer command is refused (R201). -/
def seqRefuse (s : State) (n : Nat) : State := s.u (R.BRL_STN_SEQ_STATUS_REFUSED n) 1

/-- A command of the sequencer (R200 to R202), with its argument. That FF_CLEAR and SET_LAYER set DONE, and that SET_LAYER and LAYER_JUMP with an ARG
above 15 are refused, the spec does not say (DESIGN CHOICE). (log entry 21) -/
def seqCommand (s : State) (n : Fin 8) (cmd : Nat) (arg : Int) : State :=
  let st := seqSt s n
  let took := fun (s : State) => (s.u (R.BRL_STN_SEQ_STATUS_LAST_CMD n) cmd).seqU n (fun q => { q with cmd := cmd, arg := arg })
  let flock := s.on (R.BRL_STN_SEQ_STATUS_FLOCK n)
  let tlock := s.on (R.BRL_STN_SEQ_STATUS_TLOCK n)
  let wait := fun (s : State) (go : State → Fin 8 → State) =>
    if s.g (R.WRS_STATUS_WRITING n) = 0 then go s n else seqEnter s n sqWAIT 0
  if cmd = 4 then seqStopNow (took s) n
  else if cmd = 0 ∨ 6 < cmd then s
  else if st ≠ sqIDLE ∧ st ≠ sqSTOPPED then seqRefuse s n
  else if cmd = 5 then (ffTablesClear (took s) n).u (R.BRL_STN_SEQ_STATUS_DONE n) 1
  else if cmd = 6 then
    if arg < 0 ∨ 15 < arg then seqRefuse s n
    else (took s).us [(R.BRL_STN_SEQ_STATUS_LAYER n, arg.toNat), (R.BRL_STN_SEQ_STATUS_DONE n, 1)]
  else if !inReg s n then seqRefuse s n
  else if cmd = 1 then startAcq (took s) n
  else if cmd = 2 then
    if arg = 0 ∨ arg < -64 ∨ 64 < arg ∨ !flock ∨ !tlock then seqRefuse s n else wait (took s) startTrackJump
  else if !flock ∨ arg < 0 ∨ 15 < arg then seqRefuse s n
  else if arg = (s.g (R.BRL_STN_SEQ_STATUS_LAYER n) : Int) then (took s).u (R.BRL_STN_SEQ_STATUS_DONE n) 1
  else wait (took s) startLayerJump

/-- Divisor of a type (R183). -/
def divisorOf (typ : Nat) : Nat :=
  if typ = 1 ∨ typ = 2 then 1 else if typ = 3 then 16 else if typ = 4 then 400
  else if typ = 5 ∨ typ = 6 then 10 else if typ = 7 ∨ typ = 8 then 40 else 0

/-- Phase of a type on station n (R183). -/
def phaseOf (typ n : Nat) : Nat :=
  if typ = 3 then 2 * n else if typ = 4 then 50 * n else if typ = 5 ∨ typ = 6 then 10 * n / 8
  else if typ = 7 ∨ typ = 8 then 5 * n else 0

/-- Cost of a slot's sample with a given configuration word (R186); 0 while it does not run. -/
def costOf (cfg : Word) : Nat :=
  let f := fun (r : FRef) => getF cfg r
  let typ := f (R.BRL_SLOT_CFG_TYPE 0)
  if f (R.BRL_SLOT_CFG_EN 0) = 0 then 0
  else 14 + (if 1 ≤ typ ∧ typ ≤ 3 then 10 else 0) + 3 * popCount 5 (f (R.BRL_SLOT_CFG_BQ_EN 0)) + 2 * f (R.BRL_SLOT_CFG_FF_EN 0)

/-- The load bound L of 96 slot configurations (R187): for each divisor, the largest total of the slots that share a phase. -/
def loadBound (cfgs : List Word) : Nat :=
  let slot := fun (w : Word) => (divisorOf (getF w (R.BRL_SLOT_CFG_TYPE 0)),
    phaseOf (getF w (R.BRL_SLOT_CFG_TYPE 0)) (getF w (R.BRL_SLOT_CFG_STATION 0)), costOf w)
  let all := cfgs.map slot
  ([1, 10, 16, 40, 400].map (fun d =>
    (all.filter (fun x => x.1 == d)).foldl (fun best x =>
      max best ((all.filter (fun y => y.1 == d && y.2.1 == x.2.1)).map (fun y => y.2.2)).sum) 0)).sum

/-- The active configurations of the slots; a shed station's slots do not run (R212). -/
def slotCfgs (s : State) : List Word :=
  (List.range 96).map (fun k =>
    if bitOf (s.g R.BRL_PIPE_SHED) (slotStation s k) = 1 then 0#32 else s.rd (R.BRL_SLOT_CFG k))

/-- BRL_LOAD, and the COST and PHASE of every slot, follow the active configuration (R186, R187). -/
def refreshLoad (s : State) : State :=
  let ok := popCount 4 (s.g R.BRL_PIPE_OK)
  let s := s.us [(R.BRL_LOAD_BOUND, loadBound (slotCfgs s)), (R.BRL_LOAD_CAPACITY, 559 * ok)]
  s.each (List.range 96) (fun s k => s.us [(R.BRL_SLOT_COST_COST k, costOf (s.rd (R.BRL_SLOT_CFG k))),
    (R.BRL_SLOT_STATUS_PHASE k, phaseOf (slotType s k) (slotStation s k))])


end Sys2Proof.Machine
end

