-- ==== Sys2Proof/Machine/SpnOps.lean ====
section
/-!
DEFINITION. Shared operations of the spindle drive (chapter "Spindle Drive"): starting, braking, the loss queue, set-points.
-/

namespace Sys2Proof.Machine

/-- The values of SPN_STATUS.STATE (R246). -/
def spSTOPPED : Nat := 0
def spMEASURE : Nat := 1
def spALIGN : Nat := 2
def spIF_RAMP : Nat := 3
def spRUN : Nat := 4
def spACTIVE : Nat := 5
def spLOSS : Nat := 6
def spLOSS_WAIT : Nat := 7
def spSHORT : Nat := 8
def spTRIPPED : Nat := 9
def spFAULT : Nat := 10
def spRETRY : Nat := 11

/-- SPN_STATUS.STATE. -/
def spSt (s : State) (n : Nat) : Nat := s.g (R.SPN_STATUS_STATE n)

/-- Change a spindle drive. -/
def State.spnU (s : State) (n : Fin 8) (f : Spn → Spn) : State := { s with spn := vmod s.spn n f }

/-- LOSS_QUEUE shows the stations in LOSS_BRAKE and LOSS_WAIT (R239). -/
def refreshLoss (s : State) : State :=
  s.u R.SPN_BUS_STATUS_LOSS_QUEUE (maskOf (stations.filter (fun n => spSt s n == spLOSS || spSt s n == spLOSS_WAIT)))

/-- Enter a state of the spindle, now. Under the drive the disc may come to turn: what was measured of its speed no longer holds (R294). -/
def spEnter (s : State) (n : Fin 8) (st : Nat) (bridge : Bool) : State :=
  let s := (s.u (R.SPN_STATUS_STATE n) st).spnU n (fun x => { x with since := s.now, bridge := bridge, iqFloor := none })
  refreshLoss (s.whenB bridge (fun s => s.stnU n (fun x => { x with slow := false })))

/-- The speed of the observer has at least a magnitude, in 1/512 rpm (R228, R233). -/
def turnsAt (s : State) (n : Fin 8) (v : Int) : Bool :=
  let o := (s.spn[n]).obsSpeed
  decide ((v : Rat) ≤ o ∨ o ≤ -(v : Rat))

/-- The speed of a spindle as SPN_SPEED reads it, Q1.23 of 16,384 rpm: 512 to the rpm (R223). -/
def spSpeed (s : State) (n : Nat) : Int := s.gi (R.SPN_SPEED_SPEED n)

/-- rpm in the units of SPN_SPEED. -/
def rpm (v : Nat) : Int := 512 * v

/-- The CAV set-point in the units of SPN_SPEED (R231). -/
def setPoint (s : State) (n : Nat) : Int := rpm (1800 * speedUnits (s.g (R.SPN_CTRL_SPEED_SEL n)))

/-- The chopper may be used (R239, R242). -/
def chopUsable (s : State) : Bool := s.on R.SPN_BUS_CTRL_CHOP_EN && !s.on R.SPN_BUS_STATUS_CHOP_FAULT

/-- The reference starts from the measured speed. -/
def refFromSpeed (s : State) (n : Fin 8) : State := s.spnU n (fun x => { x with ref := (spSpeed s n : Int) })

/-- Without a usable chopper the lowest-numbered station that needs to brake begins where none does (R239): one in ACTIVE_BRAKE that a chopper
fault has yet to reach at its next PWM period counts among them (R244). Its reference ramps from the speed to which it has coasted. (log entry 19) -/
def nextLoss (s : State) : State :=
  if chopUsable s || stations.any (fun (n : Fin 8) => spSt s n == spLOSS || (spSt s n == spSHORT && (s.spn[n]).lossShort)) then s
  else match stations.find? (fun (n : Fin 8) => spSt s n == spLOSS_WAIT || spSt s n == spACTIVE) with
    | some n => if spSt s n = spLOSS_WAIT then spEnter (refFromSpeed s n) n spLOSS true else s
    | none => s

/-- Begin to brake (R237, R239): active braking from the reference in force, or loss braking in station order without a working chopper. -/
def brake (s : State) (n : Fin 8) : State :=
  let s := s.u (R.SPN_STATUS_IN_REG n) 0
  if chopUsable s then spEnter s n spACTIVE true else nextLoss (spEnter s n spLOSS_WAIT true)

/-- A start, or a catch, begins with its measurement (R234 step 1, R235). A loss braking that it ends gives way to the next (R239). -/
def measure (s : State) (n : Fin 8) : State :=
  nextLoss (spEnter ((s.u (R.SPN_STATUS_IN_REG n) 0).spnU n (fun x => { x with
    waitObs := false, thenAlign := false, thenFault := false, lossShort := false, lossTo600 := false })) n spMEASURE false)

/-- A start, or the catch of a turning motor (R234, R244). While the bus is tripped the bridges stay off: it waits for the release (R243). -/
def startSpindle (s : State) (n : Fin 8) : State :=
  if s.on R.SPN_BUS_STATUS_TRIPPED then spEnter s n spTRIPPED false else measure s n

/-- The rotor angle becomes invalid (R26, R228): consumers hold, and regulation is lost (R232). -/
def angleInvalid (s : State) (n : Fin 8) : State :=
  (s.us [(R.SPN_STATUS_ANGLE_VALID n, 0), (R.SPN_STATUS_IN_REG n, 0), (R.WRS_STATUS_ROTOR_OK n, 0)]).spnU n (fun x => { x with
    errLow := none, inBand := none })

/-- A new angle epoch begins as the observer becomes valid (R230): the feed-forward tables are cleared. -/
def angleValid (s : State) (n : Fin 8) : State :=
  let s := s.us [(R.SPN_STATUS_ANGLE_VALID n, 1), (R.WRS_STATUS_ROTOR_OK n, 1),
    (R.SPN_ANGLE_EPOCH n, (s.g (R.SPN_ANGLE_EPOCH n) + 1) % 256), (R.SPN_ANGLE_ANGLE n, 0)]
  ffTablesClear (s.spnU n (fun x => { x with mech := 0, subs := 0, errHigh := none })) n

/-- The spindle is in RUN, its reference ramping from the measured speed (R234 step 5, R235, R244). -/
def runFrom (s : State) (n : Fin 8) : State :=
  spEnter ((refFromSpeed s n).spnU n (fun x => { x with tries := 0, waitObs := false })) n spRUN true

/-- STOPPED, with the bridge off; the next station of the loss queue begins (R237, R239). -/
def spStopped (s : State) (n : Fin 8) : State := nextLoss (spEnter s n spSTOPPED false)

/-- FAULT is entered (R226, R233, R234, R236): the bridge is off. -/
def faultEntered (s : State) (n : Fin 8) (cause : Nat) : State :=
  let s := (s.us [(R.SPN_STATUS_FAULT_CAUSE n, cause), (R.SPN_STATUS_IN_REG n, 0)]).spnU n (fun x => { x with
    waitObs := false, thenAlign := false, thenFault := false, lossShort := false, lossTo600 := false })
  nextLoss (spEnter s n spFAULT false)

/-- A fault that ends what the spindle does (R226, R234, R236): SPINDLE_FAULT is logged. -/
def spFaults (s : State) (n : Fin 8) (cause : Nat) : State := faultEntered (s.log 0x106 n [cause]) n cause

/-- A step of the start in which the drive sets the angle (R234 steps 2 and 3): no angle is published, and the drive's own begins at `a`. -/
def openLoop (s : State) (n : Fin 8) (st a : Nat) : State :=
  let s := if s.on (R.SPN_STATUS_ANGLE_VALID n) then angleInvalid s n else s
  spEnter (s.spnU n (fun x => { x with elec := a, rate := 0, elecOld := a, rateOld := 0, waitObs := false })) n st true

/-- FAULT is left (R233): STOPPED, with no cause. -/
def leaveFault (s : State) (n : Fin 8) : State := spStopped (s.u (R.SPN_STATUS_FAULT_CAUSE n) 0) n

/-- SPEED_SEL has been `set` and applied (R231, R233, R244). -/
def speedSelChanged (s : State) (n : Fin 8) (set : Bool) (old new : Nat) : State :=
  let s := if set ∧ new = 0 ∧ spSt s n = spFAULT then leaveFault s n else s
  if old = new then s
  else
    let s := ffTablesClear (s.u (R.SPN_STATUS_IN_REG n) 0) n
    let s := s.spnU n (fun x => { x with inBand := none })
    let st := spSt s n
    if new = 0 then
      if st = spMEASURE ∨ st = spALIGN ∨ st = spIF_RAMP ∨ st = spRETRY then spStopped s n
      else if st = spRUN then brake s n
      else s.spnU n (fun x => { x with thenAlign := false })
    else
      let s := if old = 0 then (s.bump (R.SPN_CNT_STARTS n)).spnU n (fun x => { x with tries := 0 }) else s
      if st = spSTOPPED ∨ st = spSHORT then startSpindle s n
      else if st = spACTIVE ∨ st = spLOSS ∨ st = spLOSS_WAIT then
        nextLoss (runFrom (s.spnU n (fun x => { x with thenAlign := false, thenFault := false, lossTo600 := false })) n)
      else s

/-- The station state machine writes SPEED_SEL, active and pending copy together (R231). -/
def writeSpeedSel (s : State) (n : Fin 8) (v : Nat) : State :=
  let old := s.g (R.SPN_CTRL_SPEED_SEL n)
  speedSelChanged (s.uBoth (R.SPN_CTRL_SPEED_SEL n) v) n true old v

/-- A current in UQ0.16 of I_FS as Q1.23. -/
def cur24 (v : Nat) : Int := 128 * v

/-- I_MAX as Q1.23. -/
def iMax (s : State) (n : Nat) : Int := cur24 (s.g (R.SPN_LIMIT_I_MAX n))

/-- The d-axis set-point (R226, R234, R238): clamped to ±I_MAX. In ALIGN and IF_RAMP the current vector lies along the d axis of
the angle the drive commands (DESIGN CHOICE: the spec says a current vector on that angle). (log entry 19) -/
def idSet (s : State) (n : Nat) : Int :=
  let st := spSt s n
  let v := if st = spALIGN then cur24 (s.g (R.SPN_STARTI_ALIGN_I n)) else if st = spIF_RAMP then cur24 (s.g (R.SPN_STARTI_IF_I n))
    else if st = spLOSS then cur24 (s.g (R.SPN_LOSS_LOSS_ID n)) else 0
  clampI (-(iMax s n)) (iMax s n) v

/-- The q-axis set-point where SPN overrides the SPEED slot's output (R183, R220): 0 in every state that drives no torque. -/
def iqOverride (s : State) (n : Nat) : Option Int :=
  let st := spSt s n
  if st = spRUN ∨ st = spACTIVE ∨ st = spLOSS then none else some 0

/-- The q-axis set-point (R226, R238, R241): the SPEED slot's output or the override, within the current limit and the bus-power
limit. (log entry 19) -/
def iqSet (s : State) (n : Fin 8) : Int :=
  let v := (iqOverride s n).getD (outFor s n tySPEED)
  let d := idSet s n
  let lim : Int := isqrt ((iMax s n) ^ 2 - d ^ 2).toNat
  let v := match (s.spn[n]).iqFloor with
    | some f => if (s.spn[n]).vq < 0 then min f v else max f v
    | none => v
  clampI (-lim) lim v

end Sys2Proof.Machine
end

