-- ==== Sys2Proof/Machine/SldOps.lean ====
section
/-!
DEFINITION. Shared operations of the sled (chapter "Sled Motion and Gearing"): positions, refusals, starting a move, stopping,
gearing, homing.
-/

namespace Sys2Proof.Machine

/-- The values of SLD_STATUS.STATE (R251). -/
def slOFF : Nat := 0
def slUNREF : Nat := 1
def slIDLE : Nat := 2
def slMOVING : Nat := 3
def slARMED : Nat := 4
def slSTOPPING : Nat := 5
def slHOMING : Nat := 6
def slGEARED : Nat := 7
def slFAULT : Nat := 8

/-- SLD_STATUS.STATE. -/
def slSt (s : State) (n : Nat) : Nat := s.g (R.SLD_STATUS_STATE n)

/-- Change a sled. -/
def State.sldU (s : State) (n : Fin 8) (f : Sld → Sld) : State := { s with sld := vmod s.sld n f }

/-- Micrometres to table steps: one step is 15/256 µm (R247). -/
def umToSteps (v : Rat) : Rat := v * 256 / 15

/-- 2⁴⁰, the unit of the commanded position's fraction (R249). -/
def q40 : Int := 2 ^ 40

/-- SLD_POS and SLD_VEL follow the commanded position and velocity (R272). -/
def refreshPos (s : State) (n : Fin 8) : State :=
  let x := s.sld[n]
  let (v, s) := s.quantR x.vel
  (s.ui (R.SLD_POS_POS n) (x.cmd / 2 ^ 32)).ui (R.SLD_VEL_VEL n) v

/-- Enter a state of the sled. -/
def slEnter (s : State) (n : Fin 8) (st : Nat) : State := s.u (R.SLD_STATUS_STATE n) st

/-- A state in which the sled moves (R251). -/
def slMoves (st : Nat) : Bool := st == slMOVING || st == slSTOPPING || st == slHOMING || st == slGEARED

/-- The sled is at rest: from now on, or since it came to rest (R250). In UNREF its position is not referenced (R251). -/
def slRest (s : State) (n : Fin 8) (st : Nat) : State :=
  let moved := slMoves (slSt s n)
  let s := if st = slUNREF then s.u (R.SLD_STATUS_REFERENCED n) 0 else s
  (slEnter s n st).sldU n (fun x => { x with
    vel := 0, restFrom := if moved then s.now else x.restFrom, limitRamp := false, clamped := false, nextTarget := none, fresh := false, braking := false })

/-- The sled's position in whole and fractional steps, as the profile has it. -/
def slPos (s : State) (n : Fin 8) : Rat := (s.sld[n]).pos

/-- Set the position everywhere it is kept. -/
def setPosition (s : State) (n : Fin 8) (p : Rat) : State :=
  refreshPos (s.sldU n (fun x => { x with
    pos := p, prev := p, cmd := (p * q40).floor, geared := (p * q40).floor, subs := 0 })) n

/-- Soft limits (R272). -/
def softMin (s : State) (n : Nat) : Int := s.gi (R.SLD_SOFT_MIN_POS n)
def softMax (s : State) (n : Nat) : Int := s.gi (R.SLD_SOFT_MAX_POS n)

/-- A switch blocks motion in a direction (R266): HOME inward, END outward, while its qualified level is active. -/
def blocked (s : State) (n : Nat) (outward : Bool) : Bool :=
  if outward then s.on (R.SLD_STATUS_END n) else s.on (R.SLD_STATUS_HOME n)

/-- A gearing ratio moves toward a switch that is active, under forward rotation (R222, R266). -/
def gearBlocked (s : State) (n : Nat) (ratio : Int) : Bool :=
  decide (0 < ratio) && blocked s n true || decide (ratio < 0) && blocked s n false

/-- A switch reads active (R264, R273): its qualified level, inverted where POL says so, while EN is 1. `k` is 0 for HOME, 1 for END. -/
def switchActive (s : State) (n k : Nat) (level : Option Bool) : Bool :=
  bitOf (s.g (R.SLD_SWITCH_EN n)) k == 1 && (match level with
    | some v => v != (bitOf (s.g (R.SLD_SWITCH_POL n)) k == 1)
    | none => false)

/-- SLD_STATUS.HOME and END follow the qualified levels (R264). -/
def refreshSwitches (s : State) (n : Fin 8) : State :=
  s.us [(R.SLD_STATUS_HOME n, b2n (switchActive s n 0 (s.sld[n]).homeLevel)),
    (R.SLD_STATUS_END n, b2n (switchActive s n 1 (s.sld[n]).endLevel))]

/-- A command of the sled is refused (R252). -/
def slRefuse (s : State) (n : Nat) : State := s.u (R.SLD_STATUS_REFUSED n) 1

/-- A target lies toward a switch that is active (R266). -/
def towardSwitch (s : State) (n : Fin 8) (t : Int) : Bool :=
  ((t : Rat) < slPos s n && blocked s n false) || (slPos s n < (t : Rat) && blocked s n true)

/-- The target may be moved to (R252): within the soft limits, and not beyond a switch that is active. -/
def targetOk (s : State) (n : Fin 8) (t : Int) : Bool := softMin s n ≤ t && t ≤ softMax s n && !towardSwitch s n t

/-- A move begins (R255): its first profile tick comes next, and counts it. The lanes of the station take their seeds at the seek (R95).
 -/
def startMove (s : State) (n : Fin 8) (t : Int) : State :=
  (lanesSeek (slEnter s n slMOVING) n).sldU n (fun x => { x with
    target := t, nextTarget := none, limitRamp := false, clamped := false, holding := false
    fresh := true, braking := false })

/-- Distance in micrometres in which a speed brakes to rest, at a deceleration in mm/s² (R255). -/
def brakeDist (v : Rat) (decel : Nat) : Rat := v * v / (2000 * decel)

/-- A ramp to rest begins (R252, R266, R268). (log entry 26) -/
def startStop (s : State) (n : Fin 8) (f : StopFor) (limit : Bool) : State :=
  if (s.sld[n]).vel = 0 then
    match f with
    | .idle => slRest s n slIDLE
    | .unref => slRest s n slUNREF
    | _ => (slEnter s n slSTOPPING).sldU n (fun x => { x with stopFor := f, limitRamp := limit })
  else (slEnter s n slSTOPPING).sldU n (fun x => { x with stopFor := f, limitRamp := limit })

/-- Gearing ends (R259): the correction in force is folded into the geared position. -/
def foldGear (s : State) (n : Fin 8) : State :=
  s.sldU n (fun x => { x with geared := x.cmd, pos := (x.cmd : Rat) / q40, prev := (x.cmd : Rat) / q40 })

/-- A hard stop (R253): above VSAFE the reference is lost. -/
def hardStop (s : State) (n : Fin 8) : State :=
  let s := if slSt s n = slGEARED then foldGear s n else s
  let v := (s.sld[n]).vel
  let lost := decide ((s.g (R.SLD_STOPS_VSAFE n) : Rat) < v ∨ v < -(s.g (R.SLD_STOPS_VSAFE n) : Rat))
  let s := if lost then s.u (R.SLD_STATUS_REFERENCED n) 0 else s
  refreshPos (slRest (s.u (R.SLD_STATUS_CHANGE_ARMED n) 0) n (if s.on (R.SLD_STATUS_REFERENCED n) then slIDLE else slUNREF)) n

/-- The bridge goes off (R253): the reference is lost, every sequence is abandoned, and the table address is held where it stands. -/
def bridgeOff (s : State) (n : Fin 8) (st : Nat) : State :=
  let s := (foldGear s n).sldU n (fun x => { x with subs := 0, halt := false })
  refreshPos (slRest (s.us [(R.SLD_STATUS_REFERENCED n, 0), (R.SLD_STATUS_CHANGE_ARMED n, 0)]) n st) n

/-- FAULT of the sled by an overcurrent (R250): its bridge is off and SLED_FAULT is logged. A limit stop of the same tick is not
(R270). -/
def slFaults (s : State) (n : Fin 8) (cause : Nat) : State :=
  (bridgeOff ((s.u (R.SLD_STATUS_FAULT_CAUSE n) cause).log 0x107 n [cause]) n slFAULT).sldU n (fun x => { x with limit := none })

/-- Homing fails (R269): a ramp stop, no reference, UNREF; the cause is logged, but for chatter, which is logged as such. -/
def homingFails (s : State) (n : Fin 8) (cause : Nat) : State :=
  let s := if cause = 0 then s else (s.u (R.SLD_STATUS_FAULT_CAUSE n) cause).log 0x107 n [cause]
  startStop (s.u (R.SLD_STATUS_REFERENCED n) 0) n .unref true

/-- The correction of the SLED slot, in units of 2⁻⁴⁰ table steps (R259): held at its last value while no such slot runs (R26). -/
def sledCorrection (s : State) (n : Fin 8) : Int :=
  if (slotFor s n tySLED).isSome ∧ bitOf (s.g R.BRL_PIPE_SHED) n = 0 then outFor s n tySLED * 2 ^ 29 else (s.sld[n]).corr

/-- Gearing starts (R259): it engages where the sled stands. -/
def engage (s : State) (n : Fin 8) : State :=
  let c := sledCorrection s n
  let s := s.sldU n (fun x => { x with
    geared := x.cmd, angle := s.g (R.SPN_ANGLE_ANGLE n), epoch := s.g (R.SPN_ANGLE_EPOCH n), corr := c, corrOld := c, corrBase := c
    subs := 0, holding := false })
  (slEnter s n slGEARED).u (R.SLD_GEAR_ACTIVE_RATIO n) (s.g (R.SLD_GEAR_RATIO_RATIO n))

/-- Gearing ends, and the sled is at rest (R259). -/
def disengage (s : State) (n : Fin 8) : State :=
  refreshPos (slRest ((foldGear s n).u (R.SLD_STATUS_CHANGE_ARMED n) 0) n slIDLE) n

/-- Homing begins (R268): at step 3 where HOME is already active. (log entry 25) -/
def startHoming (s : State) (n : Fin 8) : State :=
  let st := if s.on (R.SLD_STATUS_HOME n) then 3 else 1
  let s := s.u (R.SLD_STATUS_REFERENCED n) 0
  (slEnter s n slHOMING).sldU n (fun x => { x with
    homeStep := st, homeFrom := x.pos, limitRamp := false, nextTarget := none, holding := false
    fresh := true, braking := false })

/-- MOVE (R252, R257, R258). A move that is armed when its start time has passed starts at the next tick and is late. (log entry 26) -/
def slMove (s : State) (n : Fin 8) (sync : Bool) : State :=
  let t := s.gi (R.SLD_MOVE_TARGET_POS n)
  let st := slSt s n
  if !(st == slIDLE || st == slMOVING || st == slARMED) || !targetOk s n t then slRefuse s n
  else if st = slMOVING then s.sldU n (fun x => { x with nextTarget := some t })
  else
    let s := s.sldU n (fun x => { x with moveNew := true, moveFrom := if st = slARMED then some x.target else none })
    if sync then
      let s := (slEnter s n slARMED).sldU n (fun x => { x with target := t })
      if s.g64 (R.SLD_START_TIME_LO n) < s.stamp (stationDomain n) then s.u (R.SLD_STATUS_LATE_START n) 1 else s
    else startMove s n t

/-- ARM_CHANGE (R262). -/
def slArmChange (s : State) (n : Fin 8) : State :=
  let act := s.gi (R.SLD_GEAR_ACTIVE_RATIO n)
  let at' := s.gi (R.SLD_GEAR_CHANGE_POS n)
  let g := (s.sld[n]).geared
  let ahead := if act < 0 then at' * q40 < g else g < at' * q40
  if slSt s n ≠ slGEARED ∨ act = 0 ∨ !ahead ∨ s.on (R.SLD_STATUS_CHANGE_ARMED n) then slRefuse s n
  else (s.u (R.SLD_STATUS_CHANGE_ARMED n) 1).sldU n (fun x => { x with
    nextRatio := s.gi (R.SLD_GEAR_RATIO_RATIO n), changePos := at' * q40 })

/-- A command of the sled (R252), in the states that accept it. -/
def slCommand (s : State) (n : Fin 8) (cmd : Nat) (sync : Bool) : State :=
  let st := slSt s n
  if cmd = 1 then slMove s n sync
  else if cmd = 2 then
    if st = slMOVING then startStop s n .idle false
    else if st = slARMED then slRest s n slIDLE
    else if st = slHOMING then startStop s n .unref false
    else if st = slGEARED then startStop ((foldGear s n).u (R.SLD_STATUS_CHANGE_ARMED n) 0) n .idle false
    else slRefuse s n
  else if cmd = 3 then
    if st = slOFF ∨ st = slFAULT then slRefuse s n else s.sldU n (fun x => { x with halt := true })
  else if cmd = 4 then if st = slUNREF ∨ st = slIDLE then startHoming s n else slRefuse s n
  else if cmd = 5 then
    if st = slIDLE ∧ s.on (R.SPN_STATUS_ANGLE_VALID n) ∧ !gearBlocked s n (s.gi (R.SLD_GEAR_RATIO_RATIO n)) then engage s n
    else slRefuse s n
  else if cmd = 6 then slArmChange s n
  else if cmd = 7 then if st = slGEARED then disengage s n else slRefuse s n
  else if cmd = 8 then
    if st = slUNREF ∨ st = slIDLE then
      slEnter ((setPosition s n (s.gi (R.SLD_MOVE_TARGET_POS n) : Int)).u (R.SLD_STATUS_REFERENCED n) 1) n slIDLE
    else slRefuse s n
  else if cmd = 9 then if st = slUNREF ∨ st = slIDLE then bridgeOff s n slOFF else slRefuse s n
  else if cmd = 10 then
    if !s.on R.SPN_BUS_STATUS_TRIPPED && (st == slOFF || (st == slFAULT && s.g (R.SLD_STATUS_FAULT_CAUSE n) == 0)) then slRest s n slUNREF else slRefuse s n
  else s

end Sys2Proof.Machine
end

