-- ==== Sys2Proof/Machine/CoreOps.lean ====
section
/-!
DEFINITION. Operations shared by the queue engine, the buffer and Garnet: ending a command (R372, R387), buffer pages (R318),
commit groups (R352, R354).
-/

namespace Sys2Proof.Machine

/-- Status codes (R387). -/
def cSUCCESS : Nat := 0x00
def cABORTED : Nat := 0x01
def cNOT_FOUND : Nat := 0x02
def cSUPERSEDED : Nat := 0x03
def cHOST_TIMEOUT : Nat := 0x04
def cMEDIA : Nat := 0x05
def cNO_SPACE : Nat := 0x06
def cROLLED_BACK : Nat := 0x07
def cNOT_OWNER : Nat := 0x08
def cFROZEN : Nat := 0x09
def cBAD_OPCODE : Nat := 0x10
def cBAD_FIELD : Nat := 0x11
def cBAD_RANGE : Nat := 0x12
def cBAD_STATE : Nat := 0x13
def cNOT_READY : Nat := 0x14

/-- Opcodes (R378). -/
def oWRITE : Nat := 0x10
def oREAD : Nat := 0x11
def oFLUSH : Nat := 0x12
def oCOMMIT_OPEN : Nat := 0x13
def oCOMMIT_CLOSE : Nat := 0x14
def oREEL_OPEN : Nat := 0x15
def oREEL_CLOSE : Nat := 0x16
def oSEAL : Nat := 0x17

/-- Queue q of function fn in the tables of queues (R368). -/
def qKey (fn q : Nat) : Nat := 8192 * fn + q

/-- The admitted command that holds a tag. -/
def cmdOf (s : State) (tag : Nat) : Option Cmd := s.hqe.cmds.find? (fun c => c.tag == tag)

/-- Change the admitted command that holds a tag. -/
def cmdU (s : State) (tag : Nat) (f : Cmd → Cmd) : State :=
  { s with hqe := { s.hqe with cmds := s.hqe.cmds.map (fun c => if c.tag = tag then f c else c) } }

/-- A command ends with a status (R372, R387): its completion entry waits to be written, and it holds its tag until then. Each
command has exactly one entry. A window write has none (R418). -/
def complete (s : State) (tag status : Nat) (result : Nat := 0) (degraded : Bool := false) : State :=
  match cmdOf s tag with
  | none => s
  | some c =>
    if c.st = .completing then s
    else if c.window.isSome then { s with hqe := { s.hqe with cmds := s.hqe.cmds.filter (fun d => d.tag != tag) } }
    else
      let cq := ((smGet s.hqe.sqs (qKey c.fn c.sq)).map Sq.cq).getD 0
      let s := cmdU s tag (fun c => { c with st := .completing, abortBy := none })
      { s with hqe := { s.hqe with cqes := s.hqe.cqes ++ [⟨c.fn, cq, tag, result, c.sq, c.sqe.cid, status, degraded⟩] } }

/-- Pages of the pool that can be allocated at all, from BPN 0 on (R319): as they are written, and all of them once that is done. Nothing is
allocated while training has failed (R315). (log entry 67) -/
def openPool (s : State) : Nat :=
  if s.on R.BUF_STATUS_INIT_DONE then s.buf.poolSize
  else if s.sys.sysInit && s.g R.BUF_STATUS_TRAIN_FAIL == 0 then min s.buf.poolSize s.buf.written else 0

/-- BUF_POOL_FREE follows the pages in use (R317 to R319). -/
def refreshPool (s : State) : State :=
  let gone := (s.buf.retired.filter (fun p => p.1 == 0 && decide (p.2 < openPool s))).length
  s.u R.BUF_POOL_FREE_PAGES (openPool s - gone - s.buf.pages.length)

/-- While the pool is being written (R319), more of its pages may have been since. How many the spec leaves open: a free value says, and
the count never falls. (log entry 67) -/
def poolWritten (s : State) : State :=
  if s.sys.sysInit && !s.on R.BUF_STATUS_INIT_DONE then
    refreshPool { s.tick with buf := { s.buf with written := max s.buf.written (s.freeVal % (s.buf.poolSize + 1)) } }
  else s

/-- Free pages of the pool. -/
def poolFree (s : State) : Nat := s.g R.BUF_POOL_FREE_PAGES

/-- The first number, from a start and wrapping at a bound, that no list names. -/
def probe (start bound : Nat) (used : Nat → Bool) (k : Nat) : Nat :=
  ((List.range (k + 1)).map (fun i => (start + i) % bound)).find? (fun i => !used i) |>.getD (start % bound)

/-- A free page of the pool. Which one the spec leaves open: a free value picks it. (log entry 16) -/
def freeBpn (s : State) : Nat :=
  let taken := s.buf.pages.map Prod.fst ++ (s.buf.retired.filter (fun p => p.1 == 0)).map Prod.snd
  probe (s.freeVal % (max 1 (openPool s))) (max 1 (openPool s)) (fun i => taken.contains i) taken.length

/-- Allocate a page of the pool to a block (R318). -/
def allocPage (s : State) (p : Page) : Nat × State :=
  let b := freeBpn s
  (b, refreshPool { s.tick with buf := { s.buf with pages := smPut s.buf.pages b p } })

/-- Allocate pages in turn. -/
def allocPages (s : State) : List Page → List Nat × State
  | [] => ([], s)
  | p :: t =>
    let (b, s) := allocPage s p
    let (bs, s) := allocPages s t
    (b :: bs, s)

/-- Free pages of the pool (R318). -/
def freePages (s : State) (bs : List Nat) : State :=
  refreshPool { s with buf := { s.buf with pages := bs.foldl smErase s.buf.pages } }

/-- Change the pages a condition picks. -/
def pagesU (s : State) (c : Nat → Page → Bool) (f : Page → Page) : State :=
  { s with buf := { s.buf with pages := s.buf.pages.map (fun p => if c p.1 p.2 then (p.1, f p.2) else p) } }

/-- The pages a condition picks, by number. -/
def pagesWhere (s : State) (c : Page → Bool) : List Nat := (s.buf.pages.filter (fun p => c p.2)).map Prod.fst

/-- A commit group (R351). -/
def grpOf (s : State) (id : Nat) : Option Grp := s.grn.groups.find? (fun g => g.id == id)

/-- Change a commit group. -/
def grpU (s : State) (id : Nat) (f : Grp → Grp) : State :=
  { s with grn := { s.grn with groups := s.grn.groups.map (fun g => if g.id = id then f g else g) } }

/-- The data of a group counts for reads (R341, R352): no group, or one that is visible or durable. A group of which nothing is
held any more is durable. -/
def grpVisible (s : State) (id : Nat) : Bool :=
  id == 0 || (match grpOf s id with
    | some g => g.st == .visible || g.st == .durable
    | none => true)

/-- GRN_GROUPS_OPEN follows (R367): it counts the groups opened here. -/
def refreshGroups (s : State) : State :=
  s.u R.GRN_GROUPS_OPEN_COUNT
    (s.grn.groups.filter (fun g => g.id < 2 ^ 32 && (g.st == .opened || g.st == .closing || g.st == .rolledBack))).length

/-- Release a group: nothing of it is held any more. -/
def grpDrop (s : State) (id : Nat) : State :=
  refreshGroups { s with grn := { s.grn with groups := s.grn.groups.filter (fun g => g.id != id) } }

/-- Change CorgeLink. -/
def State.cglU (s : State) (f : Cgl → Cgl) : State := { s with cgl := f s.cgl }

/-- CGL_STATUS.STATE (R461). -/
def pairSt (s : State) : Nat := s.g R.CGL_STATUS_STATE

/-- The values of CGL_STATUS.STATE (R461). -/
def pALONE : Nat := 0
def pDOWN : Nat := 1
def pMISMATCH : Nat := 2
def pSYNCING : Nat := 3
def pPAIRED : Nat := 4
def pTAKEN_OVER : Nat := 5
def pISOLATED : Nat := 6
def pHANDING_BACK : Nat := 7

/-- CGL_CTRL.MODE (R438): 0 unpaired, 1 twin, 2 span. -/
def pairMode (s : State) : Nat := s.g R.CGL_CTRL_MODE

/-- The volumes homed here (R438, R447, R449): by CGL_HOME, less those the partner took over and still holds, and those taken over
from it. An unpaired FY8C is home of every volume. (log entry 60) -/
def homes (s : State) : Nat :=
  if pairMode s = 0 then 2 ^ 64 - 1
  else Nat.lor (Nat.land (s.g64 R.CGL_HOME_LO) (2 ^ 64 - 1 - s.cgl.lent.toNat)) s.cgl.taken.toNat

/-- This FY8C is the home of volume v. -/
def homeVol (s : State) (v : Nat) : Bool := bitOf (homes s) v == 1

/-- Mirror traffic flows (R440, R448, R449). -/
def mirroring (s : State) : Bool :=
  pairMode s != 0 && (pairSt s == pSYNCING || pairSt s == pPAIRED || pairSt s == pHANDING_BACK)

/-- Writes of volume v wait for the partner's confirmation (R441). -/
def mirrors (s : State) (v : Nat) : Bool := mirroring s && homeVol s v

/-- Data flits to the partner are queued, while mirror traffic flows (R440). A message that takes several flits is one here. -/
def queueFlits (s : State) (l : List FlitBody) : State :=
  if mirroring s then s.cglU (fun c => { c with sendQ := c.sendQ ++ l }) else s

end Sys2Proof.Machine
end

