-- ==== Sys2Proof/Machine/MapOps.lean ====
section
/-!
DEFINITION. The extent table, its journal and the Onyx cache (chapter "Extent Map, Onyx Cache and Garnet Commit Groups"): line
replacement, table changes, lookups, lost ranges, the rollback of a group.
-/

namespace Sys2Proof.Machine

/-- Entries of the extent table (R337). -/
def mapSize : Nat := 2 ^ 20

/-- The line of an entry (R345): two entries a line. -/
def lineOf (i : Nat) : Nat := i / 2

/-- The set of a line (R345). -/
def setOf (l : Nat) : Nat := l % 4096

/-- Change Onyx. -/
def State.onxU (s : State) (f : Onx → Onx) : State := { s with onx := f s.onx }

/-- ONX_STATUS follows the lines held (R366): DIRTY in units of 4 lines. (log entry 33) -/
def refreshOnx (s : State) : State :=
  let d := (s.onx.ways.filter OnxWay.dirty).length + (s.onx.victims.filter Prod.snd).length
  s.us [(R.ONX_STATUS_DIRTY, min 0xFFFF (d / 4)), (R.ONX_STATUS_LOCKED, s.onx.locks.length)]

/-- GRN_JOURNAL_USED and JOURNAL_FULL follow the records held (R356). -/
def refreshJournal (s : State) : State :=
  s.us [(R.GRN_JOURNAL_USED_RECORDS, s.grn.journal.length),
    (R.GRN_STATUS_JOURNAL_FULL, b2n (2 ^ 19 ≤ s.grn.journal.length))]

/-- Both copies of the table in the system region take the two entries of a line (R345). -/
def copyLine (s : State) (l : Nat) : State :=
  let lay := fun (m : SMap Entry) => [2 * l, 2 * l + 1].foldl (fun m i => match smGet s.grn.entries i with
    | some e => smPut m i e
    | none => smErase m i) m
  { s with grn := { s.grn with copies := s.grn.copies.map lay } }

/-- Write a dirty line back (R345, R356): both copies take it, it is clean, and the journal records of its changes are released. -/
def writeBack (s : State) (l : Nat) : State :=
  let s := copyLine s l
  let s := s.onxU (fun o => { o with
    ways := o.ways.map (fun w => if w.line = l then { w with dirty := false } else w)
    victims := o.victims.map (fun v => if v.1 = l then (l, false) else v) })
  let s := { s with grn := { s.grn with journal := s.grn.journal.filter (· != l) } }
  refreshJournal (refreshOnx (s.bump R.ONX_CNT_WRITEBACKS))

/-- The way that holds a line. -/
def wayOf (s : State) (l : Nat) : Option OnxWay := s.onx.ways.find? (fun w => w.line == l)

/-- A way of a set is locked (R347). -/
def lockedWay (s : State) (set way : Nat) : Bool := s.onx.locks.any (fun k => k.set == set && k.way == way)

/-- The way the tree of a set names (R346): from the root, each node's bit leads to the half to replace. The spec fixes no
numbering of the bits: DESIGN CHOICE, node i of the heap is bit i − 1. (log entry 33) -/
def treeVictim (t : BitVec 15) : Nat :=
  let bit := fun i => bitOf t.toNat (i - 1)
  let a := 2 + bit 1
  let b := 2 * a + bit a
  let c := 2 * b + bit b
  2 * c + bit c - 16

/-- The tree after a way was used: the nodes on its path point away from it. (log entry 33) -/
def treeUse (t : BitVec 15) (way : Nat) : BitVec 15 :=
  [1, 2, 3, 4].foldl (fun (a : BitVec 15) d =>
    let node := 2 ^ (d - 1) + way / 2 ^ (5 - d)
    let toward := way / 2 ^ (4 - d) % 2
    let clear := a &&& ~~~ BitVec.ofNat 15 (2 ^ (node - 1))
    clear ||| BitVec.ofNat 15 ((1 - toward) * 2 ^ (node - 1))) t

/-- Note the use of a way in the tree of its set (R346). -/
def noteUse (s : State) (set way : Nat) : State :=
  s.onxU (fun o => { o with tree := smSet 0#15 o.tree set (treeUse ((smGet o.tree set).getD 0#15) way) })

/-- The LFSR after one advance (R346): x¹⁶ + x¹⁴ + x¹³ + x¹¹ + 1. (log entry 33) -/
def lfsrNext (r : BitVec 16) : BitVec 16 :=
  let b := bitOf r.toNat 0 + bitOf r.toNat 2 + bitOf r.toNat 3 + bitOf r.toNat 5
  (r >>> 1) ||| BitVec.ofNat 16 (b % 2 * 2 ^ 15)

/-- The way to fill in a set (R346): by the tree or by the LFSR, the next unlocked way above a locked one, wrapping at 15. (log entry 33) -/
def chooseWay (s : State) (set : Nat) : Nat :=
  let named := if s.on R.ONX_CTRL_REPL then s.onx.lfsr.toNat % 16 else treeVictim ((smGet s.onx.tree set).getD 0#15)
  probe named 16 (lockedWay s set) 15

/-- Empty the victim cache down to 64 lines, oldest first (R346). -/
def trimVictims (s : State) : State :=
  match s.onx.victims with
  | [] => s
  | (l, d) :: t =>
    if s.onx.victims.length ≤ 64 then s
    else (s.whenB d (fun s => writeBack s l)).onxU (fun o => { o with victims := t })

/-- The line in a way leaves for the victim cache, or is written back at once without it (R346). -/
def evict (s : State) (set way : Nat) : State :=
  match s.onx.ways.find? (fun w => w.set == set && w.way == way) with
  | none => s
  | some w =>
    let out := fun (s : State) => s.onxU (fun o => { o with ways := o.ways.filter (fun x => !(x.set == set && x.way == way)) })
    if s.on R.ONX_CTRL_VICTIM_EN then
      refreshOnx (trimVictims ((out s).onxU (fun o => { o with victims := o.victims ++ [(w.line, w.dirty)] })))
    else out (s.whenB w.dirty (fun s => writeBack s w.line))

/-- Put a line into a way of its set, which is emptied first. -/
def installAt (s : State) (l way : Nat) (dirty : Bool) : State :=
  let s := evict s (setOf l) way
  refreshOnx (noteUse (s.onxU (fun o => { o with ways := o.ways ++ [⟨setOf l, way, l, dirty⟩] })) (setOf l) way)

/-- The way for a line: the one whose lock tag names it, or the way R346 picks (R347). -/
def wayFor (s : State) (l : Nat) : Nat :=
  match s.onx.locks.find? (fun k => k.line == l) with
  | some k => k.way
  | none => chooseWay s (setOf l)

/-- A line lies in the range of an operation (R348). -/
def opCovers (o : OnxOp) (l : Nat) : Bool :=
  o.count != 0 && decide (o.first / 2 ≤ l) && decide (l ≤ (min (o.first + o.count) mapSize - 1) / 2) && decide (o.first < mapSize)

/-- The operation that runs has still to pass this line (R349). -/
def opAhead (s : State) (l : Nat) : Bool := s.onx.op.any (fun o => opCovers o l)

/-- An access to a line (R345, R346): whether Onyx holds it. A hit in the victim cache moves it back; a miss queues its fill. A line whose poisoned
fill has come serves one access of those that missed before the operation; a miss after the operation was queued waits for it (R349). (log entry 34) -/
def touch (s : State) (l : Nat) (dirty : Bool) : Bool × State :=
  match wayOf s l with
  | some w =>
    let s := s.bump R.ONX_CNT_HITS
    let s := s.onxU (fun o => { o with ways := o.ways.map (fun x => if x.line = l then { x with dirty := x.dirty || dirty } else x) })
    (true, refreshOnx (noteUse s w.set w.way))
  | none =>
    match s.onx.victims.find? (fun v => v.1 == l) with
    | some v =>
      let s := (s.bump R.ONX_CNT_VICTIM_HITS).onxU (fun o => { o with victims := o.victims.filter (fun x => x.1 != l) })
      (true, installAt s l (wayFor s l) (v.2 || dirty))
    | none =>
      let same := fun (m : OnxMiss) => m.line == l && !m.poisoned && m.after == opAhead s l
      if !dirty && s.onx.given.contains l then (true, s.onxU (fun o => { o with given := o.given.erase l }))
      else if s.onx.misses.any same then
        (false, s.onxU (fun o => { o with misses := o.misses.map (fun m => if same m then { m with dirty := m.dirty || dirty } else m) }))
      else (false, (s.bump R.ONX_CNT_MISSES).onxU (fun o => { o with misses := o.misses ++ [⟨l, none, false, dirty, opAhead s l⟩] }))

/-- Access lines in turn: whether Onyx held them all. -/
def touchAll (s : State) : List Nat → Bool × State
  | [] => (true, s)
  | l :: t =>
    let (a, s) := touch s l false
    let (b, s) := touchAll s t
    (a && b, s)

/-- GRN_MAP_FREE and MAP_LOW follow the table (R344). -/
def refreshMap (s : State) : State :=
  let free := mapSize - s.grn.entries.length
  let low := free ≤ s.g R.GRN_MAP_CTRL_RESERVE
  let t := s.us [(R.GRN_MAP_FREE_COUNT, free), (R.GRN_STATUS_MAP_LOW, b2n low)]
  if low && !s.on R.GRN_STATUS_MAP_LOW then t.log 0x204 noStation [free] else t

/-- A full journal makes room (R356): Onyx writes back the line of the oldest record. -/
def journalRoom (s : State) : State :=
  match s.grn.journal with
  | [] => s
  | l :: _ => if s.grn.journal.length < 2 ^ 19 then s else writeBack s l

/-- The GEOM byte (R338). -/
def geomByte (k p : Nat) (narrow : Bool) : Nat := 128 * b2n narrow + 16 * k + p

/-- An entry as its 32 bytes (R338). -/
def entryBytes : Entry → List Byte
  | .logical e => bytesBE 1 (16 + b2n e.lost) ++ bytesBE 1 e.vol ++ bytesBE 1 (geomByte e.k e.p e.narrow) ++ bytesBE 1 e.member0 ++
      bytesBE 4 e.version ++ bytesBE 6 e.lba ++ bytesBE 4 e.blocks ++ bytesBE 4 e.group ++ bytesBE 6 e.stripe0 ++ bytesBE 4 e.reel
  | .run e => bytesBE 1 32 ++ bytesBE 1 (e.ws + 16 * e.arms) ++ bytesBE 3 e.disc ++ bytesBE 1 e.layout ++ bytesBE 6 e.serial0 ++
      bytesBE 4 e.count ++ bytesBE 4 e.pca0 ++ bytesBE 8 e.time ++ bytesBE 4 0
  | .member e => bytesBE 1 (48 + b2n e.relocated) ++ bytesBE 1 (e.rot + 16 * e.ws) ++ bytesBE 3 e.disc ++ bytesBE 1 e.layout ++
      bytesBE 6 e.serial ++ bytesBE 4 e.pca ++ bytesBE 8 e.time ++ bytesBE 8 0
  | .disc e => bytesBE 1 64 ++ bytesBE 7 0 ++ bytesBE 8 e.id ++ e.front.toList.flatMap (bytesBE 4)
  | .sealed e => bytesBE 1 80 ++ bytesBE 1 e.vol ++ bytesBE 1 (geomByte e.k e.p e.narrow) ++ bytesBE 1 e.member ++
      bytesBE 4 e.length ++ bytesBE 14 0 ++ bytesBE 6 e.stripe ++ bytesBE 4 e.reel

/-- In span mode the partner keeps the map as its shadow (R440): a change of entry i is sent. (log entry 60) -/
def mapFlit (s : State) (i : Nat) : State :=
  if pairMode s = 2 then
    queueFlits s [.map i (((smGet s.grn.entries i).map entryBytes).getD (List.replicate 32 0#8))]
  else s

/-- A change of entry i (R356): it enters the journal, then Onyx, and is noted for the next delta (R357). -/
def changed (s : State) (i : Nat) : State :=
  let s := mapFlit (journalRoom s) i
  let s := { s with grn := { s.grn with
    journal := s.grn.journal ++ [lineOf i]
    changed := if s.grn.changed.contains i then s.grn.changed else s.grn.changed ++ [i] } }
  refreshMap (refreshJournal ((touch s (lineOf i) true).2.bump R.GRN_CNT_CHANGES))

/-- Set entry i. -/
def putEntry (s : State) (i : Nat) (e : Entry) : State :=
  changed { s with grn := { s.grn with entries := smPut s.grn.entries i e } } i

/-- A free entry's index. Which one the spec leaves open: a free value picks it. (log entry 16) -/
def freeEntry (s : State) : Nat :=
  probe (s.freeVal % mapSize) mapSize (fun i => (smGet s.grn.entries i).isSome) s.grn.entries.length

/-- The table has no free entry left (R344). -/
def mapFull (s : State) : Bool := decide (mapSize ≤ s.grn.entries.length)

/-- Enter a new entry; it waits while the table is full (R344). (log entry 85) -/
def addEntry (s : State) (e : Entry) : State :=
  if mapFull s then { s with grn := { s.grn with waiting := s.grn.waiting ++ [e] } } else putEntry s.tick (freeEntry s) e

/-- Free entry i (R343); a new entry that waits takes its place (R344). -/
def dropEntry (s : State) (i : Nat) : State :=
  let s := changed { s with grn := { s.grn with entries := smErase s.grn.entries i } } i
  match s.grn.waiting with
  | [] => s
  | e :: t => addEntry { s with grn := { s.grn with waiting := t } } e

/-- The LOGICAL entries, with their indexes. -/
def logicals (s : State) : List (Nat × LogicalE) :=
  s.grn.entries.filterMap (fun p => match p.2 with | .logical e => some (p.1, e) | _ => none)

def runs (s : State) : List (Nat × RunE) :=
  s.grn.entries.filterMap (fun p => match p.2 with | .run e => some (p.1, e) | _ => none)

def members (s : State) : List (Nat × MemberE) :=
  s.grn.entries.filterMap (fun p => match p.2 with | .member e => some (p.1, e) | _ => none)

def discs (s : State) : List (Nat × DiscE) :=
  s.grn.entries.filterMap (fun p => match p.2 with | .disc e => some (p.1, e) | _ => none)

def seals (s : State) : List (Nat × SealE) :=
  s.grn.entries.filterMap (fun p => match p.2 with | .sealed e => some (p.1, e) | _ => none)

/-- The DISC entry of a disc. -/
def discIndex (s : State) (id : Nat) : Option Nat := ((discs s).find? (fun d => d.2.id == id)).map Prod.fst

/-- The recorded frontiers of an unwritten disc (R282, R338). -/
def unwrittenFronts : Vector Nat 4 := Vector.ofFn (fun m => mkPca 0 m.val 0 dataFirst)

/-- The disc enters the live map (R281): a DISC entry with the frontiers of an unwritten disc. In a full table the entry waits (R344). -/
def ensureDisc (s : State) (id : Nat) : Nat × State :=
  match discIndex s id with
  | some i => (i, s)
  | none => (freeEntry s, addEntry s (.disc ⟨id, unwrittenFronts⟩))

/-- The recorded frontiers of the station's disc follow the frontiers of its arms (R338). -/
def recordFronts (s : State) (n : Fin 8) : State :=
  match discIndex s (discId s n) with
  | none => s
  | some i =>
    match smGet s.grn.entries i with
    | some (.disc e) =>
      let f := Vector.ofFn (fun (m : Fin 4) => ((s.stn[n]).fronts[m]).getD e.front[m])
      if f = e.front then s else putEntry s i (.disc { e with front := f })
    | _ => s

/-- Block b lies in a LOGICAL entry of volume v. -/
def covers (e : LogicalE) (v b : Nat) : Bool := e.vol == v && e.lba ≤ b && b < e.lba + e.blocks

/-- The LOGICAL entry a read of block b selects (R335, R341): the newest visible version no higher than `top` (0 for the newest);
where entries of one version overlap, the one with LOST set. The groups in `hid` were not visible when the read was admitted (R353). -/
def selectLogical (s : State) (hid : List Nat) (v b top : Nat) : Option (Nat × LogicalE) :=
  ((logicals s).filter (fun p => covers p.2 v b && grpVisible s p.2.group && !hid.contains p.2.group && (top == 0 || p.2.version ≤ top))).foldl
    (fun best p => match best with
      | none => some p
      | some q => if q.2.version < p.2.version || (q.2.version == p.2.version && p.2.lost) then some p else some q) none

/-- Members of a set of stations, ascending. -/
def maskStations (m : Nat) : List Nat := (List.range 8).filter (fun n => bitOf m n == 1)

/-- The station of rotation position r of stripe S (R135, R142): of a narrow stripe, by its layout set. -/
def placeStation (S r : Nat) (narrow : Bool) (setA : Nat) : Nat :=
  if narrow then
    let a := maskStations setA
    (a[(S + r) % (max 1 a.length)]?).getD 0
  else (S + r) % 8

/-- Serials of the map are held modulo 2⁴⁸ (R338). -/
def serial48 (S : Nat) : Nat := S % 2 ^ 48

/-- A placed member as the map finds it: where its copy lies, and when it was written. -/
structure Found where
  entry : Nat
  disc : Nat
  pca : Nat
  time : Nat
  station : Nat
  isMember : Bool
deriving DecidableEq, Repr

/-- Where the map places the member of serial S and rotation position r (R341): a MEMBER entry wins over a RUN. -/
def findMember (s : State) (S r n : Nat) : Option Found :=
  match (members s).find? (fun p => p.2.serial == serial48 S && p.2.rot == r) with
  | some (i, e) => some ⟨i, e.disc, e.pca, e.time, e.ws, true⟩
  | none =>
    match (runs s).find? (fun p => p.2.ws == n && p.2.serial0 ≤ serial48 S && serial48 S < p.2.serial0 + p.2.count) with
    | none => none
    | some (i, e) =>
      let arms := (List.range 4).filter (fun a => bitOf e.arms a == 1)
      let t := (arms.takeWhile (· != pcaArm e.pca0)).length + (serial48 S - e.serial0)
      let slot := pcaSlot e.pca0 + t / max 1 arms.length
      let arm := (arms[t % max 1 arms.length]?).getD 0
      some ⟨i, e.disc, mkPca (pcaLayer e.pca0) arm (pcaZone e.pca0) slot, e.time, e.ws, false⟩

/-- The layout set recorded for stripe S: that of a RUN or MEMBER entry that covers it (R341). -/
def layoutOf (s : State) (S : Nat) : Nat :=
  match (members s).find? (fun p => p.2.serial == serial48 S) with
  | some p => p.2.layout
  | none => (((runs s).find? (fun p => p.2.serial0 ≤ serial48 S && serial48 S < p.2.serial0 + p.2.count)).map
      (fun p => p.2.layout)).getD 0

/-- Serial and rotation position of the cluster of block b under a LOGICAL entry (R341). -/
def clusterOf (e : LogicalE) (b : Nat) : Nat × Nat :=
  let q := e.member0 + (b - e.lba) / 16
  (e.stripe0 + q / max 1 e.k, e.p + q % max 1 e.k)

/-- The data cluster, counted from the first, in which a LOGICAL entry places member r of stripe S (R341); none where it does not. -/
def memberOf (e : LogicalE) (S r : Nat) : Option Nat :=
  let c := (serial48 S - e.stripe0) * e.k + (r - e.p)
  if !e.lost && e.stripe0 ≤ serial48 S && e.p ≤ r && r - e.p < e.k && e.member0 ≤ c && 16 * (c - e.member0) < e.blocks then some (c - e.member0)
  else none

/-- RANGE_LOST of a range of blocks (R150, R324, R492). (log entry 57) -/
def logRangeLost (s : State) (cause vol lba blocks ver src : Nat) : State :=
  (s.bump R.TPZ_CNT_RANGE_LOST).log 0x203 src
    [vol % 64 + 2 ^ 16 * (lba / 2 ^ 32), lba % 2 ^ 32, blocks, ver] cause

/-- Roll a group back (R354): its pages and LOGICAL entries are freed, relocations of its clusters are abandoned (R355), the data of its writes in
flight is discarded, and its COMMIT_CLOSE, if admitted, completes GROUP_ROLLED_BACK. -/
def rollback (s : State) (id : Nat) : State :=
  match grpOf s id with
  | none => s
  | some g =>
    if g.st ≠ .opened ∧ g.st ≠ .closing then s
    else
      let s := (grpU s id (fun g => { g with st := .rolledBack })).bump R.GRN_CNT_ROLLED_BACK
      let s := freePages s (pagesWhere s (fun p => p.group == id))
      let gone := (logicals s).filter (fun p => p.2.group == id)
      let s := { s with tpz := { s.tpz with relocs := s.tpz.relocs.filter (fun x => !gone.any (fun p => (memberOf p.2 x.serial x.rot).isSome)) } }
      let s := s.each gone (fun s p => dropEntry s p.1)
      let s := { s with grn := { s.grn with waiting := s.grn.waiting.filter (fun e => match e with
        | .logical l => l.group != id
        | _ => true) } }
      let s := { s with hqe := { s.hqe with cmds := s.hqe.cmds.map (fun c =>
        if c.sqe.op = oWRITE ∧ c.sqe.group = id then { c with dead := true, bpns := [] } else c) } }
      match g.closeTag with
      | some t => grpDrop (complete (refreshGroups s) t cROLLED_BACK) id
      | none => refreshGroups s

/-- Blocks are recorded as lost for their version (R324), and RANGE_LOST names them; a group that is not yet visible is rolled
back. -/
def loseBlocks (s : State) (cause vol lba blocks ver group reel src : Nat) : State :=
  let s := logRangeLost s cause vol lba blocks ver src
  if grpVisible s group then addEntry s (.logical ⟨true, vol, 0, 0, false, 0, ver, lba, blocks, group, 0, reel⟩)
  else rollback s group

end Sys2Proof.Machine
end

