-- ==== Sys2Proof/Machine/TopazOps.lean ====
section
/-!
DEFINITION. Stripes (chapter "Topaz Cluster Code, Stripes and Sweep"): forming, placing, parity, absent members, reconstruction,
and what a station that becomes unavailable does to the clusters in flight to it.
-/

namespace Sys2Proof.Machine

/-- User bytes of a cluster (R32, R81). -/
def userBytes : Nat := 65536

/-- Zeroes follow the valid bytes (R83, R123). -/
def padUser (bs : List Byte) : List Byte := bs.take userBytes ++ List.replicate (userBytes - bs.length) 0#8

/-- XOR of two runs of bytes. -/
def xorBytes (a b : List Byte) : List Byte := (a.zip b).map (fun p => p.1 ^^^ p.2)

/-- A run of bytes times a field element (R136). -/
def scaleBytes (c : Nat) (a : List Byte) : List Byte := a.map (fun x => BitVec.ofNat 8 (gmul gf256 c x.toNat))

def zeroCluster : List Byte := List.replicate userBytes 0#8

/-- Parity P of data members (R136). -/
def parityP (ds : List (List Byte)) : List Byte := ds.foldl xorBytes zeroCluster

/-- Parity Q of data members (R136). -/
def parityQ (ds : List (List Byte)) : List Byte :=
  (ds.zipIdx).foldl (fun a d => xorBytes a (scaleBytes (galpha gf256 d.2) d.1)) zeroCluster

/-- The data members of a stripe from those known and its parities (R138); none where too many are missing. -/
def solveStripe (ds : List (Option (List Byte))) (pp qq : Option (List Byte)) : Option (List (List Byte)) :=
  let known := ds.map (fun d => d.getD zeroCluster)
  let miss := (ds.zipIdx.filter (fun d => d.1.isNone)).map Prod.snd
  let put := fun (l : List (List Byte)) (i : Nat) (b : List Byte) => l.set i b
  let p' := pp.map (fun p => xorBytes p (parityP known))
  let q' := qq.map (fun q => xorBytes q (parityQ known))
  match miss, p', q' with
  | [], _, _ => some known
  | [x], some p, _ => some (put known x p)
  | [x], none, some q => some (put known x (scaleBytes (ginv gf256 (galpha gf256 x)) q))
  | [x, y], some p, some q =>
    let div := galpha gf256 x ^^^ galpha gf256 y
    let dx := scaleBytes (ginv gf256 div) (xorBytes (scaleBytes (galpha gf256 y) p) q)
    some (put (put known x dx) y (xorBytes p dx))
  | _, _, _ => none

/-- Change Topaz. -/
def State.tpzU (s : State) (f : Tpz → Tpz) : State := { s with tpz := f s.tpz }

/-- TPZ_DEGRADED counts the stripes with absent members that await rebuild, and REBUILDING follows (R141, R144). -/
def refreshRebuild (s : State) : State :=
  s.us [(R.TPZ_DEGRADED_COUNT, ((s.tpz.rebuilds.map Rebuild.serial).eraseDups).length),
    (R.TPZ_STATUS_REBUILDING, b2n (!s.tpz.rebuilds.isEmpty))]

/-- The stripe that is open for a stream (R340). -/
def openStripe (s : State) (vol reel : Nat) : Option Stripe :=
  s.tpz.stripes.find? (fun t => t.vol == vol && t.reel == reel && !t.closed)

/-- A stripe as it is formed now (R133, R142, R525); none while no stripe can be formed. -/
def newStripe (s : State) (vol reel : Nat) : Option Stripe :=
  let p := parityCount s
  let a := availSet s
  let narrow := p < 8 - a.length
  if a.length < p + 1 ∨ serialSpent s then none
  else some ⟨vol, reel, p, (if narrow then a.length - p else 8 - p), narrow, (if narrow then maskOf a else 0), [], none, false,
    0, [], s.now⟩

/-- Change the open stripe of a stream. -/
def streamU (s : State) (vol reel : Nat) (f : Stripe → Stripe) : State :=
  s.tpzU (fun t => { t with stripes := t.stripes.map (fun x =>
    if x.vol = vol ∧ x.reel = reel ∧ x.closed = false then f x else x) })

/-- The open cluster of a stripe closes and is one of its data members; the k-th closes the stripe (R132, R525). -/
def closeCluster (t : Stripe) : Stripe :=
  match t.filling with
  | none => t
  | some c =>
    let d := t.data ++ [c]
    { t with data := d, filling := none, closed := decide (t.k ≤ d.length) }

/-- A stripe closes short (R134): its k is the number of data members it holds. -/
def closeShort (t : Stripe) : Stripe :=
  let u := closeCluster t
  if u.closed then u else { u with k := u.data.length, closed := true }

/-- A closed USER cluster is the next link of its reel's chain (R474): SHA-512 of the chain so far and FIRST_LBA, VERSION,
VALID_BYTES and DIGEST of its header. -/
def hashCluster (s : State) (c : Clu) : State :=
  let link := bytesBE 8 c.lba ++ bytesBE 4 c.ver ++ bytesBE 4 (4096 * c.bpns.length) ++ (sha512 (padUser c.bytes)).take 32
  { s with grn := { s.grn with reels := s.grn.reels.map (fun r =>
      if r.serial = c.reel ∧ r.vol = c.vol ∧ c.reel ≠ 0 ∧ c.typ = 1 then
        { r with
          chain := BitVec.ofNat 512 (numBE (sha512 (bytesBE 64 r.chain.toNat ++ link)))
          clusters := r.clusters + 1, blocks := r.blocks + c.bpns.length }
      else r) } }

/-- The stream's open cluster closes by a rule for its stripe, and is hashed (R474); in twin mode the partner learns the close point
(R132, R440). -/
def closeOpen (s : State) (vol reel : Nat) (how : Stripe → Stripe) : State :=
  let s' := streamU s vol reel how
  match (openStripe s vol reel).bind Stripe.filling with
  | some c =>
    let s' := hashCluster s' c
    if pairMode s = 1 && homeVol s vol then
      queueFlits s' [.close vol reel (c.bpns.filterMap (fun b => (smGet s.buf.pages b).map (fun p => (p.lba, p.ver))))]
    else s'
  | none => s'

/-- The stream's open cluster and stripe close short (R134, R384). -/
def closeStream (s : State) (vol reel : Nat) : State := closeOpen s vol reel closeShort

/-- A block continues a cluster (R132). -/
def continues (c : Clu) (p : Page) : Bool :=
  c.lba + c.bpns.length == p.lba && c.ver == p.ver && c.group == p.group && c.vol == p.vol && c.reel == p.reel

/-- A block joins its stream's open cluster (R132), opening a stripe as its first data member begins to fill (R525); a cluster of
16 blocks closes. Nothing happens while no stripe can be formed. -/
def joinBlock (s : State) (bpn : Nat) (p : Page) : State :=
  let s := match openStripe s p.vol p.reel with
    | some t =>
      match t.filling with
      | some c => if continues c p then s else closeOpen s p.vol p.reel closeCluster
      | none => s
    | none => s
  let s := match openStripe s p.vol p.reel with
    | some _ => s
    | none =>
      match newStripe s p.vol p.reel with
      | some t => s.tpzU (fun z => { z with stripes := z.stripes ++ [t] })
      | none => s
  match openStripe s p.vol p.reel with
  | none => s
  | some _ =>
    let s := pagesU s (fun b _ => b == bpn) (fun p => { p with st := .joined })
    let s := streamU s p.vol p.reel (fun t =>
      let c := match t.filling with
        | some c => { c with bpns := c.bpns ++ [bpn], bytes := c.bytes ++ p.bytes }
        | none => ⟨1, p.vol, p.reel, p.group, p.ver, p.lba, [bpn], p.bytes⟩
      { t with filling := some c, idle := s.now })
    let full := ((openStripe s p.vol p.reel).bind Stripe.filling).any (fun c => c.bpns.length == 16)
    if full then closeOpen s p.vol p.reel closeCluster else s

/-- A cluster of the home's closes in the partner's copy (R132): its blocks join here in the home's order, and the cluster closes where the home
closed it. -/
def closeBlocks (s : State) (vol reel : Nat) (blocks : List (Nat × Nat)) : State :=
  let s := s.each blocks (fun s q =>
    match s.buf.pages.find? (fun p => p.2.vol == vol && p.2.lba == q.1 && p.2.ver == q.2 && p.2.reel == reel && p.2.st == .acked) with
    | some (b, p) => joinBlock (pagesU s (fun x _ => x == b) (fun p => { p with foreign := false })) b { p with foreign := false }
    | none => s)
  closeOpen s vol reel closeCluster

/-- Close points that wait for a stripe (R132, R142) are carried out, in their order, while the stream has or can form one. -/
def closeWaits (s : State) (vol reel : Nat) : State :=
  (s.cgl.closes.filter (fun c => c.1 == vol && c.2.1 == reel)).foldl (fun s c =>
    if ((openStripe s vol reel).isSome || (newStripe s vol reel).isSome) then
      closeBlocks { s with cgl := { s.cgl with closes := s.cgl.closes.erase c } } vol reel c.2.2
    else s) s

/-- The members of a stripe, by rotation position (R135, R142). -/
def rotations (t : Stripe) : List Nat := List.range (t.k + t.p)

/-- The stations that the stripe with serial S would place its members on and that are unavailable (R525). -/
def absentRots (s : State) (t : Stripe) (S : Nat) : List Nat :=
  (rotations t).filter (fun r => !avail s (stnOf (placeStation S r t.narrow t.setA)))

/-- The header of a stripe member before its slot is known (R83, R136). -/
def memberHdr (t : Stripe) (S : Nat) (mask : Nat) (r : Nat) : Hdr :=
  let deg := decide (popCount 8 mask < t.k + t.p)
  let lay := if t.narrow then t.setA else 0
  let par : Nat → Nat → Hdr := fun typ m =>
    ⟨typ, 0xFFFF, 0, S, m, 16 * t.k + t.p, mask, lay, 0, 0, 0, userBytes, false, false, deg, 0xFFFFFFFF, 0xFF, none⟩
  if r = 0 then par 2 t.k
  else if r < t.p then par 3 (t.k + 1)
  else
    match t.data[r - t.p]? with
    | some c => ⟨c.typ, c.vol, c.reel, S, r - t.p, 16 * t.k + t.p, mask, lay, c.ver, (if c.typ = 1 then c.lba else 0),
        c.group, (if c.typ = 1 then 4096 * c.bpns.length else c.bytes.length), decide (c.typ = 5), false, deg, 0xFFFFFFFF,
        0xFF, none⟩
    | none => par 2 t.k

/-- The user bytes of a stripe member (R136). (log entry 31) -/
def memberBytes (t : Stripe) (r : Nat) : List Byte :=
  let ds := t.data.map (fun c => padUser c.bytes)
  if r = 0 then parityP ds else if r < t.p then parityQ ds else (ds[r - t.p]?).getD zeroCluster

/-- A rebuilt member that waits to be written, not yet attempted: it gives way to other clusters (R144). -/
def givesWay (j : Job) : Bool := j.kind == .rebuild && !j.rewrite

/-- Queue a cluster to a station (R123, R340): rebuilds give way to it, encoded ones too. -/
def queueJob (s : State) (n : Fin 8) (j : Job) (front : Bool) : State :=
  if front then refreshWork (s.wrsU n (fun w => { w with queue := j :: w.queue })) n
  else if givesWay j then refreshWork (s.wrsU n (fun w => { w with queue := w.queue ++ [j] })) n
  else
    let s := s.each beams (fun t m => if ((t.beam n m).enc.map Enc.job).any givesWay then recallEnc t n m else t)
    refreshWork (s.wrsU n (fun w => { w with
      queue := w.queue.filter (fun x => !givesWay x) ++ [j] ++ w.queue.filter givesWay })) n

/-- Change the headers of the clusters of a station that are not being written yet: those that wait encoded are encoded again. -/
def reheadJobs (s : State) (n : Fin 8) (p : Job → Bool) (f : Hdr → Hdr) : State :=
  let s := s.each beams.reverse (fun t m => if ((t.beam n m).enc.map Enc.job).any p then recallEnc t n m else t)
  s.wrsU n (fun w => { w with queue := w.queue.map (fun j => if p j then { j with hdr := f j.hdr } else j) })

/-- STRIPE_DEGRADED (R141, R176): the first stripe degraded since a station became unavailable, or every drop. -/
def logDegraded (s : State) (S : Nat) (always : Bool) : State :=
  let un := s.g R.TPZ_STATUS_UNAVAIL
  let fresh := (List.range 8).any (fun n => bitOf un n == 1 && bitOf s.tpz.degLogged.toNat n == 0)
  let t := s.tpzU (fun z => { z with degLogged := z.degLogged ||| BitVec.ofNat 8 un })
  if always then s.log 0x201 noStation [S % 2 ^ 32, S / 2 ^ 32, un]
  else if fresh then t.log 0x201 noStation [S % 2 ^ 32, S / 2 ^ 32, un] else s

/-- A member is absent and awaits rebuild on the station where it was placed (R141, R144). -/
def queueRebuild (s : State) (r : Rebuild) : State :=
  if s.tpz.rebuilds.any (fun q => q.serial == r.serial && q.rot == r.rot) then s
  else refreshRebuild (s.tpzU (fun z => { z with rebuilds := insertBy (fun a b => decide (a.serial < b.serial)) r z.rebuilds }))

/-- The stripe with a serial, while it is in the buffer. -/
def stripeBySerial (s : State) (S : Nat) : Option Stripe := s.tpz.stripes.find? (fun t => t.serial == S && S != 0)

/-- Change a member of a stripe in the buffer. -/
def memU (s : State) (S r : Nat) (f : Mem → Mem) : State :=
  s.tpzU (fun z => { z with stripes := z.stripes.map (fun t =>
    if t.serial = S then { t with mems := t.mems.map (fun m => if m.rot = r then f m else m) } else t) })

/-- A member of a stripe in the buffer is absent (R24, R143, R176): the members written afterwards carry DEGRADED = 1 and a MEMBER_MASK without
its station. The rewrite of a failed copy keeps that copy's header (R174). -/
def memberAbsent (s : State) (S r : Nat) (always : Bool) : State :=
  match stripeBySerial s S with
  | none => s
  | some t =>
    let at' := placeStation S r t.narrow t.setA
    let s := memU s S r (fun m => { m with st := .absent })
    let s := s.each stations (fun s n => reheadJobs s n
      (fun j => j.kind == .member && !j.rewrite && j.hdr.stripe == S)
      (fun h => { h with mask := h.mask - bitOf h.mask at' * 2 ^ at', degraded := true }))
    let s := queueRebuild s ⟨S, r, placeStation S r t.narrow t.setA, t.p, t.k, t.narrow, t.setA, false, none⟩
    logDegraded s S always

/-- The closed stripe takes the next serial (R525): parity is computed, and every member is queued to its station or is absent. -/
def placeStripe (s : State) (t : Stripe) : State :=
  let S := nextSerial s
  let gone := absentRots s t S
  let mask := (rotations t).foldl (fun a r =>
    if gone.contains r then a else a ||| 2 ^ (placeStation S r t.narrow t.setA)) 0
  let mems := (rotations t).map (fun r => (⟨r, placeStation S r t.narrow t.setA,
    if gone.contains r then .absent else .queued, 0, 0, false, 0, 0⟩ : Mem))
  let upd := fun (x : Stripe) => if x = t then { x with serial := S, mems := mems } else x
  let s := (s.tpzU (fun z => { z with stripes := z.stripes.map upd })).u64 R.TPZ_SERIAL_LO (S + 1)
  let s := s.each (rotations t) (fun s r =>
    if gone.contains r then
      queueRebuild s ⟨S, r, placeStation S r t.narrow t.setA, t.p, t.k, t.narrow, t.setA, false, none⟩
    else queueJob s (stnOf (placeStation S r t.narrow t.setA))
      ⟨.member, false, memberHdr t S mask r, r, memberBytes t r, 0, none, 0, 0⟩ false)
  refreshAvail (if gone.isEmpty then s else logDegraded s S false)

/-- How a member can be had for a rebuild (R138, R144, R146). -/
inductive MemRead
  /-- Its content is here. -/
  | have' (h : Option Hdr) (bs : List Byte)
  /-- It must still be read, on station n. -/
  | pending (n : Fin 8) (pca : Nat)
  /-- Its disc is mounted nowhere, or in a station that cannot read it. -/
  | away
  /-- It is absent or unrecovered. -/
  | dead
deriving DecidableEq, Repr

/-- The result of reading a cluster back. -/
def resultOf (s : State) (disc pca : Nat) : Option Result :=
  s.tpz.results.find? (fun r => r.disc == disc && r.pca == pca)

/-- DISC_ID of a DISC entry's index. -/
def discOfIndex (s : State) (i : Nat) : Nat :=
  match smGet s.grn.entries i with
  | some (.disc e) => e.id
  | _ => 0

/-- The stations whose discs can be read: ACTIVE, or idle and woken by a read (R146, R283). -/
def readable (s : State) (n : Nat) : Bool := stSt s n == stACTIVE || stSt s n == stIDLE || stSt s n == stPARKED

/-- A read of the disc in a station is served or waits (R146): the station is ACTIVE, idle and woken by the read, or about to be ACTIVE. -/
def mayRead (s : State) (n : Nat) : Bool := readable s n || stSt s n == stLOADING || stSt s n == stMOUNTING

/-- How the member of rotation position r of a stripe can be had. What was read back serves only while its station can be read (R146). -/
def memRead (s : State) (S r : Nat) (narrow : Bool) (setA : Nat) : MemRead :=
  match stripeBySerial s S with
  | some t => .have' (some (memberHdr t S 0 r)) (memberBytes t r)
  | none =>
    match findMember s S r (placeStation S r narrow setA) with
    | none => .dead
    | some f =>
      let id := discOfIndex s f.disc
      if s.tpz.retired.contains id then .dead
      else match stationOfDisc s id with
      | none => .away
      | some n =>
        if !mayRead s n then .away
        else match resultOf s id f.pca with
        | some ⟨_, _, _, some (h, bs), _⟩ => .have' (some h) bs
        | some _ => .dead
        | none => .pending n f.pca

/-- What a rebuild of a stripe's member finds (R138, R144). -/
inductive Rebuilt
  | ok (bs : List Byte)
  | wait (reads : List (Fin 8 × Nat))
  | away
  | lost
deriving DecidableEq, Repr

/-- Rebuild the member of rotation position r from the others (R138). -/
def rebuildMember (s : State) (S k p : Nat) (narrow : Bool) (setA : Nat) (r : Nat) : Rebuilt :=
  match stripeBySerial s S with
  | some t => .ok (memberBytes t r)
  | none =>
    let all := (List.range (k + p)).map (fun j => if j = r then MemRead.dead else memRead s S j narrow setA)
    let bytes := all.map (fun m => match m with | .have' _ bs => some bs | _ => none)
    let qq := if p = 2 then (bytes[1]?).getD none else none
    match solveStripe (bytes.drop p) ((bytes[0]?).getD none) qq with
    | some ds =>
      .ok (if r = 0 then parityP ds else if r < p then parityQ ds else (ds[r - p]?).getD zeroCluster)
    | none =>
      let pend := all.filterMap (fun m => match m with | .pending n a => some (n, a) | _ => none)
      let away := all.any (fun m => m == .away)
      let alive := (all.filter (fun m => m != .dead)).length
      if k ≤ alive ∧ !pend.isEmpty then .wait pend else if away then .away else .lost

/-- Ask a station to read clusters (R283). -/
def askReads (s : State) (l : List (Fin 8 × Nat)) : State :=
  s.each l (fun s p => refreshWork (s.stnU p.1 (fun x =>
    { x with reads := if x.reads.contains p.2 then x.reads else x.reads ++ [p.2] })) p.1)

/-- The LOGICAL entry that covers data member r of stripe S, with the block number of the cluster's first block and its count. -/
def logicalAt (s : State) (S r : Nat) : Option (LogicalE × Nat × Nat) :=
  ((logicals s).findSome? (fun q =>
    let e := q.2
    (memberOf e S r).map (fun i => (e, e.lba + 16 * i, min 16 (e.blocks - 16 * i)))))

/-- The SEAL entry of data member r of stripe S. -/
def sealAt (s : State) (S r : Nat) : Option SealE :=
  ((seals s).find? (fun q => q.2.stripe == serial48 S && q.2.member + q.2.p == r)).map Prod.snd

/-- Every station that holds a member of a stripe: the full mask of its headers (R144). -/
def fullMask (S k p : Nat) (narrow : Bool) (setA : Nat) : Nat :=
  (List.range (k + p)).foldl (fun a r => a ||| 2 ^ placeStation S r narrow setA) 0

/-- The header of a rebuilt member (R138): a data member's from its LOGICAL or SEAL entry, WRITE_TIME from the entry that placed
the copy written before. A data member that no entry covers any more, because its group was rolled back, has TYPE 1 and the fields of a
member of no volume. (log entry 77) -/
def rebuiltHdr (s : State) (S k p : Nat) (narrow : Bool) (setA r : Nat) : Hdr :=
  let mask := fullMask S k p narrow setA
  let lay := if narrow then setA else 0
  let time := (findMember s S r (placeStation S r narrow setA)).map (fun f => f.time)
  let par : Nat → Nat → Hdr := fun typ m => ⟨typ, 0xFFFF, 0, S, m, 16 * k + p, mask, lay, 0, 0, 0, userBytes, false, false,
    false, 0xFFFFFFFF, 0xFF, time⟩
  if r = 0 then par 2 k
  else if r < p then par 3 (k + 1)
  else
    match stripeBySerial s S with
    | some t => { memberHdr t S mask r with time := time }
    | none =>
      match logicalAt s S r, sealAt s S r with
      | some (e, lba, b), _ => ⟨1, e.vol, e.reel, S, r - p, 16 * k + p, mask, lay, e.version, lba, e.group, 4096 * b, false,
          false, false, 0xFFFFFFFF, 0xFF, time⟩
      | none, some e => ⟨5, e.vol, e.reel, S, r - p, 16 * k + p, mask, lay, 0, 0, 0, e.length, true, false, false,
          0xFFFFFFFF, 0xFF, time⟩
      | none, none => par 1 (r - p)

/-- RANGE_LOST has named a member's data already (R150): in this run, or in a map read back, where LOST entries record its blocks. -/
def lostAlready (s : State) (S r : Nat) : Bool :=
  s.grn.lostTold.contains (S, r) ||
    match logicalAt s S r with
    | some (e, lba, b) => (logicals s).any (fun q =>
        q.2.lost && q.2.vol == e.vol && q.2.version == e.version && q.2.lba ≤ lba && lba + b ≤ q.2.lba + q.2.blocks)
    | none => false

/-- The data of a member cannot be rebuilt (R144, R146, R150): RANGE_LOST names it once, and its blocks are recorded as lost. A
parity member is never lost in this sense. (log entry 30) -/
def loseMember (s : State) (S p r src : Nat) : State :=
  if r < p ∨ lostAlready s S r then s
  else
    let s := { s with grn := { s.grn with lostTold := s.grn.lostTold ++ [(S, r)] } }
    match logicalAt s S r, sealAt s S r with
    | some (e, lba, b), _ => loseBlocks s 2 e.vol lba b e.version e.group e.reel src
    | none, some e => logRangeLost s 2 e.vol 0 0 e.reel src
    | none, none => s

/-- A stripe cannot rebuild its missing members (R144): its rebuilds leave the queue, and RANGE_LOST names the data of each data member that is
lost. -/
def loseStripe (s : State) (S k p : Nat) (narrow : Bool) (setA : Nat) (src : Nat) : State :=
  let dead := (List.range (k + p)).filter (fun r => memRead s S r narrow setA == .dead)
  let s := s.tpzU (fun z => { z with rebuilds := z.rebuilds.filter (fun q => q.serial != S) })
  s.each dead (fun s r => loseMember s S p r src)

/-- The stations that hold members of a stripe, by the buffer or the map. -/
def stripeStations (s : State) (S k p : Nat) (narrow : Bool) (setA : Nat) : List Nat :=
  match stripeBySerial s S with
  | some t => (t.mems.filter (fun m => m.st != .absent)).map Mem.station
  | none => (List.range (k + p)).filterMap (fun r =>
      (findMember s S r (placeStation S r narrow setA)).bind (fun f =>
        (stationOfDisc s (discOfIndex s f.disc)).map (fun n => n.val)))

/-- An available station that holds no member of a stripe (R149, R175). Where there are several the spec says "an
available station": a free value picks it, and the state moves on to the next. (log entry 16) -/
def otherStation (s : State) (h : Hdr) : Option (Fin 8) :=
  let k := h.geometry / 16
  let p := h.geometry % 16
  let used := stripeStations s h.stripe k p (h.layout != 0) h.layout
  let l := stations.filter (fun n => avail s n && !used.contains n.val)
  l[s.freeVal % max 1 l.length]?

/-- A cluster that was in flight to a station which is no longer available (R143, R149, R151, R359). -/
def loseJob (s : State) (n : Fin 8) (j : Job) : State :=
  match j.kind with
  | .member => memberAbsent s j.hdr.stripe j.rot false
  | .rebuild => s.tpzU (fun z => { z with rebuilds := z.rebuilds.map (fun r =>
      if r.serial = j.hdr.stripe ∧ r.rot = j.rot then { r with queued := false } else r) })
  | .reloc =>
    match otherStation s j.hdr with
    | some o => queueJob s.tick o j false
    | none => queueJob s n j false
  | .mapPart => { s with grn := { s.grn with ckpts := s.grn.ckpts.map (fun c => { c with stations := c.stations.map (fun x =>
      if x.station = n.val then { x with out := true } else x) }) } }
  | .test => s

/-- A rewrite that no beam of its station can write goes to an available station that holds no member of its stripe; where there is none the
member is absent (R175). -/
def moveRewrite (s : State) (n : Fin 8) (j : Job) : State :=
  match otherStation s j.hdr with
  | some o => queueJob (recallAll s.tick o) o { j with after := none } true
  | none => loseJob s n j

/-- The clusters in flight to a station: encoded and queued ones, and with `all` those being written or judged. -/
def inFlight (s : State) (n : Fin 8) (all : Bool) : List Job :=
  (beams.flatMap (fun m => (if all then (s.beam n m).judged.map Cur.job ++ ((s.beam n m).cur.map Cur.job).toList else []) ++
    ((s.beam n m).enc.map Enc.job).toList)) ++ (s.wrs[n]).queue

/-- A station has become unavailable: its clusters in flight are lost to it (R24, R143), and a checkpoint to it drops out (R359).
A station that is being released lets the clusters in progress finish (R291): `all` is false. -/
def loseStation (s : State) (n : Fin 8) (all : Bool) : State :=
  let jobs := inFlight s n all
  let cut := if all then (beams.filter (fun m => (s.beam n m).cur.isSome)).length else 0
  let s := (s.bumpN (R.WRS_CNT_INTERRUPTED n) cut).bumpN (R.WRS_CNT_FAILED n) cut
  let s := s.wrsU n (fun w => { w with
    queue := []
    beams := w.beams.map (fun b => if all then { b with enc := none, cur := none, judged := [] } else { b with enc := none }) })
  let s := s.whenB all (fun s => s.u (R.WRS_STATUS_WRITING n) 0)
  let s := s.each jobs (fun s j => loseJob s n j)
  let s := { s with grn := { s.grn with
    ckpts := s.grn.ckpts.map (fun c => { c with stations := c.stations.map (fun x =>
      if x.station = n.val ∧ x.passed < x.parts then { x with out := true } else x) }) } }
  refreshWork (refreshRebuild s) n

end Sys2Proof.Machine
end

