-- ==== Sys2Proof/Machine/Cluster.lean ====
section
/-!
DEFINITION. One cluster: its header (R83, R84), its encoding into 320 rows (R79 to R82, R123), its decoding in rounds (R125 to
R128) and the checks that judge it recovered (R129).
-/

namespace Sys2Proof.Machine

/-- FORMAT of the cluster header (R83). -/
def clusterFormat : Nat := 0x51313601

/-- FLAGS of a header (R84). -/
def hdrFlags (h : Hdr) : Nat :=
  b2n h.relocated + 2 * b2n h.degraded + 4 * b2n h.reelEnd + 8 * b2n (h.valid < userBytes)

/-- The 128 header bytes of a cluster (R83): `time` is that of its own frame 0, which a carried time replaces. -/
def hdrBytes (h : Hdr) (pca station beam disc time uid : Nat) (digest : List Byte) : List Byte :=
  let b := bytesBE 4 clusterFormat ++ bytesBE 4 pca ++ bytesBE 1 h.typ ++ bytesBE 1 (hdrFlags h) ++ bytesBE 1 station ++
    bytesBE 1 beam ++ bytesBE 2 h.vol ++ bytesBE 1 h.layout ++ bytesBE 1 0 ++ bytesBE 8 disc ++ bytesBE 8 h.reel ++
    bytesBE 8 h.stripe ++ bytesBE 1 h.member ++ bytesBE 1 h.geometry ++ bytesBE 1 h.mask ++ bytesBE 1 h.origStn ++
    bytesBE 4 h.version ++ bytesBE 8 h.lba ++ bytesBE 8 (h.time.getD time) ++ bytesBE 4 h.origPca ++ bytesBE 4 h.group ++
    bytesBE 4 h.valid ++ bytesBE 4 0 ++ digest ++ bytesBE 8 uid ++ bytesBE 4 0
  b ++ bytesBE 4 (crc32c b)

/-- The number in header bytes a to a + k − 1. -/
def hdrNum (b : List Byte) (a k : Nat) : Nat := numBE ((b.drop a).take k)

/-- The header that 128 bytes hold. -/
def parseHdr (b : List Byte) : Hdr :=
  let f := hdrNum b 9 1
  ⟨hdrNum b 8 1, hdrNum b 12 2, hdrNum b 24 8, hdrNum b 32 8, hdrNum b 40 1, hdrNum b 41 1, hdrNum b 42 1, hdrNum b 14 1,
   hdrNum b 44 4, hdrNum b 48 8, hdrNum b 68 4, hdrNum b 72 4, bitOf f 2 == 1, bitOf f 0 == 1, bitOf f 1 == 1,
   hdrNum b 64 4, hdrNum b 43 1, some (hdrNum b 56 8)⟩

/-- The first 32 bytes of the SHA-512 of the user bytes (R83). -/
def digestOf (user : List Byte) : List Byte := (sha512 user).take 32

/-- The 232 information bytes of row r, 0 to 287 (R81). -/
def infoRow (pca : Nat) (header user : List Byte) (r : Nat) : List Byte :=
  bytesBE 4 (frameAddress r pca) ++
    (if r = 0 then header ++ user.take 100 else (user.drop (100 + 228 * (r - 1))).take 228)

/-- The outer check bytes of column j, 32 of them (R79, R80). -/
def outerColumn (rows : List (List Byte)) (j : Nat) : List Nat :=
  rsCheck gf256 32 (rows.map (fun r => ((r[j]?).getD 0).toNat))

/-- The 320 rows of a cluster (R80, R123): outer check rows column by column, then the inner checks of every row. -/
def encodeRows (pca : Nat) (header user : List Byte) : List (List Byte) :=
  let info := (List.range 288).map (infoRow pca header user)
  let cols := (List.range 232).map (outerColumn info)
  let checks := (List.range 32).map (fun i => cols.map (fun q => BitVec.ofNat 8 ((q[i]?).getD 0)))
  (info ++ checks).map (fun r => r ++ (rsCheck gf256 16 (r.map (fun b => b.toNat))).map (BitVec.ofNat 8))

/-- Encode a queued cluster for a beam and a slot (R123). -/
def encodeJob (j : Job) (station beam disc pca time : Nat) : Enc :=
  let user := padUser j.bytes
  let h := hdrBytes j.hdr pca station beam disc time Config.uid.toNat (digestOf user)
  ⟨j, pca, time, encodeRows pca h user⟩

/-- A row in the decoder: its 248 bytes, which of them the lane flagged, whether it is failed. -/
structure DRow where
  bytes : List Nat
  era : List Bool
  failed : Bool
deriving DecidableEq, Repr

/-- The decoder between rounds: the rows, the columns the outer pass decoded, and the bytes corrected by either code. -/
structure Dec where
  rows : List DRow
  cols : List (Option (List Nat))
  inner : Nat
  outer : Nat
deriving DecidableEq, Repr

/-- Places at which two words differ. -/
def diffs (a b : List Nat) : Nat := ((a.zip b).filter (fun p => p.1 != p.2)).length

/-- The row's address field is that of the expected slot (R126). -/
def addressOk (pca r : Nat) (w : List Nat) : Bool :=
  288 ≤ r || (w.take 4).foldl (fun a b => a * 256 + b) 0 == frameAddress r pca

/-- Decode row r by the inner code (R125) and check its address field (R126). -/
def innerRow (innerT pca r : Nat) (w : List Nat) (era : List Bool) : Option (List Nat) :=
  let places := (era.zipIdx.filter (fun p => p.1)).map Prod.snd
  match rsDecode gf256 16 w places 0 with
  | some f =>
    if f.errors ≤ innerT ∧ 2 * f.errors + places.length ≤ 16 ∧ addressOk pca r f.word then some f.word else none
  | none => none

/-- The first round's row pass (R125, R126). -/
def firstRows (innerT pca : Nat) (rows : List RxRow) : List DRow × Nat :=
  let out := rows.zipIdx.map (fun p =>
    let w := p.1.bytes.map (fun b => b.toNat)
    let none' := (⟨w, p.1.era, true⟩, 0)
    if p.1.whole then none'
    else match innerRow innerT pca p.2 w p.1.era with
      | some v => (⟨v, p.1.era, false⟩, diffs w v)
      | none => none')
  (out.map Prod.fst, (out.map Prod.snd).sum)

/-- The outer pass on the columns not yet decoded (R127): the failed rows are its erasures. `free` is the first of the free values it may take,
255 for each column. (log entry 89) -/
def outerPass (free : Nat) (d : Dec) : Dec :=
  let gone := (d.rows.zipIdx.filter (fun p => p.1.failed)).map Prod.snd
  let cols := d.cols.zipIdx.map (fun c => match c.1 with
    | some w => (some w, 0)
    | none =>
      let w := d.rows.map (fun r => (r.bytes[c.2]?).getD 0)
      match rsDecode gf256 32 w gone (free + 255 * c.2) with
      | some f => (some f.word, diffs w f.word)
      | none => (none, 0))
  { d with cols := cols.map Prod.fst, outer := d.outer + (cols.map Prod.snd).sum }

/-- A decoded row leaves the bytes of the columns that the outer pass decoded as they are (R126, R128). -/
def keepsColumns (cols : List (Option (List Nat))) (w v : List Nat) : Bool :=
  ((w.zip v).zipIdx).all (fun p => p.1.1 == p.1.2 || ((cols[p.2]?).getD none).isNone)

/-- A further round's row pass (R128): the rows the last round failed are decoded again, with the columns the outer pass decoded
taken as correct and the failed columns as erasures. The check columns, which take no part in the outer pass, keep the flags of the lane. (log entry 76) -/
def furtherRows (innerT pca : Nat) (d : Dec) : Dec :=
  let out := d.rows.zipIdx.map (fun p =>
    if p.1.failed then
      let w := (List.range 248).map (fun j => match (d.cols[j]?).getD none with
        | some q => (q[p.2]?).getD 0
        | none => (p.1.bytes[j]?).getD 0)
      let era := (List.range 248).map (fun j => if j < 232 then ((d.cols[j]?).getD none).isNone else (p.1.era[j]?).getD true)
      match innerRow innerT pca p.2 w era with
      | some v => if keepsColumns d.cols w v then (({ p.1 with bytes := v, failed := false } : DRow), diffs w v) else (p.1, 0)
      | none => (p.1, 0)
    else (p.1, 0))
  { d with rows := out.map Prod.fst, inner := d.inner + (out.map Prod.snd).sum }

/-- The free values that one outer pass may take. -/
def passFree : Nat := 255 * 232

/-- Further rounds, k of them at most (R128). -/
def moreRounds (innerT pca free : Nat) : Nat → Dec → Dec
  | 0, d => d
  | k + 1, d =>
    if d.cols.all Option.isSome then d else moreRounds innerT pca (free + passFree) k (outerPass free (furtherRows innerT pca d))

/-- What the decoder makes of a cluster's rows: header bytes and user bytes where every column decoded, the rows that failed in
the first round, and the bytes corrected by the inner and the outer code. -/
structure Decoded where
  content : Option (List Byte × List Byte)
  failedRows : Nat
  inner : Nat
  outer : Nat
deriving DecidableEq, Repr

/-- Decode the rows of a cluster (R125 to R128), with free values from `free` on. -/
def decodeRows (innerT rounds pca free : Nat) (rows : List RxRow) : Decoded :=
  let (rs, fixed) := firstRows innerT pca rows
  let failed := (rs.filter DRow.failed).length
  let d := moreRounds innerT pca (free + passFree) (rounds - 1) (outerPass free ⟨rs, List.replicate 232 none, fixed, 0⟩)
  if d.cols.all Option.isSome then
    let at' := fun (r j : Nat) => BitVec.ofNat 8 ((((d.cols[j]?).getD none).getD [])[r]?.getD 0)
    let row := fun (r a k : Nat) => (List.range k).map (fun j => at' r (a + j))
    let user := row 0 132 100 ++ (List.range 287).flatMap (fun r => row (r + 1) 4 228)
    ⟨some (row 0 4 128, user), failed, d.inner, d.outer⟩
  else ⟨none, failed, d.inner, d.outer⟩

/-- The decoded content is that of a cluster of the expected slot and disc (R129). -/
def contentOk (pca disc : Nat) (header user : List Byte) : Bool :=
  hdrNum header 124 4 == crc32c (header.take 124) && hdrNum header 0 4 == clusterFormat &&
    (1 ≤ hdrNum header 8 1 && hdrNum header 8 1 ≤ 7) && hdrNum header 4 4 == pca && hdrNum header 16 8 == disc &&
    (header.drop 80).take 32 == digestOf user

end Sys2Proof.Machine
end

