-- ==== Sys2Proof/Machine/Topaz.lean ====
section
/-!
DEFINITION. The meanings of Topaz's commands (chapter "Topaz Cluster Code, Stripes and Sweep").
-/

namespace Sys2Proof.Machine

/-- An earlier-admitted write of the stream that has neither been acknowledged nor ended (R132). -/
def earlierWrite (s : State) (vol reel adm : Nat) : Bool :=
  s.hqe.cmds.any (fun c => c.sqe.op == oWRITE && c.sqe.vol == vol && c.sqe.reel == reel && c.adm < adm && !c.dead &&
    (c.st == .running || c.st == .inBuffer))

/-- The acknowledged block of a stream that comes next in admission order, within a write in block order (R132). -/
def nextBlock (s : State) (vol reel : Nat) : Option (Nat × Page) :=
  (s.buf.pages.filter (fun p => p.2.vol == vol && p.2.reel == reel && p.2.st == .acked && !p.2.lost && !p.2.foreign)).foldl
    (fun best p => match best with
      | none => some p
      | some q => if p.2.adm < q.2.adm || (p.2.adm == q.2.adm && p.2.lba < q.2.lba) then some p else some q) none

/-- BLOCK_JOIN_CLUSTER (R132): the next acknowledged block of a stream joins its open cluster. Close points of the home that wait come first. -/
def blockJoinCluster (vol reel : Nat) (s : State) : State :=
  let s := closeWaits s vol reel
  match nextBlock s vol reel with
  | none => s
  | some (b, p) => if earlierWrite s vol reel p.adm then s else joinBlock s b p

def execBlockJoinCluster (vol : Nat) (reel : Nat) (s : State) : Host.Outcome State Fault Refusal :=
  answer s (blockJoinCluster vol reel)

/-- STREAM_IDLE_EXPIRY (R134): IDLE_CLOSE ms after the last block joined; 0 disables closing by time. -/
def streamIdleExpiry (vol reel : Nat) (s : State) : State :=
  let lim := s.g R.TPZ_STRIPE_CTRL_IDLE_CLOSE
  match openStripe s vol reel with
  | none => s
  | some t => if lim = 0 ∨ s.now < t.idle + lim * 1000000 then s else closeStream s vol reel

def execStreamIdleExpiry (vol : Nat) (reel : Nat) (s : State) : Host.Outcome State Fault Refusal :=
  answer s (streamIdleExpiry vol reel)

/-- STRIPE_OPEN (R133, R142, R525): a stripe opens for a stream whose next block is ready and which has none open, as that block
begins its first data member. -/
def stripeOpen (vol reel : Nat) (s : State) : State :=
  if (openStripe s vol reel).isSome then s else blockJoinCluster vol reel s

def execStripeOpen (vol : Nat) (reel : Nat) (s : State) : Host.Outcome State Fault Refusal := answer s (stripeOpen vol reel)

/-- The closed stripe that takes the next serial: of several that wait the one opened first, with no more than p absent members (R525). (log entry 78) -/
def placeable (s : State) : Option Stripe :=
  s.tpz.stripes.find? (fun t => t.closed && t.serial == 0 && (absentRots s t (nextSerial s)).length ≤ t.p)

/-- A beam may write (R158): enabled, not suspended, neither of its lanes failed, its arm not full. -/
def beamWrites (s : State) (n : Fin 8) (m : Fin 4) : Bool :=
  bitOf (s.g (R.WRS_CTRL_BEAM_EN n)) m == 1 && bitOf (s.g (R.WRS_STATUS_SUSPENDED n)) m == 0 &&
    !(s.lanes[laneOf n m false]).stopped && !(s.lanes[laneOf n m true]).stopped && armBlank s n m

/-- Where a beam writes next: the slot after the cluster it holds encoded, else its frontier. -/
def beamNext (s : State) (n : Fin 8) (m : Fin 4) : Nat :=
  match (s.beam n m).enc with
  | some e => if e.job.kind = .mapPart ∨ e.job.kind = .test then ((s.stn[n]).fronts[m]).getD (fullMark m) else nextFront e.pca
  | none => ((s.stn[n]).fronts[m]).getD (fullMark m)

/-- The writing beams of a station. -/
def writingBeams (s : State) (n : Fin 8) : List (Fin 4) := beams.filter (beamWrites s n)

/-- The beam that takes the next cluster (R88, R340): the one whose next slot comes first, within a slot the lowest arm. -/
def nextBeam (s : State) (n : Fin 8) : Option (Fin 4) :=
  (writingBeams s n).foldl (fun best m => match best with
    | none => some m
    | some b => if frontKey (beamNext s n m) < frontKey (beamNext s n b) then some m else some b) none

/-- A slot lies ahead of no writing beam's frontier, so that an arm that lags is written alone until it has caught up (R88). A rewrite may lie
one slot ahead, since it goes to the next beam in turn (R174). -/
def keepsStep (s : State) (n : Fin 8) (pca : Nat) (rewrite : Bool) : Bool :=
  (writingBeams s n).all (fun m =>
    let f := ((s.stn[n]).fronts[m]).getD (fullMark m)
    decide (frontKey pca ≤ frontKey (if rewrite then nextFront f else f)))

/-- The next writing beam after one, in the order B0 to B3 and round (R174), among those that an arm which lags lets write (R88). -/
def beamAfter (s : State) (n : Fin 8) (b : Nat) (j : Job) : Option (Fin 4) :=
  ([1, 2, 3, 4].map (fun i => beamOf (b + i))).find? (fun m =>
    beamWrites s n m && (j.kind == .mapPart || keepsStep s n (beamNext s n m) true))

/-- The map zone and slot a beam writes a checkpoint part to (R360): the zone of the working layer nearer the sled, then the other
zone, then the nearest layer with room. -/
def mapFront (s : State) (n : Fin 8) (layer zoneB : Nat) (m : Fin 4) : Option Nat :=
  let first := if zoneB = 1 then dataEnd else 0
  let at' := (smGet (s.grn.chains[n]).fronts (8 * layer + 4 * zoneB + m.val)).getD first
  if at' < first + 1024 then some (mkPca layer m 0 at') else none

/-- Layers by their distance from one, the lower first. -/
def layersBy (layer : Nat) : List Nat :=
  sortBy (fun a b => decide ((a - layer) + (layer - a) < (b - layer) + (layer - b))) (List.range 16)

/-- The map zone nearer the sled (R64, R65, R360): 0 for A, 1 for B. The radius of 41.0 mm halves the data zone; an even layer runs
outward, an odd one inward, and zone B lies at the end in both. -/
def nearZone (s : State) (n : Fin 8) : Nat :=
  let outer := decide ((41000 - s.g (R.SLD_GEOM_HOME_RADIUS n) : Int) * 256 ≤ 15 * ((s.sld[n]).cmd / 2 ^ 40))
  let odd := s.g (R.BRL_STN_SEQ_STATUS_LAYER n) % 2 == 1
  b2n (outer != odd)

/-- The next slot for a checkpoint part on a beam (R360). -/
def mapSlot (s : State) (n : Fin 8) (m : Fin 4) : Option Nat :=
  let z := nearZone s n
  (layersBy (s.g (R.BRL_STN_SEQ_STATUS_LAYER n))).findSome? (fun l =>
    match mapFront s n l z m with
    | some p => some p
    | none => mapFront s n l (1 - z) m)

/-- The beam that takes the next part of a checkpoint (R360): the one whose map zone slot comes first, within a slot the lowest arm. -/
def nextMapBeam (s : State) (n : Fin 8) : Option (Fin 4) :=
  let next := fun (m : Fin 4) => (mapSlot s n m).map (fun p => 
    frontKey p + b2n (((s.beam n m).enc.map Enc.job).any (fun j => j.kind == .mapPart)))
  (((writingBeams s n).filterMap (fun m => (next m).map (fun k => (k, m)))).foldl (fun (best : Option (Nat × Fin 4)) p => match best with
    | none => some p
    | some q => if p.1 < q.1 then some p else best) none).map Prod.snd

/-- The next test slot of an arm, in slot order (R67). -/
def testSlot (s : State) (n : Fin 8) (layer zone : Nat) (m : Fin 4) : Nat :=
  mkPca layer m zone ((smGet (s.cal[n]).tests (8 * layer + 4 * b2n (zone == 3) + m.val)).getD 0)

/-- The slot that a cluster is encoded for on a beam (R67, R88, R360). -/
def jobSlot (s : State) (n : Fin 8) (m : Fin 4) (j : Job) : Option Nat :=
  match j.kind with
  | .mapPart => mapSlot s n m
  | .test => some (testSlot s n j.seq j.part m)
  | _ => some (beamNext s n m)

/-- The cluster that the station encodes next, and the rest of its queue: the first of the queue, or while a calibration runs its first TEST
cluster (R305, R308). -/
def nextJob (s : State) (n : Fin 8) : Option (Job × List Job) :=
  let q := (s.wrs[n]).queue
  let i := if (s.cal[n]).run.isSome then q.findIdx (fun j => j.kind == .test) else 0
  (q[i]?).map (fun j => (j, q.eraseIdx i))

/-- CLUSTER_ENCODE (R123, R124, R174, R340): the station's first queued cluster is encoded for the beam that takes it and the slot
that comes next there; a rewrite that no beam can write any more goes to another station (R175). `t` is the Quartz time at which its frame 0
will be written (R83). -/
def clusterEncode (n : Fin 8) (t : Nat) (s : State) : State :=
  match nextJob s n with
  | none => s
  | some (j, rest) =>
    let beam : Option (Fin 4) := match j.after with
      | some b => beamAfter s n b j
      | none => if j.kind = .test then some (beamOf j.rot) else if j.kind = .mapPart then nextMapBeam s n else nextBeam s n
    match beam with
    | none =>
      if j.rewrite ∧ j.kind ≠ .mapPart ∧ (writingBeams s n).isEmpty then
        refreshWork (moveRewrite (s.wrsU n (fun w => { w with queue := rest })) n j) n
      else s
    | some m =>
      if (s.beam n m).enc.isSome then s
      else match jobSlot s n m j with
        | none => s
        | some pca =>
          let e := encodeJob j n m (discId s n) pca t
          let arms := (writingBeams s n).foldl (fun a b => a + 2 ^ b.val) 0
          let s := s.wrsU n (fun w => { w with queue := rest })
          let s := s.beamU n m (fun b => { b with enc := some e })
          if j.kind = .member ∧ j.rewrite = false then memU s j.hdr.stripe j.rot (fun x => { x with arms := arms }) else s

def execClusterEncode (n : Fin 8) (t : Nat) (s : State) : Host.Outcome State Fault Refusal := answer s (clusterEncode n t)

/-- CLUSTER_DECODED (R125 to R129): the oldest cluster delivered is decoded against the slot the station expects and judged. -/
def clusterDecoded (pca : Nat) (s : State) : State :=
  match s.rx with
  | [] => s
  | c :: rest =>
    let n := stnOf (laneStation s ⟨c.lane % 68, Nat.mod_lt _ (by omega)⟩)
    let s := { s with rx := rest }
    let d := decodeRows (s.g R.TPZ_DEC_CTRL_INNER_T) (s.g R.TPZ_DEC_CTRL_ROUNDS) pca s.free c.rows
    let s := { s with free := s.free + passFree * s.g R.TPZ_DEC_CTRL_ROUNDS }
    let s := ((s.bumpN R.TPZ_CNT_INNER_CORR d.inner).bumpN R.TPZ_CNT_ROWS_FAILED d.failedRows).bumpN R.TPZ_CNT_OUTER_CORR d.outer
    let id := discId s n
    let content := match d.content with
      | some (h, u) => if contentOk pca id h u then some (parseHdr h, u) else none
      | none => none
    let s := s.bump (if content.isSome then R.TPZ_CNT_DECODED else R.TPZ_CNT_UNRECOVERED)
    let s := s.tpzU (fun z => { z with
      results := z.results.filter (fun r => !(r.disc == id && r.pca == pca)) ++ [⟨n, id, pca, content, d.failedRows⟩] })
    refreshWork (s.stnU n (fun x => { x with reads := x.reads.filter (· != pca) })) n

def execClusterDecoded (pca : Nat) (s : State) : Host.Outcome State Fault Refusal := answer s (clusterDecoded pca)

/-- A rebuild leaves the queue (R144). -/
def dropRebuild (s : State) (S r : Nat) : State :=
  refreshRebuild (s.tpzU (fun z => { z with rebuilds := z.rebuilds.filter (fun q => !(q.serial == S && q.rot == r)) }))

/-- The rebuild of station n that is next in serial order and can be tried (R144). -/
def nextRebuild (s : State) (n : Fin 8) : Option Rebuild :=
  s.tpz.rebuilds.find? (fun r => r.station == n.val && !r.queued &&
    rebuildMember s r.serial r.k r.p r.narrow r.setA r.rot != .away)

/-- No cluster waits on a station to be written. -/
def nothingQueued (s : State) (n : Fin 8) : Bool := (s.wrs[n]).queue.isEmpty && beams.all (fun m => (s.beam n m).enc.isNone)

/-- The LOGICAL or SEAL entry by which the map knows stripe S: its index and geometry, k, p, narrow. -/
def stripeEntry (s : State) (S : Nat) : Option (Nat × Nat × Nat × Bool) :=
  match (logicals s).find? (fun q => !q.2.lost && q.2.stripe0 ≤ serial48 S &&
      serial48 S ≤ q.2.stripe0 + (q.2.member0 + (q.2.blocks + 15) / 16 - 1) / max 1 q.2.k) with
  | some (i, e) => some (i, e.k, e.p, e.narrow)
  | none => ((seals s).find? (fun q => q.2.stripe == serial48 S)).map (fun q => (q.1, q.2.k, q.2.p, q.2.narrow))

/-- Geometry of stripe S as the map has it: k, p, narrow, layout set. -/
def stripeGeom (s : State) (S : Nat) : Option (Nat × Nat × Bool × Nat) :=
  (stripeEntry s S).map (fun q => (q.2.1, q.2.2.1, q.2.2.2, layoutOf s S))

/-- The lines that a lookup of the members of stripe S reads (R345): of the entry that knows the stripe, and of those that place its members `rs`. -/
def stripeLines (s : State) (S : Nat) (rs : List Nat) : List Nat :=
  match stripeEntry s S with
  | none => []
  | some (i, _, _, narrow) =>
    lineOf i :: rs.filterMap (fun r => (findMember s S r (placeStation S r narrow (layoutOf s S))).map (fun f => lineOf f.entry))

/-- DEGRADED_REBUILD (R138, R144): on a station that is available and has no cluster queued for writing. Its lookups pass through Onyx and wait for
a line that is not there (R345). -/
def degradedRebuild (n : Fin 8) (s : State) : State :=
  if !avail s n ∨ !nothingQueued s n then s
  else match nextRebuild s n with
    | none => s
    | some r =>
      let (hit, s) := touchAll s (stripeLines s r.serial ((List.range (r.k + r.p)).filter (· != r.rot)))
      if !hit then s
      else match rebuildMember s r.serial r.k r.p r.narrow r.setA r.rot with
      | .ok bs =>
        let h := rebuiltHdr s r.serial r.k r.p r.narrow r.setA r.rot
        let s := (s.tpzU (fun z => { z with rebuilds := z.rebuilds.map (fun q =>
          if q.serial = r.serial ∧ q.rot = r.rot then { q with queued := true } else q) })).bump R.TPZ_CNT_RECONSTRUCTED
        queueJob s n ⟨.rebuild, false, { h with time := h.time.orElse (fun _ => r.time) }, r.rot, bs, 0, none, 0, 0⟩ false
      | .wait l => askReads s l
      | .away => s
      | .lost => refreshRebuild (loseStripe s r.serial r.k r.p r.narrow r.setA n)

def execDegradedRebuild (n : Fin 8) (s : State) : Host.Outcome State Fault Refusal := answer s (degradedRebuild n)

/-- The member that the map places at a slot of a disc: its serial and rotation position (R341 read backward). -/
def placedAt (s : State) (disc pca : Nat) : Option (Nat × Nat × Found) :=
  let ok := fun (S r n : Nat) => match findMember s S r n with
    | some f => if f.disc = disc ∧ f.pca = pca then some (S, r, f) else none
    | none => none
  match (members s).find? (fun p => p.2.disc == disc && p.2.pca == pca) with
  | some (_, e) => ok e.serial e.rot e.ws
  | none => (runs s).findSome? (fun p =>
      let e := p.2
      let arms := (List.range 4).filter (fun a => bitOf e.arms a == 1)
      let m := max 1 arms.length
      let pos := fun a => (arms.takeWhile (· != a)).length
      let t := (pcaSlot pca - pcaSlot e.pca0) * m + pos (pcaArm pca)
      let t0 := pos (pcaArm e.pca0)
      if e.disc = disc ∧ pcaLayer pca = pcaLayer e.pca0 ∧ pcaSlot e.pca0 ≤ pcaSlot pca ∧ arms.contains (pcaArm pca) ∧
          t0 ≤ t ∧ t - t0 < e.count then
        let S := e.serial0 + (t - t0)
        let a := maskStations e.layout
        let r := if e.layout = 0 then (e.ws + 8 - S % 8) % 8
          else ((List.range a.length).find? (fun j => (a[(S + j) % max 1 a.length]?).getD 8 == e.ws)).getD 0
        ok S r e.ws
      else none)

/-- A relocation starts, or joins the one in progress (R149, R151): the cluster goes to its station, or to another available one
that holds no member of its stripe, or waits. `byRead` is ARG3 of RELOCATED; `rebuilt` says that the content comes from the stripe. -/
def startReloc (s : State) (n : Fin 8) (S r : Nat) (f : Found) (h : Hdr) (bs : List Byte) (byRead : Nat) (rebuilt : Bool) : State :=
  let id := discOfIndex s f.disc
  if s.tpz.relocs.any (fun x => x.disc == id && x.pca == f.pca) then s
  else
    let s := s.tpzU (fun z => { z with relocs := z.relocs ++ [⟨n, id, f.pca, S, r, byRead, none, bs, rebuilt⟩] })
    let h := { h with relocated := true, origPca := f.pca, origStn := n.val, time := some f.time }
    let j : Job := ⟨.reloc, false, h, r, bs, 0, none, 0, 0⟩
    if avail s n then queueJob s n j false
    else match otherStation s h with
      | some o => queueJob s.tick o j false
      | none => queueJob s n j false

/-- A cluster that a READ has had rebuilt is relocated (R146), unless its member is absent, its disc is retired, or its disc cannot be read
here. Answers whether it is. -/
def relocRebuilt (s : State) (S r k p : Nat) (narrow : Bool) (setA : Nat) (bs : List Byte) : Bool × State :=
  match findMember s S r (placeStation S r narrow setA) with
  | none => (false, s)
  | some f =>
    let id := discOfIndex s f.disc
    match stationOfDisc s id with
    | none => (false, s)
    | some n =>
      if s.tpz.retired.contains id || !mayRead s n || (resultOf s id f.pca).isNone then (false, s)
      else (true, (startReloc s n S r f (rebuiltHdr s S k p narrow setA r) bs 1 true).bump R.TPZ_CNT_RECONSTRUCTED)

/-- The content in the buffer of a cluster that is being relocated, and whether it was rebuilt (R151). -/
def relocContent (s : State) (disc pca : Nat) : Option (List Byte × Bool) :=
  (s.tpz.relocs.find? (fun x => x.disc == disc && x.pca == pca)).map (fun x => (x.bytes, x.rebuilt))

/-- The slot the sweep reads after one (R88, R147): the next arm, then the next slot, then the next layer; none where the written
frontier has been reached. -/
def sweepAfter (s : State) (n : Fin 8) (pca : Nat) : Option Nat :=
  let next := if pcaArm pca < 3 then some (mkPca (pcaLayer pca) (pcaArm pca + 1) 0 (pcaSlot pca))
    else (nextData (mkPca (pcaLayer pca) 0 0 (pcaSlot pca)))
  let far := beams.foldl (fun a m => max a (frontKey (((s.stn[n]).fronts[m]).getD 0))) 0
  next.bind (fun p => if frontKey p < far then some p else none)

/-- The sweep moves on from a slot, which it has swept or passed over (R147): a pass ends at the written frontier, and the next starts at
L0. At the end of a pass Garnet has the disc's newest checkpoint chain read back (R361). -/
def sweepMove (s : State) (n : Fin 8) (pca : Nat) (swept : Bool) : State :=
  let s := if swept && pcaArm pca = 0 then s.u (R.TPZ_SWEEP_POS_PCA n) pca else s
  let id := discId s n
  let s := s.tpzU (fun z => { z with results := z.results.filter (fun r => !(r.disc == id && r.pca == pca)) })
  match sweepAfter s n pca with
  | some p => s.tpzU (fun z => { z with sweepNext := vmod z.sweepNext n (fun _ => p) })
  | none =>
    let s := (s.tpzU (fun z => { z with sweepNext := vmod z.sweepNext n (fun _ => dataFirst) })).u (R.TPZ_SWEEP_PASS_PASSES n)
      ((s.g (R.TPZ_SWEEP_PASS_PASSES n) + 1) % 2 ^ 32)
    { s with grn := { s.grn with chains := vmod s.grn.chains n (fun c => { c with check := c.parts }) } }

/-- A MAP cluster of a disc's newest chain has been read back (R361): an unrecovered one calls for a new base. -/
def chainChecked (s : State) (n : Fin 8) (p : Nat) (good : Bool) : State :=
  let id := discId s n
  let s := s.tpzU (fun z => { z with results := z.results.filter (fun r => !(r.disc == id && r.pca == p)) })
  { s with grn := { s.grn with chains := vmod s.grn.chains n (fun c =>
      { c with check := c.check.filter (· != p), needBase := c.needBase || !good }) } }

/-- The sweep may run on a station (R147, R400). -/
def sweepRuns (s : State) (n : Fin 8) : Bool :=
  let sec := s.now / 1000000000
  let pace := s.g R.TPZ_SWEEP_CTRL_PACE
  s.on R.TPZ_SWEEP_CTRL_EN && stSt s n == stACTIVE && (s.stn[n]).task == .none && nothingQueued s n &&
    (s.cal[n]).run.isNone && !s.tpz.rebuilds.any (fun r => r.station == n.val) && (s.stn[n]).reads.isEmpty &&
    s.g R.HQE_STATUS_POWER != 2 &&
    (pace == 0 || s.tpz.sweepSec[n] != sec || s.tpz.sweepCount[n] < pace)

/-- One more cluster swept in the second under way (R147). -/
def sweepCounted (s : State) (n : Fin 8) : State :=
  let sec := s.now / 1000000000
  s.tpzU (fun z => { z with
    sweepCount := vmod z.sweepCount n (fun c => if z.sweepSec[n] = sec then c + 1 else 1)
    sweepSec := vmod z.sweepSec n (fun _ => sec) })

/-- SWEEP_CLUSTER (R147, R148, R150, R361): the sweep judges the next written cluster of a station, once it has been read back; between two
passes the MAP clusters of the newest checkpoint chain come first. A slot
that holds no mapped member of a stripe is passed over; an unrecovered cluster is rebuilt first. -/
def sweepCluster (n : Fin 8) (s : State) : State :=
  let pca := max dataFirst (s.tpz.sweepNext[n])
  let id := discId s n
  let far := beams.foldl (fun a m => max a (frontKey (((s.stn[n]).fronts[m]).getD 0))) 0
  if !sweepRuns s n then s
  else match (s.grn.chains[n]).check with
  | p :: _ =>
    match resultOf s id p with
    | none => s
    | some res => chainChecked (sweepCounted s n) n p res.content.isSome
  | [] =>
    if far ≤ frontKey pca then s
    else match (discIndex s id).bind (fun d => placedAt s d pca) with
    | none => sweepMove s n pca false
    | some (S, r, f) =>
      let (hit, s) := touchAll s (lineOf f.entry :: stripeLines s S [])
      if !hit then s
      else match resultOf s id pca, stripeGeom s S with
      | none, _ => s
      | some _, none => sweepMove s n pca false
      | some res, some (k, p, narrow, setA) =>
        let s := sweepCounted s n
        match res.content with
        | some (h, bs) =>
          if s.g R.TPZ_SWEEP_CTRL_RELOC_ROWS ≤ res.failedRows then sweepMove (startReloc s n S r f h bs 0 false) n pca true
          else sweepMove s n pca true
        | none =>
          if lostAlready s S r then sweepMove s n pca true
          else match rebuildMember s S k p narrow setA r with
            | .ok bs =>
              let s := s.bump R.TPZ_CNT_RECONSTRUCTED
              sweepMove (startReloc s n S r f (rebuiltHdr s S k p narrow setA r) bs 0 true) n pca true
            | .wait l => askReads s l
            | .away => sweepMove s n pca true
            | .lost => sweepMove (loseMember s S p r n) n pca true

def execSweepCluster (n : Fin 8) (s : State) : Host.Outcome State Fault Refusal := answer s (sweepCluster n)

/-- RELOCATION_COMPLETE (R149, R151, R342, R355): the verified new copy takes the map record. A relocation of data whose group has
been rolled back makes no change. The lookup passes through Onyx, and the change waits for room in the table (R344, R345). -/
def relocationComplete (disc pca : Nat) (s : State) : State :=
  match s.tpz.relocs.find? (fun x => x.disc == disc && x.pca == pca) with
  | none => s
  | some x =>
    match x.done with
    | none => s
    | some (st, newDisc, newPca) =>
      let finish := fun (s : State) => s.tpzU (fun z => { z with relocs := z.relocs.filter (fun y => !(y.disc == disc && y.pca == pca)) })
      match (discIndex s disc).bind (fun d => placedAt s d pca), stripeGeom s x.serial with
      | some (S, r, f), some _ =>
        let (hit, s) := touchAll s (lineOf f.entry :: stripeLines s S [])
        if !hit ∨ mapSize < s.grn.entries.length + 1 + b2n (discIndex s newDisc).isNone - b2n f.isMember then s
        else
        let s := finish s
        let s := if f.isMember then dropEntry s f.entry else s
        let (d, s) := ensureDisc s newDisc
        let s := addEntry s (.member ⟨true, r, st, d, layoutOf s S, serial48 S, newPca, f.time⟩)
        let s := recordFronts (s.tpzU (fun z => { z with results := z.results.filter (fun q => !(q.disc == disc && q.pca == pca)) }))
          (stnOf st)
        (s.bump R.TPZ_CNT_RELOCATED).log 0x202 noStation [pca, newPca, x.station + 16 * st, x.byRead]
      | _, _ => finish s

def execRelocationComplete (disc : Nat) (pca : Nat) (s : State) : Host.Outcome State Fault Refusal :=
  answer s (relocationComplete disc pca)

end Sys2Proof.Machine
end

