-- ==== Sys2Proof/Machine/StnOps.lean ====
section
/-!
DEFINITION. Shared operations of the station state machine (chapter "Station Lifecycle"): changes of state, faults, motions
toward a slot, recoveries, idling, waking, releasing, mounting, and the start of a calibration.
-/

namespace Sys2Proof.Machine

/-- A TABLE word (R161). -/
def tableWord (addr value : Nat) (atNext : Bool) : BitVec 40 :=
  BitVec.ofNat 40 (3 * 2 ^ 38 + b2n atNext * 2 ^ 37 + addr * 2 ^ 31 + value % 256)

/-- Entry a of the strategy table (R162): its register and the byte that holds it. -/
def tableEntry (s : State) (n a : Nat) : Nat :=
  if a < 20 then (s.rd (R.WRS_LEAD n (a / 4))).toNat / 256 ^ (a % 4) % 256
  else if a < 40 then (s.rd (R.WRS_TRAIL n ((a - 20) / 4))).toNat / 256 ^ (a % 4) % 256
  else if a < 45 then s.g (R.WRS_SHAPE_TTOP n (a - 40)) else s.g (R.WRS_SHAPE_TCOOL n (a - 45))

/-- The whole set of a beam is sent (R166): 50 table entries and five power levels. -/
def sendSet (s : State) (n : Fin 8) (m : Fin 4) : State :=
  if s.on (R.WRS_STATUS_LINK_ACTIVE n) then
    let v := beamView s n m
    sendPowers (s.each (List.range 50) (fun s a => linkPut s n m (tableWord a (tableEntry v n a) false))) n m false
  else s

/-- The station's pairs start to send, beginning with the whole active set (R166). The spec does not say what the word counter of a pair's SYNC
words holds then: it goes on counting (DESIGN CHOICE). (log entries 84, 87) -/
def linkOn (s : State) (n : Fin 8) : State :=
  if s.on (R.WRS_STATUS_LINK_ACTIVE n) then s
  else (s.u (R.WRS_STATUS_LINK_ACTIVE n) 1).each beams (fun s m => sendSet s n m)

/-- The station's pairs stop sending. -/
def linkOff (s : State) (n : Fin 8) : State :=
  (s.u (R.WRS_STATUS_LINK_ACTIVE n) 0).each beams (fun s m => s.beamU n m (fun b => { b with link := [] }))

/-- Bit n of CAL_STATUS.BUSY and PENDING (R311). -/
def refreshCal (s : State) : State :=
  s.us [(R.CAL_STATUS_BUSY, maskOf (stations.filter (fun n => (s.cal[n]).run.isSome))),
    (R.CAL_STATUS_PENDING, maskOf (stations.filter (fun n => !(s.cal[n]).pend.isEmpty)))]

/-- The temperature slot whose nominal temperature lies nearest the present one, ties to the lower (R301). -/
def nearSlot (s : State) (n : Nat) (tempset : Word) : Nat :=
  let base := toSigned 8 (getF tempset R.CAL_TEMPSET_BASE)
  let step : Int := getF tempset R.CAL_TEMPSET_STEP
  let far := fun (t : Nat) => ((base + t * step) * 64 - pickupTemp s n).natAbs
  (List.range 8).foldl (fun best t => if far t < far best then t else best) 0

/-- CAL_DONE (R311, R492). -/
def logCalDone (s : State) (n : Fin 8) (layer result slot : Nat) : State := s.log 0x10C n [layer, result, slot]

/-- TEST clusters that are not being written are given up: their slots stay blank, and the next ones take them (R67, R309). -/
def dropTests (s : State) (n : Fin 8) : State :=
  let test := fun (j : Job) => j.kind == .test
  s.wrsU n (fun w => { w with
    beams := w.beams.map (fun b => if (b.enc.map Enc.job).any test then { b with enc := none } else b)
    queue := w.queue.filter (fun j => !test j) })

/-- The idle timers did not run while a calibration did (R308). -/
def calIdle (s : State) (n : Fin 8) (r : CalRun) : State :=
  s.stnU n (fun x => { x with idleFrom := min s.now (x.idleFrom + (s.now - r.began)) })

/-- A calibration that ends early or starts again leaves the grid: the set-points and the powers loaded before it are in force again
(DEDUCED: nothing of it is stored, and its next run is about the loaded values, R305, R309). (log entry 32) -/
def calUndo (s : State) (n : Fin 8) (r : CalRun) : State :=
  let s := if 2 ≤ r.step ∧ r.step ≤ 18 then writeOffset (writeOffset (writeOffset s n tySA r.sa) n tyFOCUS r.focus) n tyTILT r.tilt else s
  if 15 ≤ r.step ∧ r.step ≤ 18 then restorePowers s n else s

/-- A calibration writes its power ladder (R305 step 4). -/
def ladderRuns (r : CalRun) : Bool := decide (15 ≤ r.step ∧ r.step ≤ 18)

/-- The running calibration is abandoned (R309): nothing is stored. One whose results are stored, on its way back to the frontier (R305 step 6), only
ends. -/
def calAbandon (s : State) (n : Fin 8) : State :=
  match (s.cal[n]).run with
  | none => s
  | some r =>
    let s := calIdle (dropTests (s.calU n (fun c => { c with run := none })) n) n r
    if r.step = 19 then refreshCal s
    else
    let s := calUndo s n r
    logCalDone (refreshCal (s.bump R.CAL_CNT_ABANDONED)) n r.layer 4 (nearSlot s n r.tempset)

/-- A calibration is raised (R307, R309): a trigger for the layer being calibrated merges with it, and one for a layer that is
pending merges with that. -/
def calRaise (s : State) (n : Fin 8) (layer : Nat) (now : Bool) : State :=
  if ((s.cal[n]).run.map CalRun.layer) == some layer then s
  else
    refreshCal (s.calU n (fun c => { c with
      pend := if c.pend.any (fun p => p.layer == layer)
        then c.pend.map (fun p => if p.layer = layer then { p with now := p.now || now } else p)
        else c.pend ++ [⟨layer, s.now, now⟩] }))

/-- What was read back of a disc is given up with the station that held it (R146). -/
def dropResults (s : State) (n : Fin 8) : State :=
  let id := discId s n
  s.tpzU (fun z => { z with results := z.results.filter (fun r => r.disc != id) })

/-- Change the state of a station (R274, R275): STATION_STATE is logged, availability follows, and clusters in flight to a
station that is no longer available are lost to it. -/
def setSt (s : State) (n : Fin 8) (new : Nat) : State :=
  let old := stSt s n
  if old = new then s
  else
    let was := avail s n
    let s := (s.u (R.STN_STATUS_STATE n) new).log 0x101 n
      [old, new, if new = stFAULTED then s.g (R.STN_STATUS_LAST_FAULT n) else 0]
    let s := if new = stACTIVE then s else calAbandon s n
    let s := refreshAvail s
    let s := if was && !avail s n then loseStation s n (new != stRELEASING) else s
    let s := if mayRead s n then s else dropResults s n
    s.stnU n (fun x => { x with idleFrom := s.now })

/-- Bounds of a zone in nm of radius (R64). -/
def zoneEdges (zone : Nat) : Nat × Nat :=
  if zone = 0 then (24000000, 58000000) else if zone = 1 then (22000000, 23800000)
  else if zone = 2 then (23800000, 24000000) else (58000000, 58500000)

/-- The radius of a slot's start, in nm (R61, R63, R64): after the arc of its slots along the spiral. (log entry 27) -/
def radiusOf (pca : Nat) : Nat :=
  let (lo, hi) := zoneEdges (pcaZone pca)
  let arc := 800 * pcaSlot pca * 40960000 * 2 ^ 60 / piQ60.toNat
  if pcaLayer pca % 2 = 0 then
    let r0 := lo + 200 * pcaArm pca
    isqrt (r0 * r0 + arc)
  else
    let r0 := hi - 200 * (3 - pcaArm pca)
    isqrt (r0 * r0 - arc)

/-- The sled position of a radius, in table steps (R247, R248). (log entry 27) -/
def stepsOf (s : State) (n : Nat) (r : Nat) : Int × State :=
  s.nearest (((r : Int) - 1000 * s.g (R.SLD_GEOM_HOME_RADIUS n)) * 32) 1875

/-- The turns from one slot to another, outward positive: 0.80 µm each (R200). -/
def turnsTo (from' to' : Nat) : Int := ((radiusOf to' : Int) - radiusOf from' + 400) / 800

/-- The turns by which the spots must jump from one slot to have another come under them next, outward positive (R88, R200): none where it lies
ahead on the arms by less than some turn and a half. -/
def seekTurns (from' to' : Nat) : Int :=
  let dir : Int := if pcaLayer to' % 2 = 0 then 1 else -1
  let t := turnsTo from' to' * dir
  let behind := if pcaZone from' = pcaZone to' then decide (pcaSlot to' ≤ pcaSlot from') else decide (t < 0)
  if behind then (min t 0 - 1) * dir else if 1 < t then (t - 1) * dir else 0

/-- Move the sled, which disengages first (R252). -/
def sledTo (s : State) (n : Fin 8) (t : Int) : State :=
  let s := if slSt s n = slGEARED then disengage s n else s
  if slSt s n = slIDLE ∧ targetOk s n t then startMove s n t else slRefuse s n

/-- Move the sled to the radius of a slot. -/
def sledToSlot (s : State) (n : Fin 8) (pca : Nat) : State :=
  let (t, s) := stepsOf s n (radiusOf pca)
  sledTo s n t

/-- The slot at which the station works: the frontier that comes first among the writing beams' arms, else among all arms. -/
def workSlot (s : State) (n : Fin 8) : Option Nat :=
  let l := if (writingBeams s n).isEmpty then beams else writingBeams s n
  (l.filterMap (fun m => (s.stn[n]).fronts[m])).foldl (fun best p => match best with
    | none => some p
    | some q => if frontKey p < frontKey q then some p else some q) none

/-- The working layer: that of the frontier. -/
def workLayer (s : State) (n : Fin 8) : Nat :=
  match workSlot s n with
  | some p => pcaLayer p
  | none => s.g (R.BRL_STN_SEQ_STATUS_LAYER n)

/-- The map zone slot that the station's next checkpoint part goes to (R360), where that is what it writes next. -/
def mapGoal (s : State) (n : Fin 8) : Option Nat :=
  let held := (beams.filterMap (fun m => (s.beam n m).enc)).find? (fun e => e.job.kind == .mapPart)
  match held with
  | some e => some e.pca
  | none =>
    match (s.wrs[n]).queue with
    | j :: _ => if j.kind = .mapPart ∧ beams.all (fun m => (s.beam n m).enc.isNone) then
        (writingBeams s n).findSome? (mapSlot s n) else none
    | [] => none

/-- Where the station goes to write: the map zone for a checkpoint part (R360), else its frontier. -/
def goalSlot (s : State) (n : Fin 8) : Option Nat :=
  match mapGoal s n with
  | some p => some p
  | none => workSlot s n

/-- The layer of that slot. -/
def goalLayer (s : State) (n : Fin 8) : Nat :=
  match goalSlot s n with
  | some p => pcaLayer p
  | none => s.g (R.BRL_STN_SEQ_STATUS_LAYER n)

/-- The station waits for an address from now on (R71): addresses accepted before do not count. -/
def awaitAddress (s : State) (n : Fin 8) : State :=
  s.stnU n (fun x => { x with
    adip := Vector.replicate 4 ⟨none, [], none⟩
    since := s.now })

/-- The address accepted on beam B0 since then. -/
def acceptedB0 (s : State) (n : Fin 8) : Option Nat := ((s.stn[n]).adip[(0 : Fin 4)]).last

/-- A sequence runs, or waits. -/
def seqBusy (s : State) (n : Nat) : Bool := seqSt s n != sqIDLE && seqSt s n != sqSTOPPED

/-- Focus and tracking hold lock with no sequence running. -/
def onTrack (s : State) (n : Nat) : Bool :=
  seqSt s n == sqIDLE && s.on (R.BRL_STN_SEQ_STATUS_FLOCK n) && s.on (R.BRL_STN_SEQ_STATUS_TLOCK n)

/-- A FOCUS_ACQ of the station itself: FAILED of an earlier sequence is cleared first (DESIGN CHOICE, so that the next failure can
be told). (log entry 24) -/
def acquire (s : State) (n : Fin 8) : State := seqCommand (s.u (R.BRL_STN_SEQ_STATUS_FAILED n) 0) n 1 0

/-- SET_LAYER where the address names another layer than the sequencer (R278 step 3). -/
def identify (s : State) (n : Fin 8) (pca : Nat) : State :=
  if pcaLayer pca = s.g (R.BRL_STN_SEQ_STATUS_LAYER n) then s else seqCommand s n 6 (pcaLayer pca)

/-- A jump to a layer, where the focus is elsewhere. -/
def toLayer (s : State) (n : Fin 8) (l : Nat) : State :=
  if l = s.g (R.BRL_STN_SEQ_STATUS_LAYER n) then s else seqCommand s n 3 l

/-- Enter a step of the station's task. -/
def stnStep (s : State) (n : Fin 8) (k : Nat) : State := s.stnU n (fun x => { x with step := k, since := s.now })

/-- Begin a task at a step. -/
def stnTask (s : State) (n : Fin 8) (t : StnTask) (k : Nat) : State := stnStep (s.stnU n (fun x => { x with task := t })) n k

/-- The test slot that a calibration goes to (R305 step 1). -/
def calSlot (s : State) (n : Fin 8) (r : CalRun) : Nat :=
  mkPca r.layer 0 (if r.outer then 3 else 1) ((smGet (s.cal[n]).tests (8 * r.layer + 4 * b2n r.outer)).getD 0)

/-- A calibration moves to its test slot (R305 step 1): its layer, then the sled. -/
def calMove (s : State) (n : Fin 8) : State :=
  match (s.cal[n]).run with
  | none => s
  | some r => sledToSlot (toLayer s n r.layer) n (calSlot s n r)

/-- A task ends; a calibration that was disturbed starts again from its move (R309). -/
def taskDone (s : State) (n : Fin 8) : State :=
  let wake := (s.stn[n]).task == .wake
  let s := s.stnU n (fun x => { x with task := .none, step := 0, calAfter := false })
  let s := if wake then setSt s n stACTIVE else s
  if ((s.cal[n]).run.map CalRun.step) == some 0 then calMove s n else s

/-- A layer has a usable set within DELTA_T of the present temperature (R303, R307); DELTA_T in 0.1 °C, temperatures in 1/64. -/
def calFresh (s : State) (n layer : Nat) : Bool :=
  (usableSets s n layer).any (fun t => decide (10 * (s.gi (R.CAL_SET5_TEMP n layer t) - pickupTemp s n).natAbs ≤
    64 * s.g R.CAL_TRIG_DELTA_T))

/-- The temperature of the load just made of the working layer (R303, R307): the present one where two sets bracket it, else the recorded one of
the set that served. -/
def rememberLoad (s : State) (n : Fin 8) (layer : Nat) : State :=
  let t := interpolate s n layer (fun k => s.gi (R.CAL_SET5_TEMP n layer k))
  s.calU n (fun c => match t, (workSlot s n).all (fun p => pcaLayer p == layer) with
    | some v, true => { c with loaded := some v.floor }
    | _, _ => c)

/-- CAL loads a layer (R304): the offsets of focus, tilt and SA, the powers, the taps; the temperature is remembered (R307). -/
def calLoad (s : State) (n : Fin 8) (layer : Nat) : State :=
  let (f, s) := focusOf s n layer
  let (t, s) := tiltOf s n layer
  let (a, s) := saOf s n layer
  let s := writeOffset (writeOffset (writeOffset s n tyFOCUS f) n tyTILT t) n tySA a
  let s := loadTaps (loadPowers s n layer) n layer
  rememberLoad s n layer

/-- Gearing engages where the sled stands, with the ratio of R260 for a layer (R252, R266, R305). (log entry 27) -/
def engageAt (s : State) (n : Fin 8) (layer : Nat) : State :=
  let even := decide (layer % 2 = 0)
  if slSt s n = slIDLE ∧ s.on (R.SPN_STATUS_ANGLE_VALID n) ∧ !blocked s n even then
    engage (s.u (R.SLD_GEAR_RATIO_RATIO n) (if even then 0x0DA740DA else 0xF258BF26)) n
  else s

/-- The sled is where an address says that the spots are (R252 SET_POS, R278, R287). -/
def setPosAt (s : State) (n : Fin 8) (pca : Nat) : State :=
  let (t, s) := stepsOf s n (radiusOf pca)
  slEnter ((setPosition s n (t : Int)).u (R.SLD_STATUS_REFERENCED n) 1) n slIDLE

/-- Back inside the limits after a limit stop (R287): to the place where the station writes, or to the nearest position inside. -/
def backInside (s : State) (n : Fin 8) : State :=
  let inside := fun (s : State) (t : Int) => sledTo s n (max (softMin s n) (min (softMax s n) t))
  match goalSlot s n with
  | some w => let (t, s) := stepsOf s n (radiusOf w); inside s t
  | none => inside s (slPos s n).floor

/-- The new SPEED is written at the boundary of every beam (R286 steps 1 and 2). -/
def speedWritten (s : State) (n : Fin 8) : State :=
  if s.g (R.WRS_STATUS_WRITING n) ≠ 0 then s
  else
    let s := if slSt s n = slGEARED then disengage s n else s
    (writeSpeedSel s n (s.g (R.STN_CFG_SPEED n))).stnU n (fun x => { x with
      speedDue := false, step := if x.step = 12 then 13 else x.step })

/-- One step of waking, recovering or changing speed, if what it waits for has come (R285, R286, R287). Steps: 0 spin and
acquire focus; 1 acquisition; 2 address and layer; 3 layer jump; 4 address and seek; 5 gearing; 6 track jump; 7 sled; 8
calibration; 9 tracking lock; 10 address after a limit stop; 11 address after a new epoch; 12 cluster boundary; 13 speed. A change of
speed that a disturbance meets goes on through the recovery (R286). -/
def stnAdvance (s : State) (n : Fin 8) : State :=
  let x := s.stn[n]
  if x.task ≠ .wake ∧ x.task ≠ .recover ∧ x.task ≠ .speed then s
  else if x.task = .speed ∧ x.speedDue then speedWritten s n
  else if x.task = .speed ∧ 1 < x.step ∧ !inReg s n then s
  else if x.step = 0 then
    if inReg s n ∧ !seqBusy s n then stnStep (acquire s n) n 1 else s
  else if x.step = 1 then
    if onTrack s n then awaitAddress (stnStep s n 2) n
    else if seqSt s n = sqIDLE ∧ s.on (R.BRL_STN_SEQ_STATUS_FAILED n) then stnStep s n 0 else s
  else if x.step = 2 then
    match acceptedB0 s n with
    | none => s
    | some p => stnStep (toLayer (identify s n p) n (goalLayer s n)) n 3
  else if x.step = 3 then
    if onTrack s n then awaitAddress (stnStep s n 4) n else s
  else if x.step = 4 then
    match acceptedB0 s n, goalSlot s n with
    | none, _ => s
    | some _, none => stnStep s n 5
    | some p, some w =>
      let t := seekTurns p w
      if t = 0 then stnStep s n 5
      else if -64 ≤ t ∧ t ≤ 64 ∧ onTrack s n then stnStep (seqCommand s n 2 t) n 6
      else
        let (t, s) := stepsOf s n (radiusOf w)
        if softMin s n ≤ t ∧ t ≤ softMax s n then stnStep (sledTo s n t) n 7 else stnStep s n 5
  else if x.step = 5 then
    let s := engageAt s n (goalLayer s n)
    if slSt s n ≠ slGEARED then s
    else
      let s := s.whenB (x.task == .speed) (fun s => calLoad s n (workLayer s n))
      if x.calAfter then stnStep (calRaise s n (workLayer s n) true) n 8
      else if x.task ≠ .recover ∧ !calFresh s n (goalLayer s n) then stnStep (calRaise s n (goalLayer s n) true) n 8
      else taskDone s n
  else if x.step = 6 then if onTrack s n then awaitAddress (stnStep s n 4) n else s
  else if x.step = 7 then
    if slSt s n = slIDLE ∧ onTrack s n then awaitAddress (stnStep s n 4) n else s
  else if x.step = 8 then
    if (s.cal[n]).run.isNone ∧ !(s.cal[n]).pend.any (fun p => p.now) then taskDone s n else s
  else if x.step = 9 then if onTrack s n then awaitAddress (stnStep s n 4) n else s
  else if x.step = 10 then
    match acceptedB0 s n with
    | none => s
    | some p =>
      if slSt s n = slIDLE ∨ slSt s n = slUNREF then stnStep (backInside (setPosAt s n p) n) n 7 else s
  else if x.step = 11 then
    match acceptedB0 s n with
    | none => s
    | some _ => stnStep (if slSt s n = slGEARED then disengage s n else s) n 5
  else if x.step = 13 then if inReg s n ∧ onTrack s n then awaitAddress (stnStep s n 4) n else s
  else s

/-- The task advances as far as it can at once. -/
def stnRun (s : State) (n : Fin 8) : State := stnAdvance (stnAdvance (stnAdvance (stnAdvance s n) n) n) n

/-- The station goes where it writes next, when the other layer or another part of it is called for (R88, R282, R360): a move of the
kind that ends a recovery, which counts as none. -/
def goPlace (s : State) (n : Fin 8) : State :=
  let away : Bool := match acceptedB0 s n, goalSlot s n with
    | some p, some w => pcaLayer w != s.g (R.BRL_STN_SEQ_STATUS_LAYER n) || seekTurns p w != 0
    | _, _ => false
  if stSt s n = stACTIVE ∧ (s.stn[n]).task = .none ∧ s.g (R.WRS_STATUS_WRITING n) = 0 ∧ (s.cal[n]).run.isNone ∧ onTrack s n ∧ away then
    let s := if slSt s n = slGEARED then disengage s n else s
    stnRun (stnTask (toLayer s n (goalLayer s n)) n .recover 3) n
  else s

/-- The sled's bridge goes off once the spindle of a faulted station has stopped (R288). -/
def faultedRest (s : State) (n : Fin 8) : State :=
  if stSt s n = stFAULTED ∧ spSt s n = spSTOPPED ∧ slSt s n ≠ slFAULT ∧ slSt s n ≠ slOFF then bridgeOff s n slOFF else s

/-- The rotation position of the member of a stripe that the map finds through entry i (R341). -/
def rotAt (s : State) (S k p : Nat) (narrow : Bool) (setA i : Nat) : Option Nat :=
  (List.range (k + p)).find? (fun r => ((findMember s S r (placeStation S r narrow setA)).map Found.entry) == some i)

/-- The clusters of a retired disc count as absent (R290): the stripes concerned are queued for rebuild onto the station from
which the disc was removed, those still in the buffer too, and the RUN and MEMBER entries of the disc are freed (R343). A RUN's member that a
MEMBER entry holds elsewhere (R341) is not on the disc. (log entry 83) -/
def retireDisc (s : State) (n : Fin 8) (id : Nat) : State :=
  let s := s.tpzU (fun z => { z with retired := if z.retired.contains id then z.retired else z.retired ++ [id] })
  let s := s.each s.tpz.stripes (fun s t => s.each (t.mems.filter (fun m => m.st == .verified && m.disc == id)) (fun s m =>
    queueRebuild (memU s t.serial m.rot (fun x => { x with st := .absent }))
      ⟨t.serial, m.rot, n.val, t.p, t.k, t.narrow, t.setA, false, some m.time⟩))
  match discIndex s id with
  | none => s
  | some d =>
    let put := fun (s : State) (S i : Nat) =>
      match stripeGeom s S with
      | none => s
      | some (k, p, narrow, setA) =>
        match rotAt s S k p narrow setA i with
        | none => s
        | some r => queueRebuild s ⟨S, r, n.val, p, k, narrow, setA, false,
          (findMember s S r (placeStation S r narrow setA)).map (fun f => f.time)⟩
    let s := s.each ((members s).filter (fun q => q.2.disc == d)) (fun s q => put s q.2.serial q.1)
    let s := s.each ((runs s).filter (fun q => q.2.disc == d)) (fun s q =>
      s.each (List.range q.2.count) (fun s i => put s (q.2.serial0 + i) q.1))
    s.each (((members s).filter (fun q => q.2.disc == d)).map Prod.fst ++ ((runs s).filter (fun q => q.2.disc == d)).map Prod.fst)
      dropEntry

/-- What the station keeps of a mount goes (R274): no disc is mounted, no read waits for one, and the sweep starts anew with the next disc
(R147). -/
def unmount (s : State) (n : Fin 8) : State :=
  let s := (s.us [(R.STN_STATUS_DISC_KIND n, 0), (R.STN_STATUS_MOUNT_PHASE n, 0)]).u64 (R.STN_DISC_ID_LO n) 0
  let s := s.tpzU (fun z => { z with sweepNext := vmod z.sweepNext n (fun _ => 0) })
  refreshWork (s.stnU n (fun x => { x with
    fronts := Vector.replicate 4 none
    task := .none, step := 0, reads := [], research := false })) n

/-- The station becomes FAULTED (R288); its laser link goes on, with IDLE words. The mode of a release that it ends stands (R295): its disc is retired
now. A disc that was taken out is mounted no more (R281). (log entry 83) -/
def enterFaulted (s : State) (n : Fin 8) (cause : Nat) : State :=
  let st := stSt s n
  if !(st == stLOADING || st == stMOUNTING || st == stACTIVE || st == stIDLE || st == stPARKED || st == stRELEASING) then s
  else
    let id := discId s n
    let s := if st = stRELEASING ∧ (s.stn[n]).retire ∧ id ≠ 0 then retireDisc s n id else s
    let s := seqStopNow ((s.u (R.STN_STATUS_LAST_FAULT n) cause).bump (R.STN_CNT_FAULTS n)) n
    let s := (setSt s n stFAULTED).u (R.STN_STATUS_MOUNT_PHASE n) 0
    let s := if (s.stn[n]).shedTold then s else s.log 0x102 n [cause]
    let s := s.stnU n (fun x => { x with task := .none, step := 0, shedTold := false, toOffline := false })
    let s := s.whenB (cause == 6) (fun s => unmount s n)
    faultedRest (writeSpeedSel s n 0) n

/-- A step of the mount has failed (R278). The spec gives no LAST_FAULT of its own to such a failure: it is one of the causes of
R288, which a free value picks. (log entry 16) -/
def mountFails (s : State) (n : Fin 8) : State := enterFaulted s.tick n (1 + s.freeVal % 7)

/-- The station recovers from disturbances (R287, R309): while it is ACTIVE, and while its mount calibrates. -/
def recovers (s : State) (n : Nat) : Bool :=
  stSt s n == stACTIVE || (stSt s n == stMOUNTING && s.g (R.STN_STATUS_MOUNT_PHASE n) == 7)

/-- A disturbance of a station (R287): it recovers from step k, or is FAULTED once RECOVER_MAX recoveries lie in the window. A calibration
that runs starts again once; a second disturbance abandons it (R309). A mount that loses focus in an earlier step has failed (R278). -/
def disturbance (s : State) (n : Fin 8) (k : Nat) : State :=
  if !recovers s n then
    if (s.stn[n]).task = .wake then stnStep s n 0
    else if stSt s n = stMOUNTING ∧ k = 0 ∧ (s.stn[n]).task = .none then mountFails s n else s
  else
    let recent := (s.stn[n]).recoveries.filter (fun t => decide (s.now < t + s.g (R.STN_CFG_RECOVER_WINDOW n) * 1000000000))
    if s.g (R.STN_CFG_RECOVER_MAX n) ≤ recent.length then enterFaulted s n 5
    else
      let s := (s.bump (R.STN_CNT_RECOVERIES n)).stnU n (fun x => { x with recoveries := recent ++ [s.now] })
      let s := match (s.cal[n]).run with
        | none => s
        | some r => if r.restarted ∨ r.step = 19 then calAbandon s n
          else
            calUndo (dropTests (s.calU n (fun c => { c with run := some { r with restarted := true, step := 0, figs := [], edges := 0 } })) n) n r
      let s := if k = 10 ∨ k = 11 then awaitAddress s n else s
      stnRun (stnTask s n (if (s.stn[n]).task = .speed then .speed else .recover) k) n

/-- Faults of the spindle, of the sled and of the beams reach the station (R288). -/
def watchFaults (s : State) (n : Fin 8) : State :=
  if spSt s n = spFAULT then enterFaulted s n 1
  else if slSt s n = slFAULT then enterFaulted s n 2
  else if s.g (R.WRS_STATUS_SUSPENDED n) = 15 then enterFaulted s n 3 else s

/-- SAFE (R294): only in OFFLINE, with the bridges off and the spindle below 60 rpm. -/
def refreshSafe (s : State) (n : Fin 8) : State :=
  s.u (R.STN_STATUS_SAFE n) (b2n (stSt s n == stOFFLINE && spSt s n == spSTOPPED && (slSt s n == slOFF || slSt s n == slFAULT) &&
    (s.stn[n]).slow))

/-- The spindle of a station that is being released has stopped (R276, R290): EMPTY, or OFFLINE when ordered. -/
def releaseDone (s : State) (n : Fin 8) : State :=
  let id := discId s n
  let s := if (s.stn[n]).retire ∧ id ≠ 0 then retireDisc s n id else s
  let s := unmount s n
  if (s.stn[n]).toOffline then
    let s := setSt s n stOFFLINE
    refreshSafe (linkOff (if slSt s n = slFAULT then s else bridgeOff s n slOFF) n) n
  else setSt s n stEMPTY

/-- Every cluster in progress has ended (R291): gearing ends, the loops open, the spindle brakes. -/
def releaseNow (s : State) (n : Fin 8) : State :=
  let s := s.stnU n (fun x => { x with task := .none })
  let s := if slSt s n = slGEARED then disengage s n else s
  let s := writeSpeedSel (seqStopNow s n) n 0
  if spSt s n = spSTOPPED then releaseDone s n else s

/-- The disc is released (R290, R291). -/
def startRelease (s : State) (n : Fin 8) (retire offline : Bool) : State :=
  let s := (setSt s n stRELEASING).stnU n (fun x => { x with retire := retire, toOffline := offline })
  if s.g (R.WRS_STATUS_WRITING n) = 0 then releaseNow s n else stnTask s n .toRelease 0

/-- IDLE_SPIN is entered (R284): STOP, and the sled holds its position. -/
def idleNow (s : State) (n : Fin 8) : State :=
  let s := s.stnU n (fun x => { x with task := .none })
  let s := if slSt s n = slGEARED then disengage s n else s
  let v := s.g (R.STN_CFG_SPEED n)
  let s := if s.g (R.SPN_CTRL_SPEED_SEL n) = v then s else writeSpeedSel s n v
  setSt (seqStopNow s n) n stIDLE

/-- The station goes toward IDLE_SPIN, at the cluster boundary of every beam (R284). -/
def goIdle (s : State) (n : Fin 8) : State :=
  if s.g (R.WRS_STATUS_WRITING n) = 0 then idleNow s n else stnTask s n .toIdle 0

/-- The station goes toward PARKED (R284): a wake that was under way ends, with the focus open (R274). -/
def goPark (s : State) (n : Fin 8) : State :=
  let s := if (s.stn[n]).task = .wake then
      let s := if slSt s n = slGEARED then disengage s n else s
      seqStopNow s n
    else s
  let s := writeSpeedSel (stnTask s n .toPark 0) n 0
  if spSt s n = spSTOPPED then setSt (s.stnU n (fun x => { x with task := .none })) n stPARKED else s

/-- An idle station is woken (R285): focus acquisition, and first a spin-up where the spindle brakes or is stopped. -/
def wake (s : State) (n : Fin 8) : State :=
  let st := stSt s n
  if !(st == stIDLE || st == stPARKED) || (s.stn[n]).task == .wake then s
  else
    let parked := decide (st = stPARKED ∨ s.g (R.SPN_CTRL_SPEED_SEL n) = 0)
    let s := (stnTask (s.bump (R.STN_CNT_WAKES n)) n .wake 0).stnU n (fun x => { x with calAfter := parked })
    stnRun (if parked then writeSpeedSel s n (s.g (R.STN_CFG_SPEED n)) else s) n

/-- SPEED changes at an apply (R286): a recovery under way goes on as part of the change. -/
def stnSpeedChange (s : State) (n : Fin 8) : State :=
  let t := (s.stn[n]).task
  if stSt s n = stACTIVE then
    let s := s.stnU n (fun x => { x with speedDue := true })
    if t = .none then stnRun (stnTask s n .speed 12) n
    else if t = .recover then stnRun (s.stnU n (fun x => { x with task := .speed })) n else stnRun s n
  else if stSt s n = stIDLE ∧ (s.stn[n]).task ≠ .toPark then writeSpeedSel s n (s.g (R.STN_CFG_SPEED n))
  else s

/-- The pickup image is read (R300). (log entry 28) -/
def pickupImage (s : State) (n : Fin 8) (img : List Byte) : State :=
  let part := fun (a k : Nat) => numBE ((img.drop a).take k)
  let ok := decide (img.length = 32 ∧ part 0 4 = 0x4643414C ∧ part 28 4 = crc32c (img.take 28))
  if ok then
    let s := s.us [(R.CAL_TEMP_IMAGE_BAD n, 0)]
    let s := (s.uBoth (R.SLD_GEOM_HOME_RADIUS n) (part 12 2)).uBoth (R.WRS_TIMING_TRAIL n) (part 14 2)
    let other : Bool := match (s.cal[n]).serial with
      | some q => decide (q ≠ part 4 8)
      | none => false
    let s := s.whenB other (fun s => s.each (List.range 16) (fun s l => s.each (List.range 8) (fun s t => s.u (R.CAL_SET0_VALID n l t) 0)))
    s.calU n (fun c => { c with
      serial := some (part 4 8), saK := some (toSigned 24 (part 16 4 % 2 ^ 24)), saD0 := some (part 20 2) })
  else (s.u (R.CAL_TEMP_IMAGE_BAD n) 1).calU n (fun c => { c with saK := none, saD0 := none })

/-- A sled move of a mount (R278): one that the sled does not take is a failure of the step. A sled that still moves takes it later. -/
def mountMove (s : State) (n : Fin 8) (t : Int) : State :=
  if slSt s n = slIDLE ∨ slSt s n = slGEARED then
    let u := sledTo s n t
    if slSt u n = slMOVING then u else mountFails u n
  else s

/-- The sled is referenced and moves to MOUNT_POS, or is homed (R278 step 1, R279). -/
def mountSled (s : State) (n : Fin 8) : State :=
  let s := if slSt s n = slOFF then slCommand s n 10 false else s
  if s.on (R.SLD_STATUS_REFERENCED n) then mountMove s n (s.g (R.STN_MOUNT_MOUNT_POS n) : Int)
  else if s.on (R.STN_CFG_REF_MODE n) ∧ !(s.stn[n]).homed then
    (slCommand s n 4 false).stnU n (fun x => { x with homed := true })
  else s

/-- LOADING begins (R278 step 1). Until a layer's record is read its depth is the nominal one (R299). -/
def startLoading (s : State) (n : Fin 8) (img : List Byte) : State :=
  let s := pickupImage (linkOn ((setSt (unmount s n) n stLOADING).u (R.STN_STATUS_MOUNT_PHASE n) 1) n) n img
  let s := s.stnU n (fun x => { x with homed := false, tryLayer := 15, layersRead := 0, infoGood := 0#16 })
  let s := s.calU n (fun c => { c with depth := Vector.ofFn (fun l => nominalDepth l.val), power := Vector.replicate 16 0 })
  let s := watchFaults s n
  if stSt s n ≠ stLOADING then s
  else
    let s := mountSled s n
    if stSt s n = stLOADING ∧ s.g (R.SPN_CTRL_SPEED_SEL n) = 0 then writeSpeedSel s n (s.g (R.STN_CFG_SPEED n)) else s

/-- The disc is not used (R276, R281): REJECTED once the spindle has stopped. -/
def rejectDisc (s : State) (n : Fin 8) (kind : Nat) : State :=
  let s := stnTask (s.u (R.STN_STATUS_DISC_KIND n) kind) n .toReject 0
  let s := writeSpeedSel (seqStopNow s n) n 0
  if spSt s n = spSTOPPED then setSt ((s.u (R.STN_STATUS_MOUNT_PHASE n) 0).stnU n (fun x => { x with task := .none })) n stREJECTED
  else s

/-- The values that a calibration starts from are those loaded (R305): the offsets and the power of each beam. -/
def calLoaded (s : State) (n : Fin 8) (r : CalRun) : CalRun :=
  let off := fun (t : Nat) => match slotFor s n t with
    | some k => s.gi (R.BRL_SLOT_OFFSET_OFFSET k)
    | none => 0
  { r with
    edges := 0
    focus := off tyFOCUS, tilt := off tyTILT, sa := off tySA
    newFocus := off tyFOCUS, newTilt := off tyTILT, newSa := off tySA
    pw := Vector.ofFn (fun m => s.g (R.WRS_PW_PW n m.val)) }

/-- A calibration begins (R305 step 1, R306): in the zone nearer the sled, the other one, or not at all; the layer then keeps the values of R303. -/
def calStart (s : State) (n : Fin 8) (p : CalPend) : State :=
  let s := refreshCal (s.calU n (fun c => { c with pend := c.pend.filter (fun q => q.layer != p.layer) }))
  let room := fun (outer : Bool) => (writingBeams s n).all (fun m =>
    (smGet (s.cal[n]).tests (8 * p.layer + 4 * b2n outer + m.val)).getD 0 + 5 ≤ zoneSlots (if outer then 3 else 1))
  let radius := (1000 * s.g (R.SLD_GEOM_HOME_RADIUS n) : Int) * 32 + (slPos s n).floor * 1875
  let near := decide (41000000 * 32 ≤ radius)
  let outer := if room near then near else !near
  if !room near && !room (!near) then
    logCalDone (s.whenB (p.layer == workLayer s n) (fun s => calLoad s n p.layer)) n p.layer 3 (nearSlot s n (s.rd R.CAL_TEMPSET))
  else
    let beamsNow := (writingBeams s n).foldl (fun a m => a + 2 ^ m.val) 0
    let r := calLoaded s n ⟨p.layer, outer, 0, false, s.rd R.CAL_GRID, s.rd R.CAL_TEMPSET, 0, 0, 0, Vector.replicate 4 0, 0, 0, 0, [],
      beamsNow, 0, s.now⟩
    calMove (recallAll (refreshCal (s.calU n (fun c => { c with run := some r }))) n) n

/-- A pending calibration may start now (R307, R308): one to run at once on a station that mounts, wakes or is ACTIVE, between
clusters; a deferred one on an ACTIVE station without work. -/
def calReady (s : State) (n : Fin 8) : Option CalPend :=
  let x := s.stn[n]
  let here := (stSt s n == stACTIVE && (x.task == .none || (x.task == .speed && x.step == 8))) ||
    (stSt s n == stMOUNTING && s.g (R.STN_STATUS_MOUNT_PHASE n) == 7) || (x.task == .wake && x.step == 8)
  if (s.cal[n]).run.isSome ∨ !here ∨ s.g (R.WRS_STATUS_WRITING n) ≠ 0 ∨ !onTrack s n ∨ !(slSt s n == slIDLE || slSt s n == slGEARED) then none
  else match (s.cal[n]).pend.find? (fun p => p.now) with
    | some p => some p
    | none => if stSt s n = stACTIVE ∧ !hasWork s n then (s.cal[n]).pend.head? else none

/-- What waits for the cluster boundary of every beam goes on (R284, R286, R291, R308). -/
def stnBoundary (s : State) (n : Fin 8) : State :=
  if s.g (R.WRS_STATUS_WRITING n) ≠ 0 then s
  else if (s.stn[n]).task = .toRelease then releaseNow s n
  else if (s.stn[n]).task = .toIdle then idleNow s n
  else
    let s := stnRun s n
    match calReady s n with
    | some p => if p.now then calStart s n p else s
    | none => s

/-- The number of a master in STN_CMD_RESULT (R296), which is also its rank within a class (R293). -/
def masterCode : Master → Nat
  | .pins => 0
  | .ring => 1
  | .pf => 2
  | .vf _ => 3
  | .partner => 4

/-- The master is named in STN_OWNER (R293). -/
def isOwner (s : State) (n : Nat) : Master → Bool
  | .pins => s.on (R.STN_OWNER_PINS n)
  | .ring => s.on (R.STN_OWNER_RING n)
  | .pf => s.on (R.STN_OWNER_PF n)
  | .vf v => s.on (R.STN_OWNER_VF_EN n) && s.g (R.STN_OWNER_VF n) == v && v != 0
  | .partner => s.on (R.STN_OWNER_PARTNER n)

/-- Stop-class orders (R292). -/
def stopClass (cmd : Nat) : Bool := cmd == 2 || cmd == 3 || cmd == 5

/-- An order that comes in the same cycle wins over another (R293). (log entry 70) -/
def orderBeats (s : State) (n : Nat) (r : Rival) (m : Master) (cmd : Nat) : Bool :=
  isOwner s n r.master && 1 ≤ r.cmd && r.cmd ≤ 7 &&
    (if r.master = m then r.later
     else if stopClass r.cmd = stopClass cmd then decide (masterCode r.master < masterCode m) else stopClass r.cmd)

/-- What an order does in the states that accept it (R276, R285, R289, R290, R292); none elsewhere. (log entry 84) -/
def orderEffect (s : State) (n : Fin 8) (cmd : Nat) (retire : Bool) (img : List Byte) : Option State :=
  let st := stSt s n
  let present := s.on (R.STN_STATUS_DISC_PRESENT n)
  if cmd = 1 then if st = stEMPTY ∧ present then some (startLoading s n img) else none
  else if cmd = 2 then
    if st = stEMPTY ∨ st = stRELEASING ∨ st = stOFFLINE then none else some (startRelease s n retire false)
  else if cmd = 3 then
    if st = stACTIVE then some (if hasWork s n then s else goIdle s n)
    else if st = stIDLE then some (if hasWork s n then s else goPark s n) else none
  else if cmd = 4 then if st = stIDLE ∨ st = stPARKED then some (wake s n) else none
  else if cmd = 5 then
    if st = stOFFLINE then none
    else if st = stRELEASING then some (s.stnU n (fun x => { x with toOffline := true, retire := retire }))
    else some (startRelease s n retire true)
  else if cmd = 6 then
    if st ≠ stOFFLINE then none
    else
      let s := linkOn ((setSt s n stEMPTY).u (R.STN_STATUS_SAFE n) 0) n
      some (if present && s.on (R.STN_CFG_AUTO_MOUNT n) then startLoading s n img else s)
  else if cmd = 7 then
    if st ≠ stFAULTED ∧ st ≠ stREJECTED then none
    else
      let s := s.us [(R.STN_STATUS_LAST_FAULT n, 0), (R.WRS_STATUS_SUSPENDED n, 0)]
      let s := s.wrsU n (fun w => { w with beams := w.beams.map (fun b => { b with failRun := 0 }) })
      let s := writeSpeedSel s n 0
      let s := if spSt s n = spFAULT then spStopped (s.u (R.SPN_STATUS_FAULT_CAUSE n) 0) n else s
      let s := s.u (R.SLD_STATUS_FAULT_CAUSE n) 0
      let s := if slSt s n = slFAULT ∨ slSt s n = slOFF then slCommand s n 10 false else s
      let s := seqEnter (locksOff s n) n sqSTOPPED 0
      some (if present then startLoading s n img
        else (setSt (unmount s n) n stEMPTY).stnU n (fun x => { x with resetAt := some s.now }))
  else none

/-- An order reaches the station's state machine (R292, R293); its result: 1 SUCCESS, 2 SUPERSEDED, 3 NOT_OWNER, 4 REFUSED; 0
for a CMD outside the table, which is ignored. (log entry 70) -/
def stationOrder (s : State) (n : Fin 8) (m : Master) (cmd : Nat) (retire : Bool) (img : List Byte) (rivals : List Rival) :
    Nat × State :=
  let done := fun (s : State) (r : Nat) => (r, s.us [(R.STN_CMD_RESULT_SEQ n, (s.g (R.STN_CMD_RESULT_SEQ n) + 1) % 256),
    (R.STN_CMD_RESULT_MASTER n, masterCode m), (R.STN_CMD_RESULT_RESULT n, r)])
  if cmd = 0 ∨ 7 < cmd then (0, s)
  else if !isOwner s n m then done s 3
  else if rivals.any (fun r => orderBeats s n r m cmd) then done s 2
  else match orderEffect s n cmd retire img with
    | some t => done t 1
    | none => done s 4

end Sys2Proof.Machine
end

