-- ==== Sys2Proof/Machine/BrlSample.lean ====
section
/-!
DEFINITION. One sample of a Beryl loop (R183, R189 to R196), the sharing of a tick among the pipelines (R186), lock counting
(R197, R198), shedding (R212), and Jasper's sample (R213, R214).
-/

namespace Sys2Proof.Machine

/-- Weight i of the photodiode matrix of slot k (R189): of N, or of D. -/
def weightN (s : State) (k i : Nat) : Int :=
  toSigned 16 (if i % 2 = 0 then s.g (R.BRL_SLOT_WN_W_LO k (i / 2)) else s.g (R.BRL_SLOT_WN_W_HI k (i / 2)))
def weightD (s : State) (k i : Nat) : Int :=
  toSigned 16 (if i % 2 = 0 then s.g (R.BRL_SLOT_WD_W_LO k (i / 2)) else s.g (R.BRL_SLOT_WD_W_HI k (i / 2)))

/-- N or D of slot k (R189), in units of 2⁻³⁷. -/
def matrixSum (w : Nat → Int) (pd : List Int) : Int := ((List.range 8).map (fun i => w i * (pd[i]?).getD 0)).sum

/-- FOK_LEVEL of a station, in units of 2⁻²³. -/
def fokLevel (s : State) (n : Nat) : Int := s.gi (R.BRL_STN_FOK_FOK_LEVEL n)

/-- D of the FOCUS slot reaches FOK_LEVEL (R197). -/
def sumOk (s : State) (n k : Nat) (pd : List Int) : Bool := fokLevel s n * 2 ^ 14 ≤ matrixSum (weightD s k) pd

/-- The photodiode input x of slot k (R189). That x saturates sets no SAT: the stages of R190 begin with the error (DEDUCED). (log entry 21) -/
def photoInput (s : State) (n k : Nat) (pd : List Int) : Int × State :=
  let num := matrixSum (weightN s k) pd
  let (v, s) := if (List.range 8).all (fun i => weightD s k i == 0) then s.quant num (2 ^ 14)
    else s.quant (num * 2 ^ 23) (max 1 (max (matrixSum (weightD s k) pd) (fokLevel s n * 2 ^ 14)))
  (sat24 v, s)

/-- The feed-forward of a station's table at the present angle (R194): 0 while the angle is not valid. `t` is 0 for focus, 1 for
tracking. -/
def ffOf (s : State) (n t : Nat) : Int × State :=
  if s.on (R.SPN_STATUS_ANGLE_VALID n) then
    let a := s.g (R.SPN_ANGLE_ANGLE n)
    let e := fun i => s.gi (R.BRL_FF_ENTRY_VALUE n t (i % 512))
    s.quant (e (a / 128) * 128 + (e (a / 128 + 1) - e (a / 128)) * (a % 128 : Nat)) 128
  else (0, s)

/-- A saturation of slot k is noted (R190). -/
def noteSat (s : State) (k : Nat) (c : Bool) : State := s.whenB c (fun s => s.u (R.BRL_SLOT_STATUS_SAT k) 1)

/-- One biquad section (R191): its output and its state. Where the exact sum exceeds the 48-bit accumulator the spec states no
result, and the output is a free value. (log entry 15) -/
def biquad (s : State) (k : Fin 96) (q : Fin 5) (v : Int) : Int × State :=
  let l := s.loop k
  if bitOf (s.g (R.BRL_SLOT_CFG_BQ_EN k)) q.val = 0 then (v, s.loopU k (fun l => { l with bq := vmod l.bq q (fun _ => ⟨0, 0, 0, 0⟩) }))
  else
    let z := l.bq[q]
    let b := bankOf s k
    let co := fun i => s.gi (R.BRL_BANK_BQ_COEF b k q.val i)
    let acc := co 0 * v + co 1 * z.x1 + co 2 * z.x2 - co 3 * z.y1 - co 4 * z.y2
    let (y, s) := if acc < -2 ^ 47 ∨ 2 ^ 47 ≤ acc then (toSigned 24 (s.freeVal % 2 ^ 24), s.tick) else s.nearest acc (2 ^ 21)
    let out := sat24 y
    (out, (noteSat s k (out != y)).loopU k (fun l => { l with bq := vmod l.bq q (fun z => ⟨v, z.x1, out, z.y1⟩) }))

/-- The compensator output v of a slot (R190): gain, integrator, biquads. -/
def compensate (s : State) (k : Fin 96) (e : Int) (frozen : Bool) : Int × State :=
  let l := s.loop k
  let b := bankOf s k
  let (g0, s) := s.quant (s.gi (R.BRL_BANK_GAIN_GAIN b k) * e * 2 ^ (s.gi (R.BRL_BANK_GAIN_GAIN_EXP b k) + 8).toNat) (2 ^ 30)
  let g := sat24 g0
  let s := noteSat s k (g != g0)
  let lim := s.gi (R.BRL_BANK_ILIM_VALUE b k) * 128
  let (i, s) :=
    if frozen || (l.satHi && decide (0 < g)) || (l.satLo && decide (g < 0)) then (clampI (-lim) lim l.integ, s)
    else
      let (d, s) := s.quant (s.gi (R.BRL_BANK_KI_VALUE b k) * g) (2 ^ 16)
      (clampI (-lim) lim (l.integ + d), s)
  let s := s.whenB (decide (i = lim ∨ i = -lim)) (fun s => s.u (R.BRL_SLOT_STATUS_I_CLAMP k) 1)
  let s := s.loopU k (fun l => { l with integ := i })
  let (v0, s) := s.quant (g * 128 + i) 128
  let v := sat24 v0
  let s := noteSat s k (v != v0)
  let (v, s) := biquad s k 0 v
  let (v, s) := biquad s k 1 v
  let (v, s) := biquad s k 2 v
  let (v, s) := biquad s k 3 v
  biquad s k 4 v

/-- The clamped output of a running slot (R190). -/
def clampOut (s : State) (k : Fin 96) (v ff : Int) : Int × State :=
  let u := sat24 (v + ff)
  let t := u + biasOf s k
  let y := clampI (outMin s k) (outMax s k) t
  let hi := decide (outMax s k < t)
  let lo := decide (t < outMin s k)
  let s := noteSat s k (u != v + ff || hi || lo)
  (y, s.loopU k (fun l => { l with satHi := hi, satLo := lo }))

/-- What a slot that does not run closed drives (R198, R203 to R209). -/
def driven (s : State) (k : Fin 96) (typ : Nat) (y ff : Int) : Int × State :=
  let within := fun (v : Int) => clampI (outMin s k) (outMax s k) v
  match (s.loop k).drive with
  | .closed => (y, s)
  | .parked => (if typ = tyFOCUS then outMin s k else if typ = tyTRACK ∨ typ = tyTILT then biasOf s k else outOf s k, s)
  | .hold v => (within (v + (s.loop k).kick), s)
  | .servo v => (within (v + ff), s)
  | .ramp a b i len =>
    let (v, s) := s.quant (a * len + (b - a) * (min i len : Nat)) (max 1 len : Nat)
    (v, s.loopU k (fun l => { l with drive := .ramp a b (min len (i + 1)) len }))

/-- The angle's advance from one learning sample to the next, in counts; a step back is none. -/
def angleStep (old : Option Nat) (a : Nat) : Nat :=
  match old with
  | some b => let d := (a + 65536 - b) % 65536; if d < 32768 then d else 0
  | none => 0

/-- Learning (R195, R196): while tracking lock holds with no servo hold, a valid angle and no sequence. FF_VALID reads 1 once it has run
for 64 revolutions of the rotor. -/
def learn (s : State) (n : Fin 8) (t : Nat) (v : Int) : State :=
  let enF := s.on (R.BRL_STN_FF_LEARN_F n)
  let enT := s.on (R.BRL_STN_FF_LEARN_T n)
  let st := seqSt s n
  let paused := (!enF && !enT) || !s.on (R.BRL_STN_SEQ_STATUS_TLOCK n) || (s.sq n).held.isSome ||
    !s.on (R.SPN_STATUS_ANGLE_VALID n) || !(st == sqIDLE || st == sqWAIT)
  if paused then s.seqU n (fun q => { q with lastAngle := none })
  else if !(if t = 0 then enF else enT) then s
  else
    let a := s.g (R.SPN_ANGLE_ANGLE n)
    let i := a / 128
    let j := (i + s.g (R.BRL_STN_FF_ADV n)) % 512
    let (d, s) := s.quant v (2 ^ s.g (R.BRL_STN_FF_LEARN_EXP n))
    let s := s.ui (R.BRL_FF_ENTRY_VALUE n t j) (sat24 (s.gi (R.BRL_FF_ENTRY_VALUE n t j) + d))
    let turned := min (64 * 65536) ((s.sq n).turned + angleStep (s.sq n).lastAngle a)
    let s := s.seqU n (fun q => { q with turned := turned, lastAngle := some a })
    if 64 * 65536 ≤ turned then s.u (R.BRL_STN_SEQ_STATUS_FF_VALID n) 1 else s

/-- A loop is closed, a servo hold included. -/
def closedDrive (d : Drive) : Bool :=
  match d with
  | .closed => true
  | .servo _ => true
  | _ => false

/-- A servo hold of a slot begins (R198): its last output, less the feed-forward. -/
def servoOn (s : State) (n typ : Nat) : State :=
  match slotFor s n typ with
  | some k => if (s.loop k).drive = .closed then s.loopU k (fun l => { l with drive := .servo (outOf s k - l.ff) }) else s
  | none => s

/-- A servo hold of a slot ends, and the loop resumes from its held state. -/
def servoOff (s : State) (n typ : Nat) : State :=
  s.loopOf n typ (fun l => match l.drive with
    | .servo _ => { l with drive := .closed }
    | _ => l)

/-- The servo hold, as the focus sum of a tick's sample decides before any loop of the station is computed (R198): D of a closed focus loop
below FOK_LEVEL starts it, or makes it longer, and D at the level ends it. `ok` says that D has the level. -/
def servoJudge (s : State) (n : Fin 8) (k : Fin 96) (ok : Bool) : State :=
  if !closedDrive (s.loop k).drive then s.seqU n (fun q => { q with low := 0, held := none })
  else if ok then
    let s := if (s.sq n).held.isSome then servoOff (servoOff s n tyFOCUS) n tyTRACK else s
    s.seqU n (fun q => { q with held := none, low := 0 })
  else
    let s := if (s.sq n).held.isNone then servoOn (servoOn s n tyFOCUS) n tyTRACK else s
    s.seqU n (fun q => { q with low := q.low + 1, held := some ((q.held.map (· + 1)).getD 1) })

/-- What the focus slot's sample means for focus lock (R197). A sample of a servo hold, whose loop is held, neither adds to the samples of excess error
nor starts their count anew (DESIGN CHOICE). (log entry 21) -/
def focusJudge (s : State) (n : Fin 8) (k : Fin 96) (e : Int) (ok : Bool) : State :=
  if !closedDrive (s.loop k).drive then s.seqU n (fun q => { q with fGood := 0, fBad := 0 })
  else if ok then
    let good := decide (e.natAbs ≤ 128 * s.g (R.BRL_STN_LOCKERR_FLOCK_ERR n))
    s.seqU n (fun q => { q with fGood := if good then q.fGood + 1 else 0, fBad := if good then 0 else q.fBad + 1 })
  else s.seqU n (fun q => { q with fGood := 0 })

/-- What the tracking slot's sample means for tracking lock (R197); one of a servo hold counts neither way (DESIGN CHOICE). (log entry 21) -/
def trackJudge (s : State) (n : Fin 8) (k : Fin 96) (e : Int) : State :=
  if (s.sq n).held.isSome then s
  else if (s.loop k).drive ≠ .closed then s.seqU n (fun q => { q with tGood := 0, tBad := 0 })
  else
    let good := decide (e.natAbs ≤ 128 * s.g (R.BRL_STN_LOCKERR_TLOCK_ERR n))
    let lock := s.on (R.BRL_STN_SEQ_STATUS_FLOCK n)
    s.seqU n (fun q => { q with tGood := if good && lock then q.tGood + 1 else 0, tBad := if good then 0 else q.tBad + 1 })

/-- The photodiode inputs of a slot's sample (R184): means over the one loop period of its type, d ticks of equal length. (log entry 21) -/
def pdOf (s : State) (n : Fin 8) (typ : Nat) : List Int × State :=
  let l := (s.brl.pds[n]).take (max 1 (divisorOf typ))
  (List.range 8).foldl (fun (acc : List Int × State) i =>
    let (v, s) := meanOf acc.2 (l.map (fun pd => (pd[i]?).getD 0))
    (acc.1 ++ [v], s)) ([], s)

/-- The input x and the error e of a slot's sample (R183). -/
def inputOf (s : State) (n : Fin 8) (k : Fin 96) (typ : Nat) (pd : List Int) : Int × Int × State :=
  let off := s.gi (R.BRL_SLOT_OFFSET_OFFSET k)
  if typ = tyFOCUS ∨ typ = tyTRACK ∨ typ = tyTILT then
    let (x, s) := photoInput s n k pd
    (x, x - off, s)
  else if typ = tySA then (0, off, s)
  else if typ = tyCURD then ((s.spn[n]).id, idSet s n - (s.spn[n]).id, s)
  else if typ = tyCURQ then ((s.spn[n]).iq, iqSet s n - (s.spn[n]).iq, s)
  else if typ = tySPEED then
    let (r, s) := s.quantR (s.spn[n]).ref
    (spSpeed s n, r - spSpeed s n, s)
  else
    let (x, s) := match slotFor s n tyTRACK with
      | some t =>
        let h := ((s.loop t).hist.take 40).map (fun y => y - biasOf s t)
        meanOf s h
      | none => (0, s)
    (x, x - off, s)

/-- The SA slot has taken its set-point (R203 step 2, R206 step 2). -/
def saTakes (s : State) (n : Fin 8) : State :=
  if (seqSt s n = sqACQ_SA ∨ seqSt s n = sqLAYER_SA) ∧ !(s.sq n).saTaken then
    s.seqU n (fun q => { q with saTaken := true, since := s.now })
  else s

/-- One sample of a slot (R190). (log entry 21) -/
def sampleSlot (s : State) (k : Fin 96) (pd : List Int) : State :=
  let typ := slotType s k
  let n := stnOf (slotStation s k)
  let l := s.loop k
  let (x, e0, s) := inputOf s n k typ pd
  let e := sat24 e0
  let s := noteSat s k (e != e0)
  let spindle := typ == tyCURD || typ == tyCURQ || typ == tySPEED
  let frozen := !spindle && (l.frozen || l.drive != .closed)
  let (v, s) := compensate s k e frozen
  let useFf := (typ == tyFOCUS || typ == tyTRACK) && s.on (R.BRL_SLOT_CFG_FF_EN k)
  let (ff, s) := if useFf then ffOf s n (typ - 1) else (0, s)
  let (y, s) := clampOut s k v ff
  let (y, s) := if spindle then (y, s) else driven s k typ y ff
  let s := s.loopU k (fun l => { l with next := y, x := x, ff := ff })
  let s := s.us [(R.BRL_SLOT_ERR_VALUE k, ofSigned 24 e), (R.BRL_SLOT_STATUS_FROZEN k, b2n frozen),
    (R.BRL_SLOT_STATUS_ACTIVE_BANK k, bankOf s k)]
  if typ = tyFOCUS then focusJudge (learn s n 0 v) n k e (sumOk s n k pd)
  else if typ = tyTRACK then trackJudge (learn s n 1 v) n k e
  else if typ = tySA then saTakes s n else s

/-- The slots whose sample falls due at tick t (R182, R183, R212). -/
def dueSlots (s : State) (t : Nat) : List (Fin 96) :=
  slots.filter (fun (k : Fin 96) =>
    let typ := slotType s k
    let d := divisorOf typ
    s.on (R.BRL_SLOT_CFG_EN k) && d != 0 && t % (max 1 d) == phaseOf typ (slotStation s k) &&
      bitOf (s.g R.BRL_PIPE_SHED) (slotStation s k) == 0)

/-- The pipeline a sample goes to (R186): the one with the least load so far. Where several are equal the spec names none, and a
free value picks one. (log entry 16) -/
def pickPipe (s : State) (loads : List Nat) : Option Nat × State :=
  let ok := (List.range 4).filter (fun p => bitOf (s.g R.BRL_PIPE_OK) p == 1)
  let least := ok.foldl (fun b p => min b ((loads[p]?).getD 0)) (2 ^ 32)
  let tied := ok.filter (fun p => (loads[p]?).getD 0 == least)
  if tied.length ≤ 1 then (tied.head?, s) else (tied[s.freeVal % tied.length]?, s.tick)

/-- Share the due samples among the working pipelines, in ascending slot order (R186). -/
def sharePipes (s : State) (loads : List Nat) : List (Fin 96) → List (Fin 96 × Option Nat) × State
  | [] => ([], s)
  | k :: t =>
    let (p, s) := pickPipe s loads
    let loads := match p with
      | some p => loads.set p ((loads[p]?).getD 0 + s.g (R.BRL_SLOT_COST_COST k))
      | none => loads
    let (r, s) := sharePipes s loads t
    ((k, p) :: r, s)

/-- The output computed at the last sample is released (R184). -/
def releaseOut (s : State) (k : Fin 96) : State :=
  let y := (s.loop k).next
  (s.ui (R.BRL_SLOT_OUT_VALUE k) y).loopU k (fun l => { l with hist := (y :: l.hist).take 64 })

/-- Shed a station (R212): its slots stop, its outputs go to 0, its sequencer stops, STATION_LOST is logged, and the station
faults (R288). -/
def shedStation (s : State) (n : Fin 8) : State :=
  let s := s.u R.BRL_PIPE_SHED (s.g R.BRL_PIPE_SHED ||| 2 ^ n.val)
  let s := s.each (slots.filter (fun (k : Fin 96) => slotStation s k == n.val)) (fun s k =>
    (s.ui (R.BRL_SLOT_OUT_VALUE k) 0).loopU k (fun l => { l with next := 0 }))
  let s := seqEnter (locksOff s n) n sqSTOPPED 0
  let s := (s.log 0x102 n [4]).stnU n (fun x => { x with shedTold := true })
  (enterFaulted s n 4).stnU n (fun x => { x with shedTold := false })

/-- Shed whole stations, the highest-numbered first, until the load bound fits the working pipelines (R212). -/
def shedDown (s : State) : List (Fin 8) → State
  | [] => refreshLoad s
  | n :: t =>
    let s := refreshLoad s
    if s.g R.BRL_LOAD_BOUND ≤ s.g R.BRL_LOAD_CAPACITY then s
    else shedDown (if bitOf (s.g R.BRL_PIPE_SHED) n.val = 1 then s else shedStation s n) t

/-- A pipeline fails (R211): causes 1 SRAM, 2 residue, 3 overrun; `held` samples are lost with it. -/
def pipeFails (s : State) (p cause held : Nat) : State :=
  let s := s.us [(R.BRL_PIPE_OK, s.g R.BRL_PIPE_OK &&& (15 - 2 ^ p)), (R.BRL_PIPE_FAILED, s.g R.BRL_PIPE_FAILED ||| 2 ^ p)]
  s.log 0x003 noStation [p, cause, held]

/-- The value of a Jasper source (R213), 24 bits. How the integrator and the positions of a sled, which are wider, are placed in 24 bits
the spec leaves open: a free function says. (log entry 20) -/
def jspSource (s : State) (pd : List (List Int)) (chan : Word) : Int × State :=
  let cls := getF chan (R.JSP_CH_CLASS 0)
  let i := getF chan (R.JSP_CH_INDEX 0)
  let k : Fin 96 := ⟨i / 4 % 96, Nat.mod_lt _ (by omega)⟩
  let n := stnOf (i / 8)
  if cls = 1 ∧ i < 384 then
    if i % 4 = 0 then ((s.loop k).x, s) else if i % 4 = 1 then (s.gi (R.BRL_SLOT_ERR_VALUE k), s)
    else if i % 4 = 2 then (outOf s k, s)
    else (sat24 (Config.trace24 0 (s.loop k).integ), s)
  else if cls = 2 ∧ i < 64 then ((((pd[i / 8]?).getD [])[i % 8]?).getD 0, s)
  else if cls = 3 ∧ i < 64 then
    if i % 8 = 0 then ((s.spn[n]).id, s) else if i % 8 = 1 then ((s.spn[n]).iq, s) else if i % 8 = 2 then (spSpeed s n, s)
    else if i % 8 = 3 then ((s.g (R.SPN_ANGLE_ANGLE n) : Nat), s)
    else if i % 8 = 4 then ((s.g R.SPN_BUS_VOLT_VOLT : Nat), s) else (0, s)
  else if cls = 4 ∧ i < 64 then
    if i % 8 = 0 then (sat24 (Config.trace24 1 (s.sld[n]).cmd), s) else if i % 8 = 1 then (sat24 (Config.trace24 1 (s.sld[n]).geared), s)
    else if i % 8 = 2 then (outFor s n tySLED, s) else (0, s)
  else if cls = 5 ∧ i < 16 then
    (match slotFor s (i / 2) (i % 2 + 1) with
      | some k => (s.loop k).ff
      | none => 0, s)
  else if cls = 6 ∧ i < 8 then ((seqSt s i : Nat), s)
  else (0, s)

/-- Take the samples of the 32 channels (R213). -/
def jspTake (s : State) (pd : List (List Int)) : List Nat → State
  | [] => s
  | ch :: t =>
    let (v, s) := jspSource s pd (s.jsp.chans.toList[ch]?.getD 0#32)
    let s := { s with jsp := { s.jsp with mem := smSet 0#24 s.jsp.mem (65536 * ch + s.jsp.addr) (BitVec.ofInt 24 v) } }
    jspTake s pd t

/-- The trigger of a capture has come at the sample at hand (R214). -/
def jspHit (s : State) (val : Int) : Bool :=
  let mode := getF s.jsp.trig R.JSP_TRIG_MODE
  let lev := toSigned 24 (getF s.jsp.level R.JSP_TRIG_LEVEL_LEVEL)
  s.jsp.due || (mode == 1 && decide (s.jsp.lastVal < lev ∧ lev ≤ val)) || (mode == 2 && decide (lev < s.jsp.lastVal ∧ val ≤ lev))

/-- One Jasper sample (R213, R214), where a capture runs and its divisor has come round. -/
def jspTick (s : State) (pd : List (List Int)) : State :=
  if !s.on R.JSP_STATUS_ARMED then s
  else
    let div := max 1 (getF s.jsp.ctrl R.JSP_CTRL_DIV)
    if s.jsp.ticks + 1 < div then { s with jsp := { s.jsp with ticks := s.jsp.ticks + 1 } }
    else if s.on R.JSP_STATUS_TRIGGERED ∧ s.jsp.left = 0 then s
    else
      let addr := s.jsp.addr
      let s := jspTake s pd (List.range 32)
      let ch := getF s.jsp.trig R.JSP_TRIG_CHANNEL
      let val := toSigned 24 ((smGet s.jsp.mem (65536 * ch + addr)).getD 0#24).toNat
      let hit := !s.on R.JSP_STATUS_TRIGGERED && jspHit s val
      let s := { s with jsp := { s.jsp with
        ticks := 0, addr := (addr + 1) % 65536, due := false, lastVal := val
        left := if hit then getF s.jsp.ctrl R.JSP_CTRL_POST else s.jsp.left - b2n (s.on R.JSP_STATUS_TRIGGERED) } }
      let s := if addr = 65535 then s.u R.JSP_STATUS_WRAPPED 1 else s
      if hit then ((s.us [(R.JSP_STATUS_TRIGGERED, 1), (R.JSP_TRIG_INDEX_INDEX, addr)])).u64 R.JSP_TRIG_TIME_LO (s.stamp berylDomain) else s

end Sys2Proof.Machine
end

