-- ==== Sys2Proof/Machine/Beryl.lean ====
section
/-!
DEFINITION. The meanings of Beryl's and Jasper's commands (chapter "Beryl Servo Loop Engine"). A tick counts samples; what a
count makes due (lock gained or lost, a servo hold that expires) is carried out by its own command, and what a time makes due by
SEQUENCE_TIMER_EXPIRY.
-/

namespace Sys2Proof.Machine

/-- SAMPLE_TICK (R182, R184, R186, R190, R211): `pd` is the mean of each station's eight photodiode inputs over the tick that ends, Q1.23, and
`fails` the pipelines that fail in this tick by their residue or by overrun, with the cause of R211. `srams` are the SRAM blocks that the pipelines have
read with an error (R330): one that cannot be mended fails its pipeline. -/
def sampleTick (pd : List (List Int)) (fails : List (Fin 4 × Nat)) (srams : List (Fin 4 × SramBlock)) (s : State) : State :=
  let s := s.each srams (fun s b => sramRead s (some b.2))
  let fails := (srams.filter (fun b => sramBad (some b.2))).map (fun b => (b.1, 1)) ++ fails
  let t := s.brl.tick
  let due := dueSlots s t
  let s := s.each due releaseOut
  let s := { s with brl := { s.brl with pds := Vector.ofFn (fun n => (((pd[n.val]?).getD []) :: s.brl.pds[n]).take 16) } }
  let (share, s) := sharePipes s [0, 0, 0, 0] due
  let bad := fun (p : Option Nat) => fails.any (fun f => p == some f.1.val && bitOf (s.g R.BRL_PIPE_OK) f.1.val == 1)
  let s := s.each stations (fun s n => s.seqU n (fun q => { q with atStop := none }))
  let s := s.each (share.filter (fun kp => slotType s kp.1 == tyFOCUS && !bad kp.2)) (fun s kp =>
    let n := stnOf (slotStation s kp.1)
    servoJudge s n kp.1 (sumOk s n kp.1 ((pd[n]?).getD [])))
  let s := s.each share (fun s kp =>
    let s := s.u (R.BRL_SLOT_STATUS_PIPE kp.1) (kp.2.getD 0)
    if bad kp.2 then (s.u (R.BRL_SLOT_STATUS_HELD kp.1) 1).bump R.BRL_CNT_HELD
    else
      let (x, s) := pdOf s (stnOf (slotStation s kp.1)) (slotType s kp.1)
      sampleSlot s kp.1 x)
  let s := jspTick s pd
  let s := { s with brl := { s.brl with tick := (t + 1) % 400 } }
  let s := s.each fails (fun s f =>
    if bitOf (s.g R.BRL_PIPE_OK) f.1.val = 0 then s
    else pipeFails s f.1 f.2 (share.filter (fun kp => kp.2 == some f.1.val)).length)
  if fails.isEmpty then s else shedDown s stations.reverse

def execSampleTick (pd : List (List Int)) (fails : List (Fin 4 × Nat)) (srams : List (Fin 4 × SramBlock)) (s : State) :
    Host.Outcome State Fault Refusal := answer s (sampleTick pd fails srams)

/-- Focus lock is lost (R198, R207): a sequence that runs fails; the station recovers (R287). (log entry 22) -/
def focusLost (s : State) (n : Fin 8) : State :=
  disturbance (if seqBusy s n then seqFails s n else focusOpens s n) n 0

/-- A lock is lost in the tick of a STOP (R210): STOP is carried out, and LOCK_LOST is still logged, once. -/
def lostAtStop (s : State) (n : Fin 8) (which : Nat) : State :=
  (logLockLost s n which).seqU n (fun q => { q with atStop := q.atStop.map (fun a =>
    if which = 0 then (false, false, none) else (a.1, false, a.2.2)) })

/-- SERVO_HOLD_EXPIRY (R198): the hold has lasted beyond HOLD_MAX samples. -/
def servoHoldExpiry (n : Fin 8) (s : State) : State :=
  match (s.sq n).held, (s.sq n).atStop with
  | some h, _ => if h ≤ s.g (R.BRL_STN_FOK_HOLD_MAX n) then s else focusLost s n
  | none, some (_, _, some h) => if h ≤ s.g (R.BRL_STN_FOK_HOLD_MAX n) then s else lostAtStop s n 0
  | none, _ => s

def execServoHoldExpiry (n : Fin 8) (s : State) : Host.Outcome State Fault Refusal := answer s (servoHoldExpiry n)

/-- The focus loop of a station is closed. -/
def loopClosed (s : State) (n typ : Nat) : Bool :=
  match slotFor s n typ with
  | some k => closedDrive (s.loop k).drive
  | none => false

/-- FOCUS_LOCK_GAINED (R197): 64 consecutive samples with the sum at FOK_LEVEL and the error within FLOCK_ERR. The 50 ms in which a mount expects an
address begin (R278 step 3, R279). -/
def focusGained (n : Fin 8) (s : State) : State :=
  if s.on (R.BRL_STN_SEQ_STATUS_FLOCK n) ∨ !loopClosed s n tyFOCUS ∨ (s.sq n).fGood < 64 then s
  else
    let s := s.u (R.BRL_STN_SEQ_STATUS_FLOCK n) 1
    let s := s.whenB (stSt s n == stLOADING || stSt s n == stMOUNTING) (fun s => s.stnU n (fun x => { x with since := s.now }))
    if seqSt s n = sqFOCUS_SETTLE ∧ (s.sq n).sub = 0 then seqPart s n 1 else s

def execFocusLockGained (n : Fin 8) (s : State) : Host.Outcome State Fault Refusal := answer s (focusGained n)

/-- FOCUS_LOCK_LOST (R197): 16 consecutive samples of excess error. -/
def focusLockLost (n : Fin 8) (s : State) : State :=
  if (s.sq n).fBad < 16 then s
  else if s.on (R.BRL_STN_SEQ_STATUS_FLOCK n) then focusLost s n
  else if (s.sq n).atStop.any (fun a => a.1) then lostAtStop s n 0 else s

def execFocusLockLost (n : Fin 8) (s : State) : Host.Outcome State Fault Refusal := answer s (focusLockLost n)

/-- TRACKING_LOCK_GAINED (R197): 64 consecutive samples within TLOCK_ERR while focus lock holds. -/
def trackGained (n : Fin 8) (s : State) : State :=
  if s.on (R.BRL_STN_SEQ_STATUS_TLOCK n) ∨ !s.on (R.BRL_STN_SEQ_STATUS_FLOCK n) ∨ !loopClosed s n tyTRACK ∨
      (s.sq n).tGood < 64 then s
  else
    let s := s.u (R.BRL_STN_SEQ_STATUS_TLOCK n) 1
    let s := if seqSt s n = sqTRACK_SETTLE ∧ (s.sq n).sub = 0 then seqPart s n 1 else s
    stnRun s n

def execTrackingLockGained (n : Fin 8) (s : State) : Host.Outcome State Fault Refusal := answer s (trackGained n)

/-- TRACKING_LOCK_LOST (R197, R199): 8 consecutive samples of excess error; the loop stays closed, and the station recovers (R287). -/
def trackLost (n : Fin 8) (s : State) : State :=
  if (s.sq n).tBad < 8 then s
  else if !s.on (R.BRL_STN_SEQ_STATUS_TLOCK n) then
    if (s.sq n).atStop.any (fun a => a.2.1) then lostAtStop s n 1 else s
  else
    let s := logLockLost (s.u (R.BRL_STN_SEQ_STATUS_TLOCK n) 0) n 1
    let s := s.seqU n (fun q => { q with tGood := 0 })
    if seqSt s n = sqTRACK_SETTLE then seqPart s n 0
    else if seqBusy s n then s else disturbance s n 9

def execTrackingLockLost (n : Fin 8) (s : State) : Host.Outcome State Fault Refusal := answer s (trackLost n)

/-- FOCUS_ACQ (R203). -/
def focusAcq (n : Fin 8) (s : State) : State := seqCommand s n 1 0

def execFocusAcq (n : Fin 8) (s : State) : Host.Outcome State Fault Refusal := answer s (focusAcq n)

/-- TRACK_JUMP (R205), its ARG two's complement. -/
def trackJump (n : Fin 8) (arg : BitVec 8) (s : State) : State := seqCommand s n 2 arg.toInt

def execTrackJump (n : Fin 8) (arg : BitVec 8) (s : State) : Host.Outcome State Fault Refusal := answer s (trackJump n arg)

/-- LAYER_JUMP (R206). -/
def layerJump (n : Fin 8) (arg : BitVec 8) (s : State) : State := seqCommand s n 3 arg.toNat

def execLayerJump (n : Fin 8) (arg : BitVec 8) (s : State) : Host.Outcome State Fault Refusal := answer s (layerJump n arg)

/-- SEQ_STOP (R209). -/
def seqStop (n : Fin 8) (s : State) : State := seqCommand s n 4 0

def execSeqStop (n : Fin 8) (s : State) : Host.Outcome State Fault Refusal := answer s (seqStop n)

/-- FF_CLEAR (R196). -/
def ffClear (n : Fin 8) (s : State) : State := seqCommand s n 5 0

def execFfClear (n : Fin 8) (s : State) : Host.Outcome State Fault Refusal := answer s (ffClear n)

/-- SET_LAYER (R200). -/
def setLayer (n : Fin 8) (arg : BitVec 8) (s : State) : State := seqCommand s n 6 arg.toNat

def execSetLayer (n : Fin 8) (arg : BitVec 8) (s : State) : Host.Outcome State Fault Refusal := answer s (setLayer n arg)

/-- JUMP_WAIT_RELEASE (R202): no beam of the station writes any more. -/
def jumpWaitRelease (n : Fin 8) (s : State) : State :=
  if seqSt s n ≠ sqWAIT ∨ s.g (R.WRS_STATUS_WRITING n) ≠ 0 then s
  else if (s.sq n).cmd = 2 then startTrackJump s n else startLayerJump s n

def execJumpWaitRelease (n : Fin 8) (s : State) : Host.Outcome State Fault Refusal := answer s (jumpWaitRelease n)

/-- The layer a sequence of the station goes to. -/
def seqTarget (s : State) (n : Fin 8) : Nat :=
  if (s.sq n).cmd = 1 then 15 else if (s.sq n).cmd = 3 then (s.sq n).arg.toNat % 16 else s.g (R.BRL_STN_SEQ_STATUS_LAYER n)

/-- A sequence is complete (R203 step 9, R205 step 4, R206 step 11). A layer entered for writing with no usable set is calibrated
at once (R307). -/
def seqDone (s : State) (n : Fin 8) : State :=
  let target := seqTarget s n
  let s := releaseLoop s n tyTRACK
  let s := closeLoop (closeLoop s n tyTILT) n tySLED
  let s := s.us [(R.BRL_STN_SEQ_STATUS_DONE n, 1), (R.BRL_STN_SEQ_STATUS_LAYER n, target)]
  let s := seqEnter s n sqIDLE 0
  let s := if stSt s n = stACTIVE ∧ (s.sq n).cmd = 3 ∧ target = goalLayer s n ∧ !calFresh s n target then calRaise s n target true else s
  stnRun s n

/-- The settle time after focus lock ends (R203 step 6, R206 step 8): focus returns to its bank, tilt closes with the layer's
offset, the layer's powers and taps are loaded. (log entry 22) -/
def focusSettled (s : State) (n : Fin 8) : State :=
  let l := seqTarget s n
  let s := releaseLoop s n tyFOCUS
  let (v, s) := tiltOf s n l
  let s := writeOffset (closeLoop s n tyTILT) n tyTILT v
  let s := loadTaps (loadPowers s n l) n l
  let s := rememberLoad s n l
  seqEnter s n sqTRACK_CLOSE 0

/-- The focus sweep starts (R203 step 3): a full traverse takes SWEEP_T ms, 400 samples each. -/
def sweepFrom (s : State) (n : Fin 8) (up : Bool) : State :=
  match slotFor s n tyFOCUS with
  | some k =>
    let (a, b) := if up then (outMin s k, outMax s k) else (outMax s k, outMin s k)
    s.loopU k (fun l => { l with drive := .ramp a b 0 (400 * s.g (R.BRL_STN_SEQT_SWEEP_T n)) })
  | none => s

/-- A kick of the focus output toward the target layer (R206): a deeper layer has a lower number, and raises the output. -/
def focusKick (s : State) (n : Fin 8) (back : Bool) : State :=
  let deeper := decide ((s.sq n).arg < s.g (R.BRL_STN_SEQ_STATUS_LAYER n))
  let v := if deeper != back then kickOf s n else -(kickOf s n)
  s.loopOf n tyFOCUS (fun l => { l with kick := v })

/-- The kick of a tracking jump, signed as N, or against it (R205). -/
def trackKick (s : State) (n : Fin 8) (back : Bool) : State :=
  let out := decide (0 < (s.sq n).arg)
  s.loopOf n tyTRACK (fun l => { l with kick := if out != back then kickOf s n else -(kickOf s n) })

/-- The kick or the brake ends. -/
def kickOff (s : State) (n : Fin 8) (sub : Nat) : State :=
  let s := s.each [tyFOCUS, tyTRACK] (fun s t => s.loopOf n t (fun l => { l with kick := 0 }))
  let s := if sub = 1 then s.seqU n (fun q => { q with kickEnd := s.now }) else s
  seqPart s n sub

/-- SEQUENCE_TIMER_EXPIRY (R203, R205, R206): the time of the step under way has passed. -/
def seqTimer (n : Fin 8) (s : State) : State :=
  let q := s.sq n
  let st := seqSt s n
  let passed := fun (ns : Nat) => decide (q.since + ns ≤ s.now)
  let saOk := q.saTaken && passed (100000 * s.g (R.BRL_STN_SEQT_SA_SETTLE n))
  let settled := passed (100000 * s.g (R.BRL_STN_SEQT_JUMP_SETTLE n))
  if st = sqACQ_SA then
    if saOk then seqEnter (sweepFrom s n true) n sqSWEEP 0 else s
  else if st = sqFOCUS_SETTLE then if q.sub = 1 ∧ settled then focusSettled s n else s
  else if st = sqTRACK_SETTLE then if q.sub = 1 ∧ settled then seqDone s n else s
  else if st = sqLAYER_SA then
    if saOk then
      let s := s.loopOf n tyFOCUS (fun l => { l with drive := .hold (outFor s n tyFOCUS), frozen := true })
      let s := (focusKick s n false).u (R.BRL_STN_SEQ_STATUS_FLOCK n) 0
      seqEnter (s.seqU n (fun q => { q with count := 0, kickEnd := s.now })) n sqLAYER_TRANSIT 0
    else s
  else if st = sqLAYER_TRANSIT ∨ st = sqTRACK_JUMP then
    if q.sub = 0 then if passed (2500 * s.g (R.BRL_STN_JUMP_KICK_T n)) then kickOff s n 1 else s
    else if q.sub = 2 then if passed (2500 * s.g (R.BRL_STN_JUMP_BRAKE_T n)) then kickOff s n 3 else s
    else s
  else s

def execSequenceTimerExpiry (n : Fin 8) (s : State) : Host.Outcome State Fault Refusal := answer s (seqTimer n)

/-- Focus closes on bank 1 with the layer's focus offset (R203 step 4, R206 step 6). -/
def focusCloses (s : State) (n : Fin 8) (zero : Bool) : State :=
  let (v, s) := focusOf s n (seqTarget s n)
  let s := writeOffset s n tyFOCUS v
  let s := s.loopOf n tyFOCUS (fun l => { l with
    drive := .closed, seqBank := true, frozen := false, kick := 0, integ := if zero then 0 else l.integ })
  seqEnter (s.seqU n (fun q => { q with fGood := 0, fBad := 0, low := 0, held := none })) n sqFOCUS_SETTLE 0

/-- Tracking closes on bank 1 (R203 step 7, R205 step 3, R206 step 9). (log entry 23) -/
def trackCloses (s : State) (n : Fin 8) : State :=
  let s := s.loopOf n tyTRACK (fun l => { l with drive := .closed, seqBank := true, frozen := false, kick := 0 })
  seqEnter (s.seqU n (fun q => { q with tGood := 0, tBad := 0 })) n sqTRACK_SETTLE 0

/-- SEQUENCE_CROSSING (R203 to R206): a zero crossing of the error the sequence watches, or with `sCurve` D rising through
FOK_LEVEL. `d` is D of the focus slot at that moment, Q1.23. (log entry 22) -/
def seqCrossing (n : Fin 8) (sCurve : Bool) (d : Int) (s : State) : State :=
  let q := s.sq n
  let st := seqSt s n
  if st = sqSWEEP then
    if !sCurve ∧ q.sub ≠ 1 ∧ fokLevel s n ≤ d then focusCloses s n true else s
  else if st = sqTRACK_CLOSE then if !sCurve then trackCloses s n else s
  else if st = sqTRACK_JUMP then
    if sCurve then s
    else
      let c := q.count + 1
      let all := 8 * q.arg.natAbs
      let s := s.seqU n (fun q => { q with count := c })
      if c = all then trackCloses s n
      else if c + 2 = all then
        let s := if q.sub = 0 then kickOff s n 1 else s
        seqPart (trackKick s n true) n 2
      else s
  else if st = sqLAYER_TRANSIT then
    let need := (q.arg - s.g (R.BRL_STN_SEQ_STATUS_LAYER n)).natAbs
    if q.sub = 0 then s
    else if sCurve then
      let c := q.count + 1
      let s := s.seqU n (fun q => { q with count := c })
      if c = need ∧ q.sub = 1 then seqPart (focusKick s n true) n 2 else s
    else if need ≤ q.count ∧ 2 ≤ q.sub then focusCloses s n false else s
  else s

def execSequenceCrossing (n : Fin 8) (sCurve : Bool) (d : Int) (s : State) : Host.Outcome State Fault Refusal :=
  answer s (seqCrossing n sCurve d)

/-- FOCUS_SWEEP_END (R204): the focus output has reached the end of its traverse. -/
def sweepEnd (n : Fin 8) (s : State) : State :=
  let ended := match slotFor s n tyFOCUS with
    | some k => (match (s.loop k).drive with
      | .ramp _ _ i len => decide (len ≤ i)
      | _ => false)
    | none => true
  if seqSt s n ≠ sqSWEEP ∨ !ended then s
  else if (s.sq n).sub = 0 then seqPart (sweepFrom s n false) n 1
  else if (s.sq n).sub = 1 then seqPart (sweepFrom s n true) n 2
  else
    let s := parkLoop (logLockLost s n 0) n tyFOCUS
    let s := (locksOff s n).u (R.BRL_STN_SEQ_STATUS_FAILED n) 1
    disturbance (seqEnter s n sqIDLE 0) n 0

def execFocusSweepEnd (n : Fin 8) (s : State) : Host.Outcome State Fault Refusal := answer s (sweepEnd n)

/-- JUMP_TIMEOUT (R205, R207): the closing crossing is not reached within JUMP_TIMEOUT after the kick ends. -/
def jumpTimeout (n : Fin 8) (s : State) : State :=
  let q := s.sq n
  if (seqSt s n = sqTRACK_JUMP ∨ seqSt s n = sqLAYER_TRANSIT) ∧ q.sub ≠ 0 ∧
      q.kickEnd + 100000 * s.g (R.BRL_STN_SEQT_JUMP_TIMEOUT n) ≤ s.now then disturbance (seqFails s n) n 0
  else s

def execJumpTimeout (n : Fin 8) (s : State) : Host.Outcome State Fault Refusal := answer s (jumpTimeout n)

/-- JSP_ARM (R214): the configuration is copied and a capture starts from address 0. -/
def jspArm (s : State) : State :=
  let s := s.us [(R.JSP_STATUS_ARMED, 1), (R.JSP_STATUS_TRIGGERED, 0), (R.JSP_STATUS_WRAPPED, 0)]
  let trig := s.rd R.JSP_TRIG
  { s with jsp := { s.jsp with
    ctrl := s.rd R.JSP_CTRL, trig := trig, level := s.rd R.JSP_TRIG_LEVEL
    chans := Vector.ofFn (fun c => s.rd (R.JSP_CH c.val))
    ticks := 0, addr := 0, left := 0, due := false
    lastVal := if getF trig R.JSP_TRIG_MODE = 1 then 8388607 else -8388608 } }

def execJspArm (s : State) : Host.Outcome State Fault Refusal := answer s jspArm

/-- JSP_DISARM (R214). -/
def jspDisarm (s : State) : State := s.u R.JSP_STATUS_ARMED 0

def execJspDisarm (s : State) : Host.Outcome State Fault Refusal := answer s jspDisarm

/-- JSP_FORCE (R214, R219): the next sample of an armed capture triggers. -/
def jspForce (s : State) : State :=
  if s.on R.JSP_STATUS_ARMED ∧ !s.on R.JSP_STATUS_TRIGGERED then { s with jsp := { s.jsp with due := true } } else s

def execJspForce (s : State) : Host.Outcome State Fault Refusal := answer s jspForce

/-- JSP_CAPTURE_DONE (R214): POST further samples have been taken. -/
def jspCaptureDone (s : State) : State :=
  if s.on R.JSP_STATUS_ARMED ∧ s.on R.JSP_STATUS_TRIGGERED ∧ s.jsp.left = 0 then
    s.us [(R.JSP_STATUS_DONE, 1), (R.JSP_STATUS_ARMED, 0)]
  else s

def execJspCaptureDone (s : State) : Host.Outcome State Fault Refusal := answer s jspCaptureDone

end Sys2Proof.Machine
end

