-- ==== Sys2Proof/Machine/TruOps.lean ====
section
/-!
DEFINITION. Images, start-up and device resets (chapters "Trust, Start-up and Live Update" and "Faults and Degraded Operation").
-/

namespace Sys2Proof.Machine

/-- Change TRU. -/
def State.truU (s : State) (f : Tru → Tru) : State := { s with tru := f s.tru }

/-- A byte of the flash. An erased byte reads 0xFF (DESIGN CHOICE). (log entry 50) -/
def flashByte (s : State) (a : Nat) : Byte := (smGet s.tru.flash a).getD 0xFF#8

/-- A run of flash bytes. -/
def flashBytes (s : State) (a n : Nat) : List Byte := (List.range n).map (fun i => flashByte s (a + i))

/-- Where an image of a slot begins (R465). -/
def imageAt (slot : Nat) (cfg : Bool) : Nat := slot * 0x2000000 + (if cfg then 0x800000 else 0)

/-- A big-endian field of an image header (R466). -/
def imageNum (s : State) (slot : Nat) (cfg : Bool) (a k : Nat) : Nat := numBE (flashBytes s (imageAt slot cfg + a) k)

/-- MAGIC and FORMAT are right (R466): the header is readable. -/
def imageMagic (s : State) (slot : Nat) (cfg : Bool) : Bool :=
  imageNum s slot cfg 0 4 == (if cfg then 0x46593843 else 0x46593849) && imageNum s slot cfg 4 4 == 1

/-- The body of an image (R465, R466). -/
def imageBody (s : State) (slot : Nat) (cfg : Bool) : List Byte :=
  flashBytes s (imageAt slot cfg + 4096) (imageNum s slot cfg 16 4)

/-- The owner keys in force (R467): none until they are fused. -/
def ownerKeys (s : State) : Option (List Byte) :=
  if !s.on R.TRU_STATUS_OWNER_KEYS then none
  else if s.tru.ownerKeys.isEmpty then some Config.ownerKeys else some s.tru.ownerKeys

/-- An area of the flash overlaps one whose programming a power loss interrupted (R478). (log entry 53) -/
def tornIn (s : State) (a n : Nat) : Bool := s.tru.torn.any (fun t => decide (a < t.1 + t.2) && decide (t.1 < a + n))

/-- Why an image is rejected, as TRU_REJECT.CAUSE (R467, R482); 0 where it is accepted. An area that a power loss left half programmed
is rejected (R478), with a cause that the spec leaves open. (log entry 53) -/
def imageCause (s : State) (slot : Nat) (cfg : Bool) : Nat :=
  let area := if cfg then 0x400000 else 0x800000
  let room := area - 4096
  let head := flashBytes s (imageAt slot cfg) 88
  let keys := if cfg then ownerKeys s else none
  if !imageMagic s slot cfg then 1
  else if room < imageNum s slot cfg 16 4 then 2
  else if tornIn s (imageAt slot cfg) area then 1 + Config.tornCause % 7
  else if flashBytes s (imageAt slot cfg + 24) 64 ≠ sha512 (imageBody s slot cfg) then 3
  else if !Config.verifies false keys head (flashBytes s (imageAt slot cfg + 88) 64) then 4
  else if !Config.verifies true keys head (flashBytes s (imageAt slot cfg + 152) 3309) then 5
  else if imageNum s slot cfg 12 4 < s.g R.TRU_SEC_MIN then 6
  else if imageNum s slot cfg 8 4 ≠ imageNum s slot (!cfg) 8 4 then 7
  else 0

/-- A slot is accepted when both of its images are (R467). -/
def slotOk (s : State) (slot : Nat) : Bool := imageCause s slot false == 0 && imageCause s slot true == 0

/-- Each rejected image of a slot is recorded in TRU_REJECT and logged (R467). -/
def logRejects (s : State) (slot : Nat) : State :=
  s.each [false, true] (fun s cfg =>
    let c := imageCause s slot cfg
    if c = 0 then s
    else
      let s := s.us [(R.TRU_REJECT_SLOT, slot), (R.TRU_REJECT_IMAGE, b2n cfg), (R.TRU_REJECT_CAUSE, c)]
      s.log 0x601 noStation [(s.rd R.TRU_REJECT).toNat])

/-- The slot tried first (R468). -/
def firstSlot (s : State) : Nat :=
  if s.on R.TRU_STATUS_TRIAL_FAILED then s.tru.prior
  else if imageMagic s 0 false && imageMagic s 1 false && imageNum s 0 false 8 4 < imageNum s 1 false 8 4 then 1
  else 0

/-- A register value of the configuration image goes into both copies (R469 step 6): into the fields that can be written. -/
def imageReg (s : State) (p : Nat × Word) : State :=
  match regAt p.1 with
  | none => s
  | some r =>
    let fs := r.fields.filter (fun f => f.acc == .rw || f.acc == .rwa)
    let new := fs.foldl (fun (w : Word) f => setF w ⟨p.1, f.lo, f.w⟩ (p.2.toNat / 2 ^ f.lo)) (s.rd p.1)
    let s := s.wr p.1 new
    if configurable p.1 then { s with pend := wrR s.pend p.1 new } else s

/-- A lane that the configuration image leaves in a role takes its initial gain and taps (R93, R97). -/
def lanePrime (s : State) (l : Fin 68) : State :=
  if s.g (R.OPL_MODE_MODE l.val) = 0 then s
  else tapsLoad (gainLoad s l) l

/-- The images of an accepted slot run (R469 steps 4 to 7): its microcode, its configuration. -/
def runSlot (s : State) (slot : Nat) : State :=
  let body := imageBody s slot true
  let s := s.us [(R.TRU_STATUS_SLOT, slot), (R.TRU_SERIAL_SERIAL, imageNum s slot false 8 4)]
  let s := s.truU (fun t => { t with
    bootHdr := flashBytes s (imageAt slot false) 88, cfgHdr := flashBytes s (imageAt slot true) 88, ucodeSlot := slot })
  let sys : Sys := ⟨s.sys.held, true, s.sys.sysInit, Config.imageBringUp body, Config.imageSubsys body, s.sys.jtagTest⟩
  let buf : Buf := { s.buf with imageRetire := (Config.imageRetire body).take 4096 }
  let s := { s with sys := sys, buf := buf, lanes := s.lanes.map (fun (l : Lane) => { l with ucode := slot }) }
  let s := s.each (Config.imageRegs body) imageReg
  s.each allLanes lanePrime |> refreshLoad

/-- Severity of an event code (R492). -/
def severity (code cause : Nat) : Nat :=
  if code = 0x203 then 3
  else if code = 0x301 then (if cause = 2 then 2 else 1)
  else if [0x101, 0x10C, 0x502, 0x506, 0x602].contains code then 0
  else if [0x001, 0x002, 0x105, 0x108, 0x109, 0x202, 0x302, 0x404, 0x405, 0x505, 0x601].contains code then 1
  else 2

/-- The number of records that are not consumed (R486, R490): the counts wrap at 2^32. (log entry 57) -/
def unconsumed (s : State) : Nat := (s.g R.EVL_TAIL_COUNT + 2 ^ 32 - s.g R.EVL_HEAD_COUNT) % 2 ^ 32

/-- PENDING of EVL_STATUS follows the unconsumed records (R498, R524). -/
def refreshPending (s : State) : State :=
  s.u R.EVL_STATUS_PENDING (b2n ((s.evl.ring.take (unconsumed s)).any (fun r =>
    s.g R.EVL_CFG_INT_LEVEL ≤ severity r.ev.code r.ev.cause)))

/-- Start-up from step 2 (R468, R469, R470): the slot to run, or RECOVERY. -/
def startUp (s : State) : State :=
  let a := firstSlot s
  let b := 1 - a
  let s :=
    if slotOk s a then runSlot s a
    else
      let s := (logRejects s a).u R.TRU_STATUS_FALLBACK 1
      if slotOk s b then runSlot s b
      else
        let s := (logRejects s b).u R.TRU_STATUS_RECOVERY 1
        { s with sys := { s.sys with ready := true } }
  refreshPending s

/-- The registers a device reset keeps (R496, R524): GLB_RESET_CAUSE, the event log's counts and flags, the fuses, TRIAL and
TRIAL_FAILED with the slot they speak of, and Quartz. -/
def keptWord (s : State) (a : Nat) : Option Word :=
  if a = R.GLB_RESET_CAUSE ∨ a = R.EVL_TAIL ∨ a = R.EVL_HEAD ∨ a = R.EVL_DROPPED ∨ a = R.EVL_CNT_LOGGED ∨ a = R.TRU_SEC then
    some (s.rd a)
  else if a = R.EVL_STATUS then some ((s.rd a &&& 0x1C#32) ||| 1#32)
  else if a = R.TRU_STATUS then some (s.rd a &&& 0x39#32)
  else if 0x1D0000 ≤ a ∧ a < 0x1D8000 then some (s.rd a)
  else none

/-- The registers after a device reset. (log entry 49) -/
def keptRegs (s : State) : SMap Word := s.regs.filterMap (fun p => (keptWord s p.1).map (fun w => (p.1, w)))

/-- The bytes that a running PROGRAM or ERASE acts on, when a reset or a power loss interrupts it: the spec does not say what they hold,
free values do. (log entry 53) -/
def scrambled (s : State) : State :=
  match s.tru.flashOp with
  | none => s
  | some op =>
    if op.cmd = 0 then s
    else s.each (List.range op.len) (fun s i =>
      (s.truU (fun t => { t with flash := smSet 0xFF#8 t.flash ((op.addr + i) % 2 ^ 26) (BitVec.ofNat 8 s.freeVal) })).tick)

/-- What a device reset leaves (R496): the event log, Quartz, flash, fuses; what has been commanded and what has left the chip are
not the chip's to lose. EVL_STATUS and TRU_STATUS are set again, since their kept bits may equal their reset values. -/
def wiped (s : State) : State :=
  let s := scrambled s
  let t : State := { State.reset with
    pending := s.pending
    free := s.free
    out := s.out
    qtz := s.qtz
    evl := ⟨s.evl.ring, []⟩
    sys := { State.reset.sys with held := .no, jtagTest := s.sys.jtagTest }
    tru := { Tru.init with
      flash := s.tru.flash, ownerKeys := s.tru.ownerKeys, prior := s.tru.prior, trialFrom := s.tru.trialFrom, torn := s.tru.torn }
    stn := Vector.ofFn (fun (n : Fin 8) => { Stn.init with slow := (s.stn[n]).slow })
    pend := s.pend.filter (fun p => decide (0x1D0000 ≤ p.1 ∧ p.1 < 0x1D8000)) }
  [R.GLB_RESET_CAUSE, R.EVL_STATUS, R.TRU_STATUS, R.TRU_SEC].foldl (fun t a => t.wr a ((keptWord s a).getD 0))
    { t with regs := keptRegs s }

/-- A device reset (R496): its cause is recorded, and start-up follows from step 2. A watchdog reset during a trial tries the slot
that ran before it (R468). (log entry 49) -/
def deviceReset (s : State) (cause : FRef) (watchdog : Bool := false) : State :=
  let s := (wiped s).u cause 1
  let s :=
    if watchdog && s.on R.TRU_STATUS_TRIAL then s.us [(R.TRU_STATUS_TRIAL, 0), (R.TRU_STATUS_TRIAL_FAILED, 1)] else s
  startUp s

/-- A device reset that goes on until something ends it (R57, R522): the device is held. -/
def heldReset (s : State) (cause : FRef) (why : Held) : State :=
  let s := (wiped s).u cause 1
  { s with sys := { s.sys with held := why } }

end Sys2Proof.Machine
end

