-- ==== Sys2Proof/Machine/PcxOps.lean ====
section
/-!
DEFINITION. Shared operations of the PCI Express endpoint (chapter "PCI Express Endpoint"): configuration space, frozen masters,
requests and their tags, translation, what is sent and in which order, interrupts. Where the spec names a capability and not the
layout of its registers, the layout is that of the PCI Express Base Specification 5.0, to which R404 says the FY8C is built.
-/

namespace Sys2Proof.Machine

/-- Change the endpoint. -/
def State.pcxU (s : State) (f : Pcx → Pcx) : State := { s with pcx := f s.pcx }

/-- A capability header: identifier, version and next for an extended one; identifier and next for another. (log entry 9) -/
def capExt (id ver next : Nat) : Nat := next * 2 ^ 20 + ver * 2 ^ 16 + id
def capOld (id next : Nat) : Nat := next * 256 + id

/-- Reset values of the PF's configuration space (R404, R407, R408, R409, R410, R413), by byte offset; what those rules do not give is
the PCI Express Base Specification's (PRESUMED). (log entry 9) -/
def cfgResetPf (off : Nat) : Nat :=
  match off with
  | 0x00 => 0x2025 * 2 ^ 16 + Config.vendorId.toNat
  | 0x04 => 0x00100000
  | 0x08 => 0x01800010
  | 0x10 => 0x00000004
  | 0x18 => 0x0000000C
  | 0x20 => 0x00000004
  | 0x34 => 0x40
  | 0x3C => 0x00000100
  | 0x40 => capOld 0x01 0x50 + 3 * 2 ^ 16
  | 0x44 => 0x00000008
  | 0x50 => capOld 0x11 0x70 + 0x07FF * 2 ^ 16
  | 0x54 => 0x00030000
  | 0x58 => 0x00038000
  | 0x70 => capOld 0x10 0 + 2 * 2 ^ 16
  | 0x74 => 0x10008022
  | 0x78 => 0x00002000
  | 0x7C => 0x00400885
  | 0x94 => 0x00030000
  | 0x9C => 0x0000003E
  | 0xA0 => 0x00000005
  | 0x100 => capExt 0x0001 2 0x148
  | 0x108 => 0x00400000
  | 0x10C => 0x00462030
  | 0x114 => 0x0000E000
  | 0x118 => 0x000000A0
  | 0x148 => capExt 0x0003 1 0x158
  | 0x14C => Config.uid.toNat % 2 ^ 32
  | 0x150 => Config.uid.toNat / 2 ^ 32
  | 0x158 => capExt 0x000E 1 0x160
  | 0x160 => capExt 0x0019 1 0x180
  | 0x180 => capExt 0x0025 1 0x190
  | 0x190 => capExt 0x0026 1 0x1C0
  | 0x1C0 => capExt 0x0027 1 0x1E0
  | 0x1E0 => capExt 0x002A 1 0x220
  | 0x220 => capExt 0x0010 1 0x260
  | 0x22C => 255 * 2 ^ 16 + 255
  | 0x234 => 2 ^ 16 + 1
  | 0x238 => 0x2026 * 2 ^ 16
  | 0x23C => 0x0000001F
  | 0x240 => 0x00000001
  | 0x244 => 0x00000004
  | 0x260 => capExt 0x000F 1 0x270
  | 0x264 => 0x00000000
  | 0x270 => capExt 0x002E 1 0
  | _ => 0

/-- Reset values of a VF's configuration space (R407, R408). (log entry 9) -/
def cfgResetVf (off : Nat) : Nat :=
  match off with
  | 0x00 => 0x2026 * 2 ^ 16 + Config.vendorId.toNat
  | 0x04 => 0x00100000
  | 0x08 => 0x01800010
  | 0x34 => 0x50
  | 0x50 => capOld 0x11 0x70 + 0x0007 * 2 ^ 16
  | 0x54 => 0x00006000
  | 0x58 => 0x00007000
  | 0x70 => capOld 0x10 0 + 2 * 2 ^ 16
  | 0x74 => 0x10008022
  | 0x78 => 0x00002000
  | 0x7C => 0x00400885
  | 0x94 => 0x00030000
  | 0x9C => 0x0000003E
  | 0x100 => capExt 0x000E 1 0x110
  | 0x110 => capExt 0x000F 1 0
  | _ => 0

/-- The Page Aligned Request bit and the Invalidate Queue Depth of an ATS capability (R413): depth 32 reads 0. -/
def atsCap : Nat := 2 ^ 5

/-- Byte offset of the ATS control dword of a function. -/
def atsDw (fn : Nat) : Nat := if fn = 0 then 0x264 else 0x114

/-- The reset value of a dword of configuration space. -/
def cfgReset (s : State) (fn off : Nat) : Word :=
  BitVec.ofNat 32 (if off = atsDw fn then atsCap
    else if fn = 0 ∧ off = 0x2C then s.sys.subsys.toNat
    else if fn = 0 then cfgResetPf off else cfgResetVf off)

/-- A dword of configuration space. -/
def cfgRd (s : State) (fn off : Nat) : Word := (smGet s.pcx.cfg (1024 * fn + off / 4)).getD (cfgReset s fn off)

/-- Set a dword of configuration space. -/
def cfgPut (s : State) (fn off : Nat) (w : Word) : State :=
  s.pcxU (fun p => { p with cfg := smSet (cfgReset s fn off) p.cfg (1024 * fn + off / 4) w })

/-- Bit b of a dword of configuration space. -/
def cfgBit (s : State) (fn off b : Nat) : Bool := bitOf (cfgRd s fn off).toNat b == 1

/-- Writable bits of configuration space. (log entry 9) -/
def cfgMask (fn off : Nat) : Nat :=
  if off = atsDw fn then 0x801F * 2 ^ 16
  else
    match off with
    | 0x04 => if fn = 0 then 0x0546 else 0x0004
    | 0x0C => 0xFF
    | 0x10 => if fn = 0 then 0xFFC00000 else 0
    | 0x14 => if fn = 0 then 0xFFFFFFFF else 0
    | 0x18 => 0
    | 0x1C => if fn = 0 then 0xFFFFFFFC else 0
    | 0x20 => if fn = 0 then 0xFFFF0000 else 0
    | 0x24 => if fn = 0 then 0xFFFFFFFF else 0
    | 0x3C => if fn = 0 then 0xFF else 0
    | 0x44 => if fn = 0 then 0x3 else 0
    | 0x50 => 0xC000 * 2 ^ 16
    | 0x78 => 0x71EF
    | 0x80 => if fn = 0 then 0x1EB else 0
    | 0x98 => if fn = 0 then 0x100F else 0xF
    | 0x108 => if fn = 0 then 0x07FFFFFF else 0
    | 0x10C => if fn = 0 then 0x07FFFFFF else 0
    | 0x114 => if fn = 0 then 0xFFFF else 0
    | 0x118 => if fn = 0 then 0x140 else 0
    | 0x228 => if fn = 0 then 0x19 else 0
    | 0x230 => if fn = 0 then 0xFFFF else 0
    | 0x240 => if fn = 0 then 0x1F else 0
    | 0x244 => if fn = 0 then 0xFFFF0000 else 0
    | 0x248 => if fn = 0 then 0xFFFFFFFF else 0
    | _ => 0

/-- Bits that a write of 1 clears: the AER status registers and the Device Status. (log entry 9) -/
def cfgClear (fn off : Nat) : Nat :=
  if off = 0x78 then 0xF * 2 ^ 16 else if fn = 0 ∧ (off = 0x104 ∨ off = 0x110) then 0xFFFFFFFF else 0

/-- AER records an uncorrectable error (R423, R424, R425). (log entry 42) -/
def aer (s : State) (bit : Nat) : State :=
  let w := cfgRd s 0 0x104
  cfgPut s 0 0x104 (w ||| BitVec.ofNat 32 (2 ^ bit))

/-- VFs are enabled: this many (R409). -/
def numVfs (s : State) : Nat := if cfgBit s 0 0x228 0 then (cfgRd s 0 0x230).toNat % 65536 else 0

/-- The function exists. -/
def fnOn (s : State) (fn : Nat) : Bool := fn == 0 || fn ≤ numVfs s

/-- ATS Enable (R413), MSI-X Enable and Function Mask (R432) of a function. -/
def atsOn (s : State) (fn : Nat) : Bool := cfgBit s fn (atsDw fn) 31
def msixOn (s : State) (fn : Nat) : Bool := cfgBit s fn 0x50 31
def fnMasked (s : State) (fn : Nat) : Bool := cfgBit s fn 0x50 30

/-- The PF is in D3hot. -/
def inD3 (s : State) (fn : Nat) : Bool := fn == 0 && (cfgRd s 0 0x44).toNat % 4 == 3

/-- A function's memory BARs respond (R411): Memory Space Enable, for a VF that of SR-IOV, and not in D3hot. -/
def memOn (s : State) (fn : Nat) : Bool :=
  !inD3 s fn && (if fn = 0 then cfgBit s 0 0x04 1 else cfgBit s 0 0x228 3)

/-- A function may send requests of its own: Bus Master Enable is 1, and it is not in D3hot. (log entry 9) -/
def busMaster (s : State) (fn : Nat) : Bool := cfgBit s fn 0x04 2 && !inD3 s fn

/-- ECRC generation and ECRC check are enabled in AER (R404). (log entry 9) -/
def ecrcSent (s : State) : Bool := cfgBit s 0 0x118 6
def ecrcChecked (s : State) : Bool := cfgBit s 0 0x118 8

/-- Send a TLP: with ECRC where AER enables it (R404). -/
def State.emitTlp (s : State) (o : Out) : State := s.emit (if ecrcSent s then .digest o else o)

/-- Max_Payload_Size and Max_Read_Request_Size in force, bytes (R404). -/
def maxPayload (s : State) : Nat := min 512 (128 * 2 ^ ((cfgRd s 0 0x78).toNat / 32 % 8))
def maxRead (s : State) (fn : Nat) : Nat := min 4096 (128 * 2 ^ ((cfgRd s fn 0x78).toNat / 4096 % 8))

/-- The endpoint is CONTAINED (R425). -/
def contained (s : State) : Bool := s.on R.PCX_CONTAIN_CONTAINED

/-- The entry of PCX_FROZEN_LIST that holds a master, by kind and identifier (R430). -/
def frozenEntry (s : State) (kind id : Nat) : Option Nat :=
  (List.range 64).find? (fun i => s.on (R.PCX_FROZEN_LIST_VALID i) && s.g (R.PCX_FROZEN_LIST_KIND i) == kind &&
    s.g (R.PCX_FROZEN_LIST_ID i) == id)

def frozenRid (s : State) (rid : Nat) : Bool := (frozenEntry s 0 rid).isSome
def frozenVf (s : State) (v : Nat) : Bool := v != 0 && (frozenEntry s 1 v).isSome
def frozenPartner (s : State) : Bool := (frozenEntry s 2 0).isSome

/-- A function's own accesses are not served (R426, R430): a contained endpoint drops them, a frozen VF's are refused. -/
def vfShut (s : State) (fn : Nat) : Bool := !fnOn s fn || (fn != 0 && contained s) || frozenVf s fn || !memOn s fn

/-- What a posted write that is shut out leaves: an Unsupported Request, which AER records, unless the endpoint is contained (R411, R426, R430). (log entry 42) -/
def shutOut (s : State) : State := if contained s then s else aer s 20

/-- Registers of a VF's BAR0 (R35), by VF and offset. The MSI-X table's masks read 1 at reset (R432). -/
def vfReset (off : Nat) : Word := if 0x6000 ≤ off ∧ off < 0x6080 ∧ off % 16 = 12 then 1#32 else 0#32
def vfRd (s : State) (v off : Nat) : Word := (smGet s.vf (65536 * v + off)).getD (vfReset off)
def vfWr (s : State) (v off : Nat) (w : Word) : State :=
  { s with vf := smSet (vfReset off) s.vf (65536 * v + off) w }

/-- A dword of a function's MSI-X table, and its pending bit array (R408, R432). -/
def msixRd (s : State) (fn v k : Nat) : Word :=
  if fn = 0 then s.rd (0x30000 + 16 * v + 4 * k) else vfRd s fn (0x6000 + 16 * v + 4 * k)
def pbaRd (s : State) (fn v : Nat) : Word := if fn = 0 then s.rd (0x38000 + 4 * (v / 32)) else vfRd s fn 0x7000
def pbaWr (s : State) (fn v : Nat) (w : Word) : State := if fn = 0 then s.wr (0x38000 + 4 * (v / 32)) w else vfWr s fn 0x7000 w

/-- Vectors of a function's table (R408). -/
def vectorsOf (fn : Nat) : Nat := if fn = 0 then 2048 else 8

/-- The vector is masked (R432). -/
def masked (s : State) (fn v : Nat) : Bool := fnMasked s fn || bitOf (msixRd s fn v 3).toNat 0 == 1

/-- Send an MSI-X message, or set its pending bit (R432). -/
def sendMsix (s : State) (fn v : Nat) : State :=
  if !msixOn s fn then s
  else if masked s fn v then pbaWr s fn v (pbaRd s fn v ||| BitVec.ofNat 32 (2 ^ (v % 32)))
  else s.emitTlp (.memWrite fn ((msixRd s fn v 0).toNat + 2 ^ 32 * (msixRd s fn v 1).toNat) (bytesLE 4 (msixRd s fn v 2).toNat) false)

/-- Cut a run into parts of at most `step` bytes that cross no boundary of `step` bytes: offset, address, length. (log entry 41) -/
def cutRun (step : Nat) : Nat → Nat → Nat → Nat → List (Nat × Nat × Nat)
  | 0, _, _, _ => []
  | k + 1, off, addr, len =>
    if len = 0 then []
    else
      let n := min len (step - addr % step)
      (off, addr, n) :: cutRun step k (off + n) (addr + n) (len - n)

/-- The parts of a list of runs, offsets counting through. -/
def cutRuns (step off : Nat) : List Desc → List (Nat × Nat × Nat)
  | [] => []
  | d :: t => cutRun step (d.len + 1) off d.addr d.len ++ cutRuns step (off + d.len) t

/-- The tags that requests may carry (R404): the first and how many. 10-bit tags are those from 256 on, where 10-Bit Tag Requester Enable is 1; else there
are 256 with Extended Tag Field Enable, and 32 without. (log entry 9) -/
def tagRange (s : State) : Nat × Nat :=
  if cfgBit s 0 0x98 12 then (256, 768) else if cfgBit s 0 0x78 8 then (0, 256) else (0, 32)

/-- A free tag, while fewer than 512 are in use or in quarantine (R404, R424). Which one the spec leaves open: a free value picks it. (log entry 16) -/
def freeTag (s : State) : Option Nat :=
  let used := s.pcx.reqs.map NpReq.tag ++ s.pcx.quarantine.map Prod.fst
  let (lo, n) := tagRange s
  if 512 ≤ used.length || (List.range n).all (fun i => used.contains (lo + i)) then none
  else some (lo + probe (s.freeVal % n) n (fun i => used.contains (lo + i)) used.length)

/-- A cached translation of a page (R413). -/
def atsFind (s : State) (fn page : Nat) : Option AtsEntry := s.pcx.ats.find? (fun e => e.fn == fn && e.page == page)

/-- How an access goes out: at which address and whether translated; or it must wait for a translation (R413). -/
inductive Route
  | go (addr : Nat) (translated : Bool)
  | wait
deriving DecidableEq, Repr

/-- Route an access of a function (R413). -/
def route (s : State) (fn addr : Nat) (isWrite : Bool) : Route :=
  let page := addr / 4096
  if !atsOn s fn || s.pcx.plain.contains (fn, page) then .go addr false
  else match atsFind s fn page with
    | some e => if (if isWrite then e.wr else e.rd) then .go (e.phys * 4096 + addr % 4096) true else .go addr false
    | none => .wait

/-- Ask for the translation of a page, unless it has been asked for (R413). -/
def askTrans (s : State) (fn page : Nat) : State :=
  if s.pcx.reqs.any (fun r => r.read.fn == fn && r.read.use == .trans page) then s
  else match freeTag s with
    | none => s
    | some t => (s.tick.emitTlp (.translate fn t page)).pcxU (fun p => { p with
        reqs := p.reqs ++ [⟨t, ⟨fn, .trans page, 0, page * 4096, 0⟩, s.now, none, []⟩] })

/-- What cannot be read for now: a function that is no bus master sends nothing, and of a frozen VF no queue entry is fetched (R399, R431). -/
def readHeld (s : State) (r : DmaRead) : Bool :=
  !busMaster s r.fn || (frozenVf s r.fn && (match r.use with | .sqe _ => true | .list _ => true | _ => false))

/-- Issue the reads that can go, in order; the others wait. -/
def pumpReads (s : State) : List DmaRead → State
  | [] => s
  | r :: t =>
    let keep := fun (s : State) => s.pcxU (fun p => { p with wait := p.wait ++ [r] })
    if readHeld s r then pumpReads (keep s) t
    else match freeTag s with
    | none => pumpReads (keep s) t
    | some tag =>
      match route s r.fn r.addr false with
      | .wait => pumpReads (keep (askTrans s r.fn (r.addr / 4096))) t
      | .go a tr =>
        pumpReads ((s.tick.emitTlp (.memRead r.fn tag a r.len tr)).pcxU (fun p => { p with
          reqs := p.reqs ++ [⟨tag, r, s.now, if tr then some (r.addr / 4096) else none, []⟩] })) t

/-- What cannot be sent while its function is no bus master. -/
def txHeld (s : State) : Tx → Bool
  | .write fn _ _ => !busMaster s fn
  | .msix fn v => !busMaster s fn && msixOn s fn && !masked s fn v
  | .intx _ => false

/-- Send what waits, in order, as far as translations allow (R393, R412). What a function that is no bus master has to send stays. -/
def pumpTx (s : State) : List Tx → State
  | [] => s
  | x :: t =>
    if txHeld s x then (pumpTx s t).pcxU (fun p => { p with tx := x :: p.tx })
    else match x with
      | .write fn addr bytes =>
        match route s fn addr true with
        | .wait => (askTrans s fn (addr / 4096)).pcxU (fun p => { p with tx := .write fn addr bytes :: t })
        | .go a tr => pumpTx (s.emitTlp (.memWrite fn a bytes tr)) t
      | .msix fn v => pumpTx (sendMsix s fn v) t
      | .intx on => pumpTx (s.emitTlp (.intx on)) t

/-- The endpoint sends what it can: nothing while CONTAINED (R426). -/
def pump (s : State) : State :=
  if contained s then s
  else
    let tx := s.pcx.tx
    let wait := s.pcx.wait
    let s := pumpTx (s.pcxU (fun p => { p with tx := [] })) tx
    pumpReads (s.pcxU (fun p => { p with wait := [] })) wait

/-- Something that waits to be sent touches a page of a function. -/
def touchesPage (p : Pcx) (fn page : Nat) : Bool :=
  p.wait.any (fun r => r.fn == fn && r.addr / 4096 == page) ||
    p.tx.any (fun x => match x with | .write f a _ => f == fn && a / 4096 == page | _ => false)

/-- Read runs of host memory for a purpose, cut at Max_Read_Request_Size (R404). -/
def dmaRead (s : State) (fn : Nat) (use : DmaFor) (off : Nat) (l : List Desc) : State :=
  let parts := cutRuns (maxRead s fn) off l
  pump (s.pcxU (fun p => { p with wait := p.wait ++ parts.map (fun q => ⟨fn, use, q.1, q.2.1, q.2.2⟩) }))

/-- Write bytes to runs of host memory, cut at Max_Payload_Size (R404). -/
def dmaWrite (s : State) (fn : Nat) (l : List Desc) (bytes : List Byte) : State :=
  let parts := cutRuns (maxPayload s) 0 l
  pump (s.pcxU (fun p => { p with tx := p.tx ++ parts.map (fun q => .write fn q.2.1 ((bytes.drop q.1).take q.2.2)) }))

/-- Send an MSI-X message after what is already to be sent (R393). -/
def raiseMsix (s : State) (fn v : Nat) : State := pump (s.pcxU (fun p => { p with tx := p.tx ++ [.msix fn v] }))

/-- A PF queue holds unconsumed entries (R434): the admin CQ, or an I/O CQ with IEN. -/
def pfUnread (s : State) (admin : Bool) : Bool :=
  s.hqe.cqs.any (fun c => decide (c.1 < 8192) && (c.2.head != c.2.tail) && (if admin then c.1 == 0 else c.1 != 0 && c.2.ien))

/-- A qualifying record is unconsumed (R493). -/
def qualifying (s : State) : Bool :=
  (s.evl.ring.take (unconsumed s)).any (fun r => s.g R.EVL_CFG_INT_LEVEL ≤ severity r.ev.code r.ev.cause)

/-- PCX_INTX follows its causes, and INTA follows it (R433, R434, R494). -/
def refreshIntx (s : State) : State :=
  let pend := b2n (pfUnread s true) + 2 * b2n (pfUnread s false) + 4 * b2n (s.on R.EVL_CFG_INT_EN && qualifying s) +
    8 * b2n (contained s) + 16 * b2n (s.g R.PCX_FROZEN_STATUS_COUNT != 0)
  let wire := !msixOn s 0 && !cfgBit s 0 0x04 10 && (Nat.land pend (31 - s.g R.PCX_INTX_MASK) != 0)
  let was := s.on R.PCX_INTX_WIRE
  let s := s.us [(R.PCX_INTX_PENDING, pend), (R.PCX_INTX_WIRE, b2n wire)]
  let w := cfgRd s 0 0x04
  let s := cfgPut s 0 0x04 ((w &&& ~~~ 0x80000#32) ||| BitVec.ofNat 32 (b2n wire * 0x80000))
  if was = wire then s else pump (s.pcxU (fun p => { p with tx := p.tx ++ [.intx wire] }))

/-- The outstanding requests and waiting accesses a condition picks are given up: their tags go into quarantine (R423, R426). -/
def giveUp (s : State) (c : DmaRead → Bool) : State :=
  s.pcxU (fun p => { p with
    wait := p.wait.filter (fun r => !c r)
    quarantine := p.quarantine ++ (p.reqs.filter (fun r => c r.read)).map (fun r => (r.tag, r.read.fn, s.now))
    reqs := p.reqs.filter (fun r => !c r.read) })

/-- An Invalidate Request is answered once nothing it waits for is outstanding (R414). -/
def answerInvs (s : State) : State :=
  let live := s.pcx.reqs.map NpReq.tag
  let done := s.pcx.invs.filter (fun i => !i.waits.any (fun t => live.contains t))
  let s := s.pcxU (fun p => { p with invs := p.invs.filter (fun i => i.waits.any (fun t => live.contains t)) })
  s.each done (fun s i => (s.emitTlp (.invalidated i.fn i.itag)).bump R.PCX_CNT_INVALIDATIONS)

/-- Credits are held back (R422): posted writes of every requester wait for them. (log entry 86) -/
def creditsHeld (s : State) : Bool := s.pcx.hold.isSome

/-- A posted write waits for credits, behind those that came before it (R412, R422). (log entry 86) -/
def postpone (s : State) (p : Posted) : State := s.pcxU (fun x => { x with posted := x.posted ++ [p] })

end Sys2Proof.Machine
end

