-- ==== Sys2Proof/Machine/CglOps.lean ====
section
/-!
DEFINITION. Pairing as the other blocks see it (chapter "Pairing and the Dorak Ring"): which volumes are homed here, what is
mirrored, sending flits.
-/

namespace Sys2Proof.Machine

/-- The twin copy of a volume of the partner's is recorded here (R440): its clusters close at the home's close points. -/
def copyVol (s : State) (v : Nat) : Bool := mirroring s && pairMode s == 1 && !homeVol s v

/-- Commands of volume v wait for the end of a handback (R449). -/
def handingVol (s : State) (v : Nat) : Bool := pairSt s == pHANDING_BACK && bitOf s.cgl.handing.toNat v == 1

/-- CGL_SYNC_REMAIN counts the pages still to be sent in catch-up (R448). -/
def refreshSync (s : State) : State :=
  s.u R.CGL_SYNC_REMAIN_PAGES ((s.cgl.sync.filter (fun b => match b with | .catchUp .. => true | _ => false)).length + s.cgl.due.length)

/-- Send data flits while the link carries them and the replay buffer of 1,024 flits has room (R437); what is left. -/
def pumpFlits (s : State) : List FlitBody → State × List FlitBody
  | [] => (s, [])
  | b :: t =>
    if s.cgl.up && !s.cgl.retraining && s.cgl.replay.length < 1024 then
      let q := s.cgl.txSeq
      pumpFlits ((s.emit (.flit q b)).cglU (fun c => { c with
        txSeq := (q + 1) % 4096, replay := c.replay ++ [⟨q, b, 0⟩] })) t
    else (s, b :: t)

/-- Send what waits: catch-up traffic uses what mirroring leaves (R448). -/
def pumpCgl (s : State) : State :=
  let (s, q) := pumpFlits s s.cgl.sendQ
  let s := s.cglU (fun c => { c with sendQ := q })
  if q.isEmpty then
    let (s, y) := pumpFlits s s.cgl.sync
    refreshSync (s.cglU (fun c => { c with sync := y }))
  else s

/-- Queue data flits to the partner, and send what can be sent. -/
def sendFlits (s : State) (l : List FlitBody) : State := if mirroring s then pumpCgl (queueFlits s l) else s

/-- The admission record of a write (R440). -/
def writeRec (c : Cmd) : WriteRec := ⟨c.adm, c.sqe.vol, c.sqe.lba, c.sqe.blocks, c.ver, c.sqe.group, c.sqe.reel⟩

/-- The partner learns that a write has been admitted, or that it ended without acknowledgement (R440, R441). (log entry 60) -/
def mirrorAdmission (s : State) (c : Cmd) : State := if mirrors s c.sqe.vol then sendFlits s [.record (writeRec c)] else s
def mirrorEnd (s : State) (c : Cmd) : State := if mirrors s c.sqe.vol then sendFlits s [.ended (writeRec c)] else s

/-- A mirrored page (R440). -/
def pageFlit (p : Page) (last : Bool) : FlitBody := .page p.vol p.lba p.ver p.group p.reel p.adm last p.bytes

/-- Mirror pages of a home volume as they arrive (R440). -/
def mirrorPages (s : State) (bs : List Nat) : State :=
  let ps := bs.filterMap (fun b => smGet s.buf.pages b)
  sendFlits s (((ps.filter (fun p => mirrors s p.vol)).zipIdx).map (fun q => pageFlit q.1 (q.2 + 1 == ps.length)))

/-- The partner learns that pages may be freed as far as this FY8C goes (R318, R440): the home says so of its own volumes, and in twin mode each says
so of what it has recorded. -/
def releaseFlits (s : State) (bs : List Nat) (how : Freed) : State :=
  sendFlits s ((bs.filterMap (fun b => smGet s.buf.pages b)).filterMap (fun p =>
    if homeVol s p.vol || (how == .mapped && pairMode s == 1) then some (.release p.vol p.lba p.ver how) else none))

/-- Pages may be freed: stage 9 of R21. In twin mode, where both record a page, it is freed once both copies may be (R318); in span mode the
partner frees its copy with the home. (log entry 60) -/
def letGo (s : State) (bs : List Nat) : State :=
  if !mirroring s then freePages s bs
  else
    let t := releaseFlits s bs .mapped
    if pairMode s = 2 then freePages t bs
    else freePages t (bs.filter (fun b => ((smGet s.buf.pages b).map (fun p => !p.mirrored || p.peerFree)).getD true))

/-- The pages of a group, or of none, that are mapped and wait to be freed no longer than for the partner (R21, R318). -/
def mappedPages (s : State) (c : Page → Bool) : List Nat := pagesWhere s (fun p => p.mapped && grpVisible s p.group && c p)

/-- The pages of a write are confirmed by the partner where they must be, and no retraining holds acknowledgements (R437, R441). -/
def confirmed (s : State) (vol : Nat) (bs : List Nat) : Bool :=
  !mirrors s vol || (!s.cgl.retraining && bs.all (fun b => ((smGet s.buf.pages b).map Page.mirrored).getD true))

/-- Groups and reels of the partner's keep numbers of their own here: the partner's number and 2³². (log entry 60) -/
def peerNum (n : Nat) : Nat := if n = 0 then 0 else n % 2 ^ 32 + 2 ^ 32

/-- The latest timecode, 0 without TC_VALID (R475, R492). (log entry 65) -/
def timecode (s : State) : Nat := if s.on R.QTZ_STATUS_TC_VALID then (s.rd R.QTZ_TC).toNat else 0

/-- The pages held for reading a volume that was taken over in span mode (R447): its map is the shadow map. (log entry 60) -/
def shadowView (s : State) : State := { s with grn := { s.grn with entries := s.cgl.shadow } }

/-- A volume taken over in span mode is read through the shadow map as well. -/
def shadowed (s : State) (v : Nat) : Bool := pairMode s == 2 && bitOf s.cgl.taken.toNat v == 1

end Sys2Proof.Machine
end

