-- ==== Sys2Proof/Machine/HqeOps.lean ====
section
/-!
DEFINITION. Shared operations of the queue engine (chapter "Host Queues and Commands"): queues and tags, versions, conflicts,
acknowledgement, how writes end, reels, windows, frozen masters, function resets, the host-side power states.
-/

namespace Sys2Proof.Machine

/-- Change the queue engine. -/
def State.hqeU (s : State) (f : Hqe → Hqe) : State := { s with hqe := f s.hqe }

/-- HQE_TAGS follows (R389). -/
def refreshTags (s : State) : State :=
  s.u R.HQE_TAGS_FREE (16384 - (s.hqe.cmds.filter (fun c => c.window.isNone)).length)

def sqOf (s : State) (fn q : Nat) : Option Sq := smGet s.hqe.sqs (qKey fn q)
def cqOf (s : State) (fn q : Nat) : Option Cq := smGet s.hqe.cqs (qKey fn q)

/-- The admin registers of a function (R369): HQE's, or the VF's own at the same offsets. -/
def aqRd (s : State) (fn off : Nat) : Word := if fn = 0 then s.rd (0x10000 + off) else vfRd s fn off
def aqWr (s : State) (fn off : Nat) (w : Word) : State := if fn = 0 then s.wr (0x10000 + off) w else vfWr s fn off w
def aqAddr (s : State) (fn off : Nat) : Nat :=
  ((aqRd s fn off).toNat + 2 ^ 32 * (aqRd s fn (off + 4)).toNat) / 4096 * 4096

/-- The queue pairs held (R368): keys of SQs and CQs, and of the admin pairs that are enabled. -/
def pairsHeld (s : State) : List Nat :=
  ((s.hqe.sqs.map Prod.fst) ++ (s.hqe.cqs.map Prod.fst) ++
    ((List.range 256).filter (fun fn => (aqRd s fn 0x214).toNat % 2 == 1)).map (fun fn => qKey fn 0)).eraseDups

/-- HQE_QUEUES follows (R368). -/
def refreshQueues (s : State) : State := s.u R.HQE_QUEUES_FREE (8192 - (pairsHeld s).length)

/-- Set or remove queues. -/
def sqPut (s : State) (fn q : Nat) (x : Sq) : State := s.hqeU (fun h => { h with sqs := smPut h.sqs (qKey fn q) x })
def cqPut (s : State) (fn q : Nat) (x : Cq) : State := s.hqeU (fun h => { h with cqs := smPut h.cqs (qKey fn q) x })
def sqDrop (s : State) (fn q : Nat) : State :=
  refreshQueues (s.hqeU (fun h => { h with sqs := smErase h.sqs (qKey fn q) }))
def cqDrop (s : State) (fn q : Nat) : State :=
  refreshQueues (s.hqeU (fun h => { h with cqs := smErase h.cqs (qKey fn q) }))

/-- Admin queues run (R369, R315). -/
def adminRuns (s : State) : Bool := s.sys.sysInit || s.g R.BUF_STATUS_TRAIN_FAIL != 0

/-- An enabled admin pair starts running (R369), once the 8,192 pairs have room for it (R368). (log entry 91) -/
def adminStart (s : State) (fn : Nat) : State :=
  let w := (aqRd s fn 0x214).toNat
  if w % 4 = 1 ∧ adminRuns s = true ∧ fnOn s fn = true ∧ (pairsHeld s).length ≤ 8192 then
    let cfg := (aqRd s fn 0x210).toNat
    let sq : Sq := ⟨aqAddr s fn 0x200, max 1 (cfg / 65536 % 4096) + 1, 0, 0, 0, 4, false, none⟩
    let cq : Cq := ⟨aqAddr s fn 0x208, max 1 (cfg % 4096) + 1, 0, 0, true, 0, true⟩
    refreshQueues (cqPut (sqPut (aqWr s fn 0x214 3#32) fn 0 sq) fn 0 cq)
  else s

/-- A queue is gone: admin pairs that waited for room start (R368, R369). -/
def pairFreed (s : State) : State := s.each (List.range 256) adminStart

/-- A pair that is being taken down is gone once its commands have written their entries (R369). -/
def adminEnd (s : State) (fn : Nat) : State :=
  match sqOf s fn 0 with
  | none => s
  | some q =>
    if q.stopped && !s.hqe.cmds.any (fun c => c.fn == fn && c.sq == 0 && c.window.isNone) &&
        !s.hqe.fetched.any (fun f => f.fn == fn && f.sq == 0) then
      pairFreed (refreshQueues (refreshIntx (aqWr (cqDrop (sqDrop s fn 0) fn 0) fn 0x214 (aqRd s fn 0x214 &&& 1#32))))
    else s

/-- A function owns a volume (R398). -/
def ownsVol (s : State) (fn v : Nat) : Bool :=
  if fn = 0 then s.on (R.HQE_VOL_OWNER_PF v) else s.on (R.HQE_VOL_OWNER_VF_EN v) && s.g (R.HQE_VOL_OWNER_VF v) == fn

/-- A master owns a volume (R398). -/
def masterOwnsVol (s : State) (v : Nat) : Master → Bool
  | .pins => s.on (R.HQE_VOL_OWNER_PINS v)
  | .ring => s.on (R.HQE_VOL_OWNER_RING v)
  | .pf => ownsVol s 0 v
  | .vf f => f != 0 && ownsVol s f v
  | .partner => s.on (R.HQE_VOL_OWNER_PARTNER v)

/-- The size of a volume in blocks (R403). -/
def volSize (s : State) (v : Nat) : Nat := s.g64 (R.HQE_VOL_SIZE_LO v)

/-- Two runs of blocks overlap. -/
def overlaps (a n b m : Nat) : Bool := decide (a < b + m) && decide (b < a + n)

/-- The place at which a command ends or has passed its effective point (R391). -/
def pastEffect (c : Cmd) : Bool := c.st == .effective || c.st == .completing

/-- The highest version any block of a range holds, admitted writes included (R333). (log entry 37) -/
def topVersion (s : State) (v lba n : Nat) : Nat :=
  let maps := (logicals s).map Prod.snd ++ (if shadowed s v then (logicals (shadowView s)).map Prod.snd else [])
  let l := (maps.filter (fun e => e.vol == v && overlaps e.lba e.blocks lba n)).map LogicalE.version ++
    ((s.buf.pages.map Prod.snd).filter (fun p => p.vol == v && overlaps p.lba 1 lba n)).map Page.ver ++
    (s.hqe.cmds.filter (fun c => c.sqe.op == oWRITE && c.sqe.vol == v && overlaps c.sqe.lba c.sqe.blocks lba n &&
      c.st != .completing)).map Cmd.ver
  l.foldl max 0

/-- Two commands conflict (R390): c was admitted after d. -/
def conflicts (c d : Cmd) : Bool :=
  let rw := fun (x : Cmd) => x.sqe.op == oWRITE || x.sqe.op == oREAD
  c.sqe.vol == d.sqe.vol &&
    ((rw c && rw d && (c.sqe.op == oWRITE || d.sqe.op == oWRITE) && overlaps c.sqe.lba c.sqe.blocks d.sqe.lba d.sqe.blocks) ||
      (c.sqe.op == oFLUSH && d.sqe.op == oWRITE))

/-- An earlier conflicting command has not reached its effective point (R391). -/
def heldBack (s : State) (c : Cmd) : Bool :=
  s.hqe.cmds.any (fun d => d.adm < c.adm && conflicts c d && !pastEffect d)

/-- The blocks that a FLUSH of volume v covers from now on (R359, R382): those visible at this moment and still in the buffer, with the rest of
each commit group they belong to, since a checkpoint holds a group completely or not at all (R358). At a volume's copy every block there
counts. (log entry 79) -/
def coverOf (s : State) (v : Nat) : List (Nat × Nat × Nat) :=
  let ps := s.buf.pages.map Prod.snd
  let mine := fun (p : Page) => p.vol == v && !p.lost && (p.st == .acked || p.st == .joined) &&
    (copyVol s v || (!p.foreign && grpVisible s p.group))
  let groups := ((ps.filter mine).map Page.group ++ ((logicals s).filter (fun q => q.2.vol == v && grpVisible s q.2.group)).map
    (fun q => q.2.group)).filter (· != 0)
  (ps.filter (fun p => mine p || (groups.contains p.group && !p.lost && !(p.foreign && p.st == .inBuffer)))).map (fun p => (p.vol, p.lba, p.ver))

/-- The runs of blocks of volume v that a FLUSH covers and that are mapped already (R382). -/
def mappedOf (s : State) (v : Nat) : List (Nat × Nat × Nat) :=
  ((logicals s).filter (fun q => q.2.vol == v && !q.2.lost && grpVisible s q.2.group)).map (fun q => (q.2.lba, q.2.blocks, q.2.version))

/-- A FLUSH settles what it covers at the moment at which every WRITE of its volume admitted before it has completed (R382). -/
def settleFlushes (s : State) : State :=
  s.each (s.hqe.cmds.filter (fun c => c.sqe.op == oFLUSH && c.st == .running && c.cover.isNone && !heldBack s c)) (fun s c =>
    cmdU s c.tag (fun c => { c with cover := some (coverOf s c.sqe.vol, mappedOf s c.sqe.vol) }))

/-- The reads of host memory a condition picks serve nothing any more. -/
def orphan (s : State) (c : DmaRead → Bool) : State :=
  s.pcxU (fun p => { p with
    wait := p.wait.filter (fun r => !c r)
    reqs := p.reqs.map (fun r => if c r.read then { r with read := { r.read with use := .orphan } } else r) })

/-- Roll a group back here and at the partner (R354, R440). (log entry 37) -/
def rollbackBoth (s : State) (id : Nat) : State :=
  match grpOf s id with
  | some g => if g.st == .opened || g.st == .closing then sendFlits (rollback s id) [.group id 3] else s
  | none => s

/-- A write ends without acknowledgement (R379, R380, R396, R399): its transfers stop, its pages are freed, its group is rolled
back, and it completes with a status. -/
def endWrite (s : State) (c : Cmd) (status : Nat) : State :=
  let s := orphan s (fun r => r.use == .data c.tag)
  let s := freePages (mirrorEnd s c) c.bpns
  let s := cmdU s c.tag (fun x => { x with bpns := [], dead := true })
  let s := settleFlushes (complete s c.tag status)
  if c.sqe.group = 0 then s else rollbackBoth s c.sqe.group

/-- An older version of a block that has been superseded before it left the buffer is freed (R318). (log entry 37) -/
def dropSuperseded (s : State) (v lba ver : Nat) : State :=
  let old := pagesWhere s (fun p => p.vol == v && p.lba == lba && p.ver < ver && p.st == .acked && grpVisible s p.group && !p.foreign)
  if old.isEmpty then s else freePages (releaseFlits s old .superseded) old

/-- A window's ACK advances past a write (R418, R419), and the notify write follows where a step is passed. -/
def advanceAck (s : State) (w blocks : Nat) : State :=
  let k := w % 256
  let was := s.g64 (R.PCX_WIN_ACK_LO k)
  let ack := was + 4096 * blocks
  let s := s.u64 (R.PCX_WIN_ACK_LO k) ack
  let step := 4096 * 2 ^ s.g (R.PCX_WIN_CFG_NOTIFY_GRAN k)
  let addr := s.g64 (R.PCX_WIN_NOTIFY_LO k)
  let due := decide (was / step < ack / step)
  let s := sendFlits s [.ack k ack]
  if due && addr != 0 then dmaWrite s (s.g (R.PCX_WIN_CFG_OWNER k)) [⟨addr, 8⟩] (bytesLE 8 ack) else s

/-- A write can be acknowledged (R391, R418, R441): its data is in the buffer, every earlier conflicting command and every earlier
write of its window is past its point, the partner has confirmed. -/
def ackReady (s : State) (c : Cmd) : Bool :=
  c.sqe.op == oWRITE && c.st == .inBuffer && !heldBack s c && confirmed s c.sqe.vol c.bpns &&
    !s.hqe.cmds.any (fun d => c.window.isSome && d.window == c.window && d.adm < c.adm && d.sqe.reel == c.sqe.reel)

/-- A write is acknowledged (R21 stage 3, R336, R380): its pages may join clusters, older versions it supersedes are freed, blocks of it that were
lost leave the buffer (R324), and it completes with its version. The data of a write whose group was rolled back is discarded (R354). -/
def ackWrite (s : State) (c : Cmd) : State :=
  let s := pagesU s (fun b _ => c.bpns.contains b) (fun p => { p with st := if p.st = .inBuffer then .acked else p.st })
  let s := cmdU s c.tag (fun x => { x with st := .effective })
  let s := if c.sqe.group = 0 && !c.dead then
      s.each (List.range c.sqe.blocks) (fun s i => dropSuperseded s c.sqe.vol (c.sqe.lba + i) c.ver) else s
  let s := grpU s c.sqe.group (fun g => { g with good := g.good + 1 })
  let s := freePages s (c.bpns.filter (fun b => ((smGet s.buf.pages b).map Page.lost).getD false))
  let s := settleFlushes (complete s c.tag cSUCCESS c.ver)
  match c.window with
  | some w => if s.g (R.PCX_WIN_REEL_REEL (w % 256)) = c.sqe.reel then advanceAck s w c.sqe.blocks else s
  | none => s

/-- The reel of this FY8C with a serial (R383). -/
def reelOf (s : State) (serial : Nat) : Option Reel := s.grn.reels.find? (fun r => r.serial == serial && serial != 0)

/-- Change a reel. -/
def reelU (s : State) (serial : Nat) (f : Reel → Reel) : State :=
  { s with grn := { s.grn with reels := s.grn.reels.map (fun r => if r.serial = serial then f r else r) } }

/-- A window is unbound (R384): the bytes of incomplete blocks are discarded. -/
def unbindWin (s : State) (w : Nat) : State :=
  let f : Fin 256 := ⟨w % 256, Nat.mod_lt _ (by omega)⟩
  let bs := ((s.pcx.wins[f]).parts).map WinPart.bpn
  let s := freePages s bs
  let s := s.us [(R.PCX_WIN_STATUS_BOUND f.val, 0), (R.PCX_WIN_REEL_REEL f.val, 0)]
  s.pcxU (fun p => { p with wins := vmod p.wins f (fun x => { x with parts := [], admitted := 0 }) })

/-- A reel stops taking data (R384 step 1). -/
def stopReel (s : State) (r : Reel) : State :=
  let s := match r.window with
    | some w => unbindWin s w
    | none => s
  reelU s r.serial (fun x => { x with st := .closing, window := none })

/-- Every block of a stream that is acknowledged joins its cluster, k of them at most (R132). -/
def joinAll (s : State) (vol reel : Nat) : Nat → State
  | 0 => s
  | k + 1 => if (nextBlock s vol reel).isNone then s else joinAll (blockJoinCluster vol reel s) vol reel k

/-- A reel that no longer takes data has drained: no write of it is under way, no block of it waits for a cluster (R384). -/
def reelDrained (s : State) (r : Reel) : Bool :=
  !s.hqe.cmds.any (fun c => c.sqe.op == oWRITE && c.sqe.reel == r.serial && c.sqe.vol == r.vol && !pastEffect c)

/-- A closing reel goes on to be closed where it can (R384): its blocks join, its cluster and stripe close, its close completes. -/
def closeReel (s : State) (serial : Nat) : State :=
  match reelOf s serial with
  | none => s
  | some r =>
    if r.st ≠ .closing ∨ reelDrained s r = false then s
    else
      let s := joinAll s r.vol r.serial (s.buf.pages.length + 1)
      if (nextBlock s r.vol r.serial).isSome then s
      else
        let s := closeStream s r.vol r.serial
        let tc := timecode s
        let s := if r.copy then s else reelU s serial (fun x => { x with st := .closed, closeTime := s.now, closeTc := tc })
        let s := if r.copy then reelU s serial (fun x => { x with st := .closed }) else s
        let n := ((reelOf s serial).map Reel.blocks).getD 0
        let s := if mirrors s r.vol then sendFlits s [.reel serial r.vol (.closed n s.now tc)] else s
        match r.closeTag with
        | some t => complete s t cSUCCESS
        | none => s

/-- Enter a master in PCX_FROZEN_LIST (R429 to R431), with what HQE does for a VF (R399). A master that is frozen already is not
entered again. -/
def freeze (s : State) (kind id cause : Nat) : State :=
  let s := s.bump R.PCX_CNT_VIOLATIONS
  let entry := 2 ^ 31 + kind * 2 ^ 29 + cause * 2 ^ 24 + id
  if (frozenEntry s kind id).isSome then s
  else
    let s := match (List.range 64).find? (fun i => !s.on (R.PCX_FROZEN_LIST_VALID i)) with
      | some i =>
        let s := s.us [(R.PCX_FROZEN_LIST_VALID i, 1), (R.PCX_FROZEN_LIST_KIND i, kind), (R.PCX_FROZEN_LIST_CAUSE i, cause),
          (R.PCX_FROZEN_LIST_ID i, id), (R.PCX_FROZEN_STATUS_COUNT, s.g R.PCX_FROZEN_STATUS_COUNT + 1)]
        let s := s.log 0x403 noStation [entry, 0]
        if kind = 1 then
          s.each (s.hqe.cmds.filter (fun c => c.fn == id && c.window.isNone && !pastEffect c)) (fun s c =>
            if c.sqe.op = oWRITE then endWrite s c cFROZEN
            else if c.sqe.op = oREAD then complete s c.tag cFROZEN else s)
        else s
      | none => (s.u R.PCX_FROZEN_STATUS_OVERFLOW 1).log 0x403 noStation [entry, 1]
    refreshIntx s

/-- The waiting SET_POWER completes once its state can be entered (R400, R401). (log entry 39) -/
def checkPower (s : State) : State :=
  match s.hqe.powerTag.bind (cmdOf s) with
  | none => s
  | some c =>
    let others := s.hqe.cmds.any (fun d => d.tag != c.tag && d.st != .completing) || !s.hqe.fetched.isEmpty
    let idle := s.buf.pages.isEmpty && !stations.any (hasWork s)
    if others || (c.sqe.a0 == 2 && !idle) then s
    else complete ((s.us [(R.HQE_STATUS_POWER, c.sqe.a0), (R.HQE_STATUS_ENTERING, 0)]).hqeU (fun h => { h with powerTag := none }))
      c.tag cSUCCESS c.sqe.a0

/-- A doorbell write or a TLP to BAR2 returns the FY8C to HP0 (R400). -/
def wakeHost (s : State) : State := s.u R.HQE_STATUS_POWER 0

/-- The groups of a function at its reset (R354, R402): those open are rolled back, those rolled back are released, and those
closing complete with no entry. -/
def resetGroups (s : State) (fn : Nat) : State :=
  let gs := s.grn.groups.filter (fun g => g.fn == fn && g.id < 2 ^ 32)
  s.each gs (fun s g =>
    let lost := s.hqe.cmds.any (fun c => c.fn == fn && c.sqe.op == oWRITE && c.sqe.group == g.id && !pastEffect c)
    match g.st with
    | .opened => grpDrop (rollbackBoth s g.id) g.id
    | .rolledBack => grpDrop s g.id
    | .closing => if lost then grpDrop (rollbackBoth (grpU s g.id (fun x => { x with closeTag := none })) g.id) g.id
        else grpU s g.id (fun x => { x with closeTag := none })
    | _ => s)

/-- What a Function Level Reset does (R402, R415, R53): the queues and commands of the function go, its writes not yet
acknowledged are dropped, its groups and reels end, its shadows and translations are cleared. (log entry 41) -/
def fnReset (s : State) (fn : Nat) : State :=
  let s := resetGroups s fn
  let mine := s.hqe.cmds.filter (fun c => c.fn == fn && c.window.isNone)
  let tags := mine.map Cmd.tag
  let s := orphan s (fun r => r.fn == fn)
  let s := s.each (mine.filter (fun c => c.sqe.op == oWRITE && !pastEffect c)) (fun s c => freePages (mirrorEnd s c) c.bpns)
  let s := s.hqeU (fun h => { h with
    sqs := h.sqs.filter (fun q => q.1 / 8192 != fn)
    cqs := h.cqs.filter (fun q => q.1 / 8192 != fn)
    fetched := h.fetched.filter (fun f => f.fn != fn)
    cmds := h.cmds.filter (fun c => !(c.fn == fn && c.window.isNone))
    cqes := h.cqes.filter (fun c => c.fn != fn) })
  let s := s.hqeU (fun h => { h with powerTag := h.powerTag.filter (fun t => !tags.contains t) })
  let s := if s.hqe.powerTag.isNone then s.u R.HQE_STATUS_ENTERING 0 else s
  let s := { s with grn := { s.grn with ckpts := s.grn.ckpts.map (fun k => { k with tags := k.tags.filter (fun t => !tags.contains t) }) } }
  let s := [0x200, 0x204, 0x208, 0x20C, 0x210, 0x214].foldl (fun s o => aqWr s fn o 0#32) s
  let owner := fun (sh : Shadow) => sh.req == (if fn = 0 then .pf else .vf fn)
  let s := { s with rdShadows := s.rdShadows.filter (fun x => !owner x), wrShadows := s.wrShadows.filter (fun x => !owner x) }
  let s := s.pcxU (fun p => { p with
    ats := p.ats.filter (fun e => e.fn != fn)
    plain := p.plain.filter (fun e => e.1 != fn)
    doorbells := p.doorbells.filter (fun d => d.1 != fn)
    tx := p.tx.filter (fun t => match t with | .write f _ _ => f != fn | .msix f _ => f != fn | .intx _ => true) })
  let reels := s.grn.reels.filter (fun r => r.fn == fn && !r.copy && (r.st == .opened || r.st == .closing))
  let untag := fun (r : Reel) => { r with closeTag := r.closeTag.filter (fun t => !tags.contains t) }
  let s := { s with grn := { s.grn with reels := s.grn.reels.map untag } }
  let s := s.each reels (fun s r => closeReel (if r.st = .opened then stopReel s r else s) r.serial)
  settleFlushes (pairFreed (refreshIntx (refreshTags (refreshQueues s))))

end Sys2Proof.Machine
end

