-- ==== Sys2Proof/Machine/BufOps.lean ====
section
/-!
DEFINITION. Shared operations of the buffer (chapter "Buffer Memory"): retirement, entries as bytes, errors the code cannot correct.
-/

namespace Sys2Proof.Machine

/-- Change the buffer. -/
def State.bufU (s : State) (f : Buf → Buf) : State := { s with buf := f s.buf }

/-- Pages of a system copy, spares included (R317). -/
def systemPages : Nat := 131072

/-- BUF_POOL_TOTAL, BUF_POOL_FREE and BUF_RETIRED follow (R332). -/
def refreshBuf (s : State) : State :=
  let gone := (s.buf.retired.filter (fun p => p.1 == 0)).length
  refreshPool (s.us [(R.BUF_POOL_TOTAL_PAGES, s.buf.poolSize - gone), (R.BUF_RETIRED_COUNT, s.buf.retired.length)])

/-- What a place in DRAM belongs to (R317, R323): a page of the data pool, or a 4 KiB page of a system copy, 1 or 2. -/
inductive DramLoc
  | pool (bpn : Nat)
  | system (copy : Nat) (page : Nat)
deriving DecidableEq, Repr

/-- The channel of 64 bytes of the fitted memory (R316): channels take turns every 256 bytes. -/
def dramChannel (pos : Nat) : Nat := pos / 4 % 4

/-- The channel that holds a codeword of a pool page (R316, R317): the pool begins at a multiple of 1,024 bytes. -/
def pageChannel (word : Nat) : Nat := word / 16 % 4

/-- These 64 bytes of the fitted memory hold data (R316): the last 256 of the 2,048 bytes of a channel's segment hold check bits or are unused.
That they come last the spec does not say (DESIGN CHOICE). (log entry 67) -/
def holdsData (pos : Nat) : Bool := decide (pos / 16 % 8 < 7)

/-- What 64 bytes of the fitted memory that hold data belong to (R316, R317): copy 1 of the system region lies on channels 0 and 1, copy 2 on channels
2 and 3, 512 MiB each, and the pool is the rest. That the system region comes first follows from R319 (DEDUCED). (log entry 67) -/
def dramPlace (pos : Nat) : DramLoc :=
  let row := pos / 128 * 7 + pos / 16 % 8
  let c := dramChannel pos
  if row < 2 ^ 20 then .system (c / 2 + 1) ((2 * row + c % 2) / 16) else .pool ((4 * (row - 2 ^ 20) + c) / 16)

/-- Steps 4 and 5 of training are repeated on a channel whenever GLB_TEMP3 has moved by 10 °C since its last training (R314). -/
def dramRetrain (s : State) : State :=
  let t := s.gi (R.GLB_TEMP_VALUE 3)
  let moved := fun (c : Fin 4) => s.buf.train[c] == .trained && decide (640 ≤ (t - s.buf.trainTemp[c]).natAbs)
  s.bufU (fun b => { b with
    trainTemp := Vector.ofFn (fun c => if moved c then t else b.trainTemp[c])
    retrains := b.retrains + ((List.finRange 4).filter moved).length })

/-- A page can be named by RETIRE_PAGE (R378, R379). -/
def pageExists (s : State) (space page : Nat) : Bool := if space = 0 then page < s.buf.poolSize else page < systemPages

/-- Repoint everything that names a buffer page (R328). -/
def repoint (s : State) (old new : Nat) : State :=
  let f := fun (l : List Nat) => l.map (fun b => if b = old then new else b)
  let s := s.hqeU (fun h => { h with cmds := h.cmds.map (fun c => { c with bpns := f c.bpns }) })
  let s := s.tpzU (fun z => { z with stripes := z.stripes.map (fun t => { t with
    data := t.data.map (fun c => { c with bpns := f c.bpns })
    filling := t.filling.map (fun c => { c with bpns := f c.bpns }) }) })
  s.pcxU (fun p => { p with wins := p.wins.map (fun (w : Win) => { w with
    parts := w.parts.map (fun q => if q.bpn = old then { q with bpn := new } else q) }) })

/-- Retire a page (R328): the status of RETIRE_PAGE, none while it waits for a free page. (log entry 67) -/
def retirePage (s : State) (space page : Nat) : Option Nat × State :=
  let add := fun (s : State) => refreshBuf (s.bufU (fun b => { b with retired := b.retired ++ [(space, page)] }))
  if s.buf.retired.contains (space, page) then (some cSUCCESS, s)
  else if 4096 ≤ s.buf.retired.length then (some cNO_SPACE, s)
  else if space ≠ 0 then
    if 256 ≤ (s.buf.retired.filter (fun p => p.1 == space)).length then (some cNO_SPACE, s) else (some cSUCCESS, add s)
  else
    match smGet s.buf.pages page with
    | none => (some cSUCCESS, add s)
    | some p =>
      if poolFree s = 0 then (none, s)
      else
        let (b, s) := allocPage s p
        (some cSUCCESS, add (repoint (s.bufU (fun x => { x with pages := smErase x.pages page })) page b))

/-- An entry from its 32 bytes (R337, R338); none where KIND is FREE or 6 to 15. -/
def parseEntry (b : List Byte) : Option Entry :=
  let n := fun a k => numBE ((b.drop a).take k)
  let kind := n 0 1 / 16
  let g := n 2 1
  if kind = 1 then some (.logical ⟨n 0 1 % 2 == 1, n 1 1 % 64, g / 16 % 8, g % 4, g / 128 == 1, n 3 1, n 4 4, n 8 6, n 14 4, n 18 4,
    n 22 6, n 28 4⟩)
  else if kind = 2 then some (.run ⟨n 1 1 % 8, n 1 1 / 16, n 2 3 % 2 ^ 20, n 5 1, n 6 6, n 12 4, n 16 4, n 20 8⟩)
  else if kind = 3 then some (.member ⟨n 0 1 % 2 == 1, n 1 1 % 8, n 1 1 / 16 % 8, n 2 3 % 2 ^ 20, n 5 1, n 6 6, n 12 4, n 16 8⟩)
  else if kind = 4 then some (.disc ⟨n 8 8, Vector.ofFn (fun (i : Fin 4) => n (16 + 4 * i.val) 4)⟩)
  else if kind = 5 then some (.sealed ⟨n 1 1 % 64, g / 16 % 8, g % 4, g / 128 == 1, n 3 1, n 4 4, n 22 6, n 28 4⟩)
  else none

/-- The members that an entry places: serial and writing station. -/
def placed : Entry → List (Nat × Nat)
  | .run e => (List.range e.count).map (fun i => (e.serial0 + i, e.ws))
  | .member e => [(e.serial, e.ws)]
  | _ => []

/-- A member that an entry placed and the checkpoint does not place is absent (R323): its stripe is queued for rebuild. -/
def absentMember (s : State) (S ws : Nat) : State :=
  match stripeGeom s S with
  | none => s
  | some (k, p, narrow, setA) =>
    match (List.range (k + p)).find? (fun r => placeStation S r narrow setA == ws) with
    | some r => queueRebuild s ⟨S, r, ws, p, k, narrow, setA, false, none⟩
    | none => s

/-- Two LOGICAL entries of one volume and version place a block that both hold at one place. -/
def samePlace (e o : LogicalE) : Bool :=
  o.vol == e.vol && o.version == e.version && o.k == e.k && o.p == e.p && o.narrow == e.narrow && o.lost == e.lost &&
    ((16 * (e.stripe0 * e.k + e.member0) : Nat) : Int) - (e.lba : Int) == ((16 * (o.stripe0 * o.k + o.member0) : Nat) : Int) - (o.lba : Int)

/-- The ranges of blocks that a LOGICAL entry held and the one read from the checkpoint does not (R323): first block and count. -/
def lostRanges (e : LogicalE) (old : Option Entry) : List (Nat × Nat) :=
  match old with
  | some (.logical o) =>
    if samePlace e o then
      let top := max e.lba (o.lba + o.blocks)
      [(e.lba, min (o.lba - e.lba) e.blocks), (top, e.lba + e.blocks - top)].filter (fun r => r.2 != 0)
    else [(e.lba, e.blocks)]
  | _ => [(e.lba, e.blocks)]

/-- What takes the place of an entry whose both copies are lost (R323): the entry as the newest checkpoint holds it. A DISC entry is never freed
(R343): where the checkpoint has none, it is entered anew for its disc. -/
def reloaded (now old : Option Entry) : Option Entry :=
  match now, old with
  | some (.disc e), some (.disc o) => some (.disc (if o.id = e.id then o else { e with front := unwrittenFronts }))
  | some (.disc e), _ => some (.disc { e with front := unwrittenFronts })
  | _, o => o

/-- An entry whose both copies are lost is reloaded from the newest checkpoint (R323). (log entry 67) -/
def reloadEntry (s : State) (i : Nat) (old : Option Entry) : State :=
  let now := smGet s.grn.entries i
  let put := fun (m : SMap Entry) => match reloaded now old with
    | some e => smPut m i e
    | none => smErase m i
  let s := { s with grn := { s.grn with entries := put s.grn.entries, copies := s.grn.copies.map put } }
  let s := refreshMap s
  match now with
  | some (.logical e) => s.each (lostRanges e old) (fun s r => logRangeLost s 3 e.vol r.1 r.2 e.version noStation)
  | some (.disc e) =>
    match stationOfDisc s e.id with
    | some n => s.stnU n (fun x => { x with research := true })
    | none => s
  | some (.sealed e) => if old = some (.sealed e) then s else logRangeLost s 3 e.vol 0 0 e.reel noStation
  | some e =>
    let kept := (old.map placed).getD []
    s.each ((placed e).filter (fun m => !kept.contains m)) (fun s m => absentMember s m.1 m.2)
  | none => s

/-- Cut a run of bytes out of a list of descriptors (R376): `len` bytes from `off` on. -/
def sliceDescs (off len : Nat) : List Desc → List Desc
  | [] => []
  | d :: t =>
    if len = 0 then []
    else if d.len ≤ off then sliceDescs (off - d.len) len t
    else
      let n := min len (d.len - off)
      ⟨d.addr + off, n⟩ :: sliceDescs 0 (len - n) t

/-- The admitted write that holds a page, and the place of the page in it. -/
def writeOfPage (s : State) (b : Nat) : Option (Cmd × Nat) :=
  s.hqe.cmds.findSome? (fun c => if c.bpns.contains b && !pastEffect c then some (c, c.bpns.findIdx (· == b)) else none)

/-- The bytes of a lost block in a cluster that has not been placed yet: no rule says what is sent in their place, so they are free. (log entry 16) -/
def freeBytes (seed : Nat) : List Byte := (List.range 4096).map (fun i => BitVec.ofNat 8 (Config.freeValue (seed + i)))

/-- A lost block leaves the drain (R324): the stripe that it has joined goes on without its content. -/
def dropJoined (s : State) (b : Nat) : State :=
  let junk := freeBytes s.free
  let laid := fun (bs : List Byte) (q : Nat × Nat) => bs.take (4096 * q.2) ++ junk ++ bs.drop (4096 * (q.2 + 1))
  let f := fun (c : Clu) => { c with bytes := (c.bpns.zipIdx.filter (fun q => q.1 == b)).foldl laid c.bytes }
  let g := fun (t : Stripe) => if t.serial = 0 then { t with data := t.data.map f, filling := t.filling.map f } else t
  let s := s.tpzU (fun z => { z with stripes := z.stripes.map g })
  pagesU { s with free := s.free + 4096 } (fun x _ => x == b) (fun p => { p with lost := true })

/-- A page of the pool holds data that the code cannot correct (R323, R460). The partner's confirmed copy is fetched again, and the home sends a page held
for it again, unless that copy fails too; else an
acknowledged block is lost, the data of a WRITE is read again from host memory, and window data is lost for its version, or for the version that it will
take where its block has not been admitted yet. -/
def poolError (s : State) (b : Nat) (peerBad : Bool) : State :=
  match smGet s.buf.pages b with
  | none => s
  | some p =>
    if (mirroring s && p.mirrored && !peerBad) || p.lost || p.mapped then s
    else match writeOfPage s b with
      | some (c, i) =>
        if c.window.isSome then
          loseBlocks (pagesU s (fun x _ => x == b) (fun p => { p with lost := true })) 1 p.vol p.lba 1 p.ver p.group p.reel noStation
        else
          let s := pagesU s (fun x _ => x == b) (fun p => { p with st := .filling })
          let ds := sliceDescs (4096 * i) 4096 c.descs
          let parts := (cutRuns (maxRead s c.fn) 0 ds).length
          let s := cmdU s c.tag (fun c => { c with st := .running, left := some ((c.left.getD 0) + parts) })
          dmaRead s c.fn (.data c.tag) (4096 * i) ds
      | none =>
        if p.foreign && (!peerBad || p.st == .inBuffer || pairMode s == 2) then s
        else if p.st = .filling then pagesU s (fun x _ => x == b) (fun p => { p with lost := true })
        else
          let s := loseBlocks s 1 p.vol p.lba 1 p.ver p.group p.reel noStation
          if p.st = .joined then dropJoined s b else freePages s [b]

/-- The space and page of a place in DRAM, as RETIRE_PAGE numbers them (R492). -/
def locPage : DramLoc → Nat × Nat
  | .pool b => (0, b)
  | .system c p => (c, p)

/-- PAGE_RETIRE_ADVISED (R327), once per page and device reset. -/
def adviseRetire (s : State) (space page : Nat) : State :=
  if s.buf.advised.contains (4 * page + space) then s
  else (s.bufU (fun b => { b with advised := b.advised ++ [4 * page + space] })).log 0x302 noStation [space, page]

/-- Any read finds nibbles in error in a codeword (R322, R327): one is corrected and counted, more are left to R323. -/
def symbolFound (s : State) (channel rank : Nat) (l : DramLoc) (bad : Nat) : State :=
  let (space, page) := locPage l
  let where' := channel + 16 * rank
  let key := 4 * page + space
  if bad = 0 then s
  else if bad = 1 then
    let n := (smGet s.buf.ceCounts key).getD 0 + 1
    let s := (s.bump R.BUF_CNT_CE).log 0x301 noStation [where', space, page] 1
    let s := s.bufU (fun b => { b with ceCounts := smPut b.ceCounts key n })
    if s.g R.BUF_RETIRE_ADV_CE_THRESH ≤ n then adviseRetire s space page else s
  else adviseRetire ((s.bump R.BUF_CNT_UE).log 0x301 noStation [where', space, page] 2) space page

/-- Errors that the reads of some pool pages find (R322, R323): of demand reads, and of the reads before a write of part of a codeword. -/
def pageErrors (s : State) (bpns : List Nat) (errs : List ReadErr) : State :=
  s.each (errs.filter (fun e => bpns.contains e.bpn)) (fun s e =>
    let s := symbolFound s (pageChannel e.word.val) e.rank.val (.pool e.bpn) e.bad
    if 2 ≤ e.bad then poolError s e.bpn e.peerBad else s)

end Sys2Proof.Machine
end

