-- ==== Sys2Proof/Machine/QtzOps.lean ====
section
/-!
DEFINITION. Shared operations of Quartz and of the Dorak ring (R452 to R459): setting the time, a reference measurement, ring messages.
-/

namespace Sys2Proof.Machine

/-- Change Quartz, and the ring node. -/
def State.qtzU (s : State) (f : Qtz → Qtz) : State := { s with qtz := f s.qtz }
def State.drkU (s : State) (f : Drk → Drk) : State := { s with drk := f s.drk }

/-- CGL_STATUS.PEER_ON_RING follows (R445, R461): a PAIR_ALIVE of the partner's within the last 1 ms. -/
def refreshAlive (s : State) : State :=
  s.u R.CGL_STATUS_PEER_ON_RING (b2n (s.cgl.alive.any (fun t => decide (s.now < t + 1000000))))

/-- Quartz takes a value (R457). -/
def setQuartz (s : State) (t : Nat) : State := refreshAlive (s.u64 R.QTZ_TIME_LO (t % 2 ^ 64))

/-- A reference measurement (R457): OFFSET and LOCKED follow; beyond STEP_LIMIT Quartz steps forward at once, else it slews. (log entries 64, 65) -/
def quartzRef (s : State) (o : Int) : State :=
  let s := (s.ui R.QTZ_OFFSET_OFFSET (clampI (-2147483648) 2147483647 o)).u R.QTZ_STATUS_LOCKED (b2n (decide (-100 ≤ o ∧ o ≤ 100)))
  if o > (10000 * s.g R.QTZ_LIMITS_STEP_LIMIT : Nat) then
    let d := o.toNat
    let s := (setQuartz s (s.now + d)).qtzU (fun q => { q with slew := 0, slewFrom := 0 })
    ((s.u R.QTZ_STATUS_STEPPED 1).bump R.QTZ_CNT_STEPS).log 0x505 noStation [d % 2 ^ 32, d / 2 ^ 32, s.g R.QTZ_CTRL_SOURCE]
  else s.qtzU (fun q => { q with slew := 65536 * o, slewFrom := 65536 * o })

/-- CRC-16 of a ring message (R453): x¹⁶ + x¹² + x⁵ + 1 over bytes 1 to 18. The start value is not given, and stays
open. (log entry 12) -/
def ringCrc (body : List Byte) : Nat := crcMsb 16 0x1021 Config.ringCrcStart.toNat body

/-- A ring message as its 21 bytes (R453). K28.5 stands as 0xBC, its value in the 8b/10b code (PRESUMED). (log entry 12) -/
def ringBytes (typ origin seq hops time corr arg : Nat) : List Byte :=
  let body := bytesBE 1 typ ++ bytesBE 1 origin ++ bytesBE 1 seq ++ bytesBE 1 hops ++ bytesBE 8 time ++ bytesBE 4 corr ++ bytesBE 2 arg
  0xBC#8 :: (body ++ bytesBE 2 (ringCrc body))

/-- IN_RING follows (R456): BYP_N is low only while the ring is enabled, start-up has reached its last step, and the FY8C is neither
in RECOVERY nor in reset. -/
def refreshBypass (s : State) : State :=
  s.u R.DRK_STATUS_IN_RING (b2n (s.on R.DRK_CTRL_EN && s.sys.sysInit && s.live))

/-- The level of BYP_N (R456). -/
def bypN (s : State) : Bool := !s.on R.DRK_STATUS_IN_RING

/-- This node sends a message of its own (R452, R453). Nothing leaves while the ring is not enabled. (log entry 62) -/
def sendRing (s : State) (typ seq time corr arg : Nat) : State :=
  if s.on R.DRK_CTRL_EN then
    (s.emit (.ring (ringBytes typ (s.g R.DRK_CTRL_NODE_ID) seq 0 (time % 2 ^ 64) (corr % 2 ^ 32) (arg % 2 ^ 16)))).drkU (fun d =>
      { d with own := d.own ++ [(typ, seq)] })
  else s

/-- The next sequence number of this node's messages (R453). -/
def nextRingSeq (s : State) : Nat × State :=
  let q := s.drk.seq
  (q, s.drkU (fun d => { d with seq := (q + 1) % 256 }))

/-- A message with a sequence number of its own. -/
def sendRingNew (s : State) (typ time corr arg : Nat) : State :=
  let (q, s) := nextRingSeq s
  sendRing s typ q time corr arg

/-- RING_FAULT (R456, R462, R492). -/
def ringFault (s : State) (cause : Nat) : State :=
  (s.us [(R.DRK_STATUS_FAULT_CAUSE, cause), (R.DRK_STATUS_FAULT, 1)]).log 0x504 noStation [cause]

/-- The pins with a function (R451). -/
def pinsWith (s : State) (func : Nat) : List Nat := (List.range 16).filter (fun k => s.g (R.DRK_PIN_FUNC k) == func)

end Sys2Proof.Machine
end

