-- ==== Sys2Proof/Machine/Boot.lean ====
section
/-!
DEFINITION. The meanings of power, of the resets of the whole device, of the die temperature sensors and of the last step of start-up
(R56, R57, R469, R495, R504, R522).
-/

namespace Sys2Proof.Machine

/-- The state without power (R496, R504): every register at its reset value, the flash and the fuses as they were. A flash area that
was being programmed is torn (R478). The commands that wait and what has left the chip are not the chip's to lose. -/
def poweredOff (s : State) : State :=
  let sec := s.rd R.TRU_SEC
  let owner := s.g R.TRU_STATUS_OWNER_KEYS
  let torn := match s.tru.flashOp with
    | some op => if op.cmd = 0 then s.tru.torn else (op.addr, op.len) :: s.tru.torn
    | none => s.tru.torn
  let s := scrambled s
  let t : State := { State.reset with
    pending := s.pending, free := s.free, out := s.out
    tru := { Tru.init with flash := s.tru.flash, ownerKeys := s.tru.ownerKeys, torn := torn } }
  (t.wr R.TRU_SEC sec).u R.TRU_STATUS_OWNER_KEYS owner

/-- POWER_GOOD (R469, R504): a rising edge of PWRGOOD is a power-on. Quartz starts at 0, and start-up runs. (log entry 2) -/
def powerGood (s : State) : State :=
  if s.sys.held = .power then
    let s := poweredOff s
    startUp { s with sys := { s.sys with held := .no } }
  else s

def execPowerGood (s : State) : Host.Outcome State Fault Refusal := .next (powerGood s)

/-- PWRGOOD_LOW (R504): low for 100 ns or more holds the FY8C in reset. -/
def pwrgoodLow (s : State) : State := poweredOff s

def execPwrgoodLow (s : State) : Host.Outcome State Fault Refusal := .next (pwrgoodLow s)

/-- WATCHDOG_EXPIRY (R468, R495). -/
def watchdogExpiry (s : State) : State := deviceReset s R.GLB_RESET_CAUSE_WATCHDOG true

def execWatchdogExpiry (s : State) : Host.Outcome State Fault Refusal := answerUp s watchdogExpiry

/-- RESTART (R470, R482): a device reset, which has no bit of its own in GLB_RESET_CAUSE. (log entry 49) -/
def restart (s : State) : State := startUp (wiped s)

def execRestart (s : State) : Host.Outcome State Fault Refusal := answerUp s restart

/-- GLB_RESET (R56): the key and bit 0 start a device reset. -/
def glbReset (w : BitVec 32) (s : State) : State :=
  if getF w R.GLB_RESET_KEY = 0x0FA5 ∧ getF w R.GLB_RESET_DEVICE = 1 then deviceReset s R.GLB_RESET_CAUSE_DEVICE else s

def execGlbReset (w : BitVec 32) (s : State) : Host.Outcome State Fault Refusal := answer s (glbReset w)

/-- JTAG_TEST_INSTRUCTION (R522): a device reset that lasts until the test instructions are left. A thermal trip goes on beside it. (log entry 49) -/
def jtagTestInstruction (s : State) : State :=
  match s.sys.held with
  | .power => s
  | .thermal => heldReset { s with sys := { s.sys with jtagTest := true } } R.GLB_RESET_CAUSE_TEST .thermal
  | _ => heldReset { s with sys := { s.sys with jtagTest := true } } R.GLB_RESET_CAUSE_TEST .jtag

def execJtagTestInstruction (s : State) : Host.Outcome State Fault Refusal := .next (jtagTestInstruction s)

/-- JTAG_TEST_EXIT (R522): start-up follows from step 2. -/
def jtagTestExit (s : State) : State :=
  let out := { s with sys := { s.sys with jtagTest := false } }
  if s.sys.held = .jtag then startUp { out with sys := { out.sys with held := .no } } else out

def execJtagTestExit (s : State) : Host.Outcome State Fault Refusal := .next (jtagTestExit s)

/-- A reading of a die temperature sensor (R57): Q10.6 in 16 bits. -/
def sensorReading (v : Int) : Int := clampI (-32768) 32767 v

/-- TEMP_SENSOR_UPDATE (R57): the sensors' readings in Q10.6 °C; WARN and CRIT at their active thresholds, and the thermal trip at
+135.0 °C. A move of GLB_TEMP3 retrains the buffer's channels (R314). -/
def tempSensorUpdate (t : Vector Int 8) (s : State) : State :=
  let hot := fun (level : Int) => t.toList.any (fun v => decide (level ≤ sensorReading v))
  let s := s.each (List.finRange 8) (fun s k =>
    (s.u (R.GLB_TEMP_VALID k.val) 1).ui (R.GLB_TEMP_VALUE k.val) (sensorReading t[k]))
  let s := s.whenB (hot (s.gi R.GLB_TEMP_WARN_LEVEL)) (fun s => s.u R.GLB_TEMP_STATUS_WARN 1)
  let s := s.whenB (hot (s.gi R.GLB_TEMP_CRIT_LEVEL)) (fun s => s.u R.GLB_TEMP_STATUS_CRIT 1)
  if hot 8640 then heldReset s R.GLB_RESET_CAUSE_THERMAL .thermal else dramRetrain s

def execTempSensorUpdate (t : Vector Int 8) (s : State) : Host.Outcome State Fault Refusal := answerUp s (tempSensorUpdate t)

/-- THERMAL_TRIP_RELEASE (R57): every sensor reads below +115.0 °C, and the thermal reset ends. A JTAG test instruction that is still
loaded goes on holding the device (R522). (log entry 49) -/
def thermalTripRelease (t : Vector Int 8) (s : State) : State :=
  if s.sys.held = .thermal ∧ t.toList.all (fun v => decide (sensorReading v < 7360)) = true then
    if s.sys.jtagTest then { s with sys := { s.sys with held := .jtag } }
    else startUp { s with sys := { s.sys with held := .no } }
  else s

def execThermalTripRelease (t : Vector Int 8) (s : State) : Host.Outcome State Fault Refusal := .next (thermalTripRelease t s)

/-- SYSTEM_REGION_INIT_DONE (R319, R329, R469 steps 9 and 10): the retirement list of the image is applied, admin queues run, and the
stations that the image names are brought up. `imgs` are the pickup images that their mounts read (R300). (log entry 28) -/
def systemRegionInitDone (imgs : List (List Byte)) (s : State) : State :=
  let trained := s.buf.train.toList.all (fun t => t == .trained) && s.g R.BUF_STATUS_TRAIN_FAIL == 0
  if trained && decide (0 < s.buf.poolSize) && s.sys.ready && !s.sys.sysInit then
    let s := s.each (s.buf.imageRetire.filter (fun p => pageExists s p.1 p.2)) (fun s p => (retirePage s p.1 p.2).2)
    let s := ({ s with sys := { s.sys with sysInit := true } }).u R.HQE_STATUS_CLOSED 0
    let s := s.each (List.range 256) adminStart
    let s := s.each stations (fun s n =>
      if bitOf s.sys.bringUp.toNat n.val = 1 ∧ s.on (R.STN_STATUS_DISC_PRESENT n) = true ∧ stSt s n = stEMPTY then
        startLoading s n ((imgs[n.val]?).getD [])
      else s)
    refreshBuf (refreshBypass s)
  else s

def execSystemRegionInitDone (imgs : List (List (BitVec 8))) (s : State) : Host.Outcome State Fault Refusal :=
  answer s (systemRegionInitDone imgs)

end Sys2Proof.Machine
end

