-- ==== Sys2Proof/Machine/WinOps.lean ====
section
/-!
DEFINITION. Ingest windows (chapter "PCI Express Endpoint", R416 to R422): which window a TLP hits, where its bytes go, how complete
blocks are admitted.
-/

namespace Sys2Proof.Machine

/-- A window by number. -/
def winIx (w : Nat) : Fin 256 := ⟨w % 256, Nat.mod_lt _ (by omega)⟩
def winOf (s : State) (w : Nat) : Win := s.pcx.wins[winIx w]
def winU (s : State) (w : Nat) (f : Win → Win) : State := s.pcxU (fun p => { p with wins := vmod p.wins (winIx w) f })

/-- All bytes lie in a window of a base and a size (R416). -/
def inWindow (cfg base : Word) (addr len : Nat) : Bool :=
  cfg.toNat / 2 ^ 31 == 1 && decide (65536 * (base.toNat % 2 ^ 18) ≤ addr) &&
    decide (addr + len ≤ 65536 * (base.toNat % 2 ^ 18 + cfg.toNat % 2 ^ 19))

/-- The requester matches RID under MASK (R416). -/
def ridMatches (rid : Word) (r : Nat) : Bool :=
  let m := rid.toNat / 65536
  Nat.land r m == Nat.land (rid.toNat % 65536) m

/-- The window whose range holds a TLP. -/
def windowAt (s : State) (addr len : Nat) : Option Nat :=
  (List.range 256).find? (fun w => inWindow (s.rd (R.PCX_WIN_CFG w)) (s.rd (R.PCX_WIN_BASE w)) addr len)

/-- The window whose old map a TLP hits (R420, R421). -/
def oldWindowAt (s : State) (rid addr len : Nat) : Option (Nat × OldMap) :=
  (List.range 256).findSome? (fun w =>
    match (winOf s w).old with
    | some o =>
      if inWindow o.cfg o.base addr len && ridMatches o.rid rid && decide (s.now < o.since + 1000 * s.g R.PCX_TIMING_GRACE) then some (w, o)
      else none
    | none => none)

/-- REFUSED is set, and WINDOW_REFUSED logged once until it is cleared (R422). -/
def refuseWin (s : State) (w cause : Nat) : State :=
  let s := s.u (R.PCX_WIN_STATUS_REFUSED (w % 256)) 1
  if (winOf s w).told then s
  else winU (s.log 0x406 noStation [w % 256, cause]) w (fun x => { x with told := true })

/-- The ring's size in bytes (R417). -/
def winBytes (s : State) (w : Nat) : Nat := 65536 * s.g (R.PCX_WIN_CFG_SIZE (w % 256))

/-- The stream position of window offset o (R417). -/
def winPos (s : State) (w o : Nat) : Nat :=
  let size := max 1 (winBytes s w)
  let ack := s.g64 (R.PCX_WIN_ACK_LO (w % 256))
  ack + (o + size - ack % size) % size

/-- A block of the stream is complete (R418): admitted and not yet acknowledged, or waiting for those before it. -/
def blockDone (s : State) (w b : Nat) : Bool :=
  decide (b < (winOf s w).admitted) || (winOf s w).parts.any (fun q => q.block == b && q.got == BitVec.allOnes 4096)

/-- The page under way for a block, taken where there is none. -/
def winPage (s : State) (w b : Nat) (r : Reel) : Nat × State :=
  match (winOf s w).parts.find? (fun q => q.block == b) with
  | some q => (q.bpn, s)
  | none =>
    let (n, s) := allocPage s ⟨r.vol, (winOf s w).lba + b, 0, r.serial, 0, 0, .filling, List.replicate 4096 0#8, false, false, false, false, false⟩
    (n, winU s w (fun x => { x with parts := x.parts ++ [⟨b, n, 0⟩] }))

/-- Put one byte of the stream into its page (R417). -/
def winByte (w : Nat) (r : Reel) (s : State) (x : Nat × Byte) : State :=
  let b := x.1 / 4096
  let (n, s) := winPage s w b r
  let s := pagesU s (fun i _ => i == n) (fun p => { p with bytes := p.bytes.set (x.1 % 4096) x.2 })
  winU s w (fun y => { y with parts := y.parts.map (fun q =>
    if q.block = b then { q with got := q.got ||| BitVec.ofNat 4096 (2 ^ (x.1 % 4096)) } else q) })

/-- The entry a window write stands for in the overlap scoreboard (R418). -/
def winSqe (r : Reel) (lba n : Nat) : Sqe := ⟨oWRITE, 0, 0, r.vol, 0, 0, lba, n, 0, 0, r.serial, 0, 0, 0, 0⟩

/-- Complete blocks are admitted from the first that is not (R418), 256 to a write, k writes at most; one that is refused frees its
pages. A block whose content was lost while it arrived is lost for the write's version (R323). (log entry 40) -/
def admitBlocks (w : Nat) (r : Reel) : Nat → State → State
  | 0, s => s
  | k + 1, s =>
    let x := winOf s w
    let full := fun b => x.parts.find? (fun q => q.block == b && q.got == BitVec.allOnes 4096)
    let run := ((List.range 256).map (fun i => full (x.admitted + i))).takeWhile Option.isSome
    let bs := run.filterMap (fun q => q.map WinPart.bpn)
    let n := bs.length
    let lba := x.lba + x.admitted
    let keep := fun (y : Win) => y.parts.filter (fun q => !bs.contains q.bpn)
    if n = 0 then s
    else
      let ver := topVersion s r.vol lba n + 1
      if s.on R.GRN_STATUS_MAP_LOW || serialSpent s || decide (2 ^ 32 ≤ ver) || decide (volSize s r.vol < lba + n) then
        refuseWin (freePages (winU s w (fun y => { y with parts := keep y })) bs) w (if s.on R.GRN_STATUS_MAP_LOW then 2 else 3)
      else
        let adm := s.hqe.nextAdm
        let c : Cmd := ⟨2 ^ 14 + adm, r.fn, 0, winSqe r lba n, adm, .inBuffer, ver, bs, some w, none, 0, false, [], none, none, []⟩
        let s := s.hqeU (fun h => { h with cmds := h.cmds ++ [c], nextAdm := adm + 1 })
        let s := winU s w (fun y => { y with parts := keep y, admitted := y.admitted + n })
        let s := pagesU s (fun b _ => bs.contains b) (fun p => { p with ver := ver, adm := adm, st := .inBuffer })
        let lost := bs.filterMap (fun b => (smGet s.buf.pages b).filter Page.lost)
        let s := s.each lost (fun s p => loseBlocks s 1 p.vol p.lba 1 ver 0 p.reel noStation)
        admitBlocks w r k (mirrorPages (mirrorAdmission s c) bs)

/-- A TLP that hits a window is taken, or dropped (R417, R418, R420, R422): `o` is its offset in the window, and `old` says that
the old map led there, which counts it when it is taken. Where no page is free it holds back credits, its place in the window settled. -/
def takeTlp (s : State) (w o : Nat) (old : Bool) (t : Tlp) : State :=
  let drop := fun (s : State) => s.bump R.PCX_CNT_UNBOUND
  match reelOf s (s.g (R.PCX_WIN_REEL_REEL (w % 256))) with
  | none => drop s
  | some r =>
    if !s.on (R.PCX_WIN_STATUS_BOUND (w % 256)) then drop s
    else if r.st ≠ .opened then drop (s.u (R.PCX_WIN_STATUS_REFUSED (w % 256)) 1)
    else if s.on R.GRN_STATUS_MAP_LOW then refuseWin (drop s) w 2
    else
      let bytes := t.data.zipIdx.map (fun x => (winPos s w (o + x.2), x.1))
      let blocks := (bytes.map (fun x => x.1 / 4096)).eraseDups
      let fresh := blocks.filter (fun b => !(winOf s w).parts.any (fun q => q.block == b))
      if blocks.any (blockDone s w) then freeze s 0 t.rid 3
      else if poolFree s < fresh.length then s.pcxU (fun p => { p with hold := some ⟨w, o, old, s.now, t⟩ })
      else
        let s := s.whenB old (fun s => s.bump R.PCX_CNT_OLD_MAP)
        let s := s.each bytes (winByte w r)
        let s := pageErrors s (((winOf s w).parts.filter (fun q => blocks.contains q.block)).map WinPart.bpn) t.errs
        admitBlocks w r ((winOf s w).parts.length + 1) s

/-- A TLP to BAR2 finds its window (R420). -/
def routeTlp (s : State) (t : Tlp) : State :=
  let len := t.data.length
  let direct := windowAt s t.addr len
  match direct.filter (fun w => ridMatches (s.rd (R.PCX_WIN_RID w)) t.rid) with
  | some w => takeTlp s w (t.addr - 65536 * s.g (R.PCX_WIN_BASE_BASE w)) false t
  | none =>
    match oldWindowAt s t.rid t.addr len with
    | some (w, o) =>
      if o.reel ≠ 0 ∧ s.g (R.PCX_WIN_REEL_REEL w) = o.reel then
        takeTlp s w (t.addr - 65536 * (o.base.toNat % 2 ^ 18)) true t
      else s.bump R.PCX_CNT_UNBOUND
    | none => freeze s 0 t.rid (if direct.isSome then 2 else 1)

/-- A TLP that holds back credits is taken once pages are free (R422); the time of its hold goes on. -/
def retryHold (s : State) : State :=
  match s.pcx.hold with
  | none => s
  | some h =>
    let s' := takeTlp (s.pcxU (fun p => { p with hold := none })) h.win h.off h.old h.tlp
    if s'.pcx.hold.isSome then s'.pcxU (fun p => { p with hold := some h }) else s'

end Sys2Proof.Machine
end

