-- ==== Sys2Proof/Machine/GrnOps.lean ====
section
/-!
DEFINITION. Shared operations of Garnet (chapter "Extent Map, Onyx Cache and Garnet Commit Groups"): map changes of a stripe,
checkpoints, the loading of the map.
-/

namespace Sys2Proof.Machine

/-- Change Garnet. -/
def State.grnU (s : State) (f : Grn → Grn) : State := { s with grn := f s.grn }

/-- The PCA of the next position of a RUN (R341, R342). -/
def runNext (e : RunE) : Nat :=
  let arms := (List.range 4).filter (fun a => bitOf e.arms a == 1)
  let t := (arms.takeWhile (· != pcaArm e.pca0)).length + e.count
  mkPca (pcaLayer e.pca0) ((arms[t % max 1 arms.length]?).getD 0) (pcaZone e.pca0) (pcaSlot e.pca0 + t / max 1 arms.length)

/-- Enter a verified member (R342): a rewritten one takes a MEMBER entry, another extends its RUN or starts one. -/
def mapMember (s : State) (t : Stripe) (m : Mem) : State :=
  let S := serial48 t.serial
  let lay := if t.narrow then t.setA else 0
  let (d, s) := ensureDisc s m.disc
  if m.rewritten then addEntry s (.member ⟨false, m.rot, m.station, d, lay, S, m.pca, m.time⟩)
  else
    let arms := Nat.lor m.arms (2 ^ pcaArm m.pca)
    match (runs s).find? (fun q => q.2.ws == m.station && q.2.disc == d && q.2.layout == lay && q.2.arms == arms &&
        q.2.serial0 + q.2.count == S && runNext q.2 == m.pca) with
    | some (i, e) => putEntry s i (.run { e with count := e.count + 1 })
    | none => addEntry s (.run ⟨m.station, arms, d, lay, S, 1, m.pca, m.time⟩)

/-- The pages a cluster's blocks still hold in the buffer. -/
def clusterPages (s : State) (c : Clu) : List Nat :=
  c.bpns.filter (fun b => ((smGet s.buf.pages b).map (fun p => p.vol == c.vol && p.ver == c.ver && p.group == c.group && p.st == .joined)).getD false)

/-- The blocks of a cluster up to the last one whose content is not lost (R324). A lost block before that keeps its place in the entry, and reads
find the entry with LOST set (R335, R341). -/
def liveBlocks (s : State) (c : Clu) : Nat :=
  let lost := fun (b : Nat) => ((smGet s.buf.pages b).map (fun p => p.lost && p.vol == c.vol && p.ver == c.ver)).getD false
  ((c.bpns.zipIdx.filter (fun q => !lost q.1)).map (fun q => q.2 + 1)).foldl max 0

/-- Enter the data of a stripe (R342): it extends the stream's LOGICAL entry or takes a new one; a SEAL cluster takes a SEAL entry.
The data of a group that was rolled back stays unmapped (R354). -/
def mapData (s : State) (t : Stripe) (j : Nat) (c : Clu) : State :=
  let S := serial48 t.serial
  if c.typ = 5 then addEntry s (.sealed ⟨c.vol, t.k, t.p, t.narrow, j, c.bytes.length, S, c.reel⟩)
  else if (c.group ≠ 0 ∧ (clusterPages s c).isEmpty = true) ∨ liveBlocks s c = 0 then s
  else
    match (logicals s).find? (fun q =>
        let e := q.2
        let at' := e.member0 + e.blocks / 16
        !e.lost && e.vol == c.vol && e.reel == c.reel && e.version == c.ver && e.group == c.group && e.k == t.k && e.p == t.p &&
          e.narrow == t.narrow && e.blocks % 16 == 0 && e.lba + e.blocks == c.lba &&
          e.stripe0 + at' / max 1 e.k == S && at' % max 1 e.k == j) with
    | some (i, e) => putEntry s i (.logical { e with blocks := e.blocks + liveBlocks s c })
    | none => addEntry s (.logical ⟨false, c.vol, t.k, t.p, t.narrow, j, c.ver, c.lba, liveBlocks s c, c.group, S, c.reel⟩)

/-- The oldest stripe, by serial, whose members have all passed or been dropped (R342). One that has lost more members in flight than its
parities can replace stays in the buffer until rebuilt members have passed (R24). (log entry 30) -/
def mappable (s : State) : Option Stripe :=
  (s.tpz.stripes.filter (fun t => t.serial != 0 && t.mems.all (fun m => m.st != .queued) &&
      decide ((t.mems.filter (fun m => m.st == .absent)).length ≤ t.p))).foldl
    (fun best t => match best with
      | none => some t
      | some b => if t.serial < b.serial then some t else some b) none

/-- Stages 8 and 9 of R21 for a stripe: its map changes, and the release of its pages. Stage 8 has not finished while the changes are not visible:
the pages of a group wait until it is. -/
def mapStripe (s : State) (t : Stripe) : State :=
  let s := s.each (t.mems.filter (fun m => m.st == .verified)) (fun s m => mapMember s t m)
  let s := s.each t.data.zipIdx (fun s c => mapData s t c.2 c.1)
  let s := s.each stations recordFronts
  let bs := t.data.flatMap (clusterPages s)
  let s := pagesU s (fun b _ => bs.contains b) (fun p => { p with mapped := true })
  let s := letGo s (bs.filter (fun b => ((smGet s.buf.pages b).map (fun p => grpVisible s p.group)).getD false))
  s.tpzU (fun z => { z with stripes := z.stripes.filter (fun x => x.serial != t.serial) })

/-- A page of a group holds data that is not mapped yet (R358). What is lost never will be. -/
def unmapped (s : State) (g : Nat) : Bool := s.buf.pages.any (fun p => p.2.group == g && !p.2.mapped && !p.2.lost)

/-- A LOGICAL entry is left out at a cut (R358): its group is not visible, or still has data that is not mapped. -/
def hiddenAtCut (s : State) (e : Entry) : Bool :=
  match e with
  | .logical l => l.group != 0 && (!grpVisible s l.group || unmapped s l.group)
  | _ => false

/-- A record of a checkpoint (R357): index, DELETE, entry. -/
def ckptRecord (s : State) (i : Nat) : List Byte :=
  match (smGet s.grn.entries i).filter (fun e => !hiddenAtCut s e) with
  | some e => bytesBE 4 i ++ entryBytes e
  | none => bytesBE 4 (i + 2 ^ 31) ++ List.replicate 32 0#8

/-- Cut a list into parts of 1,818 records, one part at least (R357). (log entry 35) -/
def ckptParts : Nat → List Nat → List (List Nat)
  | 0, l => [l]
  | k + 1, l => if l.length ≤ 1818 then [l] else l.take 1818 :: ckptParts k (l.drop 1818)

/-- The ceilings that a checkpoint sets (R363): reservations above the live values, capped where the numbers end. -/
def nextOf (s : State) : Nat × Nat × Nat :=
  (min (2 ^ 32) (s.grn.nextGroup + 2 ^ 16), min (2 ^ 32) (s.grn.nextReel + 2 ^ 12), min (2 ^ 48) (nextSerial s + 2 ^ 24))

/-- A ceiling in a field of 32 bits (R357): that of numbers that are all issued is held as the highest number. (log entry 35) -/
def ceilWord (n : Nat) : List Byte := bytesBE 4 (min (2 ^ 32 - 1) n)

/-- The user bytes of a part of a checkpoint (R357). -/
def partBytes (s : State) (seq base part parts : Nat) (l : List Nat) : List Byte :=
  let (g, r, st) := nextOf s
  bytesBE 4 0x4D415043 ++ bytesBE 8 seq ++ bytesBE 8 base ++ bytesBE 4 part ++ bytesBE 4 parts ++ bytesBE 4 l.length ++ ceilWord g ++
    ceilWord r ++ bytesBE 8 st ++ bytesBE 8 s.now ++ bytesBE 8 0 ++ l.flatMap (ckptRecord s)

/-- Blank slots in the map zones of a station's disc (R360): 16 layers, two zones of 1,024 slots, four arms. -/
def mapRoom (s : State) (n : Fin 8) : Nat :=
  let used := ((s.grn.chains[n]).fronts).map (fun f => f.2 - (if f.1 / 4 % 2 = 1 then dataEnd else 0))
  131072 - used.foldl (· + ·) 0

/-- A checkpoint reaches a disc as a base (R359, R360): where one is asked for, where the disc needs one, or where BASE_EVERY deltas have followed. (log entry 35) -/
def sendsBase (s : State) (base : Bool) (n : Fin 8) : Bool :=
  let c := s.grn.chains[n]
  base || c.needBase || c.base == 0 || s.g R.GRN_CKPT_CTRL_BASE_EVERY ≤ c.deltas

/-- The parts of a checkpoint are queued to a station (R359, R360): a base where the disc needs one. Fields of a MAP cluster's header for
which R83 names no value are 0. (log entry 80) -/
def sendCkpt (seq : Nat) (base : Bool) (s : State) (n : Fin 8) : State × CkptSt :=
  let c := s.grn.chains[n]
  let base := sendsBase s base n
  let ids := if base then (s.grn.entries.filter (fun e => !hiddenAtCut s e.2)).map Prod.fst else s.grn.changed
  let parts := ckptParts ids.length ids
  let hdr : Hdr := ⟨4, 0xFFFF, 0, 0, 0, 0, 0, 0, 0, 0, 0, 0, false, false, false, 0xFFFFFFFF, 0xFF, none⟩
  let s := s.each parts.zipIdx (fun s q =>
    let bs := partBytes s seq (if base then seq else c.base) q.2 parts.length q.1
    queueJob s n ⟨.mapPart, false, { hdr with valid := bs.length }, 0, bs, 0, none, seq, q.2⟩ false)
  (s, ⟨n.val, base, parts.length, 0, false, []⟩)

/-- Queue a checkpoint to stations in turn. (log entry 35) -/
def sendCkpts (seq : Nat) (base : Bool) (s : State) : List (Fin 8) → State × List CkptSt
  | [] => (s, [])
  | n :: t =>
    let (s, c) := sendCkpt seq base s n
    let (s, l) := sendCkpts seq base s t
    (s, c :: l)

/-- The groups whose data a cut covers as a whole (R358). -/
def coveredGroups (s : State) : List Nat :=
  (s.grn.groups.filter (fun g => g.st == .visible && !unmapped s g.id)).map Grp.id

/-- The stations of these whose discs still take checkpoints (R360). -/
def ckptRoom (s : State) (stns : List (Fin 8)) : List (Fin 8) := stns.filter (fun n => 577 ≤ mapRoom s n)

/-- Take a checkpoint on stations, for commands that wait for it (R357 to R360). The next delta of a disc builds on the base it is sent now. A disc
left out needs a base next. (log entries 35, 36) -/
def takeCkpt (s : State) (stns : List (Fin 8)) (base : Bool) (tags : List Nat) : State :=
  let stns := ckptRoom s stns
  if stns.isEmpty then s
  else
    let seq := s.grn.nextSeq
    let (g, r, st) := nextOf s
    let groups := coveredGroups s
    let sent := fun (n : Fin 8) => sendsBase s base n
    let (s, l) := sendCkpts seq base s stns
    let k : Ckpt := ⟨seq, tags, groups, l, g, r, st, s.hqe.nextAdm⟩
    let later := s.grn.changed.filter (fun i => ((smGet s.grn.entries i).map (hiddenAtCut s)).getD false)
    s.grnU (fun x => { x with
      nextSeq := seq + 1, changed := later, ceilingDue := false, ckpts := x.ckpts ++ [k],
      chains := Vector.ofFn (fun (n : Fin 8) =>
        let c := x.chains[n]
        if !stns.contains n then { c with needBase := true }
        else if sent n then { c with base := seq, deltas := 0, needBase := false }
        else { c with deltas := c.deltas + 1 }) })

/-- A live number is within one quarter of its reservation of a ceiling that can still rise (R363). -/
def nearCeiling (live ceil quarter limit : Nat) : Bool := decide (ceil ≤ live + quarter) && decide (ceil < limit)

/-- Garnet takes a delta checkpoint at once when a live value comes near its ceiling (R363), unless one that raises it is under way; where no
station can take it, it stays due. (log entry 35) -/
def ceilingCkpt (s : State) : State :=
  let g := s.grn
  let top := fun (c : Nat) (f : Ckpt → Nat) => (g.ckpts.map f).foldl max c
  if s.on R.GRN_STATUS_LOADED && (nearCeiling g.nextGroup (top g.ceilGroup Ckpt.nextGroup) (2 ^ 14) (2 ^ 32) ||
      nearCeiling g.nextReel (top g.ceilReel Ckpt.nextReel) (2 ^ 10) (2 ^ 32) ||
      nearCeiling (nextSerial s) (top g.ceilStripe Ckpt.nextStripe) (2 ^ 22) (2 ^ 48)) then
    let t := takeCkpt s (availSet s) false []
    if t.grn.nextSeq = g.nextSeq then s.grnU (fun g => { g with ceilingDue := true }) else t
  else s

/-- The blocks of a LOGICAL entry that lie in a stripe: the first and how many (R341). -/
def stripeBlocks (e : LogicalE) (S : Nat) : Nat × Nat :=
  let lo := max e.member0 ((S - e.stripe0) * e.k)
  let hi := min (e.member0 + (e.blocks + 15) / 16) ((S - e.stripe0 + 1) * e.k)
  if S < e.stripe0 ∨ hi ≤ lo then (e.lba, 0)
  else
    let first := 16 * (lo - e.member0)
    (e.lba + first, min (16 * (hi - lo)) (e.blocks - first))

/-- Data that a FLUSH covers lies in a stripe that has absent members (R382). (log entry 79) -/
def flushDegraded (s : State) (c : Cmd) : Bool :=
  let (waiting, mapped) := c.cover.getD ([], [])
  (logicals s).any (fun q =>
    let e := q.2
    e.vol == c.sqe.vol && !e.lost && s.tpz.rebuilds.any (fun r =>
      let (a, n) := stripeBlocks e (serial48 r.serial)
      waiting.any (fun w => w.1 == e.vol && w.2.2 == e.version && decide (a ≤ w.2.1) && decide (w.2.1 < a + n)) ||
        mapped.any (fun m => m.2.2 == e.version && decide (a < m.1 + m.2.1) && decide (m.1 < a + n))))

/-- A command that waited for a checkpoint completes (R359, R382, R442). In twin mode a FLUSH waits for the partner's as well; a FLUSH
of the partner's is answered. Its SEQ stands in the command's note. -/
def ckptDone (s : State) (seq tag : Nat) : State :=
  if 2 ^ 15 ≤ tag then sendFlits s [.flushDone (tag - 2 ^ 15) seq]
  else match cmdOf s tag with
    | none => s
    | some c =>
      if c.sqe.op = oFLUSH then
        if mirroring s && pairMode s == 1 then
          match s.cgl.flushDone.find? (fun f => f.1 == tag) with
          | none => cmdU s tag (fun c => { c with note := seq + 2 })
          | some f =>
            let s := s.cglU (fun g => { g with flushDone := g.flushDone.filter (fun f => f.1 != tag) })
            complete s tag cSUCCESS ((if homeVol s c.sqe.vol then seq else f.2) % 2 ^ 32) (flushDegraded s c)
        else complete s tag cSUCCESS (seq % 2 ^ 32) (flushDegraded s c)
      else complete s tag cSUCCESS c.note

/-- A checkpoint ends (R359, R363): complete where every station still in it has verified every part, and there is one; taken anew
where all have dropped out. -/
def endCkpt (s : State) (k : Ckpt) : State :=
  let live := k.stations.filter (fun c => !c.out && avail s (stnOf c.station))
  let drop := fun (s : State) => s.grnU (fun g => { g with ckpts := g.ckpts.filter (fun x => x.seq != k.seq) })
  if live.isEmpty then
    if (ckptRoom s (availSet s)).isEmpty then s else takeCkpt (drop s) (availSet s) false k.tags
  else if live.any (fun c => c.passed < c.parts) then s
  else
    let s := drop s
    let s := (if s.g64 R.GRN_CKPT_SEQ_LO < k.seq then s.u64 R.GRN_CKPT_SEQ_LO k.seq else s).bump R.GRN_CNT_CHECKPOINTS
    let s := s.grnU (fun g => { g with
      ceilGroup := max g.ceilGroup k.nextGroup, ceilReel := max g.ceilReel k.nextReel, ceilStripe := max g.ceilStripe k.nextStripe,
      chains := Vector.ofFn (fun (n : Fin 8) =>
        let c := g.chains[n]
        match k.stations.find? (fun x => x.station == n.val) with
        | none => c
        | some x =>
          if x.out || !live.contains x then { c with needBase := true }
          else if x.base then { c with parts := x.pcas, check := [] }
          else { c with parts := c.parts ++ x.pcas }) })
    let s := s.each k.groups (fun s g => grpDrop s g)
    s.each k.tags (fun s t => ckptDone s k.seq t)

/-- The records of a part of a checkpoint (R357). -/
def partRecords (b : List Byte) : List (Nat × Option Entry) :=
  if numBE (b.take 4) ≠ 0x4D415043 then []
  else (List.range (numBE ((b.drop 28).take 4))).map (fun i =>
    let r := (b.drop (64 + 36 * i)).take 36
    let x := numBE (r.take 4)
    (x % 2 ^ 31, if 2 ^ 31 ≤ x then none else parseEntry (r.drop 4)))

/-- The header of a MAP cluster (R357). -/
structure MapHead where
  seq : Nat
  base : Nat
  part : Nat
  parts : Nat
deriving DecidableEq, Repr

def mapHead (b : List Byte) : MapHead :=
  let n := fun a k => numBE ((b.drop a).take k)
  ⟨n 4 8, n 12 8, n 20 4, n 24 4⟩

/-- The parts of checkpoint `seq` that one disc of these holds whole, in order (R362): as a base, or as a delta. -/
def wholeCkpt (l : List MapClu) (seq : Nat) (base : Bool) : Option (List MapClu) :=
  let mine := l.filter (fun c => (mapHead c.bytes).seq == seq && ((mapHead c.bytes).base == seq) == base)
  stations.findSome? (fun n =>
    let here := mine.filter (fun c => c.station == n)
    match here with
    | [] => none
    | c :: _ =>
      let parts := (mapHead c.bytes).parts
      let l := (List.range (min parts (here.length + 1))).filterMap (fun i => here.find? (fun c => (mapHead c.bytes).part == i))
      if parts ≠ 0 ∧ l.length = parts then some l else none)

/-- The base `base` and every delta after it up to checkpoint `seq`, each from a disc that holds it whole (R362). (log entry 88) -/
def chainOf (l : List MapClu) (base seq : Nat) : Option (List MapClu) :=
  if seq < base ∨ l.length ≤ seq - base then none
  else match wholeCkpt l base true with
    | none => none
    | some b =>
      let d := (List.range (seq - base)).map (fun i => wholeCkpt l (base + 1 + i) false)
      if d.all Option.isSome then some (b ++ d.flatMap (fun x => x.getD [])) else none

/-- The complete checkpoint with the highest SEQ among these MAP clusters (R362): SEQ, SEQ of its base, its clusters. (log entry 88) -/
def newestChain (l : List MapClu) : Option (Nat × Nat × List MapClu) :=
  (l.map (fun c => mapHead c.bytes)).foldl (fun best h =>
    match chainOf l h.base h.seq with
    | none => best
    | some cs => match best with
      | none => some (h.seq, h.base, cs)
      | some b => if b.1 < h.seq then some (h.seq, h.base, cs) else some b) none

/-- The MAP clusters that one FY8C wrote (R357, R362). -/
def writtenBy (x : MapIn) (uid : Nat) : List MapClu :=
  x.found.filter (fun c => c.uid.toNat == uid && numBE (c.bytes.take 4) == 0x4D415043)

/-- The checkpoint that becomes the live map (R362): of this FY8C's and the partner's the one with the higher SEQ; its writer first. (log entry 88) -/
def mapChoice (s : State) (x : MapIn) : Option (Nat × Nat × Nat × List MapClu) :=
  let own := newestChain (writtenBy x Config.uid.toNat)
  let other := if partnerUid s = 0 then none else newestChain (writtenBy x (partnerUid s))
  match own, other with
  | some a, some b => if a.1 < b.1 then some (partnerUid s, b) else some (Config.uid.toNat, a)
  | some a, none => some (Config.uid.toNat, a)
  | none, some b => some (partnerUid s, b)
  | none, none => none

/-- The numbers to issue from after a load (R363): group, reel, stripe. The highest number in a field of 32 bits may have been issued: it counts as
spent. (log entries 35, 88) -/
def loadNext (x : MapIn) : Nat × Nat × Nat :=
  match newestChain (writtenBy x Config.uid.toNat) with
  | some (_, _, cs) =>
    let b := (cs.getLast?.map MapClu.bytes).getD []
    let n := fun a k => numBE ((b.drop a).take k)
    let next := fun (x : Nat) => if x = 2 ^ 32 - 1 then 2 ^ 32 else x
    (next (n 32 4), next (n 36 4), n 40 8)
  | none =>
    match x.heads.filter (fun h => h.uid == Config.uid) with
    | [] => (1, 1, 1)
    | l =>
      let top := fun (f : LastHdr → Nat) => (l.map f).foldl max 0
      (top LastHdr.group + 2 ^ 16, top LastHdr.reel + 2 ^ 12, top LastHdr.stripe + 2 ^ 24)

/-- The chain of the checkpoint `seq` that one disc holds whole by itself (R360): its base and its clusters. -/
def discHolds (l : List MapClu) (seq : Nat) (n : Fin 8) : Option (Nat × List MapClu) :=
  let here := l.filter (fun c => c.station == n)
  (here.filter (fun c => (mapHead c.bytes).seq == seq)).findSome? (fun c =>
    (chainOf here (mapHead c.bytes).base seq).map (fun cs => ((mapHead c.bytes).base, cs)))

/-- The members of a stripe that no entry places are absent and await rebuild (R341, R144). -/
def requeueStripe (s : State) (S k p : Nat) (narrow : Bool) : State :=
  let lay := layoutOf s S
  s.each (List.range (k + p)) (fun s r =>
    let n := placeStation S r narrow lay
    if (findMember s S r n).isSome then s else queueRebuild s ⟨S, r, n, p, k, narrow, lay, false, none⟩)

/-- Members that no entry places, of the stripes that LOGICAL and SEAL entries cover, are absent and await rebuild. (log entry 30) -/
def requeueAbsent (s : State) : State :=
  let s := s.each ((logicals s).filter (fun q => !q.2.lost)) (fun s q =>
    let e := q.2
    let stripes := (e.member0 + (e.blocks + 15) / 16 + e.k - 1) / max 1 e.k
    s.each (List.range stripes) (fun s i => requeueStripe s (e.stripe0 + i) e.k e.p e.narrow))
  s.each (seals s) (fun s q => requeueStripe s q.2.stripe q.2.k q.2.p q.2.narrow)

end Sys2Proof.Machine
end

