-- ==== Sys2Proof/Machine/Garnet.lean ====
section
/-!
DEFINITION. The meanings of Garnet's commands (chapter "Extent Map, Onyx Cache and Garnet Commit Groups").
-/

namespace Sys2Proof.Machine

/-- STRIPE_SERIAL_ASSIGN (R135, R340, R363, R525): serials are issued only below the recorded ceiling. -/
def stripeSerialAssign (s : State) : State :=
  if s.grn.ceilStripe ≤ nextSerial s ∨ serialSpent s then s
  else match placeable s with
    | none => s
    | some t => ceilingCkpt (placeStripe s t)

def execStripeSerialAssign (s : State) : Host.Outcome State Fault Refusal := answer s stripeSerialAssign

/-- A READ admitted before a group was visible has still to take a block (R353). -/
def readWaits (s : State) (g : Nat) (p : Page) : Bool :=
  s.hqe.cmds.any (fun c => c.sqe.op == oREAD && !pastEffect c && c.sqe.vol == p.vol && c.hidden.contains g &&
    decide (c.sqe.lba ≤ p.lba) && decide (p.lba < c.sqe.lba + c.sqe.blocks))

/-- GROUP_VISIBLE (R352, R353, R442): a closing group whose every member has completed SUCCESS becomes visible, once the partner has
confirmed the step where there is one. Its mapped pages may be freed from then on (R21). -/
def groupVisible (id : Nat) (s : State) : State :=
  match grpOf s id with
  | none => s
  | some g =>
    if g.st ≠ .closing ∨ g.good < g.joined then s
    else if mirroring s && g.id < 2 ^ 32 && !s.cgl.grpDone.contains id then sendFlits s [.group id 2]
    else
      let s := (grpU s id (fun x => { x with st := .visible })).bump R.GRN_CNT_VISIBLE
      let s := s.each ((s.buf.pages.map Prod.snd).filter (fun p => p.group == id && !readWaits s id p)) (fun s p =>
        dropSuperseded s p.vol p.lba p.ver)
      let s := letGo s (mappedPages s (fun p => p.group == id))
      let s := refreshGroups (s.cglU (fun c => { c with grpDone := c.grpDone.filter (· != id) }))
      match g.closeTag with
      | some t => complete s t cSUCCESS
      | none => s

def execGroupVisible (id : Nat) (s : State) : Host.Outcome State Fault Refusal := answer s (groupVisible id)

/-- CHECKPOINT_INTERVAL (R359, R363, R400): the time of the periodic cut, or a ceiling that comes near. Periodic checkpoints go to
ACTIVE stations and pause in HP2. (log entries 36, 69) -/
def checkpointInterval (s : State) : State :=
  let lim := s.g R.GRN_CKPT_CTRL_INTERVAL
  if s.on R.GRN_STATUS_LOADED = false then s
  else if s.grn.ceilingDue then ceilingCkpt (s.grnU (fun g => { g with ceilingDue := false }))
  else if lim = 0 ∨ s.g R.HQE_STATUS_POWER = 2 ∨ s.now < s.grn.lastCut + lim * 1000000000 then s
  else (takeCkpt s ((availSet s).filter (fun n => stSt s n == stACTIVE)) false []).grnU (fun g => { g with lastCut := s.now })

def execCheckpointInterval (s : State) : Host.Outcome State Fault Refusal := answer s checkpointInterval

/-- CHECKPOINT_COMPLETE (R359). -/
def checkpointComplete (seq : Nat) (s : State) : State :=
  match s.grn.ckpts.find? (fun k => k.seq == seq) with
  | some k => ceilingCkpt (endCkpt s k)
  | none => s

def execCheckpointComplete (seq : Nat) (s : State) : Host.Outcome State Fault Refusal := answer s (checkpointComplete seq)

/-- GRN_CHECKPOINT (R359, R367): CMD 1, a delta on every available station. (log entry 69) -/
def grnCheckpoint (s : State) : State := if s.on R.GRN_STATUS_LOADED then takeCkpt s (availSet s) false [] else s

def execGrnCheckpoint (s : State) : Host.Outcome State Fault Refusal := answer s grnCheckpoint

/-- GRN_BASE (R359, R367): CMD 2, a base on every available station. -/
def grnBase (s : State) : State := if s.on R.GRN_STATUS_LOADED then takeCkpt s (availSet s) true [] else s

def execGrnBase (s : State) : Host.Outcome State Fault Refusal := answer s grnBase

/-- Every station that start-up brought up has passed step 5 of its mount or left LOADING and MOUNTING (R362). -/
def mountsSettled (s : State) : Bool :=
  stations.all (fun n => bitOf s.sys.bringUp.toNat n == 0 || mounted s n || !(stSt s n == stLOADING || stSt s n == stMOUNTING))

/-- MAP_LOAD_COMPLETE (R362, R363): the complete checkpoint with the highest SEQ becomes the live map, and numbers are issued from its NEXT values, or
from the highest found in headers and a reservation, or from 1; nothing is issued until a checkpoint taken now is complete. (log entry 88) -/
def mapLoadComplete (x : MapIn) (s : State) : State :=
  if s.on R.GRN_STATUS_LOADED = true ∨ s.sys.sysInit = false ∨ mountsSettled s = false then s
  else
    let best := mapChoice s x
    let seq : Nat := (best.map (fun b => b.2.1)).getD 0
    let cs : List MapClu := (best.map (fun b => b.2.2.2)).getD []
    let recs := cs.flatMap (fun c => partRecords c.bytes)
    let m : SMap Entry := recs.foldl (fun m r => match r.2 with
      | some e => smPut m r.1 e
      | none => smErase m r.1) []
    let seqs := (x.found.map (fun (c : MapClu) => (mapHead c.bytes).seq)).foldl max 0
    let (g, r, st) := loadNext x
    let s := s.grnU (fun y => { y with
      entries := m, copies := Vector.replicate 2 m, nextGroup := g, nextReel := r, ceilGroup := g, ceilReel := r, ceilStripe := st, ceilingDue := false,
      nextSeq := max y.nextSeq (seqs + 1), lastCut := s.now
      chains := Vector.ofFn (fun (n : Fin 8) =>
        match best.bind (fun b => if b.1 = Config.uid.toNat then discHolds (writtenBy x b.1) seq n else none) with
        | some (base, cs) =>
          { y.chains[n] with base := base, deltas := seq - base, needBase := false, parts := cs.map MapClu.pca, check := [] }
        | none => y.chains[n]) })
    let s := (s.u R.GRN_STATUS_LOADED 1).u64 R.TPZ_SERIAL_LO st
    let s := if best.isSome then s.u64 R.GRN_CKPT_SEQ_LO seq else s
    ceilingCkpt (refreshAvail (requeueAbsent (refreshMap s)))

def execMapLoadComplete (x : MapIn) (s : State) : Host.Outcome State Fault Refusal := answer s (mapLoadComplete x)

end Sys2Proof.Machine
end

