-- ==== Sys2Proof/Machine/Hqe.lean ====
section
/-!
DEFINITION. The meanings of the queue engine's own commands (chapter "Host Queues and Commands"): admin pairs, doorbells, fetching,
admission with its checks, completion entries.
-/

namespace Sys2Proof.Machine

/-- The master that a function is (R398). -/
def fnMaster (fn : Nat) : Master := if fn = 0 then .pf else .vf fn

/-- An order of the same cycle wins over another (R398): `stop` says the other is of class stop; a rival with CMD 2 is. -/
def reelBeaten (s : State) (v : Nat) (m : Master) (stop : Bool) (rivals : List Rival) : Bool :=
  rivals.any (fun r => masterOwnsVol s v r.master && (r.cmd == 1 || r.cmd == 2) &&
    (if (r.cmd == 2) == stop then decide (masterCode r.master < masterCode m) else r.cmd == 2))

/-- EN has been set (R369): the pair counts as held (R368), and starts where it can. -/
def adminEnabled (s : State) (fn : Nat) : State := adminStart (refreshQueues s) fn

/-- ADMIN_QUEUE_ENABLE (R369): EN is set. -/
def adminQueueEnable (fn : Fin 256) (s : State) : State :=
  if creditsHeld s then postpone s (.adminEnable fn)
  else if vfShut s fn then shutOut s
  else adminEnabled (aqWr s fn 0x214 (aqRd s fn 0x214 ||| 1#32)) fn

def execAdminQueueEnable (fn : Fin 256) (s : State) : Host.Outcome State Fault Refusal := answer s (adminQueueEnable fn)

/-- EN has been cleared (R369): fetching from the admin SQ stops, and the pair goes once its commands have ended. One that had not started goes at once. -/
def adminStop (s : State) (fn : Nat) : State :=
  match sqOf s fn 0 with
  | some q => adminEnd (sqPut s fn 0 { q with stopped := true }) fn
  | none => pairFreed (refreshQueues s)

/-- ADMIN_QUEUE_DISABLE (R369): EN is cleared, and fetching from the admin SQ stops. -/
def adminQueueDisable (fn : Fin 256) (s : State) : State :=
  if creditsHeld s then postpone s (.adminDisable fn)
  else if vfShut s fn then shutOut s
  else adminStop (aqWr s fn 0x214 (aqRd s fn 0x214 &&& ~~~ 1#32)) fn

def execAdminQueueDisable (fn : Fin 256) (s : State) : Host.Outcome State Fault Refusal := answer s (adminQueueDisable fn)

/-- DOORBELL_INVALID (R371), and the freezing of a VF that writes too many of them within 1 s (R429). -/
def badDoorbell (s : State) (fn q value : Nat) (isCq : Bool) : State :=
  let s := s.log 0x405 noStation [fn, q + 2 ^ 31 * b2n isCq, value]
  if fn = 0 then s
  else
    let recent := s.pcx.doorbells.filter (fun d => d.1 != fn || s.now < d.2 + 1000000000)
    let s := s.pcxU (fun p => { p with doorbells := recent ++ [(fn, s.now)] })
    if s.g R.PCX_VIOL_DOORBELL_MAX < (s.pcx.doorbells.filter (fun d => d.1 == fn)).length then freeze s 1 fn 4 else s

/-- Queues a function's doorbells reach (R34, R35, R368). -/
def queueRange (fn : Nat) : Nat := if fn = 0 then 8192 else 4096

/-- A doorbell is not served: no such register, or the access is shut out. -/
def bellShut (s : State) (fn q : Nat) : Bool := decide (queueRange fn ≤ q) || vfShut s fn || contained s

/-- A doorbell that is not served. A write of one that exists and responds returns the FY8C to HP0 all the same (R400). -/
def bellRefused (s : State) (fn q : Nat) : State :=
  shutOut (if decide (q < queueRange fn) && fnOn s fn && memOn s fn && !contained s then wakeHost s else s)

/-- SQ_TAIL_DOORBELL (R371, R400). -/
def sqTailDoorbell (fn : Fin 256) (q value : Nat) (s : State) : State :=
  if creditsHeld s then postpone s (.sqTail fn q value)
  else if bellShut s fn q then bellRefused s fn q
  else
    let s := wakeHost s
    let v := value % 65536
    match sqOf s fn q with
    | none => badDoorbell s fn q value false
    | some x =>
      let held := (x.tail + x.size - x.head) % x.size
      let more := (v + x.size - x.tail) % x.size
      if x.size ≤ v ∨ x.size - 1 < held + more then badDoorbell s fn q value false
      else sqPut s fn q { x with tail := v }

def execSqTailDoorbell (fn : Fin 256) (q value : Nat) (s : State) : Host.Outcome State Fault Refusal :=
  answer s (sqTailDoorbell fn q value)

/-- CQ_HEAD_DOORBELL (R371, R400). -/
def cqHeadDoorbell (fn : Fin 256) (q value : Nat) (s : State) : State :=
  if creditsHeld s then postpone s (.cqHead fn q value)
  else if bellShut s fn q then bellRefused s fn q
  else
    let s := wakeHost s
    let v := value % 65536
    match cqOf s fn q with
    | none => badDoorbell s fn q value true
    | some x =>
      let held := (x.tail + x.size - x.head) % x.size
      let taken := (v + x.size - x.head) % x.size
      if x.size ≤ v ∨ held < taken then badDoorbell s fn q value true
      else refreshIntx (cqPut s fn q { x with head := v })

def execCqHeadDoorbell (fn : Fin 256) (q value : Nat) (s : State) : Host.Outcome State Fault Refusal :=
  answer s (cqHeadDoorbell fn q value)

/-- The slot of an SQ that is fetched next: past the head, and past those fetched that the head has still to pass (R370). -/
def nextSlot (s : State) (key : Nat) (x : Sq) : Nat :=
  (x.head + (s.hqe.fetched.filter (fun f => qKey f.fn f.sq == key && f.ahead)).length) % x.size

/-- A VF holds as many tags as it may (R388): HQE_VF_LIMITv is the register of place v − 1. -/
def tagsSpent (s : State) (fn : Nat) : Bool :=
  fn != 0 && decide (max 1 (s.g (R.HQE_VF_LIMIT_TAGS (fn - 1))) ≤
    (s.hqe.cmds.filter (fun c => c.fn == fn && c.window.isNone)).length + (s.hqe.fetched.filter (fun f => f.fn == fn)).length)

/-- An SQ can be fetched from (R388, R399). -/
def canFetch (s : State) (key : Nat) (x : Sq) : Bool :=
  !x.stopped && nextSlot s key x != x.tail && !frozenVf s (key / 8192) && !tagsSpent s (key / 8192)

/-- Round robin: the next queue of a class after the last one served (R388). -/
def roundRobin (s : State) (cls last : Nat) : Option Nat :=
  let l := (s.hqe.sqs.filter (fun q => q.2.cls == cls && canFetch s q.1 q.2)).map Prod.fst
  match l.find? (fun k => last < k) with
  | some k => some k
  | none => l.head?

/-- Turns of a class in a round (R388): 0 HIGH, 1 MEDIUM, 2 LOW. -/
def weight (s : State) (c : Nat) : Nat :=
  max 1 (if c = 0 then s.g R.HQE_ARB_W_HIGH else if c = 1 then s.g R.HQE_ARB_W_MED else s.g R.HQE_ARB_W_LOW)

/-- The vector of the last queues served is indexed admin, URGENT, HIGH, MEDIUM, LOW. -/
def lastIx (cls : Nat) : Fin 5 := if cls = 4 then 0 else if cls = 0 then 1 else if cls = 1 then 2 else if cls = 2 then 3 else 4

/-- The weighted classes' next turn (R388): the queue and the arbiter after it. -/
def weighted (s : State) (a : Arb) : Option (Nat × Arb) :=
  let try' := fun (a : Arb) => ([0, 1, 2] : List Nat).findSome? (fun i =>
    let c := (a.place + i) % 3
    let f : Fin 3 := ⟨c, Nat.mod_lt _ (by omega)⟩
    match roundRobin s (c + 1) (a.last[lastIx (c + 1)]) with
    | none => none
    | some k =>
      if a.turns[f] < weight s c then
        some (k, { a with turns := vmod a.turns f (· + 1), place := (c + 1) % 3, last := vmod a.last (lastIx (c + 1)) (fun _ => k) })
      else none)
  match try' a with
  | some r => some r
  | none => try' { a with turns := Vector.replicate 3 0, place := 0 }

/-- The queue the arbiter fetches from next, and its place afterwards (R388). (log entry 39) -/
def arbitrate (s : State) : Option (Nat × Arb) :=
  let a := s.hqe.arb
  let burst := max 1 (s.g R.HQE_ARB_BURST)
  let go := match a.grant with
    | some (k, n) => if n ≠ 0 && ((smGet s.hqe.sqs k).map (canFetch s k)).getD false then some (k, { a with grant := some (k, n - 1) }) else none
    | none => none
  match go with
  | some r => some r
  | none =>
    let a := { a with grant := none }
    match roundRobin s 4 a.last[lastIx 4] with
    | some k => some (k, { a with last := vmod a.last (lastIx 4) (fun _ => k) })
    | none =>
      match roundRobin s 0 a.last[lastIx 0] with
      | some k => some (k, { a with last := vmod a.last (lastIx 0) (fun _ => k), grant := some (k, burst - 1) })
      | none => (weighted s a).map (fun r => (r.1, { r.2 with grant := some (r.1, burst - 1) }))

/-- COMMAND_FETCH (R370, R388): the arbiter picks a queue, and the entry at its next slot is read. (log entry 39) -/
def commandFetch (s : State) : State :=
  if contained s ∨ 16384 ≤ (s.hqe.cmds.filter (fun c => c.window.isNone)).length + s.hqe.fetched.length then s
  else match arbitrate s with
    | none => s
    | some (k, a) =>
      match smGet s.hqe.sqs k with
      | none => s
      | some x =>
        let slot := nextSlot s k x
        let id := s.hqe.nextFetch
        let f : Fetched := ⟨id, k / 8192, k % 8192, slot, none, none, false, [], 0, true⟩
        dmaRead (s.hqeU (fun h => { h with arb := a, fetched := h.fetched ++ [f], nextFetch := id + 1 })) (k / 8192) (.sqe id) 0
          [⟨x.base + 64 * slot, 64⟩]

def execCommandFetch (s : State) : Host.Outcome State Fault Refusal := answer s commandFetch

/-- The entry has a descriptor list (R375, R376). -/
def listed (e : Sqe) : Bool := e.flags % 2 == 1

/-- Bytes a command transfers (R376). -/
def xferLen (e : Sqe) : Nat := if e.op = oSEAL then e.a0 else 4096 * e.blocks

/-- Opcodes that transfer data. -/
def transfers (e : Sqe) : Bool := e.op == oWRITE || e.op == oREAD || e.op == oSEAL

/-- The opcode is valid for the kind of queue (R378). -/
def opcodeOk (e : Sqe) (q : Nat) : Bool :=
  if q = 0 then 1 ≤ e.op && e.op ≤ 8 else 0x10 ≤ e.op && e.op ≤ 0x17

/-- The reel a SEAL names: one of this FY8C's, else the partner's reel of that number (R447). -/
def sealName (s : State) (n : Nat) : Nat :=
  let known := fun k => (reelOf s k).isSome || (seals s).any (fun q => q.2.reel == k)
  if !known n && known (peerNum n) then peerNum n else n

/-- The volume an I/O command is about. -/
def volOf (s : State) (e : Sqe) : Option Nat :=
  if e.op = oWRITE ∨ e.op = oREAD ∨ e.op = oFLUSH ∨ e.op = oREEL_OPEN then some e.vol
  else if e.op = oREEL_CLOSE ∨ e.op = oSEAL then
    let n := if e.op = oSEAL then sealName s e.reel else e.reel
    match reelOf s n with
    | some r => some r.vol
    | none => ((seals s).find? (fun q => q.2.reel == n)).map (fun q => q.2.vol)
  else none

/-- The volume is homed where the command may be issued (R438, R439). -/
def homeOk (s : State) (e : Sqe) (v : Nat) : Bool :=
  homeVol s v || ((e.op == oREAD || e.op == oFLUSH) && copyVol s v &&
    ((s.cgl.peer.map (fun p => bitOf p.home.toNat v == 1)).getD false))

/-- The function may give the command (R379 step 3, R383, R386, R416, R438): it owns the volume or station, and the reel by its volume or by having
opened it. The PF may close any reel. -/
def ownerOk (s : State) (fn : Nat) (e : Sqe) : Bool :=
  if e.op = 6 ∨ e.op = 8 then fn == 0
  else if e.op = 7 then e.a0 > 7 || isOwner s e.a0 (if fn = 0 then .pf else .vf fn)
  else
    let opener := (reelOf s e.reel).any (fun r => r.fn == fn || (fn == 0 && e.op == oREEL_CLOSE))
    let reel := e.op != oWRITE || (reelOf s e.reel).all (fun r => r.fn == fn || ownsVol s fn r.vol)
    match volOf s e with
    | none => true
    | some v => (ownsVol s fn v || ((e.op == oREEL_CLOSE || e.op == oSEAL) && opener)) && reel && homeOk s e v &&
        (e.op != oREEL_OPEN || e.a0 == 0xFFFF || s.g (R.PCX_WIN_CFG_OWNER (e.a0 % 256)) == fn)

/-- The list of a transfer is well formed (R376). -/
def listOk (e : Sqe) (ds : List Desc) : Bool :=
  if listed e then
    1 ≤ e.listCount && e.listCount ≤ 256 && ds.all (fun d => d.addr % 4 == 0 && d.len % 4 == 0 && d.len != 0) &&
      (ds.map Desc.len).foldl (· + ·) 0 == xferLen e
  else e.addr % 4 == 0

/-- The fields are valid (R379 step 4). -/
def fieldsOk (s : State) (fn : Nat) (e : Sqe) (ds : List Desc) : Bool :=
  if e.op = 1 ∨ e.op = 2 then
    s.on R.HQE_STATUS_CLOSED || (2 ≤ e.a1 && e.a1 ≤ 4096 && e.addr % 4096 == 0 &&
      (if e.op = 1 then e.a2 % 2048 < vectorsOf fn else e.a3 ≤ 3))
  else if e.op = 6 ∨ e.op = 8 then e.a0 ≤ 2
  else if e.op = 7 then e.a0 ≤ 7 && 1 ≤ e.a1 % 16 && e.a1 % 16 ≤ 7
  else if e.op = oREEL_OPEN then (e.a0 ≤ 255 || e.a0 == 0xFFFF) && e.lba < 2 ^ 48
  else if e.op = oWRITE ∨ e.op = oREAD then 1 ≤ e.blocks && e.blocks ≤ 4096 && e.lba < 2 ^ 48 && listOk e ds
  else if e.op = oSEAL then listOk e ds
  else true

/-- The blocks or the page exist (R379 step 5). -/
def rangeOk (s : State) (e : Sqe) : Bool :=
  if e.op = oWRITE ∨ e.op = oREAD then e.lba + e.blocks ≤ volSize s e.vol
  else if e.op = oFLUSH then volSize s e.vol != 0
  else if e.op = oREEL_OPEN then e.lba < volSize s e.vol
  else if e.op = 8 then pageExists s e.a0 e.a1
  else true

/-- The buffer is open and the map is loaded (R379 step 6). -/
def ioReady (s : State) (e : Sqe) : Bool :=
  e.op < 0x10 || (s.on R.GRN_STATUS_LOADED && s.g R.BUF_STATUS_TRAIN_FAIL == 0 && s.sys.sysInit)

/-- The status by which the present state refuses a command (R379 step 7, R351, R383 to R385). -/
def stateCheck (s : State) (fn : Nat) (e : Sqe) : Option Nat :=
  if e.op = oWRITE then
    if e.reel ≠ 0 ∧ !((reelOf s e.reel).any (fun r => r.st == .opened && r.vol == e.vol && !r.copy)) then some cBAD_STATE
    else if e.group ≠ 0 ∧ !((grpOf s e.group).any (fun g => g.st == .opened && g.fn == fn && g.joined < 1024)) then some cNOT_FOUND
    else none
  else if e.op = oCOMMIT_CLOSE then
    if (grpOf s e.group).any (fun g => (g.st == .opened || g.st == .rolledBack) && g.fn == fn && g.closeTag.isNone) then none
    else some cNOT_FOUND
  else if e.op = oREEL_OPEN then
    if e.a0 ≠ 0xFFFF ∧ s.on (R.PCX_WIN_STATUS_BOUND (e.a0 % 256)) = true then some cBAD_STATE else none
  else if e.op = oREEL_CLOSE then
    if (reelOf s e.reel).any (fun r => r.st == .opened && !r.copy) then none else some cBAD_STATE
  else if e.op = oSEAL then
    let n := sealName s e.reel
    if (reelOf s n).any (fun r => r.st == .closed || r.st == .signed) ||
        ((reelOf s n).isNone && (seals s).any (fun q => q.2.reel == n)) then none else some cBAD_STATE
  else none

/-- The first check of R379 that fails. -/
def checks (s : State) (f : Fetched) (e : Sqe) (ds : List Desc) : Option Nat :=
  if !opcodeOk e f.sq then some cBAD_OPCODE
  else if s.hqe.cmds.any (fun c => c.fn == f.fn && c.sq == f.sq && c.sqe.cid == e.cid && c.st != .completing && c.window.isNone) then
    some cBAD_FIELD
  else if !ownerOk s f.fn e then some cNOT_OWNER
  else if f.failed then some cHOST_TIMEOUT
  else if !fieldsOk s f.fn e ds then some cBAD_FIELD
  else if !rangeOk s e then some cBAD_RANGE
  else if !ioReady s e then some cNOT_READY
  else stateCheck s f.fn e

/-- A new write is refused for want of room in the map, of stripe serials or of versions (R334, R344, R363). -/
def writeRefused (s : State) (ver : Nat) : Bool :=
  s.on R.GRN_STATUS_MAP_LOW || serialSpent s || decide (2 ^ 32 ≤ ver)

/-- Pages for the blocks of a write, in block order. -/
def newPages (c : Cmd) : List Page :=
  (List.range c.sqe.blocks).map (fun i =>
    ⟨c.sqe.vol, c.sqe.lba + i, c.ver, c.sqe.reel, c.sqe.group, c.adm, .filling, List.replicate 4096 0#8, false, false, false, false, false⟩)

/-- A write takes its pages where enough are free (R318). -/
def takePages (s : State) (tag : Nat) : State :=
  match cmdOf s tag with
  | none => s
  | some c =>
    if c.sqe.op ≠ oWRITE ∨ !c.bpns.isEmpty ∨ c.dead ∨ c.st ≠ .running ∨ poolFree s < c.sqe.blocks then s
    else
      let (bs, s) := allocPages s (newPages c)
      cmdU s tag (fun c => { c with bpns := bs })

/-- An abort ends its target (R395, R396). -/
def abortCmd (s : State) (c : Cmd) : State :=
  let s := s.bump R.HQE_CNT_ABORTED
  let drop := fun (s : State) => s.grnU (fun g => { g with ckpts := g.ckpts.map (fun k => { k with tags := k.tags.filter (· != c.tag) }) })
  if c.sqe.op = oWRITE then endWrite s c cABORTED else complete (drop s) c.tag cABORTED

/-- A command can be aborted (R394): a READ, a FLUSH, or a WRITE that is not acknowledged. -/
def abortable (c : Cmd) : Bool :=
  (c.sqe.op == oWRITE || c.sqe.op == oREAD || c.sqe.op == oFLUSH) && !pastEffect c && c.window.isNone

/-- Its SQ is being deleted (R374). -/
def sqGoes (s : State) (c : Cmd) : Bool := (sqOf s c.fn c.sq).any (fun q => q.delTag.isSome)

/-- A REEL_CLOSE at the admission point (R384 step 1, R398): the reel stops taking data, unless the order is beaten. (log entry 40) -/
def admitReelClose (s : State) (c : Cmd) (rivals : List Rival) : State :=
  match reelOf s c.sqe.reel with
  | none => s
  | some r =>
    if reelBeaten s r.vol (fnMaster c.fn) true rivals then complete s c.tag cSUPERSEDED
    else reelU (stopReel s r) r.serial (fun x => { x with closeTag := some c.tag })

/-- What admission itself does for a command that passed its checks (R374, R382, R384, R398): `rivals` are the orders that reach admission in the same
cycle. -/
def admitted (s : State) (c : Cmd) (rivals : List Rival) : State :=
  let s := if heldBack s c then s.bump R.HQE_CNT_HELD else s
  let s := if c.sqe.op = oWRITE then grpU s c.sqe.group (fun g => { g with joined := g.joined + 1 }) else s
  if sqGoes s c && abortable c then abortCmd s c
  else if c.sqe.op = oWRITE then takePages (mirrorAdmission s c) c.tag
  else if c.sqe.op = oFLUSH then settleFlushes s
  else if c.sqe.op = oCOMMIT_CLOSE then
    let s := grpU s c.sqe.group (fun g => if g.st = .opened then { g with st := .closing, closeTag := some c.tag } else { g with closeTag := some c.tag })
    sendFlits s [.group c.sqe.group 1]
  else if c.sqe.op = oREEL_CLOSE then admitReelClose s c rivals
  else if c.sqe.op = oREEL_OPEN ∧ c.sqe.a0 ≠ 0xFFFF ∧ reelBeaten s c.sqe.vol (fnMaster c.fn) false rivals = true then
    complete s c.tag cSUPERSEDED
  else s

/-- A free tag of the 16,384 (R389). Which one the spec leaves open: a free value picks it. (log entry 16) -/
def newTag (s : State) : Nat :=
  probe (s.freeVal % 16384) 16384 (fun t => s.hqe.cmds.any (fun c => c.tag == t)) s.hqe.cmds.length

/-- The fetched command that is admitted next (R389): the first, but for those that wait for a handback (R449). -/
def nextFetched (s : State) : Option Fetched :=
  s.hqe.fetched.find? (fun f => !(f.sqe.any (fun e => (volOf s e).any (handingVol s) && f.sq != 0)))

/-- The groups that are not visible (R353). -/
def hiddenGroups (s : State) : List Nat := (s.grn.groups.filter (fun g => !grpVisible s g.id)).map Grp.id

/-- COMMAND_ADMISSION (R379, R389, R398): the next fetched command takes a tag and passes the serial point. `rivals` are the orders for its reel
that reach admission in the same cycle. -/
def commandAdmission (rivals : List Rival) (s : State) : State :=
  match nextFetched s with
  | none => s
  | some f =>
    match f.sqe with
    | none => s
    | some e =>
      if f.descs.isNone && !f.failed then s
      else
        let ds := if listed e then f.descs.getD [] else [⟨e.addr, xferLen e⟩]
        let ver := if e.op = oWRITE then topVersion s e.vol e.lba e.blocks + 1 else 0
        let tag := newTag s
        let c : Cmd := ⟨tag, f.fn, f.sq, e, s.hqe.nextAdm, .running, ver, [], none, none, 0, false, ds, none, none,
          if e.op = oREAD then hiddenGroups s else []⟩
        let fail := checks s f e ds
        let s := (poolWritten s.tick).hqeU (fun h => { h with
          fetched := h.fetched.filter (fun x => x != f), cmds := h.cmds ++ [c], nextAdm := h.nextAdm + 1 })
        let s := refreshTags (s.bump R.HQE_CNT_ADMITTED)
        match fail with
        | some st => complete (s.bump R.HQE_CNT_REJECTED) tag st
        | none =>
          if frozenVf s f.fn && e.op == oREAD then complete s tag cFROZEN
          else if frozenVf s f.fn && e.op == oWRITE then endWrite s c cFROZEN
          else if e.op == oWRITE && writeRefused s ver then complete s tag cNO_SPACE
          else admitted s c rivals

def execCommandAdmission (rivals : List Rival) (s : State) : Host.Outcome State Fault Refusal := answer s (commandAdmission rivals)

/-- A deleted SQ is gone once every command of it has written its entry (R374). -/
def sqDrained (s : State) (fn q : Nat) : State :=
  match sqOf s fn q with
  | none => s
  | some x =>
    match x.delTag with
    | none => s
    | some t =>
      if s.hqe.cmds.any (fun c => c.fn == fn && c.sq == q && c.window.isNone) || s.hqe.fetched.any (fun f => f.fn == fn && f.sq == q) then s
      else pairFreed (sqDrop (complete s t cSUCCESS) fn q)

/-- The bytes of a completion entry (R377). -/
def cqeBytes (e : Cqe) (head : Nat) (phase : Bool) : List Byte :=
  bytesLE 8 e.result ++ bytesLE 2 head ++ bytesLE 2 e.sq ++ bytesLE 2 e.cid ++
    bytesLE 2 (e.status + 2 ^ 14 * b2n e.degraded + 2 ^ 15 * b2n phase)

/-- COMPLETION_POSTED (R372, R393, R399, R426): the next completion bound for a CQ is written, and then its MSI-X message. It waits
while the CQ is full, the VF is frozen or the endpoint is contained. (log entry 39) -/
def completionPosted (fn : Fin 256) (cq : Nat) (s : State) : State :=
  match s.hqe.cqes.find? (fun e => e.fn == fn.val && e.cq == cq), cqOf s fn cq with
  | some e, some q =>
    if contained s || frozenVf s fn || (q.tail + 1) % q.size == q.head then s
    else
      let head := ((sqOf s fn e.sq).map Sq.head).getD 0
      let wrap := q.tail + 1 = q.size
      let s := s.hqeU (fun h => { h with cqes := h.cqes.filter (fun x => x != e), cmds := h.cmds.filter (fun c => c.tag != e.tag) })
      let s := dmaWrite s fn [⟨q.base + 16 * q.tail, 16⟩] (cqeBytes e head q.phase)
      let s := cqPut s fn cq { q with tail := if wrap then 0 else q.tail + 1, phase := if wrap then !q.phase else q.phase }
      let s := if q.ien then raiseMsix s fn q.vector else s
      checkPower (adminEnd (sqDrained (refreshIntx (refreshTags s)) fn e.sq) fn)
  | _, _ => s

def execCompletionPosted (fn : Fin 256) (cq : Nat) (s : State) : Host.Outcome State Fault Refusal :=
  answer s (completionPosted fn cq)

end Sys2Proof.Machine
end

