-- ==== Sys2Proof/Machine/Admin.lean ====
section
/-!
DEFINITION. The meanings of the admin opcodes (R373, R374, R378, R386, R394 to R396, R400, R401). Each acts for the admitted command
that holds the tag and is still running.
-/

namespace Sys2Proof.Machine

/-- The running command of an opcode that holds a tag. -/
def running (s : State) (tag op : Nat) : Option Cmd :=
  (cmdOf s tag).filter (fun c => c.sqe.op == op && c.st == .running && c.window.isNone)

/-- Carry out a command that is running. -/
def withCmd (s : State) (tag op : Nat) (k : Cmd → State) : State :=
  match running s tag op with
  | some c => k c
  | none => s

/-- A queue ID a function may name for an I/O queue (R368, R373). -/
def queueIdOk (fn q : Nat) : Bool := q != 0 && decide (q < queueRange fn)

/-- No pair can be added (R368, R373): the pool is spent, or the VF's limit reached. HQE_VF_LIMITv is the register of place v − 1. -/
def pairsSpent (s : State) (fn q : Nat) : Bool :=
  let held := pairsHeld s
  !held.contains (qKey fn q) && (decide (8192 ≤ held.length) || (fn != 0 &&
    decide (s.g (R.HQE_VF_LIMIT_QUEUES (fn - 1)) ≤ (held.filter (fun k => k / 8192 == fn && k % 8192 != 0)).length)))

/-- CREATE_CQ (R373). (log entry 40) -/
def createCq (tag : Nat) (s : State) : State :=
  withCmd s tag 1 (fun c =>
    let q := c.sqe.a0
    if s.on R.HQE_STATUS_CLOSED then complete s tag cNOT_READY
    else if !queueIdOk c.fn q || (cqOf s c.fn q).isSome then complete s tag cBAD_FIELD
    else if pairsSpent s c.fn q then complete s tag cNO_SPACE
    else complete (refreshQueues (cqPut s c.fn q
      ⟨c.sqe.addr, c.sqe.a1, 0, 0, true, c.sqe.a2 % 2048, c.sqe.a2 / 65536 % 2 == 1⟩)) tag cSUCCESS)

def execCreateCq (tag : Nat) (s : State) : Host.Outcome State Fault Refusal := answer s (createCq tag)

/-- CREATE_SQ (R373). (log entry 40) -/
def createSq (tag : Nat) (s : State) : State :=
  withCmd s tag 2 (fun c =>
    let q := c.sqe.a0
    if s.on R.HQE_STATUS_CLOSED then complete s tag cNOT_READY
    else if !queueIdOk c.fn q || (sqOf s c.fn q).isSome || !queueIdOk c.fn c.sqe.a2 || (cqOf s c.fn c.sqe.a2).isNone then complete s tag cBAD_FIELD
    else if pairsSpent s c.fn q then complete s tag cNO_SPACE
    else complete (refreshQueues (sqPut s c.fn q ⟨c.sqe.addr, c.sqe.a1, 0, 0, c.sqe.a2, c.sqe.a3 % 4, false, none⟩)) tag cSUCCESS)

def execCreateSq (tag : Nat) (s : State) : Host.Outcome State Fault Refusal := answer s (createSq tag)

/-- DELETE_SQ (R374). Naming an SQ that does not exist is a malformed field (DESIGN CHOICE). (log entry 38) -/
def deleteSq (tag : Nat) (s : State) : State :=
  withCmd s tag 3 (fun c =>
    match sqOf s c.fn c.sqe.a0 with
    | none => complete s tag cBAD_FIELD
    | some x =>
      if queueIdOk c.fn c.sqe.a0 = false then complete s tag cBAD_FIELD
      else if x.delTag.isSome then (if x.delTag = some tag then sqDrained s c.fn c.sqe.a0 else complete s tag cBAD_FIELD)
      else
        let s := sqPut s c.fn c.sqe.a0 { x with stopped := true, delTag := some tag }
        let s := s.each (s.hqe.cmds.filter (fun d => d.fn == c.fn && d.sq == c.sqe.a0 && abortable d)) abortCmd
        sqDrained s c.fn c.sqe.a0)

def execDeleteSq (tag : Nat) (s : State) : Host.Outcome State Fault Refusal := answer s (deleteSq tag)

/-- DELETE_CQ (R374). Naming a CQ that does not exist is a malformed field (DESIGN CHOICE). (log entry 38) -/
def deleteCq (tag : Nat) (s : State) : State :=
  withCmd s tag 4 (fun c =>
    let q := c.sqe.a0
    if queueRange c.fn ≤ q ∨ (cqOf s c.fn q).isNone = true then complete s tag cBAD_FIELD
    else if s.hqe.sqs.any (fun x => x.1 / 8192 == c.fn && x.2.cq == q) then complete s tag cBAD_STATE
    else complete (pairFreed (refreshIntx (cqDrop s c.fn q))) tag cSUCCESS)

def execDeleteCq (tag : Nat) (s : State) : Host.Outcome State Fault Refusal := answer s (deleteCq tag)

/-- ABORT (R394): it looks for its target and sends the abort request. -/
def abort (tag : Nat) (s : State) : State :=
  withCmd s tag 5 (fun c =>
    match s.hqe.cmds.find? (fun d => d.fn == c.fn && d.sq == c.sqe.a0 && d.sqe.cid == c.sqe.a1 % 65536 && d.window.isNone && d.st != .completing) with
    | none => complete s tag cNOT_FOUND
    | some d =>
      if !abortable d then complete s tag cNOT_FOUND
      else if d.abortBy.isSome then s
      else cmdU s d.tag (fun d => { d with abortBy := some tag }))

def execAbort (tag : Nat) (s : State) : Host.Outcome State Fault Refusal := answer s (abort tag)

/-- ABORT_REQUEST_ARRIVAL (R395): the request of the ABORT that holds `tag` reaches its target's tag state machine. -/
def abortRequestArrival (tag : Nat) (s : State) : State :=
  withCmd s tag 5 (fun _ =>
    match s.hqe.cmds.find? (fun d => d.abortBy == some tag) with
    | none => complete s tag cNOT_FOUND
    | some d => if abortable d then complete (abortCmd s d) tag cSUCCESS else complete s tag cNOT_FOUND)

def execAbortRequestArrival (tag : Nat) (s : State) : Host.Outcome State Fault Refusal := answer s (abortRequestArrival tag)

/-- SET_POWER (R400, R401): a second one supersedes the one that waits. -/
def enterPower (tag : Nat) (s : State) : State :=
  withCmd s tag 6 (fun _ =>
    if s.hqe.powerTag = some tag then checkPower s
    else
      let s := match s.hqe.powerTag with
        | some t => complete s t cSUPERSEDED
        | none => s
      checkPower ((s.u R.HQE_STATUS_ENTERING 1).hqeU (fun h => { h with powerTag := some tag })))

def execSetPower (tag : Nat) (s : State) : Host.Outcome State Fault Refusal := answer s (enterPower tag)

/-- STATION_ORDER (R293, R386): the station's result, with STN_CMD_RESULT.SEQ. `img` is the pickup's image where the order mounts. -/
def stationOrderCmd (tag : Nat) (rivals : List Rival) (img : List Byte) (s : State) : State :=
  withCmd s tag 7 (fun c =>
    let n := stnOf c.sqe.a0
    let (r, s) := stationOrder s n (if c.fn = 0 then .pf else .vf c.fn) (c.sqe.a1 % 16) (bitOf c.sqe.a1 8 == 1) img rivals
    complete s tag (if r = 1 then cSUCCESS else if r = 2 then cSUPERSEDED else if r = 3 then cNOT_OWNER else cBAD_STATE)
      (s.g (R.STN_CMD_RESULT_SEQ n)))

def execStationOrder (tag : Nat) (rivals : List Rival) (img : List (BitVec 8)) (s : State) : Host.Outcome State Fault Refusal :=
  answer s (stationOrderCmd tag rivals img)

/-- RETIRE_PAGE (R328): it waits while an allocated page finds no free page to move to. -/
def retirePageCmd (tag : Nat) (s : State) : State :=
  withCmd s tag 8 (fun c =>
    match retirePage s c.sqe.a0 c.sqe.a1 with
    | (some st, s) => complete s tag st
    | (none, s) => s)

def execRetirePage (tag : Nat) (s : State) : Host.Outcome State Fault Refusal := answer s (retirePageCmd tag)

end Sys2Proof.Machine
end

