-- ==== Sys2Proof/Machine/SealOps.lean ====
section
/-!
DEFINITION. Reels and their manifests (R383 to R385, R474 to R477).
-/

namespace Sys2Proof.Machine

/-- The first link of a reel's chain (R474): SHA-512 of manifest bytes 16 to 31. -/
def chainStart (serial vol lba : Nat) : BitVec 512 :=
  BitVec.ofNat 512 (numBE (sha512 (bytesBE 4 serial ++ bytesBE 1 vol ++ bytesBE 3 0 ++ bytesBE 8 lba)))

/-- The bytes of a manifest before its signatures (R475). -/
def manifestBody (uid : Nat) (r : Reel) : List Byte :=
  bytesBE 4 0x5345414C ++ bytesBE 4 1 ++ bytesBE 8 uid ++ bytesBE 4 r.serial ++ bytesBE 1 r.vol ++ bytesBE 3 0 ++ bytesBE 8 r.lba ++
    bytesBE 8 r.blocks ++ bytesBE 8 r.clusters ++ bytesBE 8 r.openTime ++ bytesBE 8 r.closeTime ++ bytesBE 4 r.openTc ++
    bytesBE 4 r.closeTc ++ bytesBE 4 r.marks.length ++ bytesBE 4 r.dropped ++ bytesBE 64 r.chain.toNat ++
    r.marks.flatMap (fun m => bytesBE 8 m.time ++ bytesBE 4 m.tc ++ bytesBE 4 m.offset)

/-- A signature at its length (R466). -/
def sigBytes (mlDsa : Bool) (msg : List Byte) : List Byte :=
  let n := if mlDsa then 3309 else 64
  let s := (Config.sign mlDsa msg).take n
  s ++ List.replicate (n - s.length) 0#8

/-- A signed manifest (R475). -/
def manifestOf (uid : Nat) (r : Reel) : List Byte :=
  let b := manifestBody uid r
  b ++ sigBytes false b ++ sigBytes true b

/-- Marks of a reel (R475): 3,876 at most, further ones are counted. -/
def addMark (r : Reel) (m : Mark) : Reel :=
  if r.marks.length < 3876 then { r with marks := r.marks ++ [m] } else { r with dropped := r.dropped + 1 }

/-- The block offset at which a reel stands: blocks in clusters, and those that wait for one (R475). -/
def reelOffset (s : State) (r : Reel) : Nat :=
  r.blocks + (s.buf.pages.filter (fun p => p.2.vol == r.vol && p.2.reel == r.serial && p.2.st == .acked)).length +
    (((openStripe s r.vol r.serial).bind Stripe.filling).map (fun c => c.bpns.length)).getD 0

/-- A mark in every open reel of a volume (R451, R475). (log entry 62) -/
def markVolume (s : State) (vol : Nat) : State :=
  s.each (s.grn.reels.filter (fun r => r.vol == vol && r.st == .opened && !r.copy)) (fun s r =>
    let m : Mark := ⟨s.now, timecode s, reelOffset s r⟩
    let fl : ReelStep := if r.marks.length < 3876 then .mark m.time m.tc m.offset else .markDropped
    let s := reelU s r.serial (fun r => addMark r m)
    if mirrors s vol then sendFlits s [.reel r.serial vol fl] else s)

/-- A reel is opened (R383), bound to a window where one is named. (log entry 35) -/
def openReel (s : State) (fn vol lba : Nat) (win : Option Nat) : Nat × State :=
  let serial := s.grn.nextReel
  let tc := timecode s
  let r : Reel := ⟨serial, vol, fn, win, lba, .opened, 0, 0, s.now, tc, 0, 0, [], 0, chainStart serial vol lba, none, false⟩
  let s := ceilingCkpt (s.grnU (fun g => { g with reels := g.reels ++ [r], nextReel := serial + 1 }))
  let s := if mirrors s vol then sendFlits s [.reel serial vol (.opened lba s.now tc)] else s
  match win with
  | none => (serial, s)
  | some w =>
    let f : Fin 256 := ⟨w % 256, Nat.mod_lt _ (by omega)⟩
    let s := (s.us [(R.PCX_WIN_STATUS_BOUND f.val, 1), (R.PCX_WIN_REEL_REEL f.val, serial)]).u64 (R.PCX_WIN_ACK_LO f.val) 0
    (serial, s.pcxU (fun p => { p with wins := vmod p.wins f (fun x => { x with
      lba := lba, parts := [], admitted := 0 }) }))

/-- A closed reel is signed (R476), and its SEAL cluster takes a stripe of its own, once one can be formed. (log entry 31) -/
def signReel (s : State) (serial : Nat) : State :=
  match reelOf s serial with
  | none => s
  | some r =>
    if r.st ≠ .closed then s
    else match newStripe s r.vol r.serial with
      | none => s
      | some t =>
        let b := manifestOf Config.uid.toNat r
        let c : Clu := ⟨5, r.vol, r.serial, 0, 0, 0, [], b⟩
        let s := s.tpzU (fun z => { z with stripes := z.stripes ++ [{ t with k := 1, data := [c], closed := true }] })
        let s := (s.truU (fun t => { t with manifests := (⟨serial, b⟩ :: t.manifests).take 4096 })).bump R.TRU_CNT_SEALS
        reelU s serial (fun r => { r with st := .signed })

/-- The manifest of a reel (R477): from TRU's store, or from its SEAL cluster. -/
inductive SealSrc
  | have' (bs : List Byte)
  /-- Its SEAL cluster, member r, has been rebuilt from its stripe: all its user bytes. -/
  | rebuilt (r : Nat) (e : SealE) (bs : List Byte)
  | wait (reads : List (Fin 8 × Nat))
  /-- The cluster has no place on disc yet. -/
  | soon
  | lost
deriving DecidableEq, Repr

/-- Find the manifest of a reel (R477, R341, R146). -/
def sealSrc (s : State) (serial : Nat) : SealSrc :=
  match s.tru.manifests.find? (fun m => m.reel == serial) with
  | some m => .have' m.bytes
  | none =>
    match (seals s).find? (fun q => q.2.reel == serial) with
    | none => if (reelOf s serial).isSome then .soon else .lost
    | some (_, e) =>
      let r := e.p + e.member
      let lay := layoutOf s e.stripe
      let here := (findMember s e.stripe r (placeStation e.stripe r e.narrow lay)).bind
        (fun f => relocContent s (discOfIndex s f.disc) f.pca)
      match here with
      | some q => .have' (q.1.take e.length)
      | none =>
      match memRead s e.stripe r e.narrow lay with
      | .have' _ bs => .have' (bs.take e.length)
      | .pending n a => .wait [(n, a)]
      | _ =>
        match rebuildMember s e.stripe e.k e.p e.narrow lay r with
        | .ok bs => .rebuilt r e bs
        | .wait l => .wait l
        | _ => .lost

end Sys2Proof.Machine
end

