-- ==== Sys2Proof/Machine/HostIo.lean ====
section
/-!
DEFINITION. The meanings of the I/O opcodes (R380 to R385, R391, R392, R442) and of the signing of manifests (R476). Each acts for the
admitted command that holds the tag.
-/

namespace Sys2Proof.Machine

/-- WRITE (R318, R380): its pages are taken once enough are free, and its data is read from host memory. That of a write whose group was rolled
back is read as well, and discarded (R354). -/
def write (tag : Nat) (s : State) : State :=
  let s := takePages (poolWritten s) tag
  withCmd s tag oWRITE (fun c =>
    if (c.bpns.length ≠ c.sqe.blocks ∧ c.dead = false) ∨ c.left.isSome = true then s
    else
      let parts := (cutRuns (maxRead s c.fn) 0 c.descs).length
      dmaRead (cmdU s tag (fun c => { c with left := some parts })) c.fn (.data tag) 0 c.descs)

def execWrite (tag : Nat) (s : State) : Host.Outcome State Fault Refusal := answer s (write tag)

/-- WRITE_ACKNOWLEDGE (R21, R391, R418, R441): a write, or a window write, whose data is in every buffer it must be in. -/
def writeAcknowledge (tag : Nat) (s : State) : State :=
  match cmdOf s tag with
  | none => s
  | some c => if ackReady s c then closeReel (ackWrite s c) c.sqe.reel else s

def execWriteAcknowledge (tag : Nat) (s : State) : Host.Outcome State Fault Refusal := answer s (writeAcknowledge tag)

/-- Where a block comes from (R23, R335, R341). -/
inductive BlockSrc
  /-- The bytes, whether the cluster was rebuilt, the member that was rebuilt for this READ alone (R146), and whether the partner served it (R443). -/
  | data (bs : List Byte) (degraded : Bool) (only : Option (Nat × Nat)) (remote : Bool)
  | wait
  | bad
deriving DecidableEq, Repr

/-- The newest acknowledged and visible page of a block no newer than `top`, with its BPN (R23, R336). The groups in `hid` were not visible when
the read was admitted (R353). -/
def pageOf (s : State) (hid : List Nat) (v b top : Nat) : Option (Nat × Page) :=
  (s.buf.pages.filter (fun q => q.2.vol == v && q.2.lba == b && (q.2.st == .acked || q.2.st == .joined) &&
    grpVisible s q.2.group && !hid.contains q.2.group && (top == 0 || q.2.ver ≤ top))).foldl (fun best p => match best with
      | none => some p
      | some q => if q.2.ver < p.2.ver then some p else some q) none

/-- Ask the partner for a cluster of a disc that is not mounted here (R443); `bad` where it cannot be had there either. -/
def askRemote (s : State) (id pca : Nat) : BlockSrc × State :=
  match s.cgl.remote.find? (fun r => r.1 == id && r.2.1 == pca) with
  | some (_, _, some bs, rebuilt) => (.data bs rebuilt none true, s)
  | some (_, _, none, _) => (.bad, s)
  | none =>
    if s.cgl.asked.contains (id, pca) then (.wait, s)
    else (.wait, sendFlits (s.cglU (fun c => { c with asked := c.asked ++ [(id, pca)] })) [.readReq id pca])

/-- The cluster of a stripe's member as a READ gets it (R146, R151, R290, R443): read, rebuilt, or not to be had. `m` is the map it is
found by, and `own` says that it is this FY8C's own. A relocation in progress serves it. A rebuilt cluster is relocated. One whose disc is
away, or in a station that cannot read it, is not, and its loss is not reported. -/
def clusterSrc (m s : State) (own : Bool) (e : LogicalE) (S r : Nat) : BlockSrc × State :=
  let lay := layoutOf m S
  let found := findMember m S r (placeStation S r e.narrow lay)
  let rebuilt := fun (s : State) (away : Bool) =>
    match rebuildMember m S e.k e.p e.narrow lay r with
    | .ok bs =>
      let t := if own && !away then relocRebuilt s S r e.k e.p e.narrow lay bs else (false, s)
      (BlockSrc.data bs true (if t.1 then none else some (S, r)) false, t.2)
    | .wait l => (.wait, askReads s l)
    | .away => (.bad, s)
    | .lost => (.bad, if away then s else loseMember s S e.p r noStation)
  match found.bind (fun f => relocContent s (discOfIndex m f.disc) f.pca) with
  | some c => (.data c.1 c.2 none false, s)
  | none =>
    match memRead m S r e.narrow lay with
    | .have' _ bs => (.data bs false none false, s)
    | .pending n a => (.wait, askReads s [(n, a)])
    | .dead => rebuilt s false
    | .away =>
      match found with
      | some f =>
        if pairMode s = 2 ∧ pairSt s = pPAIRED then
          let far := askRemote s (discOfIndex m f.disc) f.pca
          if far.1 = .bad then rebuilt s true else far
        else rebuilt s true
      | none => rebuilt s true

/-- A block as the map gives it (R341, R345): its lookups pass through Onyx. -/
def mapBlock (m s : State) (own : Bool) (i : Nat) (e : LogicalE) (b : Nat) : BlockSrc × State :=
  let (S, r) := clusterOf e b
  let lines := lineOf i :: ((findMember m S r (placeStation S r e.narrow (layoutOf m S))).map (fun f => lineOf f.entry)).toList
  let (hit, s) := touchAll s lines
  if !hit then (.wait, s)
  else if e.lost then (.bad, s)
  else
    let (src, s) := clusterSrc m s own e S r
    match src with
    | .data bs d only far => (.data ((bs.drop (4096 * ((b - e.lba) % 16))).take 4096) d only far, s)
    | x => (x, s)

/-- Where the newest version of a block that a READ may see stands (R23, R335). -/
inductive BlockPlace
  | unwritten
  | page (bpn : Nat) (p : Page)
  | map (own : Bool) (i : Nat) (e : LogicalE)
deriving DecidableEq, Repr

/-- The newest version that is visible, in the buffer or in the map: that of a volume taken over in span mode in the shadow map as well (R447). -/
def blockPlace (s : State) (hid : List Nat) (v b top : Nat) : BlockPlace :=
  let here := (selectLogical s hid v b top).map (fun q => (true, q))
  let there := if shadowed s v then (selectLogical (shadowView s) hid v b top).map (fun q => (false, q)) else none
  let map := match here, there with
    | some h, some t => if h.2.2.version < t.2.2.version then some t else some h
    | none, t => t
    | h, none => h
  match pageOf s hid v b top, map with
  | none, none => .unwritten
  | some (n, p), none => .page n p
  | none, some (own, i, e) => .map own i e
  | some (n, p), some (own, i, e) =>
    if e.version < p.ver ∨ (e.version = p.ver ∧ e.lost = false) then .page n p else .map own i e

/-- A block as a READ gets it, from the buffer or through the map (R23, R335). -/
def readBlock (s : State) : BlockPlace → Nat → BlockSrc × State
  | .unwritten, _ => (.data (List.replicate 4096 0#8) false none false, s)
  | .page _ p, _ => if p.lost then (.bad, s) else (.data p.bytes false none false, s)
  | .map own i e, b => mapBlock (if own then s else shadowView s) s own i e b

/-- The blocks of a READ in turn. (log entry 37) -/
def readBlocks (s : State) (hid : List Nat) (v top : Nat) : List Nat → List BlockSrc × State
  | [] => ([], s)
  | b :: t =>
    let (x, s) := readBlock s (blockPlace s hid v b top) b
    let (l, s) := readBlocks s hid v top t
    (x :: l, s)

/-- The pages of the buffer that a READ reads. -/
def readPages (s : State) (c : Cmd) : List Nat :=
  (List.range c.sqe.blocks).filterMap (fun i => match blockPlace s c.hidden c.sqe.vol (c.sqe.lba + i) c.sqe.version with
    | .page n _ => some n
    | _ => none)

/-- What the partner served is kept while another READ may need it; what it could not serve is asked for again by a later READ (R443). -/
def dropRemote (s : State) (tag : Nat) : State :=
  let more := s.hqe.cmds.any (fun c => c.sqe.op == oREAD && c.st == .running && c.tag != tag)
  s.cglU (fun g => { g with remote := if more then g.remote.filter (fun r => r.2.2.1.isSome) else [] })

/-- READ (R381, R391, R392): once every earlier conflicting write is acknowledged it takes its blocks; those not to be had are written
to host memory as zeroes. It waits for clusters to be read and for map lines to be filled. `errs` are the errors that its reads of the buffer find
(R322, R323). -/
def read (tag : Nat) (errs : List ReadErr) (s : State) : State :=
  withCmd s tag oREAD (fun c =>
    if heldBack s c then s
    else
      let s := pageErrors s (readPages s c) errs
      let (l, s) := readBlocks s c.hidden c.sqe.vol c.sqe.version ((List.range c.sqe.blocks).map (fun i => c.sqe.lba + i))
      if l.contains .wait then s
      else
        let bytes := l.flatMap (fun x => match x with
          | .data bs _ _ _ => bs
          | _ => List.replicate 4096 0#8)
        let deg := l.any (fun x => match x with | .data _ d _ _ => d | _ => false)
        let far := l.any (fun x => match x with | .data _ _ _ r => r | _ => false)
        let only := (l.filterMap (fun x => match x with | .data _ _ o _ => o | _ => none)).eraseDups
        let s := dropRemote (s.bumpN R.TPZ_CNT_RECONSTRUCTED only.length) tag
        let s := s.whenB far (fun s => s.bump R.CGL_CNT_REMOTE_READS)
        let s := dmaWrite s c.fn c.descs bytes
        match l.findIdx? (· == .bad) with
        | some i => complete s tag cMEDIA i
        | none => complete s tag cSUCCESS 0 deg)

def execRead (tag : Nat) (errs : List ReadErr) (s : State) : Host.Outcome State Fault Refusal := answer s (read tag errs)

/-- A page holds a block that is covered. -/
def covered (c : List (Nat × Nat × Nat)) (p : Page) : Bool := c.contains (p.vol, p.lba, p.ver)

/-- The covered data is mapped (R359). What is lost never will be. -/
def coverMapped (s : State) (c : List (Nat × Nat × Nat)) : Bool := !s.buf.pages.any (fun p => covered c p.2 && !p.2.lost && !p.2.mapped)

/-- The blocks of a stream join its cluster, k of them at most, until every covered one has (R132). -/
def joinCovered (s : State) (c : List (Nat × Nat × Nat)) (vol reel : Nat) : Nat → State
  | 0 => s
  | k + 1 =>
    let waits := s.buf.pages.any (fun p => p.2.vol == vol && p.2.reel == reel && p.2.st == .acked && !p.2.foreign && covered c p.2)
    if !waits || (nextBlock s vol reel).isNone then s else joinCovered (blockJoinCluster vol reel s) c vol reel k

/-- Some page of a cluster is covered. -/
def coversCluster (s : State) (c : List (Nat × Nat × Nat)) (q : Clu) : Bool :=
  q.bpns.any (fun b => ((smGet s.buf.pages b).map (covered c)).getD false)

/-- What a FLUSH covers closes (R132, R134): a stream's cluster and stripe that hold some of its data close short, once all of that data has
joined. (log entry 79) -/
def closeCovered (s : State) (c : List (Nat × Nat × Nat)) : State :=
  let streams := ((s.buf.pages.map Prod.snd).filter (fun p => covered c p && !p.foreign)).map (fun p => (p.vol, p.reel)) |>.eraseDups
  s.each streams (fun s q =>
    let s := joinCovered s c q.1 q.2 (s.buf.pages.length + 1)
    match openStripe s q.1 q.2 with
    | none => s
    | some t => if (t.data ++ t.filling.toList).any (coversCluster s c) then closeStream s q.1 q.2 else s)

/-- FLUSH (R359, R382, R442): after every earlier write of the volume it settles what it covers. That closes short, and once it is mapped a
checkpoint is taken for it. In twin mode the partner takes one as well; at a volume's copy the home is told first, and closes the clusters. -/
def flush (tag : Nat) (s : State) : State :=
  withCmd s tag oFLUSH (fun c =>
    if c.note ≠ 0 ∨ heldBack s c then s
    else
      let v := c.sqe.vol
      let told := copyVol s v
      let s := if told && c.left.isNone then sendFlits (cmdU s tag (fun c => { c with left := some 0 })) [.flush tag v] else s
      let all := c.cover.getD (coverOf s v, mappedOf s v)
      let cov := all.1
      let s := closeCovered (cmdU s tag (fun c => { c with cover := some all })) cov
      if !coverMapped s cov then s
      else
        let s := takeCkpt s (availSet s) false [tag]
        if s.grn.ckpts.any (fun k => k.tags.contains tag) then
          sendFlits (cmdU s tag (fun c => { c with note := 1 })) (if pairMode s = 1 && !told then [.flush tag v] else [])
        else s)

def execFlush (tag : Nat) (s : State) : Host.Outcome State Fault Refusal := answer s (flush tag)

/-- COMMIT_OPEN (R351, R363). (log entry 35) -/
def commitOpen (tag : Nat) (s : State) : State :=
  withCmd s tag oCOMMIT_OPEN (fun c =>
    let id := s.grn.nextGroup
    if 2 ^ 32 ≤ id ∨ 4096 ≤ s.g R.GRN_GROUPS_OPEN_COUNT then complete s tag cNO_SPACE
    else if s.grn.ceilGroup ≤ id then ceilingCkpt s
    else
      let s := s.grnU (fun g => { g with groups := g.groups ++ [⟨id, c.fn, .opened, 0, 0, none⟩], nextGroup := id + 1 })
      complete (sendFlits (refreshGroups (ceilingCkpt s)) [.group id 0]) tag cSUCCESS id)

def execCommitOpen (tag : Nat) (s : State) : Host.Outcome State Fault Refusal := answer s (commitOpen tag)

/-- COMMIT_CLOSE (R352, R354): a rolled-back group ends at once; the others' step into VISIBLE follows their members. -/
def commitClose (tag : Nat) (s : State) : State :=
  withCmd s tag oCOMMIT_CLOSE (fun c =>
    match grpOf s c.sqe.group with
    | none => complete s tag cROLLED_BACK
    | some g => if g.st = .rolledBack then grpDrop (complete s tag cROLLED_BACK) g.id else s)

def execCommitClose (tag : Nat) (s : State) : Host.Outcome State Fault Refusal := answer s (commitClose tag)

/-- REEL_OPEN (R383, R363). An order that another beats has completed SUPERSEDED at its admission (R398). -/
def reelOpen (tag : Nat) (s : State) : State :=
  withCmd s tag oREEL_OPEN (fun c =>
    let win := if c.sqe.a0 = 0xFFFF then none else some (c.sqe.a0 % 256)
    if 2 ^ 32 ≤ s.grn.nextReel ∨ 1024 ≤ (s.grn.reels.filter (fun r => r.st == .opened && !r.copy)).length then complete s tag cNO_SPACE
    else if win.any (fun w => s.on (R.PCX_WIN_STATUS_BOUND w)) then complete s tag cBAD_STATE
    else if s.grn.ceilReel ≤ s.grn.nextReel then ceilingCkpt s
    else
      let (serial, s) := openReel s c.fn c.sqe.vol c.sqe.lba win
      complete s tag cSUCCESS serial)

def execReelOpen (tag : Nat) (s : State) : Host.Outcome State Fault Refusal := answer s (reelOpen tag)

/-- REEL_CLOSE (R384): the reel has stopped taking data at the admission point; it drains and closes. (log entry 40) -/
def reelClose (tag : Nat) (s : State) : State :=
  withCmd s tag oREEL_CLOSE (fun c =>
    if (reelOf s c.sqe.reel).any (fun r => r.closeTag == some tag) then closeReel s c.sqe.reel else complete s tag cBAD_STATE)

def execReelClose (tag : Nat) (s : State) : Host.Outcome State Fault Refusal := answer s (reelClose tag)

/-- The manifest `bs` goes to host memory once a checkpoint is taken that covers its SEAL cluster (R385). -/
def giveSeal (s : State) (tag : Nat) (c : Cmd) (bs : List Byte) : State :=
  if c.sqe.a0 < bs.length then complete s tag cBAD_FIELD bs.length
  else if !(seals s).any (fun q => q.2.reel == sealName s c.sqe.reel) then s
  else
    let t := takeCkpt s (availSet s) false [tag]
    if t.grn.ckpts.any (fun k => k.tags.contains tag) then
      dmaWrite (cmdU t tag (fun c => { c with note := bs.length })) c.fn (sliceDescs 0 bs.length c.descs) bs
    else s

/-- SEAL (R385, R477): the manifest goes to host memory, and a checkpoint is taken once its SEAL cluster is mapped. A SEAL cluster that was
rebuilt is relocated (R146), and is then served from the relocation (R151). -/
def sealVol (tag : Nat) (s : State) : State :=
  withCmd s tag oSEAL (fun c =>
    if c.note ≠ 0 then s
    else match sealSrc s (sealName s c.sqe.reel) with
      | .soon => s
      | .wait l => askReads s l
      | .lost => complete s tag cMEDIA
      | .have' bs => giveSeal s tag c bs
      | .rebuilt r e bs =>
        let t := relocRebuilt s e.stripe r e.k e.p e.narrow (layoutOf s e.stripe) bs
        giveSeal (if t.1 then t.2 else t.2.bump R.TPZ_CNT_RECONSTRUCTED) tag c (bs.take e.length))

def execSeal (tag : Nat) (s : State) : Host.Outcome State Fault Refusal := answer s (sealVol tag)

/-- MANIFEST_SIGN (R476). -/
def manifestSign (serial : Nat) (s : State) : State := signReel s serial

def execManifestSign (serial : Nat) (s : State) : Host.Outcome State Fault Refusal := answer s (manifestSign serial)

end Sys2Proof.Machine
end

