-- ==== Sys2Proof/Machine/Dma.lean ====
section
/-!
DEFINITION. The meanings of the commands that end requests of the endpoint: completions, timeouts, translations, invalidations,
quarantined tags, and the unmasking of a vector (R413, R414, R423, R424, R432).
-/

namespace Sys2Proof.Machine

/-- A submission queue entry from its 64 bytes (R375). -/
def parseSqe (b : List Byte) : Sqe :=
  let n := fun a k => numLE ((b.drop a).take k)
  ⟨n 0 1, n 1 1, n 2 2, n 4 1 % 64, n 8 8, n 16 2, n 24 8, n 32 4, n 36 4, n 40 4, n 44 4, n 48 4, n 52 4, n 56 4, n 60 4⟩

/-- The descriptors of a list (R376). -/
def parseDescs (b : List Byte) : List Desc :=
  (List.range (b.length / 16)).map (fun i => ⟨numLE ((b.drop (16 * i)).take 8), numLE ((b.drop (16 * i + 8)).take 4)⟩)

/-- Put bytes over bytes. -/
def overlay (old : List Byte) (off : Nat) (new : List Byte) : List Byte :=
  old.take off ++ (new.take (old.length - off)) ++ old.drop (off + new.length)

/-- Change a fetched command, by the number of its fetch. -/
def fetchedU (s : State) (id : Nat) (f : Fetched → Fetched) : State :=
  s.hqeU (fun h => { h with fetched := h.fetched.map (fun x => if x.id = id then f x else x) })

/-- The head of an SQ moves past the entries that have been read, in the order in which they were fetched (R370). -/
def headMoves (s : State) (fn q : Nat) : State :=
  match sqOf s fn q with
  | none => s
  | some x =>
    let past := ((s.hqe.fetched.filter (fun f => f.fn == fn && f.sq == q && f.ahead)).takeWhile (fun f => f.sqe.isSome)).map Fetched.id
    sqPut (s.hqeU (fun h => { h with fetched := h.fetched.map (fun f => if past.contains f.id then { f with ahead := false } else f) }))
      fn q { x with head := (x.head + past.length) % x.size }

/-- An entry has been read (R370, R376): the head moves, and the descriptor list is read where there is one. -/
def sqeArrives (s : State) (id : Nat) (bs : List Byte) : State :=
  match s.hqe.fetched.find? (fun f => f.id == id) with
  | none => s
  | some f =>
    let e := parseSqe bs
    let list := e.flags % 2 == 1 && (e.op == oWRITE || e.op == oREAD || e.op == oSEAL) && 1 ≤ e.listCount && e.listCount ≤ 256
    let parts := (cutRuns (maxRead s f.fn) 0 [⟨e.addr, 16 * e.listCount⟩]).length
    let s := fetchedU s id (fun f => { f with
      sqe := some e
      descs := if list then none else some []
      raw := if list then List.replicate (16 * e.listCount) 0#8 else []
      left := if list then parts else 0 })
    let s := headMoves s f.fn f.sq
    if list then dmaRead s f.fn (.list id) 0 [⟨e.addr, 16 * e.listCount⟩] else s

/-- A part of a descriptor list has been read (R376). -/
def listArrives (s : State) (id off : Nat) (bs : List Byte) : State :=
  fetchedU s id (fun f =>
    let raw := overlay f.raw off bs
    { f with
      raw := raw
      left := f.left - 1
      descs := if f.left ≤ 1 then some (parseDescs raw) else f.descs })

/-- Put data of a write into its pages (R380). -/
def fillPages (s : State) (bpns : List Nat) (off : Nat) (bs : List Byte) : State :=
  s.each bpns.zipIdx (fun s x =>
    let a := 4096 * x.2
    let lo := off - a
    let part := (bs.drop (a - off)).take (4096 - lo)
    if off + bs.length ≤ a ∨ a + 4096 ≤ off then s
    else pagesU s (fun b _ => b == x.1) (fun p => { p with bytes := overlay p.bytes lo part }))

/-- A part of a write's data has been read (R380, R440): with the last, the data is in the buffer and is mirrored. -/
def dataArrives (s : State) (tag off : Nat) (bs : List Byte) : State :=
  match cmdOf s tag with
  | none => s
  | some c =>
    let s := fillPages s c.bpns off bs
    let left := (c.left.getD 1) - 1
    let s := cmdU s tag (fun c => { c with left := some left, st := if left = 0 ∧ c.st = .running then .inBuffer else c.st })
    if left = 0 then
      mirrorPages (pagesU s (fun b _ => c.bpns.contains b) (fun p => { p with st := if p.st = .filling then .inBuffer else p.st })) c.bpns
    else s

/-- What a request's completions have brought: the bytes arrive in parts (R423). -/
def partArrives (s : State) (tag : Nat) (bs : List Byte) : State :=
  s.pcxU (fun p => { p with reqs := p.reqs.map (fun r => if r.tag = tag then { r with got := r.got ++ bs } else r) })

/-- The data of a request arrives. -/
def deliver (s : State) (r : DmaRead) (bs : List Byte) : State :=
  match r.use with
  | .sqe id => sqeArrives s id bs
  | .list id => listArrives s id r.off bs
  | .data tag => dataArrives s tag r.off bs
  | .trans _ => s
  | .orphan => s

/-- A request has failed (R370, R376, R380, R413, R423): an entry is read again, any other read ends its command, an access whose
translation failed goes untranslated. -/
def readFails (s : State) (r : DmaRead) : State :=
  match r.use with
  | .sqe _ => s.pcxU (fun p => { p with wait := p.wait ++ [r] })
  | .list id => fetchedU s id (fun f => { f with failed := true })
  | .data tag =>
    match cmdOf s tag with
    | some c => if pastEffect c then s else endWrite s c cHOST_TIMEOUT
    | none => s
  | .trans page => s.pcxU (fun p => { p with plain := p.plain ++ [(r.fn, page)] })
  | .orphan => s

/-- Send what can go, and forget which accesses were to go untranslated once they have gone (R413). -/
def pumpPlain (s : State) : State :=
  let s := answerInvs (pump s)
  if contained s then s else s.pcxU (fun p => { p with plain := p.plain.filter (fun x => touchesPage p x.1 x.2) })

/-- The outstanding request of a tag. -/
def reqOf (s : State) (tag : Nat) : Option NpReq := s.pcx.reqs.find? (fun r => r.tag == tag)

/-- The request of a tag is outstanding no more. -/
def dropReq (s : State) (tag : Nat) : State := s.pcxU (fun p => { p with reqs := p.reqs.filter (fun r => r.tag != tag) })

/-- AER's bit for an error of a completion (R423). -/
def cplBit : CplStatus → Nat
  | .unsupported => 20
  | .abort => 15
  | _ => 12

/-- DMA_COMPLETION (R423, R429): a completion for an outstanding read; it ends with the one that brings the last of its bytes. Status UR or CA freezes a
VF where UR_FREEZE is 1. -/
def dmaCompletion (tag : Nat) (st : CplStatus) (data : List Byte) (s : State) : State :=
  match reqOf s tag with
  | none => s
  | some r =>
    if st = .ok then
      let all := r.got ++ data
      if all.length < r.read.len then partArrives s tag data else pumpPlain (deliver (dropReq s tag) r.read (all.take r.read.len))
    else
      let s := dropReq s tag
      let s := readFails (aer s (cplBit st)) r.read
      let s := if r.read.fn ≠ 0 ∧ st ≠ .poisoned ∧ s.on R.PCX_VIOL_UR_FREEZE = true then freeze s 1 r.read.fn 5 else s
      pumpPlain s

def execDmaCompletion (tag : Nat) (st : CplStatus) (data : List (BitVec 8)) (s : State) : Host.Outcome State Fault Refusal :=
  answer s (dmaCompletion tag st data)

/-- A request ends as timed out (R423, R426). -/
def timeOut (s : State) (r : NpReq) : State :=
  let s := (dropReq s r.tag).pcxU (fun p => { p with quarantine := p.quarantine ++ [(r.tag, r.read.fn, s.now)] })
  readFails ((aer s 14).bump R.PCX_CNT_TIMEOUTS) r.read

/-- COMPLETION_TIMEOUT (R423): CPL_TO ms after a request was sent. -/
def completionTimeout (tag : Nat) (s : State) : State :=
  match reqOf s tag with
  | none => s
  | some r => if s.now < r.sent + 1000000 * s.g R.PCX_TIMING_CPL_TO then s else pumpPlain (timeOut s r)

def execCompletionTimeout (tag : Nat) (s : State) : Host.Outcome State Fault Refusal := answer s (completionTimeout tag)

/-- A tag leaves quarantine. -/
def freeQuarantine (s : State) (tag : Nat) : State :=
  s.pcxU (fun p => { p with quarantine := p.quarantine.filter (fun q => q.1 != tag) })

/-- LATE_COMPLETION (R424): it is discarded, and its tag leaves quarantine. -/
def lateCompletion (tag : Nat) (s : State) : State :=
  match s.pcx.quarantine.find? (fun q => q.1 == tag) with
  | none => s
  | some q =>
    if contained s then s
    else
      let s := ((aer (freeQuarantine s tag) 16).bump R.PCX_CNT_LATE).log 0x404 noStation [q.2.1, tag]
      pumpPlain s

def execLateCompletion (tag : Nat) (s : State) : Host.Outcome State Fault Refusal := answer s (lateCompletion tag)

/-- TAG_QUARANTINE_EXPIRY (R423): 4 × CPL_TO after the timeout. While contained, tags stay until the release (R426). -/
def tagQuarantineExpiry (tag : Nat) (s : State) : State :=
  match s.pcx.quarantine.find? (fun q => q.1 == tag) with
  | none => s
  | some q =>
    if contained s || decide (s.now < q.2.2 + 4000000 * s.g R.PCX_TIMING_CPL_TO) then s else pumpPlain (freeQuarantine s tag)

def execTagQuarantineExpiry (tag : Nat) (s : State) : Host.Outcome State Fault Refusal := answer s (tagQuarantineExpiry tag)

/-- TRANSLATION_COMPLETION (R413): the cache of 2,048 translations takes it; which entry it replaces when full the spec leaves open:
a free value picks it. (log entry 16) -/
def translationCompletion (tag : Nat) (ok : Bool) (phys : Nat) (rd wr : Bool) (s : State) : State :=
  match reqOf s tag with
  | none => s
  | some r =>
    match r.read.use with
    | .trans page =>
      let s := dropReq s tag
      if ok && (rd || wr) then
        let e : AtsEntry := ⟨r.read.fn, page, phys, rd, wr⟩
        let full := decide (2048 ≤ s.pcx.ats.length)
        let old := if full then s.pcx.ats.eraseIdx (s.freeVal % s.pcx.ats.length) else s.pcx.ats
        pumpPlain ((s.whenB full State.tick).pcxU (fun p => { p with ats := old ++ [e] }))
      else pumpPlain (readFails s r.read)
    | _ => s

def execTranslationCompletion (tag : Nat) (ok : Bool) (phys : Nat) (rd wr : Bool) (s : State) :
    Host.Outcome State Fault Refusal := answer s (translationCompletion tag ok phys rd wr)

/-- INVALIDATE_REQUEST (R414): `count` pages from `page` on. -/
def invalidateRequest (fn : Fin 256) (page count itag : Nat) (s : State) : State :=
  if contained s || !atsOn s fn then s
  else
    let hit := fun (p : Nat) => decide (page ≤ p) && decide (p < page + count)
    let waits := (s.pcx.reqs.filter (fun r => r.read.fn == fn.val && r.page.any hit)).map NpReq.tag
    answerInvs (s.pcxU (fun p => { p with
      ats := p.ats.filter (fun e => !(e.fn == fn.val && hit e.page)), invs := p.invs ++ [⟨fn, itag, waits⟩] }))

def execInvalidateRequest (fn : Fin 256) (page count itag : Nat) (s : State) : Host.Outcome State Fault Refusal :=
  answer s (invalidateRequest fn page count itag)

/-- The pending message of a vector that is not masked any more is sent (R432). -/
def sendPending (s : State) (fn v : Nat) : State :=
  if msixOn s fn && !masked s fn v && bitOf (pbaRd s fn v).toNat (v % 32) == 1 then
    raiseMsix (pbaWr s fn v (pbaRd s fn v &&& ~~~ BitVec.ofNat 32 (2 ^ (v % 32)))) fn v
  else s

/-- VECTOR_UNMASK (R432): the mask bit of a vector is cleared, by a posted write (R412). -/
def vectorUnmask (fn : Fin 256) (v : Nat) (s : State) : State :=
  if creditsHeld s then postpone s (.unmask fn v)
  else if vectorsOf fn ≤ v then s
  else if vfShut s fn then shutOut s
  else
    let w := msixRd s fn v 3 &&& ~~~ 1#32
    sendPending (if fn.val = 0 then s.wr (0x30000 + 16 * v + 12) w else vfWr s fn (0x6000 + 16 * v + 12) w) fn v

def execVectorUnmask (fn : Fin 256) (v : Nat) (s : State) : Host.Outcome State Fault Refusal := answer s (vectorUnmask fn v)

end Sys2Proof.Machine
end

