-- ==== Sys2Proof/Machine/Operands.lean ====
section
/-!
DEFINITION. The operand forms of register accesses (R54): the DWs of a TLP and the bytes it enables.
-/

namespace Sys2Proof.Machine

/-- The bytes a request enables, as a mask. -/
def beMask (be : BitVec 4) : Word :=
  BitVec.ofNat 32 (((List.range 4).map (fun i => bitOf be.toNat i * 255 * 2 ^ (8 * i))).foldl (· + ·) 0)

/-- One DW of a register TLP: its offset, its byte enables, its data. -/
structure DwPart where
  addr : Nat
  be : BitVec 4
  data : Word
deriving DecidableEq, Repr

/-- The DWs of a TLP of at most 2 DW, low DW first (R54). -/
def dwParts (a : Access) : List DwPart :=
  let at' := a.addr / 4 * 4
  if a.dws ≤ 1 then [⟨at', a.be, a.data⟩] else [⟨at', a.be, a.data⟩, ⟨at' + 4, a.be2, a.data2⟩]

/-- The enabled bytes of a DW take new data; the others keep the old (R54). -/
def mergeBytes (be : BitVec 4) (old new : Word) : Word := (old &&& ~~~ beMask be) ||| (new &&& beMask be)

end Sys2Proof.Machine
end

