-- ==== Sys2Proof/Machine/Pcx.lean ====
section
/-!
DEFINITION. The meanings of the endpoint's resets, configuration requests, containment, links and frozen masters (R405 to R411, R425
to R431).
-/

namespace Sys2Proof.Machine

/-- Configuration space of a function returns to its reset values; AER of the PF keeps its sticky registers where asked. -/
def cfgWipe (s : State) (fn : Nat) (sticky : Bool) : State :=
  s.pcxU (fun p => { p with cfg := p.cfg.filter (fun e => !(e.1 / 1024 == fn && !(sticky && fn == 0 && 64 ≤ e.1 % 1024 && e.1 % 1024 < 82))) })

/-- An FLR of one function (R402, R415). -/
def flrOne (s : State) (fn : Nat) (sticky : Bool) : State := cfgWipe (fnReset s fn) fn sticky

/-- Every enabled VF is reset as by FLR (R409). -/
def flrVfs (s : State) (sticky : Bool) : State := s.each ((List.range (numVfs s)).map (· + 1)) (fun s v => flrOne s v sticky)

/-- FUNCTION_LEVEL_RESET (R402, R409, R428): that of the PF acts on every VF. -/
def functionLevelReset (fn : Fin 256) (s : State) : State :=
  if !fnOn s fn then s
  else if fn.val = 0 then refreshIntx (flrOne (flrVfs s true) 0 true)
  else refreshIntx (flrOne s fn true)

def execFunctionLevelReset (fn : Fin 256) (s : State) : Host.Outcome State Fault Refusal := answer s (functionLevelReset fn)

/-- Every function is reset (R428). -/
def resetFunctions (s : State) : State := flrOne (flrVfs s false) 0 false

/-- AER's bit for a cause of containment (R425). -/
def containBit : ContainCause → Nat
  | .linkDown => 5
  | .dataLink => 4
  | .tlp => 18
  | .ecrc => 19
  | .internal => 22

/-- PCX_CONTAIN.CAUSE (R434). -/
def containCode : ContainCause → Nat
  | .linkDown => 1
  | .dataLink => 2
  | .tlp => 3
  | .ecrc => 4
  | .internal => 5

/-- Posted writes that wait for credits are gone with the link. (log entry 86) -/
def dropPosted (s : State) : State := s.pcxU (fun p => { p with posted := [] })

/-- The endpoint enters CONTAINED (R425, R426, R415). A further cause changes nothing. -/
def contain (s : State) (c : ContainCause) : State :=
  let s := if c = .linkDown then dropPosted (s.u R.PCX_LINK_DL_UP 0) else if s.on R.PCX_LINK_DL_UP then aer s (containBit c) else s
  if contained s then s
  else
    let s := (s.us [(R.PCX_CONTAIN_CONTAINED, 1), (R.PCX_CONTAIN_CAUSE, containCode c)]).log 0x401 noStation [containCode c]
    let s := s.each s.pcx.reqs timeOut
    refreshIntx (s.pcxU (fun p => { p with ats := [], plain := [], invs := [] }))

/-- CONTAINMENT_EVENT (R404, R425): ECRC is checked where AER enables it. -/
def containmentEvent (c : ContainCause) (s : State) : State := if c = .ecrc ∧ ecrcChecked s = false then s else contain s c

def execContainmentEvent (cause : ContainCause) (s : State) : Host.Outcome State Fault Refusal := answer s (containmentEvent cause)

/-- HOT_RESET (R428): a link-down reset enters CONTAINED. (log entry 41) -/
def hotReset (linkDown : Bool) (s : State) : State :=
  refreshIntx (resetFunctions (if linkDown then contain s .linkDown else dropPosted s))

def execHotReset (linkDown : Bool) (s : State) : Host.Outcome State Fault Refusal := answer s (hotReset linkDown)

/-- FUNDAMENTAL_RESET (R428, R496): as hot reset; CONTAINED is cleared. -/
def fundamentalReset (s : State) : State :=
  let s := (resetFunctions s).us [(R.PCX_CONTAIN_CONTAINED, 0), (R.PCX_CONTAIN_CAUSE, 0), (R.PCX_LINK_DL_UP, 0),
    (R.GLB_RESET_CAUSE_FUNDAMENTAL, 1)]
  refreshIntx (s.pcxU (fun p => { p with quarantine := [], reqs := [], wait := [], tx := [], posted := [] }))

def execFundamentalReset (s : State) : Host.Outcome State Fault Refusal := answerUp s fundamentalReset

/-- Setting or clearing VF Enable (R409). -/
def setVfEnable (s : State) (on : Bool) : State :=
  let w := cfgRd s 0 0x228
  if on then
    if 7 < (cfgRd s 0 0x230).toNat % 65536 ∧ cfgBit s 0 0x228 4 = false then s else cfgPut s 0 0x228 (w ||| 1#32)
  else
    let s := flrVfs s true
    cfgPut s 0 0x228 (cfgRd s 0 0x228 &&& ~~~ 1#32)

/-- VF_ENABLE (R409). -/
def vfEnable (on : Bool) (s : State) : State := refreshIntx (setVfEnable s on)

def execVfEnable (on : Bool) (s : State) : Host.Outcome State Fault Refusal := answer s (vfEnable on)

/-- A configuration write (R404 to R413, R432): writable bits follow the data, and what depends on them follows. Of the device power states only D0 and
D3hot can be entered. (log entries 9, 68) -/
def cfgWrite (s : State) (fn off : Nat) (be : BitVec 4) (data : Word) : State :=
  let old := cfgRd s fn off
  let m := BitVec.ofNat 32 (cfgMask fn off) &&& beMask be
  let c := BitVec.ofNat 32 (cfgClear fn off) &&& beMask be &&& data
  let vfBit := fn = 0 ∧ off = 0x228
  let m := if vfBit then m &&& ~~~ 1#32 else m
  let noSuch := off = 0x44 ∧ (data.toNat % 4 = 1 ∨ data.toNat % 4 = 2)
  let m := if noSuch then 0#32 else m
  let s := cfgPut s fn off (((old &&& ~~~ m) ||| (data &&& m)) &&& ~~~ c)
  let s := if vfBit ∧ s.on R.TRU_STATUS_RECOVERY = false ∧ bitOf be.toNat 0 = 1 ∧ bitOf old.toNat 0 ≠ bitOf data.toNat 0 then setVfEnable s (bitOf data.toNat 0 == 1) else s
  let noAts := off = atsDw fn ∧ atsOn s fn = false
  let s := if noAts ∨ inD3 s fn = true then s.pcxU (fun p => { p with ats := p.ats.filter (fun e => e.fn != fn) }) else s
  let s := if off = 0x50 then s.each (List.range (vectorsOf fn)) (fun s v => sendPending s fn v) else s
  let flr := off = 0x78 ∧ bitOf be.toNat 1 = 1 ∧ bitOf data.toNat 15 = 1
  let s := if flr then (if fn = 0 then flrOne (flrVfs s true) 0 true else flrOne s fn true) else s
  let s := if off = 0x04 ∨ off = 0x44 then pump s else s
  refreshIntx s

/-- CONFIG_REQUEST (R405, R411): Configuration Request Retry Status until the endpoint is ready; a function that does not exist refuses it, and
every Type 1 request, I/O request and AtomicOp is refused, unless a contained endpoint drops it (R426). In RECOVERY only function 0 exists (R407),
BAR2 and BAR4 report a size of zero, and no VF is enabled (R38). (log entry 68) -/
def configRequest (r : CfgReq) (s : State) : State :=
  let off := 4 * r.dw.val
  if r.kind = .io ∨ r.kind = .atomic then (if contained s then s else s.emitTlp (.refused r.fn))
  else if s.sys.ready = false then s.emitTlp (.cfgDone r.fn none)
  else if r.kind = .config1 then s.emitTlp (.refused r.fn)
  else if !fnOn s r.fn ∨ (r.fn ≠ 0 ∧ s.on R.TRU_STATUS_RECOVERY = true) then s.emitTlp (.refused r.fn)
  else if s.on R.TRU_STATUS_RECOVERY = true ∧ 0x18 ≤ off ∧ off ≤ 0x24 then s.emitTlp (.cfgDone r.fn (some 0#32))
  else if r.write then (cfgWrite s r.fn off r.be r.data).emitTlp (.cfgDone r.fn (some 0#32))
  else s.emitTlp (.cfgDone r.fn (some (cfgRd s r.fn off)))

def execConfigRequest (r : CfgReq) (s : State) : Host.Outcome State Fault Refusal := answerUp s (configRequest r)

/-- Widest width whose lanes all work, from either end (R404, R406, R435); 0 where none does. -/
def widest (lanes : Nat) : Nat :=
  (([8, 4, 2, 1] : List Nat).find? (fun w =>
    (List.range w).all (fun l => bitOf lanes l == 1) || (List.range w).all (fun l => bitOf lanes (7 - l) == 1))).getD 0

/-- SERDES_LANE_FAILURE (R406). -/
def serdesLaneFailure (lane : Fin 8) (s : State) : State :=
  let ok := s.g R.PCX_LINK_LANES_OK
  if bitOf ok lane = 0 then s
  else
    let ok := ok - 2 ^ lane.val
    (s.us [(R.PCX_LINK_LANES_OK, ok), (R.PCX_LINK_WIDTH, widest ok)]).log 0x402 noStation [widest ok, ok]

def execSerdesLaneFailure (lane : Fin 8) (s : State) : Host.Outcome State Fault Refusal := answerUp s (serdesLaneFailure lane)

/-- DATA_LINK_UP (R427): the endpoint stays CONTAINED where it is. -/
def dataLinkUp (speed width lanes : Nat) (s : State) : State :=
  s.us [(R.PCX_LINK_DL_UP, 1), (R.PCX_LINK_SPEED, speed), (R.PCX_LINK_WIDTH, width), (R.PCX_LINK_LANES_OK, lanes)]

def execDataLinkUp (speed width lanes : Nat) (s : State) : Host.Outcome State Fault Refusal :=
  answerUp s (dataLinkUp speed width lanes)

/-- CONTAINED is left (R427), while the data link is up: quarantined tags are released, and what is held goes on. (log entry 41) -/
def leaveContained (s : State) : State :=
  let s := (s.us [(R.PCX_CONTAIN_CONTAINED, 0), (R.PCX_CONTAIN_CAUSE, 0)]).pcxU (fun p => { p with quarantine := [] })
  pumpPlain (refreshIntx s)

/-- CONTAIN_RELEASE_RESUME (R427): what is held proceeds in its order. -/
def containReleaseResume (s : State) : State :=
  if contained s && s.on R.PCX_LINK_DL_UP then leaveContained s else s

def execContainReleaseResume (s : State) : Host.Outcome State Fault Refusal := answer s containReleaseResume

/-- CONTAIN_RELEASE_DISCARD (R427): every function is reset first. -/
def containReleaseDiscard (s : State) : State :=
  if contained s && s.on R.PCX_LINK_DL_UP then
    leaveContained (s.each (0 :: (List.range (numVfs s)).map (· + 1)) fnReset)
  else s

def execContainReleaseDiscard (s : State) : Host.Outcome State Fault Refusal := answer s containReleaseDiscard

/-- An entry of PCX_FROZEN_LIST is released (R430, R431, R434); an empty one is ignored. -/
def releaseFrozen (s : State) (i : Nat) : State :=
  if s.on (R.PCX_FROZEN_LIST_VALID i) then
    (s.us [(R.PCX_FROZEN_LIST_VALID i, 0), (R.PCX_FROZEN_LIST_KIND i, 0), (R.PCX_FROZEN_LIST_CAUSE i, 0), (R.PCX_FROZEN_LIST_ID i, 0),
      (R.PCX_FROZEN_STATUS_COUNT, s.g R.PCX_FROZEN_STATUS_COUNT - 1)])
  else s

/-- FROZEN_RELEASE_ENTRY (R431): the fetches of a released VF go on. -/
def frozenReleaseEntry (i : Fin 64) (s : State) : State := pumpPlain (refreshIntx (releaseFrozen s i))

def execFrozenReleaseEntry (i : Fin 64) (s : State) : Host.Outcome State Fault Refusal := answer s (frozenReleaseEntry i)

/-- FROZEN_RELEASE_ALL (R431). -/
def frozenReleaseAll (s : State) : State := pumpPlain (refreshIntx (s.each (List.range 64) releaseFrozen))

def execFrozenReleaseAll (s : State) : Host.Outcome State Fault Refusal := answer s frozenReleaseAll

end Sys2Proof.Machine
end

