-- ==== Sys2Proof/Machine/Cgl.lean ====
section
/-!
DEFINITION. The meanings of CorgeLink's commands (R435 to R450, R460).
-/

namespace Sys2Proof.Machine

/-- A control flit of this FY8C's with nothing in it but its pair state and the time exchange (R436, R458). (log entry 61) -/
def ctlOf (s : State) : Ctl := ⟨none, none, [], [], false, pairSt s, some ⟨s.now, s.cgl.oneWay⟩⟩

/-- Announce the pair state (R436). -/
def tellState (s : State) : State := s.emit (.ctl (ctlOf s))

/-- HANDBACK begins (R449): the volumes taken over are no longer admitted. -/
def startHandback (s : State) : State :=
  tellState ((s.u R.CGL_STATUS_STATE pHANDING_BACK).cglU (fun c => { c with handing := c.taken }))

/-- The writes that waited for the partner are acknowledged from the local buffer (R446), and the groups and FLUSHes that waited for it
complete (R442, R460). Pages that waited for the partner's copy are freed (R318). -/
def goAlone (s : State) : State :=
  let s := letGo s (mappedPages s (fun _ => true))
  let s := s.each (s.hqe.cmds.map Cmd.tag) (fun s t =>
    match cmdOf s t with
    | some c => if ackReady s c then closeReel (ackWrite s c) c.sqe.reel else s
    | none => s)
  let s := s.each ((s.grn.groups.filter (fun g => g.st == .closing && g.id < 2 ^ 32)).map Grp.id) (fun s id => groupVisible id s)
  s.each (s.hqe.cmds.filter (fun c => c.sqe.op == oFLUSH && 2 ≤ c.note)) (fun s c =>
    complete s c.tag cSUCCESS ((c.note - 2) % 2 ^ 32) (flushDegraded s c))

/-- The copies held for the partner are recorded here from now on (R447): its pages join clusters by this FY8C's own rules, after the
writes that were admitted before. (log entry 60) -/
def adoptPages (s : State) : State :=
  let top := ((s.buf.pages.map Prod.snd).filter Page.foreign).foldl (fun a p => max a (p.adm + 1)) s.hqe.nextAdm
  (pagesU s (fun _ p => p.foreign) (fun p => { p with foreign := false })).hqeU (fun h => { h with nextAdm := top })

/-- The partner's open reels of volumes taken over are closed and sealed here (R447, R476). (log entry 60) -/
def closePeerReels (s : State) : State :=
  s.each (s.grn.reels.filter (fun r => r.copy && (r.st == .opened || r.st == .closing))) (fun s r =>
    let s := reelU s r.serial (fun x => { x with copy := false, st := .closing })
    closeReel s r.serial)

/-- Writes of the partner that have not been applied here, and so were never confirmed, are given up with their pages. (log entry 60) -/
def dropUnapplied (s : State) : State :=
  let s := freePages s (pagesWhere s (fun p => p.foreign && p.st == .inBuffer))
  s.cglU (fun c => { c with admits := [] })

/-- The FY8C enters ISOLATED or TAKEN_OVER (R445 to R447). -/
def standAlone (s : State) (takeOver : Bool) : State :=
  let s := (dropUnapplied s).cglU (fun c => { c with
    up := false, replay := [], sendQ := [], sync := [], due := [], serve := [], asked := [], remote := [], flushes := [], handing := 0, left := false })
  let s := (refreshSync s).us [(R.CGL_STATUS_STATE, if takeOver then pTAKEN_OVER else pISOLATED),
    (R.CGL_EPOCH_EPOCH, (s.g R.CGL_EPOCH_EPOCH + 1) % 2 ^ 32)]
  let s := if takeOver then
      let v := (s.cgl.peer.map PeerId.home).getD 0#64
      let s := s.cglU (fun c => { c with taken := c.taken ||| v, lent := 0#64 })
      let s := s.log 0x501 noStation [s.g R.CGL_EPOCH_EPOCH, s.g R.CGL_STATUS_LOSS_CAUSE, v.toNat % 2 ^ 32, v.toNat / 2 ^ 32]
      closePeerReels (adoptPages (s.bump R.CGL_CNT_TAKEOVERS))
    else if pairMode s = 1 then adoptPages s
    else s
  goAlone s

/-- The partner is lost (R445): 1 by silence, 2 by LEAVE, 3 by freezing. Only silence can lead to TAKEN_OVER. (log entry 61) -/
def losePartner (s : State) (cause : Nat) : State :=
  if !mirroring s then s
  else
    let seen := s.on R.CGL_CTRL_RING_ARB && s.cgl.alive.any (fun t => decide (s.now < t + 1000000))
    let take := cause == 1 && !seen && (!s.on R.CGL_CTRL_ROLE || s.on R.CGL_CTRL_RING_ARB)
    standAlone (s.u R.CGL_STATUS_LOSS_CAUSE cause) take

/-- The partner is frozen (R429, R444), which loses it (R445). -/
def freezePartner (s : State) : State := losePartner (freeze s 2 0 6) 3

/-- Why two FY8C do not pair (R439), as CGL_STATUS.MISMATCH_CAUSE; 0 where they do. (log entry 61) -/
def mismatch (s : State) (p : PeerId) : Nat :=
  let want := s.g64 R.CGL_PEER_UID_LO
  if want ≠ 0 ∧ want ≠ p.uid.toNat then 1
  else if pairMode s ≠ p.mode ∨ p.mode = 0 then 2
  else if s.g R.CGL_CTRL_ROLE = p.role then 3
  else if Nat.land (s.g64 R.CGL_HOME_LO) p.home.toNat ≠ 0 then 4
  else 0

/-- The blocks of a LOGICAL entry whose clusters a rejoiner may lack (R448): those written at or after a time. A RUN holds the time of its
first member only, so all of a longer RUN counts. (log entry 61) -/
def dueBlocks (s : State) (e : LogicalE) (since : Nat) : List (Nat × Nat × Nat) :=
  (List.range e.blocks).filterMap (fun i =>
    let (S, r) := clusterOf e (e.lba + i)
    let late := match findMember s S r (placeStation S r e.narrow (layoutOf s S)) with
      | some f => decide (since ≤ f.time) || !f.isMember
      | none => true
    if late then some (e.vol, e.lba + i, e.version) else none)

/-- The catch-up of a rejoiner begins (R448): in twin mode every late version of the home volumes, in span mode the map as a base and
every page not released. What is not acknowledged goes as new writes do. -/
def startCatchUp (s : State) (p : PeerId) : State :=
  let mine := s.buf.pages.map Prod.snd |>.filter (fun x => homeVol s x.vol && !x.foreign && (x.st == .acked || x.st == .joined) && !x.lost)
  let pages := mine.map (fun x => FlitBody.catchUp x.vol x.lba x.ver x.group x.reel x.bytes)
  let since := p.ckpt - 1000000000
  let s :=
    if pairMode s = 1 then
      let due := ((logicals s).filter (fun q => homeVol s q.2.vol && !q.2.lost)).flatMap (fun q => dueBlocks s q.2 since)
      s.cglU (fun c => { c with sync := pages, due := due })
    else
      let maps := s.grn.entries.map (fun q => FlitBody.map q.1 (entryBytes q.2))
      s.cglU (fun c => { c with sync := maps ++ pages, due := [] })
  refreshSync s

/-- The writes that are not acknowledged yet are mirrored as new ones are: their records in admission order, and the pages whose data has arrived (R448
step 1). -/
def mirrorWrites (s : State) : State :=
  s.each (s.hqe.cmds.filter (fun c => c.sqe.op == oWRITE && !pastEffect c && !c.dead)) (fun s c =>
    mirrorPages (mirrorAdmission s c) (c.bpns.filter (fun b => ((smGet s.buf.pages b).map (fun p => p.st == .inBuffer)).getD false)))

/-- CGL_LINK_UP (R435, R439, R448): the partners exchange identity. With the higher epoch, or an equal one, this FY8C is the survivor. After a
mismatch the link can come up again. (log entry 61) -/
def cglLinkUp (p : PeerId) (lanes : Nat) (s : State) : State :=
  let s := s.us [(R.CGL_STATUS_WIDTH, widest lanes), (R.CGL_STATUS_LANES_OK, lanes % 256)]
  if mirroring s || frozenPartner s || widest lanes == 0 then s
  else
    let m := mismatch s p
    let s := s.cglU (fun c => { c with
      up := true, retraining := false, peer := some p, txSeq := 0, rxSeq := 0, replay := [], sendQ := [], sync := [], due := [],
      lastFlit := s.now, left := false, applied := [], grpDone := [], flushDone := [], remote := [], asked := [], serve := [], admits := [], oneWay := none,
      shadow := if p.epoch < s.g R.CGL_EPOCH_EPOCH then c.shadow else [] })
    if m ≠ 0 then s.us [(R.CGL_STATUS_STATE, pMISMATCH), (R.CGL_STATUS_MISMATCH_CAUSE, m)]
    else
      let s := s.us [(R.CGL_STATUS_STATE, pSYNCING), (R.CGL_STATUS_MISMATCH_CAUSE, 0), (R.CGL_STATUS_LOSS_CAUSE, 0)]
      let s := if p.state = pTAKEN_OVER then s.cglU (fun c => { c with lent := BitVec.ofNat 64 (s.g64 R.CGL_HOME_LO), taken := 0#64 }) else s
      let s := if p.epoch ≤ s.g R.CGL_EPOCH_EPOCH then startCatchUp s p else s
      pumpCgl (mirrorWrites (tellState s))

def execCglLinkUp (p : PeerId) (lanes : Nat) (s : State) : Host.Outcome State Fault Refusal := answer s (cglLinkUp p lanes)

/-- Key of a block in the table of applied versions (R444). -/
def blockKey (vol lba : Nat) : Nat := 2 ^ 48 * vol + lba

/-- The page of a version is here already: in the buffer or mapped (R448). -/
def haveVersion (s : State) (vol lba ver : Nat) : Bool :=
  s.buf.pages.any (fun p => p.2.vol == vol && p.2.lba == lba && p.2.ver == ver) ||
    (logicals s).any (fun q => covers q.2 vol lba && q.2.version == ver)

/-- Confirm a page that is in the buffer (R441). (log entry 60) -/
def confirmPage (s : State) (vol lba ver : Nat) : State :=
  s.emit (.ctl { ctlOf s with confirm := [(vol, lba, ver)] })

/-- Note a version as applied to a block (R444). (log entry 58) -/
def noteApplied (s : State) (vol lba ver : Nat) : State :=
  s.cglU (fun c => { c with applied := smPut c.applied (blockKey vol lba) (max ver ((smGet c.applied (blockKey vol lba)).getD 0)) })

/-- A version that is here already is confirmed again. Where it has left the buffer, its page may be freed as far as this FY8C goes (R318). (log entry 60) -/
def confirmHeld (s : State) (vol lba ver : Nat) : State :=
  let t := confirmPage s vol lba ver
  if pairMode s = 2 ∨ s.buf.pages.any (fun p => p.2.vol == vol && p.2.lba == lba && p.2.ver == ver && !p.2.mapped) then t
  else sendFlits t [.release vol lba ver .mapped]

/-- A page of the partner's takes a page of this buffer (R318). -/
def takePage (s : State) (vol lba ver group reel adm : Nat) (bytes : List Byte) (st : PageSt) (foreign : Bool) : State :=
  (allocPage s ⟨vol, lba, ver, peerNum reel, peerNum group, adm, st, bytes, true, foreign, false, false, false⟩).2

/-- A page of a version that is applied as it arrives (R441, R448). (log entry 60) -/
def takeMirrored (s : State) (vol lba ver group reel adm : Nat) (bytes : List Byte) (foreign : Bool) : State :=
  confirmPage (noteApplied (takePage s vol lba ver group reel adm bytes .acked foreign) vol lba ver) vol lba ver

/-- The blocks of a write's record. -/
def recBlocks (w : WriteRec) : List Nat := (List.range w.blocks).map (fun i => w.lba + i)

/-- A page belongs to a write that has not been applied yet. -/
def recorded (s : State) (vol lba ver : Nat) : Bool :=
  s.cgl.admits.any (fun w => w.vol == vol && w.ver == ver && (recBlocks w).contains lba)

/-- A write of the partner's is applied (R441): its version is one of each of its blocks from now on, and its pages are confirmed. -/
def applyWrite (s : State) (w : WriteRec) : State :=
  let s := pagesU s (fun _ p => p.foreign && p.vol == w.vol && p.ver == w.ver && (recBlocks w).contains p.lba) (fun p =>
    { p with st := if p.st = .inBuffer then .acked else p.st })
  s.each (recBlocks w) (fun s b => confirmHeld (noteApplied s w.vol b w.ver) w.vol b w.ver)

/-- The partner's writes are applied in the home's admission order, each once every page of it is here (R441). (log entry 60) -/
def applyWrites : List WriteRec → State → State
  | [], s => s
  | w :: t, s =>
    if (recBlocks w).all (fun b => haveVersion s w.vol b w.ver) then
      applyWrites t (applyWrite (s.cglU (fun c => { c with admits := t })) w)
    else s

/-- The records go on where they can. -/
def settleWrites (s : State) : State := applyWrites s.cgl.admits s

/-- A mirrored page (R441, R460): it waits for the other pages of its write; one that is here already is taken again, and confirmed again where it has
been applied. A page of no record is a write of its own. (log entry 60) -/
def mirroredPage (s : State) (vol lba ver group reel adm : Nat) (bytes : List Byte) : State :=
  if haveVersion s vol lba ver then
    let s := pagesU s (fun _ p => p.foreign && p.vol == vol && p.lba == lba && p.ver == ver) (fun p => { p with bytes := bytes })
    if recorded s vol lba ver then s else confirmHeld s vol lba ver
  else if recorded s vol lba ver then settleWrites (takePage s vol lba ver group reel adm bytes .inBuffer true)
  else takeMirrored s vol lba ver group reel adm bytes true

/-- A write of the partner's ended without acknowledgement (R441): what is here of it goes, and its version is one no more. -/
def writeEnded (s : State) (w : WriteRec) : State :=
  let mine := fun (p : Page) => p.foreign && p.vol == w.vol && p.ver == w.ver && (recBlocks w).contains p.lba
  let s := freePages s (pagesWhere s mine)
  let undo := fun (a : SMap Nat) (b : Nat) =>
    if smGet a (blockKey w.vol b) = some w.ver then smPut a (blockKey w.vol b) (w.ver - 1) else a
  settleWrites (s.cglU (fun c => { c with admits := c.admits.filter (fun x => x != w), applied := (recBlocks w).foldl undo c.applied }))

/-- A data flit cannot be taken for want of a page (R318): the partner sends it again. (log entry 59) -/
def lacksPage (s : State) : FlitBody → Bool
  | .page vol lba ver .. => poolFree s == 0 && !haveVersion s vol lba ver
  | .catchUp vol lba ver .. => poolFree s == 0 && !haveVersion s vol lba ver
  | _ => false

/-- A version is not above the last one applied to a block, or to be applied to it before (R444). -/
def notAbove (s : State) (vol lba ver : Nat) : Bool :=
  decide (ver ≤ (smGet s.cgl.applied (blockKey vol lba)).getD 0) ||
    s.cgl.admits.any (fun w => w.vol == vol && decide (ver ≤ w.ver) && (recBlocks w).contains lba)

/-- A data flit freezes the partner (R444). While SYNCING versions may be sent that are here already (R448). (log entry 58) -/
def offends (s : State) : FlitBody → Bool
  | .unknown => true
  | .record w => !mirroring s || homeVol s w.vol || (pairSt s != pSYNCING && (recBlocks w).any (fun b => notAbove s w.vol b w.ver))
  | .page vol lba ver .. => !mirroring s || homeVol s vol ||
      (pairSt s != pSYNCING && !recorded s vol lba ver && !haveVersion s vol lba ver && notAbove s vol lba ver)
  | .catchUp vol .. => !mirroring s || homeVol s vol
  | _ => !mirroring s

/-- A step of one of the partner's groups (R440, R442). -/
def peerGroup (s : State) (id step : Nat) : State :=
  let n := peerNum id
  if step = 0 then s.grnU (fun g => { g with groups := g.groups ++ [⟨n, 0, .opened, 0, 0, none⟩] })
  else if step = 1 then grpU s n (fun g => { g with st := .closing })
  else if step = 2 then
    let s := grpU s n (fun g => { g with st := .visible })
    (letGo s (mappedPages s (fun p => p.group == n))).emit (.ctl { ctlOf s with groups := [id] })
  else settleWrites ((grpDrop (rollback s n) n).cglU (fun c => { c with admits := c.admits.filter (fun w => w.group != id) }))

/-- A step of one of the partner's reels (R440, R476). In twin mode this FY8C seals its own copy. -/
def peerReel (s : State) (serial vol : Nat) : ReelStep → State
  | .opened lba time tc => s.grnU (fun g => { g with
      reels := g.reels ++ [⟨peerNum serial, vol, 0, none, lba, .opened, 0, 0, time, tc, 0, 0, [], 0, chainStart serial vol lba, none, true⟩] })
  | .mark time tc offset => reelU s (peerNum serial) (fun r => addMark r ⟨time, tc, offset⟩)
  | .markDropped => reelU s (peerNum serial) (fun r => { r with dropped := r.dropped + 1 })
  | .closed blocks time tc =>
    if pairMode s = 1 then
      closeReel (reelU s (peerNum serial) (fun r => { r with st := .closing, blocks := blocks, closeTime := time, closeTc := tc }))
        (peerNum serial)
    else s.grnU (fun g => { g with reels := g.reels.filter (fun r => !(r.copy && r.serial == peerNum serial)) })

/-- A close point of the home's arrives (R132, R440): behind those of its stream that still wait for a stripe. -/
def closePoint (s : State) (vol reel : Nat) (blocks : List (Nat × Nat)) : State :=
  closeWaits (s.cglU (fun c => { c with closes := c.closes ++ [(vol, peerNum reel, blocks)] })) vol (peerNum reel)

/-- A change of the partner's map (R440). -/
def shadowPut (s : State) (index : Nat) (bytes : List Byte) : State :=
  s.cglU (fun c => { c with shadow := match parseEntry bytes with
    | some e => smPut c.shadow index e
    | none => smErase c.shadow index })

/-- The partner lets a page go (R318). In twin mode one that it has mapped is freed here once it is mapped here as well; else a page held for
it is freed. -/
def peerRelease (s : State) (vol lba ver : Nat) (how : Freed) : State :=
  let this := fun (p : Page) => p.vol == vol && p.lba == lba && p.ver == ver
  if how = .mapped ∧ pairMode s = 1 then
    let s := pagesU s (fun _ p => this p) (fun p => { p with peerFree := true })
    freePages s (mappedPages s this)
  else freePages s (pagesWhere s (fun p => p.foreign && this p))

/-- A FLUSH is complete at the partner (R442). -/
def peerFlushed (s : State) (tag seq : Nat) : State :=
  match cmdOf s tag with
  | some c =>
    if c.sqe.op = oFLUSH ∧ 2 ≤ c.note then
      complete s tag cSUCCESS ((if homeVol s c.sqe.vol then c.note - 2 else seq) % 2 ^ 32) (flushDegraded s c)
    else s.cglU (fun g => { g with flushDone := g.flushDone ++ [(tag, seq)] })
  | none => s

/-- What a data flit brings (R440, R443, R448, R450). (log entry 59) -/
def takeFlit (s : State) : FlitBody → State
  | .record w => settleWrites (s.cglU (fun c => { c with admits := c.admits ++ [w] }))
  | .ended w => writeEnded s w
  | .page vol lba ver group reel adm _ bytes => mirroredPage s vol lba ver group reel adm bytes
  | .catchUp vol lba ver group reel bytes =>
    if haveVersion s vol lba ver then confirmHeld s vol lba ver
    else takeMirrored s vol lba ver group reel s.hqe.nextAdm bytes (pairMode s == 2)
  | .group id step => peerGroup s id step
  | .reel serial vol step => peerReel s serial vol step
  | .ack w a => s.cglU (fun c => { c with acks := smPut c.acks w a })
  | .close vol reel blocks => closePoint s vol reel blocks
  | .map index bytes => shadowPut s index bytes
  | .release vol lba ver how => peerRelease s vol lba ver how
  | .readReq disc pca => s.cglU (fun c => { c with serve := c.serve ++ [(disc, pca)] })
  | .readData disc pca bytes rebuilt => s.cglU (fun c => { c with
      asked := c.asked.filter (fun a => a != (disc, pca)), remote := c.remote ++ [(disc, pca, bytes, rebuilt)] })
  | .flush tag vol => s.cglU (fun c => { c with flushes := c.flushes ++ [(tag, vol, coverOf s vol)] })
  | .flushDone tag seq => peerFlushed s tag seq
  | .order n cmd retire rivals img => (stationOrder s (stnOf n) .partner cmd retire img rivals).2
  | .unknown => s

/-- DATA_FLIT (R436, R437, R444): `ok` says that its CRC passes. Flits are taken only in sequence. -/
def dataFlit (seq : Nat) (ok : Bool) (body : FlitBody) (s : State) : State :=
  if !s.cgl.up || s.cgl.retraining || frozenPartner s then s
  else if !ok then s.emit (.ctl { ctlOf s with nak := some s.cgl.rxSeq })
  else
    let s := poolWritten (s.cglU (fun c => { c with lastFlit := s.now }))
    if seq ≠ s.cgl.rxSeq then s
    else if offends s body then freezePartner s
    else if lacksPage s body then s.emit (.ctl { ctlOf s with nak := some seq })
    else
      let s := s.cglU (fun c => { c with rxSeq := (seq + 1) % 4096 })
      takeFlit (s.emit (.ctl { ctlOf s with ack := some seq })) body

def execDataFlit (seq : Nat) (ok : Bool) (body : FlitBody) (s : State) : Host.Outcome State Fault Refusal := answer s (dataFlit seq ok body)

/-- Data flits up to an acknowledged one leave the replay buffer (R437). -/
def dropAcked (l : List Replay) (a : Nat) : List Replay :=
  if l.any (fun r => r.seq == a) then (l.dropWhile (fun r => r.seq != a)).drop 1 else l

/-- A retraining begins (R437). -/
def startRetrain (s : State) : State := (s.cglU (fun c => { c with retraining := true })).bump R.CGL_CNT_RETRAINS

/-- Replay from a flit on (R437); one that has been replayed 8 times without success causes a retraining. (log entry 58) -/
def replayFrom (s : State) (q : Nat) : State :=
  match s.cgl.replay.find? (fun r => r.seq == q) with
  | none => s
  | some f =>
    if 8 ≤ f.tries then startRetrain s
    else
      let again := s.cgl.replay.dropWhile (fun r => r.seq != q)
      let s := s.each again (fun s r => s.emit (.flit r.seq r.body))
      (s.cglU (fun c => { c with replay := (c.replay.takeWhile (fun r => r.seq != q)) ++ again.map (fun r => { r with tries := r.tries + 1 }) })).bump
        R.CGL_CNT_REPLAYS

/-- A cluster the partner asked for (R443): read here, or rebuilt from its stripe. -/
def serveRead (s : State) (disc pca : Nat) : State :=
  let answered := fun (s : State) (bs : Option (List Byte)) (rebuilt : Bool) =>
    sendFlits (s.cglU (fun c => { c with serve := c.serve.filter (fun a => a != (disc, pca)) })) [.readData disc pca bs rebuilt]
  match stationOfDisc s disc, resultOf s disc pca with
  | none, _ => answered s none false
  | some _, some ⟨_, _, _, some (_, bs), _⟩ => answered s (some bs) false
  | some n, none => if readable s n then askReads s [(n, pca)] else answered s none false
  | some _, some _ =>
    match (discIndex s disc).bind (fun d => placedAt s d pca) with
    | none => answered s none false
    | some (S, r, _) =>
      match stripeGeom s S with
      | none => answered s none false
      | some (k, p, narrow, setA) =>
        match rebuildMember s S k p narrow setA r with
        | .ok bs => answered (s.bump R.TPZ_CNT_RECONSTRUCTED) (some bs) true
        | .wait l => askReads s l
        | _ => answered s none false

/-- The next version of the catch-up that must be read from disc (R448). -/
def serveDue (s : State) : State :=
  match s.cgl.due with
  | [] => s
  | (v, b, ver) :: t =>
    let next := fun (s : State) => refreshSync (s.cglU (fun c => { c with due := t }))
    match (logicals s).find? (fun q => covers q.2 v b && q.2.version == ver && !q.2.lost) with
    | none => next s
    | some (i, e) =>
      let (src, s) := mapBlock s s true i e b
      match src with
      | .data bs _ _ _ => refreshSync ((next s).cglU (fun c => { c with sync := c.sync ++ [.catchUp v b ver e.group e.reel bs] }))
      | .wait => s
      | .bad => next s

/-- A FLUSH that the partner mirrors gets its checkpoint here once its data is mapped (R442). -/
def serveFlush (s : State) (f : Nat × Nat × List (Nat × Nat × Nat)) : State :=
  let s := closeCovered s f.2.2
  if !coverMapped s f.2.2 then s
  else
    let s := takeCkpt s (availSet s) false [2 ^ 15 + f.1]
    if s.grn.ckpts.any (fun k => k.tags.contains (2 ^ 15 + f.1)) then s.cglU (fun c => { c with flushes := c.flushes.filter (· != f) }) else s

/-- What the partner waits for goes on, and what waits for the link is sent. (log entry 61) -/
def servePartner (s : State) : State :=
  let s := s.each s.cgl.serve (fun s q => serveRead s q.1 q.2)
  let s := s.each s.cgl.flushes serveFlush
  pumpCgl (serveDue s)

/-- The partner does not pair with this FY8C: of the checks of R439 it makes one alone, that of this one's UID. (log entry 61) -/
def peerRefuses (s : State) : State :=
  let s := (dropUnapplied s).cglU (fun c => { c with
    sendQ := [], sync := [], due := [], serve := [], asked := [], remote := [], flushes := [], handing := 0 })
  goAlone ((refreshSync s).us [(R.CGL_STATUS_STATE, pMISMATCH), (R.CGL_STATUS_MISMATCH_CAUSE, 1)])

/-- The partner's pair state (R436, R439): once its handback is over, the volumes it gave back are homed here (R449). -/
def peerState (s : State) (st : Nat) : State :=
  let back := s.cgl.peer.any (fun p => p.state == pHANDING_BACK) && st == pPAIRED
  let s := s.cglU (fun c => { c with lent := if back then 0#64 else c.lent, peer := c.peer.map (fun p => { p with state := st }) })
  if st = pMISMATCH ∧ mirroring s = true then peerRefuses s else s

/-- A time stamp arrives (R458): half the difference of the two one-way measurements is the offset of the ROLE 0 partner's time. (log entries 13, 61) -/
def takeStamp (s : State) (x : Stamp) : State :=
  let mine : Int := (s.now : Int) - (x.time : Int)
  let s := s.cglU (fun c => { c with oneWay := some mine })
  match x.oneWay with
  | some theirs =>
    if s.g R.QTZ_CTRL_SOURCE = 2 ∧ s.on R.CGL_CTRL_ROLE = true then
      let (o, s) := s.quant (theirs - mine) 2
      quartzRef s o
    else s
  | none => s

/-- CONTROL_FLIT (R436, R437, R441, R442, R445, R458). -/
def controlFlit (c : Ctl) (s : State) : State :=
  if !s.cgl.up || frozenPartner s then s
  else
    let s := s.cglU (fun g => { g with
      lastFlit := s.now, replay := (c.ack.map (dropAcked g.replay)).getD g.replay
      grpDone := g.grpDone ++ c.groups.filter (fun i => !g.grpDone.contains i) })
    let s := match c.nak with
      | some q => if s.cgl.retraining then s else replayFrom s q
      | none => s
    let s := pagesU s (fun _ p => c.confirm.contains (p.vol, p.lba, p.ver)) (fun p => { p with mirrored := true })
    let s := peerState s c.state
    let s := (c.stamp.map (takeStamp s)).getD s
    if c.leave then losePartner (s.cglU (fun g => { g with left := true })) 2
    else servePartner s

def execControlFlit (c : Ctl) (s : State) : Host.Outcome State Fault Refusal := answer s (controlFlit c)

/-- CGL_LANE_LOSS (R437): a retraining begins. -/
def cglLaneLoss (lane : Fin 8) (s : State) : State :=
  let ok := s.g R.CGL_STATUS_LANES_OK
  if bitOf ok lane = 0 then s
  else
    let s := s.u R.CGL_STATUS_LANES_OK (ok - 2 ^ lane.val)
    if s.cgl.up && !s.cgl.retraining then startRetrain s else s

def execCglLaneLoss (lane : Fin 8) (s : State) : Host.Outcome State Fault Refusal := answer s (cglLaneLoss lane)

/-- CGL_RETRAIN_COMPLETE (R435, R437): the link runs at the widest working width, and sends again what was not acknowledged. With no width
that works the retraining goes on. (log entry 58) -/
def cglRetrainComplete (lanes : Nat) (s : State) : State :=
  if !s.cgl.up || !s.cgl.retraining || widest lanes == 0 then s
  else
    let old := s.g R.CGL_STATUS_WIDTH
    let s := s.us [(R.CGL_STATUS_WIDTH, widest lanes), (R.CGL_STATUS_LANES_OK, lanes % 256)]
    let s := if widest lanes < old then s.log 0x503 noStation [widest lanes, lanes % 256] else s
    let s := s.cglU (fun c => { c with retraining := false, replay := c.replay.map (fun (r : Replay) => { r with tries := 0 }) })
    pumpCgl (s.each s.cgl.replay (fun s r => s.emit (.flit r.seq r.body)))

def execCglRetrainComplete (lanes : Nat) (s : State) : Host.Outcome State Fault Refusal := answer s (cglRetrainComplete lanes)

/-- DEAD_TIME_EXPIRY (R445): the later of DEAD_TIME and 1 ms after the partner's last valid flit. -/
def deadTimeExpiry (s : State) : State :=
  if s.now < s.cgl.lastFlit + max 1000000 (100000 * s.g R.CGL_CTRL_DEAD_TIME) then s else losePartner s 1

def execDeadTimeExpiry (s : State) : Host.Outcome State Fault Refusal := answer s deadTimeExpiry

/-- TAKEOVER (R445, R461): accepted only in ISOLATED. -/
def takeover (s : State) : State := if pairSt s = pISOLATED then standAlone s true else s

def execTakeover (s : State) : Host.Outcome State Fault Refusal := answer s takeover

/-- HANDBACK (R449, R461): accepted only in PAIRED. -/
def handback (s : State) : State := if pairSt s = pPAIRED then startHandback s else s

def execHandback (s : State) : Host.Outcome State Fault Refusal := answer s handback

/-- LEAVE (R445, R461): announced to the partner, for which this FY8C is lost. What it does to the FY8C that leaves the spec does not say:
its own pair state stays, until R445 decides. (log entry 61) -/
def leave (s : State) : State := if s.cgl.up then s.emit (.ctl { ctlOf s with leave := true }) else s

def execLeave (s : State) : Host.Outcome State Fault Refusal := answer s leave

/-- An admitted command on a volume being handed back has not been acknowledged (R449). -/
def handbackBusy (s : State) : Bool :=
  s.hqe.cmds.any (fun c => !pastEffect c && (volOf s c.sqe).any (handingVol s)) || !s.cgl.sendQ.isEmpty

/-- HANDBACK_DRAIN_COMPLETE (R449): home moves back in one step; the commands that waited then find another home. -/
def handbackDrainComplete (s : State) : State :=
  if pairSt s ≠ pHANDING_BACK ∨ handbackBusy s = true then s
  else
    let s := s.cglU (fun c => { c with taken := c.taken &&& ~~~ c.handing, handing := 0#64 })
    tellState (s.u R.CGL_STATUS_STATE pPAIRED)

def execHandbackDrainComplete (s : State) : Host.Outcome State Fault Refusal := answer s handbackDrainComplete

/-- The partner is the survivor, and has not told that its catch-up is complete (R448). (log entry 61) -/
def awaitsSurvivor (s : State) : Bool :=
  s.cgl.peer.any (fun p => decide (s.g R.CGL_EPOCH_EPOCH < p.epoch) && p.state != pPAIRED && p.state != pHANDING_BACK)

/-- SYNC_COMPLETE (R448, R449): nothing of the catch-up is left to send, and a rejoiner has been told so. -/
def syncComplete (s : State) : State :=
  if pairSt s ≠ pSYNCING ∨ !s.cgl.sync.isEmpty ∨ !s.cgl.due.isEmpty ∨ !s.cgl.sendQ.isEmpty ∨ awaitsSurvivor s then s
  else
    let s := (s.u R.CGL_STATUS_STATE pPAIRED).log 0x502 noStation [s.g R.CGL_EPOCH_EPOCH]
    if s.on R.CGL_CTRL_AUTO_HANDBACK && s.cgl.taken != 0#64 then startHandback s else tellState s

def execSyncComplete (s : State) : Host.Outcome State Fault Refusal := answer s syncComplete

end Sys2Proof.Machine
end

