-- ==== Sys2Proof/Machine/Evl.lean ====
section
/-!
DEFINITION. The meanings of the event log's commands (R486 to R494).
-/

namespace Sys2Proof.Machine

/-- Change the event log. -/
def State.evlU (s : State) (f : Evl → Evl) : State := { s with evl := f s.evl }

/-- Of two events in the same core cycle this one is entered first (R488). -/
def entersBefore (a b : Event) : Bool := decide (a.code < b.code) || (a.code == b.code && decide (a.src < b.src))

/-- The event that reaches the serial point next, and those that come after it (R488): the oldest, and among those detected with it the
one of the lowest code and source. (log entry 57) -/
def nextEvent : List Event → Option (Event × List Event)
  | [] => none
  | e :: t =>
    let best := t.foldl (fun b x => if x.time = e.time ∧ entersBefore x b = true then x else b) e
    some (best, (e :: t).erase best)

/-- An event merges into a record (R489). -/
def merges (s : State) (r : Rec) (e : Event) : Bool :=
  let e' := r.ev
  decide (severity e.code e.cause ≠ 3) && e.code != 0x506 && e'.code == e.code && e'.src == e.src && e'.cause == e.cause &&
    e'.a0 == e.a0 && e'.a1 == e.a1 && e'.a2 == e.a2 && e'.a3 == e.a3 &&
    decide (s.now < r.entered + 100000 * s.g R.EVL_CFG_COALESCE)

/-- The event interrupt (R493): sent while it is enabled and armed, which it ends. -/
def eventVector (s : State) : State :=
  if s.on R.EVL_CFG_INT_EN && s.on R.EVL_STATUS_ARMED then
    (raiseMsix s 0 (s.g R.EVL_CFG_VECTOR)).u R.EVL_STATUS_ARMED 0
  else s

/-- A record is entered (R486, R490, R493); a Jasper capture that waits for its code triggers at the next sample (R214). (log entry 57) -/
def enterRecord (s : State) (e : Event) : State :=
  let s := s.evlU (fun l => { l with ring := (⟨e, 0, s.now⟩ :: l.ring).take 8192 })
  let s := (s.u R.EVL_TAIL_COUNT (s.g R.EVL_TAIL_COUNT + 1)).bump R.EVL_CNT_LOGGED
  let s :=
    if s.on R.JSP_STATUS_ARMED && !s.on R.JSP_STATUS_TRIGGERED && getF s.jsp.trig R.JSP_TRIG_MODE == 3 &&
        getF s.jsp.trig R.JSP_TRIG_EVENT == e.code then
      { s with jsp := { s.jsp with due := true } }
    else s
  let s := if s.g R.EVL_CFG_INT_LEVEL ≤ severity e.code e.cause then eventVector s else s
  refreshIntx (refreshPending s)

/-- An event that cannot be entered (R490). -/
def dropEvent (s : State) (loss : Bool) : State :=
  (s.bump R.EVL_DROPPED).u (if loss then R.EVL_STATUS_LOSS_OVERFLOW else R.EVL_STATUS_OVERFLOW) 1

/-- An event reaches the serial point (R489, R490). -/
def eventArrives (s : State) (e : Event) : State :=
  let n := unconsumed s
  let loss := severity e.code e.cause == 3
  let enter := if n < (if loss then 8192 else 7936) then enterRecord s e else dropEvent s loss
  match s.evl.ring with
  | r :: t =>
    if decide (0 < n) && merges s r e then
      (s.evlU (fun l => { l with ring := { r with rep := min 0xFFFF (r.rep + 1) } :: t })).bump R.EVL_CNT_LOGGED
    else enter
  | [] => enter

/-- EVENT_ENTRY (R488). -/
def eventEntry (s : State) : State :=
  match nextEvent s.evl.inFlight with
  | none => s
  | some (e, rest) => eventArrives (s.evlU (fun l => { l with inFlight := rest })) e

def execEventEntry (s : State) : Host.Outcome State Fault Refusal := answerUp s eventEntry

/-- EVL_HEAD_WRITE (R491, R493): records before the value are consumed and the interrupt is armed again; a value beyond the log is
ignored. -/
def evlHeadWrite (v : BitVec 32) (s : State) : State :=
  if (v - s.rd R.EVL_HEAD).toNat ≤ unconsumed s then
    let s := (s.wr R.EVL_HEAD v).u R.EVL_STATUS_ARMED 1
    let s := if qualifying s then eventVector s else s
    refreshIntx (refreshPending s)
  else s.u R.EVL_STATUS_HEAD_BAD 1

def execEvlHeadWrite (v : BitVec 32) (s : State) : Host.Outcome State Fault Refusal := answerUp s (evlHeadWrite v)

end Sys2Proof.Machine
end

