-- ==== Sys2Proof/Machine/Dsp.lean ====
section
/-!
DEFINITION. The signal path of an Opal lane (R89, R93 to R101, R107): front end and ADC, interpolated timing recovery, the adaptive
equaliser, baseline restoration, the 16-state detector with its metric margins, the envelopes, and what the framer finds in the
holding buffer. What the spec gives no arithmetic for (the anti-alias filter's response, the interpolator's coefficients, the form of the
timing error) is opaque in Config. (log entry 71)
-/

namespace Sys2Proof.Machine

/-- What a lane's registers and the station fix for its signal path while a stretch of samples passes. -/
structure LaneCfg where
  hpf : Nat
  lpf : Nat
  agc : Bool
  agcTarget : Nat
  agcBw : Nat
  gainInit : Nat
  kp : Nat
  ki : Nat
  seed : Nat
  span : Nat
  /-- The lane stays on its seed (R90). -/
  onSeed : Bool
  /-- A declared defect holds the loops (R108). -/
  hold : Bool
  mu : Nat
  adapt : Bool
  centre : Bool
  target : List Nat
  /-- Twice the delay from a channel bit's newest coefficient to the centre of the target (R98, R113). -/
  centreAt : Nat
  blr : Nat
  low : Nat
  high : Nat
  /-- The taps that a lane without frame lock takes at its next boundary (R92, R304). -/
  due : Option (List Int)
deriving DecidableEq, Repr

/-- A lane's signal path at work: its taps, its period, what it holds, the free values taken, whether the ADC clipped, and whether the taps
that were due have been taken. -/
structure Path where
  taps : List Int
  per : Int
  x : Dsp
  free : Nat
  clip : Bool
  took : Bool
deriving DecidableEq, Repr

/-- Narrow an exact quotient, with the k-th free value where it is not whole (see `State.quant`). -/
def narrow (k : Nat) (num den : Int) : Int × Nat :=
  if num % den = 0 then (num / den, k) else (num / den + (Config.freeValue k % 2 : Nat), k + 1)

/-- The target's five coefficients, UQ2.6 (R98): PR(1,2,1), PR(1,2,2,1), PR(1,2,2,2,1), or c0, c1, c2, c1, c0 of OPL_TARGET_PROG. -/
def prTargetOf (code c0 c1 c2 : Nat) : List Nat :=
  if code = 0 then [64, 128, 64, 0, 0]
  else if code = 1 then [64, 128, 128, 64, 0]
  else if code = 2 then [64, 128, 128, 128, 64]
  else [c0, c1, c2, c1, c0]

/-- The level that the target gives five written levels, newest first, in units of 2⁻²⁸ ADC codes (R98, R100). -/
def targetLevel (target : List Nat) (levels : List Bool) : Int :=
  ((target.zip levels).map (fun p => if p.2 then (p.1 : Int) else -(p.1 : Int))).sum * (Config.targetUnit : Int)

/-- The squared distance of a single-bit error event on the target (R101). -/
def targetDistance (target : List Nat) : Nat := 4 * (target.map (fun c => c * c)).sum * Config.targetUnit ^ 2

/-- The four latest levels that a state of the detector stands for, newest first (R100). -/
def stateLevels (q : Nat) : List Bool := (List.range 4).map (fun i => bitOf q i == 1)

/-- One state's step of the detector (R100, R101): of its two predecessors the one with the smaller path metric survives, and Δ is the
difference of the two; of two equal ones the spec names none, and a free value decides. (log entries 16, 71) -/
def detectState (c : LaneCfg) (y : Int) (x : Dsp) (k q : Nat) : (Nat × List (Bool × Nat)) × Nat :=
  let b := q % 2 == 1
  let cand := fun (i : Nat) =>
    let from' := q / 2 + 8 * i
    let d := y - targetLevel c.target (b :: stateLevels from')
    ((x.metrics[from']?).getD 0 + (d * d).toNat, (x.paths[from']?).getD [])
  let a := cand 0
  let o := cand 1
  let tie : Bool := a.1 == o.1
  let first := if tie then Config.freeValue k % 2 == 0 else decide (a.1 < o.1)
  let win := if first then a else o
  ((win.1, ((b, (if a.1 < o.1 then o.1 - a.1 else a.1 - o.1)) :: win.2).take 64), if tie then k + 1 else k)

/-- One step of the detector over its 16 states (R100): the metrics, less the smallest, and the surviving paths. -/
def detectStep (c : LaneCfg) (y : Int) (x : Dsp) (k : Nat) : Dsp × Nat :=
  let r := (List.range 16).foldl (fun (a : List (Nat × List (Bool × Nat)) × Nat) q =>
    let d := detectState c y x a.2 q
    (a.1 ++ [d.1], d.2)) ([], k)
  let low := r.1.foldl (fun m p => min m p.1) ((r.1.head?.map Prod.fst).getD 0)
  ({ x with metrics := r.1.map (fun p => p.1 - low), paths := r.1.map Prod.snd }, r.2)

/-- The surviving path of the smallest metric: the detector's best at this output (R96, R100). Of several states with that metric the spec
names none, and a free value picks one. (log entry 16) -/
def bestPath (x : Dsp) (k : Nat) : List (Bool × Nat) × Nat :=
  let best := (x.metrics.zip x.paths).filter (fun p => p.1 == 0)
  let i := if best.length ≤ 1 then 0 else Config.freeValue k % best.length
  (((best[i]?).map Prod.snd).getD [], if best.length ≤ 1 then k else k + 1)

/-- Twice π in units of 2⁻⁶⁰: a first-order loop of bandwidth B takes 2π × B of its error per unit of time (R93, R99). -/
def twoPiQ60 : Int := 2 * piQ60

/-- The short-term envelope (R107): peak to peak of the equaliser's input over the latest 16 channel bits. (log entry 71) -/
def shortEnv (x : Dsp) : Int :=
  let w := x.eqIn.take 16
  (w.foldl max ((w.head?).getD 0)) - (w.foldl min ((w.head?).getD 0))

/-- The envelopes and the lengths for which the short-term one has been out of bounds or back within them (R107), in channel bits; a
declared defect freezes the long-term envelope, whose time constant is 64 frames. -/
def envelopes (c : LaneCfg) (x : Dsp) (k : Nat) : Dsp × Nat :=
  let short := shortEnv x * 2 ^ 14
  let (step, k) := if c.hold || x.eqIn.length < 16 then (0, k)
    else if x.long = 0 then (short, k) else narrow k (short - x.long) (64 * 2560)
  let long := x.long + step
  let low := short * 256 < (c.low : Int) * long
  let high := (c.high : Int) * long < short * 128
  let good := (c.low : Int) * 17 * long ≤ short * 256 * 16 ∧ short * 128 * 16 ≤ (c.high : Int) * 15 * long
  ({ x with
    long := long
    low := if low then x.low + 1 else 0
    high := if high then x.high + 1 else 0
    good := if good then x.good + 1 else 0 }, k)

/-- The corner frequencies of the front end (R93): OPL_AFE.HPF in kHz and OPL_AFE.LPF in MHz. -/
def hpfKHz (code : Nat) : Nat := if code = 0 then 30 else if code = 1 then 100 else if code = 2 then 300 else 1000
def lpfMHz (code : Nat) : Nat := if code = 0 then 250 else if code = 1 then 350 else if code = 2 then 450 else 500

/-- The bandwidth of the gain loop in kHz (R93, OPL_AFE.AGC_BW). -/
def agcKHz (code : Nat) : Nat := if code = 0 then 1 else if code = 1 then 10 else if code = 2 then 30 else 100

/-- The bandwidth of the baseline loop in units of 0.01 % of the channel rate (R99, OPL_MODE.BLR_BW). -/
def blrBand (code : Nat) : Nat := if code = 0 then 0 else if code = 1 then 1 else if code = 2 then 3 else 10

/-- A step of 0.25 dB up and down as a factor, 10^(1/80), in units of 2⁻⁶⁰ (R93). -/
def dbStepQ60 : Int := 1186587420355160253
def dbDownQ60 : Int := 1120210759850345906

/-- The factor of a gain code in units of 2⁻⁶⁰ (R93): −6 dB + 0.25 dB × code, so code 24 is 0 dB. -/
def gainQ60 (code : Nat) : Int :=
  let pow := fun (f : Int) (k : Nat) => (List.range k).foldl (fun a _ => a * f / 2 ^ 60) (2 ^ 60 : Int)
  if 24 ≤ code then pow dbStepQ60 (code - 24) else pow dbDownQ60 (24 - code)

/-- The high-pass corner of the front end over a stretch (R93), of first order at 1.000 GS/s: the input less its slow part, in units of
2⁻¹⁶ µV. (log entry 71) -/
def highPass (kHz : Nat) (rf : List Int) (slow : Int) (k : Nat) : List Int × Int × Nat :=
  rf.foldl (fun (a : List Int × Int × Nat) v =>
    let d := v * 2 ^ 16 - a.2.1
    let m := narrow a.2.2 (twoPiQ60 * kHz * d) (2 ^ 60 * 1000000)
    (a.1 ++ [d], a.2.1 + m.1, m.2)) ([], slow, k)

/-- The ADC (R93, R510): 500 mV from end to end of its 256 codes at 0 dB, for an input in units of 2⁻¹⁶ µV. (log entry 71) -/
def adcCode (gain : Nat) (v : Int) (k : Nat) : Int × Nat := narrow k (v * 256 * gainQ60 gain) (500000 * 2 ^ 76)

/-- The latest peak of the equaliser's input (R93): the size of the last turning point. -/
def peakOf (x : Dsp) : Nat :=
  match x.eqIn with
  | u0 :: u1 :: u2 :: _ => if 0 < (u1 - u2) * (u1 - u0) then u1.natAbs else x.peak
  | _ => x.peak

/-- The automatic gain loop (R93), of first order in the relative error of the peaks against OPL_AFE.AGC_TARGET, with the bandwidth of
OPL_AFE.AGC_BW; 80 / ln 10 = 34.743558552 steps of 0.25 dB to a relative change of 1. Without the loop the gain stays at GAIN_INIT, and a declared
defect holds it (R108). (log entry 71) -/
def gainStep (c : LaneCfg) (per : Int) (x : Dsp) (k : Nat) : Dsp × Nat :=
  let x := { x with peak := peakOf x }
  if !c.agc then ({ x with gain := min 144 c.gainInit * 2 ^ 16 }, k)
  else if c.hold ∨ x.peak = 0 then (x, k)
  else
    let goal : Int := (max 1 c.agcTarget : Nat) * 2 ^ 14
    let d := narrow k (twoPiQ60 * agcKHz c.agcBw * per * 34743558552 * 2 ^ 16 * (goal - x.peak)) (2 ^ 81 * 1000000 * 1000000000 * goal)
    ({ x with gain := (clampI 0 (144 * 2 ^ 16) (x.gain + d.1)).toNat }, d.2)

/-- The taps adapt by least mean squares toward the target, with a step of 2^−(MU_EXP + 8) on signals in units of the ADC's full scale of 128
codes (R97); the centre tap only with CTR_ADAPT; a tap saturates at the limits of Q2.14. (log entry 71) -/
def adaptTaps (c : LaneCfg) (taps : List Int) (us : List Int) (err : Int) (k : Nat) : List Int × Nat :=
  if !c.adapt || c.hold then (taps, k)
  else
    taps.zipIdx.foldl (fun (a : List Int × Nat) p =>
      if p.2 = 7 ∧ c.centre = false then (a.1 ++ [p.1], a.2)
      else
        let d := narrow a.2 (-(err * (us[p.2]?).getD 0)) (2 ^ (50 + c.mu))
        (a.1 ++ [clampI (-32768) 32767 (p.1 + d.1)], d.2)) ([], k)

/-- The run that ends when the level toggles (R113): the level at its centre joins the sums, for marks and spaces of 5T or longer and of 1T
and 2T. Of a run of even length it is the mean of the two middle bits. Which level is the mark the spec does not say: `Config.markLevel`. (log entry 71) -/
def closeRun (mark : Bool) (run : List Int) (sums : List (Int × Nat)) : List (Int × Nat) :=
  let t := run.length
  let mid := (run[t / 2]?).getD 0 + (run[(t - 1) / 2]?).getD 0
  let which := if 5 ≤ t then some (if mark then 0 else 1) else if 1 ≤ t ∧ t ≤ 2 then some (if mark then 2 else 3) else none
  match which with
  | some i => sums.modify i (fun p => (p.1 + mid, p.2 + 1))
  | none => sums

/-- The channel bit i belongs to the cluster whose figures are taken (R113). -/
def inFigures (x : Dsp) (i : Nat) : Bool :=
  match x.figFrom with
  | some a => decide (a ≤ i) && decide (i < a + 320 * 2560)
  | none => false

/-- The detector decides a channel bit, 64 channel bits back (R100): a toggle of the written level is a channel bit 1 (R75). It enters the
holding buffer of 2,560 channel bits with its Δ (R89); the level at its centre is the output at the centre of its target (R113). -/
def decide64 (c : LaneCfg) (best : List (Bool × Nat)) (x : Dsp) : Dsp :=
  match best[63]? with
  | none => x
  | some (lv, delta) =>
    let y := (x.ys[63 - c.centreAt / 2]?).getD 0 + (x.ys[63 - (c.centreAt + 1) / 2]?).getD 0
    let toggles := lv != x.level
    { x with
      level := lv
      n := x.n + 1
      bits := ((toggles, delta) :: x.bits).take 2560
      run := if toggles then [y] else (y :: x.run).take 64
      sums := if toggles ∧ inFigures x x.n then closeRun (x.level == Config.markLevel) x.run x.sums else x.sums }

/-- One output of timing recovery at phase `ph` from the eight samples `w` (R94), on through equaliser, baseline, detector and loops
(R96 to R101). Answers the path and the correction of the phase. (log entry 71) -/
def laneOutput (c : LaneCfg) (p : Path) (ph : Nat) (w : List Int) : Path × Int :=
  let u := (w.zipIdx.map (fun q => Config.interp ph q.2 * q.1)).sum
  let edge := c.due.isSome && !p.took && outputsOf p.x % 2560 == 0
  let old := if edge then c.due.getD p.taps else p.taps
  let x := { p.x with eqIn := (u :: p.x.eqIn).take 16 }
  let v := ((old.zip x.eqIn).map (fun q => q.1 * q.2)).sum
  let y := v - (if c.blr = 0 then 0 else x.base)
  let (x, k) := detectStep c y { x with ys := (y :: x.ys).take 64 } p.free
  let (best, k) := bestPath x k
  let x0 := targetLevel c.target (best.map Prod.fst)
  let x1 := targetLevel c.target ((best.map Prod.fst).drop 1)
  let err := y - x0
  let e := Config.phaseError y ((x.ys[1]?).getD 0) x0 x1
  let (dp, k) := if c.onSeed || c.hold then (0, k) else narrow k e (2 ^ c.kp)
  let (di, k) := if c.onSeed || c.hold then (0, k) else narrow k e (2 ^ c.ki)
  let per := if c.onSeed then (c.seed : Int) else clampI (c.seed - c.span) (c.seed + c.span) (p.per + di)
  let (db, k) := if c.hold || c.blr == 0 then (0, k) else narrow k (twoPiQ60 * blrBand c.blr * err) (2 ^ 60 * 10000)
  let (taps, k) := adaptTaps c old x.eqIn err k
  let (x, k) := gainStep c per x k
  let (x, k) := envelopes c x k
  let fig := inFigures x (outputsOf p.x)
  let x := decide64 c best { x with
    base := x.base + db
    errs := (e.natAbs :: x.errs).take 256
    tapSum := if fig then (x.tapSum.zip taps).map (fun q => q.1 + q.2) else x.tapSum
    tapN := x.tapN + b2n fig }
  ({ p with taps := taps, per := per, x := x, free := k, took := p.took || edge }, dp)

/-- One sample (R94): the accumulator's integer part selects the window of eight samples, its top six fraction bits the phase; it advances by
the period for each output. `v` is the front end's output, in units of 2⁻¹⁶ µV. (log entry 71) -/
def laneSample (c : LaneCfg) (gain : Nat) (p : Path) (v : Int) : Path :=
  let q := adcCode gain v p.free
  let code := clampI (-128) 127 q.1
  let same := if p.x.past.head? = some code then p.x.same + 1 else 1
  let p := { p with
    x := { p.x with past := (code :: p.x.past).take 16, same := same }
    free := q.2
    clip := p.clip || code == -128 || code == 127 }
  if p.x.acc < 2 ^ 21 then
    let back := (-(p.x.acc / 2 ^ 21)).toNat
    let ph := (p.x.acc % 2 ^ 21 / 2 ^ 15).toNat
    let (p, dp) := laneOutput c p ph ((p.x.past.drop back).take 8)
    { p with x := { p.x with acc := p.x.acc + p.per + dp - 2 ^ 21 } }
  else { p with x := { p.x with acc := p.x.acc - 2 ^ 21 } }

/-- The beam whose signal a lane gets, and whether it is the verify spot's: its own, unless the work has moved to a spare; for a spare that of
the lane it serves (R115, R116). -/
def laneBeam (s : State) (l : Fin 68) : Option (Fin 8 × Fin 4 × Bool) :=
  stations.findSome? (fun n => beams.findSome? (fun m => [false, true].findSome? (fun v =>
    if workLane s n m v = l then some (n, m, v) else none)))

/-- A beam writes a cluster. -/
def beamBusy (s : State) (n : Fin 8) (m : Fin 4) : Bool := ((s.wrs[n]).beams[m]).cur.isSome

/-- The lane stays on its seed and delivers nothing (R90): a data lane while its beam writes, a verify lane while it does not write and no
frame is still to be read back. -/
def keepsSeed (s : State) (l : Fin 68) : Bool :=
  match laneBeam s l with
  | some (n, m, v) =>
    let b := (s.wrs[n]).beams[m]
    if v then !b.cur.isSome && !b.judged.any takesResults else b.cur.isSome
  | none => false

/-- The seed's excursion that OPL_TR.CLAMP allows (R96): 1/400, 1/200, 1/100 or 1/50 of the seed, as far as a whole unit of UQ3.21 goes. (log entry 72) -/
def clampSpan (code seed : Nat) : Nat := seed / (400 / 2 ^ code)

/-- Twice the place of a target's centre among its coefficients (R98): PR(1,2,1) has it at its second, PR(1,2,2,1) between its second and
third, the others at their third. -/
def centreOf (code : Nat) : Nat := if code = 0 then 2 else if code = 1 then 3 else 4

/-- What the registers fix for a lane's signal path. -/
def laneCfg (s : State) (l : Fin 68) : LaneCfg where
  hpf := s.g (R.OPL_AFE_HPF l.val)
  lpf := s.g (R.OPL_AFE_LPF l.val)
  agc := s.on (R.OPL_AFE_AGC_EN l.val)
  agcTarget := s.g (R.OPL_AFE_AGC_TARGET l.val)
  agcBw := s.g (R.OPL_AFE_AGC_BW l.val)
  gainInit := s.g (R.OPL_AFE_GAIN_INIT l.val)
  kp := s.g (R.OPL_TR_KP_EXP l.val)
  ki := s.g (R.OPL_TR_KI_EXP l.val)
  seed := (s.lanes[l]).seed
  span := clampSpan (s.g (R.OPL_TR_CLAMP l.val)) (s.lanes[l]).seed
  onSeed := keepsSeed s l
  hold := s.on (R.OPL_STATUS_DEFECT l.val)
  mu := s.g (R.OPL_EQ_CTRL_MU_EXP l.val)
  adapt := s.on (R.OPL_EQ_CTRL_ADAPT_EN l.val)
  centre := s.on (R.OPL_EQ_CTRL_CTR_ADAPT l.val)
  target := prTargetOf (s.g (R.OPL_MODE_TARGET l.val)) (s.g (R.OPL_TARGET_PROG_C0 l.val)) (s.g (R.OPL_TARGET_PROG_C1 l.val))
    (s.g (R.OPL_TARGET_PROG_C2 l.val))
  centreAt := centreOf (s.g (R.OPL_MODE_TARGET l.val))
  blr := s.g (R.OPL_MODE_BLR_BW l.val)
  low := s.g (R.OPL_DEFECT_LOW l.val)
  high := s.g (R.OPL_DEFECT_HIGH l.val)
  due := if (s.lanes[l]).tapsDue && !locked s l then some ((initTaps s l).map BitVec.toInt) else none

/-- The lane works: it has a role, its seed lies in the range (R90, R91), its DSP section and its ADC have not failed (R114), and it has a
beam (R116). -/
def laneWorks (s : State) (l : Fin 68) : Bool :=
  s.g (R.OPL_MODE_MODE l.val) != 0 && !s.on (R.OPL_STATUS_RATE_ERR l.val) && !s.on (R.OPL_STATUS_FAILED l.val) &&
    match laneBeam s l with
    | some (n, m, v) => !s.on (R.OPL_STATUS_ADC_FAILED (laneOf n m v).val) && !(s.lanes[laneOf n m v]).stopped
    | none => false

/-- TIMING_LOCK (R96): the mean of |e| over the last 256 outputs is below 0.1 channel bit. -/
def timingLocked (x : Dsp) : Bool := x.errs.length == 256 && x.errs.sum * 10 < 256 * 2 ^ 21

/-- A frame that the lane takes next is the first of a cluster: of a lane that reads, at the start of a read or after a resynchronisation
(R105, R106); of a verify lane, while the figures of no cluster are under way. -/
def beginsCluster (s : State) (l : Fin 68) : Bool :=
  let x := s.lanes[l]
  if s.g (R.OPL_MODE_MODE l.val) = 2 then x.dsp.figFrom.isNone else x.rows.isEmpty && (x.starting || x.awaitSlot)

/-- A lane processes the stretch of samples that has reached it (R89): front end, ADC codes, timing recovery, equaliser, detector and envelopes.
A mark of the station's timing gives the place of a frame's start (R105, R106): OPL_RATE,
OPL_GAIN, TIMING_LOCK and CLIP_SEEN follow. (log entry 71) -/
def laneRun (s : State) (l : Fin 68) (f : LaneIn) : State :=
  if f.rf.isEmpty || !laneWorks s l then s
  else
    let c := laneCfg s l
    let x := s.lanes[l]
    let gain := x.dsp.gain / 2 ^ 16
    let h := highPass (hpfKHz c.hpf) f.rf x.dsp.slow s.free
    let vs := (List.range f.rf.length).map (Config.antiAlias (lpfMHz c.lpf) h.1)
    let feed := fun (p : Path) (vs : List Int) => vs.foldl (laneSample c gain) p
    let p0 : Path := ⟨x.taps.toList.map BitVec.toInt, s.g (R.OPL_RATE_PERIOD l.val), { x.dsp with slow := h.2.1 }, h.2.2, false, false⟩
    let p1 := feed p0 (vs.take (f.mark.getD f.rf.length))
    let place := outputsOf p1.x
    let p1 := if f.mark.isSome && beginsCluster s l then { p1 with x := figuresFrom (some place) p1.x } else p1
    let p := feed p1 (vs.drop (f.mark.getD f.rf.length))
    let t := { s with free := p.free }.laneU l (fun x => { x with
      dsp := p.x
      taps := Vector.ofFn (fun i => BitVec.ofInt 16 ((p.taps[i.val]?).getD 0))
      tapsDue := x.tapsDue && !p.took
      slotAt := if f.mark.isSome then some place else x.slotAt
      pred := if f.mark.isSome && s.g (R.OPL_MODE_MODE l.val) == 2 then place else x.pred })
    let t := t.us [(R.OPL_RATE_PERIOD l.val, p.per.toNat), (R.OPL_GAIN_GAIN l.val, p.x.gain / 2 ^ 16),
      (R.OPL_GAIN_ENVELOPE l.val, min 255 (p.x.long / 2 ^ 28).toNat), (R.OPL_STATUS_TIMING_LOCK l.val, b2n (timingLocked p.x))]
    if p.clip then t.u (R.OPL_STATUS_CLIP_SEEN l.val) 1 else t

/-- The channel bits q to q + k − 1 as the holding buffer has them, in their order, with their Δ; none where one is not there. -/
def heldBits (x : Dsp) (q k : Nat) : Option (List (Bool × Nat)) :=
  if q + k ≤ x.n ∧ x.n ≤ q + x.bits.length then some ((x.bits.drop (x.n - (q + k))).take k).reverse else none

/-- Bits as a number, first bit most significant. -/
def bitsNum (bs : List Bool) : Nat := bs.foldl (fun a b => 2 * a + b2n b) 0

/-- The 40 channel bits at q (R102). -/
def syncBits (x : Dsp) (q : Int) : Option (BitVec 40) :=
  if q < 0 then none else (heldBits x q.toNat 40).map (fun b => BitVec.ofNat 40 (bitsNum (b.map Prod.fst)))

/-- The channel bit lies inside a declared defect, or within w channel bits of one (R109, R110). -/
def inDefect (x : Dsp) (w i : Nat) : Bool :=
  x.defects.any (fun d => decide (d.1 ≤ i + w) && match d.2 with | some e => decide (i < e + w) | none => true)

/-- The metric margin of a half-frame whose data bits begin at q (R101): the mean of Δ over its 1,240 bits, 1.0 being the distance of a
single-bit error event, clipped to 1.99, UQ1.7. 1.99 lies between two values of UQ1.7, and a free value picks one. (log entry 13) -/
def halfMargin (target : List Nat) (x : Dsp) (q : Nat) (k : Nat) : Nat × Nat :=
  let sum := (((heldBits x q 1240).getD []).map Prod.snd).sum
  let den := 1240 * targetDistance target
  let r := if 199 * den < 100 * sum then narrow k (199 * 128) 100 else narrow k ((sum * 128 : Nat) : Int) (den : Int)
  (r.1.toNat, r.2)

end Sys2Proof.Machine
end

