-- ==== Sys2Proof/Machine/Lane.lean ====
section
/-!
DEFINITION. The meanings of the address, sync, frame, defect and spare commands of the read channel (chapters "The Q16 Disc
and Its Recording Format" and "Opal Read-Channel Lanes").
-/

namespace Sys2Proof.Machine

/-- A copy of an ADIP word is read (R71): its address is accepted if it follows the last accepted one of the arm, or if two
copies of the slot name it. (log entry 29) -/
def adipDecode (n : Fin 8) (arm : Fin 4) (newSlot : Bool) (w : BitVec 60) (s : State) : State :=
  { s with stn := vmod s.stn n (fun x => { x with adip := vmod x.adip arm (fun a =>
    let a := if newSlot then { a with copies := [], here := none } else a
    match adipAddress w with
    | none => a
    | some p =>
      let follows := match a.last with
        | some q => nextPca q == some p
        | none => false
      if a.here == some p then { a with copies := a.copies ++ [p] }
      else if follows || a.copies.contains p then { last := some p, copies := a.copies ++ [p], here := some p }
      else { a with copies := a.copies ++ [p] }) }) }

/-- The half periods that a time between two zero crossings counts for (R280): the nearest whole number of halves of the present wobble period, so
that an inverted wobble, at whose start the signal does not cross zero, counts in full; one where no period is known yet (DEDUCED). (log entry 90) -/
def halfPeriods (wob : Nat) (d : Rat) : Nat := if wob = 0 then 1 else (d * 2 ^ 22 / (wob : Rat) + 1 / 2).floor.toNat

/-- One more 25 MS/s sample of the push-pull signal (R280): a zero crossing is interpolated between it and the one before. 64 wobbles are 128 half
periods; their mean, in samples, comes out, and the next measurement begins. (log entry 90) -/
def wobbleSample (wob : Nat) (w : Wob) (y : Int) : Wob × Option Rat :=
  match w.last with
  | none => ({ w with last := some y }, none)
  | some x =>
    if decide (x < 0) = decide (y < 0) then ({ w with last := some y, since := w.since.map (· + 1) }, none)
    else
      let f : Rat := (x : Rat) / ((x - y : Int) : Rat)
      match w.since with
      | none => ({ w with last := some y, since := some (1 - f) }, none)
      | some t =>
        let k := w.halves + halfPeriods wob (t + f)
        let d := w.total + t + f
        if 128 ≤ k then (⟨some y, some (1 - f), 0, 0⟩, some (2 * d / (k : Rat)))
        else (⟨some y, some (1 - f), d, k⟩, none)

/-- The samples of a command, in order, and the last wobble period that they complete. -/
def wobbleRun (wob : Nat) : Wob → List Int → Wob × Option Rat
  | w, [] => (w, none)
  | w, y :: l =>
    let (w, p) := wobbleSample wob w y
    let (w, q) := wobbleRun wob w l
    (w, q.or p)

/-- The measured wobble period seeds the station's lanes whose seed comes from the wobble and which do not hold frame lock; the others keep their
loop and take the new centre of their clamp (R95). -/
def seedLanes (n : Fin 8) (period : Nat) (s : State) : State :=
    let s := { s with stn := vmod s.stn n (fun x => { x with wob := period }) }
    s.each (stationLanes s n) (fun t l =>
      if t.on (R.OPL_TR_SEED_SRC l.val) && t.g (R.OPL_MODE_MODE l.val) != 0 then
        let rate := t.g (R.OPL_RATE_PERIOD l.val)
        let u := seedLoad period t l
        if locked t l then u.u (R.OPL_RATE_PERIOD l.val) rate else u
      else t)

/-- WOBBLE_SEED_UPDATE (R95, R280): the next samples of the push-pull tracking signal. While tracking lock holds, every 64 wobbles update the seed;
without it the measurement ends, and the last seed stays. (log entry 90) -/
def wobbleSeed (n : Fin 8) (samples : List Int) (s : State) : State :=
  let put := fun (w : Wob) => { s with stn := vmod s.stn n (fun x => { x with meas := w }) }
  if s.on (R.BRL_STN_SEQ_STATUS_TLOCK n.val) then
    match wobbleRun (s.stn[n]).wob (s.stn[n]).meas samples with
    | (w, none) => put w
    | (w, some p) =>
      let (v, s) := (put w).quantR (p * 2 ^ 21)
      seedLanes n v.toNat s
  else put ⟨none, none, 0, 0⟩

def execWobbleSeedUpdate (n : Fin 8) (samples : List Int) (s : State) : Host.Outcome State Fault Refusal :=
  answer s (wobbleSeed n samples)

/-- A frame that begins at channel bit q is frame 0 by the station's timing, which is right to ±48 channel bits (R105, R106). -/
def atSlotStart (x : Lane) (q : Nat) : Bool :=
  match x.slotAt with
  | some a => decide (q ≤ a + 48) && decide (a ≤ q + 48)
  | none => false

/-- PRIMARY_SYNC_MATCH (R102 to R106): the 40 channel bits at offset p from the prediction differ from the primary in no more than
PRI_MAXDIFF bits. With frame lock it counts only within ±4 channel bits; a late one is accepted at once, an early one opens two
hypotheses, and further matches are ignored. During a search it is remembered for the secondary that must follow; at the start of a read
the search spans ±48 channel bits of the station's start of frame 0. -/
def primaryMatch (l : Fin 68) (p : Int) (f : LaneIn) (s : State) : State :=
  let s := laneRun s l f
  let x := s.lanes[l]
  match syncBits x.dsp (x.pred + p) with
  | none => s
  | some bits =>
    if !laneWorks s l ∨ s.g (R.OPL_SYNC_PRI_MAXDIFF l.val) < syncDiff bits primarySync then s
    else if locked s l then
      if p < -4 ∨ 4 < p ∨ x.pri.isSome ∨ x.hyp.isSome then s
      else if 0 ≤ p then
        (s.laneU l (fun x => { x with pri := some p })).whenB (p != 0) (fun t => t.bump (R.OPL_CNT_LATE l.val))
      else
        ((s.laneU l (fun x => { x with hyp := some ⟨p, []⟩ })).u (R.OPL_STATUS_HYPOTHESIS l.val) 1).bump
          (R.OPL_CNT_EARLY l.val)
    else
      let q := (x.pred + p).toNat
      if x.starting ∧ !atSlotStart x q then s else s.laneU l (fun x => { x with searchPri := some q })

def execPrimarySyncMatch (l : Fin 68) (p : Int) (f : LaneIn) (s : State) : Host.Outcome State Fault Refusal :=
  answer s (primaryMatch l p f)

/-- SECONDARY_SYNC_MATCH (R102, R103, R104): offset p from the secondary position the prediction expects. With hypotheses open
a match in the window of either is collected; otherwise it must lie within ±4 channel bits of 1,280 after the primary
accepted, or after the prediction where no primary was found (case 3). -/
def secondaryMatch (l : Fin 68) (p : Int) (f : LaneIn) (s : State) : State :=
  let s := laneRun s l f
  let x := s.lanes[l]
  match syncBits x.dsp (x.pred + 1280 + p) with
  | none => s
  | some bits =>
    let d := syncDiff bits secondarySync
    if !laneWorks s l ∨ s.g (R.OPL_SYNC_SEC_MAXDIFF l.val) < d ∨ !locked s l then s
    else match x.hyp with
      | some h =>
        if (h.p - 4 ≤ p ∧ p ≤ h.p + 4) ∨ (-4 ≤ p ∧ p ≤ 4) then
          s.laneU l (fun x => { x with hyp := some { h with secs := h.secs ++ [(p, d)] } })
        else s
      | none =>
        let c := x.pri.getD 0
        if x.sec.isSome ∨ p < c - 4 ∨ c + 4 < p then s
        else (s.laneU l (fun x => { x with sec := some p })).whenB x.pri.isNone
          (fun t => t.bump (R.OPL_CNT_PRI_MISSED l.val))

def execSecondarySyncMatch (l : Fin 68) (p : Int) (f : LaneIn) (s : State) : Host.Outcome State Fault Refusal :=
  answer s (secondaryMatch l p f)

/-- Of the secondary matches collected, the one with the fewest differing bits, and of equal ones the earliest (R104). -/
def bestSecondary : List (Int × Nat) → Option (Int × Nat)
  | [] => none
  | a :: t =>
    match bestSecondary t with
    | none => some a
    | some b => if b.2 < a.2 ∨ (b.2 = a.2 ∧ b.1 < a.1) then some b else some a

/-- HYPOTHESIS_DECIDE (R104): 4 channel bits after the secondary position that the predicted hypothesis expects both windows have closed;
the hypothesis whose expected secondary position lies nearer to the best match wins, the predicted one at equal distance; with no match
the frame has no confirmed sync (case 5). -/
def hypothesisDecide (l : Fin 68) (f : LaneIn) (s : State) : State :=
  let s := laneRun s l f
  let x := s.lanes[l]
  match x.hyp with
  | none => s
  | some h =>
    if x.dsp.n < x.pred + 1324 then s
    else
      let s := s.u (R.OPL_STATUS_HYPOTHESIS l.val) 0
      match bestSecondary h.secs with
      | none => s.laneU l (fun x => { x with hyp := none, decided := 5 })
      | some m =>
        let predicted := (m.1 : Int).natAbs ≤ (m.1 - h.p).natAbs
        (s.laneU l (fun x => { x with hyp := none, decided := 4, pri := some (if predicted then 0 else h.p), sec := some m.1 })).whenB
          predicted (fun t => t.bump (R.OPL_CNT_EARLY_PRED l.val))

def execHypothesisDecide (l : Fin 68) (f : LaneIn) (s : State) : Host.Outcome State Fault Refusal := answer s (hypothesisDecide l f)

/-- The sync case of the frame under way (R103); 0 while no sync is confirmed. -/
def syncCase (x : Lane) : Nat :=
  if x.decided = 4 then 4
  else match x.pri, x.sec with
    | some _, some _ => 1
    | some _, none => 2
    | none, some _ => 3
    | none, none => 0

/-- Where the frame under way has its primary and its secondary sync, and where the flywheel then expects the next primary, by the table of
R103: cases 1 and 3 are timed from the secondary, case 2 from the primary, case 4 from the winning hypothesis, and a frame without a confirmed
sync from the prediction. -/
def framePlaces (x : Lane) : Nat × Nat × Nat :=
  let a := (x.pred + x.pri.getD 0 : Int).toNat
  let b := match x.sec with
    | some p => (x.pred + 1280 + p : Int).toNat
    | none => a + 1280
  (a, b, match syncCase x with
    | 1 | 3 => b + 1280
    | 2 | 4 => a + 2560
    | _ => x.pred + 2560)

/-- The primary and the secondary position of the frame under way both fall inside a declared defect (R109). -/
def defectFrame (x : Lane) : Bool := inDefect x.dsp 0 (framePlaces x).1 && inDefect x.dsp 0 (framePlaces x).2.1

/-- The flywheel goes on to the next frame (R103): it is predicted at q, and nothing of it is matched yet. Taps that are due are loaded at
this boundary (R92, R304). -/
def flywheelTo (s : State) (l : Fin 68) (q : Nat) : State :=
  let t := s.laneU l (fun x => { x with pred := q, pri := none, sec := none, decided := 0, inserted := false, hyp := none })
  if (s.lanes[l]).tapsDue then tapsLoad t l else t

/-- The lane reads for Topaz or for calibration (R90): in role DATA or CAL, while its beam does not write. -/
def laneReads (s : State) (l : Fin 68) : Bool :=
  laneWorks s l && (s.g (R.OPL_MODE_MODE l.val) == 1 || s.g (R.OPL_MODE_MODE l.val) == 3) && !keepsSeed s l

/-- The lane delivers: after a resynchronisation from row 0 of a slot on, and that cluster is marked RESYNCED (R105). -/
def resumeAtSlot (s : State) (l : Fin 68) : State :=
  (s.u (R.OPL_STATUS_ACTIVE l.val) 1).laneU l (fun x => { x with awaitSlot := false, resynced := x.resynced || x.awaitSlot })

/-- One more flywheel insertion (R105): the third in a row resynchronises the lane. -/
def countMiss (s : State) (l : Fin 68) : State :=
  let t := s.laneU l (fun x => { x with miss := x.miss + 1 })
  if 3 ≤ (t.lanes[l]).miss then resync (wobbleOf t l) t l else t

/-- FLYWHEEL_INSERTION (R103 cases 5 and 6, R105, R106): a frame both of whose windows have closed with no confirmed sync is a whole-frame
erasure timed from the prediction; three in a row resynchronise the lane. A frame inside a declared defect is no flywheel insertion. At
the start of a read, when frame 0 of the first slot is not confirmed, the slot is handled from step 3 of R105. After a resynchronisation data
is delivered again from row 0 of the next slot, confirmed or not. A verify lane reports the frame with its verify result. (log entry 29) -/
def flywheelInsertion (l : Fin 68) (f : LaneIn) (s : State) : State :=
  let s := laneRun s l f
  let x := s.lanes[l]
  let verify := laneWorks s l && s.g (R.OPL_MODE_MODE l.val) == 2
  if syncCase x ≠ 0 ∨ x.hyp.isSome ∨ !(laneReads s l || verify) then s
  else if !locked s l then
    match x.starting, x.slotAt with
    | true, some a =>
      if verify ∨ x.dsp.n < a + 1372 then s
      else (eraseCluster s l a).laneU l
        (fun x => { x with starting := false, awaitSlot := true, sawResync := true, searchPri := none, slotAt := none })
    | _, _ => s
  else if defectFrame x ∨ x.dsp.n < x.pred + 1324 then s
  else if verify then
    if x.inserted then s else countMiss (s.laneU l (fun x => { x with inserted := true })) l
  else
    let case := if x.decided = 5 then 5 else 6
    let t := if x.awaitSlot ∧ !atSlotStart x x.pred then s
      else deliverRow (resumeAtSlot s l) l (erasedRow case (frameTouched x.dsp x.pred))
    countMiss (flywheelTo t l (x.pred + 2560)) l

def execFlywheelInsertion (l : Fin 68) (f : LaneIn) (s : State) : Host.Outcome State Fault Refusal := answer s (flywheelInsertion l f)

/-- FRAME_LOCK_REGAINED (R105, R106): a primary matched during the search is followed by a secondary match within ±4 channel bits
of 1,280 later. The flywheel then stands on that frame. After a resynchronisation data resumes at row 0 of the next slot; at the start of a
read the match confirms frame 0. -/
def frameLockRegained (l : Fin 68) (p : Int) (f : LaneIn) (s : State) : State :=
  let s := laneRun s l f
  let x := s.lanes[l]
  match x.searchPri with
  | none => s
  | some q =>
    match syncBits x.dsp (q + 1280 + p) with
    | none => s
    | some bits =>
      if !laneWorks s l ∨ locked s l ∨ p < -4 ∨ 4 < p ∨ s.g (R.OPL_SYNC_SEC_MAXDIFF l.val) < syncDiff bits secondarySync then s
      else (s.u (R.OPL_STATUS_FRAME_LOCK l.val) 1).laneU l (fun x => { x with
        searchPri := none, starting := false, miss := 0, decided := 0, hyp := none, pred := q, pri := some 0, sec := some p })

def execFrameLockRegained (l : Fin 68) (p : Int) (f : LaneIn) (s : State) : Host.Outcome State Fault Refusal :=
  answer s (frameLockRegained l p f)

/-- The channel bits for which the envelope must stay out of bounds, or within them (R107). -/
def qualifyLen (s : State) (l : Fin 68) : Nat := s.g (R.OPL_DEFECT_MIN_LEN l.val) * 8

/-- A defect that has ended still counts: a channel bit within 8 of it is in the holding buffer (R110), or it was declared since the last
confirmed frame (R114). -/
def defectCounts (x : Lane) (d : Nat × Option Nat) : Bool :=
  match d.2 with
  | some e => decide (x.dsp.n < e + 2568) || decide (x.confirmed < e)
  | none => true

/-- DEFECT_DECLARED (R107): the short-term envelope has stayed below LOW (UQ0.8) or above HIGH (UQ1.7) of the long-term envelope
for MIN_LEN × 8 channel bits. The defect begins where that stretch began. (log entry 71) -/
def defectDeclared (l : Fin 68) (f : LaneIn) (s : State) : State :=
  let s := laneRun s l f
  let x := (s.lanes[l]).dsp
  let run := max x.low x.high
  if laneWorks s l ∧ !s.on (R.OPL_STATUS_DEFECT l.val) ∧ qualifyLen s l ≤ run then
    (s.u (R.OPL_STATUS_DEFECT l.val) 1).laneU l (fun y => { y with dsp := { y.dsp with
      defects := (outputsOf x - run, none) :: x.defects.filter (defectCounts y) } })
  else s

def execDefectDeclared (l : Fin 68) (f : LaneIn) (s : State) : Host.Outcome State Fault Refusal := answer s (defectDeclared l f)

/-- A defect that lasts ends at channel bit q. -/
def closeDefect (q : Nat) : List (Nat × Option Nat) → List (Nat × Option Nat)
  | (a, none) :: t => (a, some q) :: t
  | d => d

/-- DEFECT_END (R107, R109): the envelope has stayed within LOW × 17/16 to HIGH × 15/16 for the same length; a defect that
outlasted MAX_HOLD is followed by a resynchronisation. -/
def defectEnd (l : Fin 68) (f : LaneIn) (s : State) : State :=
  let s := laneRun s l f
  let x := s.lanes[l]
  if s.on (R.OPL_STATUS_DEFECT l.val) ∧ qualifyLen s l ≤ x.dsp.good then
    let t := (s.u (R.OPL_STATUS_DEFECT l.val) 0).laneU l (fun y => { y with dsp := { y.dsp with
      defects := closeDefect (outputsOf x.dsp) x.dsp.defects } })
    if x.held then resync (wobbleOf s l) t l else t
  else s

def execDefectEnd (l : Fin 68) (f : LaneIn) (s : State) : Host.Outcome State Fault Refusal := answer s (defectEnd l f)

/-- The frames that the defect under way has lasted, in channel bits (R109). -/
def defectLength (x : Dsp) : Nat :=
  match x.defects with
  | (a, none) :: _ => outputsOf x - a
  | _ => 0

/-- DEFECT_HOLD_EXCEEDED (R109): the defect has lasted longer than MAX_HOLD frames. -/
def defectHoldExceeded (l : Fin 68) (f : LaneIn) (s : State) : State :=
  let s := laneRun s l f
  if s.on (R.OPL_STATUS_DEFECT l.val) ∧ s.g (R.OPL_DEFECT_MAX_HOLD l.val) * 2560 < defectLength (s.lanes[l]).dsp then
    (s.u (R.OPL_STATUS_HOLD_EXCEEDED l.val) 1).laneU l (fun x => { x with held := true })
  else s

def execDefectHoldExceeded (l : Fin 68) (f : LaneIn) (s : State) : Host.Outcome State Fault Refusal :=
  answer s (defectHoldExceeded l f)

/-- The 248 channel words of a half-frame whose data bits begin at q, first bit leftmost (R76, R78). -/
def halfWords (x : Dsp) (q : Nat) : List (BitVec 5) :=
  let bits := ((heldBits x q 1240).getD []).map Prod.fst
  (List.range 248).map (fun i => BitVec.ofNat 5 (bitsNum ((bits.drop (5 * i)).take 5)))

/-- For each of the 124 bytes of a half-frame whose data bits begin at q: a channel bit of it lies inside a declared defect or within 8
channel bits of one (R110). -/
def halfNear (x : Dsp) (q : Nat) : List Bool :=
  (List.range 124).map (fun i => (List.range 10).any (fun j => inDefect x 8 (q + 10 * i + j)))

/-- Demodulate a frame's channel words (R110): 248 bytes, nibble 0x0 for an invalid word, and a flag for each byte. -/
def demodulate (words : List (BitVec 5)) (near : List Bool) (halfA : Bool) : List Byte × List Bool :=
  let at' := fun i => dk45Nibble ((words[i]?).getD 0)
  ((List.range 248).map (fun i => BitVec.ofNat 8 ((at' (2 * i)).getD 0 * 16 + (at' (2 * i + 1)).getD 0)),
   (List.range 248).map (fun i => (at' (2 * i)).isNone || (at' (2 * i + 1)).isNone || (near[i]?).getD false ||
     (halfA && decide (i < 124))))

/-- The number of invalid channel words of a frame (R110). -/
def invalidWords (words : List (BitVec 5)) : Nat := (words.filter (fun w => (dk45Nibble w).isNone)).length

/-- Book the margins of a frame for the cluster's figures (R113). -/
def bookMargins (s : State) (l : Fin 68) (a b : Nat) : State :=
  s.laneU l (fun x => { x with
    marginSum := x.marginSum + a + b
    marginMin := min x.marginMin (min a b)
    halves := x.halves + 2 })

/-- A frame as it is aligned in the holding buffer: its channel words, the flags by defects, the margins of its halves, and its defect flag: some
channel bit of it lies in a declared defect, which is how the model reads the flag that R111 names (R101, R103, R110). -/
structure Framed where
  words : List (BitVec 5)
  near : List Bool
  marginA : Nat
  marginB : Nat
  touched : Bool
deriving DecidableEq, Repr

/-- Take the frame under way from the holding buffer (R103, R104): half A aligned to the primary, half B to the secondary. (log entry 73) -/
def takeFrame (s : State) (l : Fin 68) : Framed × State :=
  let x := s.lanes[l]
  let (a, b, _) := framePlaces x
  let target := (laneCfg s l).target
  let ma := halfMargin target x.dsp (a + 40) s.free
  let mb := halfMargin target x.dsp (b + 40) ma.2
  (⟨halfWords x.dsp (a + 40) ++ halfWords x.dsp (b + 40), halfNear x.dsp (a + 40) ++ halfNear x.dsp (b + 40), ma.1, mb.1,
    defectWithin x.dsp a (b + 1280)⟩, { s with free := mb.2 })

/-- Frames still in flight in a lane that reads become whole-frame erasures (R115, R117), from row 0 on where only part of row 0 has been
decided. -/
def eraseFlight (s : State) (l : Fin 68) : State :=
  let x := s.lanes[l]
  if !x.rows.isEmpty then eraseRest s l
  else if !laneReads s l then s
  else if locked s l then
    if x.pred < x.dsp.n ∧ (!x.awaitSlot ∨ atSlotStart x x.pred) then eraseCluster s l x.pred else s
  else match x.starting, x.slotAt with
    | true, some a => if a < x.dsp.n then eraseCluster s l a else s
    | _, _ => s

/-- The DSP section of a lane fails (R114). Frames still in flight become whole-frame erasures (R115). -/
def failLane (s : State) (l : Fin 68) : State :=
  (eraseFlight s l).us [(R.OPL_STATUS_FAILED l.val, 1), (R.OPL_STATUS_ACTIVE l.val, 0), (R.OPL_STATUS_FRAME_LOCK l.val, 0)]

/-- A lane reads a block of its memories, which may hold an error (R114, R330). -/
def laneMemory (s : State) (l : Fin 68) (b : Option SramBlock) : State :=
  if sramBad b then failLane (sramRead s b) l else sramRead s b

/-- FRAME_DELIVERY (R103, R109, R110, R111): a data lane, or one in role CAL, delivers the frame under way once its last bit is decided. After a
resynchronisation nothing is delivered before row 0 of the next slot, and that cluster is marked RESYNCED (R105). The status word of a defect
frame, for which R103 has no case, says case 6 and margins 0. (log entry 73) -/
def frameDelivery (l : Fin 68) (f : LaneIn) (sram : Option SramBlock) (s : State) : State :=
  let s := laneRun s l f
  let s := if laneReads s l then laneMemory s l sram else s
  let x := s.lanes[l]
  let case := syncCase x
  let isDefect := defectFrame x
  let (a, b, next) := framePlaces x
  if !laneReads s l ∨ !locked s l ∨ x.hyp.isSome ∨ x.dsp.n < b + 1280 ∨ (!isDefect ∧ case = 0) then s
  else if x.awaitSlot ∧ !atSlotStart x a then
    flywheelTo (s.laneU l (fun y => { y with miss := 0, confirmed := x.dsp.n })) l (if isDefect then x.pred + 2560 else next)
  else
    let s := (resumeAtSlot s l).laneU l (fun y => { y with miss := 0, confirmed := if isDefect then y.confirmed else x.dsp.n })
    if isDefect then flywheelTo (deliverRow s l (erasedRow 6 true)) l (x.pred + 2560)
    else
      let (w, s) := takeFrame s l
      let halfA := decide (case = 3) && decide (w.marginA < s.g (R.OPL_SYNC_POOR l.val))
      let d := demodulate w.words w.near halfA
      let s := s.bumpN (R.OPL_CNT_INVALID_WORD l.val) (invalidWords w.words)
      let s := bookMargins s l w.marginA w.marginB
      flywheelTo (deliverRow s l ⟨d.1, d.2, case, w.marginA, w.marginB, false, halfA, w.touched⟩) l next

def execFrameDelivery (l : Fin 68) (f : LaneIn) (sram : Option SramBlock) (s : State) : Host.Outcome State Fault Refusal :=
  answer s (frameDelivery l f sram)

/-- LANE_FAILED (R114): the DSP section of a lane fails: cross parity detects an error in one of its memories that it cannot mend, or for 64
frame periods it has delivered no confirmed frame and declared no defect while every other lane of its station in the same role holds frame
lock. -/
def laneFailed (l : Fin 68) (why : LaneFault) (s : State) : State :=
  match why with
  | .memory b => laneMemory s l (some b)
  | .noFrames =>
    let x := s.lanes[l]
    match laneBeam s l with
    | none => s
    | some (n, _, v) =>
      let role := s.g (R.OPL_MODE_MODE l.val)
      let others := (beams.map (fun m => workLane s n m v)).filter (fun k => k != l && s.g (R.OPL_MODE_MODE k.val) == role)
      let dry := decide (x.confirmed + 64 * 2560 ≤ x.dsp.n) &&
        !x.dsp.defects.any (fun d => match d.2 with | some e => decide (x.confirmed < e) | none => true)
      if laneWorks s l && dry && others.all (locked s) then failLane s l else s

def execLaneFailed (l : Fin 68) (why : LaneFault) (s : State) : Host.Outcome State Fault Refusal := answer s (laneFailed l why)

/-- ADC_FAILED (R114): the ADC's output stays at one code for 1 µs, 1,000 samples, while the station holds focus, or its built-in test at
start-up finds a missing code. Rows still in flight are whole-frame erasures, so that Topaz recovers the cluster through its stripe (R117). -/
def adcFailed (l : Fin 64) (f : LaneIn) (startUp : Bool) (s : State) : State :=
  let own : Fin 68 := ⟨l.val, by omega⟩
  let n : Fin 8 := ⟨l.val / 8, by omega⟩
  let work := workLane s n ⟨l.val % 4, by omega⟩ (4 ≤ l.val % 8)
  let s := laneRun s work f
  if startUp ∨ (1000 ≤ (s.lanes[work]).dsp.same ∧ s.on (R.BRL_STN_SEQ_STATUS_FLOCK n.val)) then
    (eraseFlight s work).us [(R.OPL_STATUS_ADC_FAILED own.val, 1), (R.OPL_STATUS_ACTIVE work.val, 0)]
  else s

def execAdcFailed (l : Fin 64) (f : LaneIn) (startUp : Bool) (s : State) : Host.Outcome State Fault Refusal :=
  answer s (adcFailed l f startUp)

/-- The beam stops for want of a lane (R19, R117): its encoded cluster goes to the beam that writes next, what its verify lane still owed fails,
and a calibration goes on without it (R309). -/
def stopBeam (s : State) (n : Fin 8) (m : Fin 4) (ver : Bool) : State :=
  recallBeam (((calWithout s n m).laneU (laneOf n m ver) (fun x => { x with stopped := true })).whenB ver (fun t => failInFlight t n m)) n m

/-- A lane begins on a spare (R115); a calibration that runs goes on without the beam (R309). A beam that had stopped for want of it can write
again: what is encoded on the other beams is encoded anew, for the arm that lags (R88). -/
def spareTakes (s : State) (n : Fin 8) (m : Fin 4) (ver : Bool) (k : Fin 4) (cause : Nat) : State :=
  let t := moveToSpare (calWithout s n m) n m ver k cause
  let t := t.whenB (s.lanes[laneOf n m ver]).stopped (fun t => recallAll t n)
  laneBegin (wobbleOf s (laneOf n m ver)) (t.whenB ver (fun t => failInFlight t n m)) (spareLane k)

/-- One lane of a beam at the beam's cluster boundary (R115, R117, R122): a failed ADC stops the beam, and frees the spare that does the lane's
work; a failed DSP section moves to a spare or stops the beam, and a FORCE or RELEASE that waits is carried out. -/
def spareSwitchLane (s : State) (n : Fin 8) (m : Fin 4) (ver : Bool) : State :=
  let own := laneOf n m ver
  let work := workLane s n m ver
  let w := wobbleOf s own
  if s.on (R.OPL_STATUS_ADC_FAILED own.val) then
    if (s.lanes[own]).adcDone then s
    else
      let t := match spareOf s n m ver with
        | some k => (spareClear s k).u (R.OPL_STATUS_SPARED own.val) 0
        | none => s
      (stopBeam (t.laneU own (fun x => { x with adcDone := true, force := false, release := false })) n m ver).log 0x103 n.val
        [laneArg n m ver, 0xFF, 2]
  else if s.on (R.OPL_STATUS_FAILED work.val) && !(s.lanes[work]).handled then
    let t := (s.laneU work (fun x => { x with handled := true })).laneU own
      (fun x => { x with force := false, release := false })
    match freeSpare t with
    | some k => spareTakes t n m ver k 1
    | none => (stopBeam t n m ver).log 0x103 n.val [laneArg n m ver, 0xFF, 1]
  else if (s.lanes[own]).force then
    let t := s.laneU own (fun x => { x with force := false })
    match freeSpare t with
    | some k => if s.on (R.OPL_STATUS_SPARED own.val) then t else spareTakes t n m ver k 3
    | none => t
  else if (s.lanes[own]).release then
    let t := s.laneU own (fun x => { x with release := false })
    match spareOf s n m ver with
    | some k =>
      if s.on (R.OPL_STATUS_FAILED own.val) then t
      else laneRestart w ((spareClear t k).u (R.OPL_STATUS_SPARED own.val) 0) own
    | none => t
  else s

/-- LANE_SPARE_SWITCH (R115, R117, R118): the beams whose cluster boundary falls in this core cycle are served lower station first,
within a station data lanes before verify lanes, then lower beam first. A beam that writes a cluster is at no boundary. -/
def laneSpareSwitch (bs : List (Fin 8 × Fin 4)) (s : State) : State :=
  let at' := fun (t : State) (n : Fin 8) (m : Fin 4) => bs.contains (n, m) && !beamBusy t n m
  s.each stations (fun t n => t.each [false, true] (fun t ver => t.each beams (fun t m =>
    if at' t n m then spareSwitchLane t n m ver else t)))

def execLaneSpareSwitch (bs : List (Fin 8 × Fin 4)) (s : State) : Host.Outcome State Fault Refusal :=
  answer s (laneSpareSwitch bs)

/-- SPARE_FORCE (R114, R122): ignored when no spare is free, when the lane is already spared, or when its ADC has failed. -/
def spareForce (n : Fin 8) (ver : Bool) (m : Fin 4) (s : State) : State :=
  let own := laneOf n m ver
  if (freeSpare s).isNone ∨ s.on (R.OPL_STATUS_SPARED own.val) ∨ s.on (R.OPL_STATUS_ADC_FAILED own.val) then s
  else s.laneU own (fun x => { x with force := true })

def execSpareForce (n : Fin 8) (ver : Bool) (m : Fin 4) (s : State) : Host.Outcome State Fault Refusal :=
  answer s (spareForce n ver m)

/-- SPARE_RELEASE (R122): ignored for a lane that has FAILED set or is not spared. -/
def spareRelease (n : Fin 8) (ver : Bool) (m : Fin 4) (s : State) : State :=
  let own := laneOf n m ver
  if s.on (R.OPL_STATUS_FAILED own.val) ∨ !s.on (R.OPL_STATUS_SPARED own.val) then s
  else s.laneU own (fun x => { x with release := true })

def execSpareRelease (n : Fin 8) (ver : Bool) (m : Fin 4) (s : State) : Host.Outcome State Fault Refusal :=
  answer s (spareRelease n ver m)

/-- The lane is between two clusters (R119): nothing of a cluster is framed or judged. -/
def betweenClusters (s : State) (l : Fin 68) : Bool :=
  let x := s.lanes[l]
  x.rows.isEmpty && x.pri.isNone && x.sec.isNone && x.hyp.isNone &&
    match laneBeam s l with
    | some (n, m, true) => !((s.wrs[n]).beams[m].judged ++ (s.wrs[n]).beams[m].cur.toList).any (fun c => takesResults c && c.results != 0)
    | _ => true

/-- MICROCODE_TAKE (R119): at its next cluster boundary a lane takes newly loaded framer microcode. -/
def microcodeTake (l : Fin 68) (s : State) : State :=
  if betweenClusters s l then s.laneU l (fun x => { x with ucode := s.tru.ucodeSlot }) else s

def execMicrocodeTake (l : Fin 68) (s : State) : Host.Outcome State Fault Refusal := answer s (microcodeTake l)

end Sys2Proof.Machine
end

