-- ==== Sys2Proof/Machine/ApplyOps.lean ====
section
/-!
DEFINITION. Apply units, consistency sets and the rejection of a set (R44 to R50), with the rules that the owning chapters give.
-/

namespace Sys2Proof.Machine

/-- The apply unit a configurable register belongs to (R44). -/
def unitOf (a : Nat) : Option UnitId :=
  if !configurable a then none
  else if a < 0x10000 then some .glbTemp
  else if a < 0x11000 then some .hqeArb
  else if a < 0x20000 then some .hqeVol
  else if a < 0x22000 then some .pcxCtl
  else if a < 0x40000 then some (.pcxWin ((a - 0x22000) / 0x40))
  else if a < 0x50000 then some .buf
  else if a < 0x60000 then some .onx
  else if a < 0x70000 then some .grn
  else if a < 0x80000 then some .tpz
  else if a < 0x100000 then
    let n := (a - 0x80000) / 0x10000
    let o := a % 0x10000
    if o < 0x1000 then some (.stn n)
    else if o < 0x2000 then some (.lane (8 * n + (o - 0x1000) / 0x200))
    else if o < 0x4000 then some (.wrs n)
    else if o < 0x4800 then some (.spn n)
    else if o < 0x5000 then some .spnBus
    else some (.sld n)
  else if a < 0x101000 then some (.brlStn ((a - 0x100400) / 0x40))
  else if a < 0x110000 then some (.brlSlot ((a - 0x101000) / 0x40))
  else if a < 0x130000 then some (.brlBank ((a - 0x110000) / 0x10000) (a % 0x10000 / 0x100))
  else if a < 0x180000 then some .jsp
  else if a < 0x1C0000 then some .cal
  else if a < 0x1C8000 then some .cgl
  else if a < 0x1D0000 then some .drk
  else if a < 0x1E0000 then some .qtz
  else if a < 0x200000 then some .evl
  else some (.lane (64 + (a - 0x200000) / 0x200))

/-- The APPLY_GRP field of a unit (R44). -/
def groupField : UnitId → FRef
  | .glbTemp => R.GLB_TEMP_UNIT_APPLY_GRP
  | .hqeArb => R.HQE_UNIT_APPLY_GRP
  | .hqeVol => R.HQE_VOL_UNIT_APPLY_GRP
  | .pcxCtl => R.PCX_UNIT_APPLY_GRP
  | .pcxWin w => R.PCX_WIN_UNIT_APPLY_GRP w
  | .buf => R.BUF_UNIT_APPLY_GRP
  | .onx => R.ONX_UNIT_APPLY_GRP
  | .grn => R.GRN_UNIT_APPLY_GRP
  | .tpz => R.TPZ_UNIT_APPLY_GRP
  | .stn n => R.STN_UNIT_APPLY_GRP n
  | .lane l => R.OPL_UNIT_APPLY_GRP l
  | .wrs n => R.WRS_UNIT_APPLY_GRP n
  | .spn n => R.SPN_UNIT_APPLY_GRP n
  | .spnBus => R.SPN_BUS_UNIT_APPLY_GRP
  | .sld n => R.SLD_UNIT_APPLY_GRP n
  | .brlStn n => R.BRL_STN_UNIT_APPLY_GRP n
  | .brlSlot k => R.BRL_SLOT_UNIT_APPLY_GRP k
  | .brlBank b k => R.BRL_BANK_UNIT_APPLY_GRP b k
  | .jsp => R.JSP_UNIT_APPLY_GRP
  | .cal => R.CAL_UNIT_APPLY_GRP
  | .cgl => R.CGL_UNIT_APPLY_GRP
  | .drk => R.DRK_UNIT_APPLY_GRP
  | .qtz => R.QTZ_UNIT_APPLY_GRP
  | .evl => R.EVL_UNIT_APPLY_GRP

/-- The apply group of a unit (R44). -/
def groupOf (s : State) (u : UnitId) : Nat := s.g (groupField u)

/-- Every apply unit, in the order of the block map; windows and slots ascend (R218, R434). -/
def allUnits : List UnitId :=
  let upTo := fun (k : Nat) (f : Nat → UnitId) => (List.range k).map f
  let parts : List (List UnitId) :=
    [[UnitId.glbTemp, UnitId.hqeArb, UnitId.hqeVol, UnitId.pcxCtl], upTo 256 UnitId.pcxWin,
     [UnitId.buf, UnitId.onx, UnitId.grn, UnitId.tpz], upTo 8 UnitId.stn, upTo 68 UnitId.lane, upTo 8 UnitId.wrs, upTo 8 UnitId.spn,
     [UnitId.spnBus], upTo 8 UnitId.sld, upTo 8 UnitId.brlStn, upTo 96 UnitId.brlSlot, upTo 96 (UnitId.brlBank 0),
     upTo 96 (UnitId.brlBank 1), [UnitId.jsp, UnitId.cal, UnitId.cgl, UnitId.drk, UnitId.qtz, UnitId.evl]]
  parts.flatten

/-- A consistency set (R48): its members, lowest address first, and whether its rules hold for given values. -/
structure CfgSet where
  mem : List Nat
  ok : Bool

/-- Field f of the values v, unsigned and signed. -/
def fv (v : Nat → Word) (f : FRef) : Nat := getF (v f.addr) f
def fs (v : Nat → Word) (f : FRef) : Int := toSigned f.w (fv v f)

/-- The 64-bit value whose low word lies at a. -/
def v64 (v : Nat → Word) (a : Nat) : Nat := (v a).toNat + 2 ^ 32 * (v (a + 4)).toNat

/-- lo ≤ x ≤ hi. -/
def within (lo x hi : Nat) : Bool := decide (lo ≤ x) && decide (x ≤ hi)

/-- The sets of a lane (R121). -/
def laneSets (s : State) (v : Nat → Word) (l : Nat) : List CfgSet :=
  let spare := decide (64 ≤ l)
  let serves := !spare || bitOf (s.rd R.OPL_SPARE_MAP).toNat (8 * (l - 64) + 7) == 1
  let ver := s.on (R.OPL_UNIT_VERIFY l)
  let mode := fv v (R.OPL_MODE_MODE l)
  let target := fv v (R.OPL_MODE_TARGET l)
  let c := fun (f : FRef) => fv v f
  [⟨[R.OPL_MODE l, R.OPL_TARGET_PROG l],
      decide (target ≤ 3) && (mode != 1 || (serves && !ver)) && (mode != 2 || (serves && ver)) &&
        (target != 3 || (decide (c (R.OPL_TARGET_PROG_C1 l) ≤ c (R.OPL_TARGET_PROG_C2 l)) &&
          decide (c (R.OPL_TARGET_PROG_C0 l) ≤ c (R.OPL_TARGET_PROG_C1 l)) && decide (0 < c (R.OPL_TARGET_PROG_C2 l))))⟩,
   ⟨[R.OPL_TR l, R.OPL_TR_PERIOD l],
      decide (fv v (R.OPL_TR_KP_EXP l) < fv v (R.OPL_TR_KI_EXP l)) && within periodMin (fv v (R.OPL_TR_PERIOD_PERIOD l)) periodMax⟩,
   ⟨[R.OPL_SYNC l, R.OPL_DEFECT l],
      decide (fv v (R.OPL_SYNC_PRI_MAXDIFF l) ≤ 4) && decide (fv v (R.OPL_SYNC_SEC_MAXDIFF l) ≤ 4) &&
        decide (0x81 ≤ fv v (R.OPL_DEFECT_HIGH l)) && decide (0x10 ≤ fv v (R.OPL_DEFECT_LOW l)) &&
        decide (1 ≤ fv v (R.OPL_DEFECT_MIN_LEN l)) && within 1 (fv v (R.OPL_DEFECT_MAX_HOLD l)) 16⟩]

/-- The sets of a write path (R180). WRS_TIMING, in no set, is judged by itself. -/
def wrsSets (v : Nat → Word) (n : Nat) : List CfgSet :=
  let pw := fun b => fv v (R.WRS_PW_PW n b)
  let pr := fun b => fv v (R.WRS_PW_PR n b)
  let ps := fv v (R.WRS_RATIO_PS n)
  let beam := fun b => decide (pw b ≤ fv v (R.WRS_LIMIT_PW_MAX n)) && decide (pr b ≤ 0x300) && decide (256 * pr b ≤ ps * pw b)
  let entry := fun (a i : Nat) => let x := toSigned 8 ((v a).toNat / 256 ^ i % 256); decide (-16 ≤ x) && decide (x ≤ 15)
  let table := fun (a : Nat) => (List.range 4).all (entry a)
  [⟨[R.WRS_TIMING n], decide (fv v (R.WRS_TIMING_TRAIL n) ≤ 10240)⟩,
   ⟨[R.WRS_RATIO n, R.WRS_LIMIT n] ++ (List.range 4).map (R.WRS_PW n),
      decide (fv v (R.WRS_LIMIT_PW_MAX n) ≤ 0x3C00) && (List.range 4).all beam && decide (ps ≤ fv v (R.WRS_RATIO_PM n))⟩,
   ⟨(List.range 5).map (R.WRS_LEAD n) ++ (List.range 5).map (R.WRS_TRAIL n) ++ (List.range 5).map (R.WRS_SHAPE n),
      (List.range 5).all (fun k => table (R.WRS_LEAD n k) && table (R.WRS_TRAIL n k) &&
        within 8 (fv v (R.WRS_SHAPE_TTOP n k)) (32 * (k + 1)) && decide (fv v (R.WRS_SHAPE_TCOOL n k) ≤ 64))⟩,
   ⟨[R.WRS_VERIFY n, R.WRS_RETRY n],
      decide (fv v (R.WRS_VERIFY_MISMATCH_MAX n) ≤ 16) && decide (fv v (R.WRS_VERIFY_ERASED_MAX n) ≤ 16) &&
        decide (fv v (R.WRS_VERIFY_FRAME_FAIL_MAX n) ≤ 24) && within 1 (fv v (R.WRS_RETRY_ATTEMPT_MAX n)) 8 &&
        within 2 (fv v (R.WRS_RETRY_BEAM_FAIL_RUN n)) 15⟩]

/-- The sets of a spindle (R246). -/
def spnSets (s : State) (v : Nat → Word) (n : Nat) : List CfgSet :=
  let still := let st := s.g (R.SPN_STATUS_STATE n); st == spSTOPPED || st == spFAULT
  let same := fun (f : FRef) => fv v f == s.g f
  [⟨[R.SPN_MOTOR n, R.SPN_MODEL n, R.SPN_FLUX n],
      within 1 (fv v (R.SPN_MOTOR_POLE_PAIRS n)) 8 && decide (0 < fv v (R.SPN_MOTOR_I_FS n)) && decide (0 < fv v (R.SPN_MODEL_RS n)) &&
        decide (0 < fv v (R.SPN_MODEL_LS n)) && decide (0 < fv v (R.SPN_FLUX_KE n)) &&
        (still || (same (R.SPN_MOTOR_DIR n) && same (R.SPN_MOTOR_POLE_PAIRS n)))⟩,
   ⟨[R.SPN_OBS n, R.SPN_SPEEDS n, R.SPN_START n],
      decide (60 ≤ fv v (R.SPN_OBS_OBS_MIN n)) && decide (fv v (R.SPN_OBS_OBS_MIN n) < fv v (R.SPN_SPEEDS_IF_SPEED n)) &&
        decide (fv v (R.SPN_SPEEDS_IF_SPEED n) ≤ 1000) && decide (fv v (R.SPN_OBS_OBS_MIN n) ≤ fv v (R.SPN_SPEEDS_SHORT_SPEED n)) &&
        decide (1 ≤ fv v (R.SPN_START_ALIGN_T n)) && decide (1 ≤ fv v (R.SPN_START_IF_T n)) &&
        decide (1 ≤ fv v (R.SPN_START_OBS_T n)) && decide (1 ≤ fv v (R.SPN_START_SHORT_T n))⟩,
   ⟨[R.SPN_STARTI n, R.SPN_LIMIT n, R.SPN_LOSS n],
      let m := fv v (R.SPN_LIMIT_I_MAX n)
      decide (fv v (R.SPN_STARTI_ALIGN_I n) ≤ m) && decide (fv v (R.SPN_STARTI_IF_I n) ≤ m) &&
        decide (fv v (R.SPN_LOSS_LOSS_ID n) ≤ m) && decide (m < fv v (R.SPN_LIMIT_I_TRIP n))⟩]

/-- The sets of a sled (R273). -/
def sldSets (v : Nat → Word) (n : Nat) : List CfgSet :=
  let lo := fs v (R.SLD_SOFT_MIN_POS n)
  let hi := fs v (R.SLD_SOFT_MAX_POS n)
  let exit : Int := fv v (R.SLD_HOMING_HOME_EXIT n)
  [⟨[R.SLD_VMAX n, R.SLD_ACCEL n, R.SLD_STOPS n],
      within 1 (fv v (R.SLD_VMAX_VMAX n)) 150000 && decide (100 ≤ fv v (R.SLD_ACCEL_ACCEL n)) &&
        decide (100 ≤ fv v (R.SLD_ACCEL_DECEL n)) && decide (100 ≤ fv v (R.SLD_STOPS_LIMIT_DECEL n)) &&
        decide (fv v (R.SLD_STOPS_VSAFE n) ≤ fv v (R.SLD_VMAX_VMAX n))⟩,
   ⟨[R.SLD_GEOM n, R.SLD_SOFT_MIN n, R.SLD_SOFT_MAX n, R.SLD_HOMING n],
      decide (0 ≤ lo) && decide (lo < hi) && decide (hi ≤ 665600) && decide (lo ≤ exit) && decide (exit ≤ hi)⟩,
   ⟨[R.SLD_CURRENT n, R.SLD_CURPI n],
      decide (0 < fv v (R.SLD_CURRENT_I_FS n)) && decide (fv v (R.SLD_CURRENT_I_HOLD n) ≤ fv v (R.SLD_CURRENT_I_RUN n))⟩]

/-- The sets of a sequencer, a slot and a bank (R217). -/
def brlStnSets (v : Nat → Word) (n : Nat) : List CfgSet :=
  [⟨[R.BRL_STN_FOK n, R.BRL_STN_LOCKERR n],
      decide (0 < fs v (R.BRL_STN_FOK_FOK_LEVEL n)) && decide (1 ≤ fv v (R.BRL_STN_FOK_HOLD_MAX n)) &&
        decide (0 < fv v (R.BRL_STN_LOCKERR_FLOCK_ERR n)) && decide (0 < fv v (R.BRL_STN_LOCKERR_TLOCK_ERR n))⟩,
   ⟨[R.BRL_STN_JUMP n, R.BRL_STN_SEQT n],
      decide (0 < fs v (R.BRL_STN_JUMP_KICK n)) && decide (1 ≤ fv v (R.BRL_STN_JUMP_KICK_T n)) &&
        decide (1 ≤ fv v (R.BRL_STN_JUMP_BRAKE_T n)) && decide (2 ≤ fv v (R.BRL_STN_SEQT_JUMP_TIMEOUT n)) &&
        decide (10 ≤ fv v (R.BRL_STN_SEQT_SWEEP_T n))⟩]

def brlSlotSets (v : Nat → Word) (k : Nat) : List CfgSet :=
  [⟨(List.range 4).map (R.BRL_SLOT_WN k) ++ (List.range 4).map (R.BRL_SLOT_WD k),
      (List.range 4).all (fun i => decide (0 ≤ fs v (R.BRL_SLOT_WD_W_HI k i)) && decide (0 ≤ fs v (R.BRL_SLOT_WD_W_LO k i)))⟩]

def brlBankSets (v : Nat → Word) (b k : Nat) : List CfgSet :=
  let lo := fs v (R.BRL_BANK_OUTMIN_VALUE b k)
  let hi := fs v (R.BRL_BANK_OUTMAX_VALUE b k)
  let bias := fs v (R.BRL_BANK_BIAS_VALUE b k)
  let bq := fun (q : Nat) =>
    let a1 := (fs v (R.BRL_BANK_BQ_COEF b k q 3)).natAbs
    let a2 := fs v (R.BRL_BANK_BQ_COEF b k q 4)
    decide (a2.natAbs < 2 ^ 21) && decide ((a1 : Int) < 2 ^ 21 + a2)
  [⟨[R.BRL_BANK_GAIN b k, R.BRL_BANK_KI b k, R.BRL_BANK_ILIM b k, R.BRL_BANK_OUTMIN b k, R.BRL_BANK_OUTMAX b k, R.BRL_BANK_BIAS b k] ++
      (List.range 5).flatMap (fun q => (List.range 5).map (R.BRL_BANK_BQ b k q)),
      decide (lo < hi) && decide (lo ≤ bias) && decide (bias ≤ hi) && decide (0 ≤ fs v (R.BRL_BANK_ILIM_VALUE b k)) &&
        (List.range 5).all bq⟩]

/-- The range of a window in 64 KiB units, while it is enabled (R416). -/
def winRange (v : Nat → Word) (w : Nat) : Option (Nat × Nat) :=
  if fv v (R.PCX_WIN_CFG_EN w) = 1 then some (fv v (R.PCX_WIN_BASE_BASE w), fv v (R.PCX_WIN_CFG_SIZE w)) else none

/-- The set of a window (R434), with the check of its range against the other windows of the configuration. -/
def winSets (s : State) (v : Nat → Word) (w : Nat) : List CfgSet :=
  let size := fv v (R.PCX_WIN_CFG_SIZE w)
  let owner := fv v (R.PCX_WIN_CFG_OWNER w)
  let apart := match winRange v w with
    | none => true
    | some (b, n) => within 1 n 262144 && decide (b + n ≤ 262144) && (List.range 256).all (fun x =>
        x == w || (match winRange v x with
          | some (c, m) => !overlaps b n c m
          | none => true))
  [⟨[R.PCX_WIN_CFG w, R.PCX_WIN_BASE w, R.PCX_WIN_RID w, R.PCX_WIN_NOTIFY_LO w, R.PCX_WIN_NOTIFY_HI w],
      apart && (!s.on (R.PCX_WIN_STATUS_BOUND w) || size == s.g (R.PCX_WIN_CFG_SIZE w)) &&
        fv v (R.PCX_WIN_NOTIFY_LO_ADDR w) % 8 == 0 && (owner == 0 || decide (owner ≤ numVfs s))⟩]

/-- The consistency sets of a unit, judged for the values v of the configuration that would result (R48, R50). -/
def setsOf (s : State) (v : Nat → Word) : UnitId → List CfgSet
  | .glbTemp => [⟨[R.GLB_TEMP_WARN, R.GLB_TEMP_CRIT],
      decide (-2560 ≤ fs v R.GLB_TEMP_WARN_LEVEL) && decide (fs v R.GLB_TEMP_WARN_LEVEL < fs v R.GLB_TEMP_CRIT_LEVEL) &&
        decide (fs v R.GLB_TEMP_CRIT_LEVEL ≤ 8320)⟩]
  | .hqeVol => (List.range 64).map (fun x =>
      ⟨[R.HQE_VOL_SIZE_LO x, R.HQE_VOL_SIZE_HI x], decide (v64 v (R.HQE_VOL_SIZE_LO x) ≤ 2 ^ 48)⟩)
  | .pcxCtl => [⟨[R.PCX_TIMING, R.PCX_VIOL, R.PCX_CREDIT],
      within 1 (fv v R.PCX_TIMING_CPL_TO) 1000 && decide (fv v R.PCX_TIMING_GRACE ≤ 1000) &&
        within 10 (fv v R.PCX_CREDIT_HOLD) 10000 && decide (1 ≤ fv v R.PCX_VIOL_DOORBELL_MAX)⟩]
  | .pcxWin w => winSets s v w
  | .buf => [⟨[R.BUF_SCRUB, R.BUF_RETIRE_ADV],
      decide (10 ≤ fv v R.BUF_SCRUB_PERIOD) && decide (1 ≤ fv v R.BUF_RETIRE_ADV_CE_THRESH)⟩]
  | .grn => [⟨[R.GRN_MAP_CTRL, R.GRN_CKPT_CTRL],
      within 1024 (fv v R.GRN_MAP_CTRL_RESERVE) 131072 && decide (1 ≤ fv v R.GRN_CKPT_CTRL_BASE_EVERY)⟩]
  | .tpz => [⟨[R.TPZ_DEC_CTRL, R.TPZ_SWEEP_CTRL],
      within 1 (fv v R.TPZ_DEC_CTRL_INNER_T) 8 && within 1 (fv v R.TPZ_DEC_CTRL_ROUNDS) 3 &&
        within 1 (fv v R.TPZ_SWEEP_CTRL_RELOC_ROWS) 31⟩]
  | .stn n => [⟨[R.STN_CFG n, R.STN_MOUNT n],
      within 1 (fv v (R.STN_CFG_RECOVER_MAX n)) 15 && within 1 (fv v (R.STN_CFG_RECOVER_WINDOW n)) 255 &&
        within 1 (fv v (R.STN_CFG_SPEED n)) 3 && within 10 (fv v (R.STN_MOUNT_DISC_QUAL n)) 1000 &&
        decide (fv v (R.STN_MOUNT_MOUNT_POS n) ≤ 665600)⟩]
  | .lane l => laneSets s v l
  | .wrs n => wrsSets v n
  | .spn n => spnSets s v n
  | .sld n => sldSets v n
  | .brlStn n => brlStnSets v n
  | .brlSlot k => brlSlotSets v k
  | .brlBank b k => brlBankSets v b k
  | .cal => [⟨[R.CAL_TRIG, R.CAL_GRID, R.CAL_TEMPSET],
      decide (5 ≤ fv v R.CAL_TRIG_DELTA_T) && decide (1 ≤ fv v R.CAL_TRIG_INTERVAL) && within 1 (fv v R.CAL_GRID_LADDER) 20 &&
        decide (1 ≤ fv v R.CAL_GRID_SA_STEP) && decide (1 ≤ fv v R.CAL_GRID_FOCUS_STEP) && decide (1 ≤ fv v R.CAL_GRID_TILT_STEP) &&
        decide (1 ≤ fv v R.CAL_TEMPSET_STEP) && decide (fs v R.CAL_TEMPSET_BASE + 7 * (fv v R.CAL_TEMPSET_STEP : Int) ≤ 125)⟩]
  | .cgl =>
      let free := pairSt s == pALONE || pairSt s == pDOWN || pairSt s == pMISMATCH
      let same := fun (f : FRef) => fv v f == s.g f
      [⟨[R.CGL_CTRL, R.CGL_PEER_UID_LO, R.CGL_PEER_UID_HI, R.CGL_HOME_LO, R.CGL_HOME_HI],
        decide (fv v R.CGL_CTRL_MODE ≤ 2) && decide (1 ≤ fv v R.CGL_CTRL_DEAD_TIME) &&
          (free || (same R.CGL_CTRL_MODE && same R.CGL_CTRL_ROLE && v64 v R.CGL_HOME_LO == s.g64 R.CGL_HOME_LO))⟩]
  | .drk => [⟨[R.DRK_CTRL, R.DRK_DELAY, R.DRK_PIN_QUAL] ++ (List.range 16).map R.DRK_PIN,
      (List.range 16).all (fun k => decide (fv v (R.DRK_PIN_FUNC k) ≤ 7)) &&
        decide (((List.range 16).filter (fun k => fv v (R.DRK_PIN_FUNC k) == 4)).length ≤ 1) && decide (1 ≤ fv v R.DRK_PIN_QUAL_QUAL)⟩]
  | .qtz => [⟨[R.QTZ_CTRL, R.QTZ_LIMITS],
      within 1 (fv v R.QTZ_LIMITS_SLEW_MAX) 1000 && decide (1 ≤ fv v R.QTZ_LIMITS_STEP_LIMIT)⟩]
  | .hqeArb => []
  | .onx => []
  | .spnBus => []
  | .jsp => []
  | .evl => []

/-- The slot checks of R218 for slot k in the configuration v. (log entry 48) -/
def slotOkFor (s : State) (v : Nat → Word) (k : Nat) : Bool :=
  let typ := fun j => fv v (R.BRL_SLOT_CFG_TYPE j)
  let on := fun j => fv v (R.BRL_SLOT_CFG_EN j) == 1
  let wd := (List.range 4).any (fun i => decide (v (R.BRL_SLOT_WD k i) ≠ 0#32))
  let alone := !on k || (List.range 96).all (fun j => j == k || !on j || typ j != typ k ||
    fv v (R.BRL_SLOT_CFG_STATION j) != fv v (R.BRL_SLOT_CFG_STATION k))
  let cfgs := (List.range 96).map (fun j =>
    if bitOf (s.g R.BRL_PIPE_SHED) (fv v (R.BRL_SLOT_CFG_STATION j)) = 1 then 0#32 else v (R.BRL_SLOT_CFG j))
  alone && (!on k || typ k != tyFOCUS || wd) && (fv v (R.BRL_SLOT_CFG_FF_EN k) == 0 || typ k == tyFOCUS || typ k == tyTRACK) &&
    decide (loadBound cfgs ≤ 1677)

/-- The check of a unit as a whole (R218). (log entry 48) -/
def unitOk (s : State) (v : Nat → Word) : UnitId → Bool
  | .brlSlot k => slotOkFor s v k
  | _ => true

/-- The configurable registers of a unit whose active, pending or staged value is listed; every other one has all its copies at the
reset value. -/
def unitRegs (s : State) (u : UnitId) : List Nat :=
  ((s.regs.map Prod.fst ++ s.pend.map Prod.fst ++ s.stag.map Prod.fst).eraseDups).filter (fun a => unitOf a == some u)

/-- A set is rejected (R50, R56, R492): the event, GLB_CFGREJ, and its members' marks. `how`: 0 strobe, 1 auto-apply, 2 transaction. (log entry 46) -/
def rejectSet (s : State) (grp how : Nat) (mem : List Nat) : State :=
  let s := { s with written := s.written.filter (fun a => !mem.contains a) }
  let s :=
    if s.on R.GLB_CFGREJ_VALID then s.u R.GLB_CFGREJ_OVERRUN 1
    else s.us [(R.GLB_CFGREJ_VALID, 1), (R.GLB_CFGREJ_GROUP, grp), (R.GLB_CFGREJ_ADDR, (mem.head?).getD 0)]
  (s.bump R.GLB_CFGREJ_COUNT).log 0x001 noStation [(s.rd R.GLB_CFGREJ).toNat, how]

/-- The configurable registers of a unit, for a unit that is rejected as a whole: it is named by its first register (R218). -/
def wholeUnit (s : State) : UnitId → List Nat
  | .brlSlot k => R.BRL_SLOT_CFG k :: (unitRegs s (.brlSlot k)).erase (R.BRL_SLOT_CFG k)
  | u => unitRegs s u

/-- GLB_APPLY_BUSY follows the strobes that wait, for a boundary or for the end of a transaction (R46, R364). -/
def refreshBusy (s : State) : State :=
  s.wr R.GLB_APPLY_BUSY (s.strobes.foldl (fun (w : Word) t => w ||| t.groups) s.grn.cfgWaits)

end Sys2Proof.Machine
end

