-- ==== Sys2Proof/Machine/Station.lean ====
section
/-!
DEFINITION. The meanings of the station's commands (chapter "Station Lifecycle"), and of the ADIP words it decodes (R70, R71).
What a mount finds on the disc is an operand of MOUNT_STEP_COMPLETE.
-/

namespace Sys2Proof.Machine

/-- ADIP_WORD_DECODE (R70, R71): the station's address, and what waits for one goes on. -/
def adipWordDecode (n : Fin 8) (arm : Fin 4) (newSlot : Bool) (w : BitVec 60) (s : State) : State :=
  let s := adipDecode n arm newSlot w s
  let nibs := (List.range 15).map (fun i => w.toNat / 16 ^ (14 - i) % 16)
  let s := match rsDecode gf16 6 nibs [] 0 with
    | some f => s.stnU n (fun x => { x with format := (f.word.head?).getD 0 })
    | none => s
  stnRun s n

def execAdipWordDecode (n : Fin 8) (arm : Fin 4) (newSlot : Bool) (w : BitVec 60) (s : State) :
    Host.Outcome State Fault Refusal := answer s (adipWordDecode n arm newSlot w)

/-- DISC_PRESENT_QUALIFIED (R276, R277, R281, R288, R295): the level has stayed stable since its first sample, `ago` ns ago; it qualifies once that
is DISC_QUAL. `img` is the pickup image that a mount reads (R300). A station reset of the same moment loads the disc in any case. Before
step 10 of start-up no station is brought up (R469). (log entry 28) -/
def discPresent (n : Fin 8) (level : Bool) (ago : Nat) (img : List Byte) (s : State) : State :=
  if ago < 1000000 * s.g (R.STN_MOUNT_DISC_QUAL n) then s
  else
  let was := s.on (R.STN_STATUS_DISC_PRESENT n)
  let s := s.u (R.STN_STATUS_DISC_PRESENT n) (b2n level)
  let st := stSt s n
  if level then
    if !was && st == stEMPTY && (s.on (R.STN_CFG_AUTO_MOUNT n) || (s.stn[n]).resetAt == some s.now) && s.sys.sysInit then startLoading s n img else s
  else if !was then s
  else if st = stLOADING ∨ st = stMOUNTING then startRelease s n false false
  else if st = stREJECTED then setSt (unmount s n) n stEMPTY
  else if st = stFAULTED then unmount s n
  else if st = stACTIVE ∨ st = stIDLE ∨ st = stPARKED then enterFaulted s n 6
  else s

def execDiscPresentQualified (n : Fin 8) (level : Bool) (ago : Nat) (img : List (BitVec 8)) (s : State) :
    Host.Outcome State Fault Refusal := answer s (discPresent n level ago img)

/-- STATION_MOUNT (R292). -/
def stationMount (n : Fin 8) (m : Master) (rivals : List Rival) (img : List Byte) (s : State) : State :=
  (stationOrder s n m 1 false img rivals).2

def execStationMount (n : Fin 8) (m : Master) (rivals : List Rival) (img : List (BitVec 8)) (s : State) :
    Host.Outcome State Fault Refusal := answer s (stationMount n m rivals img)

/-- STATION_RELEASE (R290, R291, R292). -/
def stationRelease (n : Fin 8) (m : Master) (retire : Bool) (rivals : List Rival) (s : State) : State :=
  (stationOrder s n m 2 retire [] rivals).2

def execStationRelease (n : Fin 8) (m : Master) (retire : Bool) (rivals : List Rival) (s : State) :
    Host.Outcome State Fault Refusal := answer s (stationRelease n m retire rivals)

/-- STATION_PARK (R285, R292). -/
def stationPark (n : Fin 8) (m : Master) (rivals : List Rival) (s : State) : State := (stationOrder s n m 3 false [] rivals).2

def execStationPark (n : Fin 8) (m : Master) (rivals : List Rival) (s : State) : Host.Outcome State Fault Refusal :=
  answer s (stationPark n m rivals)

/-- STATION_WAKE (R285, R292). -/
def stationWake (n : Fin 8) (m : Master) (rivals : List Rival) (s : State) : State := (stationOrder s n m 4 false [] rivals).2

def execStationWake (n : Fin 8) (m : Master) (rivals : List Rival) (s : State) : Host.Outcome State Fault Refusal :=
  answer s (stationWake n m rivals)

/-- STATION_OFFLINE (R290, R292, R294). (log entry 27) -/
def stationOffline (n : Fin 8) (m : Master) (retire : Bool) (rivals : List Rival) (s : State) : State :=
  (stationOrder s n m 5 retire [] rivals).2

def execStationOffline (n : Fin 8) (m : Master) (retire : Bool) (rivals : List Rival) (s : State) :
    Host.Outcome State Fault Refusal := answer s (stationOffline n m retire rivals)

/-- STATION_ONLINE (R276, R292). -/
def stationOnline (n : Fin 8) (m : Master) (rivals : List Rival) (img : List Byte) (s : State) : State :=
  (stationOrder s n m 6 false img rivals).2

def execStationOnline (n : Fin 8) (m : Master) (rivals : List Rival) (img : List (BitVec 8)) (s : State) :
    Host.Outcome State Fault Refusal := answer s (stationOnline n m rivals img)

/-- STATION_RESET (R289, R292). -/
def stationReset (n : Fin 8) (m : Master) (rivals : List Rival) (img : List Byte) (s : State) : State :=
  (stationOrder s n m 7 false img rivals).2

def execStationReset (n : Fin 8) (m : Master) (rivals : List Rival) (img : List (BitVec 8)) (s : State) :
    Host.Outcome State Fault Refusal := answer s (stationReset n m rivals img)

/-- LOADING_COMPLETE (R276, R278 step 2): the spindle in regulation, and the sled referenced and at MOUNT_POS. -/
def loadingComplete (n : Fin 8) (s : State) : State :=
  if stSt s n = stLOADING ∧ inReg s n ∧ s.on (R.SLD_STATUS_REFERENCED n) ∧ slSt s n = slIDLE ∧
      slPos s n = (s.g (R.STN_MOUNT_MOUNT_POS n) : Rat) ∧ !seqBusy s n then
    acquire ((setSt s n stMOUNTING).u (R.STN_STATUS_MOUNT_PHASE n) 2) n
  else s

def execLoadingComplete (n : Fin 8) (s : State) : Host.Outcome State Fault Refusal := answer s (loadingComplete n)

/-- The layers in the order in which their information is read (R278 step 4). -/
def layerOrder : List Nat := [15, 13, 11, 9, 7, 5, 3, 1, 0, 2, 4, 6, 8, 10, 12, 14]

/-- The first copy of a layer information record whose RECORD_CRC passes (R86). -/
def goodRecord (copies : List (List Byte)) : Option (List Byte) :=
  copies.find? (fun r => decide (r.length = 36 ∧ numBE ((r.drop 32).take 4) = crc32c (r.take 32)))

/-- The record of a layer goes to the calibration block, and its DISC_ID to the station (R86, R278 step 4). -/
def takeRecord (s : State) (n : Fin 8) (l : Nat) (copies : List (List Byte)) : State :=
  let set := fun (s : State) (d p : Nat) => s.calU n (fun c => { c with
    depth := c.depth.set! l d, power := c.power.set! l p })
  match goodRecord copies with
  | none => set s (nominalDepth l) 0
  | some r =>
    let part := fun (a k : Nat) => numBE ((r.drop a).take k)
    let s := (set s (part 14 2) (part 18 2)).u64 (R.STN_DISC_ID_LO n) (part 4 8)
    s.stnU n (fun x => { x with infoGood := x.infoGood ||| BitVec.ofNat 16 (2 ^ l) })

/-- Step 5 (R281): the disc's kind. After a device reset, a disc whose newest checkpoint bears the UID of this FY8C or of its partner is a MEMBER. -/
def discKind (s : State) (n : Fin 8) (blank : Bool) (writer : Option Nat) : Nat :=
  let x := s.stn[n]
  let id := discId s n
  let ours := writer == some Config.uid.toNat || (partnerUid s != 0 && writer == some (partnerUid s))
  if x.format ≠ 1 ∨ (bitOf x.infoGood.toNat 15 = 0 ∧ bitOf x.infoGood.toNat 0 = 0) then 4
  else if (discIndex s id).isSome || (!s.on R.GRN_STATUS_LOADED && ours) then 2
  else if blank then 1 else 3

/-- The sets of a station are marked not valid (R301, R311). -/
def invalidateSets (s : State) (n : Fin 8) : State :=
  s.each (List.range 16) (fun s l => s.each (List.range 8) (fun s t => s.u (R.CAL_SET0_VALID n l t) 0))

/-- The checkpoint chain of the disc that is mounted (R360): what is known of it since it was last mounted, in whichever station; of another
disc nothing is, and it receives a base next. -/
def takeChain (s : State) (n : Fin 8) (id : Nat) : State :=
  let c := (s.grn.chains.toList.find? (fun c => c.disc == id)).getD ⟨0, 0, true, [], id, [], []⟩
  { s with grn := { s.grn with chains := Vector.ofFn (fun (k : Fin 8) =>
      if k = n then c else if (s.grn.chains[k]).disc = id then ⟨0, 0, true, [], 0, [], []⟩ else s.grn.chains[k]) } }

/-- The kind is settled (R278 step 5): the mount goes on, or the disc is rejected. -/
def takeKind (s : State) (n : Fin 8) (blank : Bool) (writer : Option Nat) : State :=
  let k := discKind s n blank writer
  if k = 3 ∨ k = 4 then rejectDisc s n k
  else
    let id := discId s n
    let s := takeChain (s.us [(R.STN_STATUS_DISC_KIND n, k), (R.STN_STATUS_MOUNT_PHASE n, 6)]) n id
    if (s.cal[n]).disc = id then s
    else (invalidateSets s n).calU n (fun c => { c with disc := id, tests := [], loaded := none })

/-- Eight slots of an arm's fill sequence from one on (R282), the mark of a full arm ending it early. -/
def blankRun : Nat → Nat → List Nat
  | 0, _ => []
  | k + 1, p => if p = fullMark (pcaArm p) then [] else p :: blankRun k (nextFront p)

/-- The written frontier of an arm (R282): the first slot, at or after the recorded one, of a run of 8 blank slots or of one that
reaches the end of the sequence. -/
def frontierOf (start : Nat) (written : List Nat) : Nat :=
  let ok := fun (c : Nat) => decide (frontKey start ≤ frontKey c) && (blankRun 8 c).all (fun p => !written.contains p)
  ((start :: written.map nextFront).filter ok).foldl (fun best p => if frontKey p < frontKey best then p else best)
    (fullMark (pcaArm start))

/-- The written frontier of an arm in a map zone that begins at slot `first` (R282): the first slot of a run of 8 blank slots, or of one that
reaches the end of the zone; past the zone where there is none. -/
def mapFrontierOf (first : Nat) (written : List Nat) : Nat :=
  let ok := fun (c : Nat) => decide (first ≤ c ∧ c < first + 1024) &&
    (List.range 8).all (fun i => decide (first + 1024 ≤ c + i) || !written.contains (c + i))
  ((first :: written.map (· + 1)).filter ok).foldl min (first + 1024)

/-- The search of R282: the frontier of each arm, those of the map zones and the first blank test slots. -/
def searchFronts (s : State) (n : Fin 8) (written : List (List Nat)) (maps : List (Nat × List Nat)) (tests : List (Nat × Nat)) : State :=
  let rec0 : Fin 4 → Nat := fun m => match (discIndex s (discId s n)).bind (fun i => smGet s.grn.entries i) with
    | some (.disc e) => e.front[m]
    | _ => mkPca 0 m.val 0 dataFirst
  let s := s.stnU n (fun x => { x with
    research := false
    fronts := Vector.ofFn (fun m => some (frontierOf (rec0 m) ((written[m.val]?).getD []))) })
  let mapFronts := maps.foldl (fun (f : SMap Nat) p => smPut f p.1 (mapFrontierOf (if p.1 / 4 % 2 = 1 then dataEnd else 0) p.2)) []
  let s := { s with grn := { s.grn with chains := vmod s.grn.chains n (fun c => { c with fronts := mapFronts }) } }
  s.calU n (fun c => { c with tests := tests.foldl (fun t p => smPut t p.1 p.2) c.tests })

/-- Step 6 (R278, R282): the frontier of each arm; the station goes to it, and the frontier layer is calibrated (step 7). -/
def takeFronts (s : State) (n : Fin 8) (written : List (List Nat)) (maps : List (Nat × List Nat)) (tests : List (Nat × Nat)) : State :=
  let s := searchFronts s n written maps tests
  let s := match workSlot s n with
    | some p => let (t, s) := stepsOf (toLayer s n (workLayer s n)) n (radiusOf p); mountMove s n t
    | none => s
  if stSt s n = stMOUNTING then calRaise (s.u (R.STN_STATUS_MOUNT_PHASE n) 7) n (workLayer s n) true else s

/-- A station whose disc's recorded frontiers were lost has searched them again (R323); what it holds encoded is encoded for the slots that come
next. -/
def searchAgain (s : State) (n : Fin 8) (i : MountIn) : State :=
  match i with
  | .fronts written maps tests =>
    if (s.stn[n]).research && mounted s n then recordFronts (recallAll (searchFronts s n written maps tests) n) n else s
  | _ => s

/-- Step 7 has ended: once the sled has come to rest gearing engages, and the station is ACTIVE (R278). A limit switch that keeps it from engaging
makes the step fail. A checkpoint that is due for the ceilings goes to it (R363). -/
def mountDone (s : State) (n : Fin 8) : State :=
  let s := engageAt s n (workLayer s n)
  if slSt s n = slIDLE ∧ s.on (R.SPN_STATUS_ANGLE_VALID n) then mountFails s n
  else if slSt s n ≠ slGEARED then s
  else
    let s := (setSt (s.u (R.STN_STATUS_MOUNT_PHASE n) 0) n stACTIVE).bump (R.STN_CNT_MOUNTS n)
    if s.grn.ceilingDue then ceilingCkpt (s.grnU (fun g => { g with ceilingDue := false })) else s

/-- The failure of a sequence during the mount. -/
def seqFailedNow (s : State) (n : Nat) : Bool := seqSt s n == sqIDLE && s.on (R.BRL_STN_SEQ_STATUS_FAILED n)

/-- The sled is homed because it could not be referenced by an address; where that has been tried already, the sled cannot be
referenced (R279). -/
def homeInstead (s : State) (n : Fin 8) : State :=
  if (s.stn[n]).homed then enterFaulted s n 7
  else
    let s := slCommand (seqStopNow (s.u (R.BRL_STN_SEQ_STATUS_FAILED n) 0) n) n 4 false
    (s.stnU n (fun x => { x with homed := true })).u (R.STN_STATUS_MOUNT_PHASE n) 1

/-- Step 3 begins (R278): addresses accepted before do not count. Its 50 ms have run since focus lock. -/
def addressStep (s : State) (n : Fin 8) : State :=
  (s.u (R.STN_STATUS_MOUNT_PHASE n) 3).stnU n (fun x => { x with adip := Vector.replicate 4 ⟨none, [], none⟩ })

/-- Where the sled stands to read the k-th layer information (R278 step 4). -/
def layerPos (s : State) (n k : Nat) : Int := (s.g (R.STN_MOUNT_MOUNT_POS n) : Int) - (if k < 8 then 0 else 3345)

/-- A step of LOADING (R278 step 1, R279). -/
def loadingStep (s : State) (n : Fin 8) : State :=
  let ph := s.g (R.STN_STATUS_MOUNT_PHASE n)
  let pos : Int := s.g (R.STN_MOUNT_MOUNT_POS n)
  if ph = 1 then
    if s.on (R.SLD_STATUS_REFERENCED n) then
      if slPos s n ≠ (pos : Rat) then mountMove s n pos else s
    else if slSt s n = slUNREF ∧ inReg s n ∧ !seqBusy s n then acquire (s.u (R.STN_STATUS_MOUNT_PHASE n) 2) n else s
  else if ph = 2 then
    if onTrack s n then addressStep s n
    else if seqFailedNow s n then homeInstead s n else s
  else if ph = 3 then
    match acceptedB0 s n with
    | none => s
    | some p =>
      let s := setPosAt (identify s n p) n p
      mountMove (s.u (R.STN_STATUS_MOUNT_PHASE n) 1) n pos
  else s

/-- A step of MOUNTING (R278 steps 2 to 7). -/
def mountingStep (s : State) (n : Fin 8) (i : MountIn) : State :=
  let ph := s.g (R.STN_STATUS_MOUNT_PHASE n)
  let k := (s.stn[n]).layersRead
  if (s.stn[n]).task = .toReject then s
  else if seqFailedNow s n then mountFails s n
  else if ph = 2 then if onTrack s n then addressStep s n else s
  else if ph = 3 then
    match acceptedB0 s n with
    | none => s
    | some p => toLayer ((identify s n p).u (R.STN_STATUS_MOUNT_PHASE n) 4) n 15
  else if ph = 4 then
    match i, layerOrder[k]? with
    | .layer copies, some l =>
      if slSt s n = slIDLE ∧ slPos s n ≠ (layerPos s n k : Rat) then mountMove s n (layerPos s n k)
      else if !onTrack s n || slSt s n != slIDLE || s.g (R.BRL_STN_SEQ_STATUS_LAYER n) != l then s
      else
        let s := (takeRecord s n l copies).stnU n (fun x => { x with layersRead := k + 1 })
        match layerOrder[k + 1]? with
        | some l => (toLayer s n l).whenB (k == 7) (fun s => mountMove s n (layerPos s n 8))
        | none => s.u (R.STN_STATUS_MOUNT_PHASE n) 5
    | _, _ => s
  else if ph = 5 then
    match i with
    | .kind blank writer => takeKind s n blank writer
    | _ => s
  else if ph = 6 then
    match i with
    | .fronts written maps tests => if s.on R.GRN_STATUS_LOADED then takeFronts s n written maps tests else s
    | _ => s
  else if ph = 7 then
    if (s.cal[n]).run.isNone ∧ !(s.cal[n]).pend.any (fun p => p.now) ∧ onTrack s n ∧ (s.stn[n]).task = .none then mountDone s n else s
  else s

/-- MOUNT_STEP_COMPLETE (R278, R279, R281, R282); on a mounted station the end of a frontier search that R323 asks for. -/
def mountStep (n : Fin 8) (i : MountIn) (s : State) : State :=
  if stSt s n = stLOADING then loadingStep s n else if stSt s n = stMOUNTING then mountingStep s n i
  else searchAgain s n i

def execMountStepComplete (n : Fin 8) (i : MountIn) (s : State) : Host.Outcome State Fault Refusal := answer s (mountStep n i)

/-- ADDRESS_TIMEOUT (R278 step 3, R279): no address was accepted within 50 ms. -/
def addressTimeout (n : Fin 8) (s : State) : State :=
  let x := s.stn[n]
  if s.g (R.STN_STATUS_MOUNT_PHASE n) ≠ 3 ∨ (acceptedB0 s n).isSome ∨ s.now < x.since + 50000000 then s
  else if stSt s n = stLOADING then homeInstead s n
  else if stSt s n ≠ stMOUNTING ∨ !onTrack s n then s
  else if x.tryLayer = 0 then rejectDisc (s.u (R.STN_STATUS_MOUNT_PHASE n) 5) n 4
  else awaitAddress (toLayer (s.stnU n (fun x => { x with tryLayer := x.tryLayer - 1 })) n (x.tryLayer - 1)) n

def execAddressTimeout (n : Fin 8) (s : State) : Host.Outcome State Fault Refusal := answer s (addressTimeout n)

/-- SPINDLE_STOPPED (R276, R284, R288, R294). -/
def spindleStopped (n : Fin 8) (s : State) : State :=
  let st := stSt s n
  let x := s.stn[n]
  if spSt s n ≠ spSTOPPED then s
  else if st = stRELEASING then if x.task = .toRelease then s else releaseDone s n
  else if x.task = .toReject then rejectDisc s n (s.g (R.STN_STATUS_DISC_KIND n))
  else if x.task = .toPark ∧ st = stIDLE then setSt (s.stnU n (fun x => { x with task := .none })) n stPARKED
  else if st = stFAULTED then faultedRest s n
  else if st = stOFFLINE then refreshSafe s n else s

def execSpindleStopped (n : Fin 8) (s : State) : Host.Outcome State Fault Refusal := answer s (spindleStopped n)

/-- T_SPIN_EXPIRY (R284, R285, R308). -/
def tSpinExpiry (n : Fin 8) (s : State) : State :=
  let x := s.stn[n]
  let t := s.g (R.STN_IDLE_T_SPIN n)
  if stSt s n ≠ stACTIVE ∨ t = 0 ∨ hasWork s n ∨ x.task ≠ .none ∨ (s.cal[n]).run.isSome ∨ s.now < x.idleFrom + t * 1000000000
  then s else goIdle s n

def execTSpinExpiry (n : Fin 8) (s : State) : Host.Outcome State Fault Refusal := answer s (tSpinExpiry n)

/-- T_PARK_EXPIRY (R284, R285). -/
def tParkExpiry (n : Fin 8) (s : State) : State :=
  let x := s.stn[n]
  let t := s.g (R.STN_IDLE_T_PARK n)
  if stSt s n ≠ stIDLE ∨ t = 0 ∨ hasWork s n ∨ x.task ≠ .none ∨ s.now < x.idleFrom + t * 1000000000 then s else goPark s n

def execTParkExpiry (n : Fin 8) (s : State) : Host.Outcome State Fault Refusal := answer s (tParkExpiry n)

/-- WORK_ARRIVES (R285). -/
def workArrives (n : Fin 8) (s : State) : State :=
  if hasWork s n then goPlace (wake s n) n else s

def execWorkArrives (n : Fin 8) (s : State) : Host.Outcome State Fault Refusal := answer s (workArrives n)

end Sys2Proof.Machine
end

