-- ==== Sys2Proof/Machine/Cal.lean ====
section
/-!
DEFINITION. The meanings of the calibration's commands (chapter "Calibration"), and the figures a lane publishes at the end of
a cluster (R113), which calibration and power control (R168) work from.
-/

namespace Sys2Proof.Machine

/-- Running power control (R168): one step of the offset. In units of 2⁻²³ / 1000 of the base the change is exact. The powers go out with
AT_NEXT = 1; a beam on the way to a new base keeps the words of that base, which starts with an offset of 0. While the
ladder of a calibration is written its powers stand (R305 step 4). (log entry 32) -/
def powerControl (s : State) (n : Fin 8) (m : Fin 4) (asym : Int) : State :=
  if (!s.on (R.WRS_CTRL_PC_EN n)) || (s.cal[n]).run.any ladderRuns then s
  else
    let raw := -((s.g (R.WRS_PC_GAIN n) : Int) * (asym - s.gi (R.WRS_PC_ASYM_TARGET n)) * 1000)
    let step := clampI (-(2 ^ 23 * 10)) (2 ^ 23 * 10) raw
    let lim : Int := 2 ^ 23 * s.g (R.WRS_PC_LIMIT n)
    let off := clampI (-lim) lim ((s.beam n m).offset + step)
    let s := s.beamU n m (fun b => { b with offset := off })
    let s := if off = lim ∨ off = -lim then
        s.u (R.WRS_STATUS_PC_LIMIT n) (Nat.lor (s.g (R.WRS_STATUS_PC_LIMIT n)) (2 ^ m.val)) else s
    let s := livePower (beamView s n m) s n m
    if !(s.beam n m).due then sendPowers s n m true
    else if (toldView s n).g (R.WRS_PW_PW n m) ≠ (beamView s n m).g (R.WRS_PW_PW n m) then s
    else
      let v := toldView s n
      sendLevels (livePower v v n m) s n m [0, 1, 2, 3, 4] true

/-- The quality trigger (R307): MARGIN_MEAN of a verify lane below MARGIN_TRIG for 16 clusters running, or PC_LIMIT set. -/
def qualityTrigger (s : State) (n : Fin 8) (m : Fin 4) (mean : Option Nat) : State :=
  let low := match mean with
    | some v => if v < s.g R.CAL_CTRL_MARGIN_TRIG then (s.cal[n]).low[m] + 1 else 0
    | none => (s.cal[n]).low[m]
  let s := s.calU n (fun c => { c with low := vmod c.low m (fun _ => low) })
  if s.on R.CAL_CTRL_QUALITY_EN ∧ (16 ≤ low ∨ s.g (R.WRS_STATUS_PC_LIMIT n) ≠ 0) then calRaise s n (workLayer s n) false else s

/-- The counts and figures of the cluster under way start again (R113), with the frame at which a locked lane goes on. -/
def figuresReset (s : State) (l : Fin 68) : State :=
  s.laneU l (fun x => { x with
    sawResync := false, erased := 0, marginSum := 0, marginMin := 255, halves := 0, resynced := false
    dsp := figuresFrom (if locked s l && !x.awaitSlot && !x.starting then some x.pred else x.dsp.figFrom) x.dsp })

/-- The asymmetry of R113 from the sums of levels of a cluster, marks and spaces of 5T or longer and of 1T and 2T, in Q1.15. Where one of them
did not occur, or s_L equals m_L, the spec states no result, and the figure is a free value; one outside Q1.15 saturates. (log entry 74) -/
def asymmetry (s : State) (sums : List (Int × Nat)) : Int × State :=
  let mean := fun (i : Nat) => let p := (sums[i]?).getD (0, 0); ((p.1 : Rat) / (p.2 : Rat), p.2)
  let (mL, nmL) := mean 0
  let (sL, nsL) := mean 1
  let (mS, nmS) := mean 2
  let (sS, nsS) := mean 3
  if nmL = 0 ∨ nsL = 0 ∨ nmS = 0 ∨ nsS = 0 ∨ sL = mL then (toSigned 16 (s.freeVal % 65536), s.tick)
  else
    let (a, s) := s.quantR (((mL + sL) - (mS + sS)) / (2 * (sL - mL)) * 32768)
    (clampI (-32768) 32767 a, s)

/-- The means of the taps over a cluster (R113), in OPL_EQ_LIVE0 to OPL_EQ_LIVE7. -/
def liveTaps (s : State) (l : Fin 68) (x : Dsp) : State :=
  s.each (List.range 15) (fun s i =>
    let (v, s) := s.quant ((x.tapSum[i]?).getD 0) (max 1 x.tapN : Nat)
    if i % 2 = 0 then s.ui (R.OPL_EQ_LIVE_TAP_LO l.val (i / 2)) v else s.ui (R.OPL_EQ_LIVE_TAP_HI l.val (i / 2)) v)

/-- CLUSTER_STATISTICS (R113): the lane publishes its figures, or withholds them after a resynchronisation or more than 32 erased frames; they are
withheld in the same way where no half-frame margin was taken, a case the spec does not name. A verify lane's asymmetry steps the power control of
its beam (R168). (log entry 74) -/
def clusterStatistics (l : Fin 68) (s : State) : State :=
  let x := s.lanes[l]
  if s.g (R.OPL_MODE_MODE l.val) = 0 then s
  else if x.sawResync ∨ 32 < x.erased ∨ x.halves = 0 then
    figuresReset (s.us [(R.OPL_QUALITY_VALID l.val, 0), (R.OPL_ASYM_VALID l.val, 0)]) l
  else
    let (mean, s) := s.quant (x.marginSum : Int) (x.halves : Int)
    let (a, s) := asymmetry s x.dsp.sums
    let s := s.us [(R.OPL_QUALITY_VALID l.val, 1), (R.OPL_QUALITY_MARGIN_MEAN l.val, mean.toNat),
      (R.OPL_QUALITY_MARGIN_MIN l.val, x.marginMin), (R.OPL_ASYM_VALID l.val, 1), (R.OPL_ASYM_ASYM l.val, ofSigned 16 a)]
    let s := figuresReset (liveTaps s l x.dsp) l
    match laneBeam s l with
    | some (n, m, true) => qualityTrigger (powerControl s n m a) n m (some mean.toNat)
    | _ => s

def execClusterStatistics (l : Fin 68) (s : State) : Host.Outcome State Fault Refusal :=
  answer s (clusterStatistics l)

/-- The temperature trigger (R307). -/
def tempTrigger (s : State) (n : Fin 8) : State :=
  match (s.cal[n]).loaded with
  | some t =>
    if s.on R.CAL_CTRL_TEMP_EN ∧ mounted s n ∧ 64 * s.g R.CAL_TRIG_DELTA_T < 10 * (pickupTemp s n - t).natAbs then
      calRaise s n (workLayer s n) false else s
  | none => s

/-- PICKUP_TEMP_READ (R302): a good reading, Q10.6, or a failed one; after three failures running the port sensor serves. -/
def pickupTempRead (n : Fin 8) (v : Option Int) (s : State) : State :=
  match v with
  | some t =>
    tempTrigger ((s.us [(R.CAL_TEMP_TEMP n, ofSigned 16 t), (R.CAL_TEMP_VALID n, 1), (R.CAL_TEMP_SOURCE n, 0)]).calU n
      (fun c => { c with badReads := 0 })) n
  | none =>
    let s := s.calU n (fun c => { c with badReads := min 3 (c.badReads + 1) })
    if (s.cal[n]).badReads < 3 then s
    else
      let k := if n.val < 4 then 5 else 6
      tempTrigger (s.us [(R.CAL_TEMP_TEMP n, s.g (R.GLB_TEMP_VALUE k)), (R.CAL_TEMP_VALID n, s.g (R.GLB_TEMP_VALID k)),
        (R.CAL_TEMP_SOURCE n, 1)]) n

def execPickupTempRead (n : Fin 8) (v : Option Int) (s : State) : Host.Outcome State Fault Refusal :=
  answer s (pickupTempRead n v)

/-- Quartz time in seconds, modulo 2³² (R311). -/
def nowSeconds (s : State) : Nat := s.now / 1000000000 % 2 ^ 32

/-- CALIBRATION_INTERVAL (R307): INTERVAL minutes since the newest set of the working layer. -/
def calibrationInterval (n : Fin 8) (s : State) : State :=
  let layer := workLayer s n
  let ages := ((List.range 8).filter (fun t => s.on (R.CAL_SET0_VALID n layer t))).map
    (fun t => (nowSeconds s + 2 ^ 32 - s.g (R.CAL_SET7_TIME n layer t)) % 2 ^ 32)
  if s.on R.CAL_CTRL_INTERVAL_EN ∧ ages ≠ [] ∧ ages.all (fun a => decide (60 * s.g R.CAL_TRIG_INTERVAL ≤ a)) then
    calRaise s n layer false else s

def execCalibrationInterval (n : Fin 8) (s : State) : Host.Outcome State Fault Refusal := answer s (calibrationInterval n)

/-- CALIBRATION_START (R308): a pending calibration that may start now starts. -/
def calibrationStart (n : Fin 8) (s : State) : State :=
  match calReady s n with
  | some p => calStart s n p
  | none => s

def execCalibrationStart (n : Fin 8) (s : State) : Host.Outcome State Fault Refusal := answer s (calibrationStart n)

/-- CALIBRATION_DEFER_EXPIRY (R308): MAX_DEFER seconds have passed on an ACTIVE station; the calibration runs at the next cluster
boundary, which may be now. -/
def calibrationDeferExpiry (n : Fin 8) (s : State) : State :=
  if stSt s n ≠ stACTIVE then s
  else
    let old := fun (p : CalPend) => decide (p.since + s.g R.CAL_TRIG_MAX_DEFER * 1000000000 ≤ s.now)
    let s' := s.calU n (fun c => { c with pend := c.pend.map (fun p => if old p then { p with now := true } else p) })
    stnBoundary s' n

def execCalibrationDeferExpiry (n : Fin 8) (s : State) : Host.Outcome State Fault Refusal := answer s (calibrationDeferExpiry n)

/-- The beams whose results count in a calibration. -/
def calBeams (r : CalRun) : List (Fin 4) := beams.filter (fun m => bitOf r.beams m.val == 1)

/-- The mean of the figures that exist (R297). -/
def calMean (l : List (Option Rat)) : Option Rat :=
  let v := l.filterMap (fun x => x)
  if v.isEmpty then none else some (v.foldl (· + ·) 0 / (v.length : Rat))

/-- A published tap of a lane, Q2.14. -/
def liveTap (s : State) (l : Fin 68) (i : Nat) : Int :=
  if i % 2 = 0 then s.gi (R.OPL_EQ_LIVE_TAP_LO l.val (i / 2)) else s.gi (R.OPL_EQ_LIVE_TAP_HI l.val (i / 2))

/-- The figures of the cluster just read or written (R297): means over the lanes that published them. -/
def takeFigure (s : State) (n : Fin 8) (r : CalRun) : CalFig :=
  let data := ((calBeams r).map (fun m => workLane s n m false)).filter (fun l => s.on (R.OPL_QUALITY_VALID l.val))
  let tilt := fun (l : Fin 68) => if liveTap s l 7 = 0 then none
    else some (((liveTap s l 6 - liveTap s l 8 : Int) : Rat) / ((liveTap s l 7 : Int) : Rat))
  { margin := calMean (data.map (fun l => some ((s.g (R.OPL_QUALITY_MARGIN_MEAN l.val) : Nat) : Rat)))
    tilt := calMean (data.map tilt)
    taps := if data.isEmpty then none else
      some ((List.range 15).map (fun i => (calMean (data.map (fun l => some ((liveTap s l i : Int) : Rat)))).getD 0))
    asym := Vector.ofFn (fun (m : Fin 4) =>
      let l := workLane s n m true
      if bitOf r.beams m.val = 1 ∧ s.on (R.OPL_ASYM_VALID l.val) then some (s.gi (R.OPL_ASYM_ASYM l.val)) else none) }

/-- The best point of a pass: its index and its figure, the lowest index of equal ones. -/
def bestPoint (l : List (Option Rat)) : Option (Nat × Rat) :=
  l.zipIdx.foldl (fun (best : Option (Nat × Rat)) p => match p.1, best with
    | some v, some b => if b.2 < v then some (p.2, v) else some b
    | some v, none => some (p.2, v)
    | none, b => b) none

/-- The vertex of the parabola through the best grid point and its two neighbours (R297), in grid steps from the first point; the
grid end, with the edge flag, where it falls outside (R298). Where the figures fix no vertex the spec states no value: a free
value on the grid. (log entry 17) -/
def vertexOf (s : State) (l : List (Option Rat)) : Rat × Bool × State :=
  let free := (((s.freeVal % 8193 : Nat) : Rat) * ((l.length - 1 : Nat) : Rat) / 8192, false, s.tick)
  match bestPoint l with
  | none => free
  | some (i, b) =>
    if i = 0 then (0, true, s)
    else if i + 1 = l.length then ((i : Rat), true, s)
    else match (l[i - 1]?).getD none, (l[i + 1]?).getD none with
      | some a, some c => if a - 2 * b + c = 0 then free else ((i : Rat) + (a - c) / (2 * (a - 2 * b + c)), false, s)
      | _, _ => free

/-- The zero crossing of the tilt figures (R297, R298), in grid steps from the first point. (log entry 17) -/
def crossingOf (s : State) (l : List (Option Rat)) : Rat × Bool × State :=
  let free := (((s.freeVal % 8193 : Nat) : Rat) * ((l.length - 1 : Nat) : Rat) / 8192, false, s.tick)
  let cross := (List.range (l.length - 1)).findSome? (fun (i : Nat) => match (l[i]?).getD none, (l[i + 1]?).getD none with
    | some a, some b => if a = 0 then some (i : Rat) else if b = 0 then some ((i : Rat) + 1)
      else if a * b < 0 then some ((i : Rat) + a / (a - b)) else none
    | _, _ => none)
  match cross with
  | some x => (x, false, s)
  | none =>
    match (l.head?).getD none, (l.getLast?).getD none with
    | some a, some b =>
      let aa := if a < 0 then -a else a
      let bb := if b < 0 then -b else b
      if aa < bb then (0, true, s) else if bb < aa then (((l.length - 1 : Nat) : Rat), true, s)
      else (if s.freeVal % 2 = 0 then 0 else ((l.length - 1 : Nat) : Rat), true, s.tick)
    | _, _ => free

/-- A grid point as a set-point: `x` steps from the first point, `half` steps below the loaded value. -/
def gridValue (loaded : Int) (x : Rat) (half step : Nat) : Rat := (loaded : Rat) + (x - (half : Rat)) * ((2048 * step : Nat) : Rat)

/-- Step sizes of the grid (R311). -/
def saStep (r : CalRun) : Nat := getF r.grid R.CAL_GRID_SA_STEP
def focusStep (r : CalRun) : Nat := getF r.grid R.CAL_GRID_FOCUS_STEP
def tiltStep (r : CalRun) : Nat := getF r.grid R.CAL_GRID_TILT_STEP
def ladderStep (r : CalRun) : Nat := getF r.grid R.CAL_GRID_LADDER

/-- Set a value for a pass. -/
def putPoint (s : State) (n : Fin 8) (typ : Nat) (v : Rat) : State :=
  let (q, s) := s.quantR v
  writeOffset s n typ (sat24 q)

/-- Read pass i of 13 begins (R305 step 3): its values are set, and the station jumps one turn against the track direction. -/
def startPass (s : State) (n : Fin 8) (r : CalRun) (i : Nat) : State :=
  let s := if i < 5 then putPoint s n tySA (gridValue r.sa i 2 (saStep r))
    else if i < 10 then putPoint (putPoint s n tySA r.newSa) n tyFOCUS (gridValue r.focus ((i - 5 : Nat) : Rat) 2 (focusStep r))
    else putPoint (putPoint s n tyFOCUS r.newFocus) n tyTILT (gridValue r.tilt ((i - 10 : Nat) : Rat) 1 (tiltStep r))
  seqCommand s n 2 (if r.layer % 2 = 0 then -1 else 1)

/-- The power of ladder point k of a beam (R305 step 4), capped at PW_MAX (R298). -/
def ladderPower (s : State) (n : Fin 8) (r : CalRun) (m : Fin 4) (k : Nat) : Rat :=
  min ((s.g (R.WRS_LIMIT_PW_MAX n) : Nat) : Rat)
    (((r.pw[m] : Nat) : Rat) * ((200 + (2 * (k : Int) - 3) * (ladderStep r : Int) : Int) : Rat) / 200)

/-- Queue one TEST cluster for each writing beam, for the next test slot of its arm (R67, R305). The spec does not say what
the pattern is: its bytes are a free value. Fields of its header for which R83 names no value are 0. (log entries 31, 80) -/
def queueTests (s : State) (n : Fin 8) (r : CalRun) : State :=
  s.each (calBeams r) (fun s m =>
    let h : Hdr := ⟨7, 0xFFFF, 0, 0, 0, 0, 0, 0, 0, 0, 0, userBytes, false, false, false, 0xFFFFFFFF, 0xFF, none⟩
    queueJob s.tick n ⟨.test, false, h, m.val, bytesLE userBytes s.freeVal, 0, none, r.layer, if r.outer then 3 else 1⟩ false)

/-- Ladder point k begins (R305 step 4). -/
def startLadder (s : State) (n : Fin 8) (r : CalRun) (k : Nat) : State :=
  let s := s.each (calBeams r) (fun s m =>
    let (v, s) := s.quantR (ladderPower s n r m k)
    sendPowers (s.u (R.WRS_PW_LIVE_PW n m.val) v.toNat) n m false)
  queueTests s n r

/-- The new values of a calibration are put in force (R305 step 4). -/
def inForce (s : State) (n : Fin 8) (r : CalRun) : State :=
  writeOffset (writeOffset (writeOffset s n tySA r.newSa) n tyFOCUS r.newFocus) n tyTILT r.newTilt

/-- The least-squares line through the ladder points of a beam reaches ASYM_TARGET (R297, R298): the power, and whether it lies at a
ladder end; none: the fit fails. (log entry 17) -/
def ladderFit (s : State) (n : Fin 8) (r : CalRun) (m : Fin 4) : Option (Rat × Bool) :=
  let pts : List (Rat × Rat) := ((r.figs.drop 13).take 4).zipIdx.filterMap (fun p =>
    (p.1.asym[m]).map (fun a => (ladderPower s n r m p.2, ((a : Int) : Rat))))
  let cnt : Rat := (pts.length : Nat)
  let mx := (pts.map Prod.fst).foldl (· + ·) 0 / cnt
  let my := (pts.map Prod.snd).foldl (· + ·) 0 / cnt
  let sxx := (pts.map (fun p => (p.1 - mx) * (p.1 - mx))).foldl (· + ·) 0
  let sxy := (pts.map (fun p => (p.1 - mx) * (p.2 - my))).foldl (· + ·) 0
  if pts.length < 3 ∨ sxx = 0 ∨ sxy ≤ 0 then none
  else
    let x := mx + ((s.gi (R.WRS_PC_ASYM_TARGET n) : Rat) - my) * sxx / sxy
    let lo := ladderPower s n r m 0
    let hi := ladderPower s n r m 3
    some (clampR lo hi x, decide (x < lo ∨ hi < x))

/-- The base powers a calibration chooses (R297, R298): power by beam, edge bits, fit failures. -/
def fitPowers (s : State) (n : Fin 8) (r : CalRun) : Vector Nat 4 × Nat × Nat × State :=
  (calBeams r).foldl (fun (acc : Vector Nat 4 × Nat × Nat × State) m =>
    let (pw, edge, bad, t) := acc
    match ladderFit t n r m with
    | some (x, e) =>
      let (v, t) := t.quantR x
      (vmod pw m (fun _ => capPower t n v.toNat), edge + b2n e * 2 ^ m.val, bad, t)
    | none => (pw, edge + 2 ^ m.val, bad + 2 ^ m.val, t)) (r.pw.map (capPower s n), 0, 0, s)

/-- The focus point nearest the chosen value (R297): its figures give the starting taps. -/
def chosenFigure (r : CalRun) : CalFig :=
  let far := fun (i : Nat) => let d := gridValue r.focus (i : Rat) 2 (focusStep r) - ((r.newFocus : Int) : Rat)
    if d < 0 then -d else d
  let i := [1, 2, 3, 4].foldl (fun best j => if far j < far best then j else best) 0
  (r.figs[5 + i]?).getD ⟨none, none, none, Vector.replicate 4 none⟩

/-- MARGIN of a set (R310): the mean margin at the chosen SA and focus values, at which the tilt passes are read. Where every figure of theirs is
withheld the spec states no value: a free value. (log entry 17) -/
def chosenMargin (s : State) (r : CalRun) : Nat × State :=
  match calMean (((r.figs.drop 10).take 3).map CalFig.margin) with
  | some v => let (q, s) := s.quantR v; (min 255 q.toNat, s)
  | none => (s.freeVal % 256, s.tick)

/-- A set word that the driver writes in the very cycle in which CAL stores it keeps the driver's value (R309). -/
def driverStands (s : State) (n : Fin 8) : State :=
  if (s.cal[n]).wroteAt = s.now then s.each (s.cal[n]).wrote (fun s p => s.wr p.1 p.2) else s

/-- Store the starting taps of a layer (R297, R311). -/
def storeTaps (s : State) (n layer : Nat) (taps : List Rat) : State :=
  s.each (List.range 15) (fun s i =>
    let (v, s) := s.quantR ((taps[i]?).getD 0)
    let v := ofSigned 16 (clampI (-32768) 32767 v)
    if i % 2 = 0 then s.u (R.CAL_TAP_TAP_LO n layer (i / 2)) v else s.u (R.CAL_TAP_TAP_HI n layer (i / 2)) v)

/-- Step 5 (R305): the results are fitted, stored in the slot nearest the measured temperature (R301), loaded for the working layer
(R304), and CAL_DONE is logged. -/
def calStore (s : State) (n : Fin 8) (r : CalRun) : State :=
  let (pw, pEdge, bad, s) := fitPowers s n r
  let t := nearSlot s n r.tempset
  let l := r.layer
  let fig := chosenFigure r
  let (mg, s) := chosenMargin s r
  let s := s.us [(R.CAL_SET0_FOCUS n l t, ofSigned 24 r.newFocus), (R.CAL_SET0_VALID n l t, 1),
    (R.CAL_SET1_TILT n l t, ofSigned 24 r.newTilt), (R.CAL_SET2_SA n l t, ofSigned 24 r.newSa),
    (R.CAL_SET3_PW_B0 n l t, pw[0]), (R.CAL_SET3_PW_B1 n l t, pw[1]), (R.CAL_SET4_PW_B2 n l t, pw[2]),
    (R.CAL_SET4_PW_B3 n l t, pw[3]), (R.CAL_SET5_SPEED_SEL n l t, s.g (R.SPN_CTRL_SPEED_SEL n)),
    (R.CAL_SET5_TEMP n l t, s.g (R.CAL_TEMP_TEMP n)), (R.CAL_SET6_POWER_EDGE n l t, pEdge),
    (R.CAL_SET6_TILT_EDGE n l t, bitOf r.edges 2), (R.CAL_SET6_FOCUS_EDGE n l t, bitOf r.edges 1),
    (R.CAL_SET6_SA_EDGE n l t, bitOf r.edges 0), (R.CAL_SET6_MARGIN n l t, mg), (R.CAL_SET7_TIME n l t, nowSeconds s)]
  let s := match fig.taps with
    | some taps => storeTaps s n l taps
    | none => s
  let s := driverStands s n
  let s := if l = workLayer s n then calLoad s n l else s
  let result := if bad ≠ 0 then 2 else if r.edges ≠ 0 ∨ pEdge ≠ 0 then 1 else 0
  logCalDone (s.bump R.CAL_CNT_RUNS) n l result t

/-- The calibration goes to a step. -/
def calStep (s : State) (n : Fin 8) (r : CalRun) (k : Nat) : State :=
  s.calU n (fun c => { c with run := some { r with step := k } })

/-- The TEST clusters of a step are written: none is queued, encoded or being written. -/
def testsDone (s : State) (n : Fin 8) : Bool :=
  s.g (R.WRS_STATUS_WRITING n) == 0 && !(s.wrs[n]).queue.any (fun j => j.kind == .test) &&
    beams.all (fun m => (s.beam n m).enc.isNone)

/-- Step 6 (R305): back to the frontier. -/
def calReturn (s : State) (n : Fin 8) : State :=
  let s := toLayer s n (workLayer s n)
  match workSlot s n with
  | some p => sledToSlot s n p
  | none => s

/-- The edge flag of a quantity in a set's quality word (R298): bit k. -/
def setEdge (r : CalRun) (k : Nat) (e : Bool) : Nat := r.edges - bitOf r.edges k * 2 ^ k + b2n e * 2 ^ k

/-- After pass i the value the passes so far choose (R297, R298). -/
def choose (s : State) (r : CalRun) (i : Nat) : CalRun × State :=
  let margins := fun (a : Nat) => ((r.figs.drop a).take 5).map CalFig.margin
  if i = 4 then
    let (x, e, s) := vertexOf s (margins 0)
    let (v, s) := s.quantR (gridValue r.sa x 2 (saStep r))
    ({ r with newSa := sat24 v, edges := setEdge r 0 e }, s)
  else if i = 9 then
    let (x, e, s) := vertexOf s (margins 5)
    let (v, s) := s.quantR (gridValue r.focus x 2 (focusStep r))
    ({ r with newFocus := sat24 v, edges := setEdge r 1 e }, s)
  else if i = 12 then
    let (x, e, s) := crossingOf s (((r.figs.drop 10).take 3).map CalFig.tilt)
    let (v, s) := s.quantR (gridValue r.tilt x 1 (tiltStep r))
    ({ r with newTilt := sat24 v, edges := setEdge r 2 e }, s)
  else (r, s)

/-- The sled did not take the move to the test slots, or stands where a limit switch keeps gearing from engaging: a failure of the mount's step
(R278), and the end of another calibration (DESIGN CHOICE). (log entry 32) -/
def calStuck (s : State) (n : Fin 8) : State :=
  if slSt s n = slIDLE ∧ s.on (R.SPN_STATUS_ANGLE_VALID n) then
    if stSt s n = stMOUNTING then mountFails s n else calAbandon s n
  else s

/-- CALIBRATION_STEP_COMPLETE (R305): the step under way has ended, where the chip's state says so, and the next begins. (log entry 32) -/
def calibrationStep (n : Fin 8) (s : State) : State :=
  match (s.cal[n]).run with
  | none => s
  | some r =>
    if r.step = 0 then
      if !onTrack s n || s.g (R.BRL_STN_SEQ_STATUS_LAYER n) != r.layer then s
      else
        let (t, s) := stepsOf s n (radiusOf (calSlot s n r))
        let there := decide ((t : Rat) - 1 ≤ slPos s n ∧ slPos s n ≤ (t : Rat) + 1)
        let s := if there then engageAt s n r.layer else s
        if slSt s n ≠ slGEARED then calStuck s n
        else
          let r := calLoaded s n r
          queueTests (calStep s n { r with figs := [] } 1) n r
    else if r.step = 1 then
      if testsDone s n && onTrack s n then startPass (calStep s n r 2) n r 0 else s
    else if r.step ≤ 14 then
      if !onTrack s n then s
      else
        let i := r.step - 2
        let (r, s) := choose s { r with figs := r.figs ++ [takeFigure s n r] } i
        if i < 12 then startPass (calStep s n r (r.step + 1)) n r (i + 1)
        else startLadder (calStep (inForce s n r) n r 15) n r 0
    else if r.step ≤ 18 then
      if !testsDone s n then s
      else
        let r := { r with figs := r.figs ++ [takeFigure s n r] }
        let k := r.step - 15
        if k < 3 then startLadder (calStep s n r (r.step + 1)) n r (k + 1)
        else
          let s := calStep (calStore s n r) n r 19
          let s := if slSt s n = slGEARED then disengage s n else s
          calReturn s n
    else if onTrack s n && slSt s n == slIDLE then
      let s := engageAt s n (workLayer s n)
      let s := refreshCal (s.calU n (fun c => { c with run := none }))
      stnRun (calIdle s n r) n
    else s

def execCalibrationStepComplete (n : Fin 8) (s : State) : Host.Outcome State Fault Refusal := answer s (calibrationStep n)

/-- CAL_CALIBRATE (R307, R311): ignored for a station that is not ACTIVE, IDLE_SPIN or PARKED. -/
def calCalibrate (n : Fin 8) (layer : Fin 16) (now : Bool) (s : State) : State :=
  if stSt s n = stACTIVE ∨ stSt s n = stIDLE ∨ stSt s n = stPARKED then calRaise s n layer.val now else s

def execCalCalibrate (n : Fin 8) (layer : Fin 16) (now : Bool) (s : State) : Host.Outcome State Fault Refusal :=
  answer s (calCalibrate n layer now)

/-- CAL_INVALIDATE (R301, R309, R311). -/
def calInvalidate (n : Fin 8) (s : State) : State := invalidateSets (calAbandon s n) n

def execCalInvalidate (n : Fin 8) (s : State) : Host.Outcome State Fault Refusal := answer s (calInvalidate n)

end Sys2Proof.Machine
end

