-- ==== Sys2Proof/Machine/Wrs.lean ====
section
/-!
DEFINITION. The meanings of the write path's commands (chapter "Write Strategy, Laser Link and Read-After-Write"): clusters
written, interrupted and abandoned, verify results and verdicts, rewrites, suspensions, SYNC words.
-/

namespace Sys2Proof.Machine

/-- The CRC-8 of a SYNC word (R161) over the words since the previous one, each five bytes, byte 0 first. (log entry 11) -/
def linkCrc (words : List (BitVec 40)) : Nat := crcMsb 8 0x07 0 (words.flatMap (fun w => bytesBE 5 w.toNat))

/-- A DATA word (R161, R162): the levels of up to 24 channel bits, the first of which starts at `phase`. (log entry 87) -/
def dataWord (cstart : Bool) (phase : Nat) (levels : List Bool) : BitVec 40 :=
  BitVec.ofNat 40 (2 ^ 38 + b2n cstart * 2 ^ 37 + levels.length * 2 ^ 32 + phase % 256 * 2 ^ 24 +
    bitsNum (levels ++ List.replicate (24 - levels.length) false))

/-- The channel bits of a cluster. -/
def clusterLength : Nat := 320 * 2560

/-- The next `count` channel bits of the cluster that a beam writes, as a DATA word (R75, R162). -/
def nextData40 (c : Cur) (count phase : Nat) : BitVec 40 × Cur :=
  let k := min (min 24 count) (clusterLength - c.sent)
  let levels := nrzi c.level (clusterBits c.rows c.sent k)
  (dataWord (c.sent == 0 && k != 0) phase levels, { c with sent := c.sent + k, level := (levels.getLast?).getD c.level })

/-- One word slot of a pair (R161, R164): a POWER or TABLE word that waits, if `other` of them may still be sent among these 63; else channel
bits of the cluster being written; else IDLE. (log entry 87) -/
def nextWord (b : Beam) (other : Nat) (osc : List (Nat × Nat)) : BitVec 40 × Beam × Nat × List (Nat × Nat) :=
  match b.link, other, b.cur with
  | w :: t, k + 1, _ => (w, { b with link := t, owed := b.owed - 1 }, k, osc)
  | _, k, some c =>
    if clusterLength ≤ c.sent then (0, b, k, osc)
    else
      let o := (osc.head?).getD (0, 0)
      let (w, c) := nextData40 c o.1 o.2
      (w, { b with cur := some c }, k, osc.tail)
  | _, k, none => (0, b, k, osc)

/-- The words of k slots of a pair. -/
def linkWords : Nat → Beam → Nat → List (Nat × Nat) → List (BitVec 40) × Beam
  | 0, b, _, _ => ([], b)
  | k + 1, b, other, osc =>
    let (w, b, other, osc) := nextWord b other osc
    let (l, b) := linkWords k b other osc
    (w :: l, b)

/-- The lanes of a beam are free of failure (R158): its data and verify lanes, or the spares serving them, at a rate they process
(R91). -/
def lanesGood (s : State) (n : Fin 8) (m : Fin 4) : Bool :=
  [false, true].all (fun v =>
    !(s.lanes[laneOf n m v]).stopped && !s.on (R.OPL_STATUS_ADC_FAILED (laneOf n m v).val) &&
      !s.on (R.OPL_STATUS_FAILED (workLane s n m v).val) && !s.on (R.OPL_STATUS_RATE_ERR (workLane s n m v).val))

/-- The station may write such a cluster (R158): it is ACTIVE; a calibration's are written in a mount and in a wake too (R278 step 7, R305,
R307). -/
def stateWrites (s : State) (n : Fin 8) (k : JobKind) : Bool :=
  stSt s n == stACTIVE || (k == .test && (stSt s n == stMOUNTING || (s.stn[n]).task == .wake))

/-- The conditions of R158 whose end interrupts a cluster in progress (R159). A release lets it finish (R291). So does a suspension: it comes
with a verdict, and the cluster that is being written then is finished (row 1 of the table of R178, which prevails over R159: DEDUCED). (log entry 87) -/
def writeHolds (s : State) (n : Fin 8) (k : JobKind) : Bool :=
  (stateWrites s n k || stSt s n == stRELEASING) && s.on (R.SPN_STATUS_ANGLE_VALID n) &&
    s.on (R.BRL_STN_SEQ_STATUS_FLOCK n) && s.on (R.BRL_STN_SEQ_STATUS_TLOCK n)

/-- LINK_SYNC_WORD (R161, R164): 63 words of a pair that sends and the SYNC word after them. `osc` gives, for each DATA word among them, the
COUNT and the PHASE of its channel bits, which the beam's oscillator sets (R157). While the beam writes three other words go at most. A beam whose
conditions have failed sends IDLE in place of DATA (R159, R288). (log entry 87) -/
def linkSyncWord (n : Fin 8) (m : Fin 4) (osc : List (Nat × Nat)) (s : State) : State :=
  if s.on (R.WRS_STATUS_LINK_ACTIVE n) then
    let cur := (s.beam n m).cur
    let go := cur.filter (fun c => writeHolds s n c.job.kind)
    let (words, b) := linkWords 63 { s.beam n m with cur := go } (if go.isSome then 3 else 63) osc
    let b := if go.isSome then b else { b with cur := cur }
    let w := BitVec.ofNat 40 (0xBC * 2 ^ 32 + m.val * 2 ^ 24 + b.sync.toNat * 2 ^ 8 + linkCrc words)
    (s.each (words ++ [w]) (fun s w => s.emit (.laser n m w))).beamU n m (fun _ => { b with sync := b.sync + 1 })
  else s

def execLinkSyncWord (n : Fin 8) (m : Fin 4) (osc : List (Nat × Nat)) (s : State) : Host.Outcome State Fault Refusal :=
  answer s (linkSyncWord n m osc)

/-- The conditions of R158 at the start of a cluster, the lanes and the address apart. -/
def writeMay (s : State) (n : Fin 8) (m : Fin 4) (k : JobKind) : Bool :=
  stateWrites s n k && writeHolds s n k && bitOf (s.g (R.WRS_STATUS_SUSPENDED n)) m == 0 && bitOf (s.g (R.WRS_CTRL_BEAM_EN n)) m == 1

/-- The slot's address, or that of the slot before it in its zone, has been accepted (R71, R158). -/
def slotAccepted (s : State) (n : Fin 8) (m : Fin 4) (pca : Nat) : Bool :=
  match ((s.stn[n]).adip[m]).last with
  | some a => a == pca || (a + 1 == pca && pcaSlot pca != 0)
  | none => false

/-- The station writes this cluster now: no task or calibration stands in the way (R284, R286, R291, R305, R307, R308), no jump waits for the
boundary (R205), no frontier has to be searched again (R323), and no arm lags behind its slot (R88). -/
def mayStart (s : State) (n : Fin 8) (e : Enc) : Bool :=
  seqSt s n != sqWAIT && s.on (R.WRS_STATUS_LINK_ACTIVE n) && !(s.stn[n]).research &&
    (if e.job.kind = .test then (s.cal[n]).run.isSome
     else (s.stn[n]).task == .none && (s.cal[n]).run.isNone && !(s.cal[n]).pend.any (fun p => p.now) &&
      (e.job.kind == .mapPart || keepsStep s n e.pca e.job.rewrite))

/-- A beam has used a slot, written or skipped: the frontier of the arm's region moves past it (R71, R87, R282, R360). -/
def useSlot (s : State) (n : Fin 8) (m : Fin 4) (j : Job) (pca : Nat) : State :=
  match j.kind with
  | .mapPart =>
    let zoneB := b2n (dataEnd ≤ pcaSlot pca)
    { s with grn := { s.grn with chains := vmod s.grn.chains n (fun c =>
        { c with fronts := smPut c.fronts (8 * pcaLayer pca + 4 * zoneB + m.val) (pcaSlot pca + 1) }) } }
  | .test =>
    s.calU n (fun c => { c with
      tests := smPut c.tests (8 * pcaLayer pca + 4 * b2n (pcaZone pca == 3) + m.val) (pcaSlot pca + 1) })
  | _ => s.stnU n (fun x => { x with fronts := vmod x.fronts m (fun _ => some (nextFront pca)) })

/-- The arms' use makes a disc full: a station whose every arm is full is no longer available (R275); what it writes it finishes. Its rewrites go
to other stations (R175). -/
def watchFull (s : State) (n : Fin 8) : State :=
  if s.on (R.STN_STATUS_AVAILABLE n) && !avail s n then
    let s := recallAll (refreshAvail s) n
    let moves := fun (j : Job) => j.rewrite && j.kind != .mapPart && j.kind != .test
    let l := (s.wrs[n]).queue.filter moves
    let s := s.wrsU n (fun w => { w with queue := w.queue.filter (fun j => !moves j) })
    loseStation (s.each l.reverse (fun s j => moveRewrite s n j)) n false
  else s

/-- A POWER or TABLE word with AT_NEXT = 0 waits for the pair (R163, R166). -/
def sendsAtOnce (b : Beam) : Bool :=
  b.link.any (fun w => if w.toNat / 2 ^ 38 = 2 then bitOf w.toNat 34 == 0 else bitOf w.toNat 37 == 0)

/-- A beam takes the values of an apply that its pair has carried (R166): a new base starts with an offset of 0 (R167). -/
def takeSet (s : State) (n : Fin 8) (m : Fin 4) : State :=
  let old := beamView s n m
  let s := s.beamU n m (fun b => { b with due := false, owed := 0, force := (s.wrs[n]).told })
  let new := beamView s n m
  if old.g (R.WRS_PW_PW n m) ≠ new.g (R.WRS_PW_PW n m) then livePower new (s.beamU n m (fun b => { b with offset := 0 })) n m
  else if old.rd (R.WRS_LIMIT n) ≠ new.rd (R.WRS_LIMIT n) then livePower new s n m
  else s

/-- The lanes of a beam that begins to write (R90, R106): the data lane delivers nothing more, and the verify lane takes the starts of the
frames from the write timing, without a search. -/
def writeLanes (s : State) (n : Fin 8) (m : Fin 4) : State :=
  let v := workLane s n m true
  let s := s.u (R.OPL_STATUS_ACTIVE (workLane s n m false).val) 0
  if laneWorks s v && s.g (R.OPL_MODE_MODE v.val) == 2 then
    (s.u (R.OPL_STATUS_FRAME_LOCK v.val) 1).laneU v (fun x => { x with
      miss := 0, pri := none, sec := none, decided := 0, inserted := false, hyp := none, searchPri := none, starting := false
      dsp := if (s.beam n m).judged.any takesResults then x.dsp else figuresFrom none x.dsp })
  else s

/-- CLUSTER_WRITE_START (R71, R158, R166): `slot` is the slot that starts under the beam. Where every condition of R158 holds the beam
writes, once no word with AT_NEXT = 0 waits for its pair; where only the slot's address has not been accepted, the slot is skipped and its
cluster is encoded again. Values of an apply that the pair has carried take effect. -/
def clusterWriteStart (n : Fin 8) (m : Fin 4) (slot : Nat) (s : State) : State :=
  match (s.beam n m).enc with
  | none => s
  | some e =>
    if e.pca ≠ slot then goPlace s n
    else if (s.beam n m).cur.isSome || !mayStart s n e || !writeMay s n m e.job.kind || !lanesGood s n m || sendsAtOnce (s.beam n m) then s
    else if !slotAccepted s n m e.pca then
      let s := useSlot (s.beamU n m (fun b => { b with enc := none })) n m e.job e.pca
      watchFull (queueJob s n e.job true) n
    else
      let s := s.beamU n m (fun b => { b with
        enc := none, cur := some ⟨e.job, e.pca, e.time, 0, 0, false, false, false, e.rows, 0, false⟩ })
      let s := s.whenB ((s.beam n m).due && (s.beam n m).owed == 0) (fun s => takeSet s n m)
      let s := (s.u (R.WRS_STATUS_WRITING n) (Nat.lor (s.g (R.WRS_STATUS_WRITING n)) (2 ^ m.val))).bump (R.WRS_CNT_CLUSTERS n)
      watchFull (refreshWork (useSlot (writeLanes (s.emit (.written n m e.pca e.rows)) n m) n m e.job e.pca) n) n

def execClusterWriteStart (n : Fin 8) (m : Fin 4) (slot : Nat) (s : State) : Host.Outcome State Fault Refusal :=
  answer s (clusterWriteStart n m slot)

/-- A beam's cluster ends: WRITING clears, its verdict is due, and what waits for the boundary goes on. -/
def endCluster (s : State) (n : Fin 8) (m : Fin 4) (c : Cur) : State :=
  let w := s.g (R.WRS_STATUS_WRITING n)
  let s := s.u (R.WRS_STATUS_WRITING n) (w - bitOf w m * 2 ^ m.val)
  let s := s.beamU n m (fun b => { b with cur := none, judged := b.judged ++ [c] })
  stnBoundary (refreshWork s n) n

/-- CLUSTER_WRITE_END (R74, R291): the last channel bit is written. The station then goes where it writes next (R88, R360). -/
def clusterWriteEnd (n : Fin 8) (m : Fin 4) (s : State) : State :=
  match (s.beam n m).cur with
  | none => s
  | some c => if c.sent < clusterLength then s else goPlace (endCluster s n m c) n

def execClusterWriteEnd (n : Fin 8) (m : Fin 4) (s : State) : Host.Outcome State Fault Refusal := answer s (clusterWriteEnd n m)

/-- CLUSTER_INTERRUPTED (R159): a condition of R158 has ceased. BEAM_EN, a suspension and the lanes do not interrupt (R158, R178). -/
def clusterInterrupted (n : Fin 8) (m : Fin 4) (s : State) : State :=
  match (s.beam n m).cur with
  | none => s
  | some c =>
    if writeHolds s n c.job.kind then s
    else endCluster (s.bump (R.WRS_CNT_INTERRUPTED n)) n m { c with interrupted := true }

def execClusterInterrupted (n : Fin 8) (m : Fin 4) (s : State) : Host.Outcome State Fault Refusal :=
  answer s (clusterInterrupted n m)

/-- Put a result on the oldest cluster of a beam that takes one (R169, R170). -/
def putResult (b : Beam) (f : Cur → Cur) : Beam :=
  let rec go : List Cur → Option (List Cur)
    | [] => none
    | c :: t => if takesResults c then some (f c :: t) else (go t).map (c :: ·)
  match go b.judged with
  | some l => { b with judged := l }
  | none => { b with cur := b.cur.map (fun c => if takesResults c then f c else c) }

/-- Some cluster of a beam takes a result. -/
def awaitsResult (b : Beam) : Bool := b.judged.any takesResults || b.cur.any takesResults

/-- One frame's result: failed, and whether under the last case of R170. -/
def frameResult (s : State) (n : Fin 8) (m : Fin 4) (failed lane : Bool) : State :=
  let s := s.beamU n m (fun b => putResult b (fun c => { c with
    results := c.results + 1, failed := c.failed + b2n failed, laneFail := c.laneFail || lane }))
  if failed then s.bump (R.WRS_CNT_FRAMES_FAILED n) else s

/-- The oldest cluster of a beam that takes a result. -/
def resultCluster (b : Beam) : Option Cur :=
  match b.judged.find? takesResults with
  | some c => some c
  | none => b.cur.filter takesResults

/-- The bits of a half-frame that differ from those written (R112): every bit inside a defect counts as one. -/
def mismatches (x : Dsp) (q : Nat) (want : List Bool) : Nat :=
  let got := (heldBits x q 1240).getD []
  ((got.zip want).zipIdx.filter (fun p => p.1.1.1 != p.1.2 || inDefect x 0 (q + p.2))).length

/-- The sync case that a verify lane reports for the frame under way (R103): 6 while it has no frame lock and for a frame inside a declared
defect, 0 while none is settled; a flywheel insertion is case 5 where hypotheses had been opened. (log entry 73) -/
def verifyCase (s : State) (l : Fin 68) : Nat :=
  let x := s.lanes[l]
  if !locked s l ∨ defectFrame x then 6 else if x.inserted then (if x.decided = 5 then 5 else 6) else syncCase x

/-- What a verify lane reports for a frame (R112): the sync case, the mismatches of each half, the erased bytes, the invalid words, the
margins. -/
structure Verified where
  case : Nat
  mismA : Nat
  mismB : Nat
  erased : Nat
  invalid : Nat
  marginA : Nat
  marginB : Nat
deriving DecidableEq, Repr

/-- A verify lane judges the frame under way against the row that was written (R101, R102, R103, R110, R112, R113); the flywheel goes on. -/
def verifyFrame (s : State) (l : Fin 68) (row : List Byte) : Verified × State :=
  let x := s.lanes[l]
  let case := verifyCase s l
  let whole := decide (case = 5 ∨ case = 6)
  let (a, b, next) := framePlaces x
  let (w, s) := takeFrame s l
  let halfA := decide (case = 3) && decide (w.marginA < s.g (R.OPL_SYNC_POOR l.val))
  let want := frameBits row
  let mismA := mismatches x.dsp (a + 40) ((want.drop 40).take 1240)
  let mismB := mismatches x.dsp (b + 40) (want.drop 1320)
  let flags := (demodulate w.words w.near halfA).2
  let s := (s.bumpN (R.OPL_CNT_MISMATCH l.val) (mismA + mismB)).bumpN (R.OPL_CNT_INVALID_WORD l.val) (invalidWords w.words)
  let s := (s.whenB whole (fun s => s.bump (R.OPL_CNT_ERASED l.val))).whenB halfA (fun s => s.bump (R.OPL_CNT_HALF_ERASED l.val))
  let s := if whole then s.laneU l (fun y => { y with erased := y.erased + 1 })
    else (bookMargins s l w.marginA w.marginB).laneU l (fun y => { y with miss := 0, confirmed := x.dsp.n })
  (⟨case, mismA, mismB, if whole then 248 else (flags.filter id).length, invalidWords w.words, w.marginA, w.marginB⟩,
    flywheelTo s l (if whole then x.pred + 2560 else next))

/-- FRAME_VERIFY_RESULT (R112, R169, R170): the verify lane of a beam reports the oldest frame that awaits its result, once its last bit is
decided. A lane that has failed reports failed results (R115); one in another role, or on a rate it does not process, reports none (R90,
R91). (log entry 75) -/
def frameVerifyResult (n : Fin 8) (m : Fin 4) (f : LaneIn) (s : State) : State :=
  let l := workLane s n m true
  let s := laneRun s l f
  match resultCluster (s.beam n m) with
  | none => s
  | some c =>
    let (_, b, _) := framePlaces (s.lanes[l])
    if s.on (R.OPL_STATUS_FAILED l.val) ∨ s.on (R.OPL_STATUS_ADC_FAILED (laneOf n m true).val) then frameResult s n m true true
    else if !laneWorks s l ∨ s.g (R.OPL_MODE_MODE l.val) ≠ 2 ∨ verifyCase s l = 0 ∨ (s.lanes[l]).dsp.n < b + 1280 then s
    else
      let (v, s) := verifyFrame s l ((c.rows[c.results]?).getD [])
      let low := s.g (R.WRS_VERIFY_MARGIN_MIN n)
      let bad := decide (v.case = 3 ∨ v.case = 5 ∨ v.case = 6 ∨ s.g (R.WRS_VERIFY_MISMATCH_MAX n) < v.mismA + v.mismB ∨
        s.g (R.WRS_VERIFY_ERASED_MAX n) < v.erased ∨ v.marginA < low ∨ v.marginB < low)
      let s := frameResult s n m bad false
      s.u (R.OPL_STATUS_ACTIVE l.val) (b2n (awaitsResult (s.beam n m)))

def execFrameVerifyResult (n : Fin 8) (m : Fin 4) (f : LaneIn) (s : State) : Host.Outcome State Fault Refusal :=
  answer s (frameVerifyResult n m f)

/-- VERIFY_RESULT_TIMEOUT (R170): no result within 8 frame periods. -/
def verifyResultTimeout (n : Fin 8) (m : Fin 4) (s : State) : State :=
  if awaitsResult (s.beam n m) then frameResult s n m true true else s

def execVerifyResultTimeout (n : Fin 8) (m : Fin 4) (s : State) : Host.Outcome State Fault Refusal :=
  answer s (verifyResultTimeout n m)

/-- CLUSTER_ABANDON (R172): more than FRAME_FAIL_MAX frames of the cluster being written have failed. -/
def clusterAbandon (n : Fin 8) (m : Fin 4) (s : State) : State :=
  match (s.beam n m).cur with
  | none => s
  | some c =>
    if s.on (R.WRS_CTRL_ABANDON n) ∧ s.g (R.WRS_VERIFY_FRAME_FAIL_MAX n) < c.failed then
      endCluster (s.bump (R.WRS_CNT_ABANDONED n)) n m { c with abandoned := true }
    else s

def execClusterAbandon (n : Fin 8) (m : Fin 4) (s : State) : Host.Outcome State Fault Refusal := answer s (clusterAbandon n m)

/-- A cluster can be judged (R171). -/
def judgeable (c : Cur) : Bool := c.interrupted || c.abandoned || 320 ≤ c.results

/-- A cluster passes (R171). -/
def passes (s : State) (n : Nat) (c : Cur) : Bool :=
  !c.interrupted && !c.abandoned && !c.laneFail && c.failed ≤ s.g (R.WRS_VERIFY_FRAME_FAIL_MAX n)

/-- A failed attempt counts (R176): too many failed frames, or abandoned, with no interruption and no frame that failed under the last case
of R170; an abandoned cluster with such a frame does not count. (log entry 81) -/
def counted (s : State) (n : Nat) (c : Cur) : Bool :=
  !c.interrupted && !c.laneFail && (c.abandoned || s.g (R.WRS_VERIFY_FRAME_FAIL_MAX n) < c.failed)

/-- A rebuilt member that is verified takes a MEMBER entry (R144, R342); in a stripe still in the buffer it is verified there. -/
def rebuiltPassed (s : State) (n : Fin 8) (c : Cur) : State :=
  let S := c.job.hdr.stripe
  let r := c.job.rot
  let time := c.job.hdr.time.getD c.time
  let s := dropRebuild s S r
  match stripeBySerial s S with
  | some _ => memU s S r (fun x => { x with
      station := n.val, st := .verified, pca := c.pca, time := time, rewritten := true, disc := discId s n })
  | none =>
    let (d, s) := ensureDisc s (discId s n)
    recordFronts (addEntry s (.member ⟨false, r, n.val, d, c.job.hdr.layout, serial48 S, c.pca, time⟩)) n

/-- A verified cluster is reported to Garnet (R173). -/
def clusterPassed (s : State) (n : Fin 8) (m : Fin 4) (c : Cur) : State :=
  let s := (s.bump (R.WRS_CNT_PASSED n)).beamU n m (fun b => { b with failRun := 0 })
  match c.job.kind with
  | .member => memU s c.job.hdr.stripe c.job.rot (fun x => { x with
      station := n.val, st := .verified, pca := c.pca, time := c.time, rewritten := c.job.rewrite, disc := discId s n })
  | .rebuild => rebuiltPassed s n c
  | .reloc => s.tpzU (fun z => { z with relocs := z.relocs.map (fun x =>
      if x.pca = c.job.hdr.origPca ∧ x.serial = c.job.hdr.stripe ∧ x.rot = c.job.rot then
        { x with done := some (n.val, discId s n, c.pca) } else x) })
  | .mapPart => { s with grn := { s.grn with ckpts := s.grn.ckpts.map (fun k =>
      if k.seq = c.job.seq then { k with stations := k.stations.map (fun x =>
        if x.station = n.val then { x with passed := x.passed + 1, pcas := x.pcas ++ [c.pca] } else x) } else k) } }
  | .test => s

/-- A cluster is dropped from its stripe after ATTEMPT_MAX counted attempts (R176). -/
def dropCluster (s : State) (n : Fin 8) (j : Job) : State :=
  let s := s.bump (R.WRS_CNT_DROPPED n)
  match j.kind with
  | .member => memberAbsent s j.hdr.stripe j.rot true
  | _ => logDegraded (s.tpzU (fun z => { z with rebuilds := z.rebuilds.map (fun r =>
      if r.serial = j.hdr.stripe ∧ r.rot = j.rot then { r with queued := false } else r) })) j.hdr.stripe true

/-- A station holds its disc and is neither failed nor about to give it up (R140, R178). -/
def writesOn (s : State) (n : Fin 8) : Bool := stSt s n == stACTIVE || stSt s n == stIDLE || stSt s n == stPARKED

/-- A failed cluster is written again (R173 to R175): as the next cluster of the station, ahead of those encoded already, on the next writing
beam; where no beam can write, on another station that holds no member of its stripe; else it is lost to the station (R143). No rewrite is made
on a failed station (R178). -/
def rewriteCluster (s : State) (n : Fin 8) (m : Fin 4) (j : Job) : State :=
  let j := { j with rewrite := true, after := some m.val }
  if !writesOn s n then loseJob s n j
  else if !(writingBeams s n).isEmpty || j.kind == .mapPart then queueJob (recallAll s n) n j true
  else moveRewrite s n j

/-- A counted failure of a beam (R176): after BEAM_FAIL_RUN of them running the beam is suspended, and a calibration discards its
results (R309). A cluster that it holds encoded goes to the beam that writes next. -/
def countFailure (s : State) (n : Fin 8) (m : Fin 4) : State :=
  let s := s.beamU n m (fun b => { b with failRun := b.failRun + 1 })
  let w := s.g (R.WRS_STATUS_SUSPENDED n)
  if (s.beam n m).failRun < s.g (R.WRS_RETRY_BEAM_FAIL_RUN n) ∨ bitOf w m = 1 then s
  else
    let s := ((s.u (R.WRS_STATUS_SUSPENDED n) (w + 2 ^ m.val)).bump (R.WRS_CNT_SUSPENDED n)).log 0x104 n [m.val]
    (recallBeam (calWithout s n m) n m).beamU n m (fun b => { b with suspAt := some s.now })

/-- A relocation is abandoned (R149): the old copy stays mapped. -/
def dropReloc (s : State) (j : Job) : State :=
  s.tpzU (fun z => { z with relocs := z.relocs.filter (fun x =>
    !(x.pca == j.hdr.origPca && x.serial == j.hdr.stripe && x.rot == j.rot)) })

/-- A failed cluster (R149, R173 to R176). A checkpoint's part is not dropped: it is written again; a calibration's cluster is not. (log entry 30) -/
def clusterFailed (s : State) (n : Fin 8) (m : Fin 4) (c : Cur) : State :=
  let hit := counted s n c
  let s := s.bump (R.WRS_CNT_FAILED n)
  let s := if hit then countFailure s n m else s
  let j : Job := { c.job with attempts := c.job.attempts + b2n hit }
  let spent := hit && s.g (R.WRS_RETRY_ATTEMPT_MAX n) ≤ j.attempts
  let s := match j.kind with
    | .test => s
    | .mapPart => rewriteCluster s n m j
    | .reloc => if spent then dropReloc s j else rewriteCluster s n m j
    | _ => if spent then dropCluster s n j else rewriteCluster s n m j
  watchFaults s n

/-- CLUSTER_VERDICT (R171 to R176): the oldest finished cluster of a beam is judged. -/
def clusterVerdict (n : Fin 8) (m : Fin 4) (s : State) : State :=
  match (s.beam n m).judged with
  | [] => s
  | c :: rest =>
    if !judgeable c then s
    else
      let s := s.beamU n m (fun b => { b with judged := rest })
      refreshWork (if passes s n c then clusterPassed s n m c else clusterFailed s n m c) n

def execClusterVerdict (n : Fin 8) (m : Fin 4) (s : State) : Host.Outcome State Fault Refusal := answer s (clusterVerdict n m)

/-- A beam can write again (R88): what is encoded on the others is encoded anew, and the station goes to the arm that lags. -/
def beamBack (s : State) (n : Fin 8) : State := goPlace (recallAll s n) n

/-- BEAM_RESUME (R176, R178, R179): ignored for a beam that is not suspended, and in the cycle in which it is suspended. -/
def beamResume (n : Fin 8) (m : Fin 4) (s : State) : State :=
  let w := s.g (R.WRS_STATUS_SUSPENDED n)
  if bitOf w m = 0 ∨ (s.beam n m).suspAt = some s.now then s
  else beamBack ((s.u (R.WRS_STATUS_SUSPENDED n) (w - 2 ^ m.val)).beamU n m (fun b => { b with failRun := 0 })) n

def execBeamResume (n : Fin 8) (m : Fin 4) (s : State) : Host.Outcome State Fault Refusal := answer s (beamResume n m)

end Sys2Proof.Machine
end

