-- ==== Sys2Proof/Machine/Apply.lean ====
section
/-!
DEFINITION. The meanings of apply strobes, boundaries, auto-apply and configuration transactions (R41 to R50, R166, R364), with what an
apply of a unit brings about beyond its registers.
-/

namespace Sys2Proof.Machine

/-- The members of a unit's consistency sets. -/
def setMembers (s : State) (u : UnitId) : List Nat := (setsOf s s.rd u).flatMap CfgSet.mem

/-- The pending values of a unit are copied into its staging copy (R45); the marks of its sets' members begin anew. -/
def stageUnit (s : State) (u : UnitId) : State :=
  let mem := setMembers s u
  { s with
    stag := (unitRegs s u).foldl (fun m a => wrR m a (rdR s.pend a)) s.stag
    written := s.written.filter (fun a => !(unitOf a == some u && mem.contains a)) }

/-- Staged values are given up: the active values stay (R50). -/
def unstage (s : State) (mem : List Nat) : State := { s with stag := mem.foldl (fun m a => wrR m a (s.rd a)) s.stag }

/-- A number that no strobe that waits has. -/
def newStrobe (s : State) : Nat := (s.strobes.map Strobe.id).foldl max 0 + 1

/-- A unit waits for its boundary (R45); a unit that waits already goes on waiting (R46). -/
def addStrobe (s : State) (u : UnitId) (groups : Word) (id : Nat) (checked : Bool) : State :=
  { s with strobes :=
      if s.strobes.any (fun t => t.unit == u) then
        s.strobes.map (fun t => if t.unit = u then ⟨u, t.groups ||| groups, id, checked, false⟩ else t)
      else s.strobes ++ [⟨u, groups, id, checked, false⟩] }

/-- The bit of group g. -/
def groupBit (g : Nat) : Word := BitVec.ofNat 32 (2 ^ g)

/-- GLB_APPLY (R45, R46): the units of the groups are staged. Strobes of groups in a running transaction wait (R364). (log entry 46) -/
def glbApply (w : BitVec 32) (s : State) : State :=
  let busy := s.grn.cfgGroups
  let s := s.grnU (fun g => { g with cfgWaits := g.cfgWaits ||| (w &&& busy) })
  let go := w &&& ~~~ busy
  let id := newStrobe s
  refreshBusy (s.each allUnits (fun s u =>
    if (go &&& groupBit (groupOf s u)) = 0#32 then s else addStrobe (stageUnit s u) u (groupBit (groupOf s u)) id false))

def execGlbApply (w : BitVec 32) (s : State) : Host.Outcome State Fault Refusal := answer s (glbApply w)

/-- The values that an apply of a unit would make active: its staged values and those of the slots that are accepted already (R218), and
the active values of every other unit. -/
def stagedView (s : State) (u : UnitId) : Nat → Word :=
  let slots := (s.strobes.filter (fun t => t.checked && (match t.unit with | .brlSlot _ => true | _ => false))).map Strobe.unit
  fun a => match unitOf a with
    | some v => if v = u ∨ slots.contains v then rdR s.stag a else s.rd a
    | none => s.rd a

/-- The sets of a staged unit that take part are judged (R50, R218): those that fail are rejected and their staged values given up. The
answer says whether any was. -/
def judgeUnit (s : State) (u : UnitId) (grp how : Nat) (part : CfgSet → Bool) : Bool × State :=
  let v := stagedView s u
  if !unitOk s v u then (true, unstage (rejectSet s grp how (wholeUnit s u)) (unitRegs s u))
  else
    let bad := (setsOf s v u).filter (fun c => part c && !c.ok)
    (!bad.isEmpty, s.each bad (fun s c => unstage (rejectSet s grp how c.mem) c.mem))

/-- The staging copy of a unit becomes active in one step (R45). -/
def commitUnit (s : State) (u : UnitId) : State :=
  let rs := unitRegs s u
  let mem := setMembers s u
  { s with
    regs := rs.foldl (fun m a => wrR m a (rdR s.stag a)) s.regs
    written := s.written.filter (fun a => !(unitOf a == some u && !mem.contains a && rdR s.stag a == rdR s.pend a)) }

/-- Sets of a lane whose role changes, seeds and taps that an apply loads (R95, R97). -/
def laneApplied (old new : State) (l : Fin 68) : State :=
  let was := old.g (R.OPL_MODE_MODE l.val)
  let now := new.g (R.OPL_MODE_MODE l.val)
  let w := wobbleOf new l
  let s :=
    if was = 0 ∧ now ≠ 0 then laneBegin w new l
    else if was ≠ 0 ∧ now = 0 then gainLoad (laneRestart w new l) l
    else if !new.on (R.OPL_TR_SEED_SRC l.val) && old.rd (R.OPL_TR_PERIOD l.val) != new.rd (R.OPL_TR_PERIOD l.val) then seedLoad w new l
    else new
  if (List.range 8).any (fun k => old.written.contains (R.OPL_EQ_INIT l.val k)) = true then tapsLoad s l else s

/-- A slot after an apply (R193, R186, R187, R212). The lock that an apply takes the slot from keeps its value: the spec counts no such apply among what
opens a loop (DESIGN CHOICE). (log entry 21) -/
def slotApplied (old new : State) (k : Fin 96) : State :=
  let same := fun (f : FRef) => old.g f == new.g f
  let s :=
    if same (R.BRL_SLOT_CFG_TYPE k.val) && same (R.BRL_SLOT_CFG_STATION k.val) && same (R.BRL_SLOT_CFG_EN k.val) then new
    else (new.loopU k (fun l => { l with integ := 0, bq := Vector.replicate 5 (⟨0, 0, 0, 0⟩ : Bq), satHi := false, satLo := false })).u
      (R.BRL_SLOT_STATUS_SAT k.val) 0
  shedDown s stations.reverse

/-- A window after an apply (R421): the descriptor in force before is the old map for the grace interval. (log entry 46) -/
def windowApplied (old new : State) (w : Nat) : State :=
  let s := new.us [(R.PCX_WIN_UNIT_EPOCH w, new.g (R.PCX_WIN_UNIT_EPOCH w) + 1), (R.PCX_WIN_STATUS_OLD_MAP w, 1)]
  let o : OldMap := ⟨old.rd (R.PCX_WIN_CFG w), old.rd (R.PCX_WIN_BASE w), old.rd (R.PCX_WIN_RID w), old.g (R.PCX_WIN_REEL_REEL w), old.now⟩
  winU s w (fun x => { x with old := some o })

/-- The power levels of a beam that an apply changes (R154). -/
def changedLevels (old new : State) (n : Fin 8) (m : Fin 4) : List Nat :=
  let same := fun (f : FRef) => old.g f == new.g f
  let pw := same (R.WRS_PW_LIVE_PW n m)
  [0, 1, 2, 3, 4].filter (fun k =>
    if k = 0 then !same (R.WRS_PW_PR n m)
    else if k = 1 then !(pw && same (R.WRS_RATIO_PS n))
    else if k = 2 then !(pw && same (R.WRS_RATIO_PM n))
    else if k = 3 then !pw
    else !(pw && same (R.WRS_RATIO_PC n)))

/-- The words of a beam that an apply changes are sent (R166), where its values in force or those that its pair carried last differ: with AT_NEXT
= 1 to a beam that has a cluster in progress, which takes the set at a later cluster start; any other beam takes it at once. `last` is the view
of what the pairs carried before. -/
def sendTold (last s : State) (n : Fin 8) (m : Fin 4) : State :=
  let was := [beamView s n m, last]
  let t := takeSet s n m
  let new := beamView t n m
  let busy := (s.beam n m).cur.isSome
  let put := fun (s : State) => if !s.on (R.WRS_STATUS_LINK_ACTIVE n) then s
    else
      let s := s.each (List.range 50) (fun s a =>
        if was.all (fun o => tableEntry o n a == tableEntry new n a) then s else linkPut s n m (tableWord a (tableEntry new n a) busy))
      sendLevels new s n m ((was.flatMap (fun o => changedLevels o new n m)).eraseDups) busy
  if busy then (put s).beamU n m (fun b => { b with due := true, owed := b.link.length }) else put t

/-- What an apply of a unit brings about beyond its registers. (log entry 69) -/
def applied (old new : State) : UnitId → State
  | .lane l => laneApplied old new ⟨l % 68, Nat.mod_lt _ (by omega)⟩
  | .brlSlot k => slotApplied old new ⟨k % 96, Nat.mod_lt _ (by omega)⟩
  | .spn n =>
    let n : Fin 8 := ⟨n % 8, Nat.mod_lt _ (by omega)⟩
    speedSelChanged new n (old.written.contains (R.SPN_CTRL n)) (old.g (R.SPN_CTRL_SPEED_SEL n)) (new.g (R.SPN_CTRL_SPEED_SEL n))
  | .stn n =>
    let n : Fin 8 := ⟨n % 8, Nat.mod_lt _ (by omega)⟩
    if old.g (R.STN_CFG_SPEED n) = new.g (R.STN_CFG_SPEED n) then new else stnSpeedChange new n
  | .wrs n =>
    let n : Fin 8 := ⟨n % 8, Nat.mod_lt _ (by omega)⟩
    let s := new.wrsU n (fun w => { w with told := [], beams := w.beams.map (fun b => { b with force := [] }) })
    let s := s.each beams (fun s m => if bitOf (s.g (R.WRS_CTRL_BEAM_EN n)) m = 1 then s else refreshWork (recallBeam s n m) n)
    if beams.any (fun m => bitOf (old.g (R.WRS_CTRL_BEAM_EN n)) m < bitOf (s.g (R.WRS_CTRL_BEAM_EN n)) m) then beamBack s n else s
  | .sld n =>
    let n : Fin 8 := ⟨n % 8, Nat.mod_lt _ (by omega)⟩
    let lower := decide (new.g (R.SLD_ACCEL_DECEL n) < old.g (R.SLD_ACCEL_DECEL n))
    refreshSwitches (new.whenB lower (fun s => s.sldU n (fun x => { x with clamped := false }))) n
  | .tpz => refreshAvail new
  | .pcxWin w => windowApplied old new (w % 256)
  | .buf => if new.on R.BUF_STATUS_INIT_DONE then new.u R.BUF_STATUS_SCRUB_BUSY (new.g R.BUF_SCRUB_EN) else new
  | .grn =>
    let s := refreshMap new
    let s := if old.g R.GRN_CKPT_CTRL_INTERVAL = 0 then s.grnU (fun g => { g with lastCut := s.now }) else s
    if old.g R.GRN_CKPT_CTRL_INTERVAL = s.g R.GRN_CKPT_CTRL_INTERVAL then s else checkpointInterval s
  | .cgl =>
    if pairSt new = pALONE ∧ pairMode new ≠ 0 then new.u R.CGL_STATUS_STATE pDOWN
    else if pairSt new = pDOWN ∧ pairMode new = 0 then new.u R.CGL_STATUS_STATE pALONE
    else new
  | .drk => refreshBypass new
  | .evl => refreshIntx (refreshPending new)
  | _ => new

/-- The transaction ends when every unit of it is active (R364): the strobes that waited for it follow. (log entry 47) -/
def txEnd (s : State) : State :=
  if s.grn.cfgGroups ≠ 0#32 ∧ s.strobes.all (fun t => (t.groups &&& s.grn.cfgGroups) == 0#32) = true then
    let waits := s.grn.cfgWaits
    let s := s.grnU (fun g => { g with cfgGroups := 0#32, cfgWaits := 0#32 })
    glbApply waits (s.us [(R.GRN_CFGTX_STATUS_BUSY, 0), (R.GRN_CFGTX_STATUS_DONE, 1)])
  else s

/-- A unit's strobe is done with. -/
def dropStrobe (s : State) (u : UnitId) : State :=
  txEnd (refreshBusy { s with strobes := s.strobes.filter (fun t => t.unit != u) })

/-- A judged unit becomes active. A rejected window is not swapped. -/
def activate1 (s : State) (u : UnitId) (rejected : Bool) : State :=
  let t := commitUnit s u
  dropStrobe (if rejected && (match u with | .pcxWin _ => true | _ => false) then t else applied s t u) u

/-- A judged write path at its boundary (R166): while a beam has a cluster in progress, the words go ahead and the staging copy stays
until each such beam has taken them; one that has no cluster in progress any more gets them with AT_NEXT = 0. (log entry 46) -/
def wrsBoundary (s : State) (u : UnitId) (n : Fin 8) (sent : Bool) : State :=
  let last := toldView s n
  let s := if sent then s.each (beams.filter (fun m => (s.beam n m).due && !(s.beam n m).cur.isSome)) (fun x m => sendTold last x n m)
    else (s.wrsU n (fun w => { w with told := (unitRegs s u).map (fun a => (a, rdR s.stag a)) })).each beams (fun x m => sendTold last x n m)
  if beams.any (fun m => (s.beam n m).due) then
    { s with strobes := s.strobes.map (fun t => if t.unit = u then { t with checked := true, sent := true } else t) }
  else activate1 s u false

/-- A slot waits on with a new type, station or enable while the sequencer of a station concerned runs (R210). -/
def slotHeld (s : State) (k : Nat) : Bool :=
  let v := fun (f : FRef) => fv (rdR s.stag) f
  (v (R.BRL_SLOT_CFG_TYPE k) != s.g (R.BRL_SLOT_CFG_TYPE k) || v (R.BRL_SLOT_CFG_STATION k) != s.g (R.BRL_SLOT_CFG_STATION k) ||
      v (R.BRL_SLOT_CFG_EN k) != s.g (R.BRL_SLOT_CFG_EN k)) &&
    (seqBusy s (s.g (R.BRL_SLOT_CFG_STATION k)) || seqBusy s (v (R.BRL_SLOT_CFG_STATION k)))

/-- A lane is at its boundary (R92): with frame lock at the primary sync of a frame, without it at every 2,560th output of timing recovery,
counted from the start of its signal path. A lane that processes nothing, in role OFF or out of work, is at its boundary at once. (log entry 46) -/
def laneAtBoundary (s : State) (l : Fin 68) : Bool :=
  let x := s.lanes[l]
  !laneWorks s l ||
    (if locked s l then decide (x.pred ≤ x.dsp.n + 4) && decide (x.dsp.n ≤ x.pred + 40) else outputsOf x.dsp % 2560 == 0)

/-- A unit is at its boundary (R30, R92, R210, R256): a sled before the first tick of a move, or at every tick with IMMEDIATE. -/
def atBoundary (s : State) : UnitId → Bool
  | .lane l => laneAtBoundary s ⟨l % 68, Nat.mod_lt _ (by omega)⟩
  | .sld n => s.on (R.SLD_UNIT_IMMEDIATE n) || (s.sld[n % 8]).fresh
  | .brlSlot k => !slotHeld s k
  | _ => true

/-- The strobe of a unit has been judged. -/
def markChecked (s : State) (u : UnitId) : State :=
  { s with strobes := s.strobes.map (fun t => if t.unit = u then { t with checked := true } else t) }

/-- The group that a strobe's rejection names: the lowest of its groups. -/
def strobeGroup (s : State) (t : Strobe) : Nat := (lowestSet 32 t.groups.toNat).getD (groupOf s t.unit)

/-- The slots below k that the same strobe applies and that are not judged yet are judged first, in ascending order (R218). -/
def judgeSlotsBelow (s : State) (k id : Nat) : State :=
  s.each (List.range (min k 96)) (fun s j =>
    match s.strobes.find? (fun t => t.unit == .brlSlot j) with
    | some t =>
      if t.checked || t.id != id then s
      else markChecked (judgeUnit s t.unit (strobeGroup s t) 0 (fun _ => true)).2 t.unit
    | none => s)

/-- A unit comes to its boundary (R30, R45, R256): its staged values are judged and become active. `how` as for `rejectSet`. (log entry 46) -/
def unitBoundary (s : State) (t : Strobe) (how : Nat) (part : CfgSet → Bool) : State :=
  if !atBoundary s t.unit then s
  else
    let s := match t.unit with
      | .brlSlot k => judgeSlotsBelow s k t.id
      | _ => s
    let j := if t.checked then (false, s) else judgeUnit s t.unit (strobeGroup s t) how part
    match t.unit with
    | .wrs n => wrsBoundary j.2 t.unit ⟨n % 8, Nat.mod_lt _ (by omega)⟩ t.sent
    | u => activate1 j.2 u j.1

/-- The units that wait among those named, windows and slots in ascending order (R218, R434). -/
def waitingUnits (s : State) (units : List UnitId) : List UnitId :=
  allUnits.filter (fun u => units.contains u && s.strobes.any (fun t => t.unit == u))

/-- APPLY_AT_BOUNDARY (R45): the boundary of these units comes. (log entry 46) -/
def applyAtBoundary (units : List UnitId) (s : State) : State :=
  s.each (waitingUnits s units) (fun s u =>
    match s.strobes.find? (fun t => t.unit == u) with
    | some t => unitBoundary s t 0 (fun _ => true)
    | none => s)

def execApplyAtBoundary (units : List UnitId) (s : State) : Host.Outcome State Fault Refusal := answer s (applyAtBoundary units)

/-- The GLB_AUTO_APPLY bit of a unit's block (R47, R56); none for blocks without one. -/
def autoBit : UnitId → Option FRef
  | .pcxCtl => some R.GLB_AUTO_APPLY_PCX
  | .pcxWin _ => some R.GLB_AUTO_APPLY_PCX
  | .brlStn _ => some R.GLB_AUTO_APPLY_BRL
  | .brlSlot _ => some R.GLB_AUTO_APPLY_BRL
  | .brlBank _ _ => some R.GLB_AUTO_APPLY_BRL
  | .lane _ => some R.GLB_AUTO_APPLY_OPL
  | .wrs _ => some R.GLB_AUTO_APPLY_WRS
  | .spn _ => some R.GLB_AUTO_APPLY_SPN
  | .spnBus => some R.GLB_AUTO_APPLY_SPN
  | .sld _ => some R.GLB_AUTO_APPLY_SLD
  | _ => none

/-- The pending values that auto-apply makes active (R49): of the sets whose every member has been written, and of written registers in
no set. -/
def autoRegs (s : State) (u : UnitId) : List Nat :=
  let mem := setMembers s u
  ((setsOf s s.rd u).filter (fun c => c.mem.all (fun a => s.written.contains a))).flatMap CfgSet.mem ++
    s.written.filter (fun a => unitOf a == some u && !mem.contains a)

/-- AUTO_APPLY (R47, R49): the boundary of a unit of a block under auto-apply. It waits while the unit is not at its boundary, while its
group is in a transaction (R364) or while a strobe waits for it. (log entry 46) -/
def autoApply (u : UnitId) (s : State) : State :=
  let on := match autoBit u with
    | some f => s.on f
    | none => false
  let take := autoRegs s u
  if !on || take.isEmpty || (s.grn.cfgGroups &&& groupBit (groupOf s u)) != 0#32 || s.strobes.any (fun t => t.unit == u) then s
  else
    let base := (unitRegs s u).foldl (fun m a => wrR m a (s.rd a)) s.stag
    let s' := addStrobe { s with
      stag := take.foldl (fun m a => wrR m a (rdR s.pend a)) base
      written := s.written.filter (fun a => !(take.contains a && (setMembers s u).contains a)) } u 0#32 (newStrobe s) false
    match s'.strobes.find? (fun t => t.unit == u) with
    | some t => if atBoundary s' u then unitBoundary s' t 1 (fun c => c.mem.all (fun a => take.contains a)) else s
    | none => s

def execAutoApply (u : UnitId) (s : State) : Host.Outcome State Fault Refusal := answer s (autoApply u)

/-- The configuration that a transaction would result in (R364): the pending values of its units, and the active values elsewhere. -/
def txView (s : State) (units : List UnitId) (a : Nat) : Word :=
  match unitOf a with
  | some u => if units.contains u then rdR s.pend a else s.rd a
  | none => s.rd a

/-- CFGTX_COMMIT (R364): all the units of the groups, or nothing. (log entry 47) -/
def cfgtxCommit (s : State) : State :=
  if s.on R.GRN_CFGTX_STATUS_BUSY then s
  else
    let groups := s.rd R.GRN_CFGTX_GROUPS
    let units := allUnits.filter (fun u => (groups &&& groupBit (groupOf s u)) != 0#32)
    let v := txView s units
    let failing := units.flatMap (fun u =>
      (if unitOk s v u then [] else [(groupOf s u, wholeUnit s u)]) ++
        ((setsOf s v u).filter (fun c => !c.ok)).map (fun c => (groupOf s u, c.mem)))
    if units.isEmpty then s.us [(R.GRN_CFGTX_STATUS_SETS, 0), (R.GRN_CFGTX_STATUS_DONE, 1)]
    else if failing.isEmpty then
      let s := s.each units (fun s u => addStrobe (stageUnit s u) u (groupBit (groupOf s u)) (newStrobe s) true)
      let s := (s.grnU (fun g => { g with cfgGroups := groups })).us [(R.GRN_CFGTX_STATUS_SETS, 0), (R.GRN_CFGTX_STATUS_BUSY, 1)]
      txEnd (refreshBusy s)
    else
      let s := s.each failing (fun s f => rejectSet s f.1 2 f.2)
      s.us [(R.GRN_CFGTX_STATUS_SETS, min 0xFFFF failing.length), (R.GRN_CFGTX_STATUS_REJECTED, 1), (R.GRN_CFGTX_STATUS_DONE, 1)]

def execCfgtxCommit (s : State) : Host.Outcome State Fault Refusal := answer s cfgtxCommit

end Sys2Proof.Machine
end

