-- ==== Sys2Proof/Machine/Dorak.lean ====
section
/-!
DEFINITION. The meanings of the commands of the control pins and of the Dorak ring (R450 to R456, R462).
-/

namespace Sys2Proof.Machine

/-- The wake orders of RECORD and START to the stations of a mask (R292, R451). -/
def wakeMask (s : State) (m : Master) (mask : Nat) (rivals : List Rival) : State :=
  s.each (stations.filter (fun (n : Fin 8) => bitOf mask n.val == 1)) (fun s n => (stationOrder s n m 4 false [] rivals).2)

/-- STOP (R398, R451): REEL_CLOSE of every open reel of a volume, where the master owns it and no order of the same cycle wins. (log entry 62) -/
def stopVolume (s : State) (m : Master) (v : Nat) (rivals : List Rival) : State :=
  if !masterOwnsVol s v m || reelBeaten s v m true rivals then s
  else s.each (s.grn.reels.filter (fun r => r.vol == v && r.st == .opened && !r.copy)) (fun s r => closeReel (stopReel s r) r.serial)

/-- MARK (R451, R475, R492): logged with the latest timecode, and recorded in every open reel of the volume. -/
def markAll (s : State) (v pin : Nat) : State := markVolume (s.log 0x506 noStation [timecode s, v, pin]) v

/-- Carry out START (2), STOP (3) or MARK (4) with its ARG, for the pins or for the ring (R451, R455). (log entry 62) -/
def ringDo (s : State) (typ arg : Nat) (m : Master) (pin : Nat) (rivals : List Rival) : State :=
  if typ = 2 then wakeMask s m (arg % 256) rivals
  else if typ = 3 then stopVolume s m (arg % 64) rivals
  else markAll s (arg % 64) pin

/-- The action time of a message that is sent now (R455). -/
def leadTime (s : State) : Nat := s.now + 10000 * s.g R.DRK_DELAY_START_LEAD

/-- Send an action message for the first of three times (R455). -/
def sendAction (s : State) (typ arg time : Nat) : State :=
  let (q, s) := nextRingSeq s
  (sendRing s typ q time 0 arg).drkU (fun d => { d with reps := d.reps ++ [⟨typ, q, time, arg, 2, s.now + 100000⟩] })

/-- PIN_QUALIFIED_EDGE (R451): the samples of pin k have shown a level since `ago` µs; it qualifies once that is QUAL. The edge into the
active level carries out RECORD, STOP or MARK; with FWD_PINS it sends the message instead, and acts at the carried time. -/
def pinQualifiedEdge (k : Fin 16) (level : Bool) (ago : Nat) (rivals : List Rival) (s : State) : State :=
  if ago < 100 * s.g R.DRK_PIN_QUAL_QUAL then s
  else
  let func := s.g (R.DRK_PIN_FUNC k)
  let active := level != s.on (R.DRK_PIN_POL k)
  let was := s.g R.DRK_PIN_IN_LEVEL
  let now := was - bitOf was k * 2 ^ k.val + b2n active * 2 ^ k.val
  let s := s.u R.DRK_PIN_IN_LEVEL now
  if !active || bitOf was k == 1 || func == 0 || decide (3 < func) then s
  else
    let arg := s.g (R.DRK_PIN_ARG k)
    if s.on R.DRK_CTRL_FWD_PINS then
      let t := leadTime s
      (sendAction s (func + 1) arg t).drkU (fun d => { d with acts := d.acts ++ [⟨func + 1, arg, t, some k.val⟩] })
    else ringDo s (func + 1) arg .pins k.val rivals

def execPinQualifiedEdge (k : Fin 16) (level : Bool) (ago : Nat) (rivals : List Rival) (s : State) : Host.Outcome State Fault Refusal :=
  answer s (pinQualifiedEdge k level ago rivals)

/-- What an output pin drives (R451): TALLY, FAULT_N and GPO; none for a pin that is an input, and for every pin in reset and in RECOVERY
(R505). -/
def pinDrive (s : State) (k : Fin 16) : Option Bool :=
  let arg := s.g (R.DRK_PIN_ARG k) % 256
  let out := fun (active : Bool) => some (active != s.on (R.DRK_PIN_POL k))
  let func := s.g (R.DRK_PIN_FUNC k)
  if !s.live then none
  else if func = 5 then
    out (stations.any (fun n => bitOf arg n == 1 && beams.any (fun m => bitOf (s.g (R.WRS_STATUS_WRITING n)) m == 1)))
  else if func = 6 then
    some (!(stations.any (fun n => bitOf arg n == 1 && stSt s n == stFAULTED) || contained s ||
      (pairMode s != 0 && pairSt s != pPAIRED)))
  else if func = 7 then some (s.on (R.DRK_PIN_DRIVE k))
  else none

/-- An action is remembered, so that it is acted on once (R455). A sequence number comes round again after 256 messages: those half a round
or more behind are forgotten (DESIGN CHOICE). (log entry 63) -/
def remember (s : State) (origin typ seq : Nat) : State :=
  s.drkU (fun d => { d with
    seen := d.seen.filter (fun e => !(e.1 == origin && e.2.1 == typ && 128 ≤ (seq + 256 - e.2.2) % 256)) ++ [(origin, typ, seq)] })

/-- An action message of another node (R450, R455). -/
def ringAction (s : State) (typ origin seq time arg : Nat) : State :=
  let accept := if typ = 2 then s.on R.DRK_CTRL_ACCEPT_START else if typ = 3 then s.on R.DRK_CTRL_ACCEPT_STOP
    else s.on R.DRK_CTRL_ACCEPT_MARK
  if !accept || s.drk.seen.contains (origin, typ, seq) then s
  else
    let s := remember s origin typ seq
    if time < s.now then ringDo (s.bump R.DRK_CNT_LATE) typ arg .ring 0xFF []
    else s.drkU (fun d => { d with acts := d.acts ++ [⟨typ, arg, time, none⟩] })

/-- TIME of another node (R454, R462): a second master logs RING_FAULT, and of the two the one with the higher NODE_ID stands down and
follows. (log entry 66) -/
def ringTime (s : State) (origin time corr : Nat) : State :=
  let master := s.on R.DRK_CTRL_TIME_MASTER
  let s := if master then ringFault s 3 else s
  let s := if master && decide (origin < s.g R.DRK_CTRL_NODE_ID) then s.drkU (fun d => { d with stood := some s.now })
    else if s.drk.stood.isSome then s.drkU (fun d => { d with stood := some s.now }) else s
  if s.g R.QTZ_CTRL_SOURCE = 1 ∧ (master = false ∨ s.drk.stood.isSome = true) then
    quartzRef s ((time + corr + s.g R.DRK_DELAY_LINK_DELAY : Nat) - (s.now : Nat))
  else s

/-- A message is taken by its type (R453 to R455). -/
def ringTake (s : State) (typ origin seq time corr arg : Nat) : State :=
  if typ = 1 then ringTime s origin time corr
  else if typ = 2 ∨ typ = 3 ∨ typ = 4 then ringAction s typ origin seq time arg
  else if typ = 5 then
    if (pinsWith s 4).isEmpty then (s.wr R.QTZ_TC (BitVec.ofNat 32 corr)).u64 R.QTZ_TC_TIME_LO time else s
  else if typ = 6 then
    let uid := (s.cgl.peer.map (fun p => p.uid.toNat)).getD (s.g64 R.CGL_PEER_UID_LO)
    if time = uid then refreshAlive (s.cglU (fun c => { c with alive := some s.now })) else s
  else s

/-- A message with this node's own ORIGIN is removed (R452). One it sent gives the round trip of TIME (R454); one it did not send is
RING_FAULT with cause 2 (R462). -/
def ringOwn (s : State) (typ seq : Nat) : State :=
  if s.drk.own.contains (typ, seq) then
    let s := s.drkU (fun d => { d with own := d.own.erase (typ, seq) })
    match s.drk.sent.find? (fun t => t.1 == seq && typ == 1) with
    | some t => (s.u R.DRK_RTT_RTT (min (2 ^ 32 - 1) (s.now - t.2))).drkU (fun d => { d with sent := d.sent.filter (fun x => x.1 != seq) })
    | none => s
  else ringFault s 2

/-- RING_MESSAGE (R452 to R455): 21 bytes arrive on IN. They are checked, taken, and forwarded or removed. (log entry 62) -/
def ringMessage (bytes : List (BitVec 8)) (s : State) : State :=
  if s.on R.DRK_CTRL_EN = false ∨ bytes.length ≠ 21 ∨ bytes.head? ≠ some 0xBC#8 then s
  else
    let n := fun a k => numBE ((bytes.drop a).take k)
    let s := (s.u R.DRK_STATUS_IN_LOCK 1).bump R.DRK_CNT_RX
    if n 19 2 ≠ ringCrc ((bytes.drop 1).take 18) then s.bump R.DRK_CNT_CRC
    else if n 2 1 = s.g R.DRK_CTRL_NODE_ID then ringOwn s (n 1 1) (n 3 1)
    else if 32 ≤ n 4 1 then s
    else
      let corr := if n 1 1 = 1 then (n 13 4 + 400 + s.g R.DRK_DELAY_LINK_DELAY) % 2 ^ 32 else n 13 4
      let s := ringTake s (n 1 1) (n 2 1) (n 3 1) (n 5 8) (n 13 4) (n 17 2)
      s.emit (.ring (ringBytes (n 1 1) (n 2 1) (n 3 1) (n 4 1 + 1) (n 5 8) corr (n 17 2)))

def execRingMessage (bytes : List (BitVec 8)) (s : State) : Host.Outcome State Fault Refusal := answer s (ringMessage bytes)

/-- The action that falls due first. -/
def dueAct (s : State) : Option RingAct :=
  (s.drk.acts.filter (fun a => decide (a.time ≤ s.now))).foldl (fun best a => match best with
    | none => some a
    | some b => if a.time < b.time then some a else some b) none

/-- RING_ACTION_TIME (R450, R455): an action is carried out at its time. -/
def ringActionTime (rivals : List Rival) (s : State) : State :=
  match dueAct s with
  | none => s
  | some a =>
    let s := s.drkU (fun d => { d with acts := d.acts.erase a })
    match a.pin with
    | some k => ringDo s a.typ a.arg .pins k rivals
    | none => ringDo s a.typ a.arg .ring 0xFF rivals

def execRingActionTime (rivals : List Rival) (s : State) : Host.Outcome State Fault Refusal := answer s (ringActionTime rivals)

/-- TIME_SEND (R454): the time master, unless it stands down. (log entry 66) -/
def timeSend (s : State) : State :=
  if s.on R.DRK_CTRL_TIME_MASTER && s.on R.DRK_CTRL_EN && s.drk.stood.isNone then
    let q := s.drk.seq
    (sendRingNew s 1 s.now 0 0).drkU (fun d => { d with sent := d.sent.filter (fun x => x.1 != q) ++ [(q, s.now)] })
  else s

def execTimeSend (s : State) : Host.Outcome State Fault Refusal := answer s timeSend

/-- RING_REPEAT_SEND (R455): the oldest action message that is not sent three times yet goes out once more, 100 µs after the time before. -/
def ringRepeatSend (s : State) : State :=
  match s.drk.reps.find? (fun r => decide (r.due ≤ s.now)) with
  | none => s
  | some r =>
    (sendRing s r.typ r.seq r.time 0 r.arg).drkU (fun d => { d with
      reps := d.reps.erase r ++ (if r.left ≤ 1 then [] else [{ r with left := r.left - 1, due := r.due + 100000 }]) })

def execRingRepeatSend (s : State) : Host.Outcome State Fault Refusal := answer s ringRepeatSend

/-- PAIR_ALIVE_SEND (R453, R455). -/
def pairAliveSend (s : State) : State :=
  if pairMode s = 0 then s else sendRingNew s 6 Config.uid.toNat (s.g R.CGL_EPOCH_EPOCH) (pairSt s)

def execPairAliveSend (s : State) : Host.Outcome State Fault Refusal := answer s pairAliveSend

/-- DRK_SEND START (R455, R462). The sending node does not act on it. -/
def drkSendStart (arg : BitVec 16) (s : State) : State := sendAction s 2 arg.toNat (leadTime s)

def execDrkSendStart (arg : BitVec 16) (s : State) : Host.Outcome State Fault Refusal := answer s (drkSendStart arg)

/-- DRK_SEND STOP (R455, R462). -/
def drkSendStop (arg : BitVec 16) (s : State) : State := sendAction s 3 arg.toNat (leadTime s)

def execDrkSendStop (arg : BitVec 16) (s : State) : Host.Outcome State Fault Refusal := answer s (drkSendStop arg)

/-- DRK_SEND MARK (R455, R462). -/
def drkSendMark (arg : BitVec 16) (s : State) : State := sendAction s 4 arg.toNat (leadTime s)

def execDrkSendMark (arg : BitVec 16) (s : State) : Host.Outcome State Fault Refusal := answer s (drkSendMark arg)

/-- RING_IN_LOCK_LOSS (R456): BYP_N stays as it is, and Quartz keeps running. -/
def ringInLockLoss (s : State) : State :=
  if s.on R.DRK_STATUS_IN_LOCK then ringFault (s.u R.DRK_STATUS_IN_LOCK 0) 1 else s

def execRingInLockLoss (s : State) : Host.Outcome State Fault Refusal := answer s ringInLockLoss

/-- TIME_MASTER_RESUME (R462): 10 ms without a TIME message of another node. -/
def timeMasterResume (s : State) : State :=
  if s.drk.stood.any (fun t => decide (t + 10000000 ≤ s.now)) then s.drkU (fun d => { d with stood := none }) else s

def execTimeMasterResume (s : State) : Host.Outcome State Fault Refusal := answer s timeMasterResume

end Sys2Proof.Machine
end

