-- ==== Sys2Proof/Machine/Flags.lean ====
section
/-!
DEFINITION. What an access does to the fields and flags of a register, by their access codes (R13, R14, R54).
-/

namespace Sys2Proof.Machine

/-- The bits of a field of the layout, as a mask. -/
def Field.mask (f : Field) : Word := BitVec.ofNat 32 ((2 ^ f.w - 1) * 2 ^ f.lo)

/-- What a write leaves of one field, for the bits that the enabled bytes hold: RW and RWA take the data, W1C and W1S clear and set the
bits written 1; RO, RC and WO fields stay (R13). The copy that is written is the caller's. -/
def writeField (m data w : Word) (f : Field) : Word :=
  let k := f.mask &&& m
  match f.acc with
  | .rw | .rwa => (w &&& ~~~ k) ||| (data &&& k)
  | .w1c => w &&& ~~~ (data &&& k)
  | .w1s => w ||| (data &&& k)
  | .ro | .wo | .rc => w

/-- What a write leaves of a register whose bits outside its fields are reserved (R14). -/
def writeWord (fs : List Field) (m data w : Word) : Word := fs.foldl (writeField m data) w

/-- The bits of a register that the fields of some access codes hold. -/
def accMask (fs : List Field) (c : Acc → Bool) : Word :=
  fs.foldl (fun m f => if c f.acc then m ||| f.mask else m) 0#32

/-- What a register reads as: WO and reserved bits read 0 (R13, R14). -/
def readWord (fs : List Field) (w : Word) : Word := w &&& accMask fs (fun c => c != .wo)

/-- What a read leaves of a register (R13, R54): an RC field whose bytes are all enabled is cleared. -/
def clearOnRead (fs : List Field) (m w : Word) : Word :=
  fs.foldl (fun w f => if f.acc = .rc ∧ f.mask &&& ~~~ m = 0#32 then w &&& ~~~ f.mask else w) w

/-- The register is a command: it holds a WO field (R39, R54). -/
def isCommand (fs : List Field) : Bool := fs.any (fun f => f.acc == .wo)

/-- A write changes something of the register (R52): it holds an RW, RWA, W1C or W1S field. -/
def isWritable (fs : List Field) : Bool :=
  fs.any (fun f => f.acc == .rw || f.acc == .rwa || f.acc == .w1c || f.acc == .w1s)

end Sys2Proof.Machine
end

