-- ==== Sys2Proof/Machine/Onyx.lean ====
section
/-!
DEFINITION. The meanings of Onyx's commands (R345 to R350, R366): misses, fills, maintenance operations.
-/

namespace Sys2Proof.Machine

/-- A request that missed after an operation on its line was queued waits for it (R349). -/
def missWaits (s : State) (m : OnxMiss) : Bool := m.after && opAhead s m.line

/-- The parity of a line fails as it is read (R350): a clean line is invalidated and fetched again; a dirty one is rebuilt from the
DRAM copy and the journal. -/
def parityError (s : State) (l : Nat) : State :=
  let held := (s.onx.ways.filter (fun w => w.line == l)).map OnxWay.dirty ++ (s.onx.victims.filter (fun v => v.1 == l)).map Prod.snd
  match held with
  | [] => s
  | true :: _ => s.bump R.ONX_CNT_PARITY_DIRTY
  | false :: _ =>
    let s := (s.bump R.ONX_CNT_PARITY_CLEAN).onxU (fun o => { o with
      ways := o.ways.filter (fun w => w.line != l)
      victims := o.victims.filter (fun v => v.1 != l)
      misses := o.misses ++ [⟨l, none, false, false, opAhead s l⟩] })
    refreshOnx s

/-- ONYX_MISS (R346, R349): the first queued miss that need not wait chooses its way and is fetched. `bad` names a line whose parity
failed as it was read. -/
def onyxMiss (bad : Option Nat) (s : State) : State :=
  let s := match bad with
    | some l => parityError s l
    | none => s
  match s.onx.misses.find? (fun m => m.way.isNone && !missWaits s m) with
  | none => s
  | some m =>
    let w := wayFor s m.line
    let s := if s.on R.ONX_CTRL_REPL then s.onxU (fun o => { o with lfsr := lfsrNext o.lfsr }) else s
    let s := evict s (setOf m.line) w
    s.onxU (fun o => { o with misses := o.misses.map (fun x => if x = m then { x with way := some w } else x) })

def execOnyxMiss (bad : Option Nat) (s : State) : Host.Outcome State Fault Refusal := answer s (onyxMiss bad)

/-- The way that a fill is installed in: the one chosen at the miss, unless it was locked for another line since, or the line was
locked into another (R347). (log entry 34) -/
def fillWay (s : State) (l w : Nat) : Nat :=
  if lockedWay s (setOf l) w || s.onx.locks.any (fun k => k.line == l) then wayFor s l else w

/-- ONYX_FILL_COMPLETE (R346, R349): the line is installed; a poisoned fill is not, and only the requests that missed before the operation get its
data. (log entry 34) -/
def onyxFillComplete (line : Nat) (s : State) : State :=
  match s.onx.misses.find? (fun m => m.line == line && m.way.isSome) with
  | none => s
  | some m =>
    let s := s.onxU (fun o => { o with misses := o.misses.filter (fun x => x != m) })
    if m.poisoned then
      let s := (s.bump R.ONX_CNT_POISONED).onxU (fun o => { o with given := if o.given.contains line then o.given else o.given ++ [line] })
      if m.dirty then writeBack s line else s
    else installAt s line (fillWay s line (m.way.getD 0)) m.dirty

def execOnyxFillComplete (line : Nat) (s : State) : Host.Outcome State Fault Refusal := answer s (onyxFillComplete line)

/-- An operation is commanded (R348, R349, R366): while one runs it is refused. -/
def onxStart (cmd : Nat) (s : State) : State :=
  if s.on R.ONX_OP_STATUS_BUSY then s.u R.ONX_OP_STATUS_REFUSED 1
  else (s.u R.ONX_OP_STATUS_BUSY 1).onxU (fun o => { o with
    op := some ⟨cmd, s.g R.ONX_OP_FIRST_ENTRY, s.g R.ONX_OP_COUNT_COUNT, o.misses.map OnxMiss.line⟩ })

/-- ONX_INVALIDATE (R348). -/
def onxInvalidate (s : State) : State := onxStart 1 s
/-- ONX_CLEAN (R348). -/
def onxClean (s : State) : State := onxStart 2 s
/-- ONX_CLEAN_INVALIDATE (R348). -/
def onxCleanInvalidate (s : State) : State := onxStart 3 s
/-- ONX_LOCK (R347). -/
def onxLock (s : State) : State := onxStart 4 s
/-- ONX_UNLOCK (R347). -/
def onxUnlock (s : State) : State := onxStart 5 s

def execOnxInvalidate (s : State) : Host.Outcome State Fault Refusal := answer s onxInvalidate
def execOnxClean (s : State) : Host.Outcome State Fault Refusal := answer s onxClean
def execOnxCleanInvalidate (s : State) : Host.Outcome State Fault Refusal := answer s onxCleanInvalidate
def execOnxLock (s : State) : Host.Outcome State Fault Refusal := answer s onxLock
def execOnxUnlock (s : State) : Host.Outcome State Fault Refusal := answer s onxUnlock

/-- The lines held, in the sets and in the victim cache, with whether they are dirty. -/
def heldLines (s : State) : List (Nat × Bool) := s.onx.ways.map (fun w => (w.line, w.dirty)) ++ s.onx.victims

/-- A line is invalidated (R348): a dirty one is written back first. -/
def dropLine (s : State) (p : Nat × Bool) : State :=
  let s := if p.2 then writeBack s p.1 else s
  refreshOnx (s.onxU (fun o => { o with
    ways := o.ways.filter (fun w => w.line != p.1)
    victims := o.victims.filter (fun v => v.1 != p.1) }))

/-- LOCK of a line (R347). A line that stands in a way locked for another line moves to an unlocked one. -/
def lockLine (s : State) (l : Nat) : State :=
  let set := setOf l
  if s.onx.locks.any (fun k => k.line == l) then s
  else if 8 ≤ (s.onx.locks.filter (fun k => k.set == set)).length then s.u R.ONX_OP_STATUS_LOCK_FULL 1
  else
    let tag := fun (s : State) (way : Nat) => refreshOnx (s.onxU (fun o => { o with locks := o.locks ++ [⟨set, way, l⟩] }))
    match wayOf s l with
    | some w =>
      if lockedWay s set w.way then
        let v := chooseWay s set
        tag (installAt (s.onxU (fun o => { o with ways := o.ways.filter (fun x => x.line != l) })) l v w.dirty) v
      else tag s w.way
    | none => (touch (tag s (chooseWay s set)) l false).2

/-- UNLOCK of a line (R347). -/
def unlockLine (s : State) (l : Nat) : State :=
  refreshOnx (s.onxU (fun o => { o with locks := o.locks.filter (fun k => k.line != l) }))

/-- The lines of an operation's range. -/
def opLines (o : OnxOp) : List Nat :=
  let last := min (o.first + o.count) mapSize
  if o.count = 0 ∨ mapSize ≤ o.first then []
  else (List.range ((last - 1) / 2 + 1 - o.first / 2)).map (fun i => o.first / 2 + i)

/-- ONX_OPERATION_END (R347 to R349): the operation has acted on every line of its range, and ends. (log entry 34) -/
def onxOperationEnd (s : State) : State :=
  match s.onx.op with
  | none => s
  | some o =>
    let s := s.onxU (fun x => { x with op := none, misses := x.misses.map (fun m =>
      if o.before.contains m.line && opCovers o m.line && !m.after then { m with poisoned := true } else { m with after := false }) })
    let hit := (heldLines s).filter (fun p => opCovers o p.1)
    let s :=
      if o.cmd = 1 ∨ o.cmd = 3 then s.each hit dropLine
      else if o.cmd = 2 then s.each (hit.filter Prod.snd) (fun s p => writeBack s p.1)
      else if o.cmd = 4 then s.each (opLines o) lockLine
      else s.each (s.onx.locks.filter (fun k => opCovers o k.line)) (fun s k => unlockLine s k.line)
    s.us [(R.ONX_OP_STATUS_BUSY, 0), (R.ONX_OP_STATUS_DONE, 1)]

def execOnxOperationEnd (s : State) : Host.Outcome State Fault Refusal := answer s onxOperationEnd

end Sys2Proof.Machine
end

