-- ==== Sys2Proof/Machine/Quartz.lean ====
section
/-!
DEFINITION. The meanings of Quartz's commands (R457, R459).
-/

namespace Sys2Proof.Machine

/-- Nominal frame periods in µs, by the class of R459: 24, 25, 29.97 and 30 frames per second. -/
def ltcNominal : List Nat := [41667, 40000, 33367, 33333]

/-- The class of frame rate whose nominal period 16 frames come nearest to (R459). Between two that are equally near the spec does not
choose: a free value does. (log entry 64) -/
def ltcClass (s : State) (sum : Nat) : Nat × State :=
  let far := fun (i : Nat) => let n := 16 * (ltcNominal[i]?).getD 0; (sum - n) + (n - sum)
  let best := (List.range 4).foldl (fun m i => min m (far i)) (far 0)
  match (List.range 4).filter (fun i => far i == best) with
  | [a] => (a, s)
  | l => ((l[s.freeVal % max 1 l.length]?).getD 0, s.tick)

/-- TC_RATE of a class and the drop-frame flag (R459, R463). (log entry 64) -/
def ltcRate (cls : Nat) (drop : Bool) : Nat := if cls = 2 then (if drop then 2 else 4) else cls

/-- The nominal period of a TC_RATE, µs. -/
def ratePeriod (rate : Nat) : Nat := if rate = 2 ∨ rate = 4 then 33367 else (ltcNominal[rate]?).getD 33333

/-- LTC_FRAME (R459): a frame of the LTC_IN pin. `period` is its measured period in µs, `start` the Quartz time of its bit 0. -/
def ltcFrame (good : Bool) (tc : BitVec 32) (drop : Bool) (period start : Nat) (s : State) : State :=
  if (pinsWith s 4).isEmpty then s
  else if !good then s.qtzU (fun q => { q with bad := q.bad + 1, run := 0 })
  else
    let ps := (period :: s.qtz.periods).take 16
    let sum := ps.foldl (· + ·) 0
    let s := (s.wr R.QTZ_TC tc).u64 R.QTZ_TC_TIME_LO (start % 2 ^ 64)
    let s := s.qtzU (fun q => { q with periods := ps, bad := 0, run := q.run + 1, lastGood := s.now })
    let s :=
      if ps.length < 16 then s
      else
        let (cls, s) := ltcClass s sum
        let rate := ltcRate cls drop
        let s := s.qtzU (fun q => if q.cand = rate then { q with held := q.held + 1 } else { q with cand := rate, held := 1 })
        let s := if s.on R.QTZ_STATUS_TC_VALID then
            (if 16 ≤ s.qtz.held then s.u R.QTZ_STATUS_TC_RATE rate else s)
          else if 16 ≤ s.qtz.run then s.us [(R.QTZ_STATUS_TC_VALID, 1), (R.QTZ_STATUS_TC_RATE, rate)]
          else s
        if s.on R.QTZ_STATUS_TC_VALID then
          s.qtzU (fun q => { q with rate := 2 ^ 32 * 16 * ratePeriod (s.g R.QTZ_STATUS_TC_RATE) / max 1 sum })
        else s
    if s.on R.DRK_CTRL_TIME_MASTER then sendRingNew s 5 start tc.toNat 0 else s

def execLtcFrame (good : Bool) (tc : BitVec 32) (drop : Bool) (period start : Nat) (s : State) : Host.Outcome State Fault Refusal :=
  answer s (ltcFrame good tc drop period start)

/-- TC_VALID_LOSS (R459): after eight frames without a good one. -/
def tcValidLoss (s : State) : State :=
  let silent := decide (s.qtz.lastGood + 8000 * ratePeriod (s.g R.QTZ_STATUS_TC_RATE) ≤ s.now)
  if s.on R.QTZ_STATUS_TC_VALID && (decide (8 ≤ s.qtz.bad) || silent) then
    (s.u R.QTZ_STATUS_TC_VALID 0).qtzU (fun q => { q with periods := [], run := 0, cand := 0, held := 0, rate := 2 ^ 32 })
  else s

def execTcValidLoss (s : State) : Host.Outcome State Fault Refusal := answer s tcValidLoss

/-- QUARTZ_REFERENCE_UPDATE (R457, R458): a measured offset of the reference that SOURCE selects. The ROLE 0 partner is the one that is
followed. -/
def quartzReferenceUpdate (o : Int) (s : State) : State :=
  let src := s.g R.QTZ_CTRL_SOURCE
  if src = 1 ∨ (src = 2 ∧ s.on R.CGL_CTRL_ROLE = true) then quartzRef s o else s

def execQuartzReferenceUpdate (o : Int) (s : State) : Host.Outcome State Fault Refusal := answer s (quartzReferenceUpdate o)

/-- QTZ_SET (R457, R463): a later time is set at once, an earlier one is refused. (log entry 65) -/
def qtzSet (t : BitVec 64) (s : State) : State :=
  let s := s.u64 R.QTZ_SET_LO t.toNat
  if t.toNat < s.now then s.u R.QTZ_STATUS_SET_REFUSED 1 else setQuartz s t.toNat

def execQtzSet (t : BitVec 64) (s : State) : Host.Outcome State Fault Refusal := answer s (qtzSet t)

/-- TIME_FOLLOWER_CORRECTION (R31, R457): Quartz has counted `dt` nanoseconds of its crystal, and each follower takes its time
within 8 ns: by how much it is off a free value says. Under
SOURCE LTC it runs at the measured rate. While it slews, it removes some of the offset: at most at SLEW_MAX, and no more than takes 1 s in
all; how much the spec leaves open, and a free value says. (log entries 6, 64, 66) -/
def timeFollowerCorrection (dt : Nat) (s : State) : State :=
  let q := s.qtz
  let base := if s.g R.QTZ_CTRL_SOURCE = 3 then 65536 * dt * q.rate / 2 ^ 32 else 65536 * dt
  let most := min q.slew.natAbs (min (dt * q.slewFrom.natAbs / 1000000000) (65536 * dt * s.g R.QTZ_LIMITS_SLEW_MAX / 1000000))
  let r := s.freeVal % (most + 1)
  let s := if most = 0 then s else s.tick
  let total := if 0 ≤ q.slew then q.frac + base + r else q.frac + base - min base r
  let s := s.qtzU (fun x => { x with frac := total % 65536, slew := if 0 ≤ q.slew then q.slew - (r : Nat) else q.slew + (r : Nat) })
  let s := setQuartz s (s.now + total / 65536)
  s.tick.qtzU (fun x => { x with skew := Vector.ofFn (fun d => ((s.freeVal / 17 ^ d.val % 17 : Nat) : Int) - 8) })

def execTimeFollowerCorrection (dt : Nat) (s : State) : Host.Outcome State Fault Refusal :=
  if s.sys.held = .power then .next s else .next (timeFollowerCorrection dt s)

end Sys2Proof.Machine
end

