-- ==== Sys2Proof/Machine/Sled.lean ====
section
/-!
DEFINITION. The meanings of the sled's commands (chapter "Sled Motion and Gearing"). The profile is computed exactly, in
fractions, at its 10 kHz ticks.
-/

namespace Sys2Proof.Machine

/-- A profile tick, in s. -/
def tickS : Rat := 1 / 10000

/-- The profile takes a tick: the distance in µm and the new speed, in the direction of motion (`out`ward or not). -/
def advance (s : State) (n : Fin 8) (out : Bool) (dist v : Rat) : State :=
  let d := umToSteps dist
  s.sldU n (fun x => { x with
    prev := x.pos
    pos := if out then x.pos + d else x.pos - d
    vel := if out then v else -v
    subs := 0 })

/-- The speed of the sled without its sign, µm/s. -/
def speedOf (s : State) (n : Fin 8) : Rat := let v := (s.sld[n]).vel; if v < 0 then -v else v

/-- The distance a ramp covers in one tick, from v at a deceleration of a µm/s², and the speed it leaves. -/
def rampTick (v a : Rat) : Rat × Rat :=
  if v ≤ a * tickS then (if a = 0 then 0 else v * v / (2 * a), 0) else (v * tickS - a * tickS * tickS / 2, v - a * tickS)

/-- The move has reached its target (R255). -/
def arrive (s : State) (n : Fin 8) (t : Int) : State :=
  (s.sldU n (fun x => { x with prev := x.pos, pos := (t : Rat), vel := 0, subs := 0 }))

/-- The highest speed, in whole 2⁻²⁰ µm/s, that a tick may reach from v so that braking at a deceleration of a µm/s² from there still
stops within a distance: with half a tick of a as b, √(b² + 2·a·dist − 2·b·v) − b. (log entry 26) -/
def peakSpeed (v a dist : Rat) : Rat :=
  let b := a * tickS / 2
  let q := b * b + 2 * a * dist - 2 * b * v
  (isqrt (q * 2 ^ 40).floor.toNat : Rat) / 2 ^ 20 - b

/-- One tick of a profile toward a target (R255, R256), with a top speed: it accelerates as far as braking at DECEL still stops on the
target, and otherwise brakes so as to stop exactly there. While it brakes it accelerates no more, but holds its speed where a raised DECEL
lets it. A braking rate above DECEL is the clamp of R256. -/
def profileStep (s : State) (n : Fin 8) (t : Int) (vmax : Nat) : State :=
  let x := s.sld[n]
  let out := decide (x.pos < (t : Rat))
  let far : Rat := (if out then (t : Rat) - x.pos else x.pos - (t : Rat)) * 15 / 256
  let v := speedOf s n
  let dec : Rat := (1000 * s.g (R.SLD_ACCEL_DECEL n) : Nat)
  let acc : Rat := (1000 * s.g (R.SLD_ACCEL_ACCEL n) : Nat)
  let can := fun (dist v1 : Rat) => decide (v1 * v1 ≤ 2 * dec * (far - dist))
  let top : Rat := (vmax : Nat)
  let v1 := if top < v then max top (v - dec * tickS) else if x.braking then v else min top (v + acc * tickS)
  let peak := min v1 (peakSpeed v dec far)
  if far = 0 then arrive s n t
  else if can ((v + v1) / 2 * tickS) v1 then advance s n out ((v + v1) / 2 * tickS) v1
  else if !x.braking ∧ v < peak then advance s n out ((v + peak) / 2 * tickS) peak
  else
    let need := v * v / (2 * far)
    let clamp := decide (dec < need)
    let s := if clamp ∧ !x.clamped then (s.u (R.SLD_STATUS_DECEL_CLAMPED n) 1).bump (R.SLD_CNT_CLAMPED n) else s
    let s := s.sldU n (fun x => { x with clamped := x.clamped || clamp, braking := true })
    let (dist, v2) := rampTick v need
    if v = 0 ∨ v2 = 0 then arrive s n t else advance s n out dist v2

/-- A profile at a constant speed in one direction, at ACCEL (R268). -/
def cruise (s : State) (n : Fin 8) (out : Bool) (v : Nat) : State :=
  let a : Rat := (1000 * s.g (R.SLD_ACCEL_ACCEL n) : Nat)
  let v0 := speedOf s n
  let v1 := min (v : Rat) (v0 + a * tickS)
  advance s n out ((v0 + v1) / 2 * tickS) v1

/-- One tick of a ramp to rest at a deceleration in mm/s². -/
def restTick (s : State) (n : Fin 8) (decel : Nat) : State :=
  let out := decide (0 < (s.sld[n]).vel)
  let (d, v) := rampTick (speedOf s n) (1000 * decel : Nat)
  advance s n out d v

/-- A step of homing begins where the sled stands (R268). -/
def homeTo (s : State) (n : Fin 8) (k : Nat) : State :=
  s.sldU n (fun x => { x with homeStep := k, homeFrom := x.pos, braking := false, clamped := false })

/-- A ramp to rest has ended. -/
def stopDone (s : State) (n : Fin 8) : State :=
  match (s.sld[n]).stopFor with
  | .idle => slRest s n slIDLE
  | .unref => slRest s n slUNREF
  | .retarget => match (s.sld[n]).nextTarget with
    | some t => if targetOk s n t then startMove s n t else slRefuse (slRest s n slIDLE) n
    | none => slRest s n slIDLE
  | .homing k => homeTo (slEnter s n slHOMING) n k

/-- One tick of a ramp stop (R252, R266, R268). -/
def stopTick (s : State) (n : Fin 8) : State :=
  let s := restTick s n (if (s.sld[n]).limitRamp then s.g (R.SLD_STOPS_LIMIT_DECEL n) else s.g (R.SLD_ACCEL_DECEL n))
  if (s.sld[n]).vel = 0 then stopDone s n else s

/-- Homing fails at a tick, which begins the ramp (R269). -/
def homingFailsTick (s : State) (n : Fin 8) (cause : Nat) : State :=
  let s := homingFails s n cause
  if slSt s n = slSTOPPING then stopTick s n else s

/-- One tick of homing (R268, R269). Steps 1, 3 and 4 move; 2, 30 and 40 ramp to rest after them; 5 moves to HOME_EXIT. -/
def homeTick (s : State) (n : Fin 8) : State :=
  let x := s.sld[n]
  let lim := s.g (R.SLD_STOPS_LIMIT_DECEL n)
  let gone : Rat := (if x.homeFrom < x.pos then x.pos - x.homeFrom else x.homeFrom - x.pos) * 15 / 256
  let ramped := fun (next : Nat) =>
    let s := restTick s n lim
    if (s.sld[n]).vel = 0 then homeTo s n next else s
  if x.homeStep = 1 then if 41000 ≤ gone then homingFailsTick s n 2 else cruise s n false 2000
  else if x.homeStep = 2 then ramped 3
  else if x.homeStep = 3 then if 2000 ≤ gone then homingFailsTick s n 3 else cruise s n true 500
  else if x.homeStep = 30 then ramped 4
  else if x.homeStep = 4 then cruise s n false 200
  else if x.homeStep = 40 then ramped 5
  else
    let t : Int := s.g (R.SLD_HOMING_HOME_EXIT n)
    let s := profileStep s n t (s.g (R.SLD_VMAX_VMAX n))
    if (s.sld[n]).vel = 0 ∧ (s.sld[n]).pos = (t : Rat) then slRest s n slIDLE else s

/-- A new target of a move under way (R257): the profile goes on to it where braking at DECEL stops on it, and else the sled
comes to rest first. -/
def retarget (s : State) (n : Fin 8) (t : Int) : State :=
  let x := s.sld[n]
  let out := decide (0 < x.vel)
  let far : Rat := (if out then (t : Rat) - x.pos else x.pos - (t : Rat)) * 15 / 256
  if x.vel = 0 ∨ (0 ≤ far ∧ brakeDist (speedOf s n) (s.g (R.SLD_ACCEL_DECEL n)) ≤ far) then
    s.sldU n (fun x => { x with target := t, nextTarget := none, braking := false })
  else startStop (s.sldU n (fun x => { x with nextTarget := some t })) n .retarget false

/-- A limit stop of the tick that ends is logged and counted (R263, R266): 1 SOFT, 2 SWITCH. -/
def logLimit (s : State) (n : Fin 8) : State :=
  match (s.sld[n]).limit with
  | some (cause, at') => ((s.bump (R.SLD_CNT_LIMIT n)).log 0x108 n [cause, ofSigned 32 at']).sldU n (fun x => { x with limit := none })
  | none => s

/-- The first tick of a move counts it (R272). -/
def countMove (s : State) (n : Fin 8) : State :=
  let s := if (s.sld[n]).fresh ∧ slSt s n = slMOVING then s.bump (R.SLD_CNT_MOVES n) else s
  s.sldU n (fun x => { x with fresh := false, moveNew := false, moveFrom := none })

/-- SLED_PROFILE_TICK (R253, R255 to R258, R268): at 10 kHz. -/
def profileTick (n : Fin 8) (s : State) : State :=
  let s := (logLimit s n).sldU n (fun x => { x with prev := x.pos, subs := 0 })
  if (s.sld[n]).halt then stnRun (hardStop (s.sldU n (fun x => { x with halt := false, moveNew := false, moveFrom := none })) n) n
  else
  let s := countMove s n
  let st := slSt s n
  if st = slMOVING then
    let s := match (s.sld[n]).nextTarget with
      | some t => retarget s n t
      | none => s
    if slSt s n = slSTOPPING then stopTick s n
    else
      let t := (s.sld[n]).target
      let s := profileStep s n t (s.g (R.SLD_VMAX_VMAX n))
      if (s.sld[n]).vel = 0 ∧ (s.sld[n]).pos = (t : Rat) then stnRun (slRest s n slIDLE) n else s
  else if st = slSTOPPING then
    let s := stopTick s n
    if (s.sld[n]).vel = 0 then stnRun s n else s
  else if st = slHOMING then homeTick s n
  else if st = slGEARED then
    s.sldU n (fun x => { x with corrOld := x.corr, corr := sledCorrection s n })
  else s

def execSledProfileTick (n : Fin 8) (s : State) : Host.Outcome State Fault Refusal := answer s (profileTick n)

/-- A limit stop is made, which the next tick logs (R263, R266, R270): 1 SOFT, 2 SWITCH. (log entry 25) -/
def limitStop (s : State) (n : Fin 8) (cause : Nat) : State :=
  s.sldU n (fun x => { x with limit := some (cause, x.cmd / q40) })

/-- The angle that has passed since the last update (R259, R261). -/
def gearAngle (s : State) (n : Fin 8) : Int :=
  let x := s.sld[n]
  if s.on (R.SPN_STATUS_ANGLE_VALID n) ∧ s.g (R.SPN_ANGLE_EPOCH n) = x.epoch then
    toSigned 16 ((((s.g (R.SPN_ANGLE_ANGLE n) : Nat) : Int) - x.angle) % 65536).toNat
  else 0

/-- One update of a geared sled (R259 to R263). -/
def gearUpdate (s : State) (n : Fin 8) : State :=
  let x := s.sld[n]
  let ratio := s.gi (R.SLD_GEAR_ACTIVE_RATIO n)
  let move := ratio * gearAngle s n
  let g := x.geared + move
  let reached := if ratio < 0 then decide (g ≤ x.changePos) else decide (x.changePos ≤ g)
  let s := if s.on (R.SLD_STATUS_CHANGE_ARMED n) && reached && ratio != 0 then
      (s.us [(R.SLD_STATUS_CHANGE_ARMED n, 0), (R.SLD_GEAR_ACTIVE_RATIO n, ofSigned 32 x.nextRatio)]).bump (R.SLD_CNT_GEAR_CHANGES n)
    else s
  let corr := x.corrOld + (x.corr - x.corrOld) * (min 20 (x.subs + 1) : Nat) / 20
  let cmd := g + corr - x.corrBase
  let s := s.sldU n (fun y => { y with
    geared := g, cmd := cmd, subs := min 20 (x.subs + 1)
    angle := if s.on (R.SPN_STATUS_ANGLE_VALID n) then s.g (R.SPN_ANGLE_ANGLE n) else x.angle
    epoch := if s.on (R.SPN_STATUS_ANGLE_VALID n) then s.g (R.SPN_ANGLE_EPOCH n) else x.epoch
    vel := ((cmd - x.cmd : Int) : Rat) * 200000 * 15 / 256 / q40 })
  let dir := s.gi (R.SLD_GEAR_ACTIVE_RATIO n) * (if move = 0 then 0 else if (move < 0) = (ratio < 0) then 1 else -1)
  let soft := decide (0 < dir ∧ softMax s n * q40 ≤ g) || decide (dir < 0 ∧ g ≤ softMin s n * q40)
  if soft then disturbance (refreshPos (slRest (limitStop ((foldGear s n).u (R.SLD_STATUS_CHANGE_ARMED n) 0) n 1) n slIDLE) n) n 10
  else refreshPos s n

/-- SLED_POSITION_UPDATE (R249, R255, R259): at 200 kHz. -/
def positionUpdate (n : Fin 8) (s : State) : State :=
  if slSt s n = slGEARED then gearUpdate s n
  else
    let k := min 20 ((s.sld[n]).subs + 1)
    refreshPos (s.sldU n (fun x => { x with
      subs := k, cmd := ((x.prev + (x.pos - x.prev) * (k : Nat) / 20) * q40).floor })) n

def execSledPositionUpdate (n : Fin 8) (s : State) : Host.Outcome State Fault Refusal := answer s (positionUpdate n)

/-- The microstep table address (R249), and an entry of the table, Q1.15. -/
def tableAddress (s : State) (n : Fin 8) : Nat :=
  (((s.sld[n]).cmd / q40 + s.g (R.SLD_GEOM_ELEC_OFFSET n)) % 1024).toNat
def microstep (s : State) (n a : Nat) : Int :=
  toSigned 16 (if a % 2 = 0 then s.g (R.SLD_TABLE_ENTRY_LO n (a / 2)) else s.g (R.SLD_TABLE_ENTRY_HI n (a / 2)))

/-- The current set-point of a phase, A (R249, R250). -/
def phaseSet (s : State) (n : Fin 8) (a : Nat) : Rat :=
  let amp := if (s.sld[n]).holding then s.g (R.SLD_CURRENT_I_HOLD n) else s.g (R.SLD_CURRENT_I_RUN n)
  ((microstep s n (a % 1024) * amp * s.g (R.SLD_CURRENT_I_FS n) : Int) : Rat) / ((32768 * 256 * 256 : Nat) : Rat)

/-- The duties of a phase's two outputs (R250): centre-aligned, with the regulator's voltage of the motor bus (10 mV) as their mean difference.
How the two share it the spec leaves open: evenly about one half (DESIGN CHOICE). (log entry 27) -/
def bridgeDuty (s : State) (v : Rat) : Rat × Rat :=
  let d := v * 50 / (s.g R.SPN_BUS_VOLT_VOLT : Rat)
  (clampR 0 1 (1 / 2 + d), clampR 0 1 (1 / 2 - d))

/-- SLED_CURRENT_PERIOD (R250): both PI regulators, from the phase currents sampled, in 1/32,768 of I_FS, and the PWM of the four outputs. -/
def currentPeriod (n : Fin 8) (iA iB : Int) (s : State) : State :=
  if slSt s n = slOFF ∨ slSt s n = slFAULT then
    s.sldU n (fun x => { x with intA := 0, intB := 0, outA := 0, outB := 0, pwm := Vector.replicate 4 0 })
  else
    let a := tableAddress s n
    let amps := fun (i : Int) => ((i * s.g (R.SLD_CURRENT_I_FS n) : Int) : Rat) / ((32768 * 256 : Nat) : Rat)
    let eA := phaseSet s n a - amps iA
    let eB := phaseSet s n (a + 256) - amps iB
    let kp : Rat := (s.g (R.SLD_CURPI_KP n) : Rat) / 256
    let ki : Rat := (s.g (R.SLD_CURPI_KI n) : Rat) / 256 / 40
    let outA := kp * eA + (s.sld[n]).intA + ki * eA
    let outB := kp * eB + (s.sld[n]).intB + ki * eB
    let dA := bridgeDuty s outA
    let dB := bridgeDuty s outB
    s.sldU n (fun x => { x with
      intA := x.intA + ki * eA, intB := x.intB + ki * eB, outA := outA, outB := outB, pwm := #v[dA.1, dA.2, dB.1, dB.2] })

def execSledCurrentPeriod (n : Fin 8) (iA : Int) (iB : Int) (s : State) : Host.Outcome State Fault Refusal :=
  answer s (currentPeriod n iA iB)

/-- SLED_OVERCURRENT (R250): a phase current, in 1/32,768 of I_FS, at or above I_FS. -/
def sledOvercurrent (n : Fin 8) (i : Int) (s : State) : State :=
  if i.natAbs < 32768 ∨ slSt s n = slOFF ∨ slSt s n = slFAULT then s else watchFaults (slFaults s n 1) n

def execSledOvercurrent (n : Fin 8) (i : Int) (s : State) : Host.Outcome State Fault Refusal := answer s (sledOvercurrent n i)

/-- SLED_HOLD_CURRENT (R250): HOLD_DELAY at rest has passed. -/
def holdCurrent (n : Fin 8) (s : State) : State :=
  let st := slSt s n
  if (st == slIDLE || st == slUNREF || st == slARMED) &&
      decide ((s.sld[n]).restFrom + 10000000 * s.g (R.SLD_CURPI_HOLD_DELAY n) ≤ s.now) then
    s.sldU n (fun x => { x with holding := true })
  else s

def execSledHoldCurrent (n : Fin 8) (s : State) : Host.Outcome State Fault Refusal := answer s (holdCurrent n)

/-- SLD_MOVE (R252). -/
def sldMove (n : Fin 8) (sync : Bool) (s : State) : State := slCommand s n 1 sync

def execSldMove (n : Fin 8) (sync : Bool) (s : State) : Host.Outcome State Fault Refusal := answer s (sldMove n sync)

/-- SLD_STOP (R252). -/
def sldStop (n : Fin 8) (s : State) : State := slCommand s n 2 false

def execSldStop (n : Fin 8) (s : State) : Host.Outcome State Fault Refusal := answer s (sldStop n)

/-- SLD_HALT (R253). -/
def sldHalt (n : Fin 8) (s : State) : State := slCommand s n 3 false

def execSldHalt (n : Fin 8) (s : State) : Host.Outcome State Fault Refusal := answer s (sldHalt n)

/-- SLD_HOME (R268). -/
def sldHome (n : Fin 8) (s : State) : State := slCommand s n 4 false

def execSldHome (n : Fin 8) (s : State) : Host.Outcome State Fault Refusal := answer s (sldHome n)

/-- SLD_ENGAGE (R259). -/
def sldEngage (n : Fin 8) (s : State) : State := slCommand s n 5 false

def execSldEngage (n : Fin 8) (s : State) : Host.Outcome State Fault Refusal := answer s (sldEngage n)

/-- SLD_ARM_CHANGE (R262). -/
def sldArmChange (n : Fin 8) (s : State) : State := slCommand s n 6 false

def execSldArmChange (n : Fin 8) (s : State) : Host.Outcome State Fault Refusal := answer s (sldArmChange n)

/-- SLD_DISENGAGE (R259). -/
def sldDisengage (n : Fin 8) (s : State) : State := slCommand s n 7 false

def execSldDisengage (n : Fin 8) (s : State) : Host.Outcome State Fault Refusal := answer s (sldDisengage n)

/-- SLD_SET_POS (R252). -/
def sldSetPos (n : Fin 8) (s : State) : State := slCommand s n 8 false

def execSldSetPos (n : Fin 8) (s : State) : Host.Outcome State Fault Refusal := answer s (sldSetPos n)

/-- SLD_RELEASE (R252). -/
def sldRelease (n : Fin 8) (s : State) : State := slCommand s n 9 false

def execSldRelease (n : Fin 8) (s : State) : Host.Outcome State Fault Refusal := answer s (sldRelease n)

/-- SLD_ENERGISE (R252). (log entry 25) -/
def sldEnergise (n : Fin 8) (s : State) : State := slCommand s n 10 false

def execSldEnergise (n : Fin 8) (s : State) : Host.Outcome State Fault Refusal := answer s (sldEnergise n)

/-- SLD_CLEAR (R271): FAULT_CAUSE is cleared, and then the command in CMD is carried out. -/
def sldClear (n : Fin 8) (cmd : BitVec 4) (sync : Bool) (s : State) : State :=
  slCommand (s.u (R.SLD_STATUS_FAULT_CAUSE n) 0) n cmd.toNat sync

def execSldClear (n : Fin 8) (cmd : BitVec 4) (sync : Bool) (s : State) : Host.Outcome State Fault Refusal :=
  answer s (sldClear n cmd sync)

/-- ARMED_MOVE_START (R258): the start time has come. A limit that has since become active refuses the move (R270). -/
def armedStart (n : Fin 8) (s : State) : State :=
  if slSt s n ≠ slARMED ∨ s.stamp (stationDomain n) < s.g64 (R.SLD_START_TIME_LO n) then s
  else if targetOk s n (s.sld[n]).target then startMove s n (s.sld[n]).target
  else slRefuse (slRest s n slIDLE) n

def execArmedMoveStart (n : Fin 8) (s : State) : Host.Outcome State Fault Refusal := answer s (armedStart n)

/-- The limit stop of R266: a ramp at LIMIT_DECEL, for which a geared sled disengages at once, or a hard stop, which disengages it at the
tick. -/
def switchStop (s : State) (n : Fin 8) : State :=
  let geared := decide (slSt s n = slGEARED)
  let s := limitStop s n 2
  let s := if s.on (R.SLD_SWITCH_LIMIT_STOP n) then
      let s := if geared then (foldGear s n).u (R.SLD_STATUS_CHANGE_ARMED n) 0 else s
      startStop s n (if s.on (R.SLD_STATUS_REFERENCED n) then .idle else .unref) true
    else s.sldU n (fun x => { x with halt := true })
  if geared then disturbance s n 10 else s

/-- The qualifying time of the switches in ns (R264, R273). -/
def qualTime (s : State) (n : Nat) : Nat := 100000 * max 1 (min 200 (s.g (R.SLD_SWITCH_QUAL n)))

/-- A MOVE of the same tick toward a switch that qualifies is refused (R270): with no effect, so that a move which was armed before stays
armed (R252). -/
def refuseToward (s : State) (n : Fin 8) : State :=
  let x := s.sld[n]
  if ((slSt s n = slMOVING ∧ x.fresh) ∨ (slSt s n = slARMED ∧ x.moveNew)) ∧ towardSwitch s n x.target then
    let s := slRefuse (slRest s n slIDLE) n
    match x.moveFrom with
    | some t => (slEnter s n slARMED).sldU n (fun x => { x with target := t, moveNew := false, moveFrom := none })
    | none => s
  else match x.nextTarget with
    | some t => if slSt s n = slMOVING ∧ towardSwitch s n t then slRefuse (s.sldU n (fun x => { x with nextTarget := none })) n else s
    | none => s

/-- SWITCH_QUALIFIED (R264, R266, R268, R270): the level of the HOME input (`endSw` false) or END has stayed stable since its first
sample, `ago` ns ago; it qualifies once that is QUAL. -/
def switchQualified (n : Fin 8) (endSw : Bool) (level : Bool) (ago : Nat) (s : State) : State :=
  if ago < qualTime s n then s
  else
  let was := blocked s n endSw
  let s := refreshSwitches (s.sldU n (fun x =>
    if endSw then { x with endLevel := some level } else { x with homeLevel := some level })) n
  let act := blocked s n endSw
  let s := refuseToward s n
  let st := slSt s n
  let x := s.sld[n]
  if st = slHOMING then
    if endSw then if act then homingFails s n 4 else s
    else if act ∧ x.homeStep = 1 then s.sldU n (fun x => { x with homeStep := 2 })
    else if !act ∧ x.homeStep = 3 then s.sldU n (fun x => { x with homeStep := 30 })
    else if act ∧ x.homeStep = 4 then
      let p := umToSteps (x.vel * (ago : Nat) / 1000000000)
      let s := (setPosition s n p).u (R.SLD_STATUS_REFERENCED n) 1
      s.sldU n (fun x => { x with homeStep := 40 })
    else s
  else if act && !was && (st == slMOVING || st == slSTOPPING || st == slGEARED) &&
      (if endSw then decide (0 < x.vel) else decide (x.vel < 0)) then switchStop s n
  else s

def execSwitchQualified (n : Fin 8) (endSw : Bool) (level : Bool) (ago : Nat) (s : State) : Host.Outcome State Fault Refusal :=
  answer s (switchQualified n endSw level ago)

/-- HOME_CHATTER (R265, R269): more than 8 raw transitions within 50 ms. -/
def homeChatter (n : Fin 8) (endSw : Bool) (k : Nat) (s : State) : State :=
  if k ≤ 8 then s
  else
    let s := (s.bump (R.SLD_CNT_CHATTER n)).log 0x109 n [b2n endSw, k]
    if slSt s n = slHOMING ∧ !endSw then homingFails s n 0 else s

def execHomeChatter (n : Fin 8) (endSw : Bool) (k : Nat) (s : State) : Host.Outcome State Fault Refusal :=
  answer s (homeChatter n endSw k)

end Sys2Proof.Machine
end

