-- ==== Sys2Proof/Machine/Observer.lean ====
section
/-!
DEFINITION. The observer of the spindle drive (R227, R228, R235): the back-EMF in stationary coordinates, and the loop that tracks it.
-/

namespace Sys2Proof.Machine

/-- Three phase quantities in stationary coordinates, by the Clarke transform that keeps amplitudes (R224, R238). DIR exchanges two
phases (R222). -/
def clarke (s : State) (n : Nat) (a b c : Rat) : Rat × Rat :=
  let (b, c) := if s.on (R.SPN_MOTOR_DIR n) then (c, b) else (b, c)
  ((2 * a - b - c) / 3, (b - c) * (2 ^ 60 : Int) / (sqrt3Q60 : Rat))

/-- A phase current of Q1.23 in A (R223). -/
def phaseAmps (s : State) (n : Nat) (i : Int) : Rat := ((i * s.g (R.SPN_MOTOR_I_FS n) : Int) : Rat) / (2 ^ 31 : Int)

/-- The direction of a vector, in counts of 65,536 to the turn, downward: bit by bit in its quadrant. (log entry 19) -/
def angleOf (x y : Rat) : Nat :=
  let base : Nat := if 0 < x ∧ 0 ≤ y then 0 else if x ≤ 0 ∧ 0 < y then 16384 else if x < 0 ∧ y ≤ 0 then 32768 else 49152
  (List.range 14).foldl (fun (a k : Nat) =>
    let t : Nat := a + 2 ^ (13 - k)
    if 0 ≤ (cosineQ60 t : Rat) * y - (sineQ60 t : Rat) * x then t else a) base

/-- The electrical angle that passes in a time of ns at a speed in 1/512 rpm, in 65,536 to a turn (R224, R229). -/
def elecTurn (s : State) (n : Nat) (speed : Rat) (ns : Nat) : Rat :=
  speed * (s.g (R.SPN_MOTOR_POLE_PAIRS n) * 65536 * ns : Nat) / (512 * 60 * 1000000000 : Nat)

/-- An angle within one turn, and one within half a turn to either side. -/
def turnOf (a : Rat) : Rat := a - 65536 * (a / 65536).floor
def halfTurn (a : Rat) : Rat := turnOf (a + 32768) - 32768

/-- The phase voltages in stationary coordinates, V (R227): from the duties and the bus voltage (10 mV) while the bridge switches, else as
sensed (mV). -/
def phaseVolts (s : State) (n : Fin 8) (duty : Vector Rat 3) (vbus : Nat) (va vb vc : Int) : Rat × Rat :=
  if (s.spn[n]).bridge then
    let v : Rat := (vbus : Rat) / 100
    clarke s n (duty[0] * v) (duty[1] * v) (duty[2] * v)
  else clarke s n ((va : Rat) / 1000) ((vb : Rat) / 1000) ((vc : Rat) / 1000)

/-- The back-EMF of the model v = RS × i + LS × di/dt + e (R227), with the current's change since the sample before, 25 µs ago. -/
def backEmf (s : State) (n : Nat) (v i was : Rat × Rat) : Rat × Rat :=
  let rs : Rat := (s.g (R.SPN_MODEL_RS n) : Rat) / 1000
  let ls : Rat := (s.g (R.SPN_MODEL_LS n) : Rat) / 25
  (v.1 - rs * i.1 - ls * (i.1 - was.1), v.2 - rs * i.2 - ls * (i.2 - was.2))

/-- What a gain of the tracking loop makes of an error. (log entry 82) -/
def track (bw k : Nat) (err : Rat) : Rat := if err = 0 then 0 else Config.observerGain bw k * err

/-- The observer takes a sample (R227): the loop goes on at its speed and corrects angle and speed by its angle error, the angle of the
back-EMF against its own; the back-EMF leads the rotor by a quarter turn in the direction of motion. A back-EMF of 0 has no angle: a free
value. The virtual encoder accumulates the angle (R229). (log entry 82) -/
def observe (s : State) (n : Fin 8) (v i : Rat × Rat) : State :=
  let x := s.spn[n]
  let e := backEmf s n v i x.amps
  let none := decide (e.1 = 0 ∧ e.2 = 0)
  let lead : Rat := if x.obsSpeed < 0 then -16384 else 16384
  let a : Nat := if none then s.freeVal % 65536 else angleOf e.1 e.2
  let move := elecTurn s n x.obsSpeed 25000
  let err := halfTurn ((a : Rat) - lead - (x.obsAngle + move))
  let bw := s.g (R.SPN_OBS_BW n)
  let turn := move + track bw 0 err
  let s := if none then s.tick else s
  s.spnU n (fun y => { y with
    amps := i, emf := e, emfOld := y.emf, obsAngle := turnOf (y.obsAngle + turn), obsSpeed := y.obsSpeed + track bw 1 err, obsErr := err
    mech := y.mech + turn / (max 1 (s.g (R.SPN_MOTOR_POLE_PAIRS n)) : Nat), subs := 0 })

/-- The magnitude of the observer's angle error, in 65,536ths of a degree (R228). -/
def errSize (s : State) (n : Fin 8) : Rat :=
  let e := 360 * (s.spn[n]).obsErr
  if e < 0 then -e else e

/-- The speed that the back-EMF of the last samples shows, 1/512 rpm (R235): its size by KE, its direction as it turns. (log entry 19) -/
def emfSpeed (s : State) (n : Fin 8) : Int :=
  let x := s.spn[n]
  let scale : Rat := (512000000 : Nat) / (s.g (R.SPN_FLUX_KE n) : Rat)
  let mag : Int := isqrt ((x.emf.1 * x.emf.1 + x.emf.2 * x.emf.2) * scale * scale).floor.toNat
  if x.emfOld.1 * x.emf.2 - x.emfOld.2 * x.emf.1 < 0 then -mag else mag

/-- The electrical angle that goes with it (R235). -/
def emfAngle (s : State) (n : Fin 8) : Nat :=
  let e := (s.spn[n]).emf
  (angleOf e.1 e.2 + (if emfSpeed s n < 0 then 16384 else 49152)) % 65536

/-- The observer is seeded with the measured angle and speed (R235). -/
def seedObserver (s : State) (n : Fin 8) (speed : Int) : State :=
  let a := emfAngle s n
  s.spnU n (fun x => { x with obsAngle := (a : Rat), obsSpeed := (speed : Rat) })

end Sys2Proof.Machine
end

