-- ==== Sys2Proof/Machine/Spindle.lean ====
section
/-!
DEFINITION. The meanings of the spindle drive's and the bus unit's commands (chapter "Spindle Drive"). Sines and √3 are taken to
2⁻⁵⁰, and a current or an angle that lies between two values of its format is one of them, by a free value.
-/

namespace Sys2Proof.Machine

/-- d- and q-axis currents of three phase currents at an electrical angle (R224 step 1), by the Clarke and Park transforms. (log entry 18) -/
def dqOf (s : State) (n : Nat) (ia ib ic : Int) (elec : Nat) : Int × Int × State :=
  let (al, be) := clarke s n ia ib ic
  let co : Rat := (cosineQ60 elec : Rat) / (2 ^ 60 : Int)
  let si : Rat := (sineQ60 elec : Rat) / (2 ^ 60 : Int)
  let (d, s) := s.quantR (al * co + be * si)
  let (q, s) := s.quantR (be * co - al * si)
  (sat24 d, sat24 q, s)

/-- The voltage vector of the current slots, scaled to 1.0 where it is longer (R225). -/
def voltageOf (s : State) (n : Fin 8) : Int × Int × State :=
  let vd := outFor s n tyCURD
  let vq := outFor s n tyCURQ
  let mag := isqrt (vd * vd + vq * vq).toNat
  if (2 ^ 46 : Int) < vd * vd + vq * vq then
    let (a, s) := s.quant (vd * 2 ^ 23) (max 1 mag : Nat)
    let (b, s) := s.quant (vq * 2 ^ 23) (max 1 mag : Nat)
    (a, b, (s.u (R.SPN_STATUS_VSAT n) 1).bump (R.SPN_CNT_VSAT n))
  else (vd, vq, s)

/-- One phase's duty (R225): dead-time compensation by the sign of its current, and pulses shorter than MIN_PULSE dropped. (log entry 18) -/
def phaseDuty (s : State) (n : Nat) (v mid : Rat) (i : Int) : Rat :=
  let dt : Nat := max 20 (s.g (R.SPN_PWM_DEADTIME n))
  let comp : Rat := if 0 < i then (dt : Rat) / 25000 else if i < 0 then -((dt : Rat) / 25000) else 0
  let d := clampR 0 1 ((1 : Rat) / 2 + (v - mid) * (2 ^ 60 : Int) / (sqrt3Q60 : Rat) + comp)
  let least : Rat := (s.g (R.SPN_PWM_MIN_PULSE n) : Rat) / 25000
  if d < least then 0 else if 1 - least < d then 1 else d

/-- Symmetric space-vector modulation of a voltage vector at an angle (R224 steps 4 and 5). -/
def modulate (s : State) (n : Fin 8) (vd vq : Int) (angle : Int) (ia ib ic : Int) : Vector Rat 3 :=
  let co : Rat := (cosineQ60 angle : Rat) / (2 ^ 60 : Int)
  let si : Rat := (sineQ60 angle : Rat) / (2 ^ 60 : Int)
  let unit : Rat := (2 ^ 23 : Int)
  let al := ((vd : Rat) * co - (vq : Rat) * si) / unit
  let be := ((vd : Rat) * si + (vq : Rat) * co) / unit
  let half := be * (sqrt3Q60 : Rat) / (2 ^ 61 : Int)
  let va := al
  let vb := half - al / 2
  let vc := -half - al / 2
  let (vb, vc) := if s.on (R.SPN_MOTOR_DIR n) then (vc, vb) else (vb, vc)
  let mid := (max va (max vb vc) + min va (min vb vc)) / 2
  #v[phaseDuty s n va mid ia, phaseDuty s n vb mid ib, phaseDuty s n vc mid ic]

/-- The q-axis current at which the bridge draws PMARGIN from the bus (R238): 1.5 × (vd × id + vq × iq) in volts and amperes. -/
def powerFloor (s : State) (n : Fin 8) (vd vq id : Int) (vbus : Nat) : Option Int :=
  let den : Rat := (3 * 1000 * vbus * s.g (R.SPN_MOTOR_I_FS n) : Nat)
  if vq = 0 ∨ den = 0 then none
  else
    let need : Rat := ((2 * s.g (R.SPN_LOSS_PMARGIN n) * 2 ^ 46 * 100 * 256 : Nat) : Rat) * (sqrt3Q60 : Rat) / (2 ^ 60 : Int) / den
    let r := (need - ((vd * id : Int) : Rat)) / (vq : Rat)
    some (if 0 < vq then r.ceil else r.floor)

/-- The bus-power limit is in force on a spindle (R238, R241). -/
def powerLimited (s : State) (n : Nat) : Bool :=
  spSt s n == spLOSS || (spSt s n == spACTIVE && s.on R.SPN_BUS_STATUS_REGEN_LIMIT)

/-- When the angle error, and the speed against the set-point, have been within and outside their bands (R228, R232). -/
def bands (s : State) (n : Fin 8) : State :=
  let sp := spSpeed s n
  let set := setPoint s n
  let mark := fun (c : Bool) (old : Option Nat) => if c then some (old.getD s.now) else none
  let low := decide (errSize s n < (65536 * 10 : Nat))
  let high := decide ((65536 * 30 : Nat) < errSize s n)
  let inB := decide (set ≠ 0 ∧ (s.spn[n]).ref = (set : Rat) ∧ 1000 * (sp - set).natAbs ≤ set.natAbs) && spSt s n == spRUN
  let off := decide (set.natAbs < 200 * (sp - set).natAbs)
  s.spnU n (fun x => { x with
    errLow := mark low x.errLow, errHigh := mark high x.errHigh, inBand := mark inB x.inBand, offBand := mark off x.offBand })

/-- The open-loop speed of the ramp (R234 step 3): evenly from where it began to IF_SPEED over IF_T, then IF_SPEED. (log entry 19) -/
def openLoopSpeed (s : State) (n : Fin 8) : Rat :=
  let x := s.spn[n]
  let top : Rat := (rpm (s.g (R.SPN_SPEEDS_IF_SPEED n)) : Int)
  let t : Rat := (s.g (R.SPN_START_IF_T n) * 5000000 : Nat)
  if x.waitObs ∨ t = 0 then top
  else (x.ifFrom : Rat) + (top - (x.ifFrom : Rat)) * min 1 (((s.now - x.since : Nat) : Rat) / t)

/-- The absolute speed limit is reached (R233): OVERSPEED is logged, a spindle that turns by the drive brakes first, and it enters FAULT. -/
def overspeed (s : State) (n : Fin 8) : State :=
  let st := spSt s n
  if !turnsAt s n (rpm 9000) ∨ (s.spn[n]).thenFault ∨ st = spFAULT then s
  else
    let s := s.log 0x106 n [2]
    let late := s.spnU n (fun x => { x with thenFault := true, thenAlign := false })
    if st = spRUN then brake late n
    else if st = spACTIVE ∨ st = spLOSS ∨ st = spLOSS_WAIT ∨ st = spSHORT then late
    else watchFaults (faultEntered s n 2) n

/-- The electrical angle at the sample instant and the speed at which it goes on (R224, R234): 0 in ALIGN, the drive's own in IF_RAMP, and the
observer's elsewhere. -/
def driveAngle (s : State) (n : Fin 8) : Nat × Rat × State :=
  let st := spSt s n
  if st = spALIGN then (0, 0, s)
  else if st = spIF_RAMP then
    let r := openLoopSpeed s n
    let (d, s) := s.quantR (elecTurn s n r 25000)
    (((((s.spn[n]).elec : Int) + d) % 65536).toNat, r, s)
  else ((s.spn[n]).obsAngle.floor.toNat % 65536, (s.spn[n]).obsSpeed, s)

/-- SPN_SPEED shows the observer's speed, and in MEASURE keeps the speed measured last (R246). -/
def showSpeed (s : State) (n : Fin 8) : State :=
  if spSt s n = spMEASURE then s
  else
    let (v, s) := s.quantR (s.spn[n]).obsSpeed
    s.ui (R.SPN_SPEED_SPEED n) (sat24 v)

/-- Braking at a PWM period (R235, R239, R244): without a usable chopper active braking goes over to loss braking in its turn; with one, loss
braking and waiting for it to active braking, but for the loss braking of a backward catch, which lasts down to 600 rpm. -/
def brakeOn (s : State) (n : Fin 8) : State :=
  let s := if (s.spn[n]).lossTo600 ∧ (spSpeed s n).natAbs < rpm 600 then s.spnU n (fun y => { y with lossTo600 := false }) else s
  let st := spSt s n
  if !chopUsable s then if st = spACTIVE then nextLoss (spEnter s n spLOSS_WAIT true) else s
  else if st = spLOSS then if (s.spn[n]).lossTo600 then s else brake (refFromSpeed s n) n
  else if st = spLOSS_WAIT then if (s.spn[n]).lossTo600 then spEnter (refFromSpeed s n) n spLOSS true else brake (refFromSpeed s n) n
  else s

/-- PWM_PERIOD (R224, R225, R227, R238): phase currents (Q1.23), bus voltage (10 mV) and sensed phase voltages (mV) at the middle of the
period. The voltage of the period is what the current slots released at its start, from the currents of the sample two periods before; it is
modulated at that sample's angle, extrapolated by the 50 µs to the middle of this period. -/
def pwmPeriod (n : Fin 8) (ia ib ic : Int) (vbus : Nat) (va vb vc : Int) (s : State) : State :=
  let x := s.spn[n]
  let on := x.bridge && spSt s n != spSHORT
  let (vd, vq, s) := voltageOf s n
  let (ahead, s) := s.quantR (elecTurn s n x.rateOld 50000)
  let duty := if on then modulate s n vd vq ((x.elecOld : Int) + ahead) x.phase[0] x.phase[1] x.phase[2] else #v[0, 0, 0]
  let s := observe s n (phaseVolts s n duty vbus va vb vc) (clarke s n (phaseAmps s n ia) (phaseAmps s n ib) (phaseAmps s n ic))
  let s := showSpeed s n
  let (angle, rate, s) := driveAngle s n
  let (d, q, s) := dqOf s n ia ib ic angle
  let s := s.spnU n (fun y => { y with
    id := d, iq := q, vd := vd, vq := vq, duty := duty, phase := #v[ia, ib, ic], elec := angle, rate := rate, elecOld := x.elec, rateOld := x.rate
    iqFloor := if powerLimited s n then powerFloor s n vd vq d vbus else none })
  overspeed (bands (brakeOn s n) n) n

def execPwmPeriod (n : Fin 8) (ia : Int) (ib : Int) (ic : Int) (vbus : Nat) (va : Int) (vb : Int) (vc : Int) (s : State) :
    Host.Outcome State Fault Refusal := answer s (pwmPeriod n ia ib ic vbus va vb vc)

/-- PHASE_OVERCURRENT (R226): a sample of a phase current, Q1.23, at or above I_TRIP in magnitude. -/
def phaseOvercurrent (n : Fin 8) (i : Int) (s : State) : State :=
  if i.natAbs < cur24 (s.g (R.SPN_LIMIT_I_TRIP n)) ∨ spSt s n = spFAULT then s else watchFaults (spFaults s n 1) n

def execPhaseOvercurrent (n : Fin 8) (i : Int) (s : State) : Host.Outcome State Fault Refusal := answer s (phaseOvercurrent n i)

/-- ENCODER_UPDATE (R229): the published angle, extrapolated with the observer speed; it never steps backward in forward
rotation. -/
def encoderUpdate (n : Fin 8) (s : State) : State :=
  if !s.on (R.SPN_STATUS_ANGLE_VALID n) then s
  else
    let s := s.spnU n (fun x => { x with subs := x.subs + 1 })
    let x := s.spn[n]
    let a := ((x.mech + x.obsSpeed * (x.subs : Rat) / 93750).floor % 65536).toNat
    let back := toSigned 16 ((((a : Int) - s.g (R.SPN_ANGLE_ANGLE n)) % 65536).toNat) < 0
    if 0 < x.obsSpeed ∧ back then s else s.u (R.SPN_ANGLE_ANGLE n) a

def execEncoderUpdate (n : Fin 8) (s : State) : Host.Outcome State Fault Refusal := answer s (encoderUpdate n)

/-- OBSERVER_VALID (R228, R230, R234 step 5): at or above OBS_MIN, 2 ms of small angle error. No angle is published during the open-loop
ramp (R234 step 3) and while the bus is tripped (R241). -/
def observerValid (n : Fin 8) (s : State) : State :=
  let ok := turnsAt s n (rpm (s.g (R.SPN_OBS_OBS_MIN n))) && match (s.spn[n]).errLow with
    | some t => decide (t + 2000000 ≤ s.now)
    | none => false
  let st := spSt s n
  if s.on (R.SPN_STATUS_ANGLE_VALID n) ∨ !ok ∨ s.on R.SPN_BUS_STATUS_TRIPPED ∨ st = spALIGN then s
  else if st = spIF_RAMP then
    if (s.spn[n]).waitObs then disturbance (angleValid (runFrom s n) n) n 11 else s
  else disturbance (angleValid s n) n 11

def execObserverValid (n : Fin 8) (s : State) : Host.Outcome State Fault Refusal := answer s (observerValid n)

/-- OBSERVER_INVALID (R228, R236): low speed, or 1 ms of large error. A spindle in RUN starts a catch; the third loss within 1 s
is a fault. -/
def observerInvalid (n : Fin 8) (s : State) : State :=
  let late := match (s.spn[n]).errHigh with
    | some t => decide (t + 1000000 ≤ s.now)
    | none => false
  let o := 10 * (s.spn[n]).obsSpeed
  let slow := decide ((if o < 0 then -o else o) < ((8 * rpm (s.g (R.SPN_OBS_OBS_MIN n)) : Int) : Rat))
  if !s.on (R.SPN_STATUS_ANGLE_VALID n) ∨ !(late || slow) then s
  else
    let s := angleInvalid s n
    if spSt s n ≠ spRUN then s
    else
      let s := s.bump (R.SPN_CNT_OBS_LOST n)
      let recent := (s.spn[n]).losses.filter (fun t => decide (s.now < t + 1000000000)) ++ [s.now]
      let s := s.spnU n (fun x => { x with losses := recent })
      if 3 ≤ recent.length then watchFaults (spFaults s n 4) n
      else measure s n

def execObserverInvalid (n : Fin 8) (s : State) : Host.Outcome State Fault Refusal := answer s (observerInvalid n)

/-- SPEED_REF_UPDATE (R231, R237): at 10 kHz the reference moves toward its goal; a rate of 0 acts as 1 (R246). -/
def speedRefUpdate (n : Fin 8) (s : State) : State :=
  let st := spSt s n
  let goal : Rat := if st = spRUN then (setPoint s n : Int) else 0
  if !(st == spRUN || st == spACTIVE || st == spLOSS) then s
  else
    let rate := fun (v : Nat) => ((512 * max 1 v : Nat) : Rat) / 10000
    let up := if st = spRUN then rate (s.g (R.SPN_RAMP_ACCEL n)) else rate (s.g (R.SPN_RAMP_DECEL n))
    let down := rate (s.g (R.SPN_RAMP_DECEL n))
    s.spnU n (fun x => { x with ref := if x.ref < goal then min goal (x.ref + up) else max goal (x.ref - down) })

def execSpeedRefUpdate (n : Fin 8) (s : State) : Host.Outcome State Fault Refusal := answer s (speedRefUpdate n)

/-- CAV_REGULATION_GAINED (R232): 10 ms in band with the reference at the set-point. -/
def regulationGained (n : Fin 8) (s : State) : State :=
  match (s.spn[n]).inBand with
  | none => s
  | some t =>
    if s.on (R.SPN_STATUS_IN_REG n) ∨ s.now < t + 10000000 ∨ spSt s n ≠ spRUN ∨ !s.on (R.SPN_STATUS_ANGLE_VALID n) then s
    else stnRun (s.u (R.SPN_STATUS_IN_REG n) 1) n

def execCavRegulationGained (n : Fin 8) (s : State) : Host.Outcome State Fault Refusal := answer s (regulationGained n)

/-- CAV_REGULATION_LOST (R232): 1 ms of error beyond 0.5 %. -/
def regulationLost (n : Fin 8) (s : State) : State :=
  match (s.spn[n]).offBand with
  | none => s
  | some t => if s.now < t + 1000000 then s else s.u (R.SPN_STATUS_IN_REG n) 0

def execCavRegulationLost (n : Fin 8) (s : State) : Host.Outcome State Fault Refusal := answer s (regulationLost n)

/-- SPIN_MEASURE_END (R234 step 1, R235): speed, direction and electrical angle come from the back-EMF. -/
def measureEnd (n : Fin 8) (s : State) : State :=
  if spSt s n ≠ spMEASURE ∨ s.now < (s.spn[n]).since + 20000000 then s
  else
    let v := sat24 (emfSpeed s n)
    let a := emfAngle s n
    let s := s.ui (R.SPN_SPEED_SPEED n) v
    let caught := fun (s : State) => s.bump (R.SPN_CNT_CATCHES n)
    if v.natAbs < rpm 60 then openLoop s n spALIGN 0
    else if 0 < v then
      if v < rpm (s.g (R.SPN_SPEEDS_IF_SPEED n)) then
        openLoop ((caught s).spnU n (fun x => { x with ifFrom := v })) n spIF_RAMP a
      else runFrom (seedObserver (caught s) n v) n
    else
      let s := (caught s).spnU n (fun x => { x with thenAlign := true, ref := (v : Int) })
      if v.natAbs < rpm (s.g (R.SPN_OBS_OBS_MIN n)) then spEnter s n spSHORT true
      else if v.natAbs < rpm 600 then brake (seedObserver s n v) n
      else
        let s := (seedObserver s n v).spnU n (fun x => { x with lossTo600 := true })
        if chopUsable s then spEnter s n spLOSS true else nextLoss (spEnter s n spLOSS_WAIT true)

def execSpinMeasureEnd (n : Fin 8) (s : State) : Host.Outcome State Fault Refusal := answer s (measureEnd n)

/-- SPIN_ALIGN_END (R234 step 3). -/
def alignEnd (n : Fin 8) (s : State) : State :=
  if spSt s n ≠ spALIGN ∨ s.now < (s.spn[n]).since + 5000000 * s.g (R.SPN_START_ALIGN_T n) then s
  else openLoop (s.spnU n (fun x => { x with ifFrom := 0 })) n spIF_RAMP 0

def execSpinAlignEnd (n : Fin 8) (s : State) : Host.Outcome State Fault Refusal := answer s (alignEnd n)

/-- SPIN_IF_RAMP_END (R234 step 4). (log entry 19) -/
def ifRampEnd (n : Fin 8) (s : State) : State :=
  let x := s.spn[n]
  if spSt s n ≠ spIF_RAMP ∨ x.waitObs ∨ s.now < x.since + 5000000 * s.g (R.SPN_START_IF_T n) then s
  else s.spnU n (fun x => { x with waitObs := true, since := s.now })

def execSpinIfRampEnd (n : Fin 8) (s : State) : Host.Outcome State Fault Refusal := answer s (ifRampEnd n)

/-- SPIN_OBS_TIMEOUT (R234): a failed attempt; the third is a fault. -/
def obsTimeout (n : Fin 8) (s : State) : State :=
  let x := s.spn[n]
  if spSt s n ≠ spIF_RAMP ∨ !x.waitObs ∨ s.now < x.since + 5000000 * s.g (R.SPN_START_OBS_T n) then s
  else if 3 ≤ x.tries + 1 then watchFaults (spFaults s n 3) n
  else spEnter (s.spnU n (fun x => { x with tries := x.tries + 1, waitObs := false })) n spRETRY false

def execSpinObsTimeout (n : Fin 8) (s : State) : Host.Outcome State Fault Refusal := answer s (obsTimeout n)

/-- SPIN_RETRY_END (R234): 200 ms have passed. -/
def retryEnd (n : Fin 8) (s : State) : State :=
  if spSt s n ≠ spRETRY ∨ s.now < (s.spn[n]).since + 200000000 then s else measure s n

def execSpinRetryEnd (n : Fin 8) (s : State) : Host.Outcome State Fault Refusal := answer s (retryEnd n)

/-- SHORT_BRAKE_START (R237, R239): a braking or waiting spindle has come down to SHORT_SPEED. -/
def shortStart (n : Fin 8) (s : State) : State :=
  let st := spSt s n
  if !(st == spACTIVE || st == spLOSS || st == spLOSS_WAIT) || decide (rpm (s.g (R.SPN_SPEEDS_SHORT_SPEED n)) < (spSpeed s n).natAbs)
  then s
  else spEnter (s.spnU n (fun x => { x with lossShort := st == spLOSS })) n spSHORT true

def execShortBrakeStart (n : Fin 8) (s : State) : Host.Outcome State Fault Refusal := answer s (shortStart n)

/-- SHORT_BRAKE_END (R237): STOPPED; or the catch goes on to ALIGN (R235), or an overspeed ends in FAULT (R233). -/
def shortEnd (n : Fin 8) (s : State) : State :=
  let x := s.spn[n]
  if spSt s n ≠ spSHORT ∨ s.now < x.since + 5000000 * s.g (R.SPN_START_SHORT_T n) then s
  else
    let s := s.spnU n (fun x => { x with lossShort := false, thenAlign := false, thenFault := false, lossTo600 := false })
    if x.thenAlign then nextLoss (openLoop s n spALIGN 0)
    else if x.thenFault then watchFaults (faultEntered s n 2) n
    else spStopped s n

def execShortBrakeEnd (n : Fin 8) (s : State) : Host.Outcome State Fault Refusal := answer s (shortEnd n)

/-- The bus unit controls the chopper (R239, R242): enabled, and not given up for a fault it can act on. -/
def chopControlled (s : State) : Bool :=
  s.on R.SPN_BUS_CTRL_CHOP_EN && (!s.on R.SPN_BUS_STATUS_CHOP_FAULT || s.g R.SPN_BUS_STATUS_CHOP_CAUSE == 3)

/-- CHOP_IMIN in 10 mA (R242). -/
def chopMin (s : State) : Nat := 10 * s.g R.SPN_BUS_CTRL_CHOP_IMIN

/-- What the tests of the chopper need of a sample (R242): whether its current came within 20 µs of turn-on, the bus voltages of the last
1 ms from 200 µs after it, and since when it draws current while it is off. -/
def chopWatch (s : State) (wasOn : Bool) (v i : Nat) : State :=
  let on := s.on R.SPN_BUS_STATUS_CHOP_ON
  let b := s.bus
  { s with bus := { b with
      drawn := on && wasOn && (b.drawn || (decide (s.now ≤ b.chopOn + 20000) && decide (chopMin s ≤ i)))
      rise := if on ∧ b.chopOn + 200000 ≤ s.now then (b.rise ++ [(s.now, v)]).filter (fun t => decide (s.now ≤ t.1 + 1000000)) else []
      stuck := if !on ∧ chopMin s < i then some (b.stuck.getD s.now) else none } }

/-- The case of R242 holds: 1 NO_CURRENT, 2 SLOPE, 3 STUCK_ON. -/
def chopFails (s : State) (cause : Nat) : Bool :=
  let on := s.on R.SPN_BUS_STATUS_CHOP_ON
  let b := s.bus
  if cause = 1 then on && !b.drawn && decide (b.chopOn + 20000 ≤ s.now)
  else if cause = 2 then on && (match b.rise.head?, b.rise.getLast? with
    | some p, some q => decide (p.1 + 1000000 ≤ q.1 ∧ p.2 + 50 < q.2)
    | _, _ => false)
  else cause == 3 && !on && (match b.stuck with
    | some t => decide (t + 100000 ≤ s.now)
    | none => false)

/-- BUS_SAMPLE (R240, R241, R242): bus voltage in 10 mV and chopper current in 10 mA, 12 bits each. -/
def busSample (v i : Nat) (s : State) : State :=
  let v := min v 4095
  let s := s.us [(R.SPN_BUS_VOLT_VOLT, v), (R.SPN_BUS_VOLT_PEAK, max v (s.g R.SPN_BUS_VOLT_PEAK)), (R.SPN_BUS_CHOP_CURRENT, min i 4095)]
  let s := s.u R.SPN_BUS_STATUS_UV (if v < 1800 then 1 else if 1850 ≤ v then 0 else s.g R.SPN_BUS_STATUS_UV)
  let on := s.on R.SPN_BUS_STATUS_CHOP_ON
  let s := if !chopControlled s then s.u R.SPN_BUS_STATUS_CHOP_ON 0
    else if !on ∧ 2700 ≤ v then
      ({ s with bus := { s.bus with chopOn := s.now } }.u R.SPN_BUS_STATUS_CHOP_ON 1).bump R.SPN_BUS_CNT_CHOP
    else if on ∧ v ≤ 2650 ∧ s.bus.chopOn + 20000 ≤ s.now then s.u R.SPN_BUS_STATUS_CHOP_ON 0
    else s
  let s := chopWatch s on v (min i 4095)
  let lim := s.on R.SPN_BUS_STATUS_REGEN_LIMIT
  let s := if !lim ∧ 2850 ≤ v then (s.u R.SPN_BUS_STATUS_REGEN_LIMIT 1).bump R.SPN_BUS_CNT_REGEN
    else if v ≤ 2800 then s.u R.SPN_BUS_STATUS_REGEN_LIMIT 0 else s
  { s with bus := { s.bus with
    below := if v < 2700 then some (s.bus.below.getD s.now) else none
    peak := if s.on R.SPN_BUS_STATUS_TRIPPED then max s.bus.peak v else s.bus.peak } }

def execBusSample (v : Nat) (i : Nat) (s : State) : Host.Outcome State Fault Refusal := answer s (busSample v i)

/-- CHOPPER_FAULT (R242): 1 NO_CURRENT and 2 SLOPE while the chopper is on, 3 STUCK_ON while it is commanded off. -/
def chopperFault (cause : Nat) (s : State) : State :=
  if s.on R.SPN_BUS_STATUS_CHOP_FAULT ∨ !chopFails s cause then s
  else
    let s := s.us [(R.SPN_BUS_STATUS_CHOP_FAULT, 1), (R.SPN_BUS_STATUS_CHOP_CAUSE, cause)]
    let s := if cause = 3 then s else s.u R.SPN_BUS_STATUS_CHOP_ON 0
    s.log 0x10B noStation [cause, s.g R.SPN_BUS_VOLT_VOLT]

def execChopperFault (cause : Nat) (s : State) : Host.Outcome State Fault Refusal := answer s (chopperFault cause)

/-- CHOPPER_CLEAR (R242). -/
def chopperClear (s : State) : State := s.us [(R.SPN_BUS_STATUS_CHOP_FAULT, 0), (R.SPN_BUS_STATUS_CHOP_CAUSE, 0)]

def execChopperClear (s : State) : Host.Outcome State Fault Refusal := answer s chopperClear

/-- The trip of one station's bridges (R241, R244, R254). A spindle or a sled in FAULT stays there. (log entry 25) -/
def tripStation (s : State) (n : Fin 8) : State :=
  let s := angleInvalid s n
  let s := if spSt s n = spFAULT then s
    else spEnter (s.spnU n (fun x => { x with thenAlign := false, thenFault := false, lossTo600 := false, lossShort := false }))
      n spTRIPPED false
  if slSt s n = slFAULT ∨ slSt s n = slOFF then s
  else (bridgeOff s n slOFF).sldU n (fun x => { x with tripped := true })

/-- BUS_TRIP (R241): the comparator at 32.0 V, at a peak of v × 10 mV. -/
def busTrip (v : Nat) (s : State) : State :=
  if s.on R.SPN_BUS_STATUS_TRIPPED then s
  else
    let peak := max v (s.g R.SPN_BUS_VOLT_VOLT)
    let s := s.log 0x10A noStation [peak, s.g R.SPN_BUS_STATUS_LOSS_QUEUE]
    let s := (s.u R.SPN_BUS_STATUS_TRIPPED 1).bump R.SPN_BUS_CNT_TRIP
    let s := { s with bus := { s.bus with peak := peak, below := none } }
    s.each stations tripStation

def execBusTrip (v : Nat) (s : State) : Host.Outcome State Fault Refusal := answer s (busTrip v)

/-- BUS_TRIP_RELEASE (R243, R254): the bus has stayed below 27.0 V for 10 ms. -/
def busTripRelease (s : State) : State :=
  match s.bus.below with
  | none => s
  | some t =>
    if !s.on R.SPN_BUS_STATUS_TRIPPED ∨ s.now < t + 10000000 then s
    else
      let s := s.u R.SPN_BUS_STATUS_TRIPPED 0
      s.each stations (fun s n =>
        let s := if spSt s n ≠ spTRIPPED then s
          else if s.on R.SPN_BUS_CTRL_TRIP_RESTART ∧ s.g (R.SPN_CTRL_SPEED_SEL n) ≠ 0 then
            measure s n
          else spStopped s n
        if (s.sld[n]).tripped then slRest (s.sldU n (fun x => { x with tripped := false })) n slUNREF else s)

def execBusTripRelease (s : State) : Host.Outcome State Fault Refusal := answer s busTripRelease

/-- SAFE_SPEED_MEASURE (R294): the speed from back-EMF while the bridge is off. -/
def safeSpeed (n : Fin 8) (s : State) : State :=
  if (s.spn[n]).bridge then s
  else refreshSafe (s.stnU n (fun x => { x with slow := decide (((emfSpeed s n).natAbs : Int) < rpm 60) })) n

def execSafeSpeedMeasure (n : Fin 8) (s : State) : Host.Outcome State Fault Refusal := answer s (safeSpeed n)

end Sys2Proof.Machine
end

