-- ==== Sys2Proof/Machine/SpdmOps.lean ====
section
/-!
DEFINITION. Attestation through the mailbox of the PF (R471 to R473): measurements, and the answers of the SPDM responder.
-/

namespace Sys2Proof.Machine

/-- Measurement i (R473). (log entry 56) -/
def measurement (s : State) (i : Nat) : List Byte :=
  let image := fun (bs : List Byte) => if s.tru.bootHdr.isEmpty then Config.noImageMeasure i else sha512 bs
  if i = 1 then Config.romDigest
  else if i = 2 then image s.tru.bootHdr
  else if i = 3 then image s.tru.cfgHdr
  else if i = 4 then image (Config.microcode (imageBody s s.tru.ucodeSlot false))
  else if i = 5 then Config.fuseMeasure (s.rd R.TRU_SEC) (ownerKeys s)
  else Config.statusMeasure (s.rd R.TRU_STATUS)

/-- The two signatures of a signed response (R472): Ed25519, and the ML-DSA-65 signature of its Olelm element, over the same hash. -/
def signTranscript (transcript : List Byte) : List Byte × List Byte :=
  let h := sha512 transcript
  (sigBytes false h, sigBytes true h)

/-- The answer to a request, and the state of the negotiation after it (R472). Requests that come out of the order of SPDM 1.3, name
something that is not there or offer other algorithms are answered with an error. (log entry 56) -/
def doeReply (s : State) : DoeReq → DoeAnswer × State
  | .version => (.version 1 3, s.truU (fun t => { t with spdmVersion := true, spdmCaps := false, spdmAlgs := false }))
  | .capabilities =>
    if s.tru.spdmVersion then (.capabilities, s.truU (fun t => { t with spdmCaps := true, spdmAlgs := false })) else (.error, s)
  | .algorithms offered =>
    if s.tru.spdmCaps && offered then (.algorithms, s.truU (fun t => { t with spdmAlgs := true })) else (.error, s)
  | .digests =>
    if s.tru.spdmAlgs then (.digests [sha512 (Config.certChain 0), sha512 (Config.certChain 1)], s) else (.error, s)
  | .certificate slot offset len =>
    let c := Config.certChain slot
    if s.tru.spdmAlgs && decide (slot ≤ 1) && decide (offset ≤ c.length) then
      (.certificate slot ((c.drop offset).take len) (c.length - (offset + len)), s)
    else (.error, s)
  | .challenge slot transcript =>
    if s.tru.spdmAlgs && decide (slot ≤ 1) then
      let g := signTranscript transcript
      (.challenge slot (sha512 (Config.certChain slot)) g.1 g.2, s)
    else (.error, s)
  | .measurements index signed transcript =>
    if s.tru.spdmAlgs && (decide (index ≤ 6) || index == 255) then
      let l := if index = 0 then [] else if index = 255 then [1, 2, 3, 4, 5, 6] else [index]
      (.measurements 6 (l.map (fun i => (i, measurement s i))) (if signed then some (signTranscript transcript) else none), s)
    else (.error, s)

/-- A request is answered; TRU_CNT_SPDM counts those that are served (R482). -/
def doeServe (s : State) (r : DoeReq) : State :=
  let (a, s) := doeReply s r
  (s.whenB (a != .error) (fun s => s.bump R.TRU_CNT_SPDM)).emit (.doe a)

/-- A request arrives. While an ACTIVATE runs its response waits until the switch (R481). (log entry 56) -/
def doeRequest (s : State) (r : DoeReq) : State :=
  if s.tru.updOp = some 2 then s.truU (fun t => { t with doeWait := t.doeWait ++ [r] }) else doeServe s r

/-- The requests that waited for the switch are answered, oldest first (R481). -/
def doeResume (s : State) : State :=
  let l := s.tru.doeWait
  (s.truU (fun t => { t with doeWait := [] })).each l doeServe

end Sys2Proof.Machine
end

