-- ==== Sys2Proof/Machine/Trust.lean ====
section
/-!
DEFINITION. The meanings of TRU's flash and update commands (R478 to R482).
-/

namespace Sys2Proof.Machine

/-- The slots that a run of flash addresses touches (R465). -/
def slotsTouched (addr len : Nat) : List Nat := [addr / 2 ^ 25 % 2, (addr + len - 1) / 2 ^ 25 % 2]

/-- A flash command may touch these addresses (R478): in RECOVERY both slots, on trial neither, else all but the running slot. (log entries 52, 53) -/
def flashAllowed (s : State) (addr len : Nat) : Bool :=
  s.on R.TRU_STATUS_RECOVERY ||
    (!s.on R.TRU_STATUS_TRIAL && !(slotsTouched addr len).contains (s.g R.TRU_STATUS_SLOT))

/-- A flash command begins or is refused (R478, R482): 0 READ, 1 PROGRAM, 2 ERASE, which acts on a sector of 64 KiB. A length of 0 acts
as 4,096; the lengths that the spec does not give are refused (DESIGN CHOICE). (log entry 52) -/
def flashStart (s : State) (cmd : Nat) (len : BitVec 13) : State :=
  let n := if cmd = 2 then 0x10000 else if len.toNat = 0 then 4096 else len.toNat
  let at' := s.g R.TRU_FLASH_ADDR_ADDR
  let a := if cmd = 2 then at' / 0x10000 * 0x10000 else at'
  if s.tru.flashOp.isSome || s.tru.updOp.isSome || (cmd != 2 && decide (4096 < n)) || !flashAllowed s a n then
    s.u R.TRU_FLASH_STATUS_REFUSED 1
  else (s.truU (fun t => { t with flashOp := some ⟨cmd, a, n⟩ })).u R.TRU_FLASH_STATUS_BUSY 1

/-- FLASH_READ (R478). -/
def flashRead (len : BitVec 13) (s : State) : State := flashStart s 0 len

def execFlashRead (len : BitVec 13) (s : State) : Host.Outcome State Fault Refusal := answerUp s (flashRead len)

/-- FLASH_PROGRAM (R478). -/
def flashProgram (len : BitVec 13) (s : State) : State := flashStart s 1 len

def execFlashProgram (len : BitVec 13) (s : State) : Host.Outcome State Fault Refusal := answerUp s (flashProgram len)

/-- FLASH_ERASE (R478). -/
def flashErase (len : BitVec 13) (s : State) : State := flashStart s 2 len

def execFlashErase (len : BitVec 13) (s : State) : Host.Outcome State Fault Refusal := answerUp s (flashErase len)

/-- Byte i of TRU_BUF (R10, R482). -/
def truBuf (s : State) (i : Nat) : Byte := BitVec.ofNat 8 ((s.rd (R.TRU_BUF (i / 4))).toNat / 2 ^ (8 * (i % 4)))

/-- Set byte i of TRU_BUF. -/
def truBufPut (s : State) (i : Nat) (b : Byte) : State := s.u ⟨R.TRU_BUF (i / 4), 8 * (i % 4), 8⟩ b.toNat

/-- Set a byte of the flash. (log entry 50) -/
def flashPut (s : State) (a : Nat) (b : Byte) : State := s.truU (fun t => { t with flash := smSet 0xFF#8 t.flash (a % 2 ^ 26) b })

/-- What a flash command does to the buffer or the flash. PROGRAM clears bits and sets none (PRESUMED: NOR). (log entry 51) -/
def flashDo (s : State) (op : FlashOp) : State :=
  s.each (List.range op.len) (fun s i =>
    let a := (op.addr + i) % 2 ^ 26
    if op.cmd = 0 then truBufPut s i (flashByte s a)
    else if op.cmd = 1 then flashPut s a (flashByte s a &&& truBuf s i)
    else flashPut s a 0xFF#8)

/-- FLASH_COMMAND_COMPLETE (R468, R478): the command that runs ends. A PROGRAM or ERASE of the slot that failed its trial clears
TRIAL_FAILED; an area that is programmed or erased whole is torn no more. -/
def flashCommandComplete (s : State) : State :=
  match s.tru.flashOp with
  | none => s
  | some op =>
    let s := flashDo s op
    let s :=
      if op.cmd = 0 then s
      else
        let s := s.truU (fun t => { t with
          torn := t.torn.filter (fun q => !(decide (op.addr ≤ q.1) && decide (q.1 + q.2 ≤ op.addr + op.len))) })
        if s.on R.TRU_STATUS_TRIAL_FAILED && (slotsTouched op.addr op.len).contains (1 - s.tru.prior) then
          s.u R.TRU_STATUS_TRIAL_FAILED 0
        else s
    (s.truU (fun t => { t with flashOp := none })).us [(R.TRU_FLASH_STATUS_BUSY, 0), (R.TRU_FLASH_STATUS_DONE, 1)]

def execFlashCommandComplete (s : State) : Host.Outcome State Fault Refusal := answerUp s flashCommandComplete

/-- An update command fails or is refused with a cause (R482). (log entry 52) -/
def updFails (s : State) (cause : Nat) : State := s.us [(R.TRU_UPDATE_STATUS_CAUSE, cause), (R.TRU_UPDATE_STATUS_FAILED, 1)]

/-- An update command begins, or is refused while another command runs (R478, R481). (log entry 53) -/
def updStart (s : State) (cmd : Nat) : State :=
  if s.tru.flashOp.isSome || s.tru.updOp.isSome then updFails s 0
  else (s.truU (fun t => { t with updOp := some cmd })).u R.TRU_UPDATE_STATUS_BUSY 1

/-- UPDATE_VERIFY (R479). -/
def updateVerify (s : State) : State := updStart s 1

def execUpdateVerify (s : State) : Host.Outcome State Fault Refusal := answerUp s updateVerify

/-- ACTIVATE (R479). (log entry 54) -/
def activate (s : State) : State := updStart s 2

def execActivate (s : State) : Host.Outcome State Fault Refusal := answerUp s activate

/-- PROVISION (R482). (log entry 55) -/
def provision (s : State) : State := updStart s 4

def execProvision (s : State) : Host.Outcome State Fault Refusal := answerUp s provision

/-- The least SEC_VERSION of the images of both slots (R481). (log entry 54) -/
def leastSec (s : State) : Nat :=
  [0, 1].foldl (fun m slot => min m (min (imageNum s slot false 12 4) (imageNum s slot true 12 4))) (2 ^ 32 - 1)

/-- RAISE_SEC (R481, R482): above the SEC_VERSION of either slot it is refused. (log entry 54) -/
def raiseSec (s : State) : State :=
  let v := s.g R.TRU_FLASH_ADDR_ADDR
  if s.tru.flashOp.isSome || s.tru.updOp.isSome then updFails s 0
  else if leastSec s < v then updFails s 6
  else updStart (s.truU (fun t => { t with secTo := v })) 5

def execRaiseSec (s : State) : Host.Outcome State Fault Refusal := answerUp s raiseSec

/-- A manifest is being signed (R476): a closed reel waits for it and its SEAL cluster can be formed. -/
def signing (s : State) : Bool := s.grn.reels.any (fun r => r.st == .closed && (newStripe s r.vol r.serial).isSome)

/-- ACTIVATE ends (R479): the switch, or the reason why there is none. -/
def activateEnd (s : State) : State :=
  let old := s.g R.TRU_STATUS_SLOT
  let new := 1 - old
  if !slotOk s new then
    let s := logRejects s new
    updFails s (s.g R.TRU_REJECT_CAUSE)
  else if imageNum s new false 8 4 ≤ s.g R.TRU_SERIAL_SERIAL then updFails s 8
  else
    let was := s.g R.TRU_SERIAL_SERIAL
    let serial := imageNum s new false 8 4
    let s := s.truU (fun t => { t with
      bootHdr := flashBytes s (imageAt new false) 88, ucodeSlot := new, prior := old, trialFrom := s.now })
    let s := s.each stations (fun s n =>
      match (s.cal[n]).run with
      | some r => calRaise (calAbandon s n) n r.layer false
      | none => s)
    let s := s.log 0x602 noStation [serial, was]
    s.us [(R.TRU_STATUS_SLOT, new), (R.TRU_SERIAL_SERIAL, serial), (R.TRU_STATUS_TRIAL_FAILED, 0), (R.TRU_STATUS_TRIAL, 1)]

/-- VERIFY ends (R479). -/
def verifyEnd (s : State) : State :=
  let other := 1 - s.g R.TRU_STATUS_SLOT
  if slotOk s other then s
  else
    let s := logRejects s other
    updFails s (s.g R.TRU_REJECT_CAUSE)

/-- PROVISION ends (R482): the owner keys are fused, once only: 32 bytes of Ed25519, 1,952 bytes of ML-DSA-65 (PRESUMED: the length of
an ML-DSA-65 public key). (log entry 55) -/
def provisionEnd (s : State) : State :=
  if s.on R.TRU_STATUS_OWNER_KEYS then updFails s 9
  else (s.truU (fun t => { t with ownerKeys := (List.range 1984).map (truBuf s) })).u R.TRU_STATUS_OWNER_KEYS 1

/-- UPDATE_COMMAND_COMPLETE (R479, R481, R482): the update command that runs ends, well or not. An ACTIVATE waits for the manifest being signed. (log entry 54) -/
def updateCommandComplete (s : State) : State :=
  let ended := fun (s : State) => (s.truU (fun t => { t with updOp := none })).us [(R.TRU_UPDATE_STATUS_BUSY, 0), (R.TRU_UPDATE_STATUS_DONE, 1)]
  match s.tru.updOp with
  | none => s
  | some k =>
    if k = 2 then (if signing s then s else doeResume (ended (activateEnd s)))
    else if k = 1 then ended (verifyEnd s)
    else if k = 4 then ended (provisionEnd s)
    else ended (s.u R.TRU_SEC_MIN s.tru.secTo)

def execUpdateCommandComplete (s : State) : Host.Outcome State Fault Refusal := answerUp s updateCommandComplete

/-- TRIAL_EXPIRY (R479): TRIAL is set for 10 s. (log entry 54) -/
def trialExpiry (s : State) : State :=
  if s.on R.TRU_STATUS_TRIAL && decide (s.tru.trialFrom + 10000000000 ≤ s.now) then s.u R.TRU_STATUS_TRIAL 0 else s

def execTrialExpiry (s : State) : Host.Outcome State Fault Refusal := answerUp s trialExpiry

end Sys2Proof.Machine
end

