-- ==== Sys2Proof/Machine/Access.lean ====
section
/-!
DEFINITION. The meanings of register accesses (R33 to R55): who reaches which location, active copies and pending views, access
codes, byte enables, 64-bit shadows, and the commands that a write of a register gives.
-/

namespace Sys2Proof.Machine

/-- What a DW of a BAR holds. -/
inductive Target
  /-- A register of PF BAR0 at its own address; the pending view of a configurable one (R40, R41). -/
  | reg (a : Nat)
  | view (a : Nat)
  /-- A register of a VF's BAR0 (R35). -/
  | vf (v off : Nat)
  /-- A doorbell (R34, R35). -/
  | bell (fn : Fin 256) (q : Nat) (cq : Bool)
  /-- A word of a read window: trace memory, the event ring, the certificates (R43, R482, R491). -/
  | window (a : Nat)
  | reserved
deriving DecidableEq, Repr

/-- Base of the register whose pending view may lie at an offset (R40). -/
def viewBase (a : Nat) : Option Nat :=
  if 0x1C0000 ≤ a ∧ a < 0x1D0000 then (if a / 0x4000 % 2 = 1 then some (a - 0x4000) else none)
  else if 0x8000 ≤ a % 0x10000 then some (a - 0x8000) else none

/-- What lies at an offset of PF BAR0 (R36, R40, R43, R482, R491). -/
def pfTarget (a : Nat) : Target :=
  if (regAt a).isSome then .reg a
  else if 0x150000 ≤ a ∧ a < 0x180000 then .window a
  else if 0x1E2000 ≤ a ∧ a < 0x1E3000 then .window a
  else if 0x1F4000 ≤ a ∧ a < 0x1F8000 then .window a
  else match viewBase a with
    | some b => if configurable b then .view b else .reserved
    | none => .reserved

/-- The register at an offset of a VF's BAR0 (R35, R369, R408): its admin pair, its MSI-X table and PBA. (log entry 44) -/
def vfDef (off : Nat) : Option RegDef :=
  if 0x200 ≤ off ∧ off < 0x218 then regAt (0x10000 + off)
  else if 0x6000 ≤ off ∧ off < 0x6080 then regAt (0x30000 + (off - 0x6000))
  else if off = 0x7000 then some ⟨0, [⟨0, 8, .ro, 0⟩]⟩
  else none

/-- A function number in its range. -/
def fnIx (v : Nat) : Fin 256 := ⟨v % 256, Nat.mod_lt _ (by omega)⟩

/-- What a requester finds at an offset (R34, R35). Offsets from 0x40_0000 are BAR4. -/
def targetOf (r : Req) (a : Nat) : Target :=
  match r with
  | .vf v =>
    if 0x10000 ≤ a then .reserved
    else if 0x8000 ≤ a then .bell (fnIx v) ((a - 0x8000) / 8) (a % 8 == 4)
    else if (vfDef a).isSome then .vf v a else .reserved
  | .pf =>
    if 0x400000 ≤ a then (if a < 0x410000 then .bell 0 ((a - 0x400000) / 8) (a % 8 == 4) else .reserved) else pfTarget a
  | _ => if 0x400000 ≤ a then .reserved else pfTarget a

/-- The PF or a management core (R293, R366, R427, R463, R482, R498). -/
def isHome : Req → Bool
  | .pf | .mgmt _ => true
  | _ => false

/-- How an access fares before the register is looked at. -/
inductive Served
  | yes | dropped | unsupported | waits
deriving DecidableEq, Repr

/-- The request came as a TLP over PCI Express. -/
def overPcie : Req → Bool
  | .pf | .vf _ => true
  | _ => false

/-- Whether an access is served (R38, R411, R426, R430): a frozen requester's writes are dropped and its reads refused, a contained
endpoint serves PF BAR0 alone, a function that does not respond refuses. Posted writes wait while credits are held back (R422).
The partner's accesses come over the pair's link. (log entry 44) -/
def served (s : State) (x : Access) (isWrite : Bool) : Served :=
  let frozen := frozenRid s x.rid
  if isWrite && overPcie x.req && creditsHeld s then .waits
  else match x.req with
  | .mgmt _ => .yes
  | .partner => if s.cgl.up && !frozenPartner s then .yes else .dropped
  | .pf =>
    if frozen then (if isWrite then .dropped else .unsupported)
    else if !memOn s 0 then .unsupported
    else if 0x400000 ≤ x.addr then
      (if contained s then .dropped else if s.on R.TRU_STATUS_RECOVERY then .unsupported else .yes)
    else .yes
  | .vf v =>
    if frozen then (if isWrite then .dropped else .unsupported)
    else if v = 0 ∨ 255 < v ∨ s.on R.TRU_STATUS_RECOVERY = true then .unsupported
    else if !fnOn s v || frozenVf s v || !memOn s v then .unsupported
    else if contained s then .dropped else .yes

/-- A completion goes to its requester, over PCI Express as a TLP. -/
def toReq (s : State) (r : Req) (o : Out) : State := if overPcie r then s.emitTlp o else s.emit o

/-- An access is completed as Unsupported Request: a read's completion says so, a write is reported through AER (R54). (log entry 42) -/
def refuse (s : State) (x : Access) (isWrite : Bool) : State :=
  if isWrite then (if overPcie x.req then aer s 20 else s) else toReq s x.req (.unsupported x.req)

/-- A write to a doorbell that responds returns the FY8C to HP0 although its requester is refused (R400, R430). -/
def wakeByBell (s : State) (x : Access) : State :=
  let bell := match targetOf x.req x.addr with
    | .bell fn q _ => decide (q < queueRange fn) && fnOn s fn && memOn s fn
    | _ => false
  if overPcie x.req && bell && !contained s && !s.on R.TRU_STATUS_RECOVERY then wakeHost s else s

/-- ACCESS_WIDTH (R54, R492). (log entry 44) -/
def widthEvent (s : State) (x : Access) (at' : Nat) (be : BitVec 4) : State :=
  s.log 0x002 noStation [at', x.rid, be.toNat + 256 * (x.dws % 256)]

/-- The block of an offset responds to the requester (R38, R482, R498): in RECOVERY TRU and EVL alone, which only the PF and the
management cores reach. (log entry 68) -/
def reaches (s : State) (r : Req) (a : Nat) : Bool :=
  if decide (0x1E0000 ≤ a) && decide (a < 0x200000) then isHome r else !s.on R.TRU_STATUS_RECOVERY

/-- The registers that only the PF and the management cores write: Onyx, owner sets, QTZ_SET, PCX_CONTAIN_CMD, PCX_FROZEN_CMD and CGL_CMD
(R293, R366, R403, R427, R430, R447, R463). (log entry 44) -/
def homeOnly (a : Nat) : Bool :=
  (decide (0x50000 ≤ a) && decide (a < 0x60000)) ||
  (decide (0x80000 ≤ a) && decide (a < 0x100000) && a % 0x10000 == 0xA0) ||
  (decide (0x11008 ≤ a) && decide (a < 0x11400) && a % 0x10 == 8) ||
  a == R.QTZ_SET_LO || a == R.QTZ_SET_LO + 4 || a == R.PCX_CONTAIN_CMD || a == R.PCX_FROZEN_CMD || a == R.CGL_CMD

/-- The layout of what an access reaches. -/
def defOf : Target → Option RegDef
  | .reg a | .view a => regAt a
  | .vf _ off => vfDef off
  | .bell .. => some ⟨0, [⟨0, 32, .wo, 0⟩]⟩
  | .window _ | .reserved => none

/-- The copy that a read returns (R41): the pending view shows the pending copy, and read-only fields as they are (R39). -/
def shown (s : State) : Target → Word
  | .reg a => s.rd a
  | .view a =>
    let m := match regAt a with
      | some d => accMask d.fields (fun c => c == .rwa)
      | none => 0#32
    (rdR s.pend a &&& m) ||| (s.rd a &&& ~~~ m)
  | .vf v off => vfRd s v off
  | _ => 0#32

/-- The copy that a write goes to: the pending copy of a configurable register (R41). -/
def writeCopy (s : State) : Target → Word
  | .reg a => if configurable a then rdR s.pend a else s.rd a
  | .view a => rdR s.pend a
  | .vf v off => vfRd s v off
  | _ => 0#32

/-- Mark a configurable register as written (R49, R54). -/
def markWritten (s : State) (a : Nat) : State :=
  if s.written.contains a then s else { s with written := insertBy (fun x y => decide (x < y)) a s.written }

/-- Set the pending copy of a register. -/
def pendPut (s : State) (a : Nat) (w : Word) : State := { s with pend := wrR s.pend a w }

/-- Write the copy that a write goes to. -/
def putWritten (s : State) (w : Word) : Target → State
  | .reg a => if configurable a then markWritten (pendPut s a w) a else s.wr a w
  | .view a => markWritten (pendPut s a w) a
  | .vf v off => vfWr s v off w
  | _ => s

/-- The neighbouring DW of a 64-bit register: from its high word to its low word, or back. -/
def lowOf : Target → Target
  | .reg a => .reg (a - 4)
  | .view a => .view (a - 4)
  | .vf v off => .vf v (off - 4)
  | t => t
def highOf : Target → Target
  | .reg a => .reg (a + 4)
  | .view a => .view (a + 4)
  | .vf v off => .vf v (off + 4)
  | t => t

/-- The address of a register that tags a write shadow (R52): the register's own, whichever copy is addressed. (log entry 43) -/
def regTag : Target → Nat
  | .reg a | .view a | .window a => a
  | .vf _ off => off
  | _ => 0

/-- The shadow that a requester holds in a list, where its tag is the address. (log entry 43) -/
def shadowAt (l : List Shadow) (r : Req) (a : Nat) : Option Word :=
  (l.find? (fun x => x.req == r && x.addr == a)).map Shadow.word

/-- A requester's shadow is gone. -/
def dropShadow (l : List Shadow) (r : Req) : List Shadow := l.filter (fun x => x.req != r)

/-- A requester has one shadow (R51, R52). (log entry 43) -/
def setShadow (l : List Shadow) (r : Req) (a : Nat) (w : Word) : List Shadow := ⟨r, a, w⟩ :: dropShadow l r

/-- A trace sample as window w shows it (R215). -/
def traceWord (s : State) (w i : Nat) : Word :=
  let v := (smGet s.jsp.mem (65536 * s.g (R.JSP_WIN_CH w) + 16384 * s.g (R.JSP_WIN_PAGE w) + i)).getD 0#24
  v.signExtend 32

/-- A word of a record (R487): its SEQ counts the records entered. -/
def recWord (r : Rec) (seq k : Nat) : Word :=
  let e := r.ev
  BitVec.ofNat 32 (match k with
    | 0 => e.time
    | 1 => e.time / 2 ^ 32
    | 2 => e.code % 4096 + 65536 * (severity e.code e.cause % 4 + 16 * (e.cause % 16)) + 2 ^ 24 * (e.src % 256)
    | 3 => seq % 65536 + 65536 * (r.rep % 65536)
    | 4 => e.a0
    | 5 => e.a1
    | 6 => e.a2
    | _ => e.a3)

/-- A word of the event ring as the window shows it (R486, R491): ring index i holds the newest record whose count is i modulo 8,192; a
place that holds none reads 0. (log entry 45) -/
def ringWord (s : State) (o : Nat) : Word :=
  let i := 512 * s.g R.EVL_PAGE_PAGE + o / 32
  let tail := s.g R.EVL_TAIL_COUNT
  let back := (tail + 8191 - i % 8192) % 8192
  match s.evl.ring[back]? with
  | some r => recWord r (tail + 2 ^ 32 - 1 - back) (o / 4 % 8)
  | none => 0#32

/-- A word of the certificate window (R482): a page of the chain in DER, bytes beyond it 0. (log entry 45) -/
def certWord (s : State) (o : Nat) : Word :=
  let c := Config.certChain (s.g R.TRU_CERT_CHAIN)
  BitVec.ofNat 32 (numLE ((c.drop (4096 * s.g R.TRU_CERT_PAGE + o)).take 4))

/-- A word of a read window. -/
def windowWord (s : State) (a : Nat) : Word :=
  if a < 0x180000 then traceWord s (a / 0x10000 - 0x15) (a % 0x10000 / 4)
  else if a < 0x1E3000 then certWord s (a - 0x1E2000)
  else ringWord s (a - 0x1F4000)

/-- A read of one DW (R13, R51, R54): the word, and what the read leaves. (log entry 43) -/
def readDw (s : State) (r : Req) (p : DwPart) : Word × State :=
  let t := targetOf r p.addr
  let m := beMask p.be
  if p.be = 0#4 ∨ reaches s r p.addr = false then (0#32, s)
  else match t, defOf t with
    | .window a, _ => (windowWord s a &&& m, s)
    | _, none => (0#32, s)
    | t, some d =>
      match d.part, shadowAt s.rdShadows r (p.addr - 4) with
      | 2, some w => (w &&& m, { s with rdShadows := dropShadow s.rdShadows r })
      | _, _ =>
        let w := shown s t
        let s := if d.part = 1 ∧ p.be = 15#4 then { s with rdShadows := setShadow s.rdShadows r p.addr (shown s (highOf t)) } else s
        let s := match t with
          | .reg a => if d.fields.any (fun f => f.acc == .rc) then s.wr a (clearOnRead d.fields m w) else s
          | _ => s
        (readWord d.fields w &&& m, s)

/-- A read of one DW, completed. -/
def readPart (s : State) (r : Req) (p : DwPart) : State :=
  let a := readDw s r p
  toReq a.2 r (.readData r a.1)

/-- A read TLP (R54). -/
def readTlp (x : Access) (s : State) : State :=
  match served s x false with
  | .dropped | .waits => s
  | .unsupported => refuse s x false
  | .yes =>
    if 2 < x.dws then widthEvent (refuse s x false) x x.addr x.be
    else (dwParts x).foldl (fun s p => readPart s x.req p) s

/-- READ_CLEAR (R13, R54). -/
def readClear (a : Access) (s : State) : State := readTlp a s

def execReadClear (a : Access) (s : State) : Host.Outcome State Fault Refusal := answerUp s (readClear a)

/-- READ_64_LOW (R51). -/
def readLow (a : Access) (s : State) : State := readTlp a s

def execRead64Low (a : Access) (s : State) : Host.Outcome State Fault Refusal := answerUp s (readLow a)

/-- READ_64_HIGH (R51). -/
def readHigh (a : Access) (s : State) : State := readTlp a s

def execRead64High (a : Access) (s : State) : Host.Outcome State Fault Refusal := answerUp s (readHigh a)

/-- The master that a requester orders a station as (R292, R293); a management core acts for the PF. (log entry 45) -/
def masterOf : Req → Master
  | .vf v => .vf v
  | .partner => .partner
  | .pf | .mgmt _ => .pf

/-- The station whose block an offset lies in (R36). -/
def stnIx (a : Nat) : Fin 8 := ⟨a / 0x10000 % 8, Nat.mod_lt _ (by omega)⟩

/-- A field of a command word as a number below a bound. -/
def fieldIx (w : Word) (f : FRef) (k : Nat) (h : 0 < k) : Fin k := ⟨getF w f % k, Nat.mod_lt _ h⟩

/-- A command register of a station's block (R177, R252, R292). -/
def stationCommand (x : Access) (a : Nat) (w : Word) (s : State) : State :=
  let n := stnIx a
  if a = R.STN_CMD n then
    (stationOrder s n (masterOf x.req) (getF w (R.STN_CMD_CMD n)) (getF w (R.STN_CMD_MODE n) == 1) x.img x.rivals).2
  else if a = R.WRS_BEAM_CMD n then
    (if getF w (R.WRS_BEAM_CMD_CMD n) = 1 then beamResume n (fieldIx w (R.WRS_BEAM_CMD_BEAM n) 4 (by omega)) s else s)
  else if a = R.SLD_CMD n then
    let sync := getF w (R.SLD_CMD_SYNC n) == 1
    if getF w (R.SLD_CMD_CLEAR n) = 1 then sldClear n (BitVec.ofNat 4 (getF w (R.SLD_CMD_CMD n))) sync s
    else slCommand s n (getF w (R.SLD_CMD_CMD n)) sync
  else if a = R.SPN_BUS_CMD then (if getF w R.SPN_BUS_CMD_CMD = 1 then chopperClear s else s)
  else s

/-- BRL_STN_SEQ_CMD (R200): ARG is two's complement for a track jump. -/
def seqCommandWrite (a : Nat) (w : Word) (s : State) : State :=
  let n : Fin 8 := ⟨(a - R.BRL_STN_SEQ_CMD 0) / 0x40 % 8, Nat.mod_lt _ (by omega)⟩
  let cmd := getF w (R.BRL_STN_SEQ_CMD_CMD n)
  let arg := getF w (R.BRL_STN_SEQ_CMD_ARG n)
  seqCommand s n cmd (if cmd = 2 then toSigned 8 arg else arg)

/-- OPL_SPARE_CMD (R122). -/
def spareCommand (w : Word) (s : State) : State :=
  let n := fieldIx w R.OPL_SPARE_CMD_STATION 8 (by omega)
  let m := fieldIx w R.OPL_SPARE_CMD_BEAM 4 (by omega)
  let ver := getF w R.OPL_SPARE_CMD_VERIFY == 1
  match getF w R.OPL_SPARE_CMD_CMD with
  | 1 => spareForce n ver m s
  | 2 => spareRelease n ver m s
  | _ => s

/-- CAL_CMD (R311). -/
def calCommand (w : Word) (s : State) : State :=
  let n := fieldIx w R.CAL_CMD_STATION 8 (by omega)
  match getF w R.CAL_CMD_CMD with
  | 1 => calCalibrate n (fieldIx w R.CAL_CMD_LAYER 16 (by omega)) (getF w R.CAL_CMD_NOW == 1) s
  | 2 => calInvalidate n s
  | _ => s

/-- JSP_CMD (R219), ONX_OP_CMD (R346), GRN_CKPT_CMD and GRN_CFGTX_CMD (R364, R367). -/
def jspCommand (w : Word) (s : State) : State :=
  match getF w R.JSP_CMD_CMD with
  | 1 => jspArm s
  | 2 => jspDisarm s
  | 3 => jspForce s
  | _ => s
def onxCommand (w : Word) (s : State) : State :=
  let c := getF w R.ONX_OP_CMD_CMD
  if 1 ≤ c ∧ c ≤ 5 then onxStart c s else s
def ckptCommand (w : Word) (s : State) : State :=
  match getF w R.GRN_CKPT_CMD_CMD with
  | 1 => grnCheckpoint s
  | 2 => grnBase s
  | _ => s

/-- PCX_CONTAIN_CMD (R427) and PCX_FROZEN_CMD (R431, R434). -/
def containCommand (w : Word) (s : State) : State :=
  if getF w R.PCX_CONTAIN_CMD_KEY = 0x0C47 then
    match getF w R.PCX_CONTAIN_CMD_CMD with
    | 1 => containReleaseResume s
    | 2 => containReleaseDiscard s
    | _ => s
  else s
def frozenCommand (w : Word) (s : State) : State :=
  match getF w R.PCX_FROZEN_CMD_CMD with
  | 1 => frozenReleaseEntry (fieldIx w R.PCX_FROZEN_CMD_INDEX 64 (by omega)) s
  | 2 => frozenReleaseAll s
  | _ => s

/-- CGL_CMD (R461) and DRK_SEND (R462). -/
def pairCommand (w : Word) (s : State) : State :=
  if getF w R.CGL_CMD_KEY = 0x7A4E then
    match getF w R.CGL_CMD_CMD with
    | 1 => takeover s
    | 2 => handback s
    | 3 => leave s
    | _ => s
  else s
def ringCommand (w : Word) (s : State) : State :=
  let arg := BitVec.ofNat 16 (getF w R.DRK_SEND_ARG)
  match getF w R.DRK_SEND_TYPE with
  | 2 => drkSendStart arg s
  | 3 => drkSendStop arg s
  | 4 => drkSendMark arg s
  | _ => s

/-- TRU_FLASH_CMD and TRU_UPDATE_CMD (R482): a wrong KEY is ignored. -/
def flashCommand (w : Word) (s : State) : State :=
  let len := BitVec.ofNat 13 (getF w R.TRU_FLASH_CMD_LEN)
  if getF w R.TRU_FLASH_CMD_KEY = 0x5A17 then
    match s.g R.TRU_FLASH_STATUS_CMD with
    | 0 => flashRead len s
    | 1 => flashProgram len s
    | 2 => flashErase len s
    | _ => s
  else s
def updateCommand (w : Word) (s : State) : State :=
  if getF w R.TRU_UPDATE_CMD_KEY = 0xA5C3 then
    match getF w R.TRU_UPDATE_CMD_CMD with
    | 1 => updateVerify s
    | 2 => activate s
    | 3 => restart s
    | 4 => provision s
    | 5 => raiseSec s
    | _ => s
  else s

/-- A whole write of a command register gives its command. (log entry 44) -/
def command (x : Access) (a : Nat) (w : Word) (s : State) : State :=
  if 0x80000 ≤ a ∧ a < 0x100000 then stationCommand x a w s
  else if 0x100000 ≤ a ∧ a < 0x140000 then seqCommandWrite a w s
  else if a = R.GLB_RESET then glbReset w s
  else if a = R.GLB_APPLY then glbApply w s
  else if a = R.OPL_SPARE_CMD then spareCommand w s
  else if a = R.JSP_CMD then jspCommand w s
  else if a = R.CAL_CMD then calCommand w s
  else if a = R.ONX_OP_CMD then onxCommand w s
  else if a = R.GRN_CKPT_CMD then ckptCommand w s
  else if a = R.GRN_CFGTX_CMD then (if getF w R.GRN_CFGTX_CMD_COMMIT = 1 then cfgtxCommit s else s)
  else if a = R.PCX_CONTAIN_CMD then containCommand w s
  else if a = R.PCX_FROZEN_CMD then frozenCommand w s
  else if a = R.CGL_CMD then pairCommand w s
  else if a = R.DRK_SEND then ringCommand w s
  else if a = R.TRU_FLASH_CMD then flashCommand w s
  else if a = R.TRU_UPDATE_CMD then updateCommand w s
  else s

/-- The admin pair of a function follows EN (R369). -/
def aqFollows (s : State) (fn old : Nat) : State :=
  let new := bitOf (aqRd s fn 0x214).toNat 0
  if old = new then s else if new = 1 then adminEnabled s fn else adminStop s fn

/-- The driver writes a set word of a station (R309): CAL storing it in the same cycle gives way. (log entry 70) -/
def setTold (s : State) (n : Fin 8) (a : Nat) : State :=
  s.calU n (fun c => { c with
    wrote := (if c.wroteAt = s.now then c.wrote.filter (fun p => p.1 != a) else []) ++ [(a, s.rd a)]
    wroteAt := s.now })
def setWritten (s : State) (a : Nat) : State := setTold s ⟨(a - 0x190000) / 0x1000 % 8, Nat.mod_lt _ (by omega)⟩ a
def tapWritten (s : State) (a : Nat) : State := setTold s ⟨(a - 0x198000) / 0x200 % 8, Nat.mod_lt _ (by omega)⟩ a

/-- What else a write of an RW or W1C register brings about: `old` is the word before the write. (log entry 44) -/
def follows (s : State) (t : Target) (old data : Word) : State :=
  match t with
  | .vf v off =>
    if off = 0x214 then aqFollows s v (bitOf old.toNat 0)
    else if 0x6000 ≤ off ∧ off % 16 = 12 then sendPending s v ((off - 0x6000) / 16) else s
  | .reg a =>
    if a = 0x10214 then aqFollows s 0 (bitOf old.toNat 0)
    else if 0x30000 ≤ a ∧ a < 0x38000 ∧ a % 16 = 12 then sendPending s 0 ((a - 0x30000) / 16)
    else if a = R.GLB_CFGREJ then (if getF data R.GLB_CFGREJ_VALID = 1 then s.u R.GLB_CFGREJ_OVERRUN 0 else s)
    else if a = R.PCX_INTX then refreshIntx s
    else if 0x190000 ≤ a ∧ a < 0x198000 then setWritten s a
    else if 0x198000 ≤ a ∧ a < 0x199000 then tapWritten s a
    else if 0x22000 ≤ a ∧ a < 0x26000 ∧ a % 0x40 = 0x20 then
      let w := (a - 0x22000) / 0x40
      if s.on (R.PCX_WIN_STATUS_REFUSED w) then s else winU s w (fun x => { x with told := false })
    else s
  | _ => s

/-- A write of an ordinary register, or of one word of a 64-bit register (R52, R54). (log entry 43) -/
def writeReg (s : State) (r : Req) (t : Target) (d : RegDef) (p : DwPart) : State :=
  let m := beMask p.be
  let old := writeCopy s t
  if !isWritable d.fields then s
  else match d.part with
    | 1 =>
      let base := (shadowAt s.wrShadows r (regTag t)).getD old
      { s with wrShadows := setShadow s.wrShadows r (regTag t) (mergeBytes p.be base p.data) }
    | 2 =>
      let tl := lowOf t
      let low := writeCopy s tl
      let sh := shadowAt s.wrShadows r (regTag tl)
      let s := if sh.isSome then { s with wrShadows := dropShadow s.wrShadows r } else s
      let lowNew := match defOf tl with
        | some dl => writeWord dl.fields (beMask 15#4) (sh.getD low) low
        | none => low
      let highNew := writeWord d.fields m p.data old
      if t = .reg (R.QTZ_SET_LO + 4) then qtzSet (highNew ++ lowNew) s
      else putWritten (putWritten s lowNew tl) highNew t
    | _ =>
      if t = .reg R.EVL_HEAD then evlHeadWrite (mergeBytes p.be old p.data) s
      else follows (putWritten s (writeWord d.fields m p.data old) t) t old (p.data &&& m)

/-- A write of one DW (R14, R41, R54). -/
def writeDw (x : Access) (s : State) (p : DwPart) : State :=
  let t := targetOf x.req p.addr
  let guarded := match t with
    | .reg a | .view a => homeOnly a && !isHome x.req
    | _ => false
  if p.be = 0#4 ∨ reaches s x.req p.addr = false ∨ guarded = true then s
  else match defOf t with
    | none => s
    | some d =>
      if isCommand d.fields then
        if p.be ≠ 15#4 then widthEvent s x p.addr p.be
        else match t with
          | .bell fn q cq => if cq then cqHeadDoorbell fn q p.data.toNat s else sqTailDoorbell fn q p.data.toNat s
          | .reg a => command x a p.data s
          | _ => s
      else writeReg s x.req t d p

/-- A write of some bytes of an SRAM block (R331): where a replaced byte fails its row parity the whole block is read first, and where that cannot be
mended the rule of the block's owner applies, that of R114 or of R211. -/
def sramWritten (s : State) (w : SramWrite) : State :=
  if !sramReads w.block w.mask then s
  else
    let s := sramRead s (some w.block)
    if !sramBad (some w.block) then s
    else match w.owner with
      | .lane l => failLane s l
      | .pipe p => if bitOf (s.g R.BRL_PIPE_OK) p.val = 0 then s else shedDown (pipeFails s p.val 1 0) stations.reverse
      | .other => s

/-- A write TLP (R54). What is kept in an SRAM is written there (R331). -/
def writeTlp (x : Access) (s : State) : State :=
  match served s x true with
  | .dropped => wakeByBell s x
  | .unsupported => refuse (wakeByBell s x) x true
  | .waits => postpone s (.access x)
  | .yes =>
    if 2 < x.dws then widthEvent (refuse s x true) x x.addr x.be
    else
      let s := x.sram.toList.foldl sramWritten s
      (dwParts x).foldl (writeDw x) s

/-- REGISTER_WRITE (R54). -/
def registerWrite (a : Access) (s : State) : State := writeTlp a s

def execRegisterWrite (a : Access) (s : State) : Host.Outcome State Fault Refusal := answerUp s (registerWrite a)

/-- WRITE_64_LOW (R52). -/
def writeLow (a : Access) (s : State) : State := writeTlp a s

def execWrite64Low (a : Access) (s : State) : Host.Outcome State Fault Refusal := answerUp s (writeLow a)

/-- WRITE_64_HIGH (R52). -/
def writeHigh (a : Access) (s : State) : State := writeTlp a s

def execWrite64High (a : Access) (s : State) : Host.Outcome State Fault Refusal := answerUp s (writeHigh a)

end Sys2Proof.Machine
end

