-- ==== Sys2Proof/Machine/Buffer.lean ====
section
/-!
DEFINITION. The meanings of the buffer's commands (chapter "Buffer Memory"): training, the interval oscillators, the end of the
pool's initialisation, the patrol scrubber.
-/

namespace Sys2Proof.Machine

/-- A fitting that R312 lists. -/
def fitOk (f : Fitting) : Bool := 1 ≤ f.density && f.density ≤ 3 && 1 ≤ f.ranks && f.ranks ≤ 2

/-- Fitted size in GiB (R312). -/
def fittedGiB (f : Fitting) : Nat := 4 * f.ranks * (if f.byteMode then 4 else 2) * 2 ^ (f.density - 1)

/-- A training attempt of a channel has failed (R315): the third ends it. -/
def trainFailed (s : State) (c : Fin 4) : State :=
  s.bufU (fun b => { b with train := vmod b.train c (fun _ => if 3 ≤ b.attempts[c] then .failed else .none) })

/-- Every channel has trained or failed (R313, R315): the fitting is known, or the buffer stays closed. -/
def trainingEnds (s : State) : State :=
  let bad := ([0, 1, 2, 3] : List (Fin 4)).filter (fun c => s.buf.train[c] == .failed)
  if s.buf.train.toList.contains .none then s
  else if !bad.isEmpty then
    let mask := bad.foldl (fun a c => a + 2 ^ c.val) 0
    let s := (s.us [(R.BUF_STATUS_TRAIN_FAIL, mask), (R.HQE_STATUS_CLOSED, 1)]).log 0x303 noStation [mask]
    s.each (List.range 256) adminStart
  else match s.buf.fits[(0 : Fin 4)] with
    | none => s
    | some f =>
      let s := s.us [(R.BUF_CONFIG_FITTED, fittedGiB f), (R.BUF_CONFIG_DENSITY, f.density), (R.BUF_CONFIG_RANKS, f.ranks - 1),
        (R.BUF_CONFIG_BYTE_MODE, b2n f.byteMode)]
      refreshBuf (s.bufU (fun b => { b with poolSize := (fittedGiB f * 7 - 8) * 32768 }))

/-- DRAM_TRAINING_COMPLETE (R313, R315): an attempt on channel c ends; `fit` is what its mode registers report. A fitting other than
channel 0's, or one outside R312, is a training failure. -/
def dramTrainingComplete (c : Fin 4) (fit : Fitting) (ok : Bool) (s : State) : State :=
  if s.sys.ready = false ∨ s.buf.train[c] ≠ .none then s
  else
    let s := s.bufU (fun b => { b with
      attempts := vmod b.attempts c (· + 1)
      fits := vmod b.fits c (fun _ => some fit) })
    let same := match s.buf.fits[(0 : Fin 4)] with
      | some f => decide (f = fit)
      | none => true
    if !ok || !fitOk fit || !same then trainingEnds (trainFailed s c)
    else
      let s := s.bufU (fun b => { b with
        train := vmod b.train c (fun _ => .trained)
        trainTemp := vmod b.trainTemp c (fun _ => s.gi (R.GLB_TEMP_VALUE 3)) })
      let odd := ([1, 2, 3] : List (Fin 4)).filter (fun d =>
        decide (c = 0) && s.buf.train[d] == .trained && s.buf.fits[d] != some fit)
      trainingEnds (s.each odd trainFailed)

def execDramTrainingComplete (c : Fin 4) (fit : Fitting) (ok : Bool) (s : State) : Host.Outcome State Fault Refusal :=
  answer s (dramTrainingComplete c fit ok)

/-- WCK_OSCILLATOR_READ (R314): write timing follows the rank's interval oscillator, and steps 4 and 5 of training are repeated when
GLB_TEMP3 has moved by 10 °C. -/
def wckOscillatorRead (c : Fin 4) (rank : Fin 2) (count : Nat) (s : State) : State :=
  if s.buf.train[c] ≠ .trained then s
  else
    let i : Fin 8 := ⟨2 * c.val + rank.val, by omega⟩
    dramRetrain (s.bufU (fun b => { b with wck := vmod b.wck i (fun _ => count) }))

def execWckOscillatorRead (c : Fin 4) (rank : Fin 2) (count : Nat) (s : State) : Host.Outcome State Fault Refusal :=
  answer s (wckOscillatorRead c rank count)

/-- BUFFER_INIT_DONE (R319, R325): every codeword has been written with valid check bits; the scrubber may begin. (log entry 67) -/
def bufferInitDone (s : State) : State :=
  if s.sys.sysInit = false ∨ s.g R.BUF_STATUS_TRAIN_FAIL ≠ 0 ∨ s.on R.BUF_STATUS_INIT_DONE = true then s
  else refreshBuf ((s.us [(R.BUF_STATUS_INIT_DONE, 1), (R.BUF_STATUS_SCRUB_BUSY, s.g R.BUF_SCRUB_EN)]).bufU (fun b => { b with written := b.poolSize }))

def execBufferInitDone (s : State) : Host.Outcome State Fault Refusal := answer s bufferInitDone

/-- The scrubber moves on to the next 64 bytes that hold data (R316, R325, R332); at the end of the fitted memory a pass is complete. (log entry 67) -/
def scrubStep (s : State) : State :=
  let one := s.g R.BUF_SCRUB_POS_ADDR + 1
  let next := if holdsData one then one else one + 16
  let s := s.u R.BUF_STATUS_SCRUB_BUSY 1
  if next < s.g R.BUF_CONFIG_FITTED * 2 ^ 24 then s.u R.BUF_SCRUB_POS_ADDR next
  else s.us [(R.BUF_SCRUB_POS_ADDR, 0), (R.BUF_SCRUB_PASSES_PASSES, s.g R.BUF_SCRUB_PASSES_PASSES + 1)]

/-- A system word that the code cannot correct (R323): the other copy mends it; with both bad, a map entry is reloaded, and any other word causes a
device reset. -/
def systemError (s : State) (e : WordErr) : State :=
  if !e.otherBad then s
  else match e.entry with
    | some i => reloadEntry s i (parseEntry e.old)
    | none => deviceReset s R.GLB_RESET_CAUSE_MEMORY

/-- What BUF does with an error that a scrub read finds in a codeword at the scrubber's position (R322, R323, R327). -/
def scrubError (pos : Nat) (rank : Fin 2) (s : State) (e : WordErr) : State :=
  let l := dramPlace pos
  let s := symbolFound s (dramChannel pos) rank.val l e.bad
  if e.bad < 2 then s
  else match l with
    | .pool b => poolError s b e.otherBad
    | .system _ _ => systemError s e

/-- A page the scrubber skips (R325, R326): retired, or being filled. -/
def scrubSkips (s : State) (l : DramLoc) : Bool :=
  s.buf.retired.contains (locPage l) || (match l with
    | .pool b => ((smGet s.buf.pages b).map (fun p => p.st == .filling)).getD false
    | _ => false)

/-- SCRUB_READ (R325): the scrubber reads the four codewords at its position, acts on what it finds, and moves on. -/
def scrubRead (x : ScrubIn) (s : State) : State :=
  let pos := s.g R.BUF_SCRUB_POS_ADDR
  if s.on R.BUF_SCRUB_EN = false ∨ s.on R.BUF_STATUS_INIT_DONE = false then s
  else if scrubSkips s (dramPlace pos) then scrubStep s
  else x.errs.foldl (scrubError pos x.rank) (scrubStep s)

def execScrubRead (x : ScrubIn) (s : State) : Host.Outcome State Fault Refusal := answer s (scrubRead x)

end Sys2Proof.Machine
end

