-- ==== Sys2Proof/Machine/Ingest.lean ====
section
/-!
DEFINITION. The meanings of the commands on BAR2 (R411, R416 to R422).
-/

namespace Sys2Proof.Machine

/-- INGEST_TLP (R420): a posted write to BAR2. While credits are held back for a TLP it waits (R412, R422). Where BAR2 does not
respond it is an Unsupported Request, which AER records (R411). -/
def ingestTlp (t : Tlp) (s : State) : State :=
  if creditsHeld s then postpone s (.tlp t)
  else if contained s then s
  else if !memOn s 0 then aer s 20
  else
    let s := poolWritten (wakeHost s)
    if frozenRid s t.rid then s
    else if t.poisoned then aer s 12
    else if t.data.isEmpty then s
    else routeTlp s t

def execIngestTlp (t : Tlp) (s : State) : Host.Outcome State Fault Refusal := answer s (ingestTlp t)

/-- BAR2_READ (R400, R411, R430): zero data and no side effect on the windows. That of a frozen requester is refused. -/
def bar2Read (rid len : Nat) (s : State) : State :=
  if contained s then s
  else if !memOn s 0 then s.emitTlp (.refused rid)
  else (wakeHost s).emitTlp (if frozenRid s rid then .refused rid else .zeroes rid len)

def execBar2Read (rid len : Nat) (s : State) : Host.Outcome State Fault Refusal := answer s (bar2Read rid len)

/-- GRACE_INTERVAL_END (R421). -/
def graceIntervalEnd (w : Fin 256) (s : State) : State :=
  match (winOf s w).old with
  | none => s
  | some o =>
    if s.now < o.since + 1000 * s.g R.PCX_TIMING_GRACE then s
    else winU (s.u (R.PCX_WIN_STATUS_OLD_MAP w) 0) w (fun x => { x with old := none })

def execGraceIntervalEnd (w : Fin 256) (s : State) : Host.Outcome State Fault Refusal := answer s (graceIntervalEnd w)

end Sys2Proof.Machine
end

