-- ==== Sys2Proof/Machine/Held.lean ====
section
/-!
DEFINITION. Posted writes that wait behind held-back credits, and the meanings of the commands that end the holding: pages that become free as a stripe
enters the map, and the expiry of the hold (R412, R422, R342).
-/

namespace Sys2Proof.Machine

/-- A posted write that waited reaches the endpoint (R412). -/
def postedNow (s : State) : Posted → State
  | .tlp t => ingestTlp t s
  | .sqTail fn q v => sqTailDoorbell fn q v s
  | .cqHead fn q v => cqHeadDoorbell fn q v s
  | .adminEnable fn => adminQueueEnable fn s
  | .adminDisable fn => adminQueueDisable fn s
  | .access a => registerWrite a s
  | .unmask fn v => vectorUnmask fn v s

/-- Posted writes are handled in their arrival order, until one of them holds back credits in its turn (R412, R422). -/
def handlePosted : List Posted → State → State
  | [], s => s
  | p :: t, s => if creditsHeld s then s.pcxU (fun x => { x with posted := p :: t }) else handlePosted t (postedNow s p)

/-- What waited for credits goes on, where they have been returned. (log entry 86) -/
def drainPosted (s : State) : State :=
  if creditsHeld s then s else handlePosted s.pcx.posted (s.pcxU (fun x => { x with posted := [] }))

/-- The map changes of the oldest stripe that is complete, stages 8 and 9 of R21 (R342, R344); it waits in the buffer while the table has no room for
them. (log entry 85) -/
def mapOldest (s : State) : State :=
  match mappable s with
  | none => s
  | some t =>
    let s' := mapStripe s t
    if s.grn.waiting.length < s'.grn.waiting.length then s else checkPower (retryHold s')

/-- STRIPE_MAP_UPDATE (R342, R344). -/
def stripeMapUpdate (s : State) : State := drainPosted (mapOldest s)

def execStripeMapUpdate (s : State) : Host.Outcome State Fault Refusal := answer s stripeMapUpdate

/-- The held TLP is taken where pages are free by now; after HOLD µs it is dropped and the credits are returned (R422). -/
def holdEnds (s : State) : State :=
  let s := retryHold s
  match s.pcx.hold with
  | none => s
  | some h =>
    if s.now < h.since + 1000 * s.g R.PCX_CREDIT_HOLD then s
    else refuseWin (s.pcxU (fun p => { p with hold := none })) h.win 1

/-- CREDIT_HOLD_EXPIRY (R422). -/
def creditHoldExpiry (s : State) : State := drainPosted (holdEnds s)

def execCreditHoldExpiry (s : State) : Host.Outcome State Fault Refusal := answer s creditHoldExpiry

end Sys2Proof.Machine
end

