-- ==== Sys2Proof/Machine/Spdm.lean ====
section
/-!
DEFINITION. The meanings of the requests through the Data Object Exchange mailbox of the PF (R472, R473).
-/

namespace Sys2Proof.Machine

/-- DOE_DISCOVERY (R472): index 0 is DOE Discovery, index 1 SPDM, and there are no more. -/
def doeDiscovery (index : Nat) (s : State) : State :=
  s.emit (.doe (if index = 0 then .discovery 0 1 else if index = 1 then .discovery 1 0 else .error))

def execDoeDiscovery (index : Nat) (s : State) : Host.Outcome State Fault Refusal := answerUp s (doeDiscovery index)

/-- GET_VERSION (R472). -/
def getVersion (s : State) : State := doeRequest s .version

def execGetVersion (s : State) : Host.Outcome State Fault Refusal := answerUp s getVersion

/-- GET_CAPABILITIES (R472). -/
def getCapabilities (s : State) : State := doeRequest s .capabilities

def execGetCapabilities (s : State) : Host.Outcome State Fault Refusal := answerUp s getCapabilities

/-- NEGOTIATE_ALGORITHMS (R472): whether the requester offers Ed25519 and SHA-512. -/
def negotiateAlgorithms (offered : Bool) (s : State) : State := doeRequest s (.algorithms offered)

def execNegotiateAlgorithms (offered : Bool) (s : State) : Host.Outcome State Fault Refusal := answerUp s (negotiateAlgorithms offered)

/-- GET_DIGESTS (R472). -/
def getDigests (s : State) : State := doeRequest s .digests

def execGetDigests (s : State) : Host.Outcome State Fault Refusal := answerUp s getDigests

/-- GET_CERTIFICATE (R471, R472). -/
def getCertificate (slot offset len : Nat) (s : State) : State := doeRequest s (.certificate slot offset len)

def execGetCertificate (slot offset len : Nat) (s : State) : Host.Outcome State Fault Refusal :=
  answerUp s (getCertificate slot offset len)

/-- CHALLENGE (R472). -/
def challenge (slot : Nat) (transcript : List Byte) (s : State) : State := doeRequest s (.challenge slot transcript)

def execChallenge (slot : Nat) (transcript : List (BitVec 8)) (s : State) : Host.Outcome State Fault Refusal :=
  answerUp s (challenge slot transcript)

/-- GET_MEASUREMENTS (R472, R473). -/
def getMeasurements (index : Nat) (signed : Bool) (transcript : List Byte) (s : State) : State :=
  doeRequest s (.measurements index signed transcript)

def execGetMeasurements (index : Nat) (signed : Bool) (transcript : List (BitVec 8)) (s : State) : Host.Outcome State Fault Refusal :=
  answerUp s (getMeasurements index signed transcript)

end Sys2Proof.Machine
end

