-- ==== Sys2Proof/Machine/Dispatch.lean ====
section
/-!
DEFINITION. The dispatch of commands to their meanings, one arm per row of the opcode table.
-/

namespace Sys2Proof.Machine

/-- What each command does, by its meaning (one definition per row of the opcode table). -/
def exec (i : Instr) (s : State) : Host.Outcome State Fault Refusal :=
  match i with
  | .registerWrite a => Sys2Proof.Machine.execRegisterWrite a s
  | .readClear a => Sys2Proof.Machine.execReadClear a s
  | .read64Low a => Sys2Proof.Machine.execRead64Low a s
  | .read64High a => Sys2Proof.Machine.execRead64High a s
  | .write64Low a => Sys2Proof.Machine.execWrite64Low a s
  | .write64High a => Sys2Proof.Machine.execWrite64High a s
  | .glbApply w => Sys2Proof.Machine.execGlbApply w s
  | .applyAtBoundary units => Sys2Proof.Machine.execApplyAtBoundary units s
  | .autoApply u => Sys2Proof.Machine.execAutoApply u s
  | .glbReset w => Sys2Proof.Machine.execGlbReset w s
  | .tempSensorUpdate t => Sys2Proof.Machine.execTempSensorUpdate t s
  | .thermalTripRelease t => Sys2Proof.Machine.execThermalTripRelease t s
  | .adipWordDecode n arm newSlot w => Sys2Proof.Machine.execAdipWordDecode n arm newSlot w s
  | .wobbleSeedUpdate n samples => Sys2Proof.Machine.execWobbleSeedUpdate n samples s
  | .primarySyncMatch l p f => Sys2Proof.Machine.execPrimarySyncMatch l p f s
  | .secondarySyncMatch l p f => Sys2Proof.Machine.execSecondarySyncMatch l p f s
  | .hypothesisDecide l f => Sys2Proof.Machine.execHypothesisDecide l f s
  | .flywheelInsertion l f => Sys2Proof.Machine.execFlywheelInsertion l f s
  | .frameLockRegained l p f => Sys2Proof.Machine.execFrameLockRegained l p f s
  | .defectDeclared l f => Sys2Proof.Machine.execDefectDeclared l f s
  | .defectEnd l f => Sys2Proof.Machine.execDefectEnd l f s
  | .defectHoldExceeded l f => Sys2Proof.Machine.execDefectHoldExceeded l f s
  | .frameDelivery l f sram => Sys2Proof.Machine.execFrameDelivery l f sram s
  | .clusterStatistics l => Sys2Proof.Machine.execClusterStatistics l s
  | .laneFailed l why => Sys2Proof.Machine.execLaneFailed l why s
  | .adcFailed l f startUp => Sys2Proof.Machine.execAdcFailed l f startUp s
  | .laneSpareSwitch bs => Sys2Proof.Machine.execLaneSpareSwitch bs s
  | .spareForce n ver m => Sys2Proof.Machine.execSpareForce n ver m s
  | .spareRelease n ver m => Sys2Proof.Machine.execSpareRelease n ver m s
  | .microcodeTake l => Sys2Proof.Machine.execMicrocodeTake l s
  | .blockJoinCluster vol reel => Sys2Proof.Machine.execBlockJoinCluster vol reel s
  | .streamIdleExpiry vol reel => Sys2Proof.Machine.execStreamIdleExpiry vol reel s
  | .stripeOpen vol reel => Sys2Proof.Machine.execStripeOpen vol reel s
  | .stripeSerialAssign => Sys2Proof.Machine.execStripeSerialAssign s
  | .clusterEncode n t => Sys2Proof.Machine.execClusterEncode n t s
  | .clusterDecoded pca => Sys2Proof.Machine.execClusterDecoded pca s
  | .degradedRebuild n => Sys2Proof.Machine.execDegradedRebuild n s
  | .sweepCluster n => Sys2Proof.Machine.execSweepCluster n s
  | .relocationComplete disc pca => Sys2Proof.Machine.execRelocationComplete disc pca s
  | .linkSyncWord n m osc => Sys2Proof.Machine.execLinkSyncWord n m osc s
  | .clusterWriteStart n m slot => Sys2Proof.Machine.execClusterWriteStart n m slot s
  | .clusterInterrupted n m => Sys2Proof.Machine.execClusterInterrupted n m s
  | .frameVerifyResult n m f => Sys2Proof.Machine.execFrameVerifyResult n m f s
  | .verifyResultTimeout n m => Sys2Proof.Machine.execVerifyResultTimeout n m s
  | .clusterAbandon n m => Sys2Proof.Machine.execClusterAbandon n m s
  | .clusterVerdict n m => Sys2Proof.Machine.execClusterVerdict n m s
  | .beamResume n m => Sys2Proof.Machine.execBeamResume n m s
  | .sampleTick pd fails srams => Sys2Proof.Machine.execSampleTick pd fails srams s
  | .servoHoldExpiry n => Sys2Proof.Machine.execServoHoldExpiry n s
  | .focusLockGained n => Sys2Proof.Machine.execFocusLockGained n s
  | .focusLockLost n => Sys2Proof.Machine.execFocusLockLost n s
  | .trackingLockGained n => Sys2Proof.Machine.execTrackingLockGained n s
  | .trackingLockLost n => Sys2Proof.Machine.execTrackingLockLost n s
  | .focusAcq n => Sys2Proof.Machine.execFocusAcq n s
  | .trackJump n arg => Sys2Proof.Machine.execTrackJump n arg s
  | .layerJump n arg => Sys2Proof.Machine.execLayerJump n arg s
  | .seqStop n => Sys2Proof.Machine.execSeqStop n s
  | .ffClear n => Sys2Proof.Machine.execFfClear n s
  | .setLayer n arg => Sys2Proof.Machine.execSetLayer n arg s
  | .jumpWaitRelease n => Sys2Proof.Machine.execJumpWaitRelease n s
  | .sequenceTimerExpiry n => Sys2Proof.Machine.execSequenceTimerExpiry n s
  | .sequenceCrossing n sCurve d => Sys2Proof.Machine.execSequenceCrossing n sCurve d s
  | .focusSweepEnd n => Sys2Proof.Machine.execFocusSweepEnd n s
  | .jumpTimeout n => Sys2Proof.Machine.execJumpTimeout n s
  | .jspArm => Sys2Proof.Machine.execJspArm s
  | .jspDisarm => Sys2Proof.Machine.execJspDisarm s
  | .jspForce => Sys2Proof.Machine.execJspForce s
  | .jspCaptureDone => Sys2Proof.Machine.execJspCaptureDone s
  | .pwmPeriod n ia ib ic vbus va vb vc => Sys2Proof.Machine.execPwmPeriod n ia ib ic vbus va vb vc s
  | .phaseOvercurrent n cur => Sys2Proof.Machine.execPhaseOvercurrent n cur s
  | .encoderUpdate n => Sys2Proof.Machine.execEncoderUpdate n s
  | .observerValid n => Sys2Proof.Machine.execObserverValid n s
  | .observerInvalid n => Sys2Proof.Machine.execObserverInvalid n s
  | .speedRefUpdate n => Sys2Proof.Machine.execSpeedRefUpdate n s
  | .cavRegulationGained n => Sys2Proof.Machine.execCavRegulationGained n s
  | .cavRegulationLost n => Sys2Proof.Machine.execCavRegulationLost n s
  | .spinMeasureEnd n => Sys2Proof.Machine.execSpinMeasureEnd n s
  | .spinAlignEnd n => Sys2Proof.Machine.execSpinAlignEnd n s
  | .spinIfRampEnd n => Sys2Proof.Machine.execSpinIfRampEnd n s
  | .spinObsTimeout n => Sys2Proof.Machine.execSpinObsTimeout n s
  | .spinRetryEnd n => Sys2Proof.Machine.execSpinRetryEnd n s
  | .shortBrakeStart n => Sys2Proof.Machine.execShortBrakeStart n s
  | .shortBrakeEnd n => Sys2Proof.Machine.execShortBrakeEnd n s
  | .busSample v cur => Sys2Proof.Machine.execBusSample v cur s
  | .chopperFault cause => Sys2Proof.Machine.execChopperFault cause s
  | .chopperClear => Sys2Proof.Machine.execChopperClear s
  | .busTrip v => Sys2Proof.Machine.execBusTrip v s
  | .busTripRelease => Sys2Proof.Machine.execBusTripRelease s
  | .safeSpeedMeasure n => Sys2Proof.Machine.execSafeSpeedMeasure n s
  | .sledProfileTick n => Sys2Proof.Machine.execSledProfileTick n s
  | .sledPositionUpdate n => Sys2Proof.Machine.execSledPositionUpdate n s
  | .sledCurrentPeriod n iA iB => Sys2Proof.Machine.execSledCurrentPeriod n iA iB s
  | .sledOvercurrent n cur => Sys2Proof.Machine.execSledOvercurrent n cur s
  | .sledHoldCurrent n => Sys2Proof.Machine.execSledHoldCurrent n s
  | .sldMove n sync => Sys2Proof.Machine.execSldMove n sync s
  | .sldStop n => Sys2Proof.Machine.execSldStop n s
  | .sldHalt n => Sys2Proof.Machine.execSldHalt n s
  | .sldHome n => Sys2Proof.Machine.execSldHome n s
  | .sldEngage n => Sys2Proof.Machine.execSldEngage n s
  | .sldArmChange n => Sys2Proof.Machine.execSldArmChange n s
  | .sldDisengage n => Sys2Proof.Machine.execSldDisengage n s
  | .sldSetPos n => Sys2Proof.Machine.execSldSetPos n s
  | .sldRelease n => Sys2Proof.Machine.execSldRelease n s
  | .sldEnergise n => Sys2Proof.Machine.execSldEnergise n s
  | .sldClear n cmd sync => Sys2Proof.Machine.execSldClear n cmd sync s
  | .armedMoveStart n => Sys2Proof.Machine.execArmedMoveStart n s
  | .switchQualified n endSw level ago => Sys2Proof.Machine.execSwitchQualified n endSw level ago s
  | .homeChatter n endSw k => Sys2Proof.Machine.execHomeChatter n endSw k s
  | .discPresentQualified n level ago img => Sys2Proof.Machine.execDiscPresentQualified n level ago img s
  | .stationMount n m rivals img => Sys2Proof.Machine.execStationMount n m rivals img s
  | .stationRelease n m retire rivals => Sys2Proof.Machine.execStationRelease n m retire rivals s
  | .stationPark n m rivals => Sys2Proof.Machine.execStationPark n m rivals s
  | .stationWake n m rivals => Sys2Proof.Machine.execStationWake n m rivals s
  | .stationOffline n m retire rivals => Sys2Proof.Machine.execStationOffline n m retire rivals s
  | .stationOnline n m rivals img => Sys2Proof.Machine.execStationOnline n m rivals img s
  | .stationReset n m rivals img => Sys2Proof.Machine.execStationReset n m rivals img s
  | .loadingComplete n => Sys2Proof.Machine.execLoadingComplete n s
  | .mountStepComplete n cur => Sys2Proof.Machine.execMountStepComplete n cur s
  | .addressTimeout n => Sys2Proof.Machine.execAddressTimeout n s
  | .spindleStopped n => Sys2Proof.Machine.execSpindleStopped n s
  | .tSpinExpiry n => Sys2Proof.Machine.execTSpinExpiry n s
  | .tParkExpiry n => Sys2Proof.Machine.execTParkExpiry n s
  | .workArrives n => Sys2Proof.Machine.execWorkArrives n s
  | .pickupTempRead n v => Sys2Proof.Machine.execPickupTempRead n v s
  | .calibrationInterval n => Sys2Proof.Machine.execCalibrationInterval n s
  | .calibrationStart n => Sys2Proof.Machine.execCalibrationStart n s
  | .calibrationDeferExpiry n => Sys2Proof.Machine.execCalibrationDeferExpiry n s
  | .calibrationStepComplete n => Sys2Proof.Machine.execCalibrationStepComplete n s
  | .calCalibrate n layer now => Sys2Proof.Machine.execCalCalibrate n layer now s
  | .calInvalidate n => Sys2Proof.Machine.execCalInvalidate n s
  | .dramTrainingComplete c fit ok => Sys2Proof.Machine.execDramTrainingComplete c fit ok s
  | .wckOscillatorRead c rank count => Sys2Proof.Machine.execWckOscillatorRead c rank count s
  | .bufferInitDone => Sys2Proof.Machine.execBufferInitDone s
  | .scrubRead x => Sys2Proof.Machine.execScrubRead x s
  | .stripeMapUpdate => Sys2Proof.Machine.execStripeMapUpdate s
  | .onyxMiss bad => Sys2Proof.Machine.execOnyxMiss bad s
  | .onyxFillComplete line => Sys2Proof.Machine.execOnyxFillComplete line s
  | .onxInvalidate => Sys2Proof.Machine.execOnxInvalidate s
  | .onxClean => Sys2Proof.Machine.execOnxClean s
  | .onxCleanInvalidate => Sys2Proof.Machine.execOnxCleanInvalidate s
  | .onxLock => Sys2Proof.Machine.execOnxLock s
  | .onxUnlock => Sys2Proof.Machine.execOnxUnlock s
  | .groupVisible id => Sys2Proof.Machine.execGroupVisible id s
  | .checkpointInterval => Sys2Proof.Machine.execCheckpointInterval s
  | .checkpointComplete seq => Sys2Proof.Machine.execCheckpointComplete seq s
  | .grnCheckpoint => Sys2Proof.Machine.execGrnCheckpoint s
  | .grnBase => Sys2Proof.Machine.execGrnBase s
  | .mapLoadComplete x => Sys2Proof.Machine.execMapLoadComplete x s
  | .cfgtxCommit => Sys2Proof.Machine.execCfgtxCommit s
  | .adminQueueEnable fn => Sys2Proof.Machine.execAdminQueueEnable fn s
  | .adminQueueDisable fn => Sys2Proof.Machine.execAdminQueueDisable fn s
  | .sqTailDoorbell fn q value => Sys2Proof.Machine.execSqTailDoorbell fn q value s
  | .cqHeadDoorbell fn q value => Sys2Proof.Machine.execCqHeadDoorbell fn q value s
  | .commandFetch => Sys2Proof.Machine.execCommandFetch s
  | .commandAdmission rivals => Sys2Proof.Machine.execCommandAdmission rivals s
  | .createCq tag => Sys2Proof.Machine.execCreateCq tag s
  | .createSq tag => Sys2Proof.Machine.execCreateSq tag s
  | .deleteSq tag => Sys2Proof.Machine.execDeleteSq tag s
  | .deleteCq tag => Sys2Proof.Machine.execDeleteCq tag s
  | .abort tag => Sys2Proof.Machine.execAbort tag s
  | .abortRequestArrival tag => Sys2Proof.Machine.execAbortRequestArrival tag s
  | .setPower tag => Sys2Proof.Machine.execSetPower tag s
  | .stationOrder tag rivals img => Sys2Proof.Machine.execStationOrder tag rivals img s
  | .retirePage tag => Sys2Proof.Machine.execRetirePage tag s
  | .write tag => Sys2Proof.Machine.execWrite tag s
  | .writeAcknowledge tag => Sys2Proof.Machine.execWriteAcknowledge tag s
  | .read tag errs => Sys2Proof.Machine.execRead tag errs s
  | .flush tag => Sys2Proof.Machine.execFlush tag s
  | .commitOpen tag => Sys2Proof.Machine.execCommitOpen tag s
  | .commitClose tag => Sys2Proof.Machine.execCommitClose tag s
  | .reelOpen tag => Sys2Proof.Machine.execReelOpen tag s
  | .reelClose tag => Sys2Proof.Machine.execReelClose tag s
  | .seal tag => Sys2Proof.Machine.execSeal tag s
  | .manifestSign serial => Sys2Proof.Machine.execManifestSign serial s
  | .completionPosted fn cq => Sys2Proof.Machine.execCompletionPosted fn cq s
  | .functionLevelReset fn => Sys2Proof.Machine.execFunctionLevelReset fn s
  | .hotReset linkDown => Sys2Proof.Machine.execHotReset linkDown s
  | .fundamentalReset => Sys2Proof.Machine.execFundamentalReset s
  | .configRequest r => Sys2Proof.Machine.execConfigRequest r s
  | .vfEnable on => Sys2Proof.Machine.execVfEnable on s
  | .serdesLaneFailure lane => Sys2Proof.Machine.execSerdesLaneFailure lane s
  | .ingestTlp t => Sys2Proof.Machine.execIngestTlp t s
  | .bar2Read rid len => Sys2Proof.Machine.execBar2Read rid len s
  | .creditHoldExpiry => Sys2Proof.Machine.execCreditHoldExpiry s
  | .graceIntervalEnd w => Sys2Proof.Machine.execGraceIntervalEnd w s
  | .translationCompletion tag ok phys rd wr => Sys2Proof.Machine.execTranslationCompletion tag ok phys rd wr s
  | .invalidateRequest fn page count itag => Sys2Proof.Machine.execInvalidateRequest fn page count itag s
  | .dmaCompletion tag st data => Sys2Proof.Machine.execDmaCompletion tag st data s
  | .completionTimeout tag => Sys2Proof.Machine.execCompletionTimeout tag s
  | .lateCompletion tag => Sys2Proof.Machine.execLateCompletion tag s
  | .containmentEvent cause => Sys2Proof.Machine.execContainmentEvent cause s
  | .dataLinkUp speed width lanes => Sys2Proof.Machine.execDataLinkUp speed width lanes s
  | .containReleaseResume => Sys2Proof.Machine.execContainReleaseResume s
  | .containReleaseDiscard => Sys2Proof.Machine.execContainReleaseDiscard s
  | .frozenReleaseEntry cur => Sys2Proof.Machine.execFrozenReleaseEntry cur s
  | .frozenReleaseAll => Sys2Proof.Machine.execFrozenReleaseAll s
  | .vectorUnmask fn v => Sys2Proof.Machine.execVectorUnmask fn v s
  | .cglLinkUp p lanes => Sys2Proof.Machine.execCglLinkUp p lanes s
  | .dataFlit seq ok body => Sys2Proof.Machine.execDataFlit seq ok body s
  | .controlFlit c => Sys2Proof.Machine.execControlFlit c s
  | .cglRetrainComplete lanes => Sys2Proof.Machine.execCglRetrainComplete lanes s
  | .deadTimeExpiry => Sys2Proof.Machine.execDeadTimeExpiry s
  | .takeover => Sys2Proof.Machine.execTakeover s
  | .handback => Sys2Proof.Machine.execHandback s
  | .leave => Sys2Proof.Machine.execLeave s
  | .handbackDrainComplete => Sys2Proof.Machine.execHandbackDrainComplete s
  | .syncComplete => Sys2Proof.Machine.execSyncComplete s
  | .pinQualifiedEdge k level ago rivals => Sys2Proof.Machine.execPinQualifiedEdge k level ago rivals s
  | .ltcFrame good tc drop period start => Sys2Proof.Machine.execLtcFrame good tc drop period start s
  | .tcValidLoss => Sys2Proof.Machine.execTcValidLoss s
  | .ringMessage bytes => Sys2Proof.Machine.execRingMessage bytes s
  | .ringActionTime rivals => Sys2Proof.Machine.execRingActionTime rivals s
  | .timeSend => Sys2Proof.Machine.execTimeSend s
  | .ringRepeatSend => Sys2Proof.Machine.execRingRepeatSend s
  | .pairAliveSend => Sys2Proof.Machine.execPairAliveSend s
  | .drkSendStart arg => Sys2Proof.Machine.execDrkSendStart arg s
  | .drkSendStop arg => Sys2Proof.Machine.execDrkSendStop arg s
  | .drkSendMark arg => Sys2Proof.Machine.execDrkSendMark arg s
  | .ringInLockLoss => Sys2Proof.Machine.execRingInLockLoss s
  | .timeMasterResume => Sys2Proof.Machine.execTimeMasterResume s
  | .quartzReferenceUpdate o => Sys2Proof.Machine.execQuartzReferenceUpdate o s
  | .qtzSet t => Sys2Proof.Machine.execQtzSet t s
  | .timeFollowerCorrection dt => Sys2Proof.Machine.execTimeFollowerCorrection dt s
  | .powerGood => Sys2Proof.Machine.execPowerGood s
  | .pwrgoodLow => Sys2Proof.Machine.execPwrgoodLow s
  | .watchdogExpiry => Sys2Proof.Machine.execWatchdogExpiry s
  | .flashRead len => Sys2Proof.Machine.execFlashRead len s
  | .flashProgram len => Sys2Proof.Machine.execFlashProgram len s
  | .flashErase len => Sys2Proof.Machine.execFlashErase len s
  | .flashCommandComplete => Sys2Proof.Machine.execFlashCommandComplete s
  | .updateVerify => Sys2Proof.Machine.execUpdateVerify s
  | .activate => Sys2Proof.Machine.execActivate s
  | .trialExpiry => Sys2Proof.Machine.execTrialExpiry s
  | .restart => Sys2Proof.Machine.execRestart s
  | .provision => Sys2Proof.Machine.execProvision s
  | .raiseSec => Sys2Proof.Machine.execRaiseSec s
  | .doeDiscovery index => Sys2Proof.Machine.execDoeDiscovery index s
  | .getVersion => Sys2Proof.Machine.execGetVersion s
  | .getCapabilities => Sys2Proof.Machine.execGetCapabilities s
  | .negotiateAlgorithms offered => Sys2Proof.Machine.execNegotiateAlgorithms offered s
  | .getDigests => Sys2Proof.Machine.execGetDigests s
  | .getCertificate slot offset len => Sys2Proof.Machine.execGetCertificate slot offset len s
  | .challenge slot transcript => Sys2Proof.Machine.execChallenge slot transcript s
  | .getMeasurements index signed transcript => Sys2Proof.Machine.execGetMeasurements index signed transcript s
  | .jtagTestInstruction => Sys2Proof.Machine.execJtagTestInstruction s
  | .jtagTestExit => Sys2Proof.Machine.execJtagTestExit s
  | .eventEntry => Sys2Proof.Machine.execEventEntry s
  | .evlHeadWrite v => Sys2Proof.Machine.execEvlHeadWrite v s
  | .clusterWriteEnd n m => Sys2Proof.Machine.execClusterWriteEnd n m s
  | .tagQuarantineExpiry tag => Sys2Proof.Machine.execTagQuarantineExpiry tag s
  | .cglLaneLoss lane => Sys2Proof.Machine.execCglLaneLoss lane s
  | .systemRegionInitDone imgs => Sys2Proof.Machine.execSystemRegionInitDone imgs s
  | .onxOperationEnd => Sys2Proof.Machine.execOnxOperationEnd s
  | .updateCommandComplete => Sys2Proof.Machine.execUpdateCommandComplete s

end Sys2Proof.Machine
end

