-- ==== Sys2Proof/Machine/Step.lean ====
section
/-!
DEFINITION. One step of the FY8C: the command at the front of the queue takes effect. With no command waiting the block idles
(DESIGN CHOICE, log entry 1).
-/

namespace Sys2Proof.Machine

/-- One step: the front command runs with the queue's rest; an empty queue idles. -/
def step (s : State) : Host.Outcome State Fault Refusal :=
  match s.pending with
  | [] => .next s
  | i :: rest => exec i { s with pending := rest }

/-- The state with the command that a word spells at the front of its queue; as it is where the word spells none. -/
def State.withFetchWord (s : State) (nbits w : Nat) : State :=
  match decodeTableWord nbits w with
  | some i => { s with pending := i :: s.pending }
  | none => s

end Sys2Proof.Machine
end

