-- ==== Sys2Proof/Machine/Pins.lean ====
section
/-!
DEFINITION. What the FY8C's balls show of its state (R456, R505, R522). The control pins stand in Machine/Dorak.lean.
-/

namespace Sys2Proof.Machine

/-- The outputs that R505 gives a safe state. -/
inductive OutBall
  | gate (n : Fin 8)
  | sldPwm (n : Fin 8)
  | chopOut
  | act (n : Fin 8)
  | laserLink (n : Fin 8)
  | scbCsN (n : Fin 8)
  | scbSck (n : Fin 8)
  | scbSdo (n : Fin 8)
  | bypN
  | gpio (k : Fin 16)
  | dramResetN
  | flashResetN
deriving DecidableEq, Repr

/-- What such an output shows: a logic level, 0 V differential at common mode, or nothing. -/
inductive BallLevel
  | low
  | high
  | zeroVolt
  | hiZ
deriving DecidableEq, Repr

/-- The table of R505. -/
def safeLevel : OutBall → BallLevel
  | .gate _ | .sldPwm _ | .chopOut | .laserLink _ | .scbSck _ | .scbSdo _ | .dramResetN | .flashResetN => .low
  | .scbCsN _ => .high
  | .act _ => .zeroVolt
  | .bypN | .gpio _ => .hiZ

/-- The station whose port an output belongs to. -/
def portOf : OutBall → Option (Fin 8)
  | .gate n | .sldPwm n | .act n | .laserLink n | .scbCsN n | .scbSck n | .scbSdo n => some n
  | .chopOut | .bypN | .gpio _ | .dramResetN | .flashResetN => none

/-- The safe state that an output takes now, if it takes it (R294, R505): in reset, in RECOVERY, and on a station port that is SAFE. The
reset of the DRAM ends with the configuration image, that of the flash with PWRGOOD. -/
def heldLevel (s : State) (b : OutBall) : Option BallLevel :=
  let held : Bool := match b with
    | .dramResetN => !s.live || !s.sys.ready
    | .flashResetN => s.sys.held == .power
    | _ => !s.live || (portOf b).any (fun n => s.on (R.STN_STATUS_SAFE n.val))
  if held then some (safeLevel b) else none

/-- The boundary cells of the GATE, SLD_PWM and CHOP_OUT balls drive their test values (R522): while a JTAG test instruction is loaded and
BUS_VSNS, in units of 10 mV, reads below 5.0 V. -/
def boundaryDrives (s : State) (vsns : Nat) : Bool := s.sys.jtagTest && decide (vsns < 500)

end Sys2Proof.Machine
end

