-- ==== Sys2Proof/Safety.lean ====
section
/-!
DEFINITION. What counts as a safe state of the FY8C, in the terms that claims use: its sparse tables are in canonical form, and while
it is held without power its registers stand at their reset values and nothing is under way.
-/

namespace Sys2Proof.Machine

/-- Every sparse table of registers and stored bytes is in canonical form: rising keys, and no entry that reads as an unlisted key
does. -/
def State.canonical (s : State) : Bool :=
  smWf resetWord s.regs && smWf resetWord s.pend && smWf resetWord s.stag && smWf (fun k => vfReset (k % 65536)) s.vf &&
  smWf (fun _ => 0#24) s.jsp.mem && smWf (fun _ => 0xFF#8) s.tru.flash

/-- The FY8C is held in reset for want of power (R504). -/
def State.unpowered (s : State) : Bool := s.sys.held == .power

/-- The registers stand as power leaves them (R42, R496, R504): every one at its reset value but the two that show fuses. -/
def State.atReset (s : State) : Prop :=
  ∀ a, a ≠ R.TRU_SEC → a ≠ R.TRU_STATUS → s.rd a = resetWord a

/-- What holds of the FY8C while it has no power (R42, R496, R504): it is held, its registers are at reset but the two that show fuses,
nothing is under way, and no rising edge of PWRGOOD waits among the commands. -/
structure State.heldInv (s : State) : Prop where
  held : s.sys.held = .power
  atReset : s.atReset
  calm : s.strobes = [] ∧ s.rdShadows = [] ∧ s.wrShadows = [] ∧ s.evl.inFlight = []
  flash : smWf (fun _ => 0xFF#8) s.tru.flash = true
  noEdge : Instr.powerGood ∉ s.pending

/-- A command answers a next state. -/
def Completes (i : Instr) (s : State) : Prop := ∃ t, exec i s = .next t

/-- A command answers a next state of which something holds. -/
def Does (i : Instr) (s : State) (P : State → Prop) : Prop := ∃ t, exec i s = .next t ∧ P t

/-- Every register of PF BAR0 but these reads as before (active copies, R41). -/
def RegsBut (s t : State) (l : List Nat) : Prop := ∀ a, a ∉ l → t.rd a = s.rd a

/-- Nothing but the active copies of these registers has changed. -/
def OnlyRegs (s t : State) (l : List Nat) : Prop := t = { s with regs := t.regs } ∧ RegsBut s t l

/-- Every bit of a register but those of these fields is as before. -/
def BitsBut (s t : State) (a : Nat) (l : List FRef) : Prop :=
  ∀ f : FRef, f.addr = a → f.lo + f.w ≤ 32 → (∀ g ∈ l, f.lo + f.w ≤ g.lo ∨ g.lo + g.w ≤ f.lo) → t.g f = s.g f

/-- Nothing but these fields of one register has changed. -/
def OnlyFields (s t : State) (a : Nat) (l : List FRef) : Prop := OnlyRegs s t [a] ∧ BitsBut s t a l

/-- A counter has counted k events and saturates at 0xFFFF_FFFF (R13). -/
def Counted (s t : State) (a k : Nat) : Prop := t.rd a = BitVec.ofNat 32 (min (2 ^ 32 - 1) ((s.rd a).toNat + k))

/-- An event is on its way to the log: its code, source and arguments (R487). -/
def Logged (s t : State) (code src : Nat) (args : List Nat) (cause : Nat) : Prop :=
  t.evl.inFlight = s.evl.inFlight ++ [⟨s.stamp coreDomain, code, cause, src, (args[0]?).getD 0 % 2 ^ 32, (args[1]?).getD 0 % 2 ^ 32,
    (args[2]?).getD 0 % 2 ^ 32, (args[3]?).getD 0 % 2 ^ 32⟩]

/-- A command has its one completion entry, which waits to be written to the CQ of its SQ (R372, R377). -/
def Answered (s t : State) (c : Cmd) (status result : Nat) (degraded : Bool := false) : Prop :=
  t.hqe.cqes = s.hqe.cqes ++ [⟨c.fn, ((smGet s.hqe.sqs (qKey c.fn c.sq)).map Sq.cq).getD 0, c.tag, result, c.sq, c.sqe.cid, status, degraded⟩]

end Sys2Proof.Machine
end

