-- ==== Sys2Proof/WellFormed.lean ====
section
/-!
DEFINITION. Which commands are well formed: operands within the ranges that the spec gives what they stand for. The meanings are total
and do not ask for it; a command from outside that is not well formed is one that no FY8C receives.
-/

namespace Sys2Proof

/-- A Q1.23 value (R7, R223). -/
def q23 (v : Int) : Bool := decide (-8388608 ≤ v) && decide (v < 8388608)

/-- A temperature in Q10.6 (R57, R302). -/
def q106 (v : Int) : Bool := decide (-32768 ≤ v) && decide (v < 32768)

/-- The mark of a frame lies in the stretch of samples that brings it (R105, R106). -/
def laneInOk (f : LaneIn) : Bool := f.mark.all (fun k => decide (k < f.rf.length))

/-- A MAP cluster has the user bytes of one, at an address of 32 bits; the last header before a frontier has the widths of R83 (R362, R363). -/
def mapInOk (x : MapIn) : Bool :=
  x.found.all (fun c => decide (c.pca < 2 ^ 32) && c.bytes.length == 65536) &&
    x.heads.all (fun h => decide (h.group < 2 ^ 32) && decide (h.reel < 2 ^ 32) && decide (h.stripe < 2 ^ 64))

/-- A volume is one of 64, a reel serial has 32 bits (R83, R340). -/
def streamOk (vol reel : Nat) : Bool := decide (vol < 64) && decide (reel < 2 ^ 32)

/-- A command tag is one of 16,384 (R389, R403); a tag of the endpoint's own requests one of 1,024 (R404). -/
def cmdTag (tag : Nat) : Bool := decide (tag < 16384)
def dmaTag (tag : Nat) : Bool := decide (tag < 1024)

/-- A queue of a function (R34, R35, R368). -/
def queueOk (fn q : Nat) : Bool := decide (q < if fn = 0 then 8192 else 4096)

/-- A link width (R404). -/
def widthOk (w : Nat) : Bool := w == 1 || w == 2 || w == 4 || w == 8

/-- A master is one that exists: VFs are numbered from 1 to 255 (R292, R409). -/
def masterOk : Master → Bool
  | .vf v => decide (1 ≤ v) && decide (v < 256)
  | _ => true

/-- Orders have a CMD of 4 bits (R292). -/
def rivalsOk (l : List Rival) : Bool := l.all (fun r => masterOk r.master && decide (r.cmd < 16))

/-- A requester that exists, and an offset within its BARs (R33, R35, R51): BAR4 follows BAR0 of the PF. -/
def placeOk (r : Req) (a : Nat) : Bool :=
  match r with
  | .pf => decide (a < 0x410000)
  | .vf v => decide (1 ≤ v) && decide (v < 256) && decide (a < 0x10000)
  | .mgmt c => decide (c < 2) && decide (a < 0x400000)
  | .partner => decide (a < 0x400000)

/-- A register access (R54): whole DWs, at most the 1,024 DW of a TLP. -/
def accessOk (a : Access) : Bool :=
  placeOk a.req a.addr && a.addr % 4 == 0 && decide (1 ≤ a.dws) && decide (a.dws ≤ 1024) && decide (a.rid < 2 ^ 16) && rivalsOk a.rivals &&
    a.sram.all (fun w => w.mask != 255#8)

/-- An apply unit that exists (R44). -/
def unitNamed : UnitId → Bool
  | .pcxWin w => decide (w < 256)
  | .stn n | .wrs n | .spn n | .sld n | .brlStn n => decide (n < 8)
  | .lane l => decide (l < 68)
  | .brlSlot k => decide (k < 96)
  | .brlBank b k => decide (b < 2) && decide (k < 96)
  | .glbTemp | .hqeArb | .hqeVol | .pcxCtl | .buf | .onx | .grn | .tpz | .spnBus | .jsp | .cal | .cgl | .drk | .qtz | .evl => true

/-- The command is well formed. -/
def Instr.wf : Instr → Bool
  | .registerWrite a => accessOk a
  | .readClear a => accessOk a
  | .read64Low a => accessOk a
  | .read64High a => accessOk a
  | .write64Low a => accessOk a
  | .write64High a => accessOk a
  | .glbApply _ => true
  | .applyAtBoundary units => units.all unitNamed
  | .autoApply u => unitNamed u
  | .glbReset _ => true
  | .tempSensorUpdate t => t.all q106
  | .thermalTripRelease t => t.all q106
  | .adipWordDecode _ _ _ _ => true
  | .wobbleSeedUpdate _ samples => samples.all q23
  | .primarySyncMatch _ _ f => laneInOk f
  | .secondarySyncMatch _ _ f => laneInOk f
  | .hypothesisDecide _ f => laneInOk f
  | .flywheelInsertion _ f => laneInOk f
  | .frameLockRegained _ _ f => laneInOk f
  | .defectDeclared _ f => laneInOk f
  | .defectEnd _ f => laneInOk f
  | .defectHoldExceeded _ f => laneInOk f
  | .frameDelivery _ f _ => laneInOk f
  | .clusterStatistics _ => true
  | .laneFailed _ _ => true
  | .adcFailed _ f _ => laneInOk f
  | .laneSpareSwitch bs => decide (bs.length ≤ 4)
  | .spareForce _ _ _ => true
  | .spareRelease _ _ _ => true
  | .microcodeTake _ => true
  | .blockJoinCluster vol reel => streamOk vol reel
  | .streamIdleExpiry vol reel => streamOk vol reel
  | .stripeOpen vol reel => streamOk vol reel
  | .stripeSerialAssign => true
  | .clusterEncode _ t => decide (t < 2 ^ 16)
  | .clusterDecoded pca => decide (pca < 2 ^ 32)
  | .degradedRebuild _ => true
  | .sweepCluster _ => true
  | .relocationComplete _ pca => decide (pca < 2 ^ 32)
  | .linkSyncWord _ _ osc => decide (osc.length ≤ 63) && osc.all (fun o => decide (o.1 ≤ 24) && decide (o.2 < 256))
  | .clusterWriteStart _ _ slot => decide (slot < 2 ^ 19)
  | .clusterInterrupted _ _ => true
  | .frameVerifyResult _ _ f => laneInOk f
  | .verifyResultTimeout _ _ => true
  | .clusterAbandon _ _ => true
  | .clusterVerdict _ _ => true
  | .beamResume _ _ => true
  | .sampleTick pd fails _ => pd.length == 8 && pd.all (fun l => l.length == 8 && l.all q23) && fails.all (fun f => f.2 == 2 || f.2 == 3)
  | .servoHoldExpiry _ => true
  | .focusLockGained _ => true
  | .focusLockLost _ => true
  | .trackingLockGained _ => true
  | .trackingLockLost _ => true
  | .focusAcq _ => true
  | .trackJump _ _ => true
  | .layerJump _ _ => true
  | .seqStop _ => true
  | .ffClear _ => true
  | .setLayer _ _ => true
  | .jumpWaitRelease _ => true
  | .sequenceTimerExpiry _ => true
  | .sequenceCrossing _ _ _ => true
  | .focusSweepEnd _ => true
  | .jumpTimeout _ => true
  | .jspArm => true
  | .jspDisarm => true
  | .jspForce => true
  | .jspCaptureDone => true
  | .pwmPeriod _ ia ib ic vbus _ _ _ => q23 ia && q23 ib && q23 ic && decide (vbus < 4096)
  | .phaseOvercurrent _ i => q23 i
  | .encoderUpdate _ => true
  | .observerValid _ => true
  | .observerInvalid _ => true
  | .speedRefUpdate _ => true
  | .cavRegulationGained _ => true
  | .cavRegulationLost _ => true
  | .spinMeasureEnd _ => true
  | .spinAlignEnd _ => true
  | .spinIfRampEnd _ => true
  | .spinObsTimeout _ => true
  | .spinRetryEnd _ => true
  | .shortBrakeStart _ => true
  | .shortBrakeEnd _ => true
  | .busSample v _ => decide (v < 4096)
  | .chopperFault cause => decide (1 ≤ cause) && decide (cause ≤ 3)
  | .chopperClear => true
  | .busTrip v => decide (v < 4096)
  | .busTripRelease => true
  | .safeSpeedMeasure _ => true
  | .sledProfileTick _ => true
  | .sledPositionUpdate _ => true
  | .sledCurrentPeriod _ iA iB => q23 iA && q23 iB
  | .sledOvercurrent _ i => q23 i
  | .sledHoldCurrent _ => true
  | .sldMove _ _ => true
  | .sldStop _ => true
  | .sldHalt _ => true
  | .sldHome _ => true
  | .sldEngage _ => true
  | .sldArmChange _ => true
  | .sldDisengage _ => true
  | .sldSetPos _ => true
  | .sldRelease _ => true
  | .sldEnergise _ => true
  | .sldClear _ _ _ => true
  | .armedMoveStart _ => true
  | .switchQualified _ _ _ _ => true
  | .homeChatter _ _ _ => true
  | .discPresentQualified _ _ _ _ => true
  | .stationMount _ m rivals _ => rivalsOk rivals && masterOk m
  | .stationRelease _ m _ rivals => rivalsOk rivals && masterOk m
  | .stationPark _ m rivals => rivalsOk rivals && masterOk m
  | .stationWake _ m rivals => rivalsOk rivals && masterOk m
  | .stationOffline _ m _ rivals => rivalsOk rivals && masterOk m
  | .stationOnline _ m rivals _ => rivalsOk rivals && masterOk m
  | .stationReset _ m rivals _ => rivalsOk rivals && masterOk m
  | .loadingComplete _ => true
  | .mountStepComplete _ _ => true
  | .addressTimeout _ => true
  | .spindleStopped _ => true
  | .tSpinExpiry _ => true
  | .tParkExpiry _ => true
  | .workArrives _ => true
  | .pickupTempRead _ v => v.all q106
  | .calibrationInterval _ => true
  | .calibrationStart _ => true
  | .calibrationDeferExpiry _ => true
  | .calibrationStepComplete _ => true
  | .calCalibrate _ _ _ => true
  | .calInvalidate _ => true
  | .dramTrainingComplete _ fit _ => decide (1 ≤ fit.density) && decide (fit.density ≤ 3) && (fit.ranks == 1 || fit.ranks == 2)
  | .wckOscillatorRead _ _ _ => true
  | .bufferInitDone => true
  | .scrubRead x => decide (x.errs.length ≤ 4) && x.errs.all (fun e => e.old.isEmpty || e.old.length == 32)
  | .stripeMapUpdate => true
  | .onyxMiss _ => true
  | .onyxFillComplete line => decide (line < 2 ^ 20)
  | .onxInvalidate => true
  | .onxClean => true
  | .onxCleanInvalidate => true
  | .onxLock => true
  | .onxUnlock => true
  | .groupVisible _ => true
  | .checkpointInterval => true
  | .checkpointComplete _ => true
  | .grnCheckpoint => true
  | .grnBase => true
  | .mapLoadComplete x => mapInOk x
  | .cfgtxCommit => true
  | .adminQueueEnable _ => true
  | .adminQueueDisable _ => true
  | .sqTailDoorbell fn q value => decide (value < 2 ^ 32) && queueOk fn.val q
  | .cqHeadDoorbell fn q value => decide (value < 2 ^ 32) && queueOk fn.val q
  | .commandFetch => true
  | .commandAdmission rivals => rivalsOk rivals
  | .createCq tag => cmdTag tag
  | .createSq tag => cmdTag tag
  | .deleteSq tag => cmdTag tag
  | .deleteCq tag => cmdTag tag
  | .abort tag => cmdTag tag
  | .abortRequestArrival tag => cmdTag tag
  | .setPower tag => cmdTag tag
  | .stationOrder tag rivals _ => cmdTag tag && rivalsOk rivals
  | .retirePage tag => cmdTag tag
  | .write tag => cmdTag tag
  | .writeAcknowledge tag => cmdTag tag
  | .read tag _ => cmdTag tag
  | .flush tag => cmdTag tag
  | .commitOpen tag => cmdTag tag
  | .commitClose tag => cmdTag tag
  | .reelOpen tag => cmdTag tag
  | .reelClose tag => cmdTag tag
  | .seal tag => cmdTag tag
  | .manifestSign _ => true
  | .completionPosted fn cq => queueOk fn.val cq
  | .functionLevelReset _ => true
  | .hotReset _ => true
  | .fundamentalReset => true
  | .configRequest r => decide (r.fn < 256)
  | .vfEnable _ => true
  | .serdesLaneFailure _ => true
  | .ingestTlp t => decide (t.rid < 2 ^ 16) && decide (t.addr + t.data.length ≤ 2 ^ 34) && decide (t.data.length ≤ 512)
  | .bar2Read rid len => decide (rid < 2 ^ 16) && decide (len ≤ 4096)
  | .creditHoldExpiry => true
  | .graceIntervalEnd _ => true
  | .translationCompletion tag _ _ _ _ => dmaTag tag
  | .invalidateRequest _ _ _ itag => decide (itag < 32)
  | .dmaCompletion tag _ data => dmaTag tag && decide (data.length ≤ 512)
  | .completionTimeout tag => dmaTag tag
  | .lateCompletion tag => dmaTag tag
  | .containmentEvent _ => true
  | .dataLinkUp speed width lanes => decide (1 ≤ speed) && decide (speed ≤ 5) && widthOk width && decide (lanes < 256)
  | .containReleaseResume => true
  | .containReleaseDiscard => true
  | .frozenReleaseEntry _ => true
  | .frozenReleaseAll => true
  | .vectorUnmask fn v => decide (v < if fn.val = 0 then 2048 else 8)
  | .cglLinkUp p lanes => decide (p.mode ≤ 2) && decide (p.role ≤ 1) && decide (lanes < 256)
  | .dataFlit seq _ _ => decide (seq < 4096)
  | .controlFlit _ => true
  | .cglRetrainComplete lanes => decide (lanes < 256)
  | .deadTimeExpiry => true
  | .takeover => true
  | .handback => true
  | .leave => true
  | .handbackDrainComplete => true
  | .syncComplete => true
  | .pinQualifiedEdge _ _ _ rivals => rivalsOk rivals
  | .ltcFrame _ _ _ _ _ => true
  | .tcValidLoss => true
  | .ringMessage bytes => bytes.length == 21
  | .ringActionTime rivals => rivalsOk rivals
  | .timeSend => true
  | .ringRepeatSend => true
  | .pairAliveSend => true
  | .drkSendStart _ => true
  | .drkSendStop _ => true
  | .drkSendMark _ => true
  | .ringInLockLoss => true
  | .timeMasterResume => true
  | .quartzReferenceUpdate _ => true
  | .qtzSet _ => true
  | .timeFollowerCorrection _ => true
  | .powerGood => true
  | .pwrgoodLow => true
  | .watchdogExpiry => true
  | .flashRead _ => true
  | .flashProgram _ => true
  | .flashErase _ => true
  | .flashCommandComplete => true
  | .updateVerify => true
  | .activate => true
  | .trialExpiry => true
  | .restart => true
  | .provision => true
  | .raiseSec => true
  | .doeDiscovery index => decide (index < 256)
  | .getVersion => true
  | .getCapabilities => true
  | .negotiateAlgorithms _ => true
  | .getDigests => true
  | .getCertificate slot offset len => decide (slot < 16) && decide (offset < 2 ^ 16) && decide (len < 2 ^ 16)
  | .challenge slot _ => decide (slot < 16)
  | .getMeasurements index _ _ => decide (index < 256)
  | .jtagTestInstruction => true
  | .jtagTestExit => true
  | .eventEntry => true
  | .evlHeadWrite _ => true
  | .clusterWriteEnd _ _ => true
  | .tagQuarantineExpiry tag => dmaTag tag
  | .cglLaneLoss _ => true
  | .systemRegionInitDone _ => true
  | .onxOperationEnd => true
  | .updateCommandComplete => true

end Sys2Proof
end

