-- ==== Sys2Proof/Certificates/Slice0/Obligations.lean ====
section
/-!
DEFINITION. The obligations: what the spec says of the commands, stated over every state. `Does c s P`: command c answers a next state of
which P holds.
-/

open Sys2Proof Sys2Proof.Machine

/-- A step runs the command at the front of the queue (00_scope.md, 95_what_each_step_holds.md). What rests on log entry 1 is the model's choice and no rule of the spec. -/
def Obligations.StepRunsFrontCommand : Prop :=
  (∀ (c : Instr) (rest : List Instr) (s : State), step { s with pending := c :: rest } = exec c { s with pending := rest }) ∧
  (∀ s : State, s.pending = [] → step s = .next s)

/-- Every command answers a next state, in every state (00_scope.md, 18_faults_and_degraded_operation.md). What rests on log entry 7 is the model's choice and no rule of the spec. -/
def Obligations.NoCommandStops : Prop :=
  ∀ (c : Instr) (s : State), Completes c s

/-- The machine after reset: held, every register at its reset value (R42, R56, R504). What rests on log entries 2, 3 is the model's choice and no rule of the spec. -/
def Obligations.ResetHoldsWithoutPower : Prop :=
  State.reset.unpowered = true ∧ State.reset.canonical = true ∧ State.reset.pending = [] ∧
  (∀ a, State.reset.rd a = resetWord a) ∧ (∀ a, rdR State.reset.pend a = resetWord a) ∧
  State.reset.rd R.GLB_ID = 0x20258484#32

/-- Without power nothing changes: an invariant of every step (R42, R496, R504, R522). What rests on log entries 2, 7, 49, 50 is the model's choice and no rule of the spec. -/
def Obligations.HeldWithoutPowerStays : Prop :=
  ∀ (s t : State), s.heldInv → step s = .next t → t.heldInv

/-- The invariant of the unpowered device holds at reset (R504). What rests on log entries 2, 3 is the model's choice and no rule of the spec. -/
def Obligations.HeldWithoutPowerAtReset : Prop :=
  State.reset.heldInv

/-- Held in reset, the device ignores all but what ends or renews the hold (R38, R57, R470, R504, R522). What rests on log entries 6, 7, 68, 86 is the model's choice and no rule of the spec. -/
def Obligations.HeldDeviceIgnoresCommands : Prop :=
  (∀ (c : Instr) (s : State), s.up = false →
    c ≠ .powerGood → c ≠ .pwrgoodLow → c ≠ .jtagTestInstruction → c ≠ .jtagTestExit → (∀ v, c ≠ .thermalTripRelease v) →
    (∀ dt, c ≠ .timeFollowerCorrection dt) →
    exec c s = .next s) ∧
  (∀ s : State, s.on R.TRU_STATUS_RECOVERY = true →
    (∀ fn q v, exec (.sqTailDoorbell fn q v) s = .next s) ∧ (∀ fn q v, exec (.cqHeadDoorbell fn q v) s = .next s) ∧
    (∀ l f x, exec (.frameDelivery l f x) s = .next s) ∧ (∀ pd f b, exec (.sampleTick pd f b) s = .next s) ∧
    (∀ b, exec (.ringMessage b) s = .next s) ∧ (∀ q ok b, exec (.dataFlit q ok b) s = .next s) ∧
    exec .commandFetch s = .next s ∧ exec .stripeMapUpdate s = .next s ∧ (∀ w, exec (.glbApply w) s = .next s))

/-- A write of an RWA register goes to its pending copy and marks it; of an RW register, to its only copy (R39, R41, R49, R54). -/
def Obligations.RegisterWritesGoToTheRightCopy : Prop :=
  ∀ (s : State) (c rid a : Nat) (be be2 : BitVec 4) (data data2 : Word), s.live = true → be ≠ 0#4 →
    (∀ d, regAt a = some d → d.part = 0 → isCommand d.fields = false → configurable a = true → a % 4 = 0 → a < 0x400000 →
      Does (.registerWrite ⟨.mgmt c, rid, a, 1, be, be2, data, data2, [], [], none⟩) s (fun t =>
        rdR t.pend a = writeWord d.fields (beMask be) data (rdR s.pend a) ∧ t.regs = s.regs ∧ a ∈ t.written ∧
        (∀ b, b ≠ a → rdR t.pend b = rdR s.pend b) ∧ t = { s with pend := t.pend, written := t.written })) ∧
    Does (.registerWrite ⟨.mgmt c, rid, R.GLB_AUTO_APPLY, 1, be, be2, data, data2, [], [], none⟩) s (fun t =>
      t.rd R.GLB_AUTO_APPLY = (s.rd R.GLB_AUTO_APPLY &&& ~~~ (0x3F#32 &&& beMask be)) ||| (data &&& (0x3F#32 &&& beMask be)) ∧
      OnlyRegs s t [R.GLB_AUTO_APPLY])

/-- An RC field is cleared by a covering read; 64-bit reads and writes go through the requester's shadows (R13, R51, R52, R54). What rests on log entry 43 is the model's choice and no rule of the spec. -/
def Obligations.ReadClearAndShadows : Prop :=
  ∀ (s : State) (c rid : Nat) (be be2 : BitVec 4) (d d2 : Word), s.live = true →
    (be = 15#4 → Does (.readClear ⟨.mgmt c, rid, R.GLB_CFGREJ_COUNT, 1, be, be2, d, d2, [], [], none⟩) s (fun t =>
      t.rd R.GLB_CFGREJ_COUNT = 0#32 ∧ t.out = .readData (.mgmt c) (s.rd R.GLB_CFGREJ_COUNT) :: s.out ∧
      RegsBut s t [R.GLB_CFGREJ_COUNT])) ∧
    (be ≠ 15#4 → be ≠ 0#4 → Does (.readClear ⟨.mgmt c, rid, R.GLB_CFGREJ_COUNT, 1, be, be2, d, d2, [], [], none⟩) s (fun t =>
      (∀ a, t.rd a = s.rd a) ∧ t.out = .readData (.mgmt c) (s.rd R.GLB_CFGREJ_COUNT &&& beMask be) :: s.out)) ∧
    Does (.read64Low ⟨.mgmt c, rid, R.QTZ_TIME_LO, 1, 15#4, be2, d, d2, [], [], none⟩) s (fun t =>
      shadowAt t.rdShadows (.mgmt c) R.QTZ_TIME_LO = some (s.rd R.QTZ_TIME_HI) ∧
      t.out = .readData (.mgmt c) (s.rd R.QTZ_TIME_LO) :: s.out ∧ t.regs = s.regs) ∧
    (∀ w, shadowAt s.rdShadows (.mgmt c) R.QTZ_TIME_LO = some w →
      Does (.read64High ⟨.mgmt c, rid, R.QTZ_TIME_HI, 1, 15#4, be2, d, d2, [], [], none⟩) s (fun t =>
        t.out = .readData (.mgmt c) w :: s.out ∧ shadowAt t.rdShadows (.mgmt c) R.QTZ_TIME_LO = none ∧ t.regs = s.regs)) ∧
    (∀ n : Fin 8,
      Does (.write64Low ⟨.mgmt c, rid, R.SLD_START_TIME_LO n, 1, 15#4, be2, d, d2, [], [], none⟩) s (fun t =>
        shadowAt t.wrShadows (.mgmt c) (R.SLD_START_TIME_LO n) = some d ∧ t = { s with wrShadows := t.wrShadows }) ∧
      (∀ w, shadowAt s.wrShadows (.mgmt c) (R.SLD_START_TIME_LO n) = some w →
        Does (.write64High ⟨.mgmt c, rid, R.SLD_START_TIME_HI n, 1, 15#4, be2, d, d2, [], [], none⟩) s (fun t =>
          t.rd (R.SLD_START_TIME_LO n) = w ∧ t.rd (R.SLD_START_TIME_HI n) = d ∧
          RegsBut s t [R.SLD_START_TIME_LO n, R.SLD_START_TIME_HI n] ∧
          t = { s with regs := t.regs, wrShadows := t.wrShadows })))

/-- Long TLPs and partial writes of a command register have no effect but ACCESS_WIDTH (R54, R492). -/
def Obligations.WideAndPartialAccesses : Prop :=
  ∀ (s : State) (c rid a dws : Nat) (be be2 : BitVec 4) (d d2 : Word), s.live = true →
    (2 < dws → dws < 256 → Does (.readClear ⟨.mgmt c, rid, a, dws, be, be2, d, d2, [], [], none⟩) s (fun t =>
        Logged s t 0x002 0xFF [a, rid, be.toNat + 256 * dws] 0 ∧ t.out = .unsupported (.mgmt c) :: s.out ∧ t.regs = s.regs) ∧
      Does (.registerWrite ⟨.mgmt c, rid, a, dws, be, be2, d, d2, [], [], none⟩) s (fun t =>
        Logged s t 0x002 0xFF [a, rid, be.toNat + 256 * dws] 0 ∧ t = { s with evl := t.evl })) ∧
    (be ≠ 15#4 → be ≠ 0#4 → Does (.registerWrite ⟨.mgmt c, rid, R.GLB_APPLY, 1, be, be2, d, d2, [], [], none⟩) s (fun t =>
        Logged s t 0x002 0xFF [R.GLB_APPLY, rid, be.toNat + 256] 0 ∧ t = { s with evl := t.evl })) ∧
    Does (.registerWrite ⟨.mgmt c, rid, a, 1, 0#4, be2, d, d2, [], [], none⟩) s (fun t => t = s)

/-- A strobe stages every unit of its groups; at its boundary a unit takes its staged values, or a failing set keeps the old ones (R45, R46, R47, R49, R50, R58, R364). What rests on log entries 46, 48 is the model's choice and no rule of the spec. -/
def Obligations.StrobeStagesThenBoundaryApplies : Prop :=
  let plain := fun (u : UnitId) => (match u with
    | .glbTemp => true | .hqeArb => true | .hqeVol => true | .pcxCtl => true | .spnBus => true | .onx => true | .jsp => true
    | .cal => true | .qtz => true | .brlStn _ => true | .brlBank _ _ => true | _ => false)
  (∀ (s : State) (w : Word), s.live = true → Does (.glbApply w) s (fun t => RegsBut s t [R.GLB_APPLY_BUSY] ∧ t.pend = s.pend ∧
      t.grn.cfgWaits = s.grn.cfgWaits ||| (w &&& s.grn.cfgGroups) ∧
      ∀ u ∈ allUnits,
        ((w &&& ~~~ s.grn.cfgGroups &&& groupBit (groupOf s u)) ≠ 0#32 →
          (∃ x ∈ t.strobes, x.unit = u ∧ x.checked = false) ∧ ∀ a, unitOf a = some u → rdR t.stag a = rdR s.pend a) ∧
        ((w &&& ~~~ s.grn.cfgGroups &&& groupBit (groupOf s u)) = 0#32 →
          t.strobes.filter (fun x => x.unit == u) = s.strobes.filter (fun x => x.unit == u) ∧
          ∀ a, unitOf a = some u → rdR t.stag a = rdR s.stag a))) ∧
  (∀ (s : State) (u : UnitId) (g : Word) (i : Nat), s.live = true → u ∈ allUnits → plain u = true → s.grn.cfgGroups = 0#32 →
    s.strobes = [⟨u, g, i, false, false⟩] →
    let sets := setsOf s (stagedView s u) u
    (sets.all (fun c => c.ok) = true → Does (.applyAtBoundary [u]) s (fun t => t.strobes = [] ∧ t.evl = s.evl ∧
      (∀ a, unitOf a = some u → t.rd a = rdR s.stag a) ∧
      (∀ a, unitOf a ≠ some u → a ≠ R.GLB_APPLY_BUSY → t.rd a = s.rd a))) ∧
    (∀ c ∈ sets, c.ok = false → Does (.applyAtBoundary [u]) s (fun t => t.strobes = [] ∧ t.on R.GLB_CFGREJ_VALID = true ∧
      ∀ a ∈ c.mem, t.rd a = s.rd a))) ∧
  (∀ (s : State) (u : UnitId) (f : FRef), s.live = true → u ∈ allUnits → plain u = true → autoBit u = some f → s.on f = true →
    s.grn.cfgGroups = 0#32 → s.strobes = [] → autoRegs s u ≠ [] →
    let v := fun a => if (autoRegs s u).contains a then rdR s.pend a else s.rd a
    (setsOf s v u).all (fun c => c.ok || !c.mem.all (fun a => (autoRegs s u).contains a)) = true →
    Does (.autoApply u) s (fun t => t.strobes = [] ∧ (∀ a, unitOf a = some u → t.rd a = v a) ∧
      (∀ a, unitOf a ≠ some u → a ≠ R.GLB_APPLY_BUSY → t.rd a = s.rd a))) ∧
  (∀ (s : State) (g : Word) (i : Nat), s.live = true → s.grn.cfgGroups = 0#32 → s.strobes = [⟨.glbTemp, g, i, false, false⟩] →
    let warn := toSigned 16 (getF (rdR s.stag R.GLB_TEMP_WARN) R.GLB_TEMP_WARN_LEVEL)
    let crit := toSigned 16 (getF (rdR s.stag R.GLB_TEMP_CRIT) R.GLB_TEMP_CRIT_LEVEL)
    (-2560 ≤ warn → warn < crit → crit ≤ 8320 → Does (.applyAtBoundary [.glbTemp]) s (fun t =>
      t.rd R.GLB_TEMP_WARN = rdR s.stag R.GLB_TEMP_WARN ∧ t.rd R.GLB_TEMP_CRIT = rdR s.stag R.GLB_TEMP_CRIT ∧ t.strobes = [] ∧
      t.evl = s.evl)) ∧
    (¬ (-2560 ≤ warn ∧ warn < crit ∧ crit ≤ 8320) → Does (.applyAtBoundary [.glbTemp]) s (fun t =>
      t.rd R.GLB_TEMP_WARN = s.rd R.GLB_TEMP_WARN ∧ t.rd R.GLB_TEMP_CRIT = s.rd R.GLB_TEMP_CRIT ∧ t.strobes = [] ∧
      t.on R.GLB_CFGREJ_VALID = true ∧ t.evl.inFlight.length = s.evl.inFlight.length + 1))) ∧
  (∀ s : State, s.live = true → s.grn.cfgGroups = 0#32 → s.strobes = [] → s.on R.GLB_AUTO_APPLY_SPN = true →
    s.written = [R.SPN_BUS_CTRL] → Does (.autoApply .spnBus) s (fun t =>
      t.rd R.SPN_BUS_CTRL = rdR s.pend R.SPN_BUS_CTRL ∧ t.strobes = []))

/-- Power, device resets, JTAG test instructions, die temperatures and the thermal trip (R53, R56, R57, R468, R470, R495, R496, R504, R522). What rests on log entries 7, 49 is the model's choice and no rule of the spec. -/
def Obligations.DeviceResetAndTemperature : Prop :=
  (∀ (s : State) (w : Word), s.live = true → getF w R.GLB_RESET_KEY = 0x0FA5 → getF w R.GLB_RESET_DEVICE = 1 →
    Does (.glbReset w) s (fun t => t.on R.GLB_RESET_CAUSE_DEVICE = true ∧ t.sys.held = .no ∧ t.pending = s.pending ∧
      t.evl.ring = s.evl.ring ∧ t.rdShadows = [] ∧ t.wrShadows = [] ∧ t.strobes = [])) ∧
  (∀ (s : State) (v : Vector Int 8), s.up = true → v.toList.all (fun x => decide (-32768 ≤ x) && decide (x < 8640)) = true →
    Does (.tempSensorUpdate v) s (fun t => t.sys = s.sys ∧
      ∀ k : Fin 8, t.on (R.GLB_TEMP_VALID k) = true ∧ toSigned 16 (t.g (R.GLB_TEMP_VALUE k)) = v[k])) ∧
  (∀ (s : State) (v : Vector Int 8), s.up = true → v.toList.any (fun x => decide (8640 ≤ x)) = true →
    Does (.tempSensorUpdate v) s (fun t => t.sys.held = .thermal ∧ t.on R.GLB_RESET_CAUSE_THERMAL = true ∧ t.pending = s.pending)) ∧
  (∀ (s : State) (v : Vector Int 8), s.sys.held = .thermal → s.sys.jtagTest = false →
    (v.toList.all (fun x => decide (x < 7360)) = true → Does (.thermalTripRelease v) s (fun t => t.sys.held = .no)) ∧
    (v.toList.any (fun x => decide (7360 ≤ x)) = true → Does (.thermalTripRelease v) s (fun t => t = s))) ∧
  (∀ s : State, (s.sys.held = .power → Does .powerGood s (fun t => t.sys.held = .no ∧ t.now = 0 ∧ t.evl.ring = [] ∧
      t.on R.GLB_RESET_CAUSE_POWER_ON = true ∧ (s.tru.flashOp = none → t.tru.flash = s.tru.flash))) ∧
    (s.sys.held ≠ .power → exec .powerGood s = .next s) ∧
    Does .pwrgoodLow s (fun t => t.sys.held = .power ∧ t.pending = s.pending ∧ t.evl.ring = [] ∧ t.now = 0) ∧
    (s.up = true → Does .restart s (fun t => t.sys.held = .no ∧ t.evl.ring = s.evl.ring ∧ t.now = s.now ∧ t.grn.reels = []) ∧
      Does .watchdogExpiry s (fun t => t.sys.held = .no ∧ t.on R.GLB_RESET_CAUSE_WATCHDOG = true ∧ t.evl.ring = s.evl.ring ∧ t.now = s.now ∧
        (s.on R.TRU_STATUS_TRIAL = true → t.on R.TRU_STATUS_TRIAL = false ∧ t.on R.TRU_STATUS_TRIAL_FAILED = true))) ∧
    (s.sys.held = .power → exec .jtagTestInstruction s = .next s) ∧
    (s.sys.held ≠ .power → Does .jtagTestInstruction s (fun t => t.sys.jtagTest = true ∧ t.on R.GLB_RESET_CAUSE_TEST = true ∧
      t.sys.held = (if s.sys.held = .thermal then .thermal else .jtag) ∧ t.evl.ring = s.evl.ring)) ∧
    (s.sys.held ≠ .jtag → exec .jtagTestExit s = .next { s with sys := { s.sys with jtagTest := false } }) ∧
    (s.sys.held = .jtag → Does .jtagTestExit s (fun t => t.sys.held = .no ∧ t.sys.jtagTest = false ∧ t.evl.ring = s.evl.ring)))

/-- Samples move only a lane's signal path; with frame lock a late primary is accepted, an early one opens hypotheses, a lone secondary is case 3 (R89, R102, R103, R104, R105). What rests on log entries 7, 8, 71 is the model's choice and no rule of the spec. -/
def Obligations.LaneSyncMatches : Prop :=
  ∀ (s : State) (l : Fin 68) (p : Int) (f : LaneIn), s.live = true →
    let u := laneRun s l f
    let x := u.lanes[l]
    (f.rf = [] → u = s) ∧
    (RegsBut s u [R.OPL_RATE l, R.OPL_GAIN l, R.OPL_STATUS l] ∧
      u = { s with regs := u.regs, lanes := u.lanes, free := u.free } ∧ ∀ k : Fin 68, k ≠ l → u.lanes[k] = s.lanes[k]) ∧
    (laneWorks u l = true → x.hyp = none → x.pri = none → ∀ bits, syncBits x.dsp (x.pred + p) = some bits →
      syncDiff bits primarySync ≤ u.g (R.OPL_SYNC_PRI_MAXDIFF l) →
      (u.on (R.OPL_STATUS_FRAME_LOCK l) = true →
        (p = 0 → Does (.primarySyncMatch l p f) s (fun t => (t.lanes[l]).pri = some 0 ∧ t = { u with lanes := t.lanes })) ∧
        (1 ≤ p → p ≤ 4 → Does (.primarySyncMatch l p f) s (fun t => (t.lanes[l]).pri = some p ∧ Counted u t (R.OPL_CNT_LATE l) 1 ∧
          RegsBut u t [R.OPL_CNT_LATE l] ∧ t = { u with lanes := t.lanes, regs := t.regs })) ∧
        (-4 ≤ p → p ≤ -1 → Does (.primarySyncMatch l p f) s (fun t => (t.lanes[l]).hyp = some ⟨p, []⟩ ∧
          t.on (R.OPL_STATUS_HYPOTHESIS l) = true ∧ Counted u t (R.OPL_CNT_EARLY l) 1 ∧
          RegsBut u t [R.OPL_CNT_EARLY l, R.OPL_STATUS l] ∧ t = { u with lanes := t.lanes, regs := t.regs })) ∧
        (p < -4 ∨ 4 < p → exec (.primarySyncMatch l p f) s = .next u)) ∧
      (u.on (R.OPL_STATUS_FRAME_LOCK l) = false → x.starting = false → Does (.primarySyncMatch l p f) s (fun t =>
        (t.lanes[l]).searchPri = some (x.pred + p).toNat ∧ t = { u with lanes := t.lanes }))) ∧
    (laneWorks u l = true → u.on (R.OPL_STATUS_FRAME_LOCK l) = true → x.hyp = none → x.sec = none →
      ∀ bits, syncBits x.dsp (x.pred + 1280 + p) = some bits → syncDiff bits secondarySync ≤ u.g (R.OPL_SYNC_SEC_MAXDIFF l) →
      -4 ≤ p → p ≤ 4 →
      (x.pri = none → Does (.secondarySyncMatch l p f) s (fun t => (t.lanes[l]).sec = some p ∧ Counted u t (R.OPL_CNT_PRI_MISSED l) 1 ∧
        RegsBut u t [R.OPL_CNT_PRI_MISSED l] ∧ t = { u with lanes := t.lanes, regs := t.regs })) ∧
      (x.pri = some 0 → Does (.secondarySyncMatch l p f) s (fun t => (t.lanes[l]).sec = some p ∧ t = { u with lanes := t.lanes }))) ∧
    (x.pred + 1324 ≤ x.dsp.n →
      (∀ q : Int, x.hyp = some ⟨q, []⟩ → Does (.hypothesisDecide l f) s (fun t => (t.lanes[l]).hyp = none ∧
        (t.lanes[l]).decided = 5 ∧ OnlyFields u { t with lanes := u.lanes } (R.OPL_STATUS l) [R.OPL_STATUS_HYPOTHESIS l] ∧
        t.on (R.OPL_STATUS_HYPOTHESIS l) = false)) ∧
      (∀ (q : Int) (d : Nat), x.hyp = some ⟨q, [(0, d)]⟩ → Does (.hypothesisDecide l f) s (fun t => (t.lanes[l]).hyp = none ∧
        (t.lanes[l]).decided = 4 ∧ (t.lanes[l]).pri = some 0 ∧ (t.lanes[l]).sec = some 0 ∧
        t.on (R.OPL_STATUS_HYPOTHESIS l) = false ∧ Counted u t (R.OPL_CNT_EARLY_PRED l) 1)))

/-- Defects, failures, spares: what each sets, and nothing else (R107, R109, R114, R115, R117, R119, R122). What rests on log entries 7, 29, 71, 73 is the model's choice and no rule of the spec. -/
def Obligations.LaneDefectsAndFailures : Prop :=
  ∀ (s : State) (l : Fin 68) (f : LaneIn), s.live = true →
    let u := laneRun s l f
    let x := u.lanes[l]
    (laneWorks u l = true → u.on (R.OPL_STATUS_DEFECT l) = false → u.g (R.OPL_DEFECT_MIN_LEN l) * 8 ≤ max x.dsp.low x.dsp.high →
      Does (.defectDeclared l f) s (fun t => t.on (R.OPL_STATUS_DEFECT l) = true ∧
        ((t.lanes[l]).dsp.defects.head? = some (outputsOf x.dsp - max x.dsp.low x.dsp.high, none)) ∧
        OnlyFields u { t with lanes := u.lanes } (R.OPL_STATUS l) [R.OPL_STATUS_DEFECT l])) ∧
    (u.on (R.OPL_STATUS_DEFECT l) = true → u.g (R.OPL_DEFECT_MAX_HOLD l) * 2560 < defectLength x.dsp →
      Does (.defectHoldExceeded l f) s (fun t => t.on (R.OPL_STATUS_HOLD_EXCEEDED l) = true ∧ (t.lanes[l]).held = true ∧
        OnlyFields u { t with lanes := u.lanes } (R.OPL_STATUS l) [R.OPL_STATUS_HOLD_EXCEEDED l])) ∧
    (u.on (R.OPL_STATUS_DEFECT l) = true → x.held = false → u.g (R.OPL_DEFECT_MIN_LEN l) * 8 ≤ x.dsp.good →
      Does (.defectEnd l f) s (fun t => t.on (R.OPL_STATUS_DEFECT l) = false ∧
        OnlyFields u { t with lanes := u.lanes } (R.OPL_STATUS l) [R.OPL_STATUS_DEFECT l])) ∧
    (let idle := (s.lanes[l]).rows = [] ∧ laneReads s l = false
      let rest := fun (x y : State) (k : Fin 68) => ∀ r q, (x.lanes[k]).rows = r :: q → q.length < 319 →
        x.g (R.OPL_MODE_MODE k) = 1 → calReads x (laneStation x k) = false →
        ∃ c, y.rx = x.rx ++ [c] ∧ c.rows.length = 320 ∧ c.rows.take (q.length + 1) = (r :: q).reverse ∧
          ∀ w ∈ c.rows.drop (q.length + 1), w.whole = true
      (∀ b : SramBlock, sramBad (some b) = true → Does (.laneFailed l (.memory b)) s (fun t => t.on (R.OPL_STATUS_FAILED l) = true ∧
        t.on (R.OPL_STATUS_ACTIVE l) = false ∧ t.on (R.OPL_STATUS_FRAME_LOCK l) = false ∧ Counted s t R.BUF_CNT_SRAM_UE 1 ∧
        (idle → OnlyRegs s t [R.OPL_STATUS l, R.BUF_CNT_SRAM_UE]) ∧ rest s t l)) ∧
      (∀ (n : Fin 8) (m : Fin 4) (v : Bool), laneBeam s l = some (n, m, v) → laneWorks s l = true →
        (s.lanes[l]).confirmed + 163840 ≤ (s.lanes[l]).dsp.n → (s.lanes[l]).dsp.defects = [] →
        (∀ k : Fin 4, workLane s n k v ≠ l → s.g (R.OPL_MODE_MODE (workLane s n k v)) = s.g (R.OPL_MODE_MODE l) →
          s.on (R.OPL_STATUS_FRAME_LOCK (workLane s n k v)) = true) →
        Does (.laneFailed l .noFrames) s (fun t => t.on (R.OPL_STATUS_FAILED l) = true ∧ t.on (R.OPL_STATUS_ACTIVE l) = false ∧
          t.on (R.OPL_STATUS_FRAME_LOCK l) = false ∧ (idle → OnlyRegs s t [R.OPL_STATUS l]) ∧ rest s t l)) ∧
      ∀ (n : Fin 8) (m : Fin 4) (v b : Bool) (a : Fin 64), a.val = (laneOf n m v).val →
      let w := workLane s n m v
      let z := laneRun s w f
      (b = true ∨ (1000 ≤ (z.lanes[w]).dsp.same ∧ z.on (R.BRL_STN_SEQ_STATUS_FLOCK n) = true) → Does (.adcFailed a f b) s (fun t =>
        t.on (R.OPL_STATUS_ADC_FAILED a) = true ∧ t.on (R.OPL_STATUS_ACTIVE w) = false ∧
        ((z.lanes[w]).rows = [] → laneReads z w = false → OnlyRegs z t [R.OPL_STATUS a, R.OPL_STATUS w]) ∧ rest z t w))) ∧
    (∀ (n : Fin 8) (ver : Bool) (m : Fin 4),
      ((freeSpare s).isSome = true → s.on (R.OPL_STATUS_SPARED (laneOf n m ver)) = false →
        s.on (R.OPL_STATUS_ADC_FAILED (laneOf n m ver)) = false → Does (.spareForce n ver m) s (fun t =>
          (t.lanes[laneOf n m ver]).force = true ∧ t = { s with lanes := t.lanes })) ∧
      (s.on (R.OPL_STATUS_FAILED (laneOf n m ver)) = false → s.on (R.OPL_STATUS_SPARED (laneOf n m ver)) = true →
        Does (.spareRelease n ver m) s (fun t => (t.lanes[laneOf n m ver]).release = true ∧ t = { s with lanes := t.lanes }))) ∧
    (betweenClusters s l = true →
      Does (.microcodeTake l) s (fun t => (t.lanes[l]).ucode = s.tru.ucodeSlot ∧ t = { s with lanes := t.lanes })) ∧
    (betweenClusters s l = false → exec (.microcodeTake l) s = .next s)

/-- Frames delivered and inserted, lock regained, seeds, addresses, spare switches (R71, R95, R103, R105, R110, R111, R115, R117, R280). What rests on log entries 7, 29, 71, 73, 90 is the model's choice and no rule of the spec. -/
def Obligations.LaneFramesAndLock : Prop :=
  ∀ (s : State), s.live = true →
    (∀ (l : Fin 68) (f : LaneIn), let u := laneRun s l f; let x := u.lanes[l]
      laneReads u l = true → u.g (R.OPL_MODE_MODE l) = 1 → u.on (R.OPL_STATUS_FRAME_LOCK l) = true → x.hyp = none → x.rows.length < 319 →
      x.awaitSlot = false → defectFrame x = false →
      (syncCase x ≠ 0 → (framePlaces x).2.1 + 1280 ≤ x.dsp.n → Does (.frameDelivery l f none) s (fun t =>
        Counted u t (R.OPL_CNT_FRAMES l) 1 ∧ (t.lanes[l]).miss = 0 ∧ (t.lanes[l]).pred = (framePlaces x).2.2 ∧
        t = { u with regs := t.regs, lanes := t.lanes, free := t.free } ∧
        ∃ r, (t.lanes[l]).rows = r :: x.rows ∧ r.case = syncCase x ∧ r.whole = false ∧
          r.bytes = (demodulate (halfWords x.dsp ((framePlaces x).1 + 40) ++ halfWords x.dsp ((framePlaces x).2.1 + 40)) [] false).1)) ∧
      (syncCase x = 0 → x.pred + 1324 ≤ x.dsp.n → x.miss < 2 → Does (.flywheelInsertion l f) s (fun t =>
        (t.lanes[l]).miss = x.miss + 1 ∧ (t.lanes[l]).pred = x.pred + 2560 ∧
        Counted u t (R.OPL_CNT_ERASED l) 1 ∧ Counted u t (R.OPL_CNT_FRAMES l) 1 ∧
        RegsBut u t [R.OPL_CNT_ERASED l, R.OPL_CNT_FRAMES l, R.OPL_STATUS l]))) ∧
    (∀ (l : Fin 68) (f : LaneIn), let u := laneRun s l f; let x := u.lanes[l]
      laneReads u l = true → u.on (R.OPL_STATUS_FRAME_LOCK l) = true → x.hyp = none → x.rows.length < 319 → x.awaitSlot = true →
      defectFrame x = false → syncCase x = 0 → x.pred + 1324 ≤ x.dsp.n → x.miss < 2 →
      (atSlotStart x x.pred = true → Does (.flywheelInsertion l f) s (fun t => (t.lanes[l]).awaitSlot = false ∧
        (t.lanes[l]).resynced = true ∧ ∃ r, (t.lanes[l]).rows = r :: x.rows ∧ r.whole = true)) ∧
      (atSlotStart x x.pred = false → Does (.flywheelInsertion l f) s (fun t => (t.lanes[l]).awaitSlot = true ∧
        (t.lanes[l]).rows = x.rows ∧ t = { u with lanes := t.lanes }))) ∧
    (∀ (l : Fin 68) (p : Int) (f : LaneIn) (q : Nat) (bits : BitVec 40), let u := laneRun s l f; let x := u.lanes[l]
      laneWorks u l = true → u.on (R.OPL_STATUS_FRAME_LOCK l) = false → x.searchPri = some q → -4 ≤ p → p ≤ 4 →
      syncBits x.dsp (q + 1280 + p) = some bits → syncDiff bits secondarySync ≤ u.g (R.OPL_SYNC_SEC_MAXDIFF l) →
      Does (.frameLockRegained l p f) s (fun t => t.on (R.OPL_STATUS_FRAME_LOCK l) = true ∧ (t.lanes[l]).searchPri = none ∧
        (t.lanes[l]).pred = q ∧ OnlyFields u { t with lanes := u.lanes } (R.OPL_STATUS l) [R.OPL_STATUS_FRAME_LOCK l])) ∧
    (∀ (n : Fin 8) (y : List Int),
      (s.on (R.BRL_STN_SEQ_STATUS_TLOCK n) = false → Does (.wobbleSeedUpdate n y) s (fun t => (t.stn[n]).wob = (s.stn[n]).wob ∧
        (t.stn[n]).meas = ⟨none, none, 0, 0⟩ ∧ t = { s with stn := t.stn })) ∧
      (s.on (R.BRL_STN_SEQ_STATUS_TLOCK n) = true → ∀ w p, wobbleRun (s.stn[n]).wob (s.stn[n]).meas y = (w, p) →
        (p = none → Does (.wobbleSeedUpdate n y) s (fun t => (t.stn[n]).wob = (s.stn[n]).wob ∧ (t.stn[n]).meas = w ∧ t = { s with stn := t.stn })) ∧
        (∀ q : Rat, p = some q → 0 ≤ q → Does (.wobbleSeedUpdate n y) s (fun t => (t.stn[n]).meas = w ∧
          ((t.stn[n]).wob : Rat) - q * 2 ^ 21 < 1 ∧ q * 2 ^ 21 - ((t.stn[n]).wob : Rat) < 1)))) ∧
    (∀ (n : Fin 8) (arm : Fin 4) (new : Bool) (w : BitVec 60), let a := (s.stn[n]).adip[arm]
      let had := if new then [] else a.copies
      (adipAddress w = none → Does (.adipWordDecode n arm new w) s (fun t =>
        ((t.stn[n]).adip[arm]).last = a.last ∧ ((t.stn[n]).adip[arm]).copies = had ∧ t = { s with stn := t.stn })) ∧
      (∀ p : Nat, adipAddress w = some p → (new = true ∨ a.here ≠ some p) →
        ((∃ q, a.last = some q ∧ nextPca q = some p) ∨ p ∈ had → Does (.adipWordDecode n arm new w) s (fun t =>
          ((t.stn[n]).adip[arm]).last = some p ∧ ((t.stn[n]).adip[arm]).here = some p ∧
          ((t.stn[n]).adip[arm]).copies = had ++ [p] ∧ t = { s with stn := t.stn })) ∧
        ((∀ q, a.last = some q → nextPca q ≠ some p) → p ∉ had → Does (.adipWordDecode n arm new w) s (fun t =>
          ((t.stn[n]).adip[arm]).last = a.last ∧ ((t.stn[n]).adip[arm]).copies = had ++ [p] ∧ t = { s with stn := t.stn })))) ∧
    Does (.laneSpareSwitch []) s (fun t => t = s) ∧
    (∀ (n : Fin 8) (m : Fin 4), (s.beam n m).cur = none →
      (∀ k : Fin 4, freeSpare s = some k → spareOf s n m false = none → s.on (R.OPL_STATUS_FAILED (laneOf n m false)) = true →
        s.on (R.OPL_STATUS_ADC_FAILED (laneOf n m false)) = false → (s.lanes[laneOf n m false]).handled = false →
        s.on (R.OPL_STATUS_ADC_FAILED (laneOf n m true)) = false → s.on (R.OPL_STATUS_FAILED (workLane s n m true)) = false →
        (s.lanes[laneOf n m true]).force = false → (s.lanes[laneOf n m true]).release = false →
        Does (.laneSpareSwitch [(n, m)]) s (fun t => spareOf t n m false = some k ∧ workLane t n m false = spareLane k ∧
          t.on (R.OPL_STATUS_SPARED (laneOf n m false)) = true ∧ (t.lanes[laneOf n m false]).handled = true ∧
          Logged s t 0x103 n [laneArg n m false, k, 1] 0)) ∧
      (s.on (R.OPL_STATUS_ADC_FAILED (laneOf n m true)) = true → (s.lanes[laneOf n m true]).adcDone = false →
        s.on (R.OPL_STATUS_ADC_FAILED (laneOf n m false)) = true → (s.lanes[laneOf n m false]).adcDone = true → spareOf s n m true = none →
        Does (.laneSpareSwitch [(n, m)]) s (fun t => (t.lanes[laneOf n m true]).stopped = true ∧
          Logged s t 0x103 n [laneArg n m true, 0xFF, 2] 0)))

/-- Topaz: blocks join, streams close, stripes are placed, clusters are encoded, decoded, rebuilt, swept and relocated (R123, R126, R129, R132, R133, R134, R135, R138, R144, R147, R149, R525). What rests on log entries 7, 30, 31, 75, 76, 77, 78, 81, 89 is the model's choice and no rule of the spec. -/
def Obligations.TopazClustersAndStripes : Prop :=
  ∀ (s : State) (vol reel : Nat), s.live = true →
    (let u := closeWaits s vol reel
     (s.cgl.closes.any (fun c => c.1 == vol && c.2.1 == reel) = false → u = s) ∧
     ∀ b p, nextBlock u vol reel = some (b, p) → earlierWrite u vol reel p.adm = false →
      exec (.blockJoinCluster vol reel) s = .next (joinBlock u b p) ∧
      (∀ x c, openStripe u vol reel = some x → x.filling = some c → continues c p = true → c.bpns.length < 15 →
        Does (.blockJoinCluster vol reel) s (fun t => openStripe t vol reel = some { x with
            filling := some { c with bpns := c.bpns ++ [b], bytes := c.bytes ++ p.bytes }, idle := s.now } ∧
          (∀ q ∈ t.buf.pages, q.1 = b → q.2.st = .joined) ∧ t.regs = u.regs)) ∧
      (∀ x, openStripe u vol reel = some x → x.filling = none →
        Does (.blockJoinCluster vol reel) s (fun t => openStripe t vol reel = some { x with
            filling := some ⟨1, vol, reel, p.group, p.ver, p.lba, [b], p.bytes⟩, idle := s.now } ∧
          (∀ q ∈ t.buf.pages, q.1 = b → q.2.st = .joined) ∧ t.regs = u.regs)) ∧
      (openStripe s vol reel = none → exec (.stripeOpen vol reel) s = .next (joinBlock u b p) ∧
        (openStripe u vol reel = none → parityCount u < (availSet u).length → serialSpent u = false → Does (.stripeOpen vol reel) s (fun t =>
          (∃ y, openStripe t vol reel = some y ∧ y.p = parityCount u ∧ y.data = [] ∧ y.serial = 0 ∧
            y.k = (if parityCount u < 8 - (availSet u).length then (availSet u).length - parityCount u else 8 - parityCount u) ∧
            y.filling = some ⟨1, vol, reel, p.group, p.ver, p.lba, [b], p.bytes⟩) ∧
          (∀ q ∈ t.buf.pages, q.1 = b → q.2.st = .joined) ∧ t.regs = u.regs)))) ∧
    (∀ x, openStripe s vol reel = some x → s.g R.TPZ_STRIPE_CTRL_IDLE_CLOSE ≠ 0 →
      x.idle + s.g R.TPZ_STRIPE_CTRL_IDLE_CLOSE * 1000000 ≤ s.now → exec (.streamIdleExpiry vol reel) s = .next (closeStream s vol reel) ∧
        Does (.streamIdleExpiry vol reel) s (fun t => openStripe t vol reel = none ∧ t.regs = s.regs ∧
          ∃ y ∈ t.tpz.stripes, y.vol = vol ∧ y.reel = reel ∧ y.closed = true ∧ y.filling = none ∧ y.data = x.data ++ x.filling.toList ∧
            (x.data.length < x.k → y.k = y.data.length))) ∧
    (∀ x, placeable s = some x → nextSerial s < s.grn.ceilStripe → serialSpent s = false →
      exec .stripeSerialAssign s = .next (placeStripe s x) ∧
      Does .stripeSerialAssign s (fun t => nextSerial t = nextSerial s + 1 ∧
        (∃ y ∈ t.tpz.stripes, y.serial = nextSerial s ∧ y.data = x.data ∧ y.mems.length = x.k + x.p) ∧
        ∀ r < x.k + x.p, let n := stnOf (placeStation (nextSerial s) r x.narrow x.setA)
          (avail s n = true → ∃ j ∈ (t.wrs[n]).queue, j.kind = .member ∧ j.rot = r ∧ j.hdr.stripe = nextSerial s) ∧
          (avail s n = false → ∃ q ∈ t.tpz.rebuilds, q.serial = nextSerial s ∧ q.rot = r))) ∧
    (∀ (n : Fin 8) (time : Nat) (j : Job) (rest : List Job) (m : Fin 4) (pca : Nat), (s.wrs[n]).queue = j :: rest → j.after = none →
      (s.cal[n]).run = none → j.kind = .member → nextBeam s n = some m → (s.beam n m).enc = none → jobSlot s n m j = some pca →
      Does (.clusterEncode n time) s (fun t => (t.wrs[n]).queue = rest ∧
        (t.beam n m).enc = some (encodeJob j n m (discId s n) pca time) ∧ t.regs = s.regs)) ∧
    (∀ (pca : Nat) (c : RxCluster) (rest : List RxCluster), s.rx = c :: rest →
      Does (.clusterDecoded pca) s (fun t => t.rx = rest ∧
        (let d := decodeRows (s.g R.TPZ_DEC_CTRL_INNER_T) (s.g R.TPZ_DEC_CTRL_ROUNDS) pca s.free c.rows
         Counted s t R.TPZ_CNT_INNER_CORR d.inner ∧ Counted s t R.TPZ_CNT_ROWS_FAILED d.failedRows ∧
         Counted s t R.TPZ_CNT_OUTER_CORR d.outer ∧
         (d.content = none → Counted s t R.TPZ_CNT_UNRECOVERED 1 ∧ t.rd R.TPZ_CNT_DECODED = s.rd R.TPZ_CNT_DECODED)))) ∧
    (∀ (n : Fin 8) (r : Rebuild) (bs : List Byte), avail s n = true → nothingQueued s n = true → nextRebuild s n = some r →
      let a := touchAll s (stripeLines s r.serial ((List.range (r.k + r.p)).filter (· != r.rot)))
      (a.1 = false → exec (.degradedRebuild n) s = .next a.2) ∧
      (a.1 = true → rebuildMember a.2 r.serial r.k r.p r.narrow r.setA r.rot = .ok bs →
        Does (.degradedRebuild n) s (fun t => Counted a.2 t R.TPZ_CNT_RECONSTRUCTED 1))) ∧
    (∀ (n : Fin 8), sweepRuns s n = true → (s.grn.chains[n]).check = [] → let pca := max dataFirst (s.tpz.sweepNext[n])
      frontKey pca < beams.foldl (fun a m => max a (frontKey (((s.stn[n]).fronts[m]).getD 0))) 0 →
      ((discIndex s (discId s n)).bind (fun d => placedAt s d pca) = none →
        exec (.sweepCluster n) s = .next (sweepMove s n pca false) ∧
        (∀ q, sweepAfter s n pca = some q → Does (.sweepCluster n) s (fun t => t.tpz.sweepNext[n] = q ∧ t.regs = s.regs)) ∧
        (sweepAfter s n pca = none → Does (.sweepCluster n) s (fun t => t.tpz.sweepNext[n] = dataFirst ∧
          t.g (R.TPZ_SWEEP_PASS_PASSES n) = (s.g (R.TPZ_SWEEP_PASS_PASSES n) + 1) % 2 ^ (R.TPZ_SWEEP_PASS_PASSES n).w ∧
          (t.grn.chains[n]).check = (s.grn.chains[n]).parts ∧ RegsBut s t [(R.TPZ_SWEEP_PASS_PASSES n).addr]))) ∧
      (∀ x, (discIndex s (discId s n)).bind (fun d => placedAt s d pca) = some x →
        let a := touchAll s (lineOf x.2.2.entry :: stripeLines s x.1 [])
        let u := a.2
        (a.1 = false → exec (.sweepCluster n) s = .next u) ∧
        (a.1 = true → ∀ y z w q, resultOf u (discId s n) pca = some y →
          y.content = some w → y.failedRows < u.g R.TPZ_SWEEP_CTRL_RELOC_ROWS → stripeGeom u x.1 = some z → sweepAfter u n pca = some q →
          pca < 2 ^ 32 → Does (.sweepCluster n) s (fun t => t.tpz.sweepNext[n] = q ∧
            (pcaArm pca = 0 → t.g (R.TPZ_SWEEP_POS_PCA n) = pca) ∧ RegsBut u t [(R.TPZ_SWEEP_POS_PCA n).addr])))) ∧
    (∀ (disc pca : Nat) (x : Reloc) (st d p : Nat), s.tpz.relocs.find? (fun x => x.disc == disc && x.pca == pca) = some x → x.done = some (st, d, p) →
      let old := (discIndex s disc).bind (fun d => placedAt s d pca)
      let gone := fun (t : State) => t.tpz.relocs.any (fun x => x.disc == disc && x.pca == pca) = false
      (old = none ∨ stripeGeom s x.serial = none → Does (.relocationComplete disc pca) s (fun t => gone t ∧ t = { s with tpz := t.tpz })) ∧
      (∀ y, old = some y → stripeGeom s x.serial ≠ none →
        let a := touchAll s (lineOf y.2.2.entry :: stripeLines s y.1 [])
        (a.1 = false → exec (.relocationComplete disc pca) s = .next a.2) ∧
        (a.1 = true → a.2.grn.entries.length + 2 ≤ mapSize → Does (.relocationComplete disc pca) s gone)))

/-- The write path: clusters start, end, are interrupted, abandoned and judged; suspensions; link words (R74, R75, R88, R112, R158, R159, R161, R162, R170, R172, R173, R176). What rests on log entries 7, 75, 81, 84, 87 is the model's choice and no rule of the spec. -/
def Obligations.WritePathClusters : Prop :=
  ∀ (s : State) (n : Fin 8) (m : Fin 4), s.live = true →
    (∀ e : Enc, (s.beam n m).enc = some e → (s.beam n m).cur = none → mayStart s n e = true → writeMay s n m e.job.kind = true →
      lanesGood s n m = true → sendsAtOnce (s.beam n m) = false →
      slotAccepted s n m e.pca = true → e.job.kind = .member →
      Does (.clusterWriteStart n m e.pca) s (fun t => bitOf (t.g (R.WRS_STATUS_WRITING n)) m = 1 ∧
        (t.beam n m).cur = some ⟨e.job, e.pca, e.time, 0, 0, false, false, false, e.rows, 0, false⟩ ∧ Counted s t (R.WRS_CNT_CLUSTERS n) 1)) ∧
    (∀ c : Cur, (s.beam n m).cur = some c →
      let stop := fun (x : Cur) (cnt : List Nat) (t : State) => (t.beam n m).cur = none ∧ (t.beam n m).judged = (s.beam n m).judged ++ [x] ∧
        bitOf (t.g (R.WRS_STATUS_WRITING n)) m = 0 ∧ (∀ k : Fin 4, k ≠ m → t.beam n k = s.beam n k) ∧
        RegsBut s t ([R.WRS_STATUS n, R.STN_STATUS n] ++ cnt)
      let others := s.g (R.WRS_STATUS_WRITING n) - bitOf (s.g (R.WRS_STATUS_WRITING n)) m * 2 ^ m.val ≠ 0
      (c.sent < clusterLength → exec (.clusterWriteEnd n m) s = .next s) ∧
      (clusterLength ≤ c.sent → exec (.clusterWriteEnd n m) s = .next (goPlace (endCluster s n m c) n) ∧
        (others → Does (.clusterWriteEnd n m) s (stop c []))) ∧
      (writeHolds s n c.job.kind = true → exec (.clusterInterrupted n m) s = .next s) ∧
      (writeHolds s n c.job.kind = false → exec (.clusterInterrupted n m) s =
        .next (endCluster (s.bump (R.WRS_CNT_INTERRUPTED n)) n m { c with interrupted := true }) ∧
        (others → Does (.clusterInterrupted n m) s (fun t => stop { c with interrupted := true } [R.WRS_CNT_INTERRUPTED n] t ∧
          Counted s t (R.WRS_CNT_INTERRUPTED n) 1))) ∧
      (s.on (R.WRS_CTRL_ABANDON n) = true → s.g (R.WRS_VERIFY_FRAME_FAIL_MAX n) < c.failed → exec (.clusterAbandon n m) s =
        .next (endCluster (s.bump (R.WRS_CNT_ABANDONED n)) n m { c with abandoned := true }) ∧
        (others → Does (.clusterAbandon n m) s (fun t => stop { c with abandoned := true } [R.WRS_CNT_ABANDONED n] t ∧
          Counted s t (R.WRS_CNT_ABANDONED n) 1)))) ∧
    (awaitsResult (s.beam n m) = true → Does (.verifyResultTimeout n m) s (fun t => Counted s t (R.WRS_CNT_FRAMES_FAILED n) 1 ∧
        RegsBut s t [R.WRS_CNT_FRAMES_FAILED n])) ∧
    (∀ (f : LaneIn) (c : Cur), let l := workLane s n m true; let u := laneRun s l f; let x := u.lanes[l]
      (s.beam n m).judged = [] → (s.beam n m).cur = some c → takesResults c = true →
      (u.on (R.OPL_STATUS_FAILED l) = true ∨ u.on (R.OPL_STATUS_ADC_FAILED (laneOf n m true)) = true →
        Does (.frameVerifyResult n m f) s (fun t => Counted u t (R.WRS_CNT_FRAMES_FAILED n) 1 ∧
          (t.beam n m).cur = some { c with results := c.results + 1, failed := c.failed + 1, laneFail := true })) ∧
      (u.on (R.OPL_STATUS_ADC_FAILED (laneOf n m true)) = false → laneWorks u l = true → u.g (R.OPL_MODE_MODE l) = 2 →
        verifyCase u l ≠ 0 → (framePlaces x).2.1 + 1280 ≤ x.dsp.n →
        let want := frameBits ((c.rows[c.results]?).getD [])
        let mism := mismatches x.dsp ((framePlaces x).1 + 40) ((want.drop 40).take 1240) +
          mismatches x.dsp ((framePlaces x).2.1 + 40) (want.drop 1320)
        Does (.frameVerifyResult n m f) s (fun t => Counted u t (R.OPL_CNT_MISMATCH l) mism ∧
          ∃ bad : Bool, (t.beam n m).cur = some { c with results := c.results + 1, failed := c.failed + b2n bad } ∧
            Counted u t (R.WRS_CNT_FRAMES_FAILED n) (b2n bad) ∧
            (u.g (R.WRS_VERIFY_MISMATCH_MAX n) < mism ∨ verifyCase u l = 3 ∨ verifyCase u l = 5 ∨ verifyCase u l = 6 → bad = true)))) ∧
    (∀ (c : Cur) (rest : List Cur), (s.beam n m).judged = c :: rest → judgeable c = true → passes s n c = true → c.job.kind = .test →
      Does (.clusterVerdict n m) s (fun t => Counted s t (R.WRS_CNT_PASSED n) 1 ∧ (t.beam n m).judged = rest ∧
        (t.beam n m).failRun = 0)) ∧
    (bitOf (s.g (R.WRS_STATUS_SUSPENDED n)) m = 1 →
      ((s.beam n m).suspAt = some s.now → exec (.beamResume n m) s = .next s) ∧
      ((s.beam n m).suspAt ≠ some s.now →
        (∃ u, exec (.beamResume n m) s = .next (beamBack u n) ∧ bitOf (u.g (R.WRS_STATUS_SUSPENDED n)) m = 0 ∧
          (u.beam n m).failRun = 0 ∧ RegsBut s u [R.WRS_STATUS n]) ∧
        (s.g (R.STN_STATUS_STATE n) ≠ stACTIVE ∨ s.g (R.WRS_STATUS_WRITING n) ≠ 0 → Does (.beamResume n m) s (fun t =>
          bitOf (t.g (R.WRS_STATUS_SUSPENDED n)) m = 0 ∧ (t.beam n m).failRun = 0 ∧ RegsBut s t [R.WRS_STATUS n] ∧
          ∀ k : Fin 4, (t.beam n k).enc = none)))) ∧
    (∀ osc : List (Nat × Nat), s.on (R.WRS_STATUS_LINK_ACTIVE n) = true → Does (.linkSyncWord n m osc) s (fun t =>
      ∃ words : List (BitVec 40), words.length = 63 ∧ t.out =
        .laser n m (BitVec.ofNat 40 (0xBC * 2 ^ 32 + m.val * 2 ^ 24 + (s.beam n m).sync.toNat * 2 ^ 8 + linkCrc words)) ::
          (words.reverse.map (Out.laser n m) ++ s.out) ∧
      (t.beam n m).sync = (s.beam n m).sync + 1 ∧ t.regs = s.regs ∧
      (∀ w rest, (s.beam n m).link = w :: rest → words.head? = some w) ∧
      ((s.beam n m).link = [] → (s.beam n m).cur = none → words = List.replicate 63 0#40) ∧
      (∀ c, (s.beam n m).link = [] → (s.beam n m).cur = some c → writeHolds s n c.job.kind = false →
        words = List.replicate 63 0#40 ∧ (t.beam n m).cur = some c) ∧
      (∀ c ph more, (s.beam n m).link = [] → (s.beam n m).cur = some c → writeHolds s n c.job.kind = true → c.sent = 0 → c.level = false → osc = (24, ph) :: more →
        words.head? = some (dataWord true ph (nrzi false (clusterBits c.rows 0 24))))))

/-- What the sequencer refuses: REFUSED is set and nothing else changes; STOP is carried out from any state (R201). -/
def Obligations.SequencerRefusals : Prop :=
  ∀ (s : State) (n : Fin 8) (arg : BitVec 8), s.live = true →
    let refused := fun (c : Instr) => Does c s (fun t => t.on (R.BRL_STN_SEQ_STATUS_REFUSED n) = true ∧
      OnlyFields s t (R.BRL_STN_SEQ_STATUS n) [R.BRL_STN_SEQ_STATUS_REFUSED n])
    let st := s.g (R.BRL_STN_SEQ_STATUS_STATE n)
    (st ≠ 0 → st ≠ 10 → refused (.focusAcq n) ∧ refused (.trackJump n arg) ∧ refused (.layerJump n arg) ∧ refused (.ffClear n) ∧
      refused (.setLayer n arg)) ∧
    (s.on (R.SPN_STATUS_IN_REG n) = false → refused (.focusAcq n) ∧ refused (.trackJump n arg) ∧ refused (.layerJump n arg)) ∧
    ((arg = 0#8 ∨ arg.toInt < -64 ∨ 64 < arg.toInt ∨ s.on (R.BRL_STN_SEQ_STATUS_FLOCK n) = false ∨
      s.on (R.BRL_STN_SEQ_STATUS_TLOCK n) = false) → refused (.trackJump n arg)) ∧
    (s.on (R.BRL_STN_SEQ_STATUS_FLOCK n) = false → refused (.layerJump n arg)) ∧
    ((st = 0 ∨ st = 10) → s.on (R.SPN_STATUS_IN_REG n) = true → s.on (R.BRL_STN_SEQ_STATUS_FLOCK n) = true →
      s.g (R.BRL_STN_SEQ_STATUS_LAYER n) = arg.toNat → Does (.layerJump n arg) s (fun t =>
        t.on (R.BRL_STN_SEQ_STATUS_DONE n) = true ∧ RegsBut s t [R.BRL_STN_SEQ_STATUS n] ∧ t.brl.loops = s.brl.loops ∧
        BitsBut s t (R.BRL_STN_SEQ_STATUS n) [R.BRL_STN_SEQ_STATUS_DONE n, R.BRL_STN_SEQ_STATUS_LAST_CMD n])) ∧
    Does (.seqStop n) s (fun t => t.g (R.BRL_STN_SEQ_STATUS_STATE n) = 10)

/-- What each admitted command of the sequencer starts, and what it leaves alone (R95, R196, R200, R202, R203, R205, R206, R209). What rests on log entries 7, 21, 71 is the model's choice and no rule of the spec. -/
def Obligations.SequencerCommandsRun : Prop :=
  ∀ (s : State) (n : Fin 8), s.live = true →
    let st := s.g (R.BRL_STN_SEQ_STATUS_STATE n)
    let last := fun (t : State) (c : Nat) => t.g (R.BRL_STN_SEQ_STATUS_LAST_CMD n) = c
    let lanes := fun (a : Nat) => ∃ l : Fin 68, a = R.OPL_STATUS l ∨ a = R.OPL_RATE l
    let butOffsets := fun (t : State) => ∀ a, a ≠ R.BRL_STN_SEQ_STATUS n → (∀ k : Fin 96, a ≠ R.BRL_SLOT_OFFSET k) → t.rd a = s.rd a
    let jumps := s.on (R.SPN_STATUS_IN_REG n) = true ∧ s.on (R.BRL_STN_SEQ_STATUS_FLOCK n) = true
    Does (.seqStop n) s (fun t => last t 4 ∧ t.g (R.BRL_STN_SEQ_STATUS_STATE n) = 10 ∧ t.on (R.BRL_STN_SEQ_STATUS_FLOCK n) = false ∧
      t.on (R.BRL_STN_SEQ_STATUS_TLOCK n) = false ∧ RegsBut s t [R.BRL_STN_SEQ_STATUS n] ∧
      t = { s with regs := t.regs, brl := t.brl, jsp := { s.jsp with due := t.jsp.due } }) ∧
    ((st = 0 ∨ st = 10) →
      (∀ arg : BitVec 8, arg.toNat < 16 → Does (.setLayer n arg) s (fun t => last t 6 ∧ t.g (R.BRL_STN_SEQ_STATUS_LAYER n) = arg.toNat ∧
        t.on (R.BRL_STN_SEQ_STATUS_DONE n) = true ∧ RegsBut s t [R.BRL_STN_SEQ_STATUS n] ∧ t.brl.loops = s.brl.loops)) ∧
      Does (.ffClear n) s (fun t => last t 5 ∧ t.on (R.BRL_STN_SEQ_STATUS_DONE n) = true ∧ t.on (R.BRL_STN_SEQ_STATUS_FF_VALID n) = false ∧
        (∀ (k : Fin 2) (i : Fin 512), t.rd (R.BRL_FF_ENTRY n k i) = 0#32) ∧
        (∀ a, a < R.BRL_FF_ENTRY n 0 0 ∨ R.BRL_FF_ENTRY n 0 0 + 0x1000 ≤ a → a ≠ R.BRL_STN_SEQ_STATUS n → t.rd a = s.rd a)) ∧
      (s.on (R.SPN_STATUS_IN_REG n) = true → Does (.focusAcq n) s (fun t => last t 1 ∧ t.g (R.BRL_STN_SEQ_STATUS_STATE n) = 2 ∧
        t.on (R.BRL_STN_SEQ_STATUS_FLOCK n) = false ∧ t.on (R.BRL_STN_SEQ_STATUS_TLOCK n) = false ∧ butOffsets t)) ∧
      (∀ arg : BitVec 8, jumps → arg ≠ 0#8 → -64 ≤ arg.toInt → arg.toInt ≤ 64 → s.on (R.BRL_STN_SEQ_STATUS_TLOCK n) = true →
        Does (.trackJump n arg) s (fun t => last t 2 ∧ (∀ a, a ≠ R.BRL_STN_SEQ_STATUS n → ¬ lanes a → t.rd a = s.rd a) ∧
          (s.g (R.WRS_STATUS_WRITING n) = 0 → t.g (R.BRL_STN_SEQ_STATUS_STATE n) = 7 ∧ t.on (R.BRL_STN_SEQ_STATUS_TLOCK n) = false) ∧
          (s.g (R.WRS_STATUS_WRITING n) ≠ 0 → t.g (R.BRL_STN_SEQ_STATUS_STATE n) = 1 ∧ t.brl.loops = s.brl.loops ∧
            RegsBut s t [R.BRL_STN_SEQ_STATUS n]))) ∧
      (∀ arg : BitVec 8, jumps → arg.toNat < 16 → arg.toNat ≠ s.g (R.BRL_STN_SEQ_STATUS_LAYER n) →
        Does (.layerJump n arg) s (fun t => last t 3 ∧
          (∀ a, a ≠ R.BRL_STN_SEQ_STATUS n → (∀ k : Fin 96, a ≠ R.BRL_SLOT_OFFSET k) → ¬ lanes a → t.rd a = s.rd a) ∧
          (s.g (R.WRS_STATUS_WRITING n) = 0 → t.g (R.BRL_STN_SEQ_STATUS_STATE n) = 8 ∧ t.on (R.BRL_STN_SEQ_STATUS_TLOCK n) = false) ∧
          (s.g (R.WRS_STATUS_WRITING n) ≠ 0 → t.g (R.BRL_STN_SEQ_STATUS_STATE n) = 1 ∧ t.brl.loops = s.brl.loops ∧
            RegsBut s t [R.BRL_STN_SEQ_STATUS n]))))

/-- Focus and tracking lock are gained and lost after their sample counts; a servo hold within HOLD_MAX keeps them (R182, R184, R197, R198, R199, R207, R210, R279). What rests on log entries 7, 21, 22 is the model's choice and no rule of the spec. -/
def Obligations.ServoLocksAndHold : Prop :=
  ∀ (s : State) (n : Fin 8), s.live = true →
    let q := s.brl.seq[n]
    let st := s.g (R.BRL_STN_SEQ_STATUS_STATE n)
    let quiet := s.g (R.STN_STATUS_STATE n) ≠ stACTIVE ∧ s.g (R.STN_STATUS_STATE n) ≠ stMOUNTING ∧ (s.stn[n]).task = .none
    let lost := fun (t : State) => t.on (R.BRL_STN_SEQ_STATUS_FLOCK n) = false ∧ t.on (R.BRL_STN_SEQ_STATUS_TLOCK n) = false ∧
      Logged s t 0x105 n [0, st] 0 ∧ RegsBut s t [R.BRL_STN_SEQ_STATUS n] ∧ t = { s with regs := t.regs, brl := t.brl, evl := t.evl } ∧
      (∀ k, slotFor s n tyFOCUS = some k → ∃ b, (t.brl.loops[k]).drive = .ramp (outOf s k) b 0 400) ∧
      (st ≠ 0 → st ≠ 10 → t.on (R.BRL_STN_SEQ_STATUS_FAILED n) = true ∧ t.g (R.BRL_STN_SEQ_STATUS_STATE n) = 0) ∧
      ((st = 0 ∨ st = 10) → t.g (R.BRL_STN_SEQ_STATUS_STATE n) = st)
    (s.on (R.BRL_STN_SEQ_STATUS_FLOCK n) = false → loopClosed s n tyFOCUS = true → 64 ≤ q.fGood → Does (.focusLockGained n) s (fun t =>
      t.on (R.BRL_STN_SEQ_STATUS_FLOCK n) = true ∧ OnlyFields s { t with brl := s.brl, stn := s.stn } (R.BRL_STN_SEQ_STATUS n)
        [R.BRL_STN_SEQ_STATUS_FLOCK n] ∧ t.brl.loops = s.brl.loops ∧ (s.g (R.STN_STATUS_STATE n) ≠ stLOADING → s.g (R.STN_STATUS_STATE n) ≠ stMOUNTING → t.stn = s.stn) ∧
      (s.g (R.STN_STATUS_STATE n) = stLOADING ∨ s.g (R.STN_STATUS_STATE n) = stMOUNTING →
        t.stn[n] = { s.stn[n] with since := s.now } ∧ ∀ k : Fin 8, k ≠ n → t.stn[k] = s.stn[k]))) ∧
    (s.on (R.BRL_STN_SEQ_STATUS_TLOCK n) = false → s.on (R.BRL_STN_SEQ_STATUS_FLOCK n) = true → loopClosed s n tyTRACK = true →
      64 ≤ q.tGood → st ≠ 6 → exec (.trackingLockGained n) s = .next (stnRun (s.u (R.BRL_STN_SEQ_STATUS_TLOCK n) 1) n) ∧
      ((s.stn[n]).task = .none → Does (.trackingLockGained n) s (fun t => t.on (R.BRL_STN_SEQ_STATUS_TLOCK n) = true ∧
        OnlyFields s t (R.BRL_STN_SEQ_STATUS n) [R.BRL_STN_SEQ_STATUS_TLOCK n]))) ∧
    (s.on (R.BRL_STN_SEQ_STATUS_FLOCK n) = true → 16 ≤ q.fBad → exec (.focusLockLost n) s = .next (focusLost s n) ∧
      (quiet → Does (.focusLockLost n) s lost)) ∧
    (∀ h, q.held = some h →
      (s.g (R.BRL_STN_FOK_HOLD_MAX n) < h → exec (.servoHoldExpiry n) s = .next (focusLost s n) ∧
        (quiet → Does (.servoHoldExpiry n) s lost)) ∧
      (h ≤ s.g (R.BRL_STN_FOK_HOLD_MAX n) → exec (.servoHoldExpiry n) s = .next s)) ∧
    (s.on (R.BRL_STN_SEQ_STATUS_TLOCK n) = true → 8 ≤ q.tBad → st = 6 → Does (.trackingLockLost n) s (fun t =>
      t.on (R.BRL_STN_SEQ_STATUS_TLOCK n) = false ∧ Logged s t 0x105 n [1, 6] 0 ∧ t.brl.loops = s.brl.loops ∧
      RegsBut s t [R.BRL_STN_SEQ_STATUS n] ∧ BitsBut s t (R.BRL_STN_SEQ_STATUS n) [R.BRL_STN_SEQ_STATUS_TLOCK n])) ∧
    (∀ pd, dueSlots s s.brl.tick = [] → s.on R.JSP_STATUS_ARMED = false → Does (.sampleTick pd [] []) s (fun t =>
      t = { s with brl := { s.brl with tick := (s.brl.tick + 1) % 400, seq := t.brl.seq, pds := t.brl.pds } } ∧
      (∀ m : Fin 8, t.brl.seq[m] = { s.brl.seq[m] with atStop := none }) ∧
      ∀ m : Fin 8, t.brl.pds[m] = (((pd[m.val]?).getD []) :: s.brl.pds[m]).take 16))

/-- The steps of a running sequence: waits released, times that pass, crossings, sweep ends, timeouts (R95, R202, R203, R204, R205, R207). What rests on log entries 7, 22, 23 is the model's choice and no rule of the spec. -/
def Obligations.SequenceSteps : Prop :=
  ∀ (s : State) (n : Fin 8), s.live = true →
    let q := s.brl.seq[n]
    let st := s.g (R.BRL_STN_SEQ_STATUS_STATE n)
    (st = 1 → s.g (R.WRS_STATUS_WRITING n) = 0 →
      (q.cmd = 2 → Does (.jumpWaitRelease n) s (fun t => t.g (R.BRL_STN_SEQ_STATUS_STATE n) = 7 ∧
        ∀ a, a ≠ R.BRL_STN_SEQ_STATUS n → (∀ l : Fin 68, a ≠ R.OPL_STATUS l ∧ a ≠ R.OPL_RATE l) → t.rd a = s.rd a)) ∧
      (q.cmd = 3 → Does (.jumpWaitRelease n) s (fun t => t.g (R.BRL_STN_SEQ_STATUS_STATE n) = 8))) ∧
    (st = 2 → q.saTaken = true →
      (q.since + 100000 * s.g (R.BRL_STN_SEQT_SA_SETTLE n) ≤ s.now → Does (.sequenceTimerExpiry n) s (fun t =>
        t.g (R.BRL_STN_SEQ_STATUS_STATE n) = 3 ∧ RegsBut s t [R.BRL_STN_SEQ_STATUS n] ∧ t = { s with regs := t.regs, brl := t.brl })) ∧
      (s.now < q.since + 100000 * s.g (R.BRL_STN_SEQT_SA_SETTLE n) → exec (.sequenceTimerExpiry n) s = .next s)) ∧
    (st = 7 → q.sub = 0 → q.since + 2500 * s.g (R.BRL_STN_JUMP_KICK_T n) ≤ s.now → Does (.sequenceTimerExpiry n) s (fun t =>
      (t.brl.seq[n]).sub = 1 ∧ (t.brl.seq[n]).kickEnd = s.now ∧ t = { s with brl := t.brl } ∧
      ∀ k, slotFor s n tyTRACK = some k → (t.brl.loops[k]).kick = 0)) ∧
    (st = 7 → q.count + 3 < 8 * q.arg.natAbs → ∀ d, Does (.sequenceCrossing n false d) s (fun t =>
      (t.brl.seq[n]).count = q.count + 1 ∧ t.brl.loops = s.brl.loops ∧ t = { s with brl := t.brl })) ∧
    (st = 5 → ∀ d, Does (.sequenceCrossing n false d) s (fun t => t.g (R.BRL_STN_SEQ_STATUS_STATE n) = 6 ∧
      (∀ k, slotFor s n tyTRACK = some k → (t.brl.loops[k]).drive = .closed ∧ (t.brl.loops[k]).seqBank = true) ∧
      RegsBut s t [R.BRL_STN_SEQ_STATUS n])) ∧
    (st = 3 → q.sub = 0 → ∀ k a b i len, slotFor s n tyFOCUS = some k → (s.brl.loops[k]).drive = .ramp a b i len → len ≤ i →
      Does (.focusSweepEnd n) s (fun t => (t.brl.seq[n]).sub = 1 ∧
        (t.brl.loops[k]).drive = .ramp (outMax s k) (outMin s k) 0 (400 * s.g (R.BRL_STN_SEQT_SWEEP_T n)) ∧
        t = { s with brl := t.brl })) ∧
    ((st = 7 ∨ st = 9) → q.sub ≠ 0 →
      (q.kickEnd + 100000 * s.g (R.BRL_STN_SEQT_JUMP_TIMEOUT n) ≤ s.now →
        exec (.jumpTimeout n) s = .next (disturbance (seqFails s n) n 0) ∧
        (seqFails s n).on (R.BRL_STN_SEQ_STATUS_FAILED n) = true ∧ (seqFails s n).g (R.BRL_STN_SEQ_STATUS_STATE n) = 0 ∧
        (seqFails s n).on (R.BRL_STN_SEQ_STATUS_FLOCK n) = false ∧ Logged s (seqFails s n) 0x105 n [0, st] 0 ∧
        (s.g (R.STN_STATUS_STATE n) ≠ 2 → s.g (R.STN_STATUS_STATE n) ≠ 3 → (s.stn[n]).task ≠ .wake → Does (.jumpTimeout n) s (fun t =>
          t.on (R.BRL_STN_SEQ_STATUS_FAILED n) = true ∧ t.g (R.BRL_STN_SEQ_STATUS_STATE n) = 0 ∧
          t.on (R.BRL_STN_SEQ_STATUS_FLOCK n) = false ∧ Logged s t 0x105 n [0, st] 0))) ∧
      (s.now < q.kickEnd + 100000 * s.g (R.BRL_STN_SEQT_JUMP_TIMEOUT n) → exec (.jumpTimeout n) s = .next s))

/-- A loop sample: the output stays within OUTMIN and OUTMAX, the integrator within ±ILIM, a frozen integrator stays (R188, R190, R191, R192, R194, R217). What rests on log entries 13, 15, 21 is the model's choice and no rule of the spec. -/
def Obligations.BerylSampleLaws : Prop :=
  ∀ (s : State) (k : Fin 96) (v ff e : Int) (frozen : Bool),
    (outMin s k ≤ outMax s k → outMin s k ≤ (clampOut s k v ff).1 ∧ (clampOut s k v ff).1 ≤ outMax s k) ∧
    (let lim := s.gi (R.BRL_BANK_ILIM_VALUE (bankOf s k) k) * 128
     0 ≤ lim →
      -lim ≤ (((compensate s k e frozen).2).brl.loops[k]).integ ∧ (((compensate s k e frozen).2).brl.loops[k]).integ ≤ lim ∧
      (frozen = true → -lim ≤ (s.brl.loops[k]).integ → (s.brl.loops[k]).integ ≤ lim →
        (((compensate s k e frozen).2).brl.loops[k]).integ = (s.brl.loops[k]).integ)) ∧
    (∀ q : Fin 5, bitOf (s.g (R.BRL_SLOT_CFG_BQ_EN k)) q.val = 0 → (biquad s k q v).1 = v ∧
      ((biquad s k q v).2.brl.loops[k]).bq[q] = ⟨0, 0, 0, 0⟩) ∧
    (∀ (n t : Nat), s.on (R.SPN_STATUS_ANGLE_VALID n) = false → (ffOf s n t).1 = 0)

/-- Jasper: ARM copies the configuration and starts, DISARM stops, FORCE triggers an armed capture, the end sets DONE (R214, R219). What rests on log entry 7 is the model's choice and no rule of the spec. -/
def Obligations.JasperCapture : Prop :=
  ∀ s : State, s.live = true →
    Does .jspArm s (fun t => t.on R.JSP_STATUS_ARMED = true ∧ t.on R.JSP_STATUS_TRIGGERED = false ∧ t.on R.JSP_STATUS_WRAPPED = false ∧
      t.jsp.ctrl = s.rd R.JSP_CTRL ∧ t.jsp.trig = s.rd R.JSP_TRIG ∧ t.jsp.level = s.rd R.JSP_TRIG_LEVEL ∧
      (∀ c : Fin 32, t.jsp.chans[c] = s.rd (R.JSP_CH c)) ∧ t.jsp.addr = 0 ∧ t.jsp.mem = s.jsp.mem ∧
      RegsBut s t [R.JSP_STATUS] ∧ t.on R.JSP_STATUS_DONE = s.on R.JSP_STATUS_DONE ∧ t = { s with regs := t.regs, jsp := t.jsp }) ∧
    Does .jspDisarm s (fun t => t.on R.JSP_STATUS_ARMED = false ∧ OnlyFields s t R.JSP_STATUS [R.JSP_STATUS_ARMED]) ∧
    Does .jspForce s (fun t => (s.on R.JSP_STATUS_ARMED = false → t = s) ∧
      (s.on R.JSP_STATUS_ARMED = true → s.on R.JSP_STATUS_TRIGGERED = false → t = { s with jsp := { s.jsp with due := true } })) ∧
    (s.on R.JSP_STATUS_ARMED = true → s.on R.JSP_STATUS_TRIGGERED = true → s.jsp.left = 0 → Does .jspCaptureDone s (fun t =>
      t.on R.JSP_STATUS_DONE = true ∧ t.on R.JSP_STATUS_ARMED = false ∧
      OnlyFields s t R.JSP_STATUS [R.JSP_STATUS_DONE, R.JSP_STATUS_ARMED]))

/-- Starting a spindle: where each step of R234 goes when its time has passed, and what the catch of R235 chooses (R234, R235, R237, R238). What rests on log entries 7, 18, 19 is the model's choice and no rule of the spec. -/
def Obligations.SpindleStartAndCatch : Prop :=
  ∀ (s : State) (n : Fin 8), s.live = true →
    let x := s.spn[n]
    let st := s.g (R.SPN_STATUS_STATE n)
    let goes := fun (c : Instr) (dest : Nat) (P : State → Prop) => Does c s (fun t => t.g (R.SPN_STATUS_STATE n) = dest ∧ P t ∧
      RegsBut s t ([R.SPN_STATUS n, R.SPN_SPEED n, R.SPN_CNT_CATCHES n, R.SPN_BUS_STATUS, R.WRS_STATUS n] ++
        (if chopUsable s then [] else stations.map (fun k => R.SPN_STATUS k))) ∧ t = { s with regs := t.regs, spn := t.spn, stn := t.stn })
    (st = 1 →
      (s.now < x.since + 20000000 → exec (.spinMeasureEnd n) s = .next s) ∧
      (x.since + 20000000 ≤ s.now →
        let v := sat24 (emfSpeed s n)
        let caught := fun t => Counted s t (R.SPN_CNT_CATCHES n) 1 ∧ t.gi (R.SPN_SPEED_SPEED n) = v
        ((v.natAbs : Int) < rpm 60 → goes (.spinMeasureEnd n) 2 (fun t =>
          t.rd (R.SPN_CNT_CATCHES n) = s.rd (R.SPN_CNT_CATCHES n) ∧ (t.spn[n]).bridge = true)) ∧
        (rpm 60 ≤ v → v < rpm (s.g (R.SPN_SPEEDS_IF_SPEED n)) → goes (.spinMeasureEnd n) 3 caught) ∧
        (rpm 60 ≤ v → rpm (s.g (R.SPN_SPEEDS_IF_SPEED n)) ≤ v → goes (.spinMeasureEnd n) 4 (fun t => caught t ∧
          (t.spn[n]).ref = (v : Rat) ∧ (t.spn[n]).obsSpeed = (v : Rat) ∧ (t.spn[n]).obsAngle = ((emfAngle s n : Nat) : Rat))) ∧
        (v ≤ -(rpm 60) → -v < rpm (s.g (R.SPN_OBS_OBS_MIN n)) → goes (.spinMeasureEnd n) 8 caught) ∧
        (v ≤ -(rpm 60) → rpm (s.g (R.SPN_OBS_OBS_MIN n)) ≤ -v → -v < rpm 600 → chopUsable s = true →
          goes (.spinMeasureEnd n) 5 caught) ∧
        (v ≤ -(rpm 600) → rpm (s.g (R.SPN_OBS_OBS_MIN n)) ≤ -v → chopUsable s = true → goes (.spinMeasureEnd n) 6 caught))) ∧
    (st = 2 → x.since + 5000000 * s.g (R.SPN_START_ALIGN_T n) ≤ s.now → goes (.spinAlignEnd n) 3 (fun t =>
      (t.spn[n]).ifFrom = 0 ∧ (t.spn[n]).elec = 0 ∧ (t.spn[n]).waitObs = false ∧ t.on (R.SPN_STATUS_ANGLE_VALID n) = false)) ∧
    (st = 3 → x.waitObs = false → x.since + 5000000 * s.g (R.SPN_START_IF_T n) ≤ s.now → Does (.spinIfRampEnd n) s (fun t =>
      (t.spn[n]).waitObs = true ∧ (t.spn[n]).since = s.now ∧ t = { s with spn := t.spn })) ∧
    (st = 3 → x.waitObs = true → x.since + 5000000 * s.g (R.SPN_START_OBS_T n) ≤ s.now → x.tries < 2 →
      goes (.spinObsTimeout n) 11 (fun t => (t.spn[n]).tries = x.tries + 1 ∧ (t.spn[n]).bridge = false)) ∧
    (st = 11 → x.since + 200000000 ≤ s.now → goes (.spinRetryEnd n) 1 (fun t => (t.spn[n]).bridge = false ∧
      t.on (R.SPN_STATUS_IN_REG n) = false))

/-- Short brakes, overcurrent, a lost observer, and a spindle in FAULT (R226, R228, R232, R236, R237, R239). What rests on log entries 7, 82 is the model's choice and no rule of the spec. -/
def Obligations.SpindleBrakingAndFaults : Prop :=
  ∀ (s : State) (n : Fin 8), s.live = true →
    let x := s.spn[n]
    let st := s.g (R.SPN_STATUS_STATE n)
    let atShort := (((s.gi (R.SPN_SPEED_SPEED n)).natAbs : Nat) : Int) ≤ rpm (s.g (R.SPN_SPEEDS_SHORT_SPEED n))
    ((st = 5 ∨ st = 6 ∨ st = 7) → (atShort → Does (.shortBrakeStart n) s (fun t => t.g (R.SPN_STATUS_STATE n) = 8 ∧
        (t.spn[n]).bridge = true ∧ RegsBut s t [R.SPN_STATUS n, R.SPN_BUS_STATUS])) ∧
      (¬ atShort → exec (.shortBrakeStart n) s = .next s)) ∧
    (st = 8 → x.since + 5000000 * s.g (R.SPN_START_SHORT_T n) ≤ s.now → x.thenAlign = false → x.thenFault = false →
      Does (.shortBrakeEnd n) s (fun t => t.g (R.SPN_STATUS_STATE n) = 0 ∧ (t.spn[n]).bridge = false ∧
        t.on (R.SPN_STATUS_ANGLE_VALID n) = s.on (R.SPN_STATUS_ANGLE_VALID n))) ∧
    (∀ i : Int, ((i.natAbs : Int) < cur24 (s.g (R.SPN_LIMIT_I_TRIP n)) → exec (.phaseOvercurrent n i) s = .next s) ∧
      (cur24 (s.g (R.SPN_LIMIT_I_TRIP n)) ≤ (i.natAbs : Int) → st ≠ 10 →
        exec (.phaseOvercurrent n i) s = .next (watchFaults (spFaults s n 1) n) ∧
        (spFaults s n 1).g (R.SPN_STATUS_STATE n) = 10 ∧ (spFaults s n 1).g (R.SPN_STATUS_FAULT_CAUSE n) = 1 ∧
        ((spFaults s n 1).spn[n]).bridge = false ∧ Logged s (spFaults s n 1) 0x106 n [1] 0 ∧
        (let stn := s.g (R.STN_STATUS_STATE n)
         (stn = 0 ∨ 6 < stn → Does (.phaseOvercurrent n i) s (fun t => t.g (R.SPN_STATUS_STATE n) = 10 ∧
           t.g (R.SPN_STATUS_FAULT_CAUSE n) = 1 ∧ (t.spn[n]).bridge = false ∧ Logged s t 0x106 n [1] 0)) ∧
         (1 ≤ stn → stn ≤ 6 → Does (.phaseOvercurrent n i) s (fun t => t.g (R.STN_STATUS_STATE n) = 8 ∧
           t.g (R.STN_STATUS_LAST_FAULT n) = 1))))) ∧
    (s.on (R.SPN_STATUS_ANGLE_VALID n) = true →
      -((8 * rpm (s.g (R.SPN_OBS_OBS_MIN n)) : Int) : Rat) < 10 * x.obsSpeed →
      10 * x.obsSpeed < ((8 * rpm (s.g (R.SPN_OBS_OBS_MIN n)) : Int) : Rat) →
      (st ≠ 4 → Does (.observerInvalid n) s (fun t => t.on (R.SPN_STATUS_ANGLE_VALID n) = false ∧
        t.on (R.SPN_STATUS_IN_REG n) = false ∧ t.on (R.WRS_STATUS_ROTOR_OK n) = false ∧ t.g (R.SPN_STATUS_STATE n) = st ∧
        RegsBut s t [R.SPN_STATUS n, R.WRS_STATUS n])) ∧
      (st = 4 → x.losses = [] → Does (.observerInvalid n) s (fun t => t.on (R.SPN_STATUS_ANGLE_VALID n) = false ∧
        t.g (R.SPN_STATUS_STATE n) = 1 ∧ Counted s t (R.SPN_CNT_OBS_LOST n) 1 ∧ (t.spn[n]).losses = [s.now] ∧
        (t.spn[n]).bridge = false)))

/-- PWM periods, encoder updates, the observer, the speed reference and CAV regulation (R224, R227, R228, R229, R230, R231, R232, R234, R239, R241, R244, R246). What rests on log entries 7, 8, 13, 18, 82 is the model's choice and no rule of the spec. -/
def Obligations.SpindleAngleAndSpeed : Prop :=
  ∀ (s : State) (n : Fin 8), s.live = true →
    let x := s.spn[n]
    let st := s.g (R.SPN_STATUS_STATE n)
    (∀ (ia ib ic : Int) (vbus : Nat) (va vb vc : Int),
      let w := voltageOf s n
      let ahead := w.2.2.quantR (elecTurn w.2.2 n x.rateOld 50000)
      let u := ahead.2
      let duty := if x.bridge && st != 8 then modulate u n w.1 w.2.1 ((x.elecOld : Int) + ahead.1) x.phase[0] x.phase[1] x.phase[2] else #v[0, 0, 0]
      let volts := phaseVolts u n duty vbus va vb vc
      let amps := clarke u n (phaseAmps u n ia) (phaseAmps u n ib) (phaseAmps u n ic)
      let r := ((observe u n volts amps).spn[n]).obsSpeed
      let rs : Rat := (s.g (R.SPN_MODEL_RS n) : Rat) / 1000
      let ls : Rat := (s.g (R.SPN_MODEL_LS n) : Rat) / 25
      let run := fun (P : State → Prop) => Does (.pwmPeriod n ia ib ic vbus va vb vc) s (fun t => P t ∧ (t.spn[n]).duty = duty ∧
        (t.spn[n]).obsSpeed = r ∧ (t.spn[n]).amps = amps ∧ (t.spn[n]).elecOld = x.elec ∧
        (t.spn[n]).emf = (volts.1 - rs * amps.1 - ls * (amps.1 - x.amps.1), volts.2 - rs * amps.2 - ls * (amps.2 - x.amps.2)) ∧
        (st = 1 → t.rd (R.SPN_SPEED n) = s.rd (R.SPN_SPEED n)) ∧
        (st ≠ 1 → r < ((t.gi (R.SPN_SPEED_SPEED n) : Int) : Rat) + 1 ∧ ((t.gi (R.SPN_SPEED_SPEED n) : Int) : Rat) < r + 1))
      ((-(rpm 8999) : Int) : Rat) ≤ r → r ≤ ((rpm 8999 : Int) : Rat) →
      ((st = 5 → chopUsable s = true) → (st = 6 ∨ st = 7 → chopUsable s = false) → run (fun t => t.g (R.SPN_STATUS_STATE n) = st ∧
        RegsBut s t [R.SPN_SPEED n, R.SPN_STATUS n, R.SPN_CNT_VSAT n])) ∧
      (st = 5 → chopUsable s = false → run (fun t => t.g (R.SPN_STATUS_STATE n) = 6 ∨ t.g (R.SPN_STATUS_STATE n) = 7)) ∧
      (st = 6 ∨ st = 7 → chopUsable s = true → x.lossTo600 = false → run (fun t => t.g (R.SPN_STATUS_STATE n) = 5))) ∧
    (s.on (R.SPN_STATUS_ANGLE_VALID n) = false → exec (.encoderUpdate n) s = .next s) ∧
    (s.on (R.SPN_STATUS_ANGLE_VALID n) = true → Does (.encoderUpdate n) s (fun t => RegsBut s t [R.SPN_ANGLE n] ∧
      t.g (R.SPN_ANGLE_EPOCH n) = s.g (R.SPN_ANGLE_EPOCH n) ∧ t = { s with regs := t.regs, spn := t.spn } ∧
      (0 < x.obsSpeed →
        0 ≤ toSigned 16 ((((t.g (R.SPN_ANGLE_ANGLE n) : Int) - s.g (R.SPN_ANGLE_ANGLE n)) % 65536).toNat)))) ∧
    (∀ t0, s.on (R.SPN_STATUS_ANGLE_VALID n) = false → x.errLow = some t0 → t0 + 2000000 ≤ s.now → turnsAt s n (rpm (s.g (R.SPN_OBS_OBS_MIN n))) = true →
      s.on R.SPN_BUS_STATUS_TRIPPED = false →
      ((st = 2 ∨ (st = 3 ∧ x.waitObs = false)) → exec (.observerValid n) s = .next s) ∧
      (st = 3 → x.waitObs = true → exec (.observerValid n) s = .next (disturbance (angleValid (runFrom s n) n) n 11) ∧
        (runFrom s n).g (R.SPN_STATUS_STATE n) = 4) ∧
      (st ≠ 2 → st ≠ 3 → exec (.observerValid n) s = .next (disturbance (angleValid s n) n 11)) ∧
      (st ≠ 2 → st ≠ 3 → s.g (R.STN_STATUS_STATE n) ≠ 2 → s.g (R.STN_STATUS_STATE n) ≠ 3 → (s.stn[n]).task ≠ .wake → Does (.observerValid n) s (fun t =>
        t.on (R.SPN_STATUS_ANGLE_VALID n) = true ∧ t.g (R.SPN_ANGLE_EPOCH n) = (s.g (R.SPN_ANGLE_EPOCH n) + 1) % 256 ∧
        t.g (R.SPN_ANGLE_ANGLE n) = 0 ∧ t.g (R.SPN_STATUS_STATE n) = st)) ∧
      (let t := angleValid s n
       t.on (R.SPN_STATUS_ANGLE_VALID n) = true ∧ t.g (R.SPN_ANGLE_EPOCH n) = (s.g (R.SPN_ANGLE_EPOCH n) + 1) % 256 ∧
       t.g (R.SPN_ANGLE_ANGLE n) = 0 ∧ ∀ (k : Fin 2) (i : Fin 512), t.rd (R.BRL_FF_ENTRY n k i) = 0#32)) ∧
    (st = 4 → Does (.speedRefUpdate n) s (fun t => t = { s with spn := t.spn } ∧
      (let r := (t.spn[n]).ref
       let goal : Rat := ((setPoint s n : Int) : Rat)
       let rate := fun (v : Nat) => ((512 * max 1 v : Nat) : Rat) / 10000
       (x.ref ≤ goal → x.ref ≤ r ∧ r ≤ goal ∧ r ≤ x.ref + rate (s.g (R.SPN_RAMP_ACCEL n))) ∧
       (goal ≤ x.ref → goal ≤ r ∧ r ≤ x.ref ∧ x.ref ≤ r + rate (s.g (R.SPN_RAMP_DECEL n)))))) ∧
    (∀ t0, x.inBand = some t0 → s.on (R.SPN_STATUS_IN_REG n) = false → st = 4 → s.on (R.SPN_STATUS_ANGLE_VALID n) = true →
      (t0 + 10000000 ≤ s.now → exec (.cavRegulationGained n) s = .next (stnRun (s.u (R.SPN_STATUS_IN_REG n) 1) n) ∧
        ((s.stn[n]).task = .none → Does (.cavRegulationGained n) s (fun t => t.on (R.SPN_STATUS_IN_REG n) = true ∧
          OnlyFields s t (R.SPN_STATUS n) [R.SPN_STATUS_IN_REG n]))) ∧
      (s.now < t0 + 10000000 → exec (.cavRegulationGained n) s = .next s)) ∧
    (∀ t0, x.offBand = some t0 → t0 + 1000000 ≤ s.now → Does (.cavRegulationLost n) s (fun t =>
      t.on (R.SPN_STATUS_IN_REG n) = false ∧ OnlyFields s t (R.SPN_STATUS n) [R.SPN_STATUS_IN_REG n]))

/-- The bus unit: samples, chopper, regeneration limit, trip and release, safe speed (R240, R241, R242, R243, R294). What rests on log entry 7 is the model's choice and no rule of the spec. -/
def Obligations.MotorBusUnit : Prop :=
  ∀ s : State, s.live = true →
    (∀ v i : Nat, v < 4096 → i < 4096 → Does (.busSample v i) s (fun t =>
      t.g R.SPN_BUS_VOLT_VOLT = v ∧ t.g R.SPN_BUS_VOLT_PEAK = max v (s.g R.SPN_BUS_VOLT_PEAK) ∧ t.g R.SPN_BUS_CHOP_CURRENT = i ∧
      (v < 1800 → t.on R.SPN_BUS_STATUS_UV = true) ∧ (1850 ≤ v → t.on R.SPN_BUS_STATUS_UV = false) ∧
      (chopControlled s = true → 2700 ≤ v → t.on R.SPN_BUS_STATUS_CHOP_ON = true) ∧
      (v ≤ 2650 → s.bus.chopOn + 20000 ≤ s.now → t.on R.SPN_BUS_STATUS_CHOP_ON = false) ∧
      (s.on R.SPN_BUS_STATUS_REGEN_LIMIT = false → 2850 ≤ v → t.on R.SPN_BUS_STATUS_REGEN_LIMIT = true ∧ Counted s t R.SPN_BUS_CNT_REGEN 1) ∧
      (v ≤ 2800 → t.on R.SPN_BUS_STATUS_REGEN_LIMIT = false) ∧
      RegsBut s t [R.SPN_BUS_VOLT, R.SPN_BUS_CHOP, R.SPN_BUS_STATUS, R.SPN_BUS_CNT_CHOP, R.SPN_BUS_CNT_REGEN] ∧
      t = { s with regs := t.regs, bus := t.bus })) ∧
    (∀ c : Nat, s.on R.SPN_BUS_STATUS_CHOP_FAULT = false →
      ((c = 1 ∧ s.on R.SPN_BUS_STATUS_CHOP_ON = true ∧ s.bus.drawn = false ∧ s.bus.chopOn + 20000 ≤ s.now) ∨
       (c = 2 ∧ s.on R.SPN_BUS_STATUS_CHOP_ON = true ∧ ∃ p q, s.bus.rise.head? = some p ∧ s.bus.rise.getLast? = some q ∧
          p.1 + 1000000 ≤ q.1 ∧ p.2 + 50 < q.2) ∨
       (c = 3 ∧ s.on R.SPN_BUS_STATUS_CHOP_ON = false ∧ ∃ t0, s.bus.stuck = some t0 ∧ t0 + 100000 ≤ s.now)) →
      Does (.chopperFault c) s (fun t => t.on R.SPN_BUS_STATUS_CHOP_FAULT = true ∧ t.g R.SPN_BUS_STATUS_CHOP_CAUSE = c ∧
        (c ≠ 3 → t.on R.SPN_BUS_STATUS_CHOP_ON = false) ∧
        Logged s t 0x10B 0xFF [c, s.g R.SPN_BUS_VOLT_VOLT] 0 ∧ RegsBut s t [R.SPN_BUS_STATUS])) ∧
    (∀ c : Nat, chopFails s c = false → exec (.chopperFault c) s = .next s) ∧
    Does .chopperClear s (fun t => t.on R.SPN_BUS_STATUS_CHOP_FAULT = false ∧ t.g R.SPN_BUS_STATUS_CHOP_CAUSE = 0 ∧
      OnlyFields s t R.SPN_BUS_STATUS [R.SPN_BUS_STATUS_CHOP_FAULT, R.SPN_BUS_STATUS_CHOP_CAUSE]) ∧
    (∀ v : Nat, (s.on R.SPN_BUS_STATUS_TRIPPED = true → exec (.busTrip v) s = .next s) ∧
      (s.on R.SPN_BUS_STATUS_TRIPPED = false → Does (.busTrip v) s (fun t => t.on R.SPN_BUS_STATUS_TRIPPED = true ∧
        Counted s t R.SPN_BUS_CNT_TRIP 1 ∧
        Logged s t 0x10A 0xFF [max v (s.g R.SPN_BUS_VOLT_VOLT), s.g R.SPN_BUS_STATUS_LOSS_QUEUE] 0 ∧
        ∀ n : Fin 8, t.on (R.SPN_STATUS_ANGLE_VALID n) = false ∧
          (s.g (R.SPN_STATUS_STATE n) ≠ 10 → t.g (R.SPN_STATUS_STATE n) = 9 ∧ (t.spn[n]).bridge = false)))) ∧
    (∀ t0, s.bus.below = some t0 → s.on R.SPN_BUS_STATUS_TRIPPED = true →
      (s.now < t0 + 10000000 → exec .busTripRelease s = .next s) ∧
      (t0 + 10000000 ≤ s.now → s.on R.SPN_BUS_CTRL_TRIP_RESTART = false → Does .busTripRelease s (fun t =>
        t.on R.SPN_BUS_STATUS_TRIPPED = false ∧
        ∀ n : Fin 8, s.g (R.SPN_STATUS_STATE n) = 9 → t.g (R.SPN_STATUS_STATE n) = 0))) ∧
    (∀ n : Fin 8, ((s.spn[n]).bridge = true → exec (.safeSpeedMeasure n) s = .next s) ∧
      ((s.spn[n]).bridge = false → Does (.safeSpeedMeasure n) s (fun t =>
        (t.stn[n]).slow = decide (((emfSpeed s n).natAbs : Int) < rpm 60) ∧ RegsBut s t [R.STN_STATUS n])))

/-- A sled command in a state not named for it sets REFUSED and has no other effect (R252, R254, R262, R266, R271). What rests on log entry 25 is the model's choice and no rule of the spec. -/
def Obligations.SledCommandsRefused : Prop :=
  ∀ (s : State) (n : Fin 8) (sync : Bool), s.live = true →
    let st := s.g (R.SLD_STATUS_STATE n)
    let refused := fun (c : Instr) => Does c s (fun t => t.on (R.SLD_STATUS_REFUSED n) = true ∧
      OnlyFields s t (R.SLD_STATUS n) [R.SLD_STATUS_REFUSED n])
    (st ≠ 2 → st ≠ 3 → st ≠ 4 → refused (.sldMove n sync)) ∧
    (targetOk s n (s.gi (R.SLD_MOVE_TARGET_POS n)) = false → refused (.sldMove n sync)) ∧
    (st ≠ 3 → st ≠ 4 → st ≠ 6 → st ≠ 7 → refused (.sldStop n)) ∧
    ((st = 0 ∨ st = 8) → refused (.sldHalt n)) ∧
    (st ≠ 1 → st ≠ 2 → refused (.sldHome n) ∧ refused (.sldSetPos n) ∧ refused (.sldRelease n)) ∧
    (st ≠ 2 ∨ s.on (R.SPN_STATUS_ANGLE_VALID n) = false ∨ gearBlocked s n (s.gi (R.SLD_GEAR_RATIO_RATIO n)) = true → refused (.sldEngage n)) ∧
    (st ≠ 7 → refused (.sldArmChange n) ∧ refused (.sldDisengage n)) ∧
    (s.gi (R.SLD_GEAR_ACTIVE_RATIO n) = 0 ∨ s.on (R.SLD_STATUS_CHANGE_ARMED n) = true ∨
      (0 < s.gi (R.SLD_GEAR_ACTIVE_RATIO n) ∧ s.gi (R.SLD_GEAR_CHANGE_POS n) * q40 ≤ (s.sld[n]).geared) ∨
      (s.gi (R.SLD_GEAR_ACTIVE_RATIO n) < 0 ∧ (s.sld[n]).geared ≤ s.gi (R.SLD_GEAR_CHANGE_POS n) * q40) → refused (.sldArmChange n)) ∧
    (s.on R.SPN_BUS_STATUS_TRIPPED = true ∨ (st ≠ 0 ∧ (st = 8 → s.g (R.SLD_STATUS_FAULT_CAUSE n) ≠ 0)) → refused (.sldEnergise n)) ∧
    (let u := s.u (R.SLD_STATUS_FAULT_CAUSE n) 0
     exec (.sldClear n 1#4 sync) s = exec (.sldMove n sync) u ∧ exec (.sldClear n 10#4 sync) s = exec (.sldEnergise n) u ∧
     exec (.sldClear n 0#4 sync) s = .next u)

/-- What each accepted sled command does (R252, R253, R257, R258, R259, R262, R270). What rests on log entries 25, 26 is the model's choice and no rule of the spec. -/
def Obligations.SledCommandsRun : Prop :=
  ∀ (s : State) (n : Fin 8), s.live = true →
    let x := s.sld[n]
    let st := s.g (R.SLD_STATUS_STATE n)
    let tgt := s.gi (R.SLD_MOVE_TARGET_POS n)
    let stat := R.SLD_STATUS n
    let goes := fun (c : Instr) (dest : Nat) (l : List Nat) (P : State → Prop) => Does c s (fun t =>
      t.g (R.SLD_STATUS_STATE n) = dest ∧ P t ∧ RegsBut s t l)
    let starts := fun (c : Instr) (dst : Int) => Does c s (fun t => t.g (R.SLD_STATUS_STATE n) = 3 ∧ (t.sld[n]).target = dst ∧
      (t.sld[n]).fresh = true ∧ (t.sld[n]).nextTarget = none ∧ (t.sld[n]).pos = x.pos ∧
      ∀ a, a ≠ stat → (∀ l : Fin 68, a ≠ R.OPL_STATUS l ∧ a ≠ R.OPL_RATE l) → t.rd a = s.rd a)
    let now := s.stamp (stationDomain n)
    (targetOk s n tgt = true →
      (st = 2 → starts (.sldMove n false) tgt ∧
        goes (.sldMove n true) 4 [stat] (fun t => (t.sld[n]).target = tgt ∧
          (s.g64 (R.SLD_START_TIME_LO n) < now → t.on (R.SLD_STATUS_LATE_START n) = true) ∧
          (now ≤ s.g64 (R.SLD_START_TIME_LO n) → t.g (R.SLD_STATUS_LATE_START n) = s.g (R.SLD_STATUS_LATE_START n)))) ∧
      (st = 3 → ∀ sync, goes (.sldMove n sync) 3 [] (fun t => (t.sld[n]).nextTarget = some tgt))) ∧
    (st = 4 → goes (.sldStop n) 2 [stat] (fun t => (t.sld[n]).vel = 0)) ∧
    (st = 3 → x.vel ≠ 0 → goes (.sldStop n) 5 [stat] (fun t => (t.sld[n]).pos = x.pos ∧ (t.sld[n]).vel = x.vel)) ∧
    (st ≠ 0 → st ≠ 8 → goes (.sldHalt n) st [] (fun t => (t.sld[n]).halt = true)) ∧
    ((st = 1 ∨ st = 2) →
      goes (.sldHome n) 6 [stat] (fun t => t.on (R.SLD_STATUS_REFERENCED n) = false ∧
        (t.sld[n]).homeStep = (if s.on (R.SLD_STATUS_HOME n) then 3 else 1)) ∧
      goes (.sldSetPos n) 2 [stat, R.SLD_POS n, R.SLD_VEL n] (fun t => t.on (R.SLD_STATUS_REFERENCED n) = true ∧ (t.sld[n]).cmd = tgt * q40 ∧
        (t.sld[n]).pos = (tgt : Rat)) ∧
      goes (.sldRelease n) 0 [stat, R.SLD_POS n, R.SLD_VEL n] (fun t => t.on (R.SLD_STATUS_REFERENCED n) = false ∧ (t.sld[n]).cmd = x.cmd)) ∧
    (st = 2 → s.on (R.SPN_STATUS_ANGLE_VALID n) = true → gearBlocked s n (s.gi (R.SLD_GEAR_RATIO_RATIO n)) = false → goes (.sldEngage n) 7 [stat, R.SLD_GEAR_ACTIVE n] (fun t =>
      t.g (R.SLD_GEAR_ACTIVE_RATIO n) = s.g (R.SLD_GEAR_RATIO_RATIO n) ∧ (t.sld[n]).geared = x.cmd)) ∧
    (st = 7 → 0 < s.gi (R.SLD_GEAR_ACTIVE_RATIO n) → x.geared < s.gi (R.SLD_GEAR_CHANGE_POS n) * q40 →
      s.on (R.SLD_STATUS_CHANGE_ARMED n) = false → goes (.sldArmChange n) 7 [stat] (fun t =>
        t.on (R.SLD_STATUS_CHANGE_ARMED n) = true ∧ (t.sld[n]).nextRatio = s.gi (R.SLD_GEAR_RATIO_RATIO n) ∧
        (t.sld[n]).changePos = s.gi (R.SLD_GEAR_CHANGE_POS n) * q40)) ∧
    (st = 7 → goes (.sldDisengage n) 2 [stat, R.SLD_POS n, R.SLD_VEL n] (fun t => (t.sld[n]).cmd = x.cmd ∧ (t.sld[n]).vel = 0)) ∧
    (st = 0 → s.on R.SPN_BUS_STATUS_TRIPPED = false → goes (.sldEnergise n) 1 [stat] (fun t => (t.sld[n]).cmd = x.cmd ∧ t.on (R.SLD_STATUS_REFERENCED n) = false)) ∧
    (st = 4 → (now < s.g64 (R.SLD_START_TIME_LO n) → exec (.armedMoveStart n) s = .next s) ∧
      (s.g64 (R.SLD_START_TIME_LO n) ≤ now → targetOk s n x.target = true → starts (.armedMoveStart n) x.target) ∧
      (s.g64 (R.SLD_START_TIME_LO n) ≤ now → targetOk s n x.target = false →
        goes (.armedMoveStart n) 2 [stat] (fun t => t.on (R.SLD_STATUS_REFUSED n) = true)))

/-- A move stops on its target: no tick of the profile passes it, in either direction (R253, R255, R256, R266, R272). What rests on log entries 7, 26 is the model's choice and no rule of the spec. -/
def Obligations.SledProfileNeverPasses : Prop :=
  ∀ (s : State) (n : Fin 8), s.live = true → 0 < s.g (R.SLD_ACCEL_DECEL n) →
    let x := s.sld[n]
    let s1 := s.sldU n (fun x => { x with prev := x.pos, subs := 0, fresh := false, moveNew := false, moveFrom := none })
    let s2 := s.sldU n (fun x => { x with prev := x.pos, subs := 0, halt := false, moveNew := false, moveFrom := none })
    let lim := fun (cause : Nat) (at' : Int) =>
      ((s.bump (R.SLD_CNT_LIMIT n)).log 0x108 n [cause, ofSigned 32 at']).sldU n (fun x => { x with limit := none })
    let cnt := (s.bump (R.SLD_CNT_MOVES n)).sldU n (fun x => { x with fresh := false })
    let u := profileStep s1 n x.target (s.g (R.SLD_VMAX_VMAX n))
    (s.g (R.SLD_STATUS_STATE n) = 3 → x.halt = false → x.nextTarget = none → x.limit = none → x.fresh = false →
      exec (.sledProfileTick n) s = .next (if (u.sld[n]).vel = 0 ∧ (u.sld[n]).pos = (x.target : Rat) then stnRun (slRest u n slIDLE) n else u)) ∧
    (x.pos ≤ (x.target : Rat) → x.pos ≤ (u.sld[n]).pos ∧ (u.sld[n]).pos ≤ (x.target : Rat)) ∧
    ((x.target : Rat) ≤ x.pos → (x.target : Rat) ≤ (u.sld[n]).pos ∧ (u.sld[n]).pos ≤ x.pos) ∧
    RegsBut s u [R.SLD_STATUS n, R.SLD_CNT_CLAMPED n] ∧
    (x.halt = true → x.limit = none → exec (.sledProfileTick n) s = .next (stnRun (hardStop s2 n) n) ∧
      (x.vel = 0 → s.on (R.SLD_STATUS_REFERENCED n) = true → (hardStop s2 n).g (R.SLD_STATUS_STATE n) = 2) ∧
      (hardStop s2 n).sld[n].vel = 0) ∧
    (∀ (cause : Nat) (at' : Int), x.limit = some (cause, at') → Counted s (lim cause at') (R.SLD_CNT_LIMIT n) 1 ∧
      Logged s (lim cause at') 0x108 n [cause, ofSigned 32 at'] 0 ∧ exec (.sledProfileTick n) s = exec (.sledProfileTick n) (lim cause at')) ∧
    (s.g (R.SLD_STATUS_STATE n) = 3 → x.halt = false → x.limit = none → x.fresh = true → Counted s cnt (R.SLD_CNT_MOVES n) 1 ∧
      exec (.sledProfileTick n) s = exec (.sledProfileTick n) cnt)

/-- Position updates, gearing, currents, overcurrent, hold current, switches and chatter (R249, R250, R253, R261, R264, R265, R266, R273). What rests on log entries 7, 25, 26 is the model's choice and no rule of the spec. -/
def Obligations.SledUpdatesAndSwitches : Prop :=
  ∀ (s : State) (n : Fin 8), s.live = true →
    let x := s.sld[n]
    let st := s.g (R.SLD_STATUS_STATE n)
    (st ≠ 7 → Does (.sledPositionUpdate n) s (fun t => RegsBut s t [R.SLD_POS n, R.SLD_VEL n] ∧ (t.sld[n]).subs = min 20 (x.subs + 1) ∧
      (20 ≤ x.subs + 1 → (t.sld[n]).cmd = (x.pos * q40).floor))) ∧
    (st = 7 → s.on (R.SPN_STATUS_ANGLE_VALID n) = false → s.on (R.SLD_STATUS_CHANGE_ARMED n) = false → Does (.sledPositionUpdate n) s (fun t =>
        t.g (R.SLD_STATUS_STATE n) = 7 ∧ (t.sld[n]).geared = x.geared ∧ RegsBut s t [R.SLD_POS n, R.SLD_VEL n])) ∧
    (∀ a b : Int, Does (.sledCurrentPeriod n a b) s (fun t => t = { s with sld := t.sld } ∧ (t.sld[n]).cmd = x.cmd ∧
      ((st = 0 ∨ st = 8) → (t.sld[n]).outA = 0 ∧ (t.sld[n]).outB = 0 ∧ (t.sld[n]).pwm = #v[0, 0, 0, 0]))) ∧
    (∀ i : Int, (i.natAbs < 32768 → exec (.sledOvercurrent n i) s = .next s) ∧
      (32768 ≤ i.natAbs → st ≠ 0 → st ≠ 8 → exec (.sledOvercurrent n i) s = .next (watchFaults (slFaults s n 1) n) ∧
        (slFaults s n 1).g (R.SLD_STATUS_STATE n) = 8 ∧ (slFaults s n 1).on (R.SLD_STATUS_REFERENCED n) = false ∧
        (slFaults s n 1).g (R.SLD_STATUS_FAULT_CAUSE n) = 1 ∧ Logged s (slFaults s n 1) 0x107 n [1] 0 ∧
        (s.g (R.SPN_STATUS_STATE n) ≠ 10 →
          let stn := s.g (R.STN_STATUS_STATE n)
          (stn = 0 ∨ 6 < stn → Does (.sledOvercurrent n i) s (fun t => t.g (R.SLD_STATUS_STATE n) = 8 ∧
            t.on (R.SLD_STATUS_REFERENCED n) = false ∧ t.g (R.SLD_STATUS_FAULT_CAUSE n) = 1 ∧ Logged s t 0x107 n [1] 0)) ∧
          (1 ≤ stn → stn ≤ 6 → Does (.sledOvercurrent n i) s (fun t => t.g (R.STN_STATUS_STATE n) = 8 ∧
            t.g (R.STN_STATUS_LAST_FAULT n) = 2))))) ∧
    ((st = 1 ∨ st = 2 ∨ st = 4) → x.restFrom + 10000000 * s.g (R.SLD_CURPI_HOLD_DELAY n) ≤ s.now → Does (.sledHoldCurrent n) s (fun t =>
      (t.sld[n]).holding = true ∧ t = { s with sld := t.sld })) ∧
    (∀ (level : Bool) (ago : Nat), (∀ endSw, ago < qualTime s n → exec (.switchQualified n endSw level ago) s = .next s) ∧
      (qualTime s n ≤ ago → bitOf (s.g (R.SLD_SWITCH_EN n)) 1 = 1 →
      ((st = 1 ∨ st = 2) → Does (.switchQualified n true level ago) s (fun t => (t.on (R.SLD_STATUS_END n) = true ↔
          (level = true ↔ bitOf (s.g (R.SLD_SWITCH_POL n)) 1 ≠ 1)) ∧ (t.sld[n]).endLevel = some level ∧
        t.on (R.SLD_STATUS_HOME n) = switchActive s n 0 x.homeLevel ∧
        OnlyFields s { t with sld := s.sld } (R.SLD_STATUS n) [R.SLD_STATUS_HOME n, R.SLD_STATUS_END n])) ∧
      (st = 3 → 0 < x.vel → x.fresh = false → x.nextTarget = none → s.on (R.SLD_STATUS_END n) = false →
        (level = true ↔ bitOf (s.g (R.SLD_SWITCH_POL n)) 1 ≠ 1) → s.on (R.SLD_SWITCH_LIMIT_STOP n) = true →
        Does (.switchQualified n true level ago) s (fun t => t.on (R.SLD_STATUS_END n) = true ∧ t.g (R.SLD_STATUS_STATE n) = 5 ∧
          (t.sld[n]).limit = some (2, x.cmd / q40) ∧ (t.sld[n]).limitRamp = true ∧ RegsBut s t [R.SLD_STATUS n])))) ∧
    (∀ (endSw : Bool) (k : Nat), (k ≤ 8 → exec (.homeChatter n endSw k) s = .next s) ∧
      (8 < k → st ≠ 6 → Does (.homeChatter n endSw k) s (fun t => Counted s t (R.SLD_CNT_CHATTER n) 1 ∧
        Logged s t 0x109 n [if endSw then 1 else 0, k] 0 ∧ RegsBut s t [R.SLD_CNT_CHATTER n])))

/-- Every station order is answered: NOT_OWNER, SUPERSEDED, REFUSED or SUCCESS with its effect, and the answer touches no other register (R276, R292, R293, R296). What rests on log entry 70 is the model's choice and no rule of the spec. -/
def Obligations.StationOrdersAnswered : Prop :=
  ∀ (s : State) (n : Fin 8) (m : Master) (ret : Bool) (rivals : List Rival) (img : List Byte), s.live = true →
    let say := fun (t : State) (r : Nat) => t.us [(R.STN_CMD_RESULT_SEQ n, (t.g (R.STN_CMD_RESULT_SEQ n) + 1) % 256),
      (R.STN_CMD_RESULT_MASTER n, masterCode m), (R.STN_CMD_RESULT_RESULT n, r)]
    let orders : List (Instr × Nat × Bool × List Byte) := [(.stationMount n m rivals img, 1, false, img),
      (.stationRelease n m ret rivals, 2, ret, []), (.stationPark n m rivals, 3, false, []), (.stationWake n m rivals, 4, false, []),
      (.stationOffline n m ret rivals, 5, ret, []), (.stationOnline n m rivals img, 6, false, img),
      (.stationReset n m rivals img, 7, false, img)]
    let st := s.g (R.STN_STATUS_STATE n)
    let here := s.on (R.STN_STATUS_DISC_PRESENT n) = true
    (∀ o ∈ orders, (isOwner s n m = false → exec o.1 s = .next (say s 3)) ∧
      (isOwner s n m = true → rivals.any (fun r => orderBeats s n r m o.2.1) = true → exec o.1 s = .next (say s 2)) ∧
      (isOwner s n m = true → rivals.any (fun r => orderBeats s n r m o.2.1) = false →
        (orderEffect s n o.2.1 o.2.2.1 o.2.2.2 = none → exec o.1 s = .next (say s 4)) ∧
        (∀ t, orderEffect s n o.2.1 o.2.2.1 o.2.2.2 = some t → exec o.1 s = .next (say t 1)))) ∧
    (∀ (t : State) (r : Nat), r < 8 → (say t r).g (R.STN_CMD_RESULT_RESULT n) = r ∧ OnlyRegs t (say t r) [R.STN_CMD_RESULT n] ∧
      (say t r).g (R.STN_CMD_RESULT_SEQ n) = (t.g (R.STN_CMD_RESULT_SEQ n) + 1) % 256) ∧
    ((orderEffect s n 1 ret img).isSome ↔ st = 0 ∧ here) ∧
    ((orderEffect s n 2 ret img).isSome ↔ st ≠ 0 ∧ st ≠ 6 ∧ st ≠ 9) ∧
    ((orderEffect s n 3 ret img).isSome ↔ st = 3 ∨ st = 4) ∧
    ((orderEffect s n 4 ret img).isSome ↔ st = 4 ∨ st = 5) ∧
    ((orderEffect s n 5 ret img).isSome ↔ st ≠ 9) ∧
    ((orderEffect s n 6 ret img).isSome ↔ st = 9) ∧
    ((orderEffect s n 7 ret img).isSome ↔ st = 7 ∨ st = 8)

/-- What the accepted orders do: parking, releasing, going offline and online, mounting, resetting (R274, R276, R278, R284, R285, R288, R289, R290, R291). What rests on log entries 24, 27, 83, 84 is the model's choice and no rule of the spec. -/
def Obligations.StationOrderEffects : Prop :=
  ∀ (s : State) (n : Fin 8) (ret : Bool) (img : List Byte),
    let st := s.g (R.STN_STATUS_STATE n)
    let becomes := fun (cmd : Nat) (P : State → Prop) => ∃ t, orderEffect s n cmd ret img = some t ∧ P t
    let inSt := fun (t : State) (k : Nat) => t.g (R.STN_STATUS_STATE n) = k
    (st = 3 → hasWork s n = true → becomes 3 (fun t => t = s)) ∧
    (st = 3 → hasWork s n = false → s.g (R.WRS_STATUS_WRITING n) = 0 → (s.cal[n]).run = none → becomes 3 (fun t => inSt t 4 ∧
      t.on (R.BRL_STN_SEQ_STATUS_FLOCK n) = false ∧ t.on (R.BRL_STN_SEQ_STATUS_TLOCK n) = false ∧
      t.g (R.BRL_STN_SEQ_STATUS_STATE n) = 10 ∧ Logged s t 0x101 n [3, 4, 0] 0)) ∧
    (st = 4 → hasWork s n = false → s.g (R.SPN_STATUS_STATE n) = 0 → becomes 3 (fun t => inSt t 5 ∧ t.g (R.SPN_CTRL_SPEED_SEL n) = 0 ∧
      ((s.stn[n]).task = .wake → t.g (R.BRL_STN_SEQ_STATUS_STATE n) = 10))) ∧
    ((st = 4 ∨ st = 5) → (s.stn[n]).task ≠ .wake → becomes 4 (fun t => inSt t st ∧ (t.stn[n]).task = .wake ∧
      Counted s t (R.STN_CNT_WAKES n) 1)) ∧
    (st = 3 → s.g (R.WRS_STATUS_WRITING n) ≠ 0 → becomes 2 (fun t => inSt t 6 ∧ (t.stn[n]).task = .toRelease ∧
        (t.stn[n]).retire = ret ∧ (t.stn[n]).toOffline = false ∧ t.g (R.WRS_STATUS_WRITING n) = s.g (R.WRS_STATUS_WRITING n)) ∧
      becomes 5 (fun t => inSt t 6 ∧ (t.stn[n]).toOffline = true)) ∧
    (st = 6 → becomes 5 (fun t => (t.stn[n]).toOffline = true ∧ (t.stn[n]).retire = ret ∧ t = { s with stn := t.stn })) ∧
    (st = 9 → s.on (R.STN_STATUS_DISC_PRESENT n) = false → becomes 6 (fun t => inSt t 0 ∧ t.on (R.STN_STATUS_SAFE n) = false ∧
      t.on (R.WRS_STATUS_LINK_ACTIVE n) = true)) ∧
    (st = 0 → s.on (R.STN_STATUS_DISC_PRESENT n) = true →
      let faulty := fun (k : Nat) => becomes 1 (fun t => inSt t 8 ∧ t.g (R.STN_STATUS_LAST_FAULT n) = k)
      (s.g (R.SPN_STATUS_STATE n) = 10 → faulty 1) ∧
      (s.g (R.SPN_STATUS_STATE n) ≠ 10 → s.g (R.SLD_STATUS_STATE n) = 8 → faulty 2) ∧
      (s.g (R.SPN_STATUS_STATE n) ≠ 10 → s.g (R.SLD_STATUS_STATE n) ≠ 8 → s.g (R.WRS_STATUS_SUSPENDED n) ≠ 15 →
        s.on (R.SLD_STATUS_REFERENCED n) = false ∨ (s.g (R.SLD_STATUS_STATE n) = 2 ∧ targetOk s n (s.g (R.STN_MOUNT_MOUNT_POS n)) = true) →
        becomes 1 (fun t => inSt t 1 ∧ t.g (R.STN_STATUS_MOUNT_PHASE n) = 1))) ∧
    (st = 8 → s.on (R.STN_STATUS_DISC_PRESENT n) = false → becomes 7 (fun t => inSt t 0 ∧ t.g (R.STN_STATUS_LAST_FAULT n) = 0 ∧
      t.g (R.WRS_STATUS_SUSPENDED n) = 0 ∧ t.g (R.STN_STATUS_DISC_KIND n) = 0))

/-- Disc presence, the steps of a mount, and their timeouts (R276, R277, R278, R279, R281, R288, R295). What rests on log entries 7, 24, 28 is the model's choice and no rule of the spec. -/
def Obligations.StationMountSteps : Prop :=
  ∀ (s : State) (n : Fin 8) (img : List Byte), s.live = true →
    let x := s.stn[n]
    let st := s.g (R.STN_STATUS_STATE n)
    let ph := s.g (R.STN_STATUS_MOUNT_PHASE n)
    (∀ (level : Bool) (ago : Nat), ago < 1000000 * s.g (R.STN_MOUNT_DISC_QUAL n) → exec (.discPresentQualified n level ago img) s = .next s) ∧
    (∀ ago : Nat, 1000000 * s.g (R.STN_MOUNT_DISC_QUAL n) ≤ ago →
    (s.on (R.STN_CFG_AUTO_MOUNT n) = false → x.resetAt ≠ some s.now → Does (.discPresentQualified n true ago img) s (fun t =>
      t.on (R.STN_STATUS_DISC_PRESENT n) = true ∧ OnlyFields s t (R.STN_STATUS n) [R.STN_STATUS_DISC_PRESENT n])) ∧
    (s.on (R.STN_STATUS_DISC_PRESENT n) = false → Does (.discPresentQualified n false ago img) s (fun t =>
      t.on (R.STN_STATUS_DISC_PRESENT n) = false ∧ OnlyFields s t (R.STN_STATUS n) [R.STN_STATUS_DISC_PRESENT n])) ∧
    (s.on (R.STN_STATUS_DISC_PRESENT n) = false → st = 0 → s.on (R.STN_CFG_AUTO_MOUNT n) = true → s.sys.sysInit = true →
      s.g (R.SPN_STATUS_STATE n) ≠ 10 → s.g (R.SLD_STATUS_STATE n) ≠ 8 → s.g (R.WRS_STATUS_SUSPENDED n) ≠ 15 →
      s.on (R.SLD_STATUS_REFERENCED n) = false ∨ (s.g (R.SLD_STATUS_STATE n) = 2 ∧ targetOk s n (s.g (R.STN_MOUNT_MOUNT_POS n)) = true) →
      Does (.discPresentQualified n true ago img) s (fun t => t.on (R.STN_STATUS_DISC_PRESENT n) = true ∧ t.g (R.STN_STATUS_STATE n) = 1 ∧
        t.g (R.STN_STATUS_MOUNT_PHASE n) = 1)) ∧
    (s.on (R.STN_STATUS_DISC_PRESENT n) = true → (st = 3 ∨ st = 4 ∨ st = 5) → Does (.discPresentQualified n false ago img) s (fun t =>
      t.g (R.STN_STATUS_STATE n) = 8 ∧ t.g (R.STN_STATUS_LAST_FAULT n) = 6 ∧ Counted s t (R.STN_CNT_FAULTS n) 1 ∧
      t.g (R.STN_STATUS_DISC_KIND n) = 0)) ∧
    (s.on (R.STN_STATUS_DISC_PRESENT n) = true → st = 7 → Does (.discPresentQualified n false ago img) s (fun t =>
      t.g (R.STN_STATUS_STATE n) = 0 ∧ t.g (R.STN_STATUS_DISC_KIND n) = 0))) ∧
    (s.on (R.SPN_STATUS_IN_REG n) = false → exec (.loadingComplete n) s = .next s) ∧
    (st = 1 → s.on (R.SPN_STATUS_IN_REG n) = true → s.on (R.SLD_STATUS_REFERENCED n) = true → s.g (R.SLD_STATUS_STATE n) = 2 →
      (s.sld[n]).pos = ((s.g (R.STN_MOUNT_MOUNT_POS n) : Nat) : Rat) → s.g (R.BRL_STN_SEQ_STATUS_STATE n) = 10 →
      Does (.loadingComplete n) s (fun t => t.g (R.STN_STATUS_STATE n) = 2 ∧ t.g (R.STN_STATUS_MOUNT_PHASE n) = 2 ∧
        t.g (R.BRL_STN_SEQ_STATUS_STATE n) = 2)) ∧
    (st = 2 → x.task = .none → seqFailedNow s n = false →
      (∀ blank writer, ph = 5 → exec (.mountStepComplete n (.kind blank writer)) s = .next (takeKind s n blank writer)) ∧
      (∀ i : MountIn, ph = 7 → (s.cal[n]).run = none → (s.cal[n]).pend = [] → onTrack s n = true →
        let sl := s.g (R.SLD_STATUS_STATE n)
        let stuck := blocked s n (decide (workLayer s n % 2 = 0))
        (sl = 7 ∨ (sl = 2 ∧ s.on (R.SPN_STATUS_ANGLE_VALID n) = true ∧ stuck = false) →
          Does (.mountStepComplete n i) s (fun t => t.g (R.STN_STATUS_STATE n) = 3 ∧ t.g (R.STN_STATUS_MOUNT_PHASE n) = 0 ∧
            Counted s t (R.STN_CNT_MOUNTS n) 1)) ∧
        (sl = 2 → s.on (R.SPN_STATUS_ANGLE_VALID n) = true → stuck = true →
          Does (.mountStepComplete n i) s (fun t => t.g (R.STN_STATUS_STATE n) = 8)) ∧
        (sl ≠ 7 → sl ≠ 2 ∨ s.on (R.SPN_STATUS_ANGLE_VALID n) = false → exec (.mountStepComplete n i) s = .next s))) ∧
    (ph = 3 → s.now < x.since + 50000000 → exec (.addressTimeout n) s = .next s) ∧
    (ph = 3 → acceptedB0 s n = none → x.since + 50000000 ≤ s.now →
      (st = 2 → onTrack s n = true →
        (x.tryLayer = 0 → Does (.addressTimeout n) s (fun t => t.g (R.STN_STATUS_DISC_KIND n) = 4 ∧ t.g (R.SPN_CTRL_SPEED_SEL n) = 0 ∧
          t.g (R.BRL_STN_SEQ_STATUS_STATE n) = 10 ∧
          (t.g (R.STN_STATUS_STATE n) = 7 ∨ t.g (R.STN_STATUS_STATE n) = 2 ∧ (t.stn[n]).task = .toReject))) ∧
        (x.tryLayer ≠ 0 → Does (.addressTimeout n) s (fun t => (t.stn[n]).tryLayer = x.tryLayer - 1 ∧ t.g (R.STN_STATUS_STATE n) = 2 ∧
          t.g (R.STN_STATUS_MOUNT_PHASE n) = 3 ∧ (t.stn[n]).since = s.now ∧ acceptedB0 t n = none))) ∧
      (st = 1 → (x.homed = true → Does (.addressTimeout n) s (fun t => t.g (R.STN_STATUS_STATE n) = 8 ∧ t.g (R.STN_STATUS_LAST_FAULT n) = 7)) ∧
        (x.homed = false → Does (.addressTimeout n) s (fun t => t.g (R.STN_STATUS_STATE n) = 1 ∧ t.g (R.STN_STATUS_MOUNT_PHASE n) = 1 ∧
          (t.stn[n]).homed = true))))

/-- Idle timers, a stopped spindle, and work that arrives (R276, R283, R284, R285, R290). What rests on log entry 7 is the model's choice and no rule of the spec. -/
def Obligations.StationIdleAndWork : Prop :=
  ∀ (s : State) (n : Fin 8), s.live = true →
    let x := s.stn[n]
    let st := s.g (R.STN_STATUS_STATE n)
    (s.g (R.STN_IDLE_T_SPIN n) = 0 ∨ s.now < x.idleFrom + s.g (R.STN_IDLE_T_SPIN n) * 1000000000 →
      exec (.tSpinExpiry n) s = .next s) ∧
    (s.g (R.STN_IDLE_T_PARK n) = 0 ∨ s.now < x.idleFrom + s.g (R.STN_IDLE_T_PARK n) * 1000000000 →
      exec (.tParkExpiry n) s = .next s) ∧
    (st = 3 → s.g (R.STN_IDLE_T_SPIN n) ≠ 0 → hasWork s n = false → x.task = .none → (s.cal[n]).run = none →
      x.idleFrom + s.g (R.STN_IDLE_T_SPIN n) * 1000000000 ≤ s.now → s.g (R.WRS_STATUS_WRITING n) = 0 →
      Does (.tSpinExpiry n) s (fun t => t.g (R.STN_STATUS_STATE n) = 4 ∧ t.g (R.BRL_STN_SEQ_STATUS_STATE n) = 10 ∧
        Logged s t 0x101 n [3, 4, 0] 0)) ∧
    (st = 4 → s.g (R.STN_IDLE_T_PARK n) ≠ 0 → hasWork s n = false → x.task = .none →
      x.idleFrom + s.g (R.STN_IDLE_T_PARK n) * 1000000000 ≤ s.now → Does (.tParkExpiry n) s (fun t =>
        t.g (R.SPN_CTRL_SPEED_SEL n) = 0 ∧ (s.g (R.SPN_STATUS_STATE n) = 0 → t.g (R.STN_STATUS_STATE n) = 5 ∧ (t.stn[n]).task = .none) ∧
        (t.g (R.SPN_STATUS_STATE n) ≠ 0 → t.g (R.STN_STATUS_STATE n) = 4 ∧ (t.stn[n]).task = .toPark))) ∧
    (s.g (R.SPN_STATUS_STATE n) ≠ 0 → exec (.spindleStopped n) s = .next s) ∧
    (s.g (R.SPN_STATUS_STATE n) = 0 →
      (st = 4 → x.task = .toPark → Does (.spindleStopped n) s (fun t => t.g (R.STN_STATUS_STATE n) = 5 ∧ (t.stn[n]).task = .none)) ∧
      (st = 6 → x.task = .none → x.retire = false → Does (.spindleStopped n) s (fun t =>
        t.g (R.STN_STATUS_STATE n) = (if x.toOffline then 9 else 0) ∧ t.g (R.STN_STATUS_DISC_KIND n) = 0))) ∧
    (hasWork s n = false → exec (.workArrives n) s = .next s) ∧
    (hasWork s n = true → exec (.workArrives n) s = .next (goPlace (wake s n) n) ∧
      ((st = 4 ∨ st = 5) → x.task ≠ .wake → Does (.workArrives n) s (fun t => t.g (R.STN_STATUS_STATE n) = st ∧ (t.stn[n]).task = .wake ∧
        Counted s t (R.STN_CNT_WAKES n) 1)) ∧
      (st = 3 → x.task ≠ .none → exec (.workArrives n) s = .next s)) ∧
    (st = 3 → wake s n = s)

/-- A lane's figures at the end of a cluster, the pickup temperature, and what raises a calibration (R113, R302, R307, R309, R311). What rests on log entries 7, 13, 74 is the model's choice and no rule of the spec. -/
def Obligations.CalibrationFiguresAndTriggers : Prop :=
  ∀ s : State, s.live = true →
    (∀ l : Fin 68, let x := s.lanes[l]
      let mean := fun (i : Nat) => (((x.dsp.sums[i]?).getD (0, 0)).1 : Rat) / ((((x.dsp.sums[i]?).getD (0, 0)).2 : Nat) : Rat)
      let seen := ∀ i < 4, ((x.dsp.sums[i]?).getD (0, 0)).2 ≠ 0
      (s.g (R.OPL_MODE_MODE l) = 0 → exec (.clusterStatistics l) s = .next s) ∧
      (s.g (R.OPL_MODE_MODE l) ≠ 0 → x.sawResync = true ∨ 32 < x.erased ∨ x.halves = 0 →
        Does (.clusterStatistics l) s (fun t => t.on (R.OPL_QUALITY_VALID l) = false ∧ t.on (R.OPL_ASYM_VALID l) = false ∧
          (t.lanes[l]).sawResync = false ∧ (t.lanes[l]).erased = 0 ∧ RegsBut s t [R.OPL_QUALITY l, R.OPL_ASYM l] ∧
          t = { s with regs := t.regs, lanes := t.lanes })) ∧
      (s.g (R.OPL_MODE_MODE l) ≠ 0 → x.sawResync = false → x.erased ≤ 32 → 0 < x.halves → Does (.clusterStatistics l) s (fun t =>
          t.on (R.OPL_QUALITY_VALID l) = true ∧ t.on (R.OPL_ASYM_VALID l) = true ∧ (t.lanes[l]).halves = 0 ∧
          t.g (R.OPL_QUALITY_MARGIN_MIN l) = x.marginMin % 2 ^ (R.OPL_QUALITY_MARGIN_MIN l).w ∧
          (x.marginSum % x.halves = 0 → t.g (R.OPL_QUALITY_MARGIN_MEAN l) = x.marginSum / x.halves % 2 ^ (R.OPL_QUALITY_MARGIN_MEAN l).w) ∧
          (∀ a : Int, seen → mean 1 ≠ mean 0 → (a : Rat) = ((mean 0 + mean 1) - (mean 2 + mean 3)) / (2 * (mean 1 - mean 0)) * 32768 →
            t.gi (R.OPL_ASYM_ASYM l) = clampI (-32768) 32767 a) ∧
          (∀ (i : Fin 8) (v : Int), -32768 ≤ v → v ≤ 32767 → (x.dsp.tapSum[2 * i.val]?).getD 0 = v * (max 1 x.dsp.tapN : Nat) →
            t.gi (R.OPL_EQ_LIVE_TAP_LO l i) = v) ∧
          ((∀ n m, laneBeam s l ≠ some (n, m, true)) → ∀ a, a ≠ R.OPL_QUALITY l → a ≠ R.OPL_ASYM l → (∀ i : Fin 8, a ≠ R.OPL_EQ_LIVE l i) →
            t.rd a = s.rd a)))) ∧
    (s.on R.CAL_CTRL_TEMP_EN = false → ∀ n : Fin 8,
      (∀ v : Int, -32768 ≤ v → v < 32768 → Does (.pickupTempRead n (some v)) s (fun t => t.gi (R.CAL_TEMP_TEMP n) = v ∧
        t.on (R.CAL_TEMP_VALID n) = true ∧ t.on (R.CAL_TEMP_SOURCE n) = false ∧ (t.cal[n]).badReads = 0 ∧
        RegsBut s t [R.CAL_TEMP n])) ∧
      ((s.cal[n]).badReads < 2 → Does (.pickupTempRead n none) s (fun t => (t.cal[n]).badReads = (s.cal[n]).badReads + 1 ∧
        t = { s with cal := t.cal })) ∧
      ((s.cal[n]).badReads = 2 → Does (.pickupTempRead n none) s (fun t => t.on (R.CAL_TEMP_SOURCE n) = true ∧
        t.g (R.CAL_TEMP_TEMP n) = s.g (R.GLB_TEMP_VALUE (if n.val < 4 then 5 else 6)) ∧ RegsBut s t [R.CAL_TEMP n]))) ∧
    (∀ n : Fin 8, let layer := workLayer s n
      let age := fun (k : Fin 8) => (s.now / 1000000000 % 2 ^ 32 + 2 ^ 32 - s.g (R.CAL_SET7_TIME n layer k)) % 2 ^ 32
      let old := (∃ k : Fin 8, s.on (R.CAL_SET0_VALID n layer k) = true) ∧
        ∀ k : Fin 8, s.on (R.CAL_SET0_VALID n layer k) = true → 60 * s.g R.CAL_TRIG_INTERVAL ≤ age k
      (s.on R.CAL_CTRL_INTERVAL_EN = false ∨ ¬ old → exec (.calibrationInterval n) s = .next s) ∧
      (s.on R.CAL_CTRL_INTERVAL_EN = true → old → (s.cal[n]).run = none → Does (.calibrationInterval n) s (fun t =>
        (t.cal[n]).pend.any (fun p => p.layer == layer) = true ∧ bitOf (t.g R.CAL_STATUS_PENDING) n = 1 ∧ RegsBut s t [R.CAL_STATUS]))) ∧
    (∀ (n : Fin 8) (layer : Fin 16) (now : Bool),
      let st := s.g (R.STN_STATUS_STATE n)
      (st ≠ 3 → st ≠ 4 → st ≠ 5 → exec (.calCalibrate n layer now) s = .next s) ∧
      ((st = 3 ∨ st = 4 ∨ st = 5) → (s.cal[n]).run = none → Does (.calCalibrate n layer now) s (fun t =>
        (t.cal[n]).pend.any (fun p => p.layer == layer.val && (p.now || !now)) = true ∧ bitOf (t.g R.CAL_STATUS_PENDING) n = 1 ∧
        (t.cal[n]).pend.length ≤ (s.cal[n]).pend.length + 1 ∧ RegsBut s t [R.CAL_STATUS])))

/-- A calibration starts, waits, ends, and is invalidated (R301, R303, R305, R306, R308, R309). What rests on log entries 7, 17, 32 is the model's choice and no rule of the spec. -/
def Obligations.CalibrationRuns : Prop :=
  ∀ (s : State) (n : Fin 8), s.live = true →
    (calReady s n = none → exec (.calibrationStart n) s = .next s) ∧
    (∀ p, calReady s n = some p →
      let room := fun (outer : Bool) => (writingBeams s n).all (fun m =>
        (smGet (s.cal[n]).tests (8 * p.layer + 4 * b2n outer + m.val)).getD 0 + 5 ≤ zoneSlots (if outer then 3 else 1))
      (room true = true ∨ room false = true → Does (.calibrationStart n) s (fun t => bitOf (t.g R.CAL_STATUS_BUSY) n = 1 ∧
        (t.cal[n]).pend.all (fun q => q.layer != p.layer) = true ∧
        ∃ r, (t.cal[n]).run = some r ∧ r.layer = p.layer ∧ r.step = 0 ∧ r.restarted = false ∧ r.began = s.now ∧ room r.outer = true)) ∧
      (room true = false → room false = false → let u := refreshCal (s.calU n (fun c => { c with pend := c.pend.filter (fun q => q.layer != p.layer) }))
        let slot := nearSlot s n (s.rd R.CAL_TEMPSET)
        exec (.calibrationStart n) s = .next (logCalDone (u.whenB (p.layer == workLayer u n) (fun u => calLoad u n p.layer)) n p.layer 3 slot) ∧
        Does (.calibrationStart n) s (fun t => Logged s t 0x10C n [p.layer, 3, slot] 0 ∧ (t.cal[n]).run = (s.cal[n]).run ∧
          (p.layer ≠ workLayer u n → RegsBut s t [R.CAL_STATUS])))) ∧
    (s.g (R.STN_STATUS_STATE n) ≠ 3 → exec (.calibrationDeferExpiry n) s = .next s) ∧
    (s.g (R.STN_STATUS_STATE n) = 3 → s.g (R.WRS_STATUS_WRITING n) ≠ 0 → Does (.calibrationDeferExpiry n) s (fun t =>
      (t.cal[n]).pend = (s.cal[n]).pend.map (fun p => { p with
        now := p.now || decide (p.since + s.g R.CAL_TRIG_MAX_DEFER * 1000000000 ≤ s.now) }) ∧
      t = { s with cal := t.cal })) ∧
    ((s.cal[n]).run = none → exec (.calibrationStepComplete n) s = .next s) ∧
    (∀ r, (s.cal[n]).run = some r →
      (r.step = 0 → onTrack s n = false → exec (.calibrationStepComplete n) s = .next s) ∧
      (r.step = 1 → testsDone s n = true → onTrack s n = true →
        Does (.calibrationStepComplete n) s (fun t => t = startPass (calStep s n r 2) n r 0 ∧ (t.cal[n]).run = some { r with step := 2 })) ∧
      (r.step = 19 → onTrack s n = true → s.g (R.SLD_STATUS_STATE n) = 2 →
        ∃ u, exec (.calibrationStepComplete n) s = .next (stnRun u n) ∧ (u.cal[n]).run = none ∧
          bitOf (u.g R.CAL_STATUS_BUSY) n = 0)) ∧
    Does (.calInvalidate n) s (fun t => (t.cal[n]).run = none ∧
      (∀ (l : Fin 16) (k : Fin 8), t.on (R.CAL_SET0_VALID n l k) = false) ∧
      (∀ (m : Fin 8) (l : Fin 16) (k : Fin 8), m ≠ n → t.rd (R.CAL_SET0 m l k) = s.rd (R.CAL_SET0 m l k)))

/-- DRAM training: success, retries, the third failure; the interval oscillators; the end of initialisation (R312, R314, R315, R316, R317, R319, R325). What rests on log entries 7, 67 is the model's choice and no rule of the spec. -/
def Obligations.BufferTraining : Prop :=
  ∀ (s : State) (c : Fin 4) (fit : Fitting) (ok : Bool), s.live = true →
    let others := ∀ d : Fin 4, d ≠ c → s.buf.train[d] = .trained
    (s.sys.ready = false ∨ s.buf.train[c] ≠ .none → exec (.dramTrainingComplete c fit ok) s = .next s) ∧
    (s.sys.ready = true → s.buf.train[c] = .none →
      (s.buf.attempts[c] < 2 → Does (.dramTrainingComplete c fit false) s (fun t => t.buf.attempts[c] = s.buf.attempts[c] + 1 ∧
        t.buf.train[c] = .none ∧ t = { s with buf := t.buf })) ∧
      (s.buf.attempts[c] = 2 → others → Does (.dramTrainingComplete c fit false) s (fun t => t.buf.train[c] = .failed ∧
        t.g R.BUF_STATUS_TRAIN_FAIL = 2 ^ c.val ∧ t.on R.HQE_STATUS_CLOSED = true)) ∧
      (others → (∀ d : Fin 4, d ≠ c → s.buf.fits[d] = some fit) → fitOk fit = true →
        Does (.dramTrainingComplete c fit true) s (fun t => t.buf.train[c] = .trained ∧ t.g R.BUF_CONFIG_FITTED = fittedGiB fit ∧
          t.g R.BUF_CONFIG_DENSITY = fit.density ∧ t.g R.BUF_CONFIG_RANKS = fit.ranks - 1 ∧
          t.on R.BUF_CONFIG_BYTE_MODE = fit.byteMode ∧ t.buf.poolSize = 7 * (fittedGiB fit * 32768) - 262144 ∧
          RegsBut s t [R.BUF_CONFIG, R.BUF_POOL_TOTAL, R.BUF_POOL_FREE, R.BUF_RETIRED]))) ∧
    (∀ (rank : Fin 2) (count : Nat), (s.buf.train[c] ≠ .trained → exec (.wckOscillatorRead c rank count) s = .next s) ∧
      (s.buf.train[c] = .trained → Does (.wckOscillatorRead c rank count) s (fun t =>
        (∀ i : Fin 8, t.buf.wck[i] = if i.val = 2 * c.val + rank.val then count else s.buf.wck[i]) ∧
        (let now := s.gi (R.GLB_TEMP_VALUE 3)
         let moved := fun (d : Fin 4) => s.buf.train[d] == .trained && decide (640 ≤ (now - s.buf.trainTemp[d]).natAbs)
         t.buf.retrains = s.buf.retrains + ((List.finRange 4).filter moved).length ∧
         ∀ d : Fin 4, t.buf.trainTemp[d] = if moved d then now else s.buf.trainTemp[d]) ∧
        t = { s with buf := t.buf }))) ∧
    (s.sys.sysInit = true → s.g R.BUF_STATUS_TRAIN_FAIL = 0 → s.on R.BUF_STATUS_INIT_DONE = false → Does .bufferInitDone s (fun t =>
      t.on R.BUF_STATUS_INIT_DONE = true ∧ t.buf.written = s.buf.poolSize ∧ t.g R.BUF_STATUS_SCRUB_BUSY = s.g R.BUF_SCRUB_EN ∧
      t.g R.BUF_POOL_TOTAL_PAGES = (s.buf.poolSize - (s.buf.retired.filter (fun p => p.1 == 0)).length) % 2 ^ 25 ∧
      RegsBut s t [R.BUF_STATUS, R.BUF_POOL_TOTAL, R.BUF_POOL_FREE, R.BUF_RETIRED]))

/-- The patrol scrubber: its position, clean words, a bad nibble, words it cannot correct, skipped pages (R316, R322, R323, R325, R326, R327, R332). What rests on log entries 7, 67 is the model's choice and no rule of the spec. -/
def Obligations.PatrolScrubber : Prop :=
  ∀ (s : State) (x : ScrubIn), s.live = true →
    let at' := s.g R.BUF_SCRUB_POS_ADDR
    let place := dramPlace at'
    let page := (locPage place).2
    let space := (locPage place).1
    let where' := dramChannel at' + 16 * x.rank.val
    let next := if holdsData (at' + 1) then at' + 1 else at' + 17
    let moved := fun (t : State) => (next < s.g R.BUF_CONFIG_FITTED * 2 ^ 24 → t.g R.BUF_SCRUB_POS_ADDR = next % 2 ^ 32) ∧
      (s.g R.BUF_CONFIG_FITTED * 2 ^ 24 ≤ next → t.g R.BUF_SCRUB_POS_ADDR = 0 ∧
        t.g R.BUF_SCRUB_PASSES_PASSES = (s.g R.BUF_SCRUB_PASSES_PASSES + 1) % 2 ^ R.BUF_SCRUB_PASSES_PASSES.w)
    let scrubRegs := [R.BUF_SCRUB_POS, R.BUF_SCRUB_PASSES, R.BUF_STATUS]
    (s.on R.BUF_SCRUB_EN = false ∨ s.on R.BUF_STATUS_INIT_DONE = false → exec (.scrubRead x) s = .next s) ∧
    (s.on R.BUF_SCRUB_EN = true → s.on R.BUF_STATUS_INIT_DONE = true →
      (scrubSkips s place = true ∨ x.errs.all (fun e => e.bad == 0) = true → Does (.scrubRead x) s (fun t => moved t ∧ RegsBut s t scrubRegs ∧
        t = { s with regs := t.regs })) ∧
      ∀ e : WordErr, x.errs = [e] → scrubSkips s place = false →
        (e.bad = 1 → (smGet s.buf.ceCounts (4 * page + space)).getD 0 + 1 < s.g R.BUF_RETIRE_ADV_CE_THRESH →
          Does (.scrubRead x) s (fun t => moved t ∧
            Counted s t R.BUF_CNT_CE 1 ∧ Logged s t 0x301 0xFF [where', space, page] 1 ∧ RegsBut s t (R.BUF_CNT_CE :: scrubRegs))) ∧
        (2 ≤ e.bad → ((∃ b, place = .pool b ∧ smGet s.buf.pages b = none) ∨ ((∃ c p, place = .system c p) ∧ e.otherBad = false)) →
          Does (.scrubRead x) s (fun t => moved t ∧ Counted s t R.BUF_CNT_UE 1 ∧ RegsBut s t (R.BUF_CNT_UE :: scrubRegs) ∧
            (4 * page + space ∈ t.buf.advised) ∧ (4 * page + space ∈ s.buf.advised → Logged s t 0x301 0xFF [where', space, page] 2) ∧
            (4 * page + space ∉ s.buf.advised → t.evl.inFlight.length = s.evl.inFlight.length + 2))) ∧
        (2 ≤ e.bad → (∃ c p, place = .system c p) → e.otherBad = true → e.entry = none →
          exec (.scrubRead x) s = .next (deviceReset (symbolFound (scrubStep s) (dramChannel at') x.rank.val place e.bad)
            R.GLB_RESET_CAUSE_MEMORY)))

/-- Garnet maps the oldest complete stripe; a rewritten member takes a MEMBER entry, others extend or start a RUN (R21, R22, R24, R341, R342, R344, R353). What rests on log entries 30, 85, 86 is the model's choice and no rule of the spec. -/
def Obligations.StripesMapInSerialOrder : Prop :=
  ∀ s : State, s.live = true →
    (mappable s = none → exec .stripeMapUpdate s = .next (drainPosted s)) ∧ (s.pcx.hold ≠ none ∨ s.pcx.posted = [] → drainPosted s = s) ∧
    (∀ t, mappable s = some t → t ∈ s.tpz.stripes ∧ t.serial ≠ 0 ∧ (∀ m ∈ t.mems, m.st ≠ .queued) ∧
      (t.mems.filter (fun m => m.st == .absent)).length ≤ t.p ∧
      (∀ u ∈ s.tpz.stripes, u.serial ≠ 0 → (∀ m ∈ u.mems, m.st ≠ .queued) →
        (u.mems.filter (fun m => m.st == .absent)).length ≤ u.p → t.serial ≤ u.serial) ∧
      (s.grn.waiting.length < (mapStripe s t).grn.waiting.length → exec .stripeMapUpdate s = .next (drainPosted s)) ∧
      (s.grn.entries.length + 2 * t.mems.length + t.data.length ≤ mapSize →
        exec .stripeMapUpdate s = .next (drainPosted (checkPower (retryHold (mapStripe s t)))) ∧
        (s.pcx.hold = none → s.pcx.posted = [] → mirroring s = false → Does .stripeMapUpdate s (fun u => t ∉ u.tpz.stripes ∧
          s.tpz.stripes.length ≠ u.tpz.stripes.length ∧ (∀ x ∈ s.tpz.stripes, x.serial ≠ t.serial → x ∈ u.tpz.stripes) ∧
          (∀ q ∈ u.buf.pages, ∃ p ∈ s.buf.pages, p.1 = q.1 ∧ (q.2 = p.2 ∨ q.2 = { p.2 with mapped := true })) ∧
          (∀ p ∈ s.buf.pages, grpVisible s p.2.group = false → (∀ x ∈ s.buf.pages, x.1 = p.1 → x = p) →
            ∃ q ∈ u.buf.pages, p.1 = q.1 ∧ q.2.ver = p.2.ver) ∧
          ∀ c ∈ t.data, ∀ b ∈ clusterPages s c, ∀ q ∈ u.buf.pages, q.1 = b → q.2.mapped = true ∧
            ∃ p ∈ s.buf.pages, grpVisible s p.2.group = false))) ∧
      ∀ u ∈ (mapStripe s t).tpz.stripes, u.serial ≠ t.serial) ∧
    (∀ (t : Stripe) (m : Mem) (d : Nat), discIndex s m.disc = some d →
      let lay := if t.narrow then t.setA else 0
      let arms := Nat.lor m.arms (2 ^ pcaArm m.pca)
      let continues := fun (e : RunE) => e.ws = m.station ∧ e.disc = d ∧ e.layout = lay ∧ e.arms = arms ∧
        e.serial0 + e.count = serial48 t.serial ∧ runNext e = m.pca
      let placed : Entry := .member ⟨false, m.rot, m.station, d, lay, serial48 t.serial, m.pca, m.time⟩
      (m.rewritten = true → mapFull s = false → ∃ i, smGet (mapMember s t m).grn.entries i = some placed) ∧
      (m.rewritten = true → mapFull s = true → (mapMember s t m).grn.waiting = s.grn.waiting ++ [placed] ∧
        (mapMember s t m).grn.entries = s.grn.entries) ∧
      (m.rewritten = false → (∃ q ∈ runs s, continues q.2) → ∃ q ∈ runs s, continues q.2 ∧
        smGet (mapMember s t m).grn.entries q.1 = some (.run { q.2 with count := q.2.count + 1 })) ∧
      (m.rewritten = false → mapFull s = false → (∀ q ∈ runs s, ¬ continues q.2) → ∃ i, smGet (mapMember s t m).grn.entries i =
        some (.run ⟨m.station, arms, d, lay, serial48 t.serial, 1, m.pca, m.time⟩))) ∧
    (∀ (S r n : Nat), (∃ q ∈ members s, q.2.serial = serial48 S ∧ q.2.rot = r) →
      ∃ f, findMember s S r n = some f ∧ f.isMember = true ∧ ∃ q ∈ members s, q.2.serial = serial48 S ∧ q.2.rot = r ∧ f.pca = q.2.pca ∧
        f.disc = q.2.disc) ∧
    (∀ (hid : List Nat) (v b top : Nat) (q : Nat × LogicalE), selectLogical s hid v b top = some q → q ∈ logicals s ∧ covers q.2 v b = true ∧
      grpVisible s q.2.group = true ∧ q.2.group ∉ hid ∧ (top = 0 ∨ q.2.version ≤ top) ∧
      ∀ p ∈ logicals s, covers p.2 v b = true → grpVisible s p.2.group = true → p.2.group ∉ hid → (top = 0 ∨ p.2.version ≤ top) →
        p.2.version ≤ q.2.version ∧ (p.2.version = q.2.version → p.2.lost = true → q.2.lost = true))

/-- Onyx: a miss chooses an unlocked way, a fill is installed unless poisoned, and the five operations (R346, R347, R348, R349, R366). What rests on log entries 7, 33, 34 is the model's choice and no rule of the spec. -/
def Obligations.OnyxFillsAndOperations : Prop :=
  ∀ s : State, s.live = true →
    ((∀ m ∈ s.onx.misses, m.way ≠ none ∨ missWaits s m = true) → exec (.onyxMiss none) s = .next s) ∧
    (∀ m, s.onx.misses.find? (fun m => m.way.isNone && !missWaits s m) = some m → Does (.onyxMiss none) s (fun t =>
      { m with way := some (wayFor s m.line) } ∈ t.onx.misses ∧ t.onx.locks = s.onx.locks ∧
      ∀ x ∈ t.onx.ways, ¬ (x.set = setOf m.line ∧ x.way = wayFor s m.line))) ∧
    (∀ set, (∃ w < 16, lockedWay s set w = false) → lockedWay s set (chooseWay s set) = false) ∧
    (∀ l : Nat, (∀ m ∈ s.onx.misses, m.line ≠ l ∨ m.way = none) → exec (.onyxFillComplete l) s = .next s) ∧
    (∀ (l : Nat) (m : OnxMiss), s.onx.misses.find? (fun m => m.line == l && m.way.isSome) = some m →
      (m.poisoned = true → m.dirty = false → Does (.onyxFillComplete l) s (fun t => Counted s t R.ONX_CNT_POISONED 1 ∧
        t.onx.ways = s.onx.ways ∧ t.onx.victims = s.onx.victims ∧ l ∈ t.onx.given ∧ RegsBut s t [R.ONX_CNT_POISONED])) ∧
      (m.poisoned = false → Does (.onyxFillComplete l) s (fun t =>
        ⟨setOf l, fillWay s l (m.way.getD 0), l, m.dirty⟩ ∈ t.onx.ways ∧ t.onx.locks = s.onx.locks))) ∧
    (∀ (c : Nat) (i : Instr), (c, i) ∈ [(1, Instr.onxInvalidate), (2, .onxClean), (3, .onxCleanInvalidate), (4, .onxLock), (5, .onxUnlock)] →
      (s.on R.ONX_OP_STATUS_BUSY = true → Does i s (fun t => t.on R.ONX_OP_STATUS_REFUSED = true ∧
        OnlyFields s t R.ONX_OP_STATUS [R.ONX_OP_STATUS_REFUSED])) ∧
      (s.on R.ONX_OP_STATUS_BUSY = false → Does i s (fun t => t.on R.ONX_OP_STATUS_BUSY = true ∧
        t.onx = { s.onx with op := some ⟨c, s.g R.ONX_OP_FIRST_ENTRY, s.g R.ONX_OP_COUNT_COUNT, s.onx.misses.map OnxMiss.line⟩ } ∧
        t = { s with regs := t.regs, onx := t.onx } ∧ RegsBut s t [R.ONX_OP_STATUS]))) ∧
    (s.onx.op = none → exec .onxOperationEnd s = .next s) ∧
    (∀ o, s.onx.op = some o → Does .onxOperationEnd s (fun t => t.on R.ONX_OP_STATUS_BUSY = false ∧ t.on R.ONX_OP_STATUS_DONE = true ∧
      t.onx.op = none ∧ t.grn.entries = s.grn.entries ∧
      (o.cmd = 1 ∨ o.cmd = 3 → (∀ p ∈ heldLines t, opCovers o p.1 = false) ∧ t.onx.locks = s.onx.locks) ∧
      (o.cmd = 2 → (∀ p ∈ heldLines t, opCovers o p.1 = true → p.2 = false) ∧ (heldLines t).map Prod.fst = (heldLines s).map Prod.fst) ∧
      (o.cmd = 5 → ∀ k ∈ t.onx.locks, opCovers o k.line = false)))

/-- A group becomes visible; checkpoints are due, are taken, and complete; the map is loaded (R352, R353, R357, R359, R360, R362, R363, R400). What rests on log entries 7, 35, 36, 69, 88 is the model's choice and no rule of the spec. -/
def Obligations.GroupsAndCheckpoints : Prop :=
  ∀ s : State, s.live = true →
    (∀ id : Nat, (∀ g, grpOf s id = some g → g.st ≠ .closing ∨ g.good < g.joined) → exec (.groupVisible id) s = .next s) ∧
    (∀ (id : Nat) (g : Grp), grpOf s id = some g → g.st = .closing → g.joined ≤ g.good → g.closeTag = none → pairMode s = 0 →
      Does (.groupVisible id) s (fun t => grpVisible t id = true ∧ Counted s t R.GRN_CNT_VISIBLE 1 ∧ t.grn.entries = s.grn.entries ∧
        RegsBut s t [R.GRN_CNT_VISIBLE, R.GRN_GROUPS_OPEN, R.BUF_POOL_FREE])) ∧
    (s.on R.GRN_STATUS_LOADED = false → exec .checkpointInterval s = .next s ∧ exec .grnCheckpoint s = .next s ∧ exec .grnBase s = .next s) ∧
    (s.on R.GRN_STATUS_LOADED = true →
      (s.grn.ceilingDue = true → exec .checkpointInterval s = .next (ceilingCkpt (s.grnU (fun g => { g with ceilingDue := false }))) ∧
        (s.grn.ckpts = [] → s.grn.ceilGroup ≤ s.grn.nextGroup + 2 ^ 14 → s.grn.ceilGroup < 2 ^ 32 →
          ((∃ n ∈ availSet s, 577 ≤ mapRoom s n) → Does .checkpointInterval s (fun t => t.grn.ceilingDue = false ∧ ∃ k, t.grn.ckpts = [k] ∧
            k.seq = s.grn.nextSeq ∧ k.stations.map CkptSt.station = ((availSet s).filter (fun n => 577 ≤ mapRoom s n)).map Fin.val)) ∧
          ((∀ n ∈ availSet s, mapRoom s n < 577) → exec .checkpointInterval s = .next s))) ∧
      (s.grn.ceilingDue = false → (s.g R.GRN_CKPT_CTRL_INTERVAL = 0 ∨ s.g R.HQE_STATUS_POWER = 2 ∨
        s.now < s.grn.lastCut + s.g R.GRN_CKPT_CTRL_INTERVAL * 1000000000) → exec .checkpointInterval s = .next s) ∧
      (s.grn.ceilingDue = false → s.g R.GRN_CKPT_CTRL_INTERVAL ≠ 0 → s.g R.HQE_STATUS_POWER ≠ 2 →
        s.grn.lastCut + s.g R.GRN_CKPT_CTRL_INTERVAL * 1000000000 ≤ s.now → Does .checkpointInterval s (fun t => t.grn.lastCut = s.now ∧
          ∀ k ∈ t.grn.ckpts, k ∈ s.grn.ckpts ∨ ∀ c ∈ k.stations, stSt s (stnOf c.station) = stACTIVE)) ∧
      exec .grnCheckpoint s = .next (takeCkpt s (availSet s) false []) ∧ exec .grnBase s = .next (takeCkpt s (availSet s) true []) ∧
      ((∃ n ∈ availSet s, 577 ≤ mapRoom s n) → ∀ b : Bool, ∃ t k, exec (if b then .grnBase else .grnCheckpoint) s = .next t ∧
        t.grn.ckpts = s.grn.ckpts ++ [k] ∧ t.grn.nextSeq = s.grn.nextSeq + 1 ∧ k.seq = s.grn.nextSeq ∧
        k.stations.map CkptSt.station = ((availSet s).filter (fun n => 577 ≤ mapRoom s n)).map Fin.val ∧
        k.nextStripe = min (2 ^ 48) (nextSerial s + 2 ^ 24) ∧ k.nextGroup = min (2 ^ 32) (s.grn.nextGroup + 2 ^ 16) ∧
        k.nextReel = min (2 ^ 32) (s.grn.nextReel + 2 ^ 12) ∧ (b = true → ∀ c ∈ k.stations, c.base = true) ∧
        ∀ n : Fin 8, ((∀ x ∈ k.stations, x.station ≠ n.val) → (t.grn.chains[n]).needBase = true) ∧
          ∀ x ∈ k.stations, x.station = n.val → x.base = sendsBase s b n ∧
            (x.base = true → (t.grn.chains[n]).base = k.seq ∧ (t.grn.chains[n]).deltas = 0 ∧ (t.grn.chains[n]).needBase = false) ∧
            (x.base = false → (t.grn.chains[n]).base = (s.grn.chains[n]).base ∧ (t.grn.chains[n]).deltas = (s.grn.chains[n]).deltas + 1))) ∧
    (∀ (seq : Nat), (∀ k ∈ s.grn.ckpts, k.seq ≠ seq) → exec (.checkpointComplete seq) s = .next s) ∧
    (∀ (seq : Nat) (k : Ckpt), s.grn.ckpts.find? (fun k => k.seq == seq) = some k →
      let live := k.stations.filter (fun c => !c.out && avail s (stnOf c.station))
      (live = [] → (ckptRoom s (availSet s) = [] → Does (.checkpointComplete seq) s (fun t =>
          t = { s with grn := { s.grn with ceilingDue := t.grn.ceilingDue } })) ∧
        (ckptRoom s (availSet s) ≠ [] → Does (.checkpointComplete seq) s (fun t => ∃ q ∈ t.grn.ckpts, q.tags = k.tags ∧ q.seq = s.grn.nextSeq))) ∧
      (live ≠ [] → (∃ c ∈ live, c.passed < c.parts) → exec (.checkpointComplete seq) s = .next (ceilingCkpt s)) ∧
      (live ≠ [] → (∀ c ∈ live, c.parts ≤ c.passed) → k.tags = [] → seq < 2 ^ 64 →
        Does (.checkpointComplete seq) s (fun t => t.g64 R.GRN_CKPT_SEQ_LO = max (s.g64 R.GRN_CKPT_SEQ_LO) seq ∧ Counted s t R.GRN_CNT_CHECKPOINTS 1 ∧
          t.grn.ceilStripe = max s.grn.ceilStripe k.nextStripe ∧ t.grn.ceilGroup = max s.grn.ceilGroup k.nextGroup ∧
          t.grn.ceilReel = max s.grn.ceilReel k.nextReel ∧ (∀ g ∈ k.groups, grpOf t g = none) ∧ ∀ q ∈ t.grn.ckpts, q.seq = seq → q.seq = s.grn.nextSeq))) ∧
    (∀ x : MapIn, s.on R.GRN_STATUS_LOADED = true ∨ s.sys.sysInit = false ∨ mountsSettled s = false → exec (.mapLoadComplete x) s = .next s) ∧
    (s.on R.GRN_STATUS_LOADED = false → s.sys.sysInit = true → mountsSettled s = true →
      (∀ h : LastHdr, h.uid = Config.uid → h.group + 2 ^ 16 < 2 ^ 32 → s.grn.ckpts = [] → Does (.mapLoadComplete ⟨[], [h]⟩) s (fun t => t.on R.GRN_STATUS_LOADED = true ∧ t.grn.entries = [] ∧
        t.grn.nextGroup = h.group + 2 ^ 16 ∧ t.grn.nextReel = h.reel + 2 ^ 12 ∧ t.grn.ceilStripe = h.stripe + 2 ^ 24 ∧
        (t.grn.ceilingDue = true ∨ ∃ k, t.grn.ckpts = [k]))) ∧
      (s.grn.ckpts = [] → Does (.mapLoadComplete ⟨[], []⟩) s (fun t =>
      t.on R.GRN_STATUS_LOADED = true ∧ t.grn.entries = [] ∧ t.grn.nextGroup = 1 ∧ t.grn.ceilGroup = 1 ∧ t.grn.nextReel = 1 ∧
      t.grn.ceilReel = 1 ∧ t.g64 R.TPZ_SERIAL_LO = 1 ∧ t.grn.ceilStripe = 1 ∧
      (t.grn.ceilingDue = true ∨ ∃ k, t.grn.ckpts = [k]))))

/-- A transaction applies all its units or none (R50, R364). What rests on log entry 47 is the model's choice and no rule of the spec. -/
def Obligations.ConfigurationTransactions : Prop :=
  ∀ s : State, s.live = true →
    let groups := s.rd R.GRN_CFGTX_GROUPS
    let units := allUnits.filter (fun u => (groups &&& groupBit (groupOf s u)) != 0#32)
    let v := txView s units
    let failing := units.flatMap (fun u => (if unitOk s v u then [] else [wholeUnit s u]) ++
      ((setsOf s v u).filter (fun c => !c.ok)).map CfgSet.mem)
    (s.on R.GRN_CFGTX_STATUS_BUSY = true → exec .cfgtxCommit s = .next s) ∧
    (s.on R.GRN_CFGTX_STATUS_BUSY = false →
      (units = [] → Does .cfgtxCommit s (fun t => t.on R.GRN_CFGTX_STATUS_DONE = true ∧ t.g R.GRN_CFGTX_STATUS_SETS = 0 ∧
        OnlyFields s t R.GRN_CFGTX_STATUS [R.GRN_CFGTX_STATUS_DONE, R.GRN_CFGTX_STATUS_SETS])) ∧
      (failing ≠ [] → Does .cfgtxCommit s (fun t => t.on R.GRN_CFGTX_STATUS_REJECTED = true ∧ t.on R.GRN_CFGTX_STATUS_DONE = true ∧
        t.g R.GRN_CFGTX_STATUS_SETS = min 0xFFFF failing.length ∧ t.on R.GLB_CFGREJ_VALID = true ∧
        t.evl.inFlight.length = s.evl.inFlight.length + failing.length ∧ t.pend = s.pend ∧ t.stag = s.stag ∧ t.strobes = s.strobes ∧
        RegsBut s t [R.GLB_CFGREJ, R.GLB_CFGREJ_COUNT, R.GRN_CFGTX_STATUS])) ∧
      (units ≠ [] → failing = [] → Does .cfgtxCommit s (fun t => t.on R.GRN_CFGTX_STATUS_BUSY = true ∧
        ∀ u ∈ units, ∃ q ∈ t.strobes, q.unit = u ∧ q.checked = true)))

/-- Admin pairs start and stop; doorbells move a tail or a head or are ignored; queues are created and deleted (R368, R369, R371, R373, R374, R378, R400, R412). What rests on log entries 7, 38, 39, 40, 86, 91 is the model's choice and no rule of the spec. -/
def Obligations.QueuesAndDoorbells : Prop :=
  ∀ s : State, s.live = true →
    (∀ (fn : Fin 256) (q value : Nat), s.pcx.hold ≠ none →
      let waits := fun (i : Instr) (p : Posted) => exec i s = .next { s with pcx := { s.pcx with posted := s.pcx.posted ++ [p] } }
      waits (.adminQueueEnable fn) (.adminEnable fn) ∧ waits (.adminQueueDisable fn) (.adminDisable fn) ∧
      waits (.sqTailDoorbell fn q value) (.sqTail fn q value) ∧ waits (.cqHeadDoorbell fn q value) (.cqHead fn q value)) ∧
    (∀ fn : Fin 256, vfShut s fn = false → s.pcx.hold = none →
      (aqRd s fn 0x214 = 0#32 → 8192 < (pairsHeld (aqWr s fn 0x214 1#32)).length → Does (.adminQueueEnable fn) s (fun t =>
        aqRd t fn 0x214 = 1#32 ∧ t.hqe = s.hqe)) ∧
      (adminRuns s = true → aqRd s fn 0x214 = 0#32 → (pairsHeld (aqWr s fn 0x214 1#32)).length ≤ 8192 → Does (.adminQueueEnable fn) s (fun t => aqRd t fn 0x214 = 3#32 ∧
        (∃ q, sqOf t fn 0 = some q ∧ q.base = aqAddr s fn 0x200 ∧ q.size = max 1 ((aqRd s fn 0x210).toNat / 65536 % 4096) + 1 ∧
          q.head = 0 ∧ q.tail = 0 ∧ q.stopped = false) ∧
        ∃ q, cqOf t fn 0 = some q ∧ q.base = aqAddr s fn 0x208 ∧ q.size = max 1 ((aqRd s fn 0x210).toNat % 4096) + 1 ∧ q.phase = true ∧
          q.vector = 0 ∧ q.ien = true)) ∧
      (adminRuns s = false → Does (.adminQueueEnable fn) s (fun t => bitOf (aqRd t fn 0x214).toNat 0 = 1 ∧ t.hqe = s.hqe)) ∧
      (∀ q, sqOf s fn 0 = some q → (∃ c ∈ s.hqe.cmds, c.fn = fn ∧ c.sq = 0 ∧ c.window = none) →
        Does (.adminQueueDisable fn) s (fun t => bitOf (aqRd t fn 0x214).toNat 0 = 0 ∧ sqOf t fn 0 = some { q with stopped := true })) ∧
      (∀ q, sqOf s fn 0 = some q → (∀ c ∈ s.hqe.cmds, c.fn ≠ fn) → (∀ f ∈ s.hqe.fetched, f.fn ≠ fn) →
        Does (.adminQueueDisable fn) s (fun t => (aqRd t fn 0x214).toNat % 4 = 0 ∧ sqOf t fn 0 = none ∧ cqOf t fn 0 = none))) ∧
    (∀ (fn : Fin 256) (q value : Nat), bellShut s fn q = true →
      let none' := fun (t : State) => OnlyFields s { t with pcx := s.pcx } R.HQE_STATUS [R.HQE_STATUS_POWER]
      Does (.sqTailDoorbell fn q value) s none' ∧ Does (.cqHeadDoorbell fn q value) s none') ∧
    (∀ (fn : Fin 256) (q value : Nat), bellShut s fn q = false → s.pcx.hold = none →
      (∀ x, sqOf s fn q = some x → value % 65536 < x.size →
        (x.tail + x.size - x.head) % x.size + (value % 65536 + x.size - x.tail) % x.size ≤ x.size - 1 →
        Does (.sqTailDoorbell fn q value) s (fun t => sqOf t fn q = some { x with tail := value % 65536 } ∧
          OnlyFields s { t with hqe := s.hqe } R.HQE_STATUS [R.HQE_STATUS_POWER] ∧ t.g R.HQE_STATUS_POWER = 0 ∧
          ∀ k, k ≠ qKey fn q → smGet t.hqe.sqs k = smGet s.hqe.sqs k)) ∧
      (fn = 0 → (∀ x, sqOf s fn q = some x → x.size ≤ value % 65536 ∨
        x.size - 1 < (x.tail + x.size - x.head) % x.size + (value % 65536 + x.size - x.tail) % x.size) →
        Does (.sqTailDoorbell fn q value) s (fun t => t.hqe = s.hqe ∧ Logged s t 0x405 0xFF [0, q, value] 0)) ∧
      (∀ x, cqOf s fn q = some x → value % 65536 < x.size →
        (value % 65536 + x.size - x.head) % x.size ≤ (x.tail + x.size - x.head) % x.size →
        Does (.cqHeadDoorbell fn q value) s (fun t => cqOf t fn q = some { x with head := value % 65536 } ∧ t.g R.HQE_STATUS_POWER = 0 ∧
          ∀ k, k ≠ qKey fn q → smGet t.hqe.cqs k = smGet s.hqe.cqs k)) ∧
      (fn = 0 → cqOf s fn q = none → Does (.cqHeadDoorbell fn q value) s (fun t => t.hqe = s.hqe ∧
        Logged s t 0x405 0xFF [0, q + 2 ^ 31, value] 0))) ∧
    (∀ (tag : Nat), (running s tag 1 = none → exec (.createCq tag) s = .next s) ∧ (running s tag 2 = none → exec (.createSq tag) s = .next s) ∧
      (running s tag 3 = none → exec (.deleteSq tag) s = .next s) ∧ (running s tag 4 = none → exec (.deleteCq tag) s = .next s)) ∧
    (∀ (tag : Nat) (c : Cmd), running s tag 1 = some c →
      let q := c.sqe.a0
      (s.on R.HQE_STATUS_CLOSED = true → Does (.createCq tag) s (fun t => Answered s t c cNOT_READY 0)) ∧
      (s.on R.HQE_STATUS_CLOSED = false → (queueIdOk c.fn q = false ∨ cqOf s c.fn q ≠ none) →
        Does (.createCq tag) s (fun t => Answered s t c cBAD_FIELD 0 ∧ t.hqe.cqs = s.hqe.cqs)) ∧
      (s.on R.HQE_STATUS_CLOSED = false → queueIdOk c.fn q = true → cqOf s c.fn q = none →
        (pairsSpent s c.fn q = true → Does (.createCq tag) s (fun t => Answered s t c cNO_SPACE 0 ∧ t.hqe.cqs = s.hqe.cqs)) ∧
        (pairsSpent s c.fn q = false → Does (.createCq tag) s (fun t => Answered s t c cSUCCESS 0 ∧
          cqOf t c.fn q = some ⟨c.sqe.addr, c.sqe.a1, 0, 0, true, c.sqe.a2 % 2048, c.sqe.a2 / 65536 % 2 == 1⟩)))) ∧
    (∀ (tag : Nat) (c : Cmd), running s tag 2 = some c → s.on R.HQE_STATUS_CLOSED = false →
      let q := c.sqe.a0
      ((queueIdOk c.fn q = false ∨ sqOf s c.fn q ≠ none ∨ queueIdOk c.fn c.sqe.a2 = false ∨ cqOf s c.fn c.sqe.a2 = none) →
        Does (.createSq tag) s (fun t => Answered s t c cBAD_FIELD 0 ∧ t.hqe.sqs = s.hqe.sqs)) ∧
      (queueIdOk c.fn q = true → sqOf s c.fn q = none → queueIdOk c.fn c.sqe.a2 = true → cqOf s c.fn c.sqe.a2 ≠ none → pairsSpent s c.fn q = false →
        Does (.createSq tag) s (fun t => sqOf t c.fn q = some ⟨c.sqe.addr, c.sqe.a1, 0, 0, c.sqe.a2, c.sqe.a3 % 4, false, none⟩ ∧
          ∃ e, t.hqe.cqes = s.hqe.cqes ++ [e] ∧ e.tag = tag ∧ e.status = cSUCCESS))) ∧
    (∀ (tag : Nat) (c : Cmd), running s tag 3 = some c → (queueIdOk c.fn c.sqe.a0 = false ∨ sqOf s c.fn c.sqe.a0 = none) →
      Does (.deleteSq tag) s (fun t => Answered s t c cBAD_FIELD 0 ∧ t.hqe.sqs = s.hqe.sqs)) ∧
    (∀ (tag : Nat) (c : Cmd) (x : Sq), running s tag 3 = some c → sqOf s c.fn c.sqe.a0 = some x → queueIdOk c.fn c.sqe.a0 = true → x.delTag = none →
      (∀ f ∈ s.hqe.fetched, f.sq ≠ c.sqe.a0) →
      ((∀ d ∈ s.hqe.cmds, d.sq ≠ c.sqe.a0) → Does (.deleteSq tag) s (fun t => Answered s t c cSUCCESS 0 ∧ sqOf t c.fn c.sqe.a0 = none)) ∧
      (∀ d, cmdOf s d.tag = some d → d.sqe.op = oREAD → d.st = .running → s.hqe.cmds.filter (fun y => y.sq == c.sqe.a0) = [d] → d.fn = c.fn →
        d.window = none → Does (.deleteSq tag) s (fun t => Answered s t d cABORTED 0 ∧
          sqOf t c.fn c.sqe.a0 = some { x with stopped := true, delTag := some tag }))) ∧
    (∀ (tag : Nat) (c : Cmd), running s tag 4 = some c → (queueRange c.fn ≤ c.sqe.a0 ∨ cqOf s c.fn c.sqe.a0 = none) →
      Does (.deleteCq tag) s (fun t => Answered s t c cBAD_FIELD 0 ∧ t.hqe.cqs = s.hqe.cqs)) ∧
    (∀ (tag : Nat) (c : Cmd), running s tag 4 = some c → c.sqe.a0 < queueRange c.fn → cqOf s c.fn c.sqe.a0 ≠ none →
      ((∃ q ∈ s.hqe.sqs, q.1 / 8192 = c.fn ∧ q.2.cq = c.sqe.a0) → Does (.deleteCq tag) s (fun t => Answered s t c cBAD_STATE 0 ∧
        t.hqe.cqs = s.hqe.cqs)) ∧
      (c.sqe.a0 ≠ 0 → (∀ q ∈ s.hqe.sqs, q.1 / 8192 = c.fn → q.2.cq ≠ c.sqe.a0) → Does (.deleteCq tag) s (fun t =>
        (∃ e, t.hqe.cqes = s.hqe.cqes ++ [e] ∧ e.tag = tag ∧ e.status = cSUCCESS) ∧ cqOf t c.fn c.sqe.a0 = none)))

/-- COMMAND_FETCH, COMMAND_ADMISSION with its checks and versions, COMPLETION_POSTED (R333, R334, R344, R372, R374, R377, R379, R382, R384, R388, R389, R399). What rests on log entries 7, 16, 39, 40, 67, 79 is the model's choice and no rule of the spec. -/
def Obligations.FetchAdmitAndPost : Prop :=
  ∀ s : State, s.live = true →
    (contained s = true ∨ 16384 ≤ (s.hqe.cmds.filter (fun c => c.window.isNone)).length + s.hqe.fetched.length ∨ arbitrate s = none →
      exec .commandFetch s = .next s) ∧
    (∀ k a x, arbitrate s = some (k, a) → smGet s.hqe.sqs k = some x → contained s = false →
      (s.hqe.cmds.filter (fun c => c.window.isNone)).length + s.hqe.fetched.length < 16384 →
      Does .commandFetch s (fun t => t.hqe = { s.hqe with
        arb := a, nextFetch := s.hqe.nextFetch + 1,
        fetched := s.hqe.fetched ++ [⟨s.hqe.nextFetch, k / 8192, k % 8192, nextSlot s k x, none, none, false, [], 0, true⟩] } ∧
        ((∃ r ∈ t.pcx.wait, r.use = .sqe s.hqe.nextFetch) ∨ ∃ r ∈ t.pcx.reqs, r.read.use = .sqe s.hqe.nextFetch))) ∧
    (∀ k a, arbitrate s = some (k, a) → s.hqe.arb.grant = none → (∃ q ∈ s.hqe.sqs, q.2.cls = 4 ∧ canFetch s q.1 q.2 = true) →
      ∃ q ∈ s.hqe.sqs, q.1 = k ∧ q.2.cls = 4 ∧ canFetch s q.1 q.2 = true) ∧
    (∀ rivals, nextFetched s = none → exec (.commandAdmission rivals) s = .next s) ∧
    (∀ f e rivals, nextFetched s = some f → f.sqe = some e → (f.descs ≠ none ∨ f.failed = true) → (∃ t < 16384, ∀ c ∈ s.hqe.cmds, c.tag ≠ t) →
      let ds := if listed e then f.descs.getD [] else [⟨e.addr, xferLen e⟩]
      let ver := topVersion s e.vol e.lba e.blocks + 1
      let c : Cmd := ⟨newTag s, f.fn, f.sq, e, s.hqe.nextAdm, .running, if e.op = oWRITE then ver else 0, [], none, none, 0, false, ds, none, none,
        if e.op = oREAD then hiddenGroups s else []⟩
      let only := fun (t : State) => t = { s with regs := t.regs, hqe := t.hqe, free := t.free, buf := t.buf } ∧ t.buf.pages = s.buf.pages
      let kept := ∀ x, sqOf s f.fn f.sq = some x → x.delTag = none
      (∀ d ∈ s.hqe.cmds, d.tag ≠ newTag s) ∧
      (∀ st, checks s f e ds = some st → Does (.commandAdmission rivals) s (fun t => Answered s t c st 0 ∧ Counted s t R.HQE_CNT_ADMITTED 1 ∧
        Counted s t R.HQE_CNT_REJECTED 1 ∧ t.hqe.nextAdm = s.hqe.nextAdm + 1 ∧ only t ∧
        RegsBut s t [R.HQE_CNT_ADMITTED, R.HQE_CNT_REJECTED, R.HQE_TAGS, R.BUF_POOL_FREE])) ∧
      (checks s f e ds = none → frozenVf s f.fn = false →
        (e.op = oWRITE → (s.on R.GRN_STATUS_MAP_LOW = true ∨ serialSpent s = true ∨ 2 ^ 32 ≤ ver) →
          Does (.commandAdmission rivals) s (fun t => Answered s t c cNO_SPACE 0 ∧ only t ∧
            RegsBut s t [R.HQE_CNT_ADMITTED, R.HQE_TAGS, R.BUF_POOL_FREE])) ∧
        (e.op = oWRITE → kept → s.on R.GRN_STATUS_MAP_LOW = false → serialSpent s = false → ver < 2 ^ 32 → Does (.commandAdmission rivals) s (fun t =>
          t.hqe.cqes = s.hqe.cqes ∧ ∃ d, cmdOf t (newTag s) = some d ∧ d.st = .running ∧ d.ver = ver ∧ d.sqe = e ∧ d.adm = s.hqe.nextAdm)) ∧
        (e.op = oREAD → ¬ kept → Does (.commandAdmission rivals) s (fun t => Answered s t c cABORTED 0)) ∧
        (e.op = oFLUSH → kept → Does (.commandAdmission rivals) s (fun t => t.hqe.cqes = s.hqe.cqes ∧ ∃ d, cmdOf t (newTag s) = some d ∧ d.sqe = e ∧
          d.cover = if heldBack s c then none else some (coverOf s e.vol, mappedOf s e.vol))) ∧
        (∀ r, e.op = oREEL_CLOSE → reelOf s e.reel = some r →
          (reelBeaten s r.vol (fnMaster f.fn) true rivals = true → Does (.commandAdmission rivals) s (fun t => Answered s t c cSUPERSEDED 0 ∧ only t)) ∧
          (reelBeaten s r.vol (fnMaster f.fn) true rivals = false → Does (.commandAdmission rivals) s (fun t => t.hqe.cqes = s.hqe.cqes ∧
            ∃ q, reelOf t e.reel = some q ∧ q.st = .closing ∧ q.closeTag = some (newTag s) ∧ q.window = none))) ∧
        (e.op = oREEL_OPEN → e.a0 ≠ 0xFFFF → reelBeaten s e.vol (fnMaster f.fn) false rivals = true →
          Does (.commandAdmission rivals) s (fun t => Answered s t c cSUPERSEDED 0 ∧ only t)) ∧
        (e.op ≠ oWRITE → e.op ≠ oCOMMIT_CLOSE → e.op ≠ oFLUSH → e.op ≠ oREEL_CLOSE → (e.op = oREAD → kept) →
          (e.op = oREEL_OPEN → rivals = []) → Does (.commandAdmission rivals) s (fun t => t.hqe.cmds = s.hqe.cmds ++ [c] ∧
          t.hqe.cqes = s.hqe.cqes ∧ only t)))) ∧
    (∀ (fn : Fin 256) (cq : Nat), (s.hqe.cqes.find? (fun e => e.fn == fn.val && e.cq == cq) = none → exec (.completionPosted fn cq) s = .next s) ∧
      (∀ e q, s.hqe.cqes.find? (fun e => e.fn == fn.val && e.cq == cq) = some e → cqOf s fn cq = some q →
        (contained s = true ∨ frozenVf s fn = true ∨ (q.tail + 1) % q.size = q.head → exec (.completionPosted fn cq) s = .next s) ∧
        (contained s = false → frozenVf s fn = false → (q.tail + 1) % q.size ≠ q.head → (∀ x, sqOf s fn e.sq = some x → x.delTag = none) →
          (∀ x, sqOf s fn 0 = some x → x.stopped = false) → s.hqe.powerTag = none → Does (.completionPosted fn cq) s (fun t =>
            t.hqe.cqes = s.hqe.cqes.filter (fun x => x != e) ∧ t.hqe.cmds = s.hqe.cmds.filter (fun c => c.tag != e.tag) ∧
            cqOf t fn cq = some { q with
              tail := (if q.tail + 1 = q.size then 0 else q.tail + 1), phase := (if q.tail + 1 = q.size then !q.phase else q.phase) } ∧
            (atsOn s fn = false → busMaster s fn = true → s.pcx.tx = [] → q.base % 16 = 0 →
              let tlp : Out := .memWrite fn (q.base + 16 * q.tail) (cqeBytes e (((sqOf s fn e.sq).map Sq.head).getD 0) q.phase) false
              (if ecrcSent s then .digest tlp else tlp) ∈ t.out)))))

/-- ABORT and its request, SET_POWER, STATION_ORDER, RETIRE_PAGE (R293, R328, R386, R394, R395, R400, R401). What rests on log entries 7, 39 is the model's choice and no rule of the spec. -/
def Obligations.AdminOrders : Prop :=
  ∀ (s : State) (tag : Nat), s.live = true →
    (∀ (l : List Rival) (img : List (BitVec 8)), (running s tag 5 = none → exec (.abort tag) s = .next s ∧ exec (.abortRequestArrival tag) s = .next s) ∧
      (running s tag 6 = none → exec (.setPower tag) s = .next s) ∧ (running s tag 7 = none → exec (.stationOrder tag l img) s = .next s) ∧
      (running s tag 8 = none → exec (.retirePage tag) s = .next s)) ∧
    (∀ c, running s tag 5 = some c →
      ((∀ d ∈ s.hqe.cmds, ¬ (d.fn = c.fn ∧ d.sq = c.sqe.a0 ∧ d.sqe.cid = c.sqe.a1 % 65536 ∧ abortable d = true)) →
        Does (.abort tag) s (fun t => Answered s t c cNOT_FOUND 0)) ∧
      (∀ d, s.hqe.cmds.filter (fun d => d.fn == c.fn && d.sq == c.sqe.a0 && d.sqe.cid == c.sqe.a1 % 65536) = [d] → abortable d = true →
        d.abortBy = none → Does (.abort tag) s (fun t => t.hqe.cqes = s.hqe.cqes ∧
          t.hqe.cmds = s.hqe.cmds.map (fun x => if x.tag = d.tag then { x with abortBy := some tag } else x) ∧ t = { s with hqe := t.hqe })) ∧
      (∀ d, s.hqe.cmds.filter (fun d => d.fn == c.fn && d.sq == c.sqe.a0 && d.sqe.cid == c.sqe.a1 % 65536) = [d] → abortable d = true →
        d.abortBy ≠ none → exec (.abort tag) s = .next s) ∧
      (∀ d, s.hqe.cmds.find? (fun d => d.abortBy == some tag) = some d →
        (abortable d = false → Does (.abortRequestArrival tag) s (fun t => Answered s t c cNOT_FOUND 0 ∧ ∀ x ∈ s.hqe.cmds, x.tag ≠ tag → x ∈ t.hqe.cmds)) ∧
        (d.sqe.op = oREAD → d.st = .running → d.window = none → cmdOf s d.tag = some d → d.tag ≠ tag →
          Does (.abortRequestArrival tag) s (fun t => ∃ u, Answered s u d cABORTED 0 ∧ t.hqe.cqes.length = u.hqe.cqes.length + 1 ∧
            (∃ e, t.hqe.cqes = u.hqe.cqes ++ [e] ∧ e.tag = tag ∧ e.status = cSUCCESS) ∧ Counted s t R.HQE_CNT_ABORTED 1)))) ∧
    (∀ c, running s tag 6 = some c → s.hqe.powerTag ≠ some tag →
      (s.hqe.powerTag = none → (∀ d ∈ s.hqe.cmds, d.tag ≠ tag → d.st = .completing) → s.hqe.fetched = [] → c.sqe.a0 ≤ 2 →
        (c.sqe.a0 = 2 → s.buf.pages = [] ∧ ∀ n ∈ stations, hasWork s n = false) → Does (.setPower tag) s (fun t => Answered s t c cSUCCESS c.sqe.a0 ∧
          t.g R.HQE_STATUS_POWER = c.sqe.a0 ∧ t.on R.HQE_STATUS_ENTERING = false ∧ RegsBut s t [R.HQE_STATUS])) ∧
      (s.hqe.powerTag = none → (∃ d ∈ s.hqe.cmds, d.tag ≠ tag ∧ d.st ≠ .completing) → Does (.setPower tag) s (fun t =>
        t.hqe = { s.hqe with powerTag := some tag } ∧ t.on R.HQE_STATUS_ENTERING = true ∧
        OnlyFields s { t with hqe := s.hqe } R.HQE_STATUS [R.HQE_STATUS_ENTERING])) ∧
      (∀ p d, s.hqe.powerTag = some p → running s p 6 = some d → (∃ x ∈ s.hqe.cmds, x.tag ≠ tag ∧ x.tag ≠ p ∧ x.st ≠ .completing) →
        Does (.setPower tag) s (fun t => Answered s t d cSUPERSEDED 0 ∧ t.hqe.powerTag = some tag))) ∧
    (∀ c (l : List Rival) (img : List (BitVec 8)), running s tag 7 = some c →
      let n := stnOf c.sqe.a0
      let r := stationOrder s n (if c.fn = 0 then .pf else .vf c.fn) (c.sqe.a1 % 16) (bitOf c.sqe.a1 8 == 1) img l
      exec (.stationOrder tag l img) s = .next (complete r.2 tag
        (if r.1 = 1 then cSUCCESS else if r.1 = 2 then cSUPERSEDED else if r.1 = 3 then cNOT_OWNER else cBAD_STATE) (r.2.g (R.STN_CMD_RESULT_SEQ n))) ∧
      (1 ≤ c.sqe.a1 % 16 → c.sqe.a1 % 16 ≤ 7 →
        let m : Master := if c.fn = 0 then .pf else .vf c.fn
        let beaten := l.any (fun x => orderBeats s n x m (c.sqe.a1 % 16))
        let effect := orderEffect s n (c.sqe.a1 % 16) (bitOf c.sqe.a1 8 == 1) img
        let seq := fun (u : State) => (u.g (R.STN_CMD_RESULT_SEQ n) + 1) % 256
        let ends := fun (st : Nat) => Does (.stationOrder tag l img) s (fun t => Answered s t c st (seq s) ∧ RegsBut s t [R.STN_CMD_RESULT n])
        (isOwner s n m = false → ends cNOT_OWNER) ∧ (isOwner s n m = true → beaten = true → ends cSUPERSEDED) ∧
        (isOwner s n m = true → beaten = false → effect = none → ends cBAD_STATE) ∧
        (∀ u, isOwner s n m = true → beaten = false → effect = some u → cmdOf u tag = some c → Does (.stationOrder tag l img) s (fun t =>
          Answered u t c cSUCCESS (seq u) ∧ t.g (R.STN_CMD_RESULT_RESULT n) = 1 ∧ RegsBut u t [R.STN_CMD_RESULT n])))) ∧
    (∀ c, running s tag 8 = some c →
      (s.buf.retired.contains (c.sqe.a0, c.sqe.a1) = true → Does (.retirePage tag) s (fun t => Answered s t c cSUCCESS 0 ∧ t.buf = s.buf)) ∧
      (s.buf.retired.contains (c.sqe.a0, c.sqe.a1) = false → 4096 ≤ s.buf.retired.length → Does (.retirePage tag) s (fun t =>
        Answered s t c cNO_SPACE 0 ∧ t.buf = s.buf)) ∧
      (s.buf.retired.contains (c.sqe.a0, c.sqe.a1) = false → s.buf.retired.length < 4096 → c.sqe.a0 = 0 → smGet s.buf.pages c.sqe.a1 = none →
        Does (.retirePage tag) s (fun t => Answered s t c cSUCCESS 0 ∧ t.buf.retired = s.buf.retired ++ [(0, c.sqe.a1)] ∧
          t.buf.pages = s.buf.pages)))

/-- WRITE takes pages and reads its data; acknowledgement; READ of the newest visible version; FLUSH takes a checkpoint (R132, R134, R153, R318, R335, R353, R359, R380, R381, R382, R391, R392). What rests on log entries 7, 16, 37, 67, 79 is the model's choice and no rule of the spec. -/
def Obligations.ReadsWritesAndFlushes : Prop :=
  ∀ (s : State) (tag : Nat), s.live = true →
    (∀ errs, running s tag oREAD = none → exec (.read tag errs) s = .next s) ∧ (running s tag oFLUSH = none → exec (.flush tag) s = .next s) ∧
    (cmdOf s tag = none → exec (.write tag) s = .next (poolWritten s)) ∧ (s.on R.BUF_STATUS_INIT_DONE = true → poolWritten s = s) ∧
    (∀ c, running s tag oWRITE = some c → s.on R.BUF_STATUS_INIT_DONE = true → c.dead = true → c.left = none → Does (.write tag) s (fun t =>
      (∃ d, cmdOf t tag = some d ∧ d.left = some (cutRuns (maxRead s c.fn) 0 c.descs).length ∧ d.bpns = c.bpns) ∧ t.buf = s.buf)) ∧
    (∀ c, running s tag oWRITE = some c → c.bpns = [] → c.dead = false →
      (s.on R.BUF_STATUS_INIT_DONE = true → poolFree s < c.sqe.blocks → 1 ≤ c.sqe.blocks → exec (.write tag) s = .next s) ∧
      (1 ≤ c.sqe.blocks → c.sqe.blocks ≤ poolFree s → s.on R.BUF_STATUS_INIT_DONE = true → c.left = none → Does (.write tag) s (fun t =>
        ∃ d, cmdOf t tag = some d ∧ d.bpns.length = c.sqe.blocks ∧ d.left = some (cutRuns (maxRead s c.fn) 0 c.descs).length ∧
          d.ver = c.ver ∧ t.hqe.cqes = s.hqe.cqes))) ∧
    (cmdOf s tag = none → exec (.writeAcknowledge tag) s = .next s) ∧
    (∀ c, cmdOf s tag = some c → (ackReady s c = false → exec (.writeAcknowledge tag) s = .next s) ∧
      (ackReady s c = true → c.window = none → c.sqe.reel = 0 → Does (.writeAcknowledge tag) s (fun t => Answered s t c cSUCCESS c.ver))) ∧
    (∀ c errs, running s tag oREAD = some c → (heldBack s c = true → exec (.read tag errs) s = .next s) ∧
      (heldBack s c = false → ∀ l u, readBlocks (pageErrors s (readPages s c) errs) c.hidden c.sqe.vol c.sqe.version
          ((List.range c.sqe.blocks).map (fun i => c.sqe.lba + i)) = (l, u) →
        (.wait ∈ l → exec (.read tag errs) s = .next u) ∧
        (.wait ∉ l → cmdOf u tag = some c → ∃ t, exec (.read tag errs) s = .next t ∧ Counted u t R.TPZ_CNT_RECONSTRUCTED
            (l.filterMap (fun x => match x with | .data _ _ o _ => o | _ => none)).eraseDups.length ∧
          Counted u t R.CGL_CNT_REMOTE_READS (if l.any (fun x => match x with | .data _ _ _ far => far | _ => false) then 1 else 0) ∧
          ∃ e, t.hqe.cqes = u.hqe.cqes ++ [e] ∧ e.tag = tag ∧ e.cid = c.sqe.cid ∧
          (.bad ∉ l → e.status = cSUCCESS ∧ e.result = 0) ∧ (.bad ∈ l → e.status = cMEDIA ∧ l[e.result]? = some .bad ∧ e.degraded = false ∧
            ∀ i < e.result, l[i]? ≠ some .bad))) ∧
      pageErrors s (readPages s c) [] = s) ∧
    (∀ hid v b top, shadowed s v = false →
      (pageOf s hid v b top = none → selectLogical s hid v b top = none →
        readBlock s (blockPlace s hid v b top) b = (.data (List.replicate 4096 0#8) false none false, s)) ∧
      (∀ n p, pageOf s hid v b top = some (n, p) → (∀ q, selectLogical s hid v b top = some q → q.2.version < p.ver) →
        readBlock s (blockPlace s hid v b top) b = (if p.lost then .bad else .data p.bytes false none false, s)) ∧
      (∀ n p, pageOf s hid v b top = some (n, p) → grpVisible s p.group = true ∧ p.group ∉ hid ∧ (n, p) ∈ s.buf.pages)) ∧
    (∀ c, running s tag oFLUSH = some c → (c.note ≠ 0 ∨ heldBack s c = true → exec (.flush tag) s = .next s) ∧
      (c.note = 0 → heldBack s c = false → pairMode s = 0 →
        let all := c.cover.getD (coverOf s c.sqe.vol, mappedOf s c.sqe.vol)
        let u := closeCovered (cmdU s tag (fun d => { d with cover := some all })) all.1
        (coverMapped u all.1 = false → exec (.flush tag) s = .next u) ∧
        ((∀ p ∈ s.buf.pages, covered all.1 p.2 = false) → (∃ n ∈ availSet s, 577 ≤ mapRoom s n) → Does (.flush tag) s (fun t =>
          (∃ k, t.grn.ckpts = s.grn.ckpts ++ [k] ∧ k.tags = [tag] ∧ k.seq = s.grn.nextSeq) ∧ t.tpz.stripes = s.tpz.stripes ∧
          t.hqe.cmds = s.hqe.cmds.map (fun d => if d.tag = tag then { d with cover := some all, note := 1 } else d)))))

/-- COMMIT_OPEN and COMMIT_CLOSE, REEL_OPEN and REEL_CLOSE, SEAL and the signing of a manifest (R351, R352, R354, R363, R383, R384, R385, R476). What rests on log entries 7, 31, 35, 40 is the model's choice and no rule of the spec. -/
def Obligations.GroupsReelsAndSeals : Prop :=
  ∀ (s : State) (tag : Nat), s.live = true →
    ((running s tag oCOMMIT_OPEN = none → exec (.commitOpen tag) s = .next s) ∧
      (running s tag oCOMMIT_CLOSE = none → exec (.commitClose tag) s = .next s) ∧ (running s tag oREEL_OPEN = none → exec (.reelOpen tag) s = .next s) ∧
      (running s tag oREEL_CLOSE = none → exec (.reelClose tag) s = .next s) ∧ (running s tag oSEAL = none → exec (.seal tag) s = .next s)) ∧
    (∀ c, running s tag oCOMMIT_OPEN = some c →
      let id := s.grn.nextGroup
      (2 ^ 32 ≤ id ∨ 4096 ≤ s.g R.GRN_GROUPS_OPEN_COUNT → Does (.commitOpen tag) s (fun t => Answered s t c cNO_SPACE 0 ∧ t.grn = s.grn)) ∧
      (id < 2 ^ 32 → s.g R.GRN_GROUPS_OPEN_COUNT < 4096 →
        (s.grn.ceilGroup ≤ id → exec (.commitOpen tag) s = .next (ceilingCkpt s) ∧
          (s.on R.GRN_STATUS_LOADED = true → s.grn.ckpts = [] → Does (.commitOpen tag) s (fun t => t.hqe = s.hqe ∧ t.grn.nextGroup = id ∧
            (t.grn.ceilingDue = true ∨ ∃ k, t.grn.ckpts = [k] ∧ k.tags = [])))) ∧
        (id < s.grn.ceilGroup → Does (.commitOpen tag) s (fun t => Answered s t c cSUCCESS id ∧ t.grn.nextGroup = id + 1 ∧
          t.grn.groups = s.grn.groups ++ [⟨id, c.fn, .opened, 0, 0, none⟩])))) ∧
    (∀ c, running s tag oCOMMIT_CLOSE = some c → ∀ g, grpOf s c.sqe.group = some g →
      (g.st ≠ .rolledBack → exec (.commitClose tag) s = .next s) ∧
      (g.st = .rolledBack → Does (.commitClose tag) s (fun t => Answered s t c cROLLED_BACK 0 ∧ grpOf t c.sqe.group = none))) ∧
    (∀ c, running s tag oREEL_OPEN = some c →
      let full := 2 ^ 32 ≤ s.grn.nextReel ∨ 1024 ≤ (s.grn.reels.filter (fun r => r.st == .opened && !r.copy)).length
      let w := c.sqe.a0 % 256
      (full → Does (.reelOpen tag) s (fun t => Answered s t c cNO_SPACE 0 ∧ t.grn = s.grn)) ∧
      (¬ full → c.sqe.a0 ≠ 0xFFFF → s.on (R.PCX_WIN_STATUS_BOUND w) = true → Does (.reelOpen tag) s (fun t => Answered s t c cBAD_STATE 0 ∧
        t.grn = s.grn)) ∧
      (¬ full → (c.sqe.a0 = 0xFFFF ∨ s.on (R.PCX_WIN_STATUS_BOUND w) = false) →
        (s.grn.ceilReel ≤ s.grn.nextReel → exec (.reelOpen tag) s = .next (ceilingCkpt s)) ∧
        (s.grn.nextReel < s.grn.ceilReel → Does (.reelOpen tag) s (fun t => Answered s t c cSUCCESS s.grn.nextReel ∧
          t.grn.nextReel = s.grn.nextReel + 1 ∧ (∃ r, t.grn.reels = s.grn.reels ++ [r] ∧ r.serial = s.grn.nextReel ∧ r.vol = c.sqe.vol ∧
            r.lba = c.sqe.lba ∧ r.st = .opened ∧ r.blocks = 0 ∧ r.fn = c.fn) ∧
          (c.sqe.a0 ≠ 0xFFFF → t.on (R.PCX_WIN_STATUS_BOUND w) = true ∧ t.g (R.PCX_WIN_REEL_REEL w) = s.grn.nextReel % 2 ^ 32 ∧
            t.g64 (R.PCX_WIN_ACK_LO w) = 0))))) ∧
    (∀ c r, running s tag oREEL_CLOSE = some c → reelOf s c.sqe.reel = some r →
      (r.closeTag ≠ some tag → Does (.reelClose tag) s (fun t => Answered s t c cBAD_STATE 0 ∧ t.grn = s.grn)) ∧
      (r.closeTag = some tag → exec (.reelClose tag) s = .next (closeReel s c.sqe.reel)) ∧
      (r.closeTag = some tag → r.st = .closing → reelDrained s r = false → exec (.reelClose tag) s = .next s) ∧
      (r.closeTag = some tag → r.st = .closing → r.copy = false → pairMode s = 0 → s.buf.pages = [] → s.tpz.stripes = [] →
        (∀ d ∈ s.hqe.cmds, d.sqe.op ≠ oWRITE) → Does (.reelClose tag) s (fun t => Answered s t c cSUCCESS 0 ∧
          ∃ q, reelOf t c.sqe.reel = some q ∧ q.st = .closed ∧ q.closeTime = s.now))) ∧
    (∀ c, running s tag oSEAL = some c → (c.note ≠ 0 → exec (.seal tag) s = .next s) ∧
      (∀ bs, c.note = 0 → sealSrc s (sealName s c.sqe.reel) = .have' bs →
        (c.sqe.a0 < bs.length → Does (.seal tag) s (fun t => Answered s t c cBAD_FIELD bs.length ∧ t.out = s.out ∧ t.pcx = s.pcx)) ∧
        (bs.length ≤ c.sqe.a0 → (∃ q ∈ seals s, q.2.reel = sealName s c.sqe.reel) → (∃ n ∈ availSet s, 577 ≤ mapRoom s n) →
          Does (.seal tag) s (fun t => (∃ k, t.grn.ckpts = s.grn.ckpts ++ [k] ∧ k.tags = [tag]) ∧ t.hqe.cqes = s.hqe.cqes ∧
            ∃ d, cmdOf t tag = some d ∧ d.note = bs.length)))) ∧
    (∀ serial, (∀ r, reelOf s serial = some r → r.st ≠ .closed ∨ newStripe s r.vol r.serial = none) → exec (.manifestSign serial) s = .next s) ∧
    (∀ serial r q, reelOf s serial = some r → r.st = .closed → newStripe s r.vol r.serial = some q → Does (.manifestSign serial) s (fun t =>
      t.tru.manifests = (⟨serial, manifestOf Config.uid.toNat r⟩ :: s.tru.manifests).take 4096 ∧ Counted s t R.TRU_CNT_SEALS 1 ∧
      (∃ x, reelOf t serial = some x ∧ x.st = .signed) ∧ RegsBut s t [R.TRU_CNT_SEALS]))

/-- Function level, hot and fundamental resets, VF Enable, configuration requests (R38, R402, R404, R405, R407, R409, R411, R415, R428). What rests on log entries 7, 9, 41, 68, 91 is the model's choice and no rule of the spec. -/
def Obligations.EndpointResetsAndConfig : Prop :=
  (∀ s : State, s.live = true →
    let gone := fun (t : State) (fn : Nat) => (∀ q ∈ t.hqe.sqs, q.1 / 8192 ≠ fn) ∧ (∀ q ∈ t.hqe.cqs, q.1 / 8192 ≠ fn) ∧
      (∀ c ∈ t.hqe.cmds, c.fn = fn → c.window ≠ none) ∧ (∀ e ∈ t.hqe.cqes, e.fn ≠ fn) ∧ (∀ f ∈ t.hqe.fetched, f.fn ≠ fn) ∧
      (∀ e ∈ t.pcx.ats, e.fn ≠ fn) ∧ aqRd t fn 0x214 = 0#32 ∧ aqRd t fn 0x200 = 0#32
    (∀ fn : Fin 256, (fnOn s fn = false → exec (.functionLevelReset fn) s = .next s) ∧
      (fnOn s fn = true → Does (.functionLevelReset fn) s (fun t => gone t fn ∧ t.g R.PCX_CONTAIN_CONTAINED = s.g R.PCX_CONTAIN_CONTAINED))) ∧
    Does (.functionLevelReset 0) s (fun t => (∀ v, 1 ≤ v → v ≤ numVfs s → gone t v) ∧ numVfs t = 0) ∧
    (∀ down : Bool, Does (.hotReset down) s (fun t => (∀ v, v ≤ numVfs s → gone t v) ∧ numVfs t = 0 ∧
      contained t = (down || contained s))) ∧
    Does .fundamentalReset s (fun t => (∀ v, v ≤ numVfs s → gone t v) ∧ contained t = false ∧ t.on R.GLB_RESET_CAUSE_FUNDAMENTAL = true ∧
      t.pcx.reqs = []) ∧
    (let want := (cfgRd s 0 0x230).toNat % 65536
     (7 < want → cfgBit s 0 0x228 4 = false → Does (.vfEnable true) s (fun t => numVfs t = numVfs s)) ∧
     (want ≤ 7 ∨ cfgBit s 0 0x228 4 = true → Does (.vfEnable true) s (fun t => numVfs t = want)) ∧
     Does (.vfEnable false) s (fun t => numVfs t = 0 ∧ ∀ v, 1 ≤ v → v ≤ numVfs s → gone t v)) ∧
    (∀ r : CfgReq, let wire := fun (s : State) (o : Out) => if ecrcSent s then Out.digest o else o
      (r.kind = .io ∨ r.kind = .atomic → exec (.configRequest r) s = .next (if contained s then s else s.emit (wire s (.refused r.fn)))) ∧
      (r.kind = .config0 ∨ r.kind = .config1 → s.sys.ready = false → exec (.configRequest r) s = .next (s.emit (wire s (.cfgDone r.fn none)))) ∧
      (r.kind = .config1 → s.sys.ready = true → exec (.configRequest r) s = .next (s.emit (wire s (.refused r.fn)))) ∧
      (r.kind = .config0 → s.sys.ready = true →
        (fnOn s r.fn = false → exec (.configRequest r) s = .next (s.emit (wire s (.refused r.fn)))) ∧
        (fnOn s r.fn = true → r.write = false →
          exec (.configRequest r) s = .next (s.emit (wire s (.cfgDone r.fn (some (cfgRd s r.fn (4 * r.dw.val))))))) ∧
        (fnOn s r.fn = true → r.write = true → 4 * r.dw.val ∉ [0x04, 0x44, 0x78, 0x228] →
          let m := BitVec.ofNat 32 (cfgMask r.fn (4 * r.dw.val)) &&& beMask r.be
          let c := BitVec.ofNat 32 (cfgClear r.fn (4 * r.dw.val)) &&& beMask r.be &&& r.data
          Does (.configRequest r) s (fun t => cfgRd t r.fn (4 * r.dw.val) =
            ((cfgRd s r.fn (4 * r.dw.val) &&& ~~~ m) ||| (r.data &&& m)) &&& ~~~ c)) ∧
        (fnOn s r.fn = true → r.write = true → 4 * r.dw.val = 0x44 → r.data.toNat % 4 = 1 ∨ r.data.toNat % 4 = 2 →
          Does (.configRequest r) s (fun t => cfgRd t r.fn 0x44 = cfgRd s r.fn 0x44)) ∧
        (fnOn s r.fn = true → r.write = true → Does (.configRequest r) s (fun t => wire t (.cfgDone r.fn (some 0#32)) ∈ t.out))))) ∧
  ∀ (s : State) (r : CfgReq), s.up = true → s.sys.ready = true → s.on R.TRU_STATUS_RECOVERY = true → r.kind = .config0 →
    let wire := fun (s : State) (o : Out) => if ecrcSent s then Out.digest o else o
    (r.fn ≠ 0 → exec (.configRequest r) s = .next (s.emit (wire s (.refused r.fn)))) ∧
    (r.fn = 0 → 0x18 ≤ 4 * r.dw.val → 4 * r.dw.val ≤ 0x24 → exec (.configRequest r) s = .next (s.emit (wire s (.cfgDone r.fn (some 0#32)))))

/-- A function level reset clears the shadows of its function; a device reset clears every shadow (R53). -/
def Obligations.ShadowsAreCleared : Prop :=
  (∀ (s : State) (fn : Fin 256), s.live = true → fnOn s fn = true → Does (.functionLevelReset fn) s (fun t =>
      (∀ x ∈ t.rdShadows, x.req ≠ (if fn = 0 then .pf else .vf fn)) ∧ (∀ x ∈ t.wrShadows, x.req ≠ (if fn = 0 then .pf else .vf fn)))) ∧
    (∀ s : State, Does .pwrgoodLow s (fun t => t.rdShadows = [] ∧ t.wrShadows = [])) ∧
    (∀ s : State, s.sys.held = .power → Does .powerGood s (fun t => t.rdShadows = [] ∧ t.wrShadows = [])) ∧
    (∀ (s : State) (c : FRef) (w : Bool), (deviceReset s c w).rdShadows = [] ∧ (deviceReset s c w).wrShadows = []) ∧
    (∀ s : State, s.sys.held ≠ .power → Does .jtagTestInstruction s (fun t => t.rdShadows = [] ∧ t.wrShadows = [])) ∧
    (∀ s : State, s.up = true → Does .restart s (fun t => t.rdShadows = [] ∧ t.wrShadows = []) ∧
      Does .watchdogExpiry s (fun t => t.rdShadows = [] ∧ t.wrShadows = []) ∧
      ∀ v : Vector Int 8, (∃ k : Fin 8, 8640 ≤ v[k]) → Does (.tempSensorUpdate v) s (fun t => t.rdShadows = [] ∧ t.wrShadows = [])) ∧
    (∀ (s : State) (w : BitVec 32), s.live = true → getF w R.GLB_RESET_KEY = 0x0FA5 → getF w R.GLB_RESET_DEVICE = 1 →
      Does (.glbReset w) s (fun t => t.rdShadows = [] ∧ t.wrShadows = []))

/-- CONTAINED is entered and left; lanes fail, the link comes up, frozen masters are released (R404, R406, R415, R425, R426, R427, R430, R434). What rests on log entries 7, 41, 42 is the model's choice and no rule of the spec. -/
def Obligations.ContainmentAndLinks : Prop :=
  ∀ s : State, s.live = true →
    (∀ c : ContainCause, (c = .ecrc → ecrcChecked s = false → exec (.containmentEvent c) s = .next s) ∧
      (contained s = false → (c = .ecrc → ecrcChecked s = true) → Does (.containmentEvent c) s (fun t => contained t = true ∧
        t.g R.PCX_CONTAIN_CAUSE = containCode c ∧ t.pcx.reqs = [] ∧ t.pcx.ats = [] ∧ (c = .linkDown → t.on R.PCX_LINK_DL_UP = false) ∧
        (s.pcx.reqs = [] → Logged s t 0x401 0xFF [containCode c] 0) ∧ (∀ r ∈ s.pcx.reqs, ∃ q ∈ t.pcx.quarantine, q.1 = r.tag))) ∧
      (contained s = true → Does (.containmentEvent c) s (fun t => RegsBut s t [R.PCX_LINK] ∧ t.evl = s.evl))) ∧
    (contained s = false ∨ s.on R.PCX_LINK_DL_UP = false →
      exec .containReleaseResume s = .next s ∧ exec .containReleaseDiscard s = .next s) ∧
    (contained s = true → s.on R.PCX_LINK_DL_UP = true →
      Does .containReleaseResume s (fun t => contained t = false ∧ t.g R.PCX_CONTAIN_CAUSE = 0 ∧ t.hqe = s.hqe ∧ t.pcx.quarantine = [] ∧
        t.buf = s.buf) ∧
      Does .containReleaseDiscard s (fun t => contained t = false ∧ t.pcx.quarantine = [] ∧
        (∀ q ∈ t.hqe.sqs, numVfs s < q.1 / 8192) ∧ ∀ q ∈ t.hqe.cqes, numVfs s < q.fn)) ∧
    (∀ l : Fin 8, (bitOf (s.g R.PCX_LINK_LANES_OK) l = 0 → exec (.serdesLaneFailure l) s = .next s) ∧
      (bitOf (s.g R.PCX_LINK_LANES_OK) l = 1 →
        let ok := s.g R.PCX_LINK_LANES_OK - 2 ^ l.val
        Does (.serdesLaneFailure l) s (fun t => t.g R.PCX_LINK_LANES_OK = ok ∧ t.g R.PCX_LINK_WIDTH = widest ok ∧
          Logged s t 0x402 0xFF [widest ok, ok] 0 ∧ BitsBut s t R.PCX_LINK [R.PCX_LINK_LANES_OK, R.PCX_LINK_WIDTH] ∧
          RegsBut s t [R.PCX_LINK]))) ∧
    (∀ speed width lanes : Nat, Does (.dataLinkUp speed width lanes) s (fun t => t.on R.PCX_LINK_DL_UP = true ∧
      t.g R.PCX_LINK_LANES_OK = lanes % 256 ∧ OnlyRegs s t [R.PCX_LINK])) ∧
    (∀ i : Fin 64, Does (.frozenReleaseEntry i) s (fun t => t.on (R.PCX_FROZEN_LIST_VALID i) = false ∧
      (∀ j : Fin 64, j ≠ i → t.rd (R.PCX_FROZEN_LIST j) = s.rd (R.PCX_FROZEN_LIST j)) ∧
      (s.on (R.PCX_FROZEN_LIST_VALID i) = true → t.g R.PCX_FROZEN_STATUS_COUNT = s.g R.PCX_FROZEN_STATUS_COUNT - 1))) ∧
    Does .frozenReleaseAll s (fun t => ∀ i : Fin 64, t.on (R.PCX_FROZEN_LIST_VALID i) = false)

/-- INGEST_TLP and its outcomes, BAR2_READ, held credits, the grace interval, the position of a byte (R411, R412, R417, R418, R420, R421, R422, R429, R430). What rests on log entries 7, 42, 67, 86 is the model's choice and no rule of the spec. -/
def Obligations.IngestWindows : Prop :=
  ∀ s : State, s.live = true →
    (∀ x : Tlp, (s.pcx.hold ≠ none → exec (.ingestTlp x) s = .next { s with pcx := { s.pcx with posted := s.pcx.posted ++ [.tlp x] } }) ∧
      (contained s = true → s.pcx.hold = none → exec (.ingestTlp x) s = .next s) ∧
      (contained s = false → s.pcx.hold = none → memOn s 0 = false → exec (.ingestTlp x) s = .next (aer s 20)) ∧
      (contained s = false → memOn s 0 = true → s.pcx.hold = none →
        (frozenRid s x.rid = true → exec (.ingestTlp x) s = .next (poolWritten (wakeHost s))) ∧
        (frozenRid s x.rid = false →
          (x.poisoned = true → Does (.ingestTlp x) s (fun t => cfgBit t 0 0x104 12 = true ∧ t.pcx.wins = s.pcx.wins ∧ t.buf.pages = s.buf.pages ∧
            t.hqe = s.hqe)) ∧
          (x.poisoned = false → x.data ≠ [] →
            exec (.ingestTlp x) s = .next (routeTlp (poolWritten (wakeHost s)) x) ∧
            (∀ w, windowAt s x.addr x.data.length = some w → ridMatches (s.rd (R.PCX_WIN_RID w)) x.rid = true →
              s.on (R.PCX_WIN_STATUS_BOUND (w % 256)) = false → Does (.ingestTlp x) s (fun t => Counted s t R.PCX_CNT_UNBOUND 1 ∧
                t.pcx = s.pcx ∧ t.buf.pages = s.buf.pages ∧ t.hqe = s.hqe)) ∧
            (∀ w r q d p, windowAt s x.addr x.data.length = some w → ridMatches (s.rd (R.PCX_WIN_RID w)) x.rid = true → x.data = [d] → x.errs = [] →
              let pos := winPos s w (x.addr - 65536 * s.g (R.PCX_WIN_BASE_BASE w))
              reelOf s (s.g (R.PCX_WIN_REEL_REEL (w % 256))) = some r → s.on (R.PCX_WIN_STATUS_BOUND (w % 256)) = true → r.st = .opened →
              s.on R.GRN_STATUS_MAP_LOW = false → (winOf s w).parts.find? (fun q => q.block == pos / 4096) = some q →
              (winOf s w).admitted ≤ pos / 4096 → (∀ y ∈ (winOf s w).parts, y.got ≠ BitVec.allOnes 4096 ∧ (y.block = pos / 4096 → y = q)) →
              q.got ||| BitVec.ofNat 4096 (2 ^ (pos % 4096)) ≠ BitVec.allOnes 4096 → smGet s.buf.pages q.bpn = some p →
              Does (.ingestTlp x) s (fun t => smGet t.buf.pages q.bpn = some { p with bytes := p.bytes.set (pos % 4096) d } ∧ t.hqe = s.hqe)) ∧
            (windowAt s x.addr x.data.length = none → oldWindowAt s x.rid x.addr x.data.length = none →
              (∃ i < 64, s.on (R.PCX_FROZEN_LIST_VALID i) = false) → x.rid < 65536 → Does (.ingestTlp x) s (fun t => frozenRid t x.rid = true ∧
                t.buf.pages = s.buf.pages ∧ t.hqe = s.hqe ∧ t.pcx.wins = s.pcx.wins)))))) ∧
    (∀ w o : Nat, 0 < winBytes s w → o < winBytes s w →
      s.g64 (R.PCX_WIN_ACK_LO (w % 256)) ≤ winPos s w o ∧ winPos s w o < s.g64 (R.PCX_WIN_ACK_LO (w % 256)) + winBytes s w ∧
      winPos s w o % winBytes s w = o) ∧
    (∀ rid len : Nat, let wire := fun (s : State) (o : Out) => if ecrcSent s then Out.digest o else o
      (contained s = true → exec (.bar2Read rid len) s = .next s) ∧
      (contained s = false → memOn s 0 = false → exec (.bar2Read rid len) s = .next (s.emit (wire s (.refused rid)))) ∧
      (contained s = false → memOn s 0 = true → Does (.bar2Read rid len) s (fun t =>
        t.out = wire s (if frozenRid s rid then .refused rid else .zeroes rid len) :: s.out ∧ t.g R.HQE_STATUS_POWER = 0 ∧
        OnlyFields s { t with out := s.out } R.HQE_STATUS [R.HQE_STATUS_POWER]))) ∧
    (s.pcx.hold = none → s.pcx.posted = [] → exec .creditHoldExpiry s = .next s) ∧
    ((retryHold s).pcx.hold = none → exec .creditHoldExpiry s = .next (drainPosted (retryHold s))) ∧
    (∀ p l, s.pcx.hold = none → s.pcx.posted = p :: l →
      drainPosted s = handlePosted l (postedNow { s with pcx := { s.pcx with posted := [] } } p)) ∧
    (∀ h, (retryHold s).pcx.hold = some h →
      ((retryHold s).now < h.since + 1000 * (retryHold s).g R.PCX_CREDIT_HOLD → exec .creditHoldExpiry s = .next (retryHold s)) ∧
      (h.since + 1000 * (retryHold s).g R.PCX_CREDIT_HOLD ≤ (retryHold s).now → (retryHold s).pcx.posted = [] →
        Does .creditHoldExpiry s (fun t => t.pcx.hold = none ∧ t.on (R.PCX_WIN_STATUS_REFUSED (h.win % 256)) = true ∧
          t.buf = (retryHold s).buf))) ∧
    (∀ w : Fin 256, (s.pcx.wins[w].old = none → exec (.graceIntervalEnd w) s = .next s) ∧
      (∀ o, s.pcx.wins[w].old = some o → (s.now < o.since + 1000 * s.g R.PCX_TIMING_GRACE → exec (.graceIntervalEnd w) s = .next s) ∧
        (o.since + 1000 * s.g R.PCX_TIMING_GRACE ≤ s.now → Does (.graceIntervalEnd w) s (fun t => t.on (R.PCX_WIN_STATUS_OLD_MAP w) = false ∧
          t.pcx.wins[w] = { s.pcx.wins[w] with old := none } ∧ (∀ x : Fin 256, x ≠ w → t.pcx.wins[x] = s.pcx.wins[x]) ∧
          RegsBut s t [R.PCX_WIN_STATUS w]))))

/-- Completions, timeouts, quarantined tags, translations, invalidations, an unmasked vector (R380, R413, R414, R423, R424, R426, R429, R432). What rests on log entries 7, 16, 41, 42, 86 is the model's choice and no rule of the spec. -/
def Obligations.RequestsAndTranslations : Prop :=
  ∀ s : State, s.live = true →
    (∀ tag : Nat, reqOf s tag = none → (∀ st d, exec (.dmaCompletion tag st d) s = .next s) ∧ exec (.completionTimeout tag) s = .next s ∧
      ∀ ok phys rd wr, exec (.translationCompletion tag ok phys rd wr) s = .next s) ∧
    (∀ (tag w : Nat) (r : NpReq) (c : Cmd), reqOf s tag = some r → r.read.use = .data w → cmdOf s w = some c → c.window = none → c.st = .running →
      (∀ d : List (BitVec 8), (r.got ++ d).length < r.read.len → Does (.dmaCompletion tag .ok d) s (fun t => t.hqe = s.hqe ∧ t.buf = s.buf ∧
        ∃ x, reqOf t tag = some x ∧ x.got = r.got ++ d)) ∧
      (∀ d : List (BitVec 8), c.left = some 1 → r.read.len ≤ (r.got ++ d).length → Does (.dmaCompletion tag .ok d) s (fun t => ∃ x, cmdOf t w = some x ∧ x.st = .inBuffer ∧ x.left = some 0 ∧
        t.hqe.cqes = s.hqe.cqes)) ∧
      (∀ d st, (st = .unsupported ∨ st = .abort) → c.sqe.group = 0 →
        Does (.dmaCompletion tag st d) s (fun t => cfgBit t 0 0x104 (cplBit st) = true) ∧
        (r.read.fn = 0 → Does (.dmaCompletion tag st d) s (fun t => Answered s t c cHOST_TIMEOUT 0)) ∧
        (r.read.fn ≠ 0 → s.on R.PCX_VIOL_UR_FREEZE = true → r.read.fn < 65536 → (∃ i < 64, s.on (R.PCX_FROZEN_LIST_VALID i) = false) →
          Does (.dmaCompletion tag st d) s (fun t => frozenVf t r.read.fn = true))) ∧
      (s.now < r.sent + 1000000 * s.g R.PCX_TIMING_CPL_TO → exec (.completionTimeout tag) s = .next s) ∧
      (r.sent + 1000000 * s.g R.PCX_TIMING_CPL_TO ≤ s.now → c.sqe.group = 0 → Does (.completionTimeout tag) s (fun t =>
        Answered s t c cHOST_TIMEOUT 0 ∧ cfgBit t 0 0x104 14 = true ∧ Counted s t R.PCX_CNT_TIMEOUTS 1 ∧
        (tag, r.read.fn, s.now) ∈ t.pcx.quarantine))) ∧
    (∀ tag : Nat, (s.pcx.quarantine.find? (fun q => q.1 == tag) = none →
        exec (.lateCompletion tag) s = .next s ∧ exec (.tagQuarantineExpiry tag) s = .next s) ∧
      (contained s = true → exec (.lateCompletion tag) s = .next s ∧ exec (.tagQuarantineExpiry tag) s = .next s) ∧
      (∀ q, s.pcx.quarantine.find? (fun q => q.1 == tag) = some q → contained s = false →
        Does (.lateCompletion tag) s (fun t => (∀ x ∈ t.pcx.quarantine, x.1 ≠ tag) ∧ Counted s t R.PCX_CNT_LATE 1 ∧
          Logged s t 0x404 0xFF [q.2.1, tag] 0 ∧ cfgBit t 0 0x104 16 = true ∧ t.hqe = s.hqe ∧ t.buf = s.buf) ∧
        (s.now < q.2.2 + 4000000 * s.g R.PCX_TIMING_CPL_TO → exec (.tagQuarantineExpiry tag) s = .next s) ∧
        (q.2.2 + 4000000 * s.g R.PCX_TIMING_CPL_TO ≤ s.now → Does (.tagQuarantineExpiry tag) s (fun t =>
          t.pcx.quarantine = s.pcx.quarantine.filter (fun x => x.1 != tag) ∧ t.hqe = s.hqe)))) ∧
    (∀ (tag page phys : Nat) (r : NpReq) (rd wr : Bool), reqOf s tag = some r → r.read.use = .trans page →
      ((rd = true ∨ wr = true) → Does (.translationCompletion tag true phys rd wr) s (fun t =>
        (s.pcx.ats.length < 2048 → t.pcx.ats = s.pcx.ats ++ [⟨r.read.fn, page, phys, rd, wr⟩]) ∧
        (s.pcx.ats.length = 2048 → t.pcx.ats.length = 2048 ∧ (⟨r.read.fn, page, phys, rd, wr⟩ : AtsEntry) ∈ t.pcx.ats))) ∧
      Does (.translationCompletion tag false phys rd wr) s (fun t => t.pcx.ats = s.pcx.ats)) ∧
    (∀ (fn : Fin 256) (page count itag : Nat), (contained s = true ∨ atsOn s fn = false → exec (.invalidateRequest fn page count itag) s = .next s) ∧
      (contained s = false → atsOn s fn = true → Does (.invalidateRequest fn page count itag) s (fun t =>
        (∀ e ∈ t.pcx.ats, e.fn = fn → e.page < page ∨ page + count ≤ e.page) ∧
        (∀ e ∈ s.pcx.ats, e.fn ≠ fn → e ∈ t.pcx.ats) ∧
        ((∀ r ∈ s.pcx.reqs, r.page = none) → (if ecrcSent s then Out.digest (.invalidated fn itag) else .invalidated fn itag) ∈ t.out)))) ∧
    (∀ (fn : Fin 256) (v : Nat), (s.pcx.hold ≠ none → exec (.vectorUnmask fn v) s =
        .next { s with pcx := { s.pcx with posted := s.pcx.posted ++ [.unmask fn v] } }) ∧
      (s.pcx.hold = none → (vectorsOf fn ≤ v → exec (.vectorUnmask fn v) s = .next s) ∧
        (v < vectorsOf fn → vfShut s fn = true → exec (.vectorUnmask fn v) s = .next (if contained s then s else aer s 20)) ∧
        (v < vectorsOf fn → vfShut s fn = false → Does (.vectorUnmask fn v) s (fun t =>
          bitOf (msixRd t fn v 3).toNat 0 = 0 ∧ (msixOn s fn = true → fnMasked s fn = false → contained s = false → s.pcx.tx = [] →
            bitOf (pbaRd s fn v).toNat (v % 32) = 1 → bitOf (pbaRd t fn v).toNat (v % 32) = 0 ∧ (busMaster s fn = true →
            let tlp : Out := .memWrite fn ((msixRd s fn v 0).toNat + 2 ^ 32 * (msixRd s fn v 1).toNat) (bytesLE 4 (msixRd s fn v 2).toNat) false
            (if ecrcSent s then .digest tlp else tlp) ∈ t.out))))))

/-- CorgeLink comes up, loses a lane and retrains; the partner is lost by silence; TAKEOVER and LEAVE (R435, R436, R437, R439, R445, R446, R447, R448, R461). What rests on log entries 7, 58, 60, 61 is the model's choice and no rule of the spec. -/
def Obligations.PairingAndLoss : Prop :=
  ∀ s : State, s.live = true →
    let lost := fun (t : State) (cause : Nat) (take : Bool) =>
      pairSt t = (if take then pTAKEN_OVER else pISOLATED) ∧ t.g R.CGL_STATUS_LOSS_CAUSE = cause ∧
      t.g R.CGL_EPOCH_EPOCH = (s.g R.CGL_EPOCH_EPOCH + 1) % 2 ^ 32 ∧ t.cgl.up = false ∧ t.cgl.handing = 0 ∧
      (take = true → t.cgl.taken = s.cgl.taken ||| (s.cgl.peer.map PeerId.home).getD 0 ∧ t.cgl.lent = 0 ∧
        Counted s t R.CGL_CNT_TAKEOVERS 1 ∧ ∃ e ∈ t.evl.inFlight, e.code = 0x501 ∧ e.a0 = t.g R.CGL_EPOCH_EPOCH) ∧
      (take = false → t.cgl.taken = s.cgl.taken ∧ t.cgl.lent = s.cgl.lent ∧ t.rd R.CGL_CNT_TAKEOVERS = s.rd R.CGL_CNT_TAKEOVERS) ∧
      (∀ c, s.hqe.cmds = [c] → c.sqe.op = oWRITE → c.st = .inBuffer → c.window = none → c.sqe.group = 0 → s.grn.groups = [] →
        s.grn.reels = [] → Answered s t c cSUCCESS c.ver)
    (∀ (p : PeerId) (lanes : Nat),
      (mirroring s = true ∨ frozenPartner s = true ∨ widest lanes = 0 →
        exec (.cglLinkUp p lanes) s = .next (s.us [(R.CGL_STATUS_WIDTH, widest lanes), (R.CGL_STATUS_LANES_OK, lanes % 256)])) ∧
      (mirroring s = false → frozenPartner s = false → widest lanes ≠ 0 →
        let uid := s.g64 R.CGL_PEER_UID_LO = 0 ∨ s.g64 R.CGL_PEER_UID_LO = p.uid.toNat
        let mode := pairMode s = p.mode ∧ p.mode ≠ 0
        let role := s.g R.CGL_CTRL_ROLE ≠ p.role
        let apart := Nat.land (s.g64 R.CGL_HOME_LO) p.home.toNat = 0
        let bad := fun (c : Nat) => Does (.cglLinkUp p lanes) s (fun t => pairSt t = pMISMATCH ∧ t.g R.CGL_STATUS_MISMATCH_CAUSE = c ∧
          t.out = s.out ∧ t.buf = s.buf ∧ t.hqe = s.hqe ∧ t.grn = s.grn ∧ RegsBut s t [R.CGL_STATUS])
        (¬ uid → bad 1) ∧ (uid → ¬ mode → bad 2) ∧ (uid → mode → ¬ role → bad 3) ∧ (uid → mode → role → ¬ apart → bad 4) ∧
        (uid → mode → role → apart → Does (.cglLinkUp p lanes) s (fun t => pairSt t = pSYNCING ∧ t.g R.CGL_STATUS_MISMATCH_CAUSE = 0 ∧
          t.g R.CGL_STATUS_WIDTH = widest lanes ∧ t.cgl.up = true ∧ t.cgl.peer = some p ∧ t.buf = s.buf ∧ t.hqe = s.hqe ∧ t.grn = s.grn ∧
          (s.g R.CGL_EPOCH_EPOCH < p.epoch → t.cgl.sync = [] ∧ t.cgl.due = [] ∧
            ((∀ c ∈ s.hqe.cmds, c.sqe.op = oWRITE → pastEffect c = true) → t.cgl.replay = [])) ∧
          (∀ c ∈ s.hqe.cmds, c.sqe.op = oWRITE → pastEffect c = false → c.dead = false → homeVol t c.sqe.vol = true →
            (∃ r ∈ t.cgl.replay, r.body = .record (writeRec c)) ∨ .record (writeRec c) ∈ t.cgl.sendQ) ∧
          RegsBut s t [R.CGL_STATUS, R.CGL_SYNC_REMAIN])))) ∧
    (∀ l : Fin 8, (bitOf (s.g R.CGL_STATUS_LANES_OK) l = 0 → exec (.cglLaneLoss l) s = .next s) ∧
      (bitOf (s.g R.CGL_STATUS_LANES_OK) l = 1 → Does (.cglLaneLoss l) s (fun t =>
        t.g R.CGL_STATUS_LANES_OK = s.g R.CGL_STATUS_LANES_OK - 2 ^ l.val ∧ BitsBut s t R.CGL_STATUS [R.CGL_STATUS_LANES_OK] ∧
        RegsBut s t [R.CGL_STATUS, R.CGL_CNT_RETRAINS] ∧ t.hqe = s.hqe ∧ t.buf = s.buf ∧ t.evl = s.evl ∧
        (s.cgl.up = true → t.cgl = { s.cgl with retraining := true }) ∧ (s.cgl.up = false → t.cgl = s.cgl) ∧
        Counted s t R.CGL_CNT_RETRAINS (if s.cgl.up && !s.cgl.retraining then 1 else 0)))) ∧
    (∀ lanes : Nat, (s.cgl.up = false ∨ s.cgl.retraining = false ∨ widest lanes = 0 → exec (.cglRetrainComplete lanes) s = .next s) ∧
      (s.cgl.up = true → s.cgl.retraining = true → widest lanes ≠ 0 → Does (.cglRetrainComplete lanes) s (fun t =>
        t.cgl.retraining = false ∧ t.g R.CGL_STATUS_WIDTH = widest lanes ∧ t.g R.CGL_STATUS_LANES_OK = lanes % 256 ∧
        (widest lanes < s.g R.CGL_STATUS_WIDTH → Logged s t 0x503 0xFF [widest lanes, lanes % 256] 0) ∧
        (s.g R.CGL_STATUS_WIDTH ≤ widest lanes → t.evl = s.evl) ∧ t.buf = s.buf ∧ t.hqe = s.hqe ∧
        ∀ r ∈ s.cgl.replay, .flit r.seq r.body ∈ t.out ∧ ∃ x ∈ t.cgl.replay, x.seq = r.seq ∧ x.body = r.body))) ∧
    (let due := s.cgl.lastFlit + max 1000000 (100000 * s.g R.CGL_CTRL_DEAD_TIME)
     let seen := s.on R.CGL_CTRL_RING_ARB = true ∧ ∃ a, s.cgl.alive = some a ∧ s.now < a + 1000000
     (s.now < due ∨ mirroring s = false → exec .deadTimeExpiry s = .next s) ∧
     (due ≤ s.now → mirroring s = true →
       (seen → Does .deadTimeExpiry s (fun t => lost t 1 false)) ∧
       (¬ seen → s.on R.CGL_CTRL_ROLE = false ∨ s.on R.CGL_CTRL_RING_ARB = true → Does .deadTimeExpiry s (fun t => lost t 1 true)) ∧
       (¬ seen → s.on R.CGL_CTRL_ROLE = true → s.on R.CGL_CTRL_RING_ARB = false → Does .deadTimeExpiry s (fun t => lost t 1 false)))) ∧
    (pairSt s ≠ pISOLATED → exec .takeover s = .next s) ∧
    (pairSt s = pISOLATED → Does .takeover s (fun t => lost t (s.g R.CGL_STATUS_LOSS_CAUSE) true)) ∧
    (s.cgl.up = false → exec .leave s = .next s) ∧
    (s.cgl.up = true → Does .leave s (fun t => ∃ c : Ctl, t = s.emit (.ctl c) ∧ c.leave = true ∧ c.state = pairSt s))

/-- Data and control flits, HANDBACK and its end, the end of a catch-up (R437, R440, R441, R443, R444, R445, R448, R449, R457, R458). What rests on log entries 7, 13, 58, 59, 60, 61, 67 is the model's choice and no rule of the spec. -/
def Obligations.FlitsAndHandback : Prop :=
  ∀ s : State, s.live = true →
    (∀ (seq : Nat) (ok : Bool) (body : FlitBody),
      (s.cgl.up = false ∨ s.cgl.retraining = true ∨ frozenPartner s = true → exec (.dataFlit seq ok body) s = .next s)) ∧
    (s.cgl.up = true → s.cgl.retraining = false → frozenPartner s = false →
      (∀ seq body, Does (.dataFlit seq false body) s (fun t => ∃ c : Ctl, t = s.emit (.ctl c) ∧ c.nak = some s.cgl.rxSeq)) ∧
      (∀ seq body, seq ≠ s.cgl.rxSeq → exec (.dataFlit seq true body) s =
        .next (poolWritten { s with cgl := { s.cgl with lastFlit := s.now } })) ∧
      (let take := fun (body : FlitBody) (P : State → Prop) => Does (.dataFlit s.cgl.rxSeq true body) s (fun t =>
         (∃ c : Ctl, .ctl c ∈ t.out ∧ c.ack = some s.cgl.rxSeq) ∧ t.cgl.rxSeq = (s.cgl.rxSeq + 1) % 4096 ∧ P t)
       let bad := fun (body : FlitBody) => (∃ i < 64, s.on (R.PCX_FROZEN_LIST_VALID i) = false) → Does (.dataFlit s.cgl.rxSeq true body) s (fun t =>
         frozenPartner t = true ∧ t.cgl.rxSeq = s.cgl.rxSeq ∧ (mirroring s = true → pairSt t = pISOLATED ∧ t.g R.CGL_STATUS_LOSS_CAUSE = 3))
       bad .unknown ∧ (mirroring s = false → ∀ body, bad body) ∧
       (mirroring s = true →
         (∀ vol lba ver group reel adm last bytes,
           let f : FlitBody := .page vol lba ver group reel adm last bytes
           let old := (smGet s.cgl.applied (2 ^ 48 * vol + lba)).getD 0
           let whole := fun (t : State) => (∃ q ∈ t.buf.pages, q.2.vol = vol ∧ q.2.lba = lba ∧ q.2.ver = ver ∧ q.2.bytes = bytes ∧
               q.2.foreign = true ∧ q.2.st = .acked) ∧ (∃ c : Ctl, .ctl c ∈ t.out ∧ (vol, lba, ver) ∈ c.confirm) ∧
             smGet t.cgl.applied (2 ^ 48 * vol + lba) = some (max ver old) ∧ t.cgl.admits = [] ∧ t.hqe = s.hqe ∧ t.grn = s.grn
           (homeVol s vol = true → bad f) ∧
           (homeVol s vol = false → pairSt s ≠ pSYNCING → recorded s vol lba ver = false → haveVersion s vol lba ver = false → ver ≤ old → bad f) ∧
           (homeVol s vol = false → haveVersion s vol lba ver = false → s.on R.BUF_STATUS_INIT_DONE = true →
             (recorded s vol lba ver = true ∨ (old < ver ∧ s.cgl.admits = []) → poolFree s = 0 → Does (.dataFlit s.cgl.rxSeq true f) s (fun t =>
               (∃ c : Ctl, .ctl c ∈ t.out ∧ c.nak = some s.cgl.rxSeq) ∧ t.cgl.rxSeq = s.cgl.rxSeq ∧ t.buf = s.buf)) ∧
             (old < ver → s.cgl.admits = [] → 0 < poolFree s → take f whole) ∧
             (∀ w, 0 < poolFree s → s.cgl.admits = [w] → w.vol = vol → w.ver = ver → recBlocks w = [lba] → take f whole) ∧
             (∀ w l b, 0 < poolFree s → s.cgl.admits = w :: l → w.vol = vol → w.ver = ver → lba ∈ recBlocks w → b ∈ recBlocks w → b ≠ lba →
               haveVersion s vol b ver = false → take f (fun t => (∃ q ∈ t.buf.pages, q.2.vol = vol ∧ q.2.lba = lba ∧ q.2.ver = ver ∧
                 q.2.bytes = bytes ∧ q.2.st = .inBuffer) ∧ t.cgl.admits = s.cgl.admits ∧ t.cgl.applied = s.cgl.applied ∧ t.hqe = s.hqe)))) ∧
         (∀ w : WriteRec, (homeVol s w.vol = true → bad (.record w)) ∧
           (homeVol s w.vol = false → pairSt s ≠ pSYNCING → (∃ b ∈ recBlocks w, w.ver ≤ (smGet s.cgl.applied (2 ^ 48 * w.vol + b)).getD 0) →
             bad (.record w)) ∧
           (homeVol s w.vol = false → s.cgl.admits = [] → (∀ b ∈ recBlocks w, (smGet s.cgl.applied (2 ^ 48 * w.vol + b)).getD 0 < w.ver) →
             (∃ b ∈ recBlocks w, haveVersion s w.vol b w.ver = false) → take (.record w) (fun t => t.cgl.admits = [w] ∧
               t.buf.pages = s.buf.pages ∧ t.cgl.applied = s.cgl.applied)) ∧
           take (.ended w) (fun t => w ∉ t.cgl.admits ∧ ∀ q ∈ t.buf.pages, ¬ (q.2.foreign = true ∧ q.2.vol = w.vol ∧ q.2.ver = w.ver ∧
             q.2.lba ∈ recBlocks w))) ∧
         (∀ vol lba ver, take (.release vol lba ver .superseded) (fun t => ∀ q ∈ t.buf.pages, ¬ (q.2.foreign = true ∧ q.2.vol = vol ∧
           q.2.lba = lba ∧ q.2.ver = ver))) ∧
         (∀ w a, take (.ack w a) (fun t => smGet t.cgl.acks w = some a ∧ t.buf.pages = s.buf.pages ∧ t.hqe = s.hqe)) ∧
         (∀ disc pca, take (.readReq disc pca) (fun t => (disc, pca) ∈ t.cgl.serve ∧ t.buf.pages = s.buf.pages ∧ t.hqe = s.hqe)) ∧
         (∀ disc pca bs rb, take (.readData disc pca bs rb) (fun t => (disc, pca, bs, rb) ∈ t.cgl.remote ∧ (disc, pca) ∉ t.cgl.asked ∧
           t.hqe = s.hqe)) ∧
         (∀ i bs e, parseEntry bs = some e → take (.map i bs) (fun t => smGet t.cgl.shadow i = some e ∧ t.grn = s.grn))))) ∧
    (∀ c : Ctl, (s.cgl.up = false ∨ frozenPartner s = true → exec (.controlFlit c) s = .next s) ∧
      (s.cgl.up = true → frozenPartner s = false →
        (c.leave = false → c.state = pMISMATCH → mirroring s = true → Does (.controlFlit c) s (fun t => pairSt t = pMISMATCH ∧
          t.g R.CGL_STATUS_MISMATCH_CAUSE = 1)) ∧
        (c.leave = true → c.state ≠ pMISMATCH → mirroring s = true → Does (.controlFlit c) s (fun t => pairSt t = pISOLATED ∧ t.g R.CGL_STATUS_LOSS_CAUSE = 2 ∧
          t.cgl.up = false)) ∧
        (c.leave = false → c.state ≠ pMISMATCH → s.cgl.serve = [] → s.cgl.flushes = [] → s.cgl.due = [] → Does (.controlFlit c) s (fun t =>
          t.cgl.lastFlit = s.now ∧ pairSt t = pairSt s ∧ t.hqe = s.hqe ∧ t.grn = s.grn ∧
          (∀ q ∈ s.buf.pages, (q.2.vol, q.2.lba, q.2.ver) ∈ c.confirm → (q.1, { q.2 with mirrored := true }) ∈ t.buf.pages) ∧
          (∀ i ∈ c.groups, i ∈ t.cgl.grpDone) ∧
          (c.nak = none → ∃ l, t.cgl.replay = (c.ack.map (dropAcked s.cgl.replay)).getD s.cgl.replay ++ l) ∧
          (∀ q r, c.ack = none → c.nak = some q → s.cgl.retraining = false → s.cgl.replay.find? (fun r => r.seq == q) = some r →
            (r.tries < 8 → Counted s t R.CGL_CNT_REPLAYS 1 ∧ .flit r.seq r.body ∈ t.out ∧ t.cgl.retraining = false) ∧
            (8 ≤ r.tries → Counted s t R.CGL_CNT_RETRAINS 1 ∧ t.cgl.retraining = true)) ∧
          (∀ x, c.stamp = some x → t.cgl.oneWay = some ((s.now : Int) - (x.time : Int)) ∧ ∀ theirs, x.oneWay = some theirs →
            s.g R.QTZ_CTRL_SOURCE = 2 → s.on R.CGL_CTRL_ROLE = true →
            ∃ o : Int, (2 * o - (theirs - ((s.now : Int) - (x.time : Int)))).natAbs ≤ 1 ∧
              t.gi R.QTZ_OFFSET_OFFSET = clampI (-2147483648) 2147483647 o) ∧
          (c.stamp = none → t.now = s.now ∧ t.qtz = s.qtz))))) ∧
    (pairSt s ≠ pPAIRED → exec .handback s = .next s) ∧
    (pairSt s = pPAIRED → Does .handback s (fun t => pairSt t = pHANDING_BACK ∧ t.cgl = { s.cgl with handing := s.cgl.taken } ∧
      (∃ c : Ctl, t.out = .ctl c :: s.out ∧ c.state = pHANDING_BACK) ∧ RegsBut s t [R.CGL_STATUS] ∧ t.hqe = s.hqe ∧ t.buf = s.buf)) ∧
    (let waits := (∃ c ∈ s.hqe.cmds, pastEffect c = false ∧ ∃ v, volOf s c.sqe = some v ∧ handingVol s v = true) ∨ s.cgl.sendQ ≠ []
     (pairSt s ≠ pHANDING_BACK ∨ waits → exec .handbackDrainComplete s = .next s) ∧
     (pairSt s = pHANDING_BACK → ¬ waits → Does .handbackDrainComplete s (fun t => pairSt t = pPAIRED ∧ t.cgl.handing = 0 ∧
       t.cgl.taken = s.cgl.taken &&& ~~~ s.cgl.handing ∧ RegsBut s t [R.CGL_STATUS] ∧ t.hqe = s.hqe ∧ t.buf = s.buf))) ∧
    (let left := s.cgl.sync ≠ [] ∨ s.cgl.due ≠ [] ∨ s.cgl.sendQ ≠ [] ∨ ∃ p, s.cgl.peer = some p ∧ s.g R.CGL_EPOCH_EPOCH < p.epoch ∧
       p.state ≠ pPAIRED ∧ p.state ≠ pHANDING_BACK
     (pairSt s ≠ pSYNCING ∨ left → exec .syncComplete s = .next s) ∧
     (pairSt s = pSYNCING → ¬ left → Does .syncComplete s (fun t =>
       pairSt t = (if s.on R.CGL_CTRL_AUTO_HANDBACK ∧ s.cgl.taken ≠ 0#64 then pHANDING_BACK else pPAIRED) ∧
       Logged s t 0x502 0xFF [s.g R.CGL_EPOCH_EPOCH] 0 ∧ RegsBut s t [R.CGL_STATUS] ∧ t.buf = s.buf ∧ t.hqe = s.hqe ∧ t.grn = s.grn)))

/-- Qualified pin edges, action times, DRK_SEND and its repeats (R398, R450, R451, R453, R455, R462, R492). What rests on log entries 7, 62 is the model's choice and no rule of the spec. -/
def Obligations.PinsAndActions : Prop :=
  ∀ s : State, s.live = true →
    let node := s.g R.DRK_CTRL_NODE_ID
    let lead := s.now + 10000 * s.g R.DRK_DELAY_START_LEAD
    let sent := fun (t : State) (typ seq time arg : Nat) => t.out =
      (if s.on R.DRK_CTRL_EN then .ring (ringBytes typ node seq 0 (time % 2 ^ 64) 0 (arg % 2 ^ 16)) :: s.out else s.out)
    (∀ (k : Fin 16) (level : Bool) (ago : Nat) (rivals : List Rival),
      let stands := 100 * s.g R.DRK_PIN_QUAL_QUAL ≤ ago
      let func := s.g (R.DRK_PIN_FUNC k)
      let arg := s.g (R.DRK_PIN_ARG k)
      let active := level != s.on (R.DRK_PIN_POL k)
      let rise := active = true ∧ bitOf (s.g R.DRK_PIN_IN_LEVEL) k = 0
      (¬ stands → exec (.pinQualifiedEdge k level ago rivals) s = .next s) ∧
      (stands → Does (.pinQualifiedEdge k level ago rivals) s (fun t => bitOf (t.g R.DRK_PIN_IN_LEVEL) k = b2n active ∧
        ∀ j : Fin 16, j ≠ k → bitOf (t.g R.DRK_PIN_IN_LEVEL) j = bitOf (s.g R.DRK_PIN_IN_LEVEL) j)) ∧
      (stands → ¬ rise ∨ func = 0 ∨ 3 < func → Does (.pinQualifiedEdge k level ago rivals) s (fun t => OnlyRegs s t [R.DRK_PIN_IN])) ∧
      (stands → rise → 1 ≤ func → func ≤ 3 → s.on R.DRK_CTRL_FWD_PINS = true → Does (.pinQualifiedEdge k level ago rivals) s (fun t =>
        t.drk.acts = s.drk.acts ++ [⟨func + 1, arg, lead, some k.val⟩] ∧ t.drk.reps = s.drk.reps ++ [⟨func + 1, s.drk.seq, lead, arg, 2, s.now + 100000⟩] ∧
        sent t (func + 1) s.drk.seq lead arg ∧ RegsBut s t [R.DRK_PIN_IN] ∧ t.hqe = s.hqe ∧ t.grn = s.grn ∧ t.evl = s.evl)) ∧
      (stands → rise → s.on R.DRK_CTRL_FWD_PINS = false →
        (func = 1 → ∀ n : Fin 8, arg % 256 = 2 ^ n.val → exec (.pinQualifiedEdge k level ago rivals) s =
          .next (stationOrder (s.u R.DRK_PIN_IN_LEVEL (s.g R.DRK_PIN_IN_LEVEL + 2 ^ k.val)) n .pins 4 false [] rivals).2) ∧
        (func = 2 → masterOwnsVol s (arg % 64) .pins = true → reelBeaten s (arg % 64) .pins true rivals = false →
          Does (.pinQualifiedEdge k level ago rivals) s (fun t => ∀ r ∈ t.grn.reels, r.vol = arg % 64 → r.copy = false → r.st ≠ .opened)) ∧
        (func = 2 → masterOwnsVol s (arg % 64) .pins = false → Does (.pinQualifiedEdge k level ago rivals) s (fun t => OnlyRegs s t [R.DRK_PIN_IN])) ∧
        (func = 3 → Does (.pinQualifiedEdge k level ago rivals) s (fun t => Logged s t 0x506 0xFF [timecode s, arg % 64, k.val] 0 ∧
          t.hqe = s.hqe ∧ t.buf = s.buf)))) ∧
    (∀ rivals, ((∀ a ∈ s.drk.acts, s.now < a.time) → exec (.ringActionTime rivals) s = .next s) ∧
      ((∃ a ∈ s.drk.acts, a.time ≤ s.now) → ∃ a ∈ s.drk.acts, a.time ≤ s.now ∧ (∀ b ∈ s.drk.acts, a.time ≤ b.time) ∧
        Does (.ringActionTime rivals) s (fun t => t.drk = { s.drk with acts := s.drk.acts.erase a } ∧
          (a.typ = 4 → Logged s t 0x506 0xFF [timecode s, a.arg % 64, (a.pin.getD 0xFF)] 0)))) ∧
    (∀ (typ : Nat) (arg : BitVec 16) (c : Instr),
      (typ = 2 ∧ c = .drkSendStart arg) ∨ (typ = 3 ∧ c = .drkSendStop arg) ∨ (typ = 4 ∧ c = .drkSendMark arg) →
      Does c s (fun t => sent t typ s.drk.seq lead arg.toNat ∧ t.drk.reps = s.drk.reps ++ [⟨typ, s.drk.seq, lead, arg.toNat, 2, s.now + 100000⟩] ∧
        t.drk.acts = s.drk.acts ∧ t.drk.seq = (s.drk.seq + 1) % 256 ∧ t = { s with drk := t.drk, out := t.out })) ∧
    ((∀ r ∈ s.drk.reps, s.now < r.due) → exec .ringRepeatSend s = .next s) ∧
    (∀ r, s.drk.reps.find? (fun r => decide (r.due ≤ s.now)) = some r → Does .ringRepeatSend s (fun t => sent t r.typ r.seq r.time r.arg ∧
      t.drk.reps = s.drk.reps.erase r ++ (if r.left ≤ 1 then [] else [{ r with left := r.left - 1, due := r.due + 100000 }]) ∧
      t = { s with drk := t.drk, out := t.out }))

/-- What a ring message does to the node, TIME and PAIR_ALIVE are sent, IN loses lock, a time master resumes (R445, R452, R453, R454, R455, R456, R457, R459, R462). What rests on log entries 7, 12, 62, 63, 66 is the model's choice and no rule of the spec. -/
def Obligations.RingMessages : Prop :=
  ∀ s : State, s.live = true →
    let node := s.g R.DRK_CTRL_NODE_ID
    let link := s.g R.DRK_DELAY_LINK_DELAY
    (∀ b : List Byte,
      (s.on R.DRK_CTRL_EN = false ∨ b.length ≠ 21 ∨ b.head? ≠ some 0xBC#8 → exec (.ringMessage b) s = .next s) ∧
      (s.on R.DRK_CTRL_EN = true → b.length = 21 → b.head? = some 0xBC#8 → numBE (b.drop 19) ≠ ringCrc ((b.drop 1).take 18) →
        Does (.ringMessage b) s (fun t => Counted s t R.DRK_CNT_RX 1 ∧ Counted s t R.DRK_CNT_CRC 1 ∧ t.on R.DRK_STATUS_IN_LOCK = true ∧
          OnlyRegs s t [R.DRK_STATUS, R.DRK_CNT_RX, R.DRK_CNT_CRC]))) ∧
    (s.on R.DRK_CTRL_EN = true → ∀ typ origin seq hops time corr arg : Nat,
      typ < 256 → origin < 256 → seq < 256 → hops < 256 → time < 2 ^ 64 → corr < 2 ^ 32 → arg < 2 ^ 16 →
      let m := Instr.ringMessage (ringBytes typ origin seq hops time corr arg)
      (origin = node → ((typ, seq) ∉ s.drk.own → Does m s (fun t => t.g R.DRK_STATUS_FAULT_CAUSE = 2 ∧ t.on R.DRK_STATUS_FAULT = true ∧
          Logged s t 0x504 0xFF [2] 0 ∧ t.out = s.out ∧ t.drk = s.drk)) ∧
        ((typ, seq) ∈ s.drk.own → Does m s (fun t => t.out = s.out ∧ t.evl = s.evl ∧ t.drk.own = s.drk.own.erase (typ, seq) ∧
          ∀ x, typ = 1 → s.drk.sent.find? (fun x => x.1 == seq) = some x → t.g R.DRK_RTT_RTT = min (2 ^ 32 - 1) (s.now - x.2)))) ∧
      (origin ≠ node → 32 ≤ hops → Does m s (fun t => OnlyRegs s t [R.DRK_STATUS, R.DRK_CNT_RX])) ∧
      (origin ≠ node → hops < 32 →
        Does m s (fun t => t.out.head? = some (.ring (ringBytes typ origin seq (hops + 1) time
          (if typ = 1 then (corr + 400 + link) % 2 ^ 32 else corr) arg)) ∧ Counted s t R.DRK_CNT_RX 1) ∧
        (∀ f, (typ = 2 ∧ f = R.DRK_CTRL_ACCEPT_START) ∨ (typ = 3 ∧ f = R.DRK_CTRL_ACCEPT_STOP) ∨ (typ = 4 ∧ f = R.DRK_CTRL_ACCEPT_MARK) →
          (s.on f = false ∨ (origin, typ, seq) ∈ s.drk.seen → Does m s (fun t => t.drk = s.drk ∧ t.grn = s.grn ∧ t.evl = s.evl ∧
            RegsBut s t [R.DRK_STATUS, R.DRK_CNT_RX])) ∧
          (s.on f = true → (origin, typ, seq) ∉ s.drk.seen →
            (s.now ≤ time → Does m s (fun t => t.drk.acts = s.drk.acts ++ [⟨typ, arg, time, none⟩] ∧ (origin, typ, seq) ∈ t.drk.seen ∧
              t.grn = s.grn ∧ t.evl = s.evl)) ∧
            (time < s.now → Does m s (fun t => Counted s t R.DRK_CNT_LATE 1 ∧ t.drk.acts = s.drk.acts ∧
              (typ = 4 → Logged s t 0x506 0xFF [timecode s, arg % 64, 0xFF] 0))))) ∧
        (typ = 6 → time = (s.cgl.peer.map (fun p => p.uid.toNat)).getD (s.g64 R.CGL_PEER_UID_LO) → Does m s (fun t =>
          t.cgl = { s.cgl with alive := some s.now } ∧ t.on R.CGL_STATUS_PEER_ON_RING = true)) ∧
        (typ = 5 → (∀ k : Fin 16, s.g (R.DRK_PIN_FUNC k) ≠ 4) → Does m s (fun t => t.rd R.QTZ_TC = BitVec.ofNat 32 corr ∧
          t.g64 R.QTZ_TC_TIME_LO = time)) ∧
        (typ = 1 → s.g R.QTZ_CTRL_SOURCE = 1 → s.on R.DRK_CTRL_TIME_MASTER = false → Does m s (fun t =>
          t.gi R.QTZ_OFFSET_OFFSET = clampI (-2147483648) 2147483647 ((time + corr + link : Nat) - (s.now : Nat)))) ∧
        (typ = 1 → s.on R.DRK_CTRL_TIME_MASTER = true → Does m s (fun t => t.g R.DRK_STATUS_FAULT_CAUSE = 3 ∧
          t.on R.DRK_STATUS_FAULT = true ∧
          (s.g R.QTZ_CTRL_SOURCE = 1 → origin < node → t.gi R.QTZ_OFFSET_OFFSET =
            clampI (-2147483648) 2147483647 ((time + corr + link : Nat) - (s.now : Nat))) ∧ (origin < node → t.drk.stood = some s.now) ∧
          (node < origin → s.drk.stood = none → t.drk.stood = none))) ∧
        ((typ = 0 ∨ 6 < typ) → Does m s (fun t => OnlyRegs s { t with out := s.out } [R.DRK_STATUS, R.DRK_CNT_RX])))) ∧
    (let sends := s.on R.DRK_CTRL_TIME_MASTER = true ∧ s.on R.DRK_CTRL_EN = true ∧ s.drk.stood = none
     (¬ sends → exec .timeSend s = .next s) ∧
     (sends → Does .timeSend s (fun t => t.out = .ring (ringBytes 1 node s.drk.seq 0 (s.now % 2 ^ 64) 0 0) :: s.out ∧
       (s.drk.seq, s.now) ∈ t.drk.sent ∧ t.drk.seq = (s.drk.seq + 1) % 256 ∧ t = { s with drk := t.drk, out := t.out }))) ∧
    (pairMode s = 0 → exec .pairAliveSend s = .next s) ∧
    (pairMode s ≠ 0 → s.on R.DRK_CTRL_EN = true → Does .pairAliveSend s (fun t => t.out = .ring (ringBytes 6 node s.drk.seq 0
      (Config.uid.toNat % 2 ^ 64) (s.g R.CGL_EPOCH_EPOCH % 2 ^ 32) (pairSt s % 2 ^ 16)) :: s.out ∧ t = { s with drk := t.drk, out := t.out })) ∧
    (s.on R.DRK_STATUS_IN_LOCK = false → exec .ringInLockLoss s = .next s) ∧
    (s.on R.DRK_STATUS_IN_LOCK = true → Does .ringInLockLoss s (fun t => t.on R.DRK_STATUS_IN_LOCK = false ∧ t.on R.DRK_STATUS_FAULT = true ∧
      t.g R.DRK_STATUS_FAULT_CAUSE = 1 ∧ t.g R.DRK_STATUS_IN_RING = s.g R.DRK_STATUS_IN_RING ∧ Logged s t 0x504 0xFF [1] 0 ∧
      RegsBut s t [R.DRK_STATUS] ∧ t.qtz = s.qtz ∧ t.drk = s.drk)) ∧
    ((∀ a, s.drk.stood = some a → s.now < a + 10000000) → exec .timeMasterResume s = .next s) ∧
    (∀ a, s.drk.stood = some a → a + 10000000 ≤ s.now → exec .timeMasterResume s = .next { s with drk := { s.drk with stood := none } })

/-- QTZ_SET, a reference measurement, slewing, good and bad timecode frames, TC_VALID ends (R31, R453, R457, R458, R459, R463, R492). What rests on log entries 6, 7, 64, 65, 66 is the model's choice and no rule of the spec. -/
def Obligations.QuartzAndTimecode : Prop :=
  ∀ s : State, s.live = true →
    (∀ v : BitVec 64, (v.toNat < s.now → Does (.qtzSet v) s (fun t => t.on R.QTZ_STATUS_SET_REFUSED = true ∧ t.now = s.now ∧
        t.g64 R.QTZ_SET_LO = v.toNat ∧ RegsBut s t [R.QTZ_SET_LO, R.QTZ_SET_HI, R.QTZ_STATUS])) ∧
      (s.now ≤ v.toNat → Does (.qtzSet v) s (fun t => t.now = v.toNat ∧
        RegsBut s t [R.QTZ_SET_LO, R.QTZ_SET_HI, R.QTZ_TIME_LO, R.QTZ_TIME_HI, R.CGL_STATUS] ∧ t = { s with regs := t.regs }))) ∧
    (∀ o : Int, let used := s.g R.QTZ_CTRL_SOURCE = 1 ∨ (s.g R.QTZ_CTRL_SOURCE = 2 ∧ s.on R.CGL_CTRL_ROLE = true)
      let step := (10000 * s.g R.QTZ_LIMITS_STEP_LIMIT : Nat) < o
      (¬ used → exec (.quartzReferenceUpdate o) s = .next s) ∧
      (used → Does (.quartzReferenceUpdate o) s (fun t => t.gi R.QTZ_OFFSET_OFFSET = clampI (-2147483648) 2147483647 o ∧
        t.on R.QTZ_STATUS_LOCKED = decide (-100 ≤ o ∧ o ≤ 100) ∧
        (step → t.now = (s.now + o.toNat) % 2 ^ 64 ∧ t.on R.QTZ_STATUS_STEPPED = true ∧ Counted s t R.QTZ_CNT_STEPS 1 ∧ t.qtz.slew = 0 ∧
          ∃ e ∈ t.evl.inFlight, e.code = 0x505 ∧ e.a0 = o.toNat % 2 ^ 32 ∧ e.a2 = s.g R.QTZ_CTRL_SOURCE) ∧
        (¬ step → t.now = s.now ∧ t.evl = s.evl ∧ t.qtz.slew = 65536 * o ∧ RegsBut s t [R.QTZ_OFFSET, R.QTZ_STATUS])))) ∧
    (∀ (good drop : Bool) (tc : BitVec 32) (period start : Nat),
      ((∀ k : Fin 16, s.g (R.DRK_PIN_FUNC k) ≠ 4) → exec (.ltcFrame good tc drop period start) s = .next s) ∧
      ((∃ k : Fin 16, s.g (R.DRK_PIN_FUNC k) = 4) →
        (good = false → exec (.ltcFrame good tc drop period start) s =
          .next { s with qtz := { s.qtz with bad := s.qtz.bad + 1, run := 0 } }) ∧
        (good = true → Does (.ltcFrame good tc drop period start) s (fun t => t.rd R.QTZ_TC = tc ∧ t.g64 R.QTZ_TC_TIME_LO = start % 2 ^ 64 ∧
          t.qtz.run = s.qtz.run + 1 ∧ t.qtz.bad = 0 ∧ t.now = s.now ∧
          RegsBut s t [R.QTZ_TC, R.QTZ_TC_TIME_LO, R.QTZ_TC_TIME_HI, R.QTZ_STATUS] ∧ t.evl = s.evl ∧
          (s.on R.QTZ_STATUS_TC_VALID = true → t.on R.QTZ_STATUS_TC_VALID = true) ∧
          (s.on R.QTZ_STATUS_TC_VALID = false → t.on R.QTZ_STATUS_TC_VALID = decide (16 ≤ s.qtz.run + 1 ∧ 15 ≤ s.qtz.periods.length)) ∧
          (s.on R.QTZ_STATUS_TC_VALID = false → t.on R.QTZ_STATUS_TC_VALID = true → period = 40000 → s.qtz.periods = List.replicate 15 40000 →
            t.g R.QTZ_STATUS_TC_RATE = 1) ∧
          (s.on R.QTZ_STATUS_TC_VALID = false → t.on R.QTZ_STATUS_TC_VALID = true → period = 33367 → s.qtz.periods = List.replicate 15 33367 →
            t.g R.QTZ_STATUS_TC_RATE = (if drop then 2 else 4)) ∧
          (s.on R.DRK_CTRL_TIME_MASTER = true → s.on R.DRK_CTRL_EN = true → t.out = .ring (ringBytes 5 (s.g R.DRK_CTRL_NODE_ID) s.drk.seq 0
            (start % 2 ^ 64) (tc.toNat % 2 ^ 32) 0) :: s.out) ∧
          (s.on R.DRK_CTRL_TIME_MASTER = false → t.out = s.out))))) ∧
    (∀ dt : Nat, Does (.timeFollowerCorrection dt) s (fun t => ∃ k : Nat, t.now = (s.now + k) % 2 ^ 64 ∧
      (let most := if s.qtz.slew = 0 then 0 else 65536 * dt * s.g R.QTZ_LIMITS_SLEW_MAX / 1000000
       let base := if s.g R.QTZ_CTRL_SOURCE = 3 then 65536 * dt * s.qtz.rate / 2 ^ 32 else 65536 * dt
       65536 * k ≤ s.qtz.frac + base + most ∧ s.qtz.frac + base ≤ 65536 * k + most + 65535) ∧
      (∀ d : Fin 16, (t.qtz.skew[d]?.getD 0).natAbs ≤ 8) ∧
      t.qtz.slew.natAbs ≤ s.qtz.slew.natAbs ∧ t.qtz.frac < 65536 ∧ RegsBut s t [R.QTZ_TIME_LO, R.QTZ_TIME_HI, R.CGL_STATUS] ∧ t.evl = s.evl)) ∧
    (let ends := s.on R.QTZ_STATUS_TC_VALID = true ∧ (8 ≤ s.qtz.bad ∨
       s.qtz.lastGood + 8000 * ratePeriod (s.g R.QTZ_STATUS_TC_RATE) ≤ s.now)
     (¬ ends → exec .tcValidLoss s = .next s) ∧
     (ends → Does .tcValidLoss s (fun t => t.on R.QTZ_STATUS_TC_VALID = false ∧ BitsBut s t R.QTZ_STATUS [R.QTZ_STATUS_TC_VALID] ∧
       RegsBut s t [R.QTZ_STATUS] ∧ t.qtz.run = 0 ∧ t.qtz.periods = [])))

/-- An event merges into the newest unconsumed record of its kind; LOSS and MARK never do (R489). -/
def Obligations.EventsMerge : Prop :=
  ∀ s : State, s.up = true → ∀ (e : Event) (rest : List Event), nextEvent s.evl.inFlight = some (e, rest) →
    let same := fun (r : Rec) => 0 < unconsumed s ∧ r.ev.code = e.code ∧ r.ev.src = e.src ∧ r.ev.cause = e.cause ∧ r.ev.a0 = e.a0 ∧
      r.ev.a1 = e.a1 ∧ r.ev.a2 = e.a2 ∧ r.ev.a3 = e.a3 ∧ s.now < r.entered + 100000 * s.g R.EVL_CFG_COALESCE ∧
      severity e.code e.cause ≠ 3 ∧ e.code ≠ 0x506
    (∀ r l, s.evl.ring = r :: l → same r → Does .eventEntry s (fun t => t.evl.ring = { r with rep := min 0xFFFF (r.rep + 1) } :: l ∧
      t.evl.inFlight = rest ∧ t.g R.EVL_TAIL_COUNT = s.g R.EVL_TAIL_COUNT)) ∧
    ((∀ r l, s.evl.ring = r :: l → ¬ same r) → Does .eventEntry s (fun t => t.evl.inFlight = rest ∧
      (t.evl.ring = s.evl.ring ∨ ∃ x : Rec, x.ev = e ∧ x.rep = 0 ∧ t.evl.ring = (x :: s.evl.ring).take 8192)))

/-- Entering and dropping events, EVL_HEAD, the answers of the mailbox, the last step of start-up (R319, R469, R472, R473, R481, R482, R486, R488, R490, R491, R493). What rests on log entries 7, 56, 57 is the model's choice and no rule of the spec. -/
def Obligations.EventLogAndMailbox : Prop :=
  ∀ s : State, s.up = true →
    (s.evl.inFlight = [] → exec .eventEntry s = .next s) ∧
    (∀ f l, s.evl.inFlight = f :: l → ∃ e ∈ f :: l, e.time = f.time ∧
      (∀ x ∈ f :: l, x.time = f.time → ¬ (x.code < e.code ∨ (x.code = e.code ∧ x.src < e.src))) ∧
      Does .eventEntry s (fun t => t.evl.inFlight = (f :: l).erase e ∧
        let room := if severity e.code e.cause = 3 then 8192 else 7936
        (∀ r ∈ s.evl.ring.head?, unconsumed s = 0 ∨ merges s r e = false) →
        (unconsumed s < room → t.evl.ring = (⟨e, 0, s.now⟩ :: s.evl.ring).take 8192 ∧ Counted s t R.EVL_CNT_LOGGED 1 ∧
          t.g R.EVL_TAIL_COUNT = (s.g R.EVL_TAIL_COUNT + 1) % 2 ^ 32 ∧ t.rd R.EVL_DROPPED = s.rd R.EVL_DROPPED ∧
          t.on R.EVL_STATUS_ARMED = (s.on R.EVL_STATUS_ARMED &&
            !(s.on R.EVL_CFG_INT_EN && decide (s.g R.EVL_CFG_INT_LEVEL ≤ severity e.code e.cause)))) ∧
        (room ≤ unconsumed s → t.evl.ring = s.evl.ring ∧ t.g R.EVL_TAIL_COUNT = s.g R.EVL_TAIL_COUNT ∧ Counted s t R.EVL_DROPPED 1 ∧
          t.on (if severity e.code e.cause = 3 then R.EVL_STATUS_LOSS_OVERFLOW else R.EVL_STATUS_OVERFLOW) = true))) ∧
    (∀ v : BitVec 32,
      (unconsumed s < (v - s.rd R.EVL_HEAD).toNat → Does (.evlHeadWrite v) s (fun t => t.on R.EVL_STATUS_HEAD_BAD = true ∧
        OnlyFields s t R.EVL_STATUS [R.EVL_STATUS_HEAD_BAD])) ∧
      ((v - s.rd R.EVL_HEAD).toNat ≤ unconsumed s → Does (.evlHeadWrite v) s (fun t => t.rd R.EVL_HEAD = v ∧ t.evl = s.evl ∧
        t.on R.EVL_STATUS_ARMED = !(s.on R.EVL_CFG_INT_EN && qualifying t)))) ∧
    (∀ i, exec (.doeDiscovery i) s = .next (s.emit (.doe (if i = 0 then .discovery 0 1 else if i = 1 then .discovery 1 0 else .error)))) ∧
    (s.tru.updOp = some 2 → ∀ (c : Instr) (r : DoeReq),
      (c = .getVersion ∧ r = .version) ∨ (c = .getCapabilities ∧ r = .capabilities) ∨ (∃ o, c = .negotiateAlgorithms o ∧ r = .algorithms o) ∨
        (c = .getDigests ∧ r = .digests) ∨ (∃ a b n, c = .getCertificate a b n ∧ r = .certificate a b n) ∨
        (∃ a x, c = .challenge a x ∧ r = .challenge a x) ∨ (∃ i g x, c = .getMeasurements i g x ∧ r = .measurements i g x) →
      exec c s = .next { s with tru := { s.tru with doeWait := s.tru.doeWait ++ [r] } }) ∧
    (s.tru.updOp ≠ some 2 →
      let served := fun (c : Instr) (a : DoeAnswer) (P : State → Prop) => Does c s (fun t => t.out = .doe a :: s.out ∧
        Counted s t R.TRU_CNT_SPDM 1 ∧ RegsBut s t [R.TRU_CNT_SPDM] ∧ P t)
      let fails := fun (c : Instr) => exec c s = .next (s.emit (.doe .error))
      let kept := fun (t : State) => t.tru = s.tru
      served .getVersion (.version 1 3) (fun t => t.tru = { s.tru with spdmVersion := true, spdmCaps := false, spdmAlgs := false }) ∧
      (s.tru.spdmVersion = true → served .getCapabilities .capabilities (fun t => t.tru = { s.tru with spdmCaps := true, spdmAlgs := false })) ∧
      (s.tru.spdmVersion = false → fails .getCapabilities) ∧
      (s.tru.spdmCaps = true → served (.negotiateAlgorithms true) .algorithms (fun t => t.tru = { s.tru with spdmAlgs := true })) ∧
      (∀ o, (s.tru.spdmCaps = false ∨ o = false) → fails (.negotiateAlgorithms o)) ∧
      (s.tru.spdmAlgs = false → fails .getDigests ∧ (∀ a b n, fails (.getCertificate a b n)) ∧ (∀ a x, fails (.challenge a x)) ∧
        ∀ i g x, fails (.getMeasurements i g x)) ∧
      (s.tru.spdmAlgs = true →
        served .getDigests (.digests [sha512 (Config.certChain 0), sha512 (Config.certChain 1)]) kept ∧
        (∀ a b n, a ≤ 1 → b ≤ (Config.certChain a).length → served (.getCertificate a b n)
          (.certificate a (((Config.certChain a).drop b).take n) ((Config.certChain a).length - (b + n))) kept) ∧
        (∀ a b n, 1 < a ∨ (Config.certChain a).length < b → fails (.getCertificate a b n)) ∧
        (∀ a x, (a ≤ 1 → served (.challenge a x) (.challenge a (sha512 (Config.certChain a)) (sigBytes false (sha512 x)) (sigBytes true (sha512 x))) kept) ∧
          (1 < a → fails (.challenge a x))) ∧
        (∀ (i : Nat) (g : Bool) (x : List Byte), (1 ≤ i → i ≤ 6 → served (.getMeasurements i g x)
            (.measurements 6 [(i, measurement s i)] (if g then some (sigBytes false (sha512 x), sigBytes true (sha512 x)) else none)) kept) ∧
          (6 < i → i ≠ 255 → fails (.getMeasurements i g x))))) ∧
    (∀ imgs, s.live = true → let ready := (∀ x ∈ s.buf.train.toList, x = .trained) ∧ s.g R.BUF_STATUS_TRAIN_FAIL = 0 ∧ 0 < s.buf.poolSize ∧
        s.sys.ready = true ∧ s.sys.sysInit = false
      (¬ ready → exec (.systemRegionInitDone imgs) s = .next s) ∧
      (ready → Does (.systemRegionInitDone imgs) s (fun t => t.sys = { s.sys with sysInit := true } ∧ t.g R.HQE_STATUS_CLOSED = 0 ∧
        t.on R.DRK_STATUS_IN_RING = s.on R.DRK_CTRL_EN)))

/-- Flash and update commands begin, are refused and end; the trial ends (R465, R467, R468, R478, R479, R481, R482). What rests on log entries 7, 50, 51, 52, 53, 54, 55 is the model's choice and no rule of the spec. -/
def Obligations.FlashAndUpdate : Prop :=
  ∀ s : State, s.up = true →
    let busy := s.tru.flashOp ≠ none ∨ s.tru.updOp ≠ none
    let slot := s.g R.TRU_STATUS_SLOT
    (∀ (len : BitVec 13) (c : Instr) (cmd : Nat),
      (cmd = 0 ∧ c = .flashRead len) ∨ (cmd = 1 ∧ c = .flashProgram len) ∨ (cmd = 2 ∧ c = .flashErase len) →
      let n := if cmd = 2 then 0x10000 else if len = 0#13 then 4096 else len.toNat
      let a := if cmd = 2 then s.g R.TRU_FLASH_ADDR_ADDR / 0x10000 * 0x10000 else s.g R.TRU_FLASH_ADDR_ADDR
      let ok := ¬ busy ∧ (cmd = 2 ∨ n ≤ 4096) ∧ (s.on R.TRU_STATUS_RECOVERY = true ∨
        (s.on R.TRU_STATUS_TRIAL = false ∧ a / 2 ^ 25 % 2 ≠ slot ∧ (a + n - 1) / 2 ^ 25 % 2 ≠ slot))
      (ok → Does c s (fun t => t.tru = { s.tru with flashOp := some ⟨cmd, a, n⟩ } ∧ t.on R.TRU_FLASH_STATUS_BUSY = true ∧
        BitsBut s t R.TRU_FLASH_STATUS [R.TRU_FLASH_STATUS_BUSY] ∧ RegsBut s t [R.TRU_FLASH_STATUS])) ∧
      (¬ ok → Does c s (fun t => t.on R.TRU_FLASH_STATUS_REFUSED = true ∧ OnlyFields s t R.TRU_FLASH_STATUS [R.TRU_FLASH_STATUS_REFUSED]))) ∧
    (s.tru.flashOp = none → exec .flashCommandComplete s = .next s) ∧
    (∀ op, s.tru.flashOp = some op → op.cmd ≤ 2 → op.len ≤ 0x10000 → (op.cmd = 2 ∨ op.len ≤ 4096) →
      let inside := fun (x : Nat) => ∃ i < op.len, x = (op.addr + i) % 2 ^ 26
      Does .flashCommandComplete s (fun t => t.tru.flashOp = none ∧ t.on R.TRU_FLASH_STATUS_BUSY = false ∧ t.on R.TRU_FLASH_STATUS_DONE = true ∧
        (∀ x, ¬ inside x → flashByte t x = flashByte s x) ∧
        (op.cmd = 0 → t.tru.flash = s.tru.flash ∧ ∀ i < op.len, truBuf t i = flashByte s ((op.addr + i) % 2 ^ 26)) ∧
        (op.cmd = 1 → ∀ i < op.len, flashByte t ((op.addr + i) % 2 ^ 26) = flashByte s ((op.addr + i) % 2 ^ 26) &&& truBuf s i) ∧
        (op.cmd = 2 → ∀ x, inside x → flashByte t x = 0xFF) ∧
        (op.cmd ≠ 0 → op.addr / 2 ^ 25 % 2 = 1 - s.tru.prior → t.on R.TRU_STATUS_TRIAL_FAILED = false) ∧
        t.g R.TRU_STATUS_SLOT = slot ∧ t.hqe = s.hqe ∧ t.evl = s.evl)) ∧
    (∀ (c : Instr) (k : Nat), (k = 1 ∧ c = .updateVerify) ∨ (k = 2 ∧ c = .activate) ∨ (k = 4 ∧ c = .provision) ∨ (k = 5 ∧ c = .raiseSec) →
      let v := s.g R.TRU_FLASH_ADDR_ADDR
      let above := ∃ sl < 2, ∃ cfg, imageNum s sl cfg 12 4 < v
      let fails := fun (cause : Nat) => Does c s (fun t => t.on R.TRU_UPDATE_STATUS_FAILED = true ∧ t.g R.TRU_UPDATE_STATUS_CAUSE = cause ∧
        OnlyFields s t R.TRU_UPDATE_STATUS [R.TRU_UPDATE_STATUS_FAILED, R.TRU_UPDATE_STATUS_CAUSE])
      (busy → fails 0) ∧ (¬ busy → k = 5 → above → fails 6) ∧
      (¬ busy → (k = 5 → ¬ above) → Does c s (fun t =>
        t.tru = { s.tru with updOp := some k, secTo := (if k = 5 then v else s.tru.secTo) } ∧ t.on R.TRU_UPDATE_STATUS_BUSY = true ∧
        BitsBut s t R.TRU_UPDATE_STATUS [R.TRU_UPDATE_STATUS_BUSY] ∧ RegsBut s t [R.TRU_UPDATE_STATUS]))) ∧
    (s.tru.updOp = none → exec .updateCommandComplete s = .next s) ∧
    (let ends := fun (P : State → Prop) => Does .updateCommandComplete s (fun t => t.tru.updOp = none ∧
       t.on R.TRU_UPDATE_STATUS_BUSY = false ∧ t.on R.TRU_UPDATE_STATUS_DONE = true ∧ P t)
     let failed := fun (t : State) (cause : Nat) => t.on R.TRU_UPDATE_STATUS_FAILED = true ∧ t.g R.TRU_UPDATE_STATUS_CAUSE = cause ∧
       t.g R.TRU_STATUS_SLOT = slot ∧ t.tru.ownerKeys = s.tru.ownerKeys ∧ t.g R.TRU_SEC_MIN = s.g R.TRU_SEC_MIN
     let good := fun (t : State) => t.g R.TRU_UPDATE_STATUS_CAUSE = s.g R.TRU_UPDATE_STATUS_CAUSE ∧
       t.on R.TRU_UPDATE_STATUS_FAILED = s.on R.TRU_UPDATE_STATUS_FAILED
     let serial := imageNum s (1 - slot) false 8 4
     (s.tru.updOp = some 1 → (slotOk s (1 - slot) = true → ends (fun t => good t ∧ t.evl = s.evl ∧ RegsBut s t [R.TRU_UPDATE_STATUS])) ∧
       (slotOk s (1 - slot) = false → ends (fun t => failed t (t.g R.TRU_REJECT_CAUSE) ∧ t.g R.TRU_REJECT_SLOT = 1 - slot ∧
         t.g R.TRU_REJECT_CAUSE ≠ 0 ∧ ∃ e ∈ t.evl.inFlight, e.code = 0x601))) ∧
     (s.tru.updOp = some 2 → (signing s = true → exec .updateCommandComplete s = .next s) ∧
       (signing s = false →
         (slotOk s (1 - slot) = false → ends (fun t => failed t (t.g R.TRU_REJECT_CAUSE) ∧ t.g R.TRU_REJECT_SLOT = 1 - slot)) ∧
         (slotOk s (1 - slot) = true → serial ≤ s.g R.TRU_SERIAL_SERIAL → ends (fun t => failed t 8)) ∧
         (slotOk s (1 - slot) = true → s.g R.TRU_SERIAL_SERIAL < serial → ends (fun t => good t ∧ t.g R.TRU_STATUS_SLOT = 1 - slot ∧
           t.g R.TRU_SERIAL_SERIAL = serial ∧ t.on R.TRU_STATUS_TRIAL = true ∧ t.on R.TRU_STATUS_TRIAL_FAILED = false ∧ t.tru.prior = slot ∧
           t.tru.trialFrom = s.now ∧ t.tru.ucodeSlot = 1 - slot ∧ t.tru.doeWait = [] ∧
           ∃ e ∈ t.evl.inFlight, e.code = 0x602 ∧ e.a0 = serial)))) ∧
     (s.tru.updOp = some 4 → (s.on R.TRU_STATUS_OWNER_KEYS = true → ends (fun t => failed t 9)) ∧
       (s.on R.TRU_STATUS_OWNER_KEYS = false → ends (fun t => good t ∧ t.tru.ownerKeys = (List.range 1984).map (truBuf s) ∧
         t.on R.TRU_STATUS_OWNER_KEYS = true ∧ RegsBut s t [R.TRU_STATUS, R.TRU_UPDATE_STATUS]))) ∧
     (s.tru.updOp = some 5 → ends (fun t => good t ∧ t.g R.TRU_SEC_MIN = s.tru.secTo % 2 ^ 32 ∧
       RegsBut s t [R.TRU_SEC, R.TRU_UPDATE_STATUS]))) ∧
    (let past := s.on R.TRU_STATUS_TRIAL = true ∧ s.tru.trialFrom + 10000000000 ≤ s.now
     (¬ past → exec .trialExpiry s = .next s) ∧
     (past → Does .trialExpiry s (fun t => t.on R.TRU_STATUS_TRIAL = false ∧ OnlyFields s t R.TRU_STATUS [R.TRU_STATUS_TRIAL])))
end

