-- ==== Sys2Proof/Laws/Data.lean ====
section
/-!
SUPPORT. Laws of the sparse tables and of the fields of a word: a read after a write gives what was written, a write leaves every other
place alone, and every operation keeps the canonical form.
-/

namespace Sys2Proof.Machine

variable {α : Type}

theorem smGet_smErase_self (m : SMap α) (k : Nat) : smGet (smErase m k) k = none := by
  induction m with
  | nil => rfl
  | cons p t ih =>
    simp only [smErase]
    split
    · exact ih
    · simp only [smGet, if_neg ‹_›]; exact ih

theorem smGet_smErase_other (m : SMap α) {j k : Nat} (h : j ≠ k) : smGet (smErase m k) j = smGet m j := by
  induction m with
  | nil => rfl
  | cons p t ih =>
    simp only [smErase, smGet]
    split
    · next hk => rw [ih, if_neg]; omega
    · simp only [smGet]; split
      · rfl
      · exact ih

theorem smGet_smInsert_self (m : SMap α) (k : Nat) (v : α) (h : smGet m k = none) : smGet (smInsert m k v) k = some v := by
  induction m with
  | nil => simp [smInsert, smGet]
  | cons p t ih =>
    simp only [smGet] at h
    simp only [smInsert]
    split
    · simp [smGet]
    · split at h
      · cases h
      · simp only [smGet, if_neg ‹_›]; exact ih h

theorem smGet_smInsert_other (m : SMap α) {j k : Nat} (v : α) (h : j ≠ k) : smGet (smInsert m k v) j = smGet m j := by
  induction m with
  | nil => simp [smInsert, smGet, h.symm]
  | cons p t ih =>
    simp only [smInsert]
    split
    · simp [smGet, h.symm]
    · simp only [smGet, ih]

/-- A read after a listing gives what was listed. -/
theorem smGet_smPut_self (m : SMap α) (k : Nat) (v : α) : smGet (smPut m k v) k = some v :=
  smGet_smInsert_self _ _ _ (smGet_smErase_self m k)

/-- Listing a key leaves the others alone. -/
theorem smGet_smPut_other (m : SMap α) {j k : Nat} (v : α) (h : j ≠ k) : smGet (smPut m k v) j = smGet m j := by
  rw [smPut, smGet_smInsert_other _ _ h, smGet_smErase_other _ h]

/-- A read after a write of a table with a default gives what was written. -/
theorem smSet_self [DecidableEq α] (d : α) (m : SMap α) (k : Nat) (v : α) : (smGet (smSet d m k v) k).getD d = v := by
  unfold smSet
  split
  · rw [smGet_smErase_self]; simp [‹v = d›]
  · rw [smGet_smPut_self]; rfl

/-- A write of a table with a default leaves every other key alone. -/
theorem smSet_other [DecidableEq α] (d : α) (m : SMap α) {j k : Nat} (v : α) (h : j ≠ k) :
    smGet (smSet d m k v) j = smGet m j := by
  unfold smSet
  split
  · exact smGet_smErase_other m h
  · exact smGet_smPut_other m v h

/-- Every key of a table is above a bound. -/
def smAbove (b : Nat) (m : SMap α) : Prop := ∀ p ∈ m, b < p.1

theorem smRising_cons (p : Nat × α) (t : SMap α) : smRising (p :: t) = true ↔ smAbove p.1 t ∧ smRising t = true := by
  induction t generalizing p with
  | nil => simp [smRising, smAbove]
  | cons q t ih =>
    rw [smRising]
    simp only [Bool.and_eq_true, decide_eq_true_eq]
    constructor
    · rintro ⟨h, hr⟩
      refine ⟨?_, hr⟩
      intro x hx
      rcases List.mem_cons.mp hx with rfl | hx
      · exact h
      · exact Nat.lt_trans h (((ih q).mp hr).1 x hx)
    · rintro ⟨h, hr⟩
      exact ⟨h q (List.mem_cons_self ..), hr⟩

theorem smAbove_smErase {b : Nat} {m : SMap α} (k : Nat) (h : smAbove b m) : smAbove b (smErase m k) := by
  induction m with
  | nil => exact h
  | cons p t ih =>
    have ht : smAbove b t := fun x hx => h x (List.mem_cons_of_mem _ hx)
    simp only [smErase]
    split
    · exact ih ht
    · intro x hx
      rcases List.mem_cons.mp hx with rfl | hx
      · exact h _ (List.mem_cons_self ..)
      · exact ih ht x hx

theorem smRising_smErase {m : SMap α} (k : Nat) (h : smRising m = true) : smRising (smErase m k) = true := by
  induction m with
  | nil => rfl
  | cons p t ih =>
    have hp := (smRising_cons p t).mp h
    simp only [smErase]
    split
    · exact ih hp.2
    · exact (smRising_cons _ _).mpr ⟨smAbove_smErase k hp.1, ih hp.2⟩

theorem smAbove_smInsert {b : Nat} {m : SMap α} {k : Nat} {v : α} (hk : b < k) (h : smAbove b m) : smAbove b (smInsert m k v) := by
  induction m with
  | nil => intro x hx; simp only [smInsert, List.mem_singleton] at hx; subst hx; exact hk
  | cons p t ih =>
    have ht : smAbove b t := fun x hx => h x (List.mem_cons_of_mem _ hx)
    simp only [smInsert]
    split
    · intro x hx
      rcases List.mem_cons.mp hx with rfl | hx
      · exact hk
      · exact h x hx
    · intro x hx
      rcases List.mem_cons.mp hx with rfl | hx
      · exact h _ (List.mem_cons_self ..)
      · exact ih ht x hx

theorem smRising_smInsert {m : SMap α} {k : Nat} {v : α} (h : smRising m = true) (hk : smGet m k = none) :
    smRising (smInsert m k v) = true := by
  induction m with
  | nil => rfl
  | cons p t ih =>
    have hp := (smRising_cons p t).mp h
    simp only [smGet] at hk
    simp only [smInsert]
    split
    · next hlt =>
      refine (smRising_cons _ _).mpr ⟨?_, h⟩
      intro x hx
      rcases List.mem_cons.mp hx with rfl | hx
      · exact hlt
      · exact Nat.lt_trans hlt (hp.1 x hx)
    · next hlt =>
      split at hk
      · cases hk
      · next hne =>
        refine (smRising_cons _ _).mpr ⟨smAbove_smInsert ?_ hp.1, ih hp.2 hk⟩
        show p.1 < k
        omega

/-- A write keeps the keys rising. -/
theorem smRising_smSet [DecidableEq α] {m : SMap α} (d : α) (k : Nat) (v : α) (h : smRising m = true) :
    smRising (smSet d m k v) = true := by
  unfold smSet
  split
  · exact smRising_smErase k h
  · exact smRising_smInsert (smRising_smErase k h) (smGet_smErase_self m k)

theorem mem_smErase {m : SMap α} {k : Nat} {p : Nat × α} (h : p ∈ smErase m k) : p ∈ m := by
  induction m with
  | nil => exact h
  | cons q t ih =>
    simp only [smErase] at h
    split at h
    · exact List.mem_cons_of_mem _ (ih h)
    · rcases List.mem_cons.mp h with rfl | h
      · exact List.mem_cons_self ..
      · exact List.mem_cons_of_mem _ (ih h)

theorem mem_smInsert {m : SMap α} {k : Nat} {v : α} {p : Nat × α} (h : p ∈ smInsert m k v) : p = (k, v) ∨ p ∈ m := by
  induction m with
  | nil => simpa [smInsert] using h
  | cons q t ih =>
    simp only [smInsert] at h
    split at h
    · rcases List.mem_cons.mp h with rfl | h
      · exact .inl rfl
      · exact .inr h
    · rcases List.mem_cons.mp h with rfl | h
      · exact .inr (List.mem_cons_self ..)
      · rcases ih h with rfl | h
        · exact .inl rfl
        · exact .inr (List.mem_cons_of_mem _ h)

/-- A write keeps the canonical form. -/
theorem smWf_smSet [DecidableEq α] {d : Nat → α} {m : SMap α} (k : Nat) (v : α) (h : smWf d m = true) :
    smWf d (smSet (d k) m k v) = true := by
  unfold smWf at *
  rw [Bool.and_eq_true] at *
  refine ⟨smRising_smSet _ _ _ h.1, ?_⟩
  rw [List.all_eq_true] at *
  intro p hp
  have h2 := h.2
  unfold smSet at hp
  split at hp
  · exact h2 p (mem_smErase hp)
  · next hv =>
    rcases mem_smInsert hp with rfl | hp
    · simpa using hv
    · exact h2 p (mem_smErase hp)

/-- A word read back after a field was set: the field's bits hold the value. -/
theorem getF_setF_self (w : Word) (f : FRef) (v : Nat) (h : f.lo + f.w ≤ 32) : getF (setF w f v) f = v % 2 ^ f.w := by
  have hb : ∀ i, (getF (setF w f v) f).testBit i = (v % 2 ^ f.w).testBit i := by
    intro i
    unfold getF setF fieldMask
    simp only [Nat.testBit_mod_two_pow, Nat.testBit_div_two_pow, BitVec.toNat_or, BitVec.toNat_and, BitVec.toNat_not,
      BitVec.toNat_ofNat, Nat.testBit_or, Nat.testBit_and]
    by_cases hi : i < f.w
    · have h32 : i + f.lo < 32 := by omega
      have e1 : ((2 ^ f.w - 1) * 2 ^ f.lo % 2 ^ 32).testBit (i + f.lo) = true := by
        rw [Nat.testBit_mod_two_pow]; simp [h32, Nat.testBit_mul_two_pow, hi]
      have e2 : (v % 2 ^ f.w * 2 ^ f.lo).testBit (i + f.lo) = v.testBit i := by
        simp [Nat.testBit_mul_two_pow, hi, Nat.testBit_mod_two_pow]
      have e3 : (2 ^ 32 - 1 - (2 ^ f.w - 1) * 2 ^ f.lo % 2 ^ 32).testBit (i + f.lo) = false := by
        have hlt : (2 ^ f.w - 1) * 2 ^ f.lo % 2 ^ 32 < 2 ^ 32 := Nat.mod_lt _ (by decide)
        have : (2 ^ 32 - 1 - (2 ^ f.w - 1) * 2 ^ f.lo % 2 ^ 32) = 2 ^ 32 - ((2 ^ f.w - 1) * 2 ^ f.lo % 2 ^ 32 + 1) := by omega
        rw [this, Nat.testBit_two_pow_sub_succ hlt, e1]; simp
      rw [e2, e3]; simp [hi, h32]
    · simp [hi]
  exact Nat.eq_of_testBit_eq hb

/-- Setting a field leaves a field of other bits alone. -/
theorem getF_setF_other (w : Word) (f g : FRef) (v : Nat) (h : f.lo + f.w ≤ g.lo ∨ g.lo + g.w ≤ f.lo) (hg : g.lo + g.w ≤ 32) :
    getF (setF w f v) g = getF w g := by
  have hb : ∀ i, (getF (setF w f v) g).testBit i = (getF w g).testBit i := by
    intro i
    unfold getF setF fieldMask
    simp only [Nat.testBit_mod_two_pow, Nat.testBit_div_two_pow, BitVec.toNat_or, BitVec.toNat_and, BitVec.toNat_not,
      BitVec.toNat_ofNat, Nat.testBit_or, Nat.testBit_and]
    by_cases hi : i < g.w
    · have h32 : i + g.lo < 32 := by omega
      have e1 : ((2 ^ f.w - 1) * 2 ^ f.lo % 2 ^ 32).testBit (i + g.lo) = false := by
        rw [Nat.testBit_mod_two_pow]; simp [h32, Nat.testBit_mul_two_pow]; omega
      have e2 : (v % 2 ^ f.w * 2 ^ f.lo).testBit (i + g.lo) = false := by
        simp [Nat.testBit_mul_two_pow, Nat.testBit_mod_two_pow]; omega
      have e3 : (2 ^ 32 - 1 - (2 ^ f.w - 1) * 2 ^ f.lo % 2 ^ 32).testBit (i + g.lo) = true := by
        have hlt : (2 ^ f.w - 1) * 2 ^ f.lo % 2 ^ 32 < 2 ^ 32 := Nat.mod_lt _ (by decide)
        have : (2 ^ 32 - 1 - (2 ^ f.w - 1) * 2 ^ f.lo % 2 ^ 32) = 2 ^ 32 - ((2 ^ f.w - 1) * 2 ^ f.lo % 2 ^ 32 + 1) := by omega
        rw [this, Nat.testBit_two_pow_sub_succ hlt, e1]; simp [h32]
      rw [e2, e3]; simp
    · simp [hi]
  exact Nat.eq_of_testBit_eq hb

end Sys2Proof.Machine
end

