-- ==== Sys2Proof/Laws/State.lean ====
section
/-!
SUPPORT. What each update of the state leaves alone and what it changes, one lemma per update and field, each true by unfolding.
-/

namespace Sys2Proof.Machine

@[simp] theorem State.wr_pending (s : State) (a : Nat) (w : Word) : (s.wr a w).pending = s.pending := rfl
@[simp] theorem State.wr_pend (s : State) (a : Nat) (w : Word) : (s.wr a w).pend = s.pend := rfl
@[simp] theorem State.wr_stag (s : State) (a : Nat) (w : Word) : (s.wr a w).stag = s.stag := rfl
@[simp] theorem State.wr_written (s : State) (a : Nat) (w : Word) : (s.wr a w).written = s.written := rfl
@[simp] theorem State.wr_strobes (s : State) (a : Nat) (w : Word) : (s.wr a w).strobes = s.strobes := rfl
@[simp] theorem State.wr_rdShadows (s : State) (a : Nat) (w : Word) : (s.wr a w).rdShadows = s.rdShadows := rfl
@[simp] theorem State.wr_wrShadows (s : State) (a : Nat) (w : Word) : (s.wr a w).wrShadows = s.wrShadows := rfl
@[simp] theorem State.wr_free (s : State) (a : Nat) (w : Word) : (s.wr a w).free = s.free := rfl
@[simp] theorem State.wr_out (s : State) (a : Nat) (w : Word) : (s.wr a w).out = s.out := rfl
@[simp] theorem State.wr_sys (s : State) (a : Nat) (w : Word) : (s.wr a w).sys = s.sys := rfl
@[simp] theorem State.wr_evl (s : State) (a : Nat) (w : Word) : (s.wr a w).evl = s.evl := rfl
@[simp] theorem State.wr_tru (s : State) (a : Nat) (w : Word) : (s.wr a w).tru = s.tru := rfl
@[simp] theorem State.wr_lanes (s : State) (a : Nat) (w : Word) : (s.wr a w).lanes = s.lanes := rfl
@[simp] theorem State.wr_stn (s : State) (a : Nat) (w : Word) : (s.wr a w).stn = s.stn := rfl
@[simp] theorem State.wr_wrs (s : State) (a : Nat) (w : Word) : (s.wr a w).wrs = s.wrs := rfl
@[simp] theorem State.wr_tpz (s : State) (a : Nat) (w : Word) : (s.wr a w).tpz = s.tpz := rfl
@[simp] theorem State.wr_buf (s : State) (a : Nat) (w : Word) : (s.wr a w).buf = s.buf := rfl
@[simp] theorem State.wr_grn (s : State) (a : Nat) (w : Word) : (s.wr a w).grn = s.grn := rfl
@[simp] theorem State.wr_onx (s : State) (a : Nat) (w : Word) : (s.wr a w).onx = s.onx := rfl
@[simp] theorem State.wr_hqe (s : State) (a : Nat) (w : Word) : (s.wr a w).hqe = s.hqe := rfl
@[simp] theorem State.wr_rx (s : State) (a : Nat) (w : Word) : (s.wr a w).rx = s.rx := rfl
@[simp] theorem State.wr_brl (s : State) (a : Nat) (w : Word) : (s.wr a w).brl = s.brl := rfl
@[simp] theorem State.wr_jsp (s : State) (a : Nat) (w : Word) : (s.wr a w).jsp = s.jsp := rfl
@[simp] theorem State.wr_spn (s : State) (a : Nat) (w : Word) : (s.wr a w).spn = s.spn := rfl
@[simp] theorem State.wr_bus (s : State) (a : Nat) (w : Word) : (s.wr a w).bus = s.bus := rfl
@[simp] theorem State.wr_sld (s : State) (a : Nat) (w : Word) : (s.wr a w).sld = s.sld := rfl
@[simp] theorem State.wr_cal (s : State) (a : Nat) (w : Word) : (s.wr a w).cal = s.cal := rfl
@[simp] theorem State.wr_vf (s : State) (a : Nat) (w : Word) : (s.wr a w).vf = s.vf := rfl
@[simp] theorem State.wr_pcx (s : State) (a : Nat) (w : Word) : (s.wr a w).pcx = s.pcx := rfl
@[simp] theorem State.wr_cgl (s : State) (a : Nat) (w : Word) : (s.wr a w).cgl = s.cgl := rfl
@[simp] theorem State.wr_drk (s : State) (a : Nat) (w : Word) : (s.wr a w).drk = s.drk := rfl
@[simp] theorem State.wr_qtz (s : State) (a : Nat) (w : Word) : (s.wr a w).qtz = s.qtz := rfl
@[simp] theorem State.wr_up (s : State) (a : Nat) (w : Word) : (s.wr a w).up = s.up := rfl
@[simp] theorem State.u_pending (s : State) (f : FRef) (v : Nat) : (s.u f v).pending = s.pending := rfl
@[simp] theorem State.u_pend (s : State) (f : FRef) (v : Nat) : (s.u f v).pend = s.pend := rfl
@[simp] theorem State.u_stag (s : State) (f : FRef) (v : Nat) : (s.u f v).stag = s.stag := rfl
@[simp] theorem State.u_written (s : State) (f : FRef) (v : Nat) : (s.u f v).written = s.written := rfl
@[simp] theorem State.u_strobes (s : State) (f : FRef) (v : Nat) : (s.u f v).strobes = s.strobes := rfl
@[simp] theorem State.u_rdShadows (s : State) (f : FRef) (v : Nat) : (s.u f v).rdShadows = s.rdShadows := rfl
@[simp] theorem State.u_wrShadows (s : State) (f : FRef) (v : Nat) : (s.u f v).wrShadows = s.wrShadows := rfl
@[simp] theorem State.u_free (s : State) (f : FRef) (v : Nat) : (s.u f v).free = s.free := rfl
@[simp] theorem State.u_out (s : State) (f : FRef) (v : Nat) : (s.u f v).out = s.out := rfl
@[simp] theorem State.u_sys (s : State) (f : FRef) (v : Nat) : (s.u f v).sys = s.sys := rfl
@[simp] theorem State.u_evl (s : State) (f : FRef) (v : Nat) : (s.u f v).evl = s.evl := rfl
@[simp] theorem State.u_tru (s : State) (f : FRef) (v : Nat) : (s.u f v).tru = s.tru := rfl
@[simp] theorem State.u_lanes (s : State) (f : FRef) (v : Nat) : (s.u f v).lanes = s.lanes := rfl
@[simp] theorem State.u_stn (s : State) (f : FRef) (v : Nat) : (s.u f v).stn = s.stn := rfl
@[simp] theorem State.u_wrs (s : State) (f : FRef) (v : Nat) : (s.u f v).wrs = s.wrs := rfl
@[simp] theorem State.u_tpz (s : State) (f : FRef) (v : Nat) : (s.u f v).tpz = s.tpz := rfl
@[simp] theorem State.u_buf (s : State) (f : FRef) (v : Nat) : (s.u f v).buf = s.buf := rfl
@[simp] theorem State.u_grn (s : State) (f : FRef) (v : Nat) : (s.u f v).grn = s.grn := rfl
@[simp] theorem State.u_onx (s : State) (f : FRef) (v : Nat) : (s.u f v).onx = s.onx := rfl
@[simp] theorem State.u_hqe (s : State) (f : FRef) (v : Nat) : (s.u f v).hqe = s.hqe := rfl
@[simp] theorem State.u_rx (s : State) (f : FRef) (v : Nat) : (s.u f v).rx = s.rx := rfl
@[simp] theorem State.u_brl (s : State) (f : FRef) (v : Nat) : (s.u f v).brl = s.brl := rfl
@[simp] theorem State.u_jsp (s : State) (f : FRef) (v : Nat) : (s.u f v).jsp = s.jsp := rfl
@[simp] theorem State.u_spn (s : State) (f : FRef) (v : Nat) : (s.u f v).spn = s.spn := rfl
@[simp] theorem State.u_bus (s : State) (f : FRef) (v : Nat) : (s.u f v).bus = s.bus := rfl
@[simp] theorem State.u_sld (s : State) (f : FRef) (v : Nat) : (s.u f v).sld = s.sld := rfl
@[simp] theorem State.u_cal (s : State) (f : FRef) (v : Nat) : (s.u f v).cal = s.cal := rfl
@[simp] theorem State.u_vf (s : State) (f : FRef) (v : Nat) : (s.u f v).vf = s.vf := rfl
@[simp] theorem State.u_pcx (s : State) (f : FRef) (v : Nat) : (s.u f v).pcx = s.pcx := rfl
@[simp] theorem State.u_cgl (s : State) (f : FRef) (v : Nat) : (s.u f v).cgl = s.cgl := rfl
@[simp] theorem State.u_drk (s : State) (f : FRef) (v : Nat) : (s.u f v).drk = s.drk := rfl
@[simp] theorem State.u_qtz (s : State) (f : FRef) (v : Nat) : (s.u f v).qtz = s.qtz := rfl
@[simp] theorem State.u_up (s : State) (f : FRef) (v : Nat) : (s.u f v).up = s.up := rfl
@[simp] theorem State.ui_pending (s : State) (f : FRef) (v : Int) : (s.ui f v).pending = s.pending := rfl
@[simp] theorem State.ui_pend (s : State) (f : FRef) (v : Int) : (s.ui f v).pend = s.pend := rfl
@[simp] theorem State.ui_stag (s : State) (f : FRef) (v : Int) : (s.ui f v).stag = s.stag := rfl
@[simp] theorem State.ui_written (s : State) (f : FRef) (v : Int) : (s.ui f v).written = s.written := rfl
@[simp] theorem State.ui_strobes (s : State) (f : FRef) (v : Int) : (s.ui f v).strobes = s.strobes := rfl
@[simp] theorem State.ui_rdShadows (s : State) (f : FRef) (v : Int) : (s.ui f v).rdShadows = s.rdShadows := rfl
@[simp] theorem State.ui_wrShadows (s : State) (f : FRef) (v : Int) : (s.ui f v).wrShadows = s.wrShadows := rfl
@[simp] theorem State.ui_free (s : State) (f : FRef) (v : Int) : (s.ui f v).free = s.free := rfl
@[simp] theorem State.ui_out (s : State) (f : FRef) (v : Int) : (s.ui f v).out = s.out := rfl
@[simp] theorem State.ui_sys (s : State) (f : FRef) (v : Int) : (s.ui f v).sys = s.sys := rfl
@[simp] theorem State.ui_evl (s : State) (f : FRef) (v : Int) : (s.ui f v).evl = s.evl := rfl
@[simp] theorem State.ui_tru (s : State) (f : FRef) (v : Int) : (s.ui f v).tru = s.tru := rfl
@[simp] theorem State.ui_lanes (s : State) (f : FRef) (v : Int) : (s.ui f v).lanes = s.lanes := rfl
@[simp] theorem State.ui_stn (s : State) (f : FRef) (v : Int) : (s.ui f v).stn = s.stn := rfl
@[simp] theorem State.ui_wrs (s : State) (f : FRef) (v : Int) : (s.ui f v).wrs = s.wrs := rfl
@[simp] theorem State.ui_tpz (s : State) (f : FRef) (v : Int) : (s.ui f v).tpz = s.tpz := rfl
@[simp] theorem State.ui_buf (s : State) (f : FRef) (v : Int) : (s.ui f v).buf = s.buf := rfl
@[simp] theorem State.ui_grn (s : State) (f : FRef) (v : Int) : (s.ui f v).grn = s.grn := rfl
@[simp] theorem State.ui_onx (s : State) (f : FRef) (v : Int) : (s.ui f v).onx = s.onx := rfl
@[simp] theorem State.ui_hqe (s : State) (f : FRef) (v : Int) : (s.ui f v).hqe = s.hqe := rfl
@[simp] theorem State.ui_rx (s : State) (f : FRef) (v : Int) : (s.ui f v).rx = s.rx := rfl
@[simp] theorem State.ui_brl (s : State) (f : FRef) (v : Int) : (s.ui f v).brl = s.brl := rfl
@[simp] theorem State.ui_jsp (s : State) (f : FRef) (v : Int) : (s.ui f v).jsp = s.jsp := rfl
@[simp] theorem State.ui_spn (s : State) (f : FRef) (v : Int) : (s.ui f v).spn = s.spn := rfl
@[simp] theorem State.ui_bus (s : State) (f : FRef) (v : Int) : (s.ui f v).bus = s.bus := rfl
@[simp] theorem State.ui_sld (s : State) (f : FRef) (v : Int) : (s.ui f v).sld = s.sld := rfl
@[simp] theorem State.ui_cal (s : State) (f : FRef) (v : Int) : (s.ui f v).cal = s.cal := rfl
@[simp] theorem State.ui_vf (s : State) (f : FRef) (v : Int) : (s.ui f v).vf = s.vf := rfl
@[simp] theorem State.ui_pcx (s : State) (f : FRef) (v : Int) : (s.ui f v).pcx = s.pcx := rfl
@[simp] theorem State.ui_cgl (s : State) (f : FRef) (v : Int) : (s.ui f v).cgl = s.cgl := rfl
@[simp] theorem State.ui_drk (s : State) (f : FRef) (v : Int) : (s.ui f v).drk = s.drk := rfl
@[simp] theorem State.ui_qtz (s : State) (f : FRef) (v : Int) : (s.ui f v).qtz = s.qtz := rfl
@[simp] theorem State.ui_up (s : State) (f : FRef) (v : Int) : (s.ui f v).up = s.up := rfl
@[simp] theorem State.u64_pending (s : State) (a v : Nat) : (s.u64 a v).pending = s.pending := rfl
@[simp] theorem State.u64_pend (s : State) (a v : Nat) : (s.u64 a v).pend = s.pend := rfl
@[simp] theorem State.u64_stag (s : State) (a v : Nat) : (s.u64 a v).stag = s.stag := rfl
@[simp] theorem State.u64_written (s : State) (a v : Nat) : (s.u64 a v).written = s.written := rfl
@[simp] theorem State.u64_strobes (s : State) (a v : Nat) : (s.u64 a v).strobes = s.strobes := rfl
@[simp] theorem State.u64_rdShadows (s : State) (a v : Nat) : (s.u64 a v).rdShadows = s.rdShadows := rfl
@[simp] theorem State.u64_wrShadows (s : State) (a v : Nat) : (s.u64 a v).wrShadows = s.wrShadows := rfl
@[simp] theorem State.u64_free (s : State) (a v : Nat) : (s.u64 a v).free = s.free := rfl
@[simp] theorem State.u64_out (s : State) (a v : Nat) : (s.u64 a v).out = s.out := rfl
@[simp] theorem State.u64_sys (s : State) (a v : Nat) : (s.u64 a v).sys = s.sys := rfl
@[simp] theorem State.u64_evl (s : State) (a v : Nat) : (s.u64 a v).evl = s.evl := rfl
@[simp] theorem State.u64_tru (s : State) (a v : Nat) : (s.u64 a v).tru = s.tru := rfl
@[simp] theorem State.u64_lanes (s : State) (a v : Nat) : (s.u64 a v).lanes = s.lanes := rfl
@[simp] theorem State.u64_stn (s : State) (a v : Nat) : (s.u64 a v).stn = s.stn := rfl
@[simp] theorem State.u64_wrs (s : State) (a v : Nat) : (s.u64 a v).wrs = s.wrs := rfl
@[simp] theorem State.u64_tpz (s : State) (a v : Nat) : (s.u64 a v).tpz = s.tpz := rfl
@[simp] theorem State.u64_buf (s : State) (a v : Nat) : (s.u64 a v).buf = s.buf := rfl
@[simp] theorem State.u64_grn (s : State) (a v : Nat) : (s.u64 a v).grn = s.grn := rfl
@[simp] theorem State.u64_onx (s : State) (a v : Nat) : (s.u64 a v).onx = s.onx := rfl
@[simp] theorem State.u64_hqe (s : State) (a v : Nat) : (s.u64 a v).hqe = s.hqe := rfl
@[simp] theorem State.u64_rx (s : State) (a v : Nat) : (s.u64 a v).rx = s.rx := rfl
@[simp] theorem State.u64_brl (s : State) (a v : Nat) : (s.u64 a v).brl = s.brl := rfl
@[simp] theorem State.u64_jsp (s : State) (a v : Nat) : (s.u64 a v).jsp = s.jsp := rfl
@[simp] theorem State.u64_spn (s : State) (a v : Nat) : (s.u64 a v).spn = s.spn := rfl
@[simp] theorem State.u64_bus (s : State) (a v : Nat) : (s.u64 a v).bus = s.bus := rfl
@[simp] theorem State.u64_sld (s : State) (a v : Nat) : (s.u64 a v).sld = s.sld := rfl
@[simp] theorem State.u64_cal (s : State) (a v : Nat) : (s.u64 a v).cal = s.cal := rfl
@[simp] theorem State.u64_vf (s : State) (a v : Nat) : (s.u64 a v).vf = s.vf := rfl
@[simp] theorem State.u64_pcx (s : State) (a v : Nat) : (s.u64 a v).pcx = s.pcx := rfl
@[simp] theorem State.u64_cgl (s : State) (a v : Nat) : (s.u64 a v).cgl = s.cgl := rfl
@[simp] theorem State.u64_drk (s : State) (a v : Nat) : (s.u64 a v).drk = s.drk := rfl
@[simp] theorem State.u64_qtz (s : State) (a v : Nat) : (s.u64 a v).qtz = s.qtz := rfl
@[simp] theorem State.u64_up (s : State) (a v : Nat) : (s.u64 a v).up = s.up := rfl
@[simp] theorem State.bumpN_pending (s : State) (a k : Nat) : (s.bumpN a k).pending = s.pending := rfl
@[simp] theorem State.bumpN_pend (s : State) (a k : Nat) : (s.bumpN a k).pend = s.pend := rfl
@[simp] theorem State.bumpN_stag (s : State) (a k : Nat) : (s.bumpN a k).stag = s.stag := rfl
@[simp] theorem State.bumpN_written (s : State) (a k : Nat) : (s.bumpN a k).written = s.written := rfl
@[simp] theorem State.bumpN_strobes (s : State) (a k : Nat) : (s.bumpN a k).strobes = s.strobes := rfl
@[simp] theorem State.bumpN_rdShadows (s : State) (a k : Nat) : (s.bumpN a k).rdShadows = s.rdShadows := rfl
@[simp] theorem State.bumpN_wrShadows (s : State) (a k : Nat) : (s.bumpN a k).wrShadows = s.wrShadows := rfl
@[simp] theorem State.bumpN_free (s : State) (a k : Nat) : (s.bumpN a k).free = s.free := rfl
@[simp] theorem State.bumpN_out (s : State) (a k : Nat) : (s.bumpN a k).out = s.out := rfl
@[simp] theorem State.bumpN_sys (s : State) (a k : Nat) : (s.bumpN a k).sys = s.sys := rfl
@[simp] theorem State.bumpN_evl (s : State) (a k : Nat) : (s.bumpN a k).evl = s.evl := rfl
@[simp] theorem State.bumpN_tru (s : State) (a k : Nat) : (s.bumpN a k).tru = s.tru := rfl
@[simp] theorem State.bumpN_lanes (s : State) (a k : Nat) : (s.bumpN a k).lanes = s.lanes := rfl
@[simp] theorem State.bumpN_stn (s : State) (a k : Nat) : (s.bumpN a k).stn = s.stn := rfl
@[simp] theorem State.bumpN_wrs (s : State) (a k : Nat) : (s.bumpN a k).wrs = s.wrs := rfl
@[simp] theorem State.bumpN_tpz (s : State) (a k : Nat) : (s.bumpN a k).tpz = s.tpz := rfl
@[simp] theorem State.bumpN_buf (s : State) (a k : Nat) : (s.bumpN a k).buf = s.buf := rfl
@[simp] theorem State.bumpN_grn (s : State) (a k : Nat) : (s.bumpN a k).grn = s.grn := rfl
@[simp] theorem State.bumpN_onx (s : State) (a k : Nat) : (s.bumpN a k).onx = s.onx := rfl
@[simp] theorem State.bumpN_hqe (s : State) (a k : Nat) : (s.bumpN a k).hqe = s.hqe := rfl
@[simp] theorem State.bumpN_rx (s : State) (a k : Nat) : (s.bumpN a k).rx = s.rx := rfl
@[simp] theorem State.bumpN_brl (s : State) (a k : Nat) : (s.bumpN a k).brl = s.brl := rfl
@[simp] theorem State.bumpN_jsp (s : State) (a k : Nat) : (s.bumpN a k).jsp = s.jsp := rfl
@[simp] theorem State.bumpN_spn (s : State) (a k : Nat) : (s.bumpN a k).spn = s.spn := rfl
@[simp] theorem State.bumpN_bus (s : State) (a k : Nat) : (s.bumpN a k).bus = s.bus := rfl
@[simp] theorem State.bumpN_sld (s : State) (a k : Nat) : (s.bumpN a k).sld = s.sld := rfl
@[simp] theorem State.bumpN_cal (s : State) (a k : Nat) : (s.bumpN a k).cal = s.cal := rfl
@[simp] theorem State.bumpN_vf (s : State) (a k : Nat) : (s.bumpN a k).vf = s.vf := rfl
@[simp] theorem State.bumpN_pcx (s : State) (a k : Nat) : (s.bumpN a k).pcx = s.pcx := rfl
@[simp] theorem State.bumpN_cgl (s : State) (a k : Nat) : (s.bumpN a k).cgl = s.cgl := rfl
@[simp] theorem State.bumpN_drk (s : State) (a k : Nat) : (s.bumpN a k).drk = s.drk := rfl
@[simp] theorem State.bumpN_qtz (s : State) (a k : Nat) : (s.bumpN a k).qtz = s.qtz := rfl
@[simp] theorem State.bumpN_up (s : State) (a k : Nat) : (s.bumpN a k).up = s.up := rfl
@[simp] theorem State.bump_pending (s : State) (a : Nat) : (s.bump a).pending = s.pending := rfl
@[simp] theorem State.bump_pend (s : State) (a : Nat) : (s.bump a).pend = s.pend := rfl
@[simp] theorem State.bump_stag (s : State) (a : Nat) : (s.bump a).stag = s.stag := rfl
@[simp] theorem State.bump_written (s : State) (a : Nat) : (s.bump a).written = s.written := rfl
@[simp] theorem State.bump_strobes (s : State) (a : Nat) : (s.bump a).strobes = s.strobes := rfl
@[simp] theorem State.bump_rdShadows (s : State) (a : Nat) : (s.bump a).rdShadows = s.rdShadows := rfl
@[simp] theorem State.bump_wrShadows (s : State) (a : Nat) : (s.bump a).wrShadows = s.wrShadows := rfl
@[simp] theorem State.bump_free (s : State) (a : Nat) : (s.bump a).free = s.free := rfl
@[simp] theorem State.bump_out (s : State) (a : Nat) : (s.bump a).out = s.out := rfl
@[simp] theorem State.bump_sys (s : State) (a : Nat) : (s.bump a).sys = s.sys := rfl
@[simp] theorem State.bump_evl (s : State) (a : Nat) : (s.bump a).evl = s.evl := rfl
@[simp] theorem State.bump_tru (s : State) (a : Nat) : (s.bump a).tru = s.tru := rfl
@[simp] theorem State.bump_lanes (s : State) (a : Nat) : (s.bump a).lanes = s.lanes := rfl
@[simp] theorem State.bump_stn (s : State) (a : Nat) : (s.bump a).stn = s.stn := rfl
@[simp] theorem State.bump_wrs (s : State) (a : Nat) : (s.bump a).wrs = s.wrs := rfl
@[simp] theorem State.bump_tpz (s : State) (a : Nat) : (s.bump a).tpz = s.tpz := rfl
@[simp] theorem State.bump_buf (s : State) (a : Nat) : (s.bump a).buf = s.buf := rfl
@[simp] theorem State.bump_grn (s : State) (a : Nat) : (s.bump a).grn = s.grn := rfl
@[simp] theorem State.bump_onx (s : State) (a : Nat) : (s.bump a).onx = s.onx := rfl
@[simp] theorem State.bump_hqe (s : State) (a : Nat) : (s.bump a).hqe = s.hqe := rfl
@[simp] theorem State.bump_rx (s : State) (a : Nat) : (s.bump a).rx = s.rx := rfl
@[simp] theorem State.bump_brl (s : State) (a : Nat) : (s.bump a).brl = s.brl := rfl
@[simp] theorem State.bump_jsp (s : State) (a : Nat) : (s.bump a).jsp = s.jsp := rfl
@[simp] theorem State.bump_spn (s : State) (a : Nat) : (s.bump a).spn = s.spn := rfl
@[simp] theorem State.bump_bus (s : State) (a : Nat) : (s.bump a).bus = s.bus := rfl
@[simp] theorem State.bump_sld (s : State) (a : Nat) : (s.bump a).sld = s.sld := rfl
@[simp] theorem State.bump_cal (s : State) (a : Nat) : (s.bump a).cal = s.cal := rfl
@[simp] theorem State.bump_vf (s : State) (a : Nat) : (s.bump a).vf = s.vf := rfl
@[simp] theorem State.bump_pcx (s : State) (a : Nat) : (s.bump a).pcx = s.pcx := rfl
@[simp] theorem State.bump_cgl (s : State) (a : Nat) : (s.bump a).cgl = s.cgl := rfl
@[simp] theorem State.bump_drk (s : State) (a : Nat) : (s.bump a).drk = s.drk := rfl
@[simp] theorem State.bump_qtz (s : State) (a : Nat) : (s.bump a).qtz = s.qtz := rfl
@[simp] theorem State.bump_up (s : State) (a : Nat) : (s.bump a).up = s.up := rfl
@[simp] theorem State.log_pending (s : State) (c r : Nat) (l : List Nat) (k : Nat) : (s.log c r l k).pending = s.pending := rfl
@[simp] theorem State.log_regs (s : State) (c r : Nat) (l : List Nat) (k : Nat) : (s.log c r l k).regs = s.regs := rfl
@[simp] theorem State.log_pend (s : State) (c r : Nat) (l : List Nat) (k : Nat) : (s.log c r l k).pend = s.pend := rfl
@[simp] theorem State.log_stag (s : State) (c r : Nat) (l : List Nat) (k : Nat) : (s.log c r l k).stag = s.stag := rfl
@[simp] theorem State.log_written (s : State) (c r : Nat) (l : List Nat) (k : Nat) : (s.log c r l k).written = s.written := rfl
@[simp] theorem State.log_strobes (s : State) (c r : Nat) (l : List Nat) (k : Nat) : (s.log c r l k).strobes = s.strobes := rfl
@[simp] theorem State.log_rdShadows (s : State) (c r : Nat) (l : List Nat) (k : Nat) : (s.log c r l k).rdShadows = s.rdShadows := rfl
@[simp] theorem State.log_wrShadows (s : State) (c r : Nat) (l : List Nat) (k : Nat) : (s.log c r l k).wrShadows = s.wrShadows := rfl
@[simp] theorem State.log_free (s : State) (c r : Nat) (l : List Nat) (k : Nat) : (s.log c r l k).free = s.free := rfl
@[simp] theorem State.log_out (s : State) (c r : Nat) (l : List Nat) (k : Nat) : (s.log c r l k).out = s.out := rfl
@[simp] theorem State.log_sys (s : State) (c r : Nat) (l : List Nat) (k : Nat) : (s.log c r l k).sys = s.sys := rfl
@[simp] theorem State.log_tru (s : State) (c r : Nat) (l : List Nat) (k : Nat) : (s.log c r l k).tru = s.tru := rfl
@[simp] theorem State.log_lanes (s : State) (c r : Nat) (l : List Nat) (k : Nat) : (s.log c r l k).lanes = s.lanes := rfl
@[simp] theorem State.log_stn (s : State) (c r : Nat) (l : List Nat) (k : Nat) : (s.log c r l k).stn = s.stn := rfl
@[simp] theorem State.log_wrs (s : State) (c r : Nat) (l : List Nat) (k : Nat) : (s.log c r l k).wrs = s.wrs := rfl
@[simp] theorem State.log_tpz (s : State) (c r : Nat) (l : List Nat) (k : Nat) : (s.log c r l k).tpz = s.tpz := rfl
@[simp] theorem State.log_buf (s : State) (c r : Nat) (l : List Nat) (k : Nat) : (s.log c r l k).buf = s.buf := rfl
@[simp] theorem State.log_grn (s : State) (c r : Nat) (l : List Nat) (k : Nat) : (s.log c r l k).grn = s.grn := rfl
@[simp] theorem State.log_onx (s : State) (c r : Nat) (l : List Nat) (k : Nat) : (s.log c r l k).onx = s.onx := rfl
@[simp] theorem State.log_hqe (s : State) (c r : Nat) (l : List Nat) (k : Nat) : (s.log c r l k).hqe = s.hqe := rfl
@[simp] theorem State.log_rx (s : State) (c r : Nat) (l : List Nat) (k : Nat) : (s.log c r l k).rx = s.rx := rfl
@[simp] theorem State.log_brl (s : State) (c r : Nat) (l : List Nat) (k : Nat) : (s.log c r l k).brl = s.brl := rfl
@[simp] theorem State.log_jsp (s : State) (c r : Nat) (l : List Nat) (k : Nat) : (s.log c r l k).jsp = s.jsp := rfl
@[simp] theorem State.log_spn (s : State) (c r : Nat) (l : List Nat) (k : Nat) : (s.log c r l k).spn = s.spn := rfl
@[simp] theorem State.log_bus (s : State) (c r : Nat) (l : List Nat) (k : Nat) : (s.log c r l k).bus = s.bus := rfl
@[simp] theorem State.log_sld (s : State) (c r : Nat) (l : List Nat) (k : Nat) : (s.log c r l k).sld = s.sld := rfl
@[simp] theorem State.log_cal (s : State) (c r : Nat) (l : List Nat) (k : Nat) : (s.log c r l k).cal = s.cal := rfl
@[simp] theorem State.log_vf (s : State) (c r : Nat) (l : List Nat) (k : Nat) : (s.log c r l k).vf = s.vf := rfl
@[simp] theorem State.log_pcx (s : State) (c r : Nat) (l : List Nat) (k : Nat) : (s.log c r l k).pcx = s.pcx := rfl
@[simp] theorem State.log_cgl (s : State) (c r : Nat) (l : List Nat) (k : Nat) : (s.log c r l k).cgl = s.cgl := rfl
@[simp] theorem State.log_drk (s : State) (c r : Nat) (l : List Nat) (k : Nat) : (s.log c r l k).drk = s.drk := rfl
@[simp] theorem State.log_qtz (s : State) (c r : Nat) (l : List Nat) (k : Nat) : (s.log c r l k).qtz = s.qtz := rfl
@[simp] theorem State.log_rd (s : State) (c r : Nat) (l : List Nat) (k : Nat) (x : Nat) : (s.log c r l k).rd x = s.rd x := rfl
@[simp] theorem State.log_g (s : State) (c r : Nat) (l : List Nat) (k : Nat) (x : FRef) : (s.log c r l k).g x = s.g x := rfl
@[simp] theorem State.log_on (s : State) (c r : Nat) (l : List Nat) (k : Nat) (x : FRef) : (s.log c r l k).on x = s.on x := rfl
@[simp] theorem State.log_now (s : State) (c r : Nat) (l : List Nat) (k : Nat) : (s.log c r l k).now = s.now := rfl
@[simp] theorem State.log_live (s : State) (c r : Nat) (l : List Nat) (k : Nat) : (s.log c r l k).live = s.live := rfl
@[simp] theorem State.log_up (s : State) (c r : Nat) (l : List Nat) (k : Nat) : (s.log c r l k).up = s.up := rfl
@[simp] theorem State.emit_pending (s : State) (o : Out) : (s.emit o).pending = s.pending := rfl
@[simp] theorem State.emit_regs (s : State) (o : Out) : (s.emit o).regs = s.regs := rfl
@[simp] theorem State.emit_pend (s : State) (o : Out) : (s.emit o).pend = s.pend := rfl
@[simp] theorem State.emit_stag (s : State) (o : Out) : (s.emit o).stag = s.stag := rfl
@[simp] theorem State.emit_written (s : State) (o : Out) : (s.emit o).written = s.written := rfl
@[simp] theorem State.emit_strobes (s : State) (o : Out) : (s.emit o).strobes = s.strobes := rfl
@[simp] theorem State.emit_rdShadows (s : State) (o : Out) : (s.emit o).rdShadows = s.rdShadows := rfl
@[simp] theorem State.emit_wrShadows (s : State) (o : Out) : (s.emit o).wrShadows = s.wrShadows := rfl
@[simp] theorem State.emit_free (s : State) (o : Out) : (s.emit o).free = s.free := rfl
@[simp] theorem State.emit_out (s : State) (o : Out) : (s.emit o).out = o :: s.out := rfl
@[simp] theorem State.emit_sys (s : State) (o : Out) : (s.emit o).sys = s.sys := rfl
@[simp] theorem State.emit_evl (s : State) (o : Out) : (s.emit o).evl = s.evl := rfl
@[simp] theorem State.emit_tru (s : State) (o : Out) : (s.emit o).tru = s.tru := rfl
@[simp] theorem State.emit_lanes (s : State) (o : Out) : (s.emit o).lanes = s.lanes := rfl
@[simp] theorem State.emit_stn (s : State) (o : Out) : (s.emit o).stn = s.stn := rfl
@[simp] theorem State.emit_wrs (s : State) (o : Out) : (s.emit o).wrs = s.wrs := rfl
@[simp] theorem State.emit_tpz (s : State) (o : Out) : (s.emit o).tpz = s.tpz := rfl
@[simp] theorem State.emit_buf (s : State) (o : Out) : (s.emit o).buf = s.buf := rfl
@[simp] theorem State.emit_grn (s : State) (o : Out) : (s.emit o).grn = s.grn := rfl
@[simp] theorem State.emit_onx (s : State) (o : Out) : (s.emit o).onx = s.onx := rfl
@[simp] theorem State.emit_hqe (s : State) (o : Out) : (s.emit o).hqe = s.hqe := rfl
@[simp] theorem State.emit_rx (s : State) (o : Out) : (s.emit o).rx = s.rx := rfl
@[simp] theorem State.emit_brl (s : State) (o : Out) : (s.emit o).brl = s.brl := rfl
@[simp] theorem State.emit_jsp (s : State) (o : Out) : (s.emit o).jsp = s.jsp := rfl
@[simp] theorem State.emit_spn (s : State) (o : Out) : (s.emit o).spn = s.spn := rfl
@[simp] theorem State.emit_bus (s : State) (o : Out) : (s.emit o).bus = s.bus := rfl
@[simp] theorem State.emit_sld (s : State) (o : Out) : (s.emit o).sld = s.sld := rfl
@[simp] theorem State.emit_cal (s : State) (o : Out) : (s.emit o).cal = s.cal := rfl
@[simp] theorem State.emit_vf (s : State) (o : Out) : (s.emit o).vf = s.vf := rfl
@[simp] theorem State.emit_pcx (s : State) (o : Out) : (s.emit o).pcx = s.pcx := rfl
@[simp] theorem State.emit_cgl (s : State) (o : Out) : (s.emit o).cgl = s.cgl := rfl
@[simp] theorem State.emit_drk (s : State) (o : Out) : (s.emit o).drk = s.drk := rfl
@[simp] theorem State.emit_qtz (s : State) (o : Out) : (s.emit o).qtz = s.qtz := rfl
@[simp] theorem State.emit_rd (s : State) (o : Out) (x : Nat) : (s.emit o).rd x = s.rd x := rfl
@[simp] theorem State.emit_g (s : State) (o : Out) (x : FRef) : (s.emit o).g x = s.g x := rfl
@[simp] theorem State.emit_on (s : State) (o : Out) (x : FRef) : (s.emit o).on x = s.on x := rfl
@[simp] theorem State.emit_now (s : State) (o : Out) : (s.emit o).now = s.now := rfl
@[simp] theorem State.emit_live (s : State) (o : Out) : (s.emit o).live = s.live := rfl
@[simp] theorem State.emit_up (s : State) (o : Out) : (s.emit o).up = s.up := rfl
@[simp] theorem State.tick_pending (s : State) : (s.tick).pending = s.pending := rfl
@[simp] theorem State.tick_regs (s : State) : (s.tick).regs = s.regs := rfl
@[simp] theorem State.tick_pend (s : State) : (s.tick).pend = s.pend := rfl
@[simp] theorem State.tick_stag (s : State) : (s.tick).stag = s.stag := rfl
@[simp] theorem State.tick_written (s : State) : (s.tick).written = s.written := rfl
@[simp] theorem State.tick_strobes (s : State) : (s.tick).strobes = s.strobes := rfl
@[simp] theorem State.tick_rdShadows (s : State) : (s.tick).rdShadows = s.rdShadows := rfl
@[simp] theorem State.tick_wrShadows (s : State) : (s.tick).wrShadows = s.wrShadows := rfl
@[simp] theorem State.tick_free (s : State) : (s.tick).free = s.free + 1 := rfl
@[simp] theorem State.tick_out (s : State) : (s.tick).out = s.out := rfl
@[simp] theorem State.tick_sys (s : State) : (s.tick).sys = s.sys := rfl
@[simp] theorem State.tick_evl (s : State) : (s.tick).evl = s.evl := rfl
@[simp] theorem State.tick_tru (s : State) : (s.tick).tru = s.tru := rfl
@[simp] theorem State.tick_lanes (s : State) : (s.tick).lanes = s.lanes := rfl
@[simp] theorem State.tick_stn (s : State) : (s.tick).stn = s.stn := rfl
@[simp] theorem State.tick_wrs (s : State) : (s.tick).wrs = s.wrs := rfl
@[simp] theorem State.tick_tpz (s : State) : (s.tick).tpz = s.tpz := rfl
@[simp] theorem State.tick_buf (s : State) : (s.tick).buf = s.buf := rfl
@[simp] theorem State.tick_grn (s : State) : (s.tick).grn = s.grn := rfl
@[simp] theorem State.tick_onx (s : State) : (s.tick).onx = s.onx := rfl
@[simp] theorem State.tick_hqe (s : State) : (s.tick).hqe = s.hqe := rfl
@[simp] theorem State.tick_rx (s : State) : (s.tick).rx = s.rx := rfl
@[simp] theorem State.tick_brl (s : State) : (s.tick).brl = s.brl := rfl
@[simp] theorem State.tick_jsp (s : State) : (s.tick).jsp = s.jsp := rfl
@[simp] theorem State.tick_spn (s : State) : (s.tick).spn = s.spn := rfl
@[simp] theorem State.tick_bus (s : State) : (s.tick).bus = s.bus := rfl
@[simp] theorem State.tick_sld (s : State) : (s.tick).sld = s.sld := rfl
@[simp] theorem State.tick_cal (s : State) : (s.tick).cal = s.cal := rfl
@[simp] theorem State.tick_vf (s : State) : (s.tick).vf = s.vf := rfl
@[simp] theorem State.tick_pcx (s : State) : (s.tick).pcx = s.pcx := rfl
@[simp] theorem State.tick_cgl (s : State) : (s.tick).cgl = s.cgl := rfl
@[simp] theorem State.tick_drk (s : State) : (s.tick).drk = s.drk := rfl
@[simp] theorem State.tick_qtz (s : State) : (s.tick).qtz = s.qtz := rfl
@[simp] theorem State.tick_rd (s : State) (x : Nat) : (s.tick).rd x = s.rd x := rfl
@[simp] theorem State.tick_g (s : State) (x : FRef) : (s.tick).g x = s.g x := rfl
@[simp] theorem State.tick_on (s : State) (x : FRef) : (s.tick).on x = s.on x := rfl
@[simp] theorem State.tick_now (s : State) : (s.tick).now = s.now := rfl
@[simp] theorem State.tick_live (s : State) : (s.tick).live = s.live := rfl
@[simp] theorem State.tick_up (s : State) : (s.tick).up = s.up := rfl
@[simp] theorem State.loopU_pending (s : State) (k : Fin 96) (f : Loop → Loop) : (s.loopU k f).pending = s.pending := rfl
@[simp] theorem State.loopU_regs (s : State) (k : Fin 96) (f : Loop → Loop) : (s.loopU k f).regs = s.regs := rfl
@[simp] theorem State.loopU_pend (s : State) (k : Fin 96) (f : Loop → Loop) : (s.loopU k f).pend = s.pend := rfl
@[simp] theorem State.loopU_stag (s : State) (k : Fin 96) (f : Loop → Loop) : (s.loopU k f).stag = s.stag := rfl
@[simp] theorem State.loopU_written (s : State) (k : Fin 96) (f : Loop → Loop) : (s.loopU k f).written = s.written := rfl
@[simp] theorem State.loopU_strobes (s : State) (k : Fin 96) (f : Loop → Loop) : (s.loopU k f).strobes = s.strobes := rfl
@[simp] theorem State.loopU_rdShadows (s : State) (k : Fin 96) (f : Loop → Loop) : (s.loopU k f).rdShadows = s.rdShadows := rfl
@[simp] theorem State.loopU_wrShadows (s : State) (k : Fin 96) (f : Loop → Loop) : (s.loopU k f).wrShadows = s.wrShadows := rfl
@[simp] theorem State.loopU_free (s : State) (k : Fin 96) (f : Loop → Loop) : (s.loopU k f).free = s.free := rfl
@[simp] theorem State.loopU_out (s : State) (k : Fin 96) (f : Loop → Loop) : (s.loopU k f).out = s.out := rfl
@[simp] theorem State.loopU_sys (s : State) (k : Fin 96) (f : Loop → Loop) : (s.loopU k f).sys = s.sys := rfl
@[simp] theorem State.loopU_evl (s : State) (k : Fin 96) (f : Loop → Loop) : (s.loopU k f).evl = s.evl := rfl
@[simp] theorem State.loopU_tru (s : State) (k : Fin 96) (f : Loop → Loop) : (s.loopU k f).tru = s.tru := rfl
@[simp] theorem State.loopU_lanes (s : State) (k : Fin 96) (f : Loop → Loop) : (s.loopU k f).lanes = s.lanes := rfl
@[simp] theorem State.loopU_stn (s : State) (k : Fin 96) (f : Loop → Loop) : (s.loopU k f).stn = s.stn := rfl
@[simp] theorem State.loopU_wrs (s : State) (k : Fin 96) (f : Loop → Loop) : (s.loopU k f).wrs = s.wrs := rfl
@[simp] theorem State.loopU_tpz (s : State) (k : Fin 96) (f : Loop → Loop) : (s.loopU k f).tpz = s.tpz := rfl
@[simp] theorem State.loopU_buf (s : State) (k : Fin 96) (f : Loop → Loop) : (s.loopU k f).buf = s.buf := rfl
@[simp] theorem State.loopU_grn (s : State) (k : Fin 96) (f : Loop → Loop) : (s.loopU k f).grn = s.grn := rfl
@[simp] theorem State.loopU_onx (s : State) (k : Fin 96) (f : Loop → Loop) : (s.loopU k f).onx = s.onx := rfl
@[simp] theorem State.loopU_hqe (s : State) (k : Fin 96) (f : Loop → Loop) : (s.loopU k f).hqe = s.hqe := rfl
@[simp] theorem State.loopU_rx (s : State) (k : Fin 96) (f : Loop → Loop) : (s.loopU k f).rx = s.rx := rfl
@[simp] theorem State.loopU_jsp (s : State) (k : Fin 96) (f : Loop → Loop) : (s.loopU k f).jsp = s.jsp := rfl
@[simp] theorem State.loopU_spn (s : State) (k : Fin 96) (f : Loop → Loop) : (s.loopU k f).spn = s.spn := rfl
@[simp] theorem State.loopU_bus (s : State) (k : Fin 96) (f : Loop → Loop) : (s.loopU k f).bus = s.bus := rfl
@[simp] theorem State.loopU_sld (s : State) (k : Fin 96) (f : Loop → Loop) : (s.loopU k f).sld = s.sld := rfl
@[simp] theorem State.loopU_cal (s : State) (k : Fin 96) (f : Loop → Loop) : (s.loopU k f).cal = s.cal := rfl
@[simp] theorem State.loopU_vf (s : State) (k : Fin 96) (f : Loop → Loop) : (s.loopU k f).vf = s.vf := rfl
@[simp] theorem State.loopU_pcx (s : State) (k : Fin 96) (f : Loop → Loop) : (s.loopU k f).pcx = s.pcx := rfl
@[simp] theorem State.loopU_cgl (s : State) (k : Fin 96) (f : Loop → Loop) : (s.loopU k f).cgl = s.cgl := rfl
@[simp] theorem State.loopU_drk (s : State) (k : Fin 96) (f : Loop → Loop) : (s.loopU k f).drk = s.drk := rfl
@[simp] theorem State.loopU_qtz (s : State) (k : Fin 96) (f : Loop → Loop) : (s.loopU k f).qtz = s.qtz := rfl
@[simp] theorem State.loopU_rd (s : State) (k : Fin 96) (f : Loop → Loop) (x : Nat) : (s.loopU k f).rd x = s.rd x := rfl
@[simp] theorem State.loopU_g (s : State) (k : Fin 96) (f : Loop → Loop) (x : FRef) : (s.loopU k f).g x = s.g x := rfl
@[simp] theorem State.loopU_on (s : State) (k : Fin 96) (f : Loop → Loop) (x : FRef) : (s.loopU k f).on x = s.on x := rfl
@[simp] theorem State.loopU_now (s : State) (k : Fin 96) (f : Loop → Loop) : (s.loopU k f).now = s.now := rfl
@[simp] theorem State.loopU_live (s : State) (k : Fin 96) (f : Loop → Loop) : (s.loopU k f).live = s.live := rfl
@[simp] theorem State.loopU_up (s : State) (k : Fin 96) (f : Loop → Loop) : (s.loopU k f).up = s.up := rfl
@[simp] theorem State.seqU_pending (s : State) (n : Fin 8) (f : Seq → Seq) : (s.seqU n f).pending = s.pending := rfl
@[simp] theorem State.seqU_regs (s : State) (n : Fin 8) (f : Seq → Seq) : (s.seqU n f).regs = s.regs := rfl
@[simp] theorem State.seqU_pend (s : State) (n : Fin 8) (f : Seq → Seq) : (s.seqU n f).pend = s.pend := rfl
@[simp] theorem State.seqU_stag (s : State) (n : Fin 8) (f : Seq → Seq) : (s.seqU n f).stag = s.stag := rfl
@[simp] theorem State.seqU_written (s : State) (n : Fin 8) (f : Seq → Seq) : (s.seqU n f).written = s.written := rfl
@[simp] theorem State.seqU_strobes (s : State) (n : Fin 8) (f : Seq → Seq) : (s.seqU n f).strobes = s.strobes := rfl
@[simp] theorem State.seqU_rdShadows (s : State) (n : Fin 8) (f : Seq → Seq) : (s.seqU n f).rdShadows = s.rdShadows := rfl
@[simp] theorem State.seqU_wrShadows (s : State) (n : Fin 8) (f : Seq → Seq) : (s.seqU n f).wrShadows = s.wrShadows := rfl
@[simp] theorem State.seqU_free (s : State) (n : Fin 8) (f : Seq → Seq) : (s.seqU n f).free = s.free := rfl
@[simp] theorem State.seqU_out (s : State) (n : Fin 8) (f : Seq → Seq) : (s.seqU n f).out = s.out := rfl
@[simp] theorem State.seqU_sys (s : State) (n : Fin 8) (f : Seq → Seq) : (s.seqU n f).sys = s.sys := rfl
@[simp] theorem State.seqU_evl (s : State) (n : Fin 8) (f : Seq → Seq) : (s.seqU n f).evl = s.evl := rfl
@[simp] theorem State.seqU_tru (s : State) (n : Fin 8) (f : Seq → Seq) : (s.seqU n f).tru = s.tru := rfl
@[simp] theorem State.seqU_lanes (s : State) (n : Fin 8) (f : Seq → Seq) : (s.seqU n f).lanes = s.lanes := rfl
@[simp] theorem State.seqU_stn (s : State) (n : Fin 8) (f : Seq → Seq) : (s.seqU n f).stn = s.stn := rfl
@[simp] theorem State.seqU_wrs (s : State) (n : Fin 8) (f : Seq → Seq) : (s.seqU n f).wrs = s.wrs := rfl
@[simp] theorem State.seqU_tpz (s : State) (n : Fin 8) (f : Seq → Seq) : (s.seqU n f).tpz = s.tpz := rfl
@[simp] theorem State.seqU_buf (s : State) (n : Fin 8) (f : Seq → Seq) : (s.seqU n f).buf = s.buf := rfl
@[simp] theorem State.seqU_grn (s : State) (n : Fin 8) (f : Seq → Seq) : (s.seqU n f).grn = s.grn := rfl
@[simp] theorem State.seqU_onx (s : State) (n : Fin 8) (f : Seq → Seq) : (s.seqU n f).onx = s.onx := rfl
@[simp] theorem State.seqU_hqe (s : State) (n : Fin 8) (f : Seq → Seq) : (s.seqU n f).hqe = s.hqe := rfl
@[simp] theorem State.seqU_rx (s : State) (n : Fin 8) (f : Seq → Seq) : (s.seqU n f).rx = s.rx := rfl
@[simp] theorem State.seqU_jsp (s : State) (n : Fin 8) (f : Seq → Seq) : (s.seqU n f).jsp = s.jsp := rfl
@[simp] theorem State.seqU_spn (s : State) (n : Fin 8) (f : Seq → Seq) : (s.seqU n f).spn = s.spn := rfl
@[simp] theorem State.seqU_bus (s : State) (n : Fin 8) (f : Seq → Seq) : (s.seqU n f).bus = s.bus := rfl
@[simp] theorem State.seqU_sld (s : State) (n : Fin 8) (f : Seq → Seq) : (s.seqU n f).sld = s.sld := rfl
@[simp] theorem State.seqU_cal (s : State) (n : Fin 8) (f : Seq → Seq) : (s.seqU n f).cal = s.cal := rfl
@[simp] theorem State.seqU_vf (s : State) (n : Fin 8) (f : Seq → Seq) : (s.seqU n f).vf = s.vf := rfl
@[simp] theorem State.seqU_pcx (s : State) (n : Fin 8) (f : Seq → Seq) : (s.seqU n f).pcx = s.pcx := rfl
@[simp] theorem State.seqU_cgl (s : State) (n : Fin 8) (f : Seq → Seq) : (s.seqU n f).cgl = s.cgl := rfl
@[simp] theorem State.seqU_drk (s : State) (n : Fin 8) (f : Seq → Seq) : (s.seqU n f).drk = s.drk := rfl
@[simp] theorem State.seqU_qtz (s : State) (n : Fin 8) (f : Seq → Seq) : (s.seqU n f).qtz = s.qtz := rfl
@[simp] theorem State.seqU_rd (s : State) (n : Fin 8) (f : Seq → Seq) (x : Nat) : (s.seqU n f).rd x = s.rd x := rfl
@[simp] theorem State.seqU_g (s : State) (n : Fin 8) (f : Seq → Seq) (x : FRef) : (s.seqU n f).g x = s.g x := rfl
@[simp] theorem State.seqU_on (s : State) (n : Fin 8) (f : Seq → Seq) (x : FRef) : (s.seqU n f).on x = s.on x := rfl
@[simp] theorem State.seqU_now (s : State) (n : Fin 8) (f : Seq → Seq) : (s.seqU n f).now = s.now := rfl
@[simp] theorem State.seqU_live (s : State) (n : Fin 8) (f : Seq → Seq) : (s.seqU n f).live = s.live := rfl
@[simp] theorem State.seqU_up (s : State) (n : Fin 8) (f : Seq → Seq) : (s.seqU n f).up = s.up := rfl
@[simp] theorem State.bufU_pending (s : State) (f : Buf → Buf) : (s.bufU f).pending = s.pending := rfl
@[simp] theorem State.bufU_regs (s : State) (f : Buf → Buf) : (s.bufU f).regs = s.regs := rfl
@[simp] theorem State.bufU_pend (s : State) (f : Buf → Buf) : (s.bufU f).pend = s.pend := rfl
@[simp] theorem State.bufU_stag (s : State) (f : Buf → Buf) : (s.bufU f).stag = s.stag := rfl
@[simp] theorem State.bufU_written (s : State) (f : Buf → Buf) : (s.bufU f).written = s.written := rfl
@[simp] theorem State.bufU_strobes (s : State) (f : Buf → Buf) : (s.bufU f).strobes = s.strobes := rfl
@[simp] theorem State.bufU_rdShadows (s : State) (f : Buf → Buf) : (s.bufU f).rdShadows = s.rdShadows := rfl
@[simp] theorem State.bufU_wrShadows (s : State) (f : Buf → Buf) : (s.bufU f).wrShadows = s.wrShadows := rfl
@[simp] theorem State.bufU_free (s : State) (f : Buf → Buf) : (s.bufU f).free = s.free := rfl
@[simp] theorem State.bufU_out (s : State) (f : Buf → Buf) : (s.bufU f).out = s.out := rfl
@[simp] theorem State.bufU_sys (s : State) (f : Buf → Buf) : (s.bufU f).sys = s.sys := rfl
@[simp] theorem State.bufU_evl (s : State) (f : Buf → Buf) : (s.bufU f).evl = s.evl := rfl
@[simp] theorem State.bufU_tru (s : State) (f : Buf → Buf) : (s.bufU f).tru = s.tru := rfl
@[simp] theorem State.bufU_lanes (s : State) (f : Buf → Buf) : (s.bufU f).lanes = s.lanes := rfl
@[simp] theorem State.bufU_stn (s : State) (f : Buf → Buf) : (s.bufU f).stn = s.stn := rfl
@[simp] theorem State.bufU_wrs (s : State) (f : Buf → Buf) : (s.bufU f).wrs = s.wrs := rfl
@[simp] theorem State.bufU_tpz (s : State) (f : Buf → Buf) : (s.bufU f).tpz = s.tpz := rfl
@[simp] theorem State.bufU_buf (s : State) (f : Buf → Buf) : (s.bufU f).buf = f s.buf := rfl
@[simp] theorem State.bufU_grn (s : State) (f : Buf → Buf) : (s.bufU f).grn = s.grn := rfl
@[simp] theorem State.bufU_onx (s : State) (f : Buf → Buf) : (s.bufU f).onx = s.onx := rfl
@[simp] theorem State.bufU_hqe (s : State) (f : Buf → Buf) : (s.bufU f).hqe = s.hqe := rfl
@[simp] theorem State.bufU_rx (s : State) (f : Buf → Buf) : (s.bufU f).rx = s.rx := rfl
@[simp] theorem State.bufU_brl (s : State) (f : Buf → Buf) : (s.bufU f).brl = s.brl := rfl
@[simp] theorem State.bufU_jsp (s : State) (f : Buf → Buf) : (s.bufU f).jsp = s.jsp := rfl
@[simp] theorem State.bufU_spn (s : State) (f : Buf → Buf) : (s.bufU f).spn = s.spn := rfl
@[simp] theorem State.bufU_bus (s : State) (f : Buf → Buf) : (s.bufU f).bus = s.bus := rfl
@[simp] theorem State.bufU_sld (s : State) (f : Buf → Buf) : (s.bufU f).sld = s.sld := rfl
@[simp] theorem State.bufU_cal (s : State) (f : Buf → Buf) : (s.bufU f).cal = s.cal := rfl
@[simp] theorem State.bufU_vf (s : State) (f : Buf → Buf) : (s.bufU f).vf = s.vf := rfl
@[simp] theorem State.bufU_pcx (s : State) (f : Buf → Buf) : (s.bufU f).pcx = s.pcx := rfl
@[simp] theorem State.bufU_cgl (s : State) (f : Buf → Buf) : (s.bufU f).cgl = s.cgl := rfl
@[simp] theorem State.bufU_drk (s : State) (f : Buf → Buf) : (s.bufU f).drk = s.drk := rfl
@[simp] theorem State.bufU_qtz (s : State) (f : Buf → Buf) : (s.bufU f).qtz = s.qtz := rfl
@[simp] theorem State.bufU_rd (s : State) (f : Buf → Buf) (x : Nat) : (s.bufU f).rd x = s.rd x := rfl
@[simp] theorem State.bufU_g (s : State) (f : Buf → Buf) (x : FRef) : (s.bufU f).g x = s.g x := rfl
@[simp] theorem State.bufU_on (s : State) (f : Buf → Buf) (x : FRef) : (s.bufU f).on x = s.on x := rfl
@[simp] theorem State.bufU_now (s : State) (f : Buf → Buf) : (s.bufU f).now = s.now := rfl
@[simp] theorem State.bufU_live (s : State) (f : Buf → Buf) : (s.bufU f).live = s.live := rfl
@[simp] theorem State.bufU_up (s : State) (f : Buf → Buf) : (s.bufU f).up = s.up := rfl
@[simp] theorem State.calU_pending (s : State) (n : Fin 8) (f : CalStn → CalStn) : (s.calU n f).pending = s.pending := rfl
@[simp] theorem State.calU_regs (s : State) (n : Fin 8) (f : CalStn → CalStn) : (s.calU n f).regs = s.regs := rfl
@[simp] theorem State.calU_pend (s : State) (n : Fin 8) (f : CalStn → CalStn) : (s.calU n f).pend = s.pend := rfl
@[simp] theorem State.calU_stag (s : State) (n : Fin 8) (f : CalStn → CalStn) : (s.calU n f).stag = s.stag := rfl
@[simp] theorem State.calU_written (s : State) (n : Fin 8) (f : CalStn → CalStn) : (s.calU n f).written = s.written := rfl
@[simp] theorem State.calU_strobes (s : State) (n : Fin 8) (f : CalStn → CalStn) : (s.calU n f).strobes = s.strobes := rfl
@[simp] theorem State.calU_rdShadows (s : State) (n : Fin 8) (f : CalStn → CalStn) : (s.calU n f).rdShadows = s.rdShadows := rfl
@[simp] theorem State.calU_wrShadows (s : State) (n : Fin 8) (f : CalStn → CalStn) : (s.calU n f).wrShadows = s.wrShadows := rfl
@[simp] theorem State.calU_free (s : State) (n : Fin 8) (f : CalStn → CalStn) : (s.calU n f).free = s.free := rfl
@[simp] theorem State.calU_out (s : State) (n : Fin 8) (f : CalStn → CalStn) : (s.calU n f).out = s.out := rfl
@[simp] theorem State.calU_sys (s : State) (n : Fin 8) (f : CalStn → CalStn) : (s.calU n f).sys = s.sys := rfl
@[simp] theorem State.calU_evl (s : State) (n : Fin 8) (f : CalStn → CalStn) : (s.calU n f).evl = s.evl := rfl
@[simp] theorem State.calU_tru (s : State) (n : Fin 8) (f : CalStn → CalStn) : (s.calU n f).tru = s.tru := rfl
@[simp] theorem State.calU_lanes (s : State) (n : Fin 8) (f : CalStn → CalStn) : (s.calU n f).lanes = s.lanes := rfl
@[simp] theorem State.calU_stn (s : State) (n : Fin 8) (f : CalStn → CalStn) : (s.calU n f).stn = s.stn := rfl
@[simp] theorem State.calU_wrs (s : State) (n : Fin 8) (f : CalStn → CalStn) : (s.calU n f).wrs = s.wrs := rfl
@[simp] theorem State.calU_tpz (s : State) (n : Fin 8) (f : CalStn → CalStn) : (s.calU n f).tpz = s.tpz := rfl
@[simp] theorem State.calU_buf (s : State) (n : Fin 8) (f : CalStn → CalStn) : (s.calU n f).buf = s.buf := rfl
@[simp] theorem State.calU_grn (s : State) (n : Fin 8) (f : CalStn → CalStn) : (s.calU n f).grn = s.grn := rfl
@[simp] theorem State.calU_onx (s : State) (n : Fin 8) (f : CalStn → CalStn) : (s.calU n f).onx = s.onx := rfl
@[simp] theorem State.calU_hqe (s : State) (n : Fin 8) (f : CalStn → CalStn) : (s.calU n f).hqe = s.hqe := rfl
@[simp] theorem State.calU_rx (s : State) (n : Fin 8) (f : CalStn → CalStn) : (s.calU n f).rx = s.rx := rfl
@[simp] theorem State.calU_brl (s : State) (n : Fin 8) (f : CalStn → CalStn) : (s.calU n f).brl = s.brl := rfl
@[simp] theorem State.calU_jsp (s : State) (n : Fin 8) (f : CalStn → CalStn) : (s.calU n f).jsp = s.jsp := rfl
@[simp] theorem State.calU_spn (s : State) (n : Fin 8) (f : CalStn → CalStn) : (s.calU n f).spn = s.spn := rfl
@[simp] theorem State.calU_bus (s : State) (n : Fin 8) (f : CalStn → CalStn) : (s.calU n f).bus = s.bus := rfl
@[simp] theorem State.calU_sld (s : State) (n : Fin 8) (f : CalStn → CalStn) : (s.calU n f).sld = s.sld := rfl
@[simp] theorem State.calU_cal (s : State) (n : Fin 8) (f : CalStn → CalStn) : (s.calU n f).cal = vmod s.cal n f := rfl
@[simp] theorem State.calU_vf (s : State) (n : Fin 8) (f : CalStn → CalStn) : (s.calU n f).vf = s.vf := rfl
@[simp] theorem State.calU_pcx (s : State) (n : Fin 8) (f : CalStn → CalStn) : (s.calU n f).pcx = s.pcx := rfl
@[simp] theorem State.calU_cgl (s : State) (n : Fin 8) (f : CalStn → CalStn) : (s.calU n f).cgl = s.cgl := rfl
@[simp] theorem State.calU_drk (s : State) (n : Fin 8) (f : CalStn → CalStn) : (s.calU n f).drk = s.drk := rfl
@[simp] theorem State.calU_qtz (s : State) (n : Fin 8) (f : CalStn → CalStn) : (s.calU n f).qtz = s.qtz := rfl
@[simp] theorem State.calU_rd (s : State) (n : Fin 8) (f : CalStn → CalStn) (x : Nat) : (s.calU n f).rd x = s.rd x := rfl
@[simp] theorem State.calU_g (s : State) (n : Fin 8) (f : CalStn → CalStn) (x : FRef) : (s.calU n f).g x = s.g x := rfl
@[simp] theorem State.calU_on (s : State) (n : Fin 8) (f : CalStn → CalStn) (x : FRef) : (s.calU n f).on x = s.on x := rfl
@[simp] theorem State.calU_now (s : State) (n : Fin 8) (f : CalStn → CalStn) : (s.calU n f).now = s.now := rfl
@[simp] theorem State.calU_live (s : State) (n : Fin 8) (f : CalStn → CalStn) : (s.calU n f).live = s.live := rfl
@[simp] theorem State.calU_up (s : State) (n : Fin 8) (f : CalStn → CalStn) : (s.calU n f).up = s.up := rfl
@[simp] theorem State.cglU_pending (s : State) (f : Cgl → Cgl) : (s.cglU f).pending = s.pending := rfl
@[simp] theorem State.cglU_regs (s : State) (f : Cgl → Cgl) : (s.cglU f).regs = s.regs := rfl
@[simp] theorem State.cglU_pend (s : State) (f : Cgl → Cgl) : (s.cglU f).pend = s.pend := rfl
@[simp] theorem State.cglU_stag (s : State) (f : Cgl → Cgl) : (s.cglU f).stag = s.stag := rfl
@[simp] theorem State.cglU_written (s : State) (f : Cgl → Cgl) : (s.cglU f).written = s.written := rfl
@[simp] theorem State.cglU_strobes (s : State) (f : Cgl → Cgl) : (s.cglU f).strobes = s.strobes := rfl
@[simp] theorem State.cglU_rdShadows (s : State) (f : Cgl → Cgl) : (s.cglU f).rdShadows = s.rdShadows := rfl
@[simp] theorem State.cglU_wrShadows (s : State) (f : Cgl → Cgl) : (s.cglU f).wrShadows = s.wrShadows := rfl
@[simp] theorem State.cglU_free (s : State) (f : Cgl → Cgl) : (s.cglU f).free = s.free := rfl
@[simp] theorem State.cglU_out (s : State) (f : Cgl → Cgl) : (s.cglU f).out = s.out := rfl
@[simp] theorem State.cglU_sys (s : State) (f : Cgl → Cgl) : (s.cglU f).sys = s.sys := rfl
@[simp] theorem State.cglU_evl (s : State) (f : Cgl → Cgl) : (s.cglU f).evl = s.evl := rfl
@[simp] theorem State.cglU_tru (s : State) (f : Cgl → Cgl) : (s.cglU f).tru = s.tru := rfl
@[simp] theorem State.cglU_lanes (s : State) (f : Cgl → Cgl) : (s.cglU f).lanes = s.lanes := rfl
@[simp] theorem State.cglU_stn (s : State) (f : Cgl → Cgl) : (s.cglU f).stn = s.stn := rfl
@[simp] theorem State.cglU_wrs (s : State) (f : Cgl → Cgl) : (s.cglU f).wrs = s.wrs := rfl
@[simp] theorem State.cglU_tpz (s : State) (f : Cgl → Cgl) : (s.cglU f).tpz = s.tpz := rfl
@[simp] theorem State.cglU_buf (s : State) (f : Cgl → Cgl) : (s.cglU f).buf = s.buf := rfl
@[simp] theorem State.cglU_grn (s : State) (f : Cgl → Cgl) : (s.cglU f).grn = s.grn := rfl
@[simp] theorem State.cglU_onx (s : State) (f : Cgl → Cgl) : (s.cglU f).onx = s.onx := rfl
@[simp] theorem State.cglU_hqe (s : State) (f : Cgl → Cgl) : (s.cglU f).hqe = s.hqe := rfl
@[simp] theorem State.cglU_rx (s : State) (f : Cgl → Cgl) : (s.cglU f).rx = s.rx := rfl
@[simp] theorem State.cglU_brl (s : State) (f : Cgl → Cgl) : (s.cglU f).brl = s.brl := rfl
@[simp] theorem State.cglU_jsp (s : State) (f : Cgl → Cgl) : (s.cglU f).jsp = s.jsp := rfl
@[simp] theorem State.cglU_spn (s : State) (f : Cgl → Cgl) : (s.cglU f).spn = s.spn := rfl
@[simp] theorem State.cglU_bus (s : State) (f : Cgl → Cgl) : (s.cglU f).bus = s.bus := rfl
@[simp] theorem State.cglU_sld (s : State) (f : Cgl → Cgl) : (s.cglU f).sld = s.sld := rfl
@[simp] theorem State.cglU_cal (s : State) (f : Cgl → Cgl) : (s.cglU f).cal = s.cal := rfl
@[simp] theorem State.cglU_vf (s : State) (f : Cgl → Cgl) : (s.cglU f).vf = s.vf := rfl
@[simp] theorem State.cglU_pcx (s : State) (f : Cgl → Cgl) : (s.cglU f).pcx = s.pcx := rfl
@[simp] theorem State.cglU_cgl (s : State) (f : Cgl → Cgl) : (s.cglU f).cgl = f s.cgl := rfl
@[simp] theorem State.cglU_drk (s : State) (f : Cgl → Cgl) : (s.cglU f).drk = s.drk := rfl
@[simp] theorem State.cglU_qtz (s : State) (f : Cgl → Cgl) : (s.cglU f).qtz = s.qtz := rfl
@[simp] theorem State.cglU_rd (s : State) (f : Cgl → Cgl) (x : Nat) : (s.cglU f).rd x = s.rd x := rfl
@[simp] theorem State.cglU_g (s : State) (f : Cgl → Cgl) (x : FRef) : (s.cglU f).g x = s.g x := rfl
@[simp] theorem State.cglU_on (s : State) (f : Cgl → Cgl) (x : FRef) : (s.cglU f).on x = s.on x := rfl
@[simp] theorem State.cglU_now (s : State) (f : Cgl → Cgl) : (s.cglU f).now = s.now := rfl
@[simp] theorem State.cglU_live (s : State) (f : Cgl → Cgl) : (s.cglU f).live = s.live := rfl
@[simp] theorem State.cglU_up (s : State) (f : Cgl → Cgl) : (s.cglU f).up = s.up := rfl
@[simp] theorem State.evlU_pending (s : State) (f : Evl → Evl) : (s.evlU f).pending = s.pending := rfl
@[simp] theorem State.evlU_regs (s : State) (f : Evl → Evl) : (s.evlU f).regs = s.regs := rfl
@[simp] theorem State.evlU_pend (s : State) (f : Evl → Evl) : (s.evlU f).pend = s.pend := rfl
@[simp] theorem State.evlU_stag (s : State) (f : Evl → Evl) : (s.evlU f).stag = s.stag := rfl
@[simp] theorem State.evlU_written (s : State) (f : Evl → Evl) : (s.evlU f).written = s.written := rfl
@[simp] theorem State.evlU_strobes (s : State) (f : Evl → Evl) : (s.evlU f).strobes = s.strobes := rfl
@[simp] theorem State.evlU_rdShadows (s : State) (f : Evl → Evl) : (s.evlU f).rdShadows = s.rdShadows := rfl
@[simp] theorem State.evlU_wrShadows (s : State) (f : Evl → Evl) : (s.evlU f).wrShadows = s.wrShadows := rfl
@[simp] theorem State.evlU_free (s : State) (f : Evl → Evl) : (s.evlU f).free = s.free := rfl
@[simp] theorem State.evlU_out (s : State) (f : Evl → Evl) : (s.evlU f).out = s.out := rfl
@[simp] theorem State.evlU_sys (s : State) (f : Evl → Evl) : (s.evlU f).sys = s.sys := rfl
@[simp] theorem State.evlU_evl (s : State) (f : Evl → Evl) : (s.evlU f).evl = f s.evl := rfl
@[simp] theorem State.evlU_tru (s : State) (f : Evl → Evl) : (s.evlU f).tru = s.tru := rfl
@[simp] theorem State.evlU_lanes (s : State) (f : Evl → Evl) : (s.evlU f).lanes = s.lanes := rfl
@[simp] theorem State.evlU_stn (s : State) (f : Evl → Evl) : (s.evlU f).stn = s.stn := rfl
@[simp] theorem State.evlU_wrs (s : State) (f : Evl → Evl) : (s.evlU f).wrs = s.wrs := rfl
@[simp] theorem State.evlU_tpz (s : State) (f : Evl → Evl) : (s.evlU f).tpz = s.tpz := rfl
@[simp] theorem State.evlU_buf (s : State) (f : Evl → Evl) : (s.evlU f).buf = s.buf := rfl
@[simp] theorem State.evlU_grn (s : State) (f : Evl → Evl) : (s.evlU f).grn = s.grn := rfl
@[simp] theorem State.evlU_onx (s : State) (f : Evl → Evl) : (s.evlU f).onx = s.onx := rfl
@[simp] theorem State.evlU_hqe (s : State) (f : Evl → Evl) : (s.evlU f).hqe = s.hqe := rfl
@[simp] theorem State.evlU_rx (s : State) (f : Evl → Evl) : (s.evlU f).rx = s.rx := rfl
@[simp] theorem State.evlU_brl (s : State) (f : Evl → Evl) : (s.evlU f).brl = s.brl := rfl
@[simp] theorem State.evlU_jsp (s : State) (f : Evl → Evl) : (s.evlU f).jsp = s.jsp := rfl
@[simp] theorem State.evlU_spn (s : State) (f : Evl → Evl) : (s.evlU f).spn = s.spn := rfl
@[simp] theorem State.evlU_bus (s : State) (f : Evl → Evl) : (s.evlU f).bus = s.bus := rfl
@[simp] theorem State.evlU_sld (s : State) (f : Evl → Evl) : (s.evlU f).sld = s.sld := rfl
@[simp] theorem State.evlU_cal (s : State) (f : Evl → Evl) : (s.evlU f).cal = s.cal := rfl
@[simp] theorem State.evlU_vf (s : State) (f : Evl → Evl) : (s.evlU f).vf = s.vf := rfl
@[simp] theorem State.evlU_pcx (s : State) (f : Evl → Evl) : (s.evlU f).pcx = s.pcx := rfl
@[simp] theorem State.evlU_cgl (s : State) (f : Evl → Evl) : (s.evlU f).cgl = s.cgl := rfl
@[simp] theorem State.evlU_drk (s : State) (f : Evl → Evl) : (s.evlU f).drk = s.drk := rfl
@[simp] theorem State.evlU_qtz (s : State) (f : Evl → Evl) : (s.evlU f).qtz = s.qtz := rfl
@[simp] theorem State.evlU_rd (s : State) (f : Evl → Evl) (x : Nat) : (s.evlU f).rd x = s.rd x := rfl
@[simp] theorem State.evlU_g (s : State) (f : Evl → Evl) (x : FRef) : (s.evlU f).g x = s.g x := rfl
@[simp] theorem State.evlU_on (s : State) (f : Evl → Evl) (x : FRef) : (s.evlU f).on x = s.on x := rfl
@[simp] theorem State.evlU_now (s : State) (f : Evl → Evl) : (s.evlU f).now = s.now := rfl
@[simp] theorem State.evlU_live (s : State) (f : Evl → Evl) : (s.evlU f).live = s.live := rfl
@[simp] theorem State.evlU_up (s : State) (f : Evl → Evl) : (s.evlU f).up = s.up := rfl
@[simp] theorem State.grnU_pending (s : State) (f : Grn → Grn) : (s.grnU f).pending = s.pending := rfl
@[simp] theorem State.grnU_regs (s : State) (f : Grn → Grn) : (s.grnU f).regs = s.regs := rfl
@[simp] theorem State.grnU_pend (s : State) (f : Grn → Grn) : (s.grnU f).pend = s.pend := rfl
@[simp] theorem State.grnU_stag (s : State) (f : Grn → Grn) : (s.grnU f).stag = s.stag := rfl
@[simp] theorem State.grnU_written (s : State) (f : Grn → Grn) : (s.grnU f).written = s.written := rfl
@[simp] theorem State.grnU_strobes (s : State) (f : Grn → Grn) : (s.grnU f).strobes = s.strobes := rfl
@[simp] theorem State.grnU_rdShadows (s : State) (f : Grn → Grn) : (s.grnU f).rdShadows = s.rdShadows := rfl
@[simp] theorem State.grnU_wrShadows (s : State) (f : Grn → Grn) : (s.grnU f).wrShadows = s.wrShadows := rfl
@[simp] theorem State.grnU_free (s : State) (f : Grn → Grn) : (s.grnU f).free = s.free := rfl
@[simp] theorem State.grnU_out (s : State) (f : Grn → Grn) : (s.grnU f).out = s.out := rfl
@[simp] theorem State.grnU_sys (s : State) (f : Grn → Grn) : (s.grnU f).sys = s.sys := rfl
@[simp] theorem State.grnU_evl (s : State) (f : Grn → Grn) : (s.grnU f).evl = s.evl := rfl
@[simp] theorem State.grnU_tru (s : State) (f : Grn → Grn) : (s.grnU f).tru = s.tru := rfl
@[simp] theorem State.grnU_lanes (s : State) (f : Grn → Grn) : (s.grnU f).lanes = s.lanes := rfl
@[simp] theorem State.grnU_stn (s : State) (f : Grn → Grn) : (s.grnU f).stn = s.stn := rfl
@[simp] theorem State.grnU_wrs (s : State) (f : Grn → Grn) : (s.grnU f).wrs = s.wrs := rfl
@[simp] theorem State.grnU_tpz (s : State) (f : Grn → Grn) : (s.grnU f).tpz = s.tpz := rfl
@[simp] theorem State.grnU_buf (s : State) (f : Grn → Grn) : (s.grnU f).buf = s.buf := rfl
@[simp] theorem State.grnU_grn (s : State) (f : Grn → Grn) : (s.grnU f).grn = f s.grn := rfl
@[simp] theorem State.grnU_onx (s : State) (f : Grn → Grn) : (s.grnU f).onx = s.onx := rfl
@[simp] theorem State.grnU_hqe (s : State) (f : Grn → Grn) : (s.grnU f).hqe = s.hqe := rfl
@[simp] theorem State.grnU_rx (s : State) (f : Grn → Grn) : (s.grnU f).rx = s.rx := rfl
@[simp] theorem State.grnU_brl (s : State) (f : Grn → Grn) : (s.grnU f).brl = s.brl := rfl
@[simp] theorem State.grnU_jsp (s : State) (f : Grn → Grn) : (s.grnU f).jsp = s.jsp := rfl
@[simp] theorem State.grnU_spn (s : State) (f : Grn → Grn) : (s.grnU f).spn = s.spn := rfl
@[simp] theorem State.grnU_bus (s : State) (f : Grn → Grn) : (s.grnU f).bus = s.bus := rfl
@[simp] theorem State.grnU_sld (s : State) (f : Grn → Grn) : (s.grnU f).sld = s.sld := rfl
@[simp] theorem State.grnU_cal (s : State) (f : Grn → Grn) : (s.grnU f).cal = s.cal := rfl
@[simp] theorem State.grnU_vf (s : State) (f : Grn → Grn) : (s.grnU f).vf = s.vf := rfl
@[simp] theorem State.grnU_pcx (s : State) (f : Grn → Grn) : (s.grnU f).pcx = s.pcx := rfl
@[simp] theorem State.grnU_cgl (s : State) (f : Grn → Grn) : (s.grnU f).cgl = s.cgl := rfl
@[simp] theorem State.grnU_drk (s : State) (f : Grn → Grn) : (s.grnU f).drk = s.drk := rfl
@[simp] theorem State.grnU_qtz (s : State) (f : Grn → Grn) : (s.grnU f).qtz = s.qtz := rfl
@[simp] theorem State.grnU_rd (s : State) (f : Grn → Grn) (x : Nat) : (s.grnU f).rd x = s.rd x := rfl
@[simp] theorem State.grnU_g (s : State) (f : Grn → Grn) (x : FRef) : (s.grnU f).g x = s.g x := rfl
@[simp] theorem State.grnU_on (s : State) (f : Grn → Grn) (x : FRef) : (s.grnU f).on x = s.on x := rfl
@[simp] theorem State.grnU_now (s : State) (f : Grn → Grn) : (s.grnU f).now = s.now := rfl
@[simp] theorem State.grnU_live (s : State) (f : Grn → Grn) : (s.grnU f).live = s.live := rfl
@[simp] theorem State.grnU_up (s : State) (f : Grn → Grn) : (s.grnU f).up = s.up := rfl
@[simp] theorem State.hqeU_pending (s : State) (f : Hqe → Hqe) : (s.hqeU f).pending = s.pending := rfl
@[simp] theorem State.hqeU_regs (s : State) (f : Hqe → Hqe) : (s.hqeU f).regs = s.regs := rfl
@[simp] theorem State.hqeU_pend (s : State) (f : Hqe → Hqe) : (s.hqeU f).pend = s.pend := rfl
@[simp] theorem State.hqeU_stag (s : State) (f : Hqe → Hqe) : (s.hqeU f).stag = s.stag := rfl
@[simp] theorem State.hqeU_written (s : State) (f : Hqe → Hqe) : (s.hqeU f).written = s.written := rfl
@[simp] theorem State.hqeU_strobes (s : State) (f : Hqe → Hqe) : (s.hqeU f).strobes = s.strobes := rfl
@[simp] theorem State.hqeU_rdShadows (s : State) (f : Hqe → Hqe) : (s.hqeU f).rdShadows = s.rdShadows := rfl
@[simp] theorem State.hqeU_wrShadows (s : State) (f : Hqe → Hqe) : (s.hqeU f).wrShadows = s.wrShadows := rfl
@[simp] theorem State.hqeU_free (s : State) (f : Hqe → Hqe) : (s.hqeU f).free = s.free := rfl
@[simp] theorem State.hqeU_out (s : State) (f : Hqe → Hqe) : (s.hqeU f).out = s.out := rfl
@[simp] theorem State.hqeU_sys (s : State) (f : Hqe → Hqe) : (s.hqeU f).sys = s.sys := rfl
@[simp] theorem State.hqeU_evl (s : State) (f : Hqe → Hqe) : (s.hqeU f).evl = s.evl := rfl
@[simp] theorem State.hqeU_tru (s : State) (f : Hqe → Hqe) : (s.hqeU f).tru = s.tru := rfl
@[simp] theorem State.hqeU_lanes (s : State) (f : Hqe → Hqe) : (s.hqeU f).lanes = s.lanes := rfl
@[simp] theorem State.hqeU_stn (s : State) (f : Hqe → Hqe) : (s.hqeU f).stn = s.stn := rfl
@[simp] theorem State.hqeU_wrs (s : State) (f : Hqe → Hqe) : (s.hqeU f).wrs = s.wrs := rfl
@[simp] theorem State.hqeU_tpz (s : State) (f : Hqe → Hqe) : (s.hqeU f).tpz = s.tpz := rfl
@[simp] theorem State.hqeU_buf (s : State) (f : Hqe → Hqe) : (s.hqeU f).buf = s.buf := rfl
@[simp] theorem State.hqeU_grn (s : State) (f : Hqe → Hqe) : (s.hqeU f).grn = s.grn := rfl
@[simp] theorem State.hqeU_onx (s : State) (f : Hqe → Hqe) : (s.hqeU f).onx = s.onx := rfl
@[simp] theorem State.hqeU_hqe (s : State) (f : Hqe → Hqe) : (s.hqeU f).hqe = f s.hqe := rfl
@[simp] theorem State.hqeU_rx (s : State) (f : Hqe → Hqe) : (s.hqeU f).rx = s.rx := rfl
@[simp] theorem State.hqeU_brl (s : State) (f : Hqe → Hqe) : (s.hqeU f).brl = s.brl := rfl
@[simp] theorem State.hqeU_jsp (s : State) (f : Hqe → Hqe) : (s.hqeU f).jsp = s.jsp := rfl
@[simp] theorem State.hqeU_spn (s : State) (f : Hqe → Hqe) : (s.hqeU f).spn = s.spn := rfl
@[simp] theorem State.hqeU_bus (s : State) (f : Hqe → Hqe) : (s.hqeU f).bus = s.bus := rfl
@[simp] theorem State.hqeU_sld (s : State) (f : Hqe → Hqe) : (s.hqeU f).sld = s.sld := rfl
@[simp] theorem State.hqeU_cal (s : State) (f : Hqe → Hqe) : (s.hqeU f).cal = s.cal := rfl
@[simp] theorem State.hqeU_vf (s : State) (f : Hqe → Hqe) : (s.hqeU f).vf = s.vf := rfl
@[simp] theorem State.hqeU_pcx (s : State) (f : Hqe → Hqe) : (s.hqeU f).pcx = s.pcx := rfl
@[simp] theorem State.hqeU_cgl (s : State) (f : Hqe → Hqe) : (s.hqeU f).cgl = s.cgl := rfl
@[simp] theorem State.hqeU_drk (s : State) (f : Hqe → Hqe) : (s.hqeU f).drk = s.drk := rfl
@[simp] theorem State.hqeU_qtz (s : State) (f : Hqe → Hqe) : (s.hqeU f).qtz = s.qtz := rfl
@[simp] theorem State.hqeU_rd (s : State) (f : Hqe → Hqe) (x : Nat) : (s.hqeU f).rd x = s.rd x := rfl
@[simp] theorem State.hqeU_g (s : State) (f : Hqe → Hqe) (x : FRef) : (s.hqeU f).g x = s.g x := rfl
@[simp] theorem State.hqeU_on (s : State) (f : Hqe → Hqe) (x : FRef) : (s.hqeU f).on x = s.on x := rfl
@[simp] theorem State.hqeU_now (s : State) (f : Hqe → Hqe) : (s.hqeU f).now = s.now := rfl
@[simp] theorem State.hqeU_live (s : State) (f : Hqe → Hqe) : (s.hqeU f).live = s.live := rfl
@[simp] theorem State.hqeU_up (s : State) (f : Hqe → Hqe) : (s.hqeU f).up = s.up := rfl
@[simp] theorem State.laneU_pending (s : State) (l : Fin 68) (f : Lane → Lane) : (s.laneU l f).pending = s.pending := rfl
@[simp] theorem State.laneU_regs (s : State) (l : Fin 68) (f : Lane → Lane) : (s.laneU l f).regs = s.regs := rfl
@[simp] theorem State.laneU_pend (s : State) (l : Fin 68) (f : Lane → Lane) : (s.laneU l f).pend = s.pend := rfl
@[simp] theorem State.laneU_stag (s : State) (l : Fin 68) (f : Lane → Lane) : (s.laneU l f).stag = s.stag := rfl
@[simp] theorem State.laneU_written (s : State) (l : Fin 68) (f : Lane → Lane) : (s.laneU l f).written = s.written := rfl
@[simp] theorem State.laneU_strobes (s : State) (l : Fin 68) (f : Lane → Lane) : (s.laneU l f).strobes = s.strobes := rfl
@[simp] theorem State.laneU_rdShadows (s : State) (l : Fin 68) (f : Lane → Lane) : (s.laneU l f).rdShadows = s.rdShadows := rfl
@[simp] theorem State.laneU_wrShadows (s : State) (l : Fin 68) (f : Lane → Lane) : (s.laneU l f).wrShadows = s.wrShadows := rfl
@[simp] theorem State.laneU_free (s : State) (l : Fin 68) (f : Lane → Lane) : (s.laneU l f).free = s.free := rfl
@[simp] theorem State.laneU_out (s : State) (l : Fin 68) (f : Lane → Lane) : (s.laneU l f).out = s.out := rfl
@[simp] theorem State.laneU_sys (s : State) (l : Fin 68) (f : Lane → Lane) : (s.laneU l f).sys = s.sys := rfl
@[simp] theorem State.laneU_evl (s : State) (l : Fin 68) (f : Lane → Lane) : (s.laneU l f).evl = s.evl := rfl
@[simp] theorem State.laneU_tru (s : State) (l : Fin 68) (f : Lane → Lane) : (s.laneU l f).tru = s.tru := rfl
@[simp] theorem State.laneU_lanes (s : State) (l : Fin 68) (f : Lane → Lane) : (s.laneU l f).lanes = vmod s.lanes l f := rfl
@[simp] theorem State.laneU_stn (s : State) (l : Fin 68) (f : Lane → Lane) : (s.laneU l f).stn = s.stn := rfl
@[simp] theorem State.laneU_wrs (s : State) (l : Fin 68) (f : Lane → Lane) : (s.laneU l f).wrs = s.wrs := rfl
@[simp] theorem State.laneU_tpz (s : State) (l : Fin 68) (f : Lane → Lane) : (s.laneU l f).tpz = s.tpz := rfl
@[simp] theorem State.laneU_buf (s : State) (l : Fin 68) (f : Lane → Lane) : (s.laneU l f).buf = s.buf := rfl
@[simp] theorem State.laneU_grn (s : State) (l : Fin 68) (f : Lane → Lane) : (s.laneU l f).grn = s.grn := rfl
@[simp] theorem State.laneU_onx (s : State) (l : Fin 68) (f : Lane → Lane) : (s.laneU l f).onx = s.onx := rfl
@[simp] theorem State.laneU_hqe (s : State) (l : Fin 68) (f : Lane → Lane) : (s.laneU l f).hqe = s.hqe := rfl
@[simp] theorem State.laneU_rx (s : State) (l : Fin 68) (f : Lane → Lane) : (s.laneU l f).rx = s.rx := rfl
@[simp] theorem State.laneU_brl (s : State) (l : Fin 68) (f : Lane → Lane) : (s.laneU l f).brl = s.brl := rfl
@[simp] theorem State.laneU_jsp (s : State) (l : Fin 68) (f : Lane → Lane) : (s.laneU l f).jsp = s.jsp := rfl
@[simp] theorem State.laneU_spn (s : State) (l : Fin 68) (f : Lane → Lane) : (s.laneU l f).spn = s.spn := rfl
@[simp] theorem State.laneU_bus (s : State) (l : Fin 68) (f : Lane → Lane) : (s.laneU l f).bus = s.bus := rfl
@[simp] theorem State.laneU_sld (s : State) (l : Fin 68) (f : Lane → Lane) : (s.laneU l f).sld = s.sld := rfl
@[simp] theorem State.laneU_cal (s : State) (l : Fin 68) (f : Lane → Lane) : (s.laneU l f).cal = s.cal := rfl
@[simp] theorem State.laneU_vf (s : State) (l : Fin 68) (f : Lane → Lane) : (s.laneU l f).vf = s.vf := rfl
@[simp] theorem State.laneU_pcx (s : State) (l : Fin 68) (f : Lane → Lane) : (s.laneU l f).pcx = s.pcx := rfl
@[simp] theorem State.laneU_cgl (s : State) (l : Fin 68) (f : Lane → Lane) : (s.laneU l f).cgl = s.cgl := rfl
@[simp] theorem State.laneU_drk (s : State) (l : Fin 68) (f : Lane → Lane) : (s.laneU l f).drk = s.drk := rfl
@[simp] theorem State.laneU_qtz (s : State) (l : Fin 68) (f : Lane → Lane) : (s.laneU l f).qtz = s.qtz := rfl
@[simp] theorem State.laneU_rd (s : State) (l : Fin 68) (f : Lane → Lane) (x : Nat) : (s.laneU l f).rd x = s.rd x := rfl
@[simp] theorem State.laneU_g (s : State) (l : Fin 68) (f : Lane → Lane) (x : FRef) : (s.laneU l f).g x = s.g x := rfl
@[simp] theorem State.laneU_on (s : State) (l : Fin 68) (f : Lane → Lane) (x : FRef) : (s.laneU l f).on x = s.on x := rfl
@[simp] theorem State.laneU_now (s : State) (l : Fin 68) (f : Lane → Lane) : (s.laneU l f).now = s.now := rfl
@[simp] theorem State.laneU_live (s : State) (l : Fin 68) (f : Lane → Lane) : (s.laneU l f).live = s.live := rfl
@[simp] theorem State.laneU_up (s : State) (l : Fin 68) (f : Lane → Lane) : (s.laneU l f).up = s.up := rfl
@[simp] theorem State.onxU_pending (s : State) (f : Onx → Onx) : (s.onxU f).pending = s.pending := rfl
@[simp] theorem State.onxU_regs (s : State) (f : Onx → Onx) : (s.onxU f).regs = s.regs := rfl
@[simp] theorem State.onxU_pend (s : State) (f : Onx → Onx) : (s.onxU f).pend = s.pend := rfl
@[simp] theorem State.onxU_stag (s : State) (f : Onx → Onx) : (s.onxU f).stag = s.stag := rfl
@[simp] theorem State.onxU_written (s : State) (f : Onx → Onx) : (s.onxU f).written = s.written := rfl
@[simp] theorem State.onxU_strobes (s : State) (f : Onx → Onx) : (s.onxU f).strobes = s.strobes := rfl
@[simp] theorem State.onxU_rdShadows (s : State) (f : Onx → Onx) : (s.onxU f).rdShadows = s.rdShadows := rfl
@[simp] theorem State.onxU_wrShadows (s : State) (f : Onx → Onx) : (s.onxU f).wrShadows = s.wrShadows := rfl
@[simp] theorem State.onxU_free (s : State) (f : Onx → Onx) : (s.onxU f).free = s.free := rfl
@[simp] theorem State.onxU_out (s : State) (f : Onx → Onx) : (s.onxU f).out = s.out := rfl
@[simp] theorem State.onxU_sys (s : State) (f : Onx → Onx) : (s.onxU f).sys = s.sys := rfl
@[simp] theorem State.onxU_evl (s : State) (f : Onx → Onx) : (s.onxU f).evl = s.evl := rfl
@[simp] theorem State.onxU_tru (s : State) (f : Onx → Onx) : (s.onxU f).tru = s.tru := rfl
@[simp] theorem State.onxU_lanes (s : State) (f : Onx → Onx) : (s.onxU f).lanes = s.lanes := rfl
@[simp] theorem State.onxU_stn (s : State) (f : Onx → Onx) : (s.onxU f).stn = s.stn := rfl
@[simp] theorem State.onxU_wrs (s : State) (f : Onx → Onx) : (s.onxU f).wrs = s.wrs := rfl
@[simp] theorem State.onxU_tpz (s : State) (f : Onx → Onx) : (s.onxU f).tpz = s.tpz := rfl
@[simp] theorem State.onxU_buf (s : State) (f : Onx → Onx) : (s.onxU f).buf = s.buf := rfl
@[simp] theorem State.onxU_grn (s : State) (f : Onx → Onx) : (s.onxU f).grn = s.grn := rfl
@[simp] theorem State.onxU_onx (s : State) (f : Onx → Onx) : (s.onxU f).onx = f s.onx := rfl
@[simp] theorem State.onxU_hqe (s : State) (f : Onx → Onx) : (s.onxU f).hqe = s.hqe := rfl
@[simp] theorem State.onxU_rx (s : State) (f : Onx → Onx) : (s.onxU f).rx = s.rx := rfl
@[simp] theorem State.onxU_brl (s : State) (f : Onx → Onx) : (s.onxU f).brl = s.brl := rfl
@[simp] theorem State.onxU_jsp (s : State) (f : Onx → Onx) : (s.onxU f).jsp = s.jsp := rfl
@[simp] theorem State.onxU_spn (s : State) (f : Onx → Onx) : (s.onxU f).spn = s.spn := rfl
@[simp] theorem State.onxU_bus (s : State) (f : Onx → Onx) : (s.onxU f).bus = s.bus := rfl
@[simp] theorem State.onxU_sld (s : State) (f : Onx → Onx) : (s.onxU f).sld = s.sld := rfl
@[simp] theorem State.onxU_cal (s : State) (f : Onx → Onx) : (s.onxU f).cal = s.cal := rfl
@[simp] theorem State.onxU_vf (s : State) (f : Onx → Onx) : (s.onxU f).vf = s.vf := rfl
@[simp] theorem State.onxU_pcx (s : State) (f : Onx → Onx) : (s.onxU f).pcx = s.pcx := rfl
@[simp] theorem State.onxU_cgl (s : State) (f : Onx → Onx) : (s.onxU f).cgl = s.cgl := rfl
@[simp] theorem State.onxU_drk (s : State) (f : Onx → Onx) : (s.onxU f).drk = s.drk := rfl
@[simp] theorem State.onxU_qtz (s : State) (f : Onx → Onx) : (s.onxU f).qtz = s.qtz := rfl
@[simp] theorem State.onxU_rd (s : State) (f : Onx → Onx) (x : Nat) : (s.onxU f).rd x = s.rd x := rfl
@[simp] theorem State.onxU_g (s : State) (f : Onx → Onx) (x : FRef) : (s.onxU f).g x = s.g x := rfl
@[simp] theorem State.onxU_on (s : State) (f : Onx → Onx) (x : FRef) : (s.onxU f).on x = s.on x := rfl
@[simp] theorem State.onxU_now (s : State) (f : Onx → Onx) : (s.onxU f).now = s.now := rfl
@[simp] theorem State.onxU_live (s : State) (f : Onx → Onx) : (s.onxU f).live = s.live := rfl
@[simp] theorem State.onxU_up (s : State) (f : Onx → Onx) : (s.onxU f).up = s.up := rfl
@[simp] theorem State.pcxU_pending (s : State) (f : Pcx → Pcx) : (s.pcxU f).pending = s.pending := rfl
@[simp] theorem State.pcxU_regs (s : State) (f : Pcx → Pcx) : (s.pcxU f).regs = s.regs := rfl
@[simp] theorem State.pcxU_pend (s : State) (f : Pcx → Pcx) : (s.pcxU f).pend = s.pend := rfl
@[simp] theorem State.pcxU_stag (s : State) (f : Pcx → Pcx) : (s.pcxU f).stag = s.stag := rfl
@[simp] theorem State.pcxU_written (s : State) (f : Pcx → Pcx) : (s.pcxU f).written = s.written := rfl
@[simp] theorem State.pcxU_strobes (s : State) (f : Pcx → Pcx) : (s.pcxU f).strobes = s.strobes := rfl
@[simp] theorem State.pcxU_rdShadows (s : State) (f : Pcx → Pcx) : (s.pcxU f).rdShadows = s.rdShadows := rfl
@[simp] theorem State.pcxU_wrShadows (s : State) (f : Pcx → Pcx) : (s.pcxU f).wrShadows = s.wrShadows := rfl
@[simp] theorem State.pcxU_free (s : State) (f : Pcx → Pcx) : (s.pcxU f).free = s.free := rfl
@[simp] theorem State.pcxU_out (s : State) (f : Pcx → Pcx) : (s.pcxU f).out = s.out := rfl
@[simp] theorem State.pcxU_sys (s : State) (f : Pcx → Pcx) : (s.pcxU f).sys = s.sys := rfl
@[simp] theorem State.pcxU_evl (s : State) (f : Pcx → Pcx) : (s.pcxU f).evl = s.evl := rfl
@[simp] theorem State.pcxU_tru (s : State) (f : Pcx → Pcx) : (s.pcxU f).tru = s.tru := rfl
@[simp] theorem State.pcxU_lanes (s : State) (f : Pcx → Pcx) : (s.pcxU f).lanes = s.lanes := rfl
@[simp] theorem State.pcxU_stn (s : State) (f : Pcx → Pcx) : (s.pcxU f).stn = s.stn := rfl
@[simp] theorem State.pcxU_wrs (s : State) (f : Pcx → Pcx) : (s.pcxU f).wrs = s.wrs := rfl
@[simp] theorem State.pcxU_tpz (s : State) (f : Pcx → Pcx) : (s.pcxU f).tpz = s.tpz := rfl
@[simp] theorem State.pcxU_buf (s : State) (f : Pcx → Pcx) : (s.pcxU f).buf = s.buf := rfl
@[simp] theorem State.pcxU_grn (s : State) (f : Pcx → Pcx) : (s.pcxU f).grn = s.grn := rfl
@[simp] theorem State.pcxU_onx (s : State) (f : Pcx → Pcx) : (s.pcxU f).onx = s.onx := rfl
@[simp] theorem State.pcxU_hqe (s : State) (f : Pcx → Pcx) : (s.pcxU f).hqe = s.hqe := rfl
@[simp] theorem State.pcxU_rx (s : State) (f : Pcx → Pcx) : (s.pcxU f).rx = s.rx := rfl
@[simp] theorem State.pcxU_brl (s : State) (f : Pcx → Pcx) : (s.pcxU f).brl = s.brl := rfl
@[simp] theorem State.pcxU_jsp (s : State) (f : Pcx → Pcx) : (s.pcxU f).jsp = s.jsp := rfl
@[simp] theorem State.pcxU_spn (s : State) (f : Pcx → Pcx) : (s.pcxU f).spn = s.spn := rfl
@[simp] theorem State.pcxU_bus (s : State) (f : Pcx → Pcx) : (s.pcxU f).bus = s.bus := rfl
@[simp] theorem State.pcxU_sld (s : State) (f : Pcx → Pcx) : (s.pcxU f).sld = s.sld := rfl
@[simp] theorem State.pcxU_cal (s : State) (f : Pcx → Pcx) : (s.pcxU f).cal = s.cal := rfl
@[simp] theorem State.pcxU_vf (s : State) (f : Pcx → Pcx) : (s.pcxU f).vf = s.vf := rfl
@[simp] theorem State.pcxU_pcx (s : State) (f : Pcx → Pcx) : (s.pcxU f).pcx = f s.pcx := rfl
@[simp] theorem State.pcxU_cgl (s : State) (f : Pcx → Pcx) : (s.pcxU f).cgl = s.cgl := rfl
@[simp] theorem State.pcxU_drk (s : State) (f : Pcx → Pcx) : (s.pcxU f).drk = s.drk := rfl
@[simp] theorem State.pcxU_qtz (s : State) (f : Pcx → Pcx) : (s.pcxU f).qtz = s.qtz := rfl
@[simp] theorem State.pcxU_rd (s : State) (f : Pcx → Pcx) (x : Nat) : (s.pcxU f).rd x = s.rd x := rfl
@[simp] theorem State.pcxU_g (s : State) (f : Pcx → Pcx) (x : FRef) : (s.pcxU f).g x = s.g x := rfl
@[simp] theorem State.pcxU_on (s : State) (f : Pcx → Pcx) (x : FRef) : (s.pcxU f).on x = s.on x := rfl
@[simp] theorem State.pcxU_now (s : State) (f : Pcx → Pcx) : (s.pcxU f).now = s.now := rfl
@[simp] theorem State.pcxU_live (s : State) (f : Pcx → Pcx) : (s.pcxU f).live = s.live := rfl
@[simp] theorem State.pcxU_up (s : State) (f : Pcx → Pcx) : (s.pcxU f).up = s.up := rfl
@[simp] theorem State.qtzU_pending (s : State) (f : Qtz → Qtz) : (s.qtzU f).pending = s.pending := rfl
@[simp] theorem State.qtzU_regs (s : State) (f : Qtz → Qtz) : (s.qtzU f).regs = s.regs := rfl
@[simp] theorem State.qtzU_pend (s : State) (f : Qtz → Qtz) : (s.qtzU f).pend = s.pend := rfl
@[simp] theorem State.qtzU_stag (s : State) (f : Qtz → Qtz) : (s.qtzU f).stag = s.stag := rfl
@[simp] theorem State.qtzU_written (s : State) (f : Qtz → Qtz) : (s.qtzU f).written = s.written := rfl
@[simp] theorem State.qtzU_strobes (s : State) (f : Qtz → Qtz) : (s.qtzU f).strobes = s.strobes := rfl
@[simp] theorem State.qtzU_rdShadows (s : State) (f : Qtz → Qtz) : (s.qtzU f).rdShadows = s.rdShadows := rfl
@[simp] theorem State.qtzU_wrShadows (s : State) (f : Qtz → Qtz) : (s.qtzU f).wrShadows = s.wrShadows := rfl
@[simp] theorem State.qtzU_free (s : State) (f : Qtz → Qtz) : (s.qtzU f).free = s.free := rfl
@[simp] theorem State.qtzU_out (s : State) (f : Qtz → Qtz) : (s.qtzU f).out = s.out := rfl
@[simp] theorem State.qtzU_sys (s : State) (f : Qtz → Qtz) : (s.qtzU f).sys = s.sys := rfl
@[simp] theorem State.qtzU_evl (s : State) (f : Qtz → Qtz) : (s.qtzU f).evl = s.evl := rfl
@[simp] theorem State.qtzU_tru (s : State) (f : Qtz → Qtz) : (s.qtzU f).tru = s.tru := rfl
@[simp] theorem State.qtzU_lanes (s : State) (f : Qtz → Qtz) : (s.qtzU f).lanes = s.lanes := rfl
@[simp] theorem State.qtzU_stn (s : State) (f : Qtz → Qtz) : (s.qtzU f).stn = s.stn := rfl
@[simp] theorem State.qtzU_wrs (s : State) (f : Qtz → Qtz) : (s.qtzU f).wrs = s.wrs := rfl
@[simp] theorem State.qtzU_tpz (s : State) (f : Qtz → Qtz) : (s.qtzU f).tpz = s.tpz := rfl
@[simp] theorem State.qtzU_buf (s : State) (f : Qtz → Qtz) : (s.qtzU f).buf = s.buf := rfl
@[simp] theorem State.qtzU_grn (s : State) (f : Qtz → Qtz) : (s.qtzU f).grn = s.grn := rfl
@[simp] theorem State.qtzU_onx (s : State) (f : Qtz → Qtz) : (s.qtzU f).onx = s.onx := rfl
@[simp] theorem State.qtzU_hqe (s : State) (f : Qtz → Qtz) : (s.qtzU f).hqe = s.hqe := rfl
@[simp] theorem State.qtzU_rx (s : State) (f : Qtz → Qtz) : (s.qtzU f).rx = s.rx := rfl
@[simp] theorem State.qtzU_brl (s : State) (f : Qtz → Qtz) : (s.qtzU f).brl = s.brl := rfl
@[simp] theorem State.qtzU_jsp (s : State) (f : Qtz → Qtz) : (s.qtzU f).jsp = s.jsp := rfl
@[simp] theorem State.qtzU_spn (s : State) (f : Qtz → Qtz) : (s.qtzU f).spn = s.spn := rfl
@[simp] theorem State.qtzU_bus (s : State) (f : Qtz → Qtz) : (s.qtzU f).bus = s.bus := rfl
@[simp] theorem State.qtzU_sld (s : State) (f : Qtz → Qtz) : (s.qtzU f).sld = s.sld := rfl
@[simp] theorem State.qtzU_cal (s : State) (f : Qtz → Qtz) : (s.qtzU f).cal = s.cal := rfl
@[simp] theorem State.qtzU_vf (s : State) (f : Qtz → Qtz) : (s.qtzU f).vf = s.vf := rfl
@[simp] theorem State.qtzU_pcx (s : State) (f : Qtz → Qtz) : (s.qtzU f).pcx = s.pcx := rfl
@[simp] theorem State.qtzU_cgl (s : State) (f : Qtz → Qtz) : (s.qtzU f).cgl = s.cgl := rfl
@[simp] theorem State.qtzU_drk (s : State) (f : Qtz → Qtz) : (s.qtzU f).drk = s.drk := rfl
@[simp] theorem State.qtzU_qtz (s : State) (f : Qtz → Qtz) : (s.qtzU f).qtz = f s.qtz := rfl
@[simp] theorem State.qtzU_rd (s : State) (f : Qtz → Qtz) (x : Nat) : (s.qtzU f).rd x = s.rd x := rfl
@[simp] theorem State.qtzU_g (s : State) (f : Qtz → Qtz) (x : FRef) : (s.qtzU f).g x = s.g x := rfl
@[simp] theorem State.qtzU_on (s : State) (f : Qtz → Qtz) (x : FRef) : (s.qtzU f).on x = s.on x := rfl
@[simp] theorem State.qtzU_now (s : State) (f : Qtz → Qtz) : (s.qtzU f).now = s.now := rfl
@[simp] theorem State.qtzU_live (s : State) (f : Qtz → Qtz) : (s.qtzU f).live = s.live := rfl
@[simp] theorem State.qtzU_up (s : State) (f : Qtz → Qtz) : (s.qtzU f).up = s.up := rfl
@[simp] theorem State.drkU_pending (s : State) (f : Drk → Drk) : (s.drkU f).pending = s.pending := rfl
@[simp] theorem State.drkU_regs (s : State) (f : Drk → Drk) : (s.drkU f).regs = s.regs := rfl
@[simp] theorem State.drkU_pend (s : State) (f : Drk → Drk) : (s.drkU f).pend = s.pend := rfl
@[simp] theorem State.drkU_stag (s : State) (f : Drk → Drk) : (s.drkU f).stag = s.stag := rfl
@[simp] theorem State.drkU_written (s : State) (f : Drk → Drk) : (s.drkU f).written = s.written := rfl
@[simp] theorem State.drkU_strobes (s : State) (f : Drk → Drk) : (s.drkU f).strobes = s.strobes := rfl
@[simp] theorem State.drkU_rdShadows (s : State) (f : Drk → Drk) : (s.drkU f).rdShadows = s.rdShadows := rfl
@[simp] theorem State.drkU_wrShadows (s : State) (f : Drk → Drk) : (s.drkU f).wrShadows = s.wrShadows := rfl
@[simp] theorem State.drkU_free (s : State) (f : Drk → Drk) : (s.drkU f).free = s.free := rfl
@[simp] theorem State.drkU_out (s : State) (f : Drk → Drk) : (s.drkU f).out = s.out := rfl
@[simp] theorem State.drkU_sys (s : State) (f : Drk → Drk) : (s.drkU f).sys = s.sys := rfl
@[simp] theorem State.drkU_evl (s : State) (f : Drk → Drk) : (s.drkU f).evl = s.evl := rfl
@[simp] theorem State.drkU_tru (s : State) (f : Drk → Drk) : (s.drkU f).tru = s.tru := rfl
@[simp] theorem State.drkU_lanes (s : State) (f : Drk → Drk) : (s.drkU f).lanes = s.lanes := rfl
@[simp] theorem State.drkU_stn (s : State) (f : Drk → Drk) : (s.drkU f).stn = s.stn := rfl
@[simp] theorem State.drkU_wrs (s : State) (f : Drk → Drk) : (s.drkU f).wrs = s.wrs := rfl
@[simp] theorem State.drkU_tpz (s : State) (f : Drk → Drk) : (s.drkU f).tpz = s.tpz := rfl
@[simp] theorem State.drkU_buf (s : State) (f : Drk → Drk) : (s.drkU f).buf = s.buf := rfl
@[simp] theorem State.drkU_grn (s : State) (f : Drk → Drk) : (s.drkU f).grn = s.grn := rfl
@[simp] theorem State.drkU_onx (s : State) (f : Drk → Drk) : (s.drkU f).onx = s.onx := rfl
@[simp] theorem State.drkU_hqe (s : State) (f : Drk → Drk) : (s.drkU f).hqe = s.hqe := rfl
@[simp] theorem State.drkU_rx (s : State) (f : Drk → Drk) : (s.drkU f).rx = s.rx := rfl
@[simp] theorem State.drkU_brl (s : State) (f : Drk → Drk) : (s.drkU f).brl = s.brl := rfl
@[simp] theorem State.drkU_jsp (s : State) (f : Drk → Drk) : (s.drkU f).jsp = s.jsp := rfl
@[simp] theorem State.drkU_spn (s : State) (f : Drk → Drk) : (s.drkU f).spn = s.spn := rfl
@[simp] theorem State.drkU_bus (s : State) (f : Drk → Drk) : (s.drkU f).bus = s.bus := rfl
@[simp] theorem State.drkU_sld (s : State) (f : Drk → Drk) : (s.drkU f).sld = s.sld := rfl
@[simp] theorem State.drkU_cal (s : State) (f : Drk → Drk) : (s.drkU f).cal = s.cal := rfl
@[simp] theorem State.drkU_vf (s : State) (f : Drk → Drk) : (s.drkU f).vf = s.vf := rfl
@[simp] theorem State.drkU_pcx (s : State) (f : Drk → Drk) : (s.drkU f).pcx = s.pcx := rfl
@[simp] theorem State.drkU_cgl (s : State) (f : Drk → Drk) : (s.drkU f).cgl = s.cgl := rfl
@[simp] theorem State.drkU_drk (s : State) (f : Drk → Drk) : (s.drkU f).drk = f s.drk := rfl
@[simp] theorem State.drkU_qtz (s : State) (f : Drk → Drk) : (s.drkU f).qtz = s.qtz := rfl
@[simp] theorem State.drkU_rd (s : State) (f : Drk → Drk) (x : Nat) : (s.drkU f).rd x = s.rd x := rfl
@[simp] theorem State.drkU_g (s : State) (f : Drk → Drk) (x : FRef) : (s.drkU f).g x = s.g x := rfl
@[simp] theorem State.drkU_on (s : State) (f : Drk → Drk) (x : FRef) : (s.drkU f).on x = s.on x := rfl
@[simp] theorem State.drkU_now (s : State) (f : Drk → Drk) : (s.drkU f).now = s.now := rfl
@[simp] theorem State.drkU_live (s : State) (f : Drk → Drk) : (s.drkU f).live = s.live := rfl
@[simp] theorem State.drkU_up (s : State) (f : Drk → Drk) : (s.drkU f).up = s.up := rfl
@[simp] theorem State.sldU_pending (s : State) (n : Fin 8) (f : Sld → Sld) : (s.sldU n f).pending = s.pending := rfl
@[simp] theorem State.sldU_regs (s : State) (n : Fin 8) (f : Sld → Sld) : (s.sldU n f).regs = s.regs := rfl
@[simp] theorem State.sldU_pend (s : State) (n : Fin 8) (f : Sld → Sld) : (s.sldU n f).pend = s.pend := rfl
@[simp] theorem State.sldU_stag (s : State) (n : Fin 8) (f : Sld → Sld) : (s.sldU n f).stag = s.stag := rfl
@[simp] theorem State.sldU_written (s : State) (n : Fin 8) (f : Sld → Sld) : (s.sldU n f).written = s.written := rfl
@[simp] theorem State.sldU_strobes (s : State) (n : Fin 8) (f : Sld → Sld) : (s.sldU n f).strobes = s.strobes := rfl
@[simp] theorem State.sldU_rdShadows (s : State) (n : Fin 8) (f : Sld → Sld) : (s.sldU n f).rdShadows = s.rdShadows := rfl
@[simp] theorem State.sldU_wrShadows (s : State) (n : Fin 8) (f : Sld → Sld) : (s.sldU n f).wrShadows = s.wrShadows := rfl
@[simp] theorem State.sldU_free (s : State) (n : Fin 8) (f : Sld → Sld) : (s.sldU n f).free = s.free := rfl
@[simp] theorem State.sldU_out (s : State) (n : Fin 8) (f : Sld → Sld) : (s.sldU n f).out = s.out := rfl
@[simp] theorem State.sldU_sys (s : State) (n : Fin 8) (f : Sld → Sld) : (s.sldU n f).sys = s.sys := rfl
@[simp] theorem State.sldU_evl (s : State) (n : Fin 8) (f : Sld → Sld) : (s.sldU n f).evl = s.evl := rfl
@[simp] theorem State.sldU_tru (s : State) (n : Fin 8) (f : Sld → Sld) : (s.sldU n f).tru = s.tru := rfl
@[simp] theorem State.sldU_lanes (s : State) (n : Fin 8) (f : Sld → Sld) : (s.sldU n f).lanes = s.lanes := rfl
@[simp] theorem State.sldU_stn (s : State) (n : Fin 8) (f : Sld → Sld) : (s.sldU n f).stn = s.stn := rfl
@[simp] theorem State.sldU_wrs (s : State) (n : Fin 8) (f : Sld → Sld) : (s.sldU n f).wrs = s.wrs := rfl
@[simp] theorem State.sldU_tpz (s : State) (n : Fin 8) (f : Sld → Sld) : (s.sldU n f).tpz = s.tpz := rfl
@[simp] theorem State.sldU_buf (s : State) (n : Fin 8) (f : Sld → Sld) : (s.sldU n f).buf = s.buf := rfl
@[simp] theorem State.sldU_grn (s : State) (n : Fin 8) (f : Sld → Sld) : (s.sldU n f).grn = s.grn := rfl
@[simp] theorem State.sldU_onx (s : State) (n : Fin 8) (f : Sld → Sld) : (s.sldU n f).onx = s.onx := rfl
@[simp] theorem State.sldU_hqe (s : State) (n : Fin 8) (f : Sld → Sld) : (s.sldU n f).hqe = s.hqe := rfl
@[simp] theorem State.sldU_rx (s : State) (n : Fin 8) (f : Sld → Sld) : (s.sldU n f).rx = s.rx := rfl
@[simp] theorem State.sldU_brl (s : State) (n : Fin 8) (f : Sld → Sld) : (s.sldU n f).brl = s.brl := rfl
@[simp] theorem State.sldU_jsp (s : State) (n : Fin 8) (f : Sld → Sld) : (s.sldU n f).jsp = s.jsp := rfl
@[simp] theorem State.sldU_spn (s : State) (n : Fin 8) (f : Sld → Sld) : (s.sldU n f).spn = s.spn := rfl
@[simp] theorem State.sldU_bus (s : State) (n : Fin 8) (f : Sld → Sld) : (s.sldU n f).bus = s.bus := rfl
@[simp] theorem State.sldU_sld (s : State) (n : Fin 8) (f : Sld → Sld) : (s.sldU n f).sld = vmod s.sld n f := rfl
@[simp] theorem State.sldU_cal (s : State) (n : Fin 8) (f : Sld → Sld) : (s.sldU n f).cal = s.cal := rfl
@[simp] theorem State.sldU_vf (s : State) (n : Fin 8) (f : Sld → Sld) : (s.sldU n f).vf = s.vf := rfl
@[simp] theorem State.sldU_pcx (s : State) (n : Fin 8) (f : Sld → Sld) : (s.sldU n f).pcx = s.pcx := rfl
@[simp] theorem State.sldU_cgl (s : State) (n : Fin 8) (f : Sld → Sld) : (s.sldU n f).cgl = s.cgl := rfl
@[simp] theorem State.sldU_drk (s : State) (n : Fin 8) (f : Sld → Sld) : (s.sldU n f).drk = s.drk := rfl
@[simp] theorem State.sldU_qtz (s : State) (n : Fin 8) (f : Sld → Sld) : (s.sldU n f).qtz = s.qtz := rfl
@[simp] theorem State.sldU_rd (s : State) (n : Fin 8) (f : Sld → Sld) (x : Nat) : (s.sldU n f).rd x = s.rd x := rfl
@[simp] theorem State.sldU_g (s : State) (n : Fin 8) (f : Sld → Sld) (x : FRef) : (s.sldU n f).g x = s.g x := rfl
@[simp] theorem State.sldU_on (s : State) (n : Fin 8) (f : Sld → Sld) (x : FRef) : (s.sldU n f).on x = s.on x := rfl
@[simp] theorem State.sldU_now (s : State) (n : Fin 8) (f : Sld → Sld) : (s.sldU n f).now = s.now := rfl
@[simp] theorem State.sldU_live (s : State) (n : Fin 8) (f : Sld → Sld) : (s.sldU n f).live = s.live := rfl
@[simp] theorem State.sldU_up (s : State) (n : Fin 8) (f : Sld → Sld) : (s.sldU n f).up = s.up := rfl
@[simp] theorem State.spnU_pending (s : State) (n : Fin 8) (f : Spn → Spn) : (s.spnU n f).pending = s.pending := rfl
@[simp] theorem State.spnU_regs (s : State) (n : Fin 8) (f : Spn → Spn) : (s.spnU n f).regs = s.regs := rfl
@[simp] theorem State.spnU_pend (s : State) (n : Fin 8) (f : Spn → Spn) : (s.spnU n f).pend = s.pend := rfl
@[simp] theorem State.spnU_stag (s : State) (n : Fin 8) (f : Spn → Spn) : (s.spnU n f).stag = s.stag := rfl
@[simp] theorem State.spnU_written (s : State) (n : Fin 8) (f : Spn → Spn) : (s.spnU n f).written = s.written := rfl
@[simp] theorem State.spnU_strobes (s : State) (n : Fin 8) (f : Spn → Spn) : (s.spnU n f).strobes = s.strobes := rfl
@[simp] theorem State.spnU_rdShadows (s : State) (n : Fin 8) (f : Spn → Spn) : (s.spnU n f).rdShadows = s.rdShadows := rfl
@[simp] theorem State.spnU_wrShadows (s : State) (n : Fin 8) (f : Spn → Spn) : (s.spnU n f).wrShadows = s.wrShadows := rfl
@[simp] theorem State.spnU_free (s : State) (n : Fin 8) (f : Spn → Spn) : (s.spnU n f).free = s.free := rfl
@[simp] theorem State.spnU_out (s : State) (n : Fin 8) (f : Spn → Spn) : (s.spnU n f).out = s.out := rfl
@[simp] theorem State.spnU_sys (s : State) (n : Fin 8) (f : Spn → Spn) : (s.spnU n f).sys = s.sys := rfl
@[simp] theorem State.spnU_evl (s : State) (n : Fin 8) (f : Spn → Spn) : (s.spnU n f).evl = s.evl := rfl
@[simp] theorem State.spnU_tru (s : State) (n : Fin 8) (f : Spn → Spn) : (s.spnU n f).tru = s.tru := rfl
@[simp] theorem State.spnU_lanes (s : State) (n : Fin 8) (f : Spn → Spn) : (s.spnU n f).lanes = s.lanes := rfl
@[simp] theorem State.spnU_stn (s : State) (n : Fin 8) (f : Spn → Spn) : (s.spnU n f).stn = s.stn := rfl
@[simp] theorem State.spnU_wrs (s : State) (n : Fin 8) (f : Spn → Spn) : (s.spnU n f).wrs = s.wrs := rfl
@[simp] theorem State.spnU_tpz (s : State) (n : Fin 8) (f : Spn → Spn) : (s.spnU n f).tpz = s.tpz := rfl
@[simp] theorem State.spnU_buf (s : State) (n : Fin 8) (f : Spn → Spn) : (s.spnU n f).buf = s.buf := rfl
@[simp] theorem State.spnU_grn (s : State) (n : Fin 8) (f : Spn → Spn) : (s.spnU n f).grn = s.grn := rfl
@[simp] theorem State.spnU_onx (s : State) (n : Fin 8) (f : Spn → Spn) : (s.spnU n f).onx = s.onx := rfl
@[simp] theorem State.spnU_hqe (s : State) (n : Fin 8) (f : Spn → Spn) : (s.spnU n f).hqe = s.hqe := rfl
@[simp] theorem State.spnU_rx (s : State) (n : Fin 8) (f : Spn → Spn) : (s.spnU n f).rx = s.rx := rfl
@[simp] theorem State.spnU_brl (s : State) (n : Fin 8) (f : Spn → Spn) : (s.spnU n f).brl = s.brl := rfl
@[simp] theorem State.spnU_jsp (s : State) (n : Fin 8) (f : Spn → Spn) : (s.spnU n f).jsp = s.jsp := rfl
@[simp] theorem State.spnU_spn (s : State) (n : Fin 8) (f : Spn → Spn) : (s.spnU n f).spn = vmod s.spn n f := rfl
@[simp] theorem State.spnU_bus (s : State) (n : Fin 8) (f : Spn → Spn) : (s.spnU n f).bus = s.bus := rfl
@[simp] theorem State.spnU_sld (s : State) (n : Fin 8) (f : Spn → Spn) : (s.spnU n f).sld = s.sld := rfl
@[simp] theorem State.spnU_cal (s : State) (n : Fin 8) (f : Spn → Spn) : (s.spnU n f).cal = s.cal := rfl
@[simp] theorem State.spnU_vf (s : State) (n : Fin 8) (f : Spn → Spn) : (s.spnU n f).vf = s.vf := rfl
@[simp] theorem State.spnU_pcx (s : State) (n : Fin 8) (f : Spn → Spn) : (s.spnU n f).pcx = s.pcx := rfl
@[simp] theorem State.spnU_cgl (s : State) (n : Fin 8) (f : Spn → Spn) : (s.spnU n f).cgl = s.cgl := rfl
@[simp] theorem State.spnU_drk (s : State) (n : Fin 8) (f : Spn → Spn) : (s.spnU n f).drk = s.drk := rfl
@[simp] theorem State.spnU_qtz (s : State) (n : Fin 8) (f : Spn → Spn) : (s.spnU n f).qtz = s.qtz := rfl
@[simp] theorem State.spnU_rd (s : State) (n : Fin 8) (f : Spn → Spn) (x : Nat) : (s.spnU n f).rd x = s.rd x := rfl
@[simp] theorem State.spnU_g (s : State) (n : Fin 8) (f : Spn → Spn) (x : FRef) : (s.spnU n f).g x = s.g x := rfl
@[simp] theorem State.spnU_on (s : State) (n : Fin 8) (f : Spn → Spn) (x : FRef) : (s.spnU n f).on x = s.on x := rfl
@[simp] theorem State.spnU_now (s : State) (n : Fin 8) (f : Spn → Spn) : (s.spnU n f).now = s.now := rfl
@[simp] theorem State.spnU_live (s : State) (n : Fin 8) (f : Spn → Spn) : (s.spnU n f).live = s.live := rfl
@[simp] theorem State.spnU_up (s : State) (n : Fin 8) (f : Spn → Spn) : (s.spnU n f).up = s.up := rfl
@[simp] theorem State.stnU_pending (s : State) (n : Fin 8) (f : Stn → Stn) : (s.stnU n f).pending = s.pending := rfl
@[simp] theorem State.stnU_regs (s : State) (n : Fin 8) (f : Stn → Stn) : (s.stnU n f).regs = s.regs := rfl
@[simp] theorem State.stnU_pend (s : State) (n : Fin 8) (f : Stn → Stn) : (s.stnU n f).pend = s.pend := rfl
@[simp] theorem State.stnU_stag (s : State) (n : Fin 8) (f : Stn → Stn) : (s.stnU n f).stag = s.stag := rfl
@[simp] theorem State.stnU_written (s : State) (n : Fin 8) (f : Stn → Stn) : (s.stnU n f).written = s.written := rfl
@[simp] theorem State.stnU_strobes (s : State) (n : Fin 8) (f : Stn → Stn) : (s.stnU n f).strobes = s.strobes := rfl
@[simp] theorem State.stnU_rdShadows (s : State) (n : Fin 8) (f : Stn → Stn) : (s.stnU n f).rdShadows = s.rdShadows := rfl
@[simp] theorem State.stnU_wrShadows (s : State) (n : Fin 8) (f : Stn → Stn) : (s.stnU n f).wrShadows = s.wrShadows := rfl
@[simp] theorem State.stnU_free (s : State) (n : Fin 8) (f : Stn → Stn) : (s.stnU n f).free = s.free := rfl
@[simp] theorem State.stnU_out (s : State) (n : Fin 8) (f : Stn → Stn) : (s.stnU n f).out = s.out := rfl
@[simp] theorem State.stnU_sys (s : State) (n : Fin 8) (f : Stn → Stn) : (s.stnU n f).sys = s.sys := rfl
@[simp] theorem State.stnU_evl (s : State) (n : Fin 8) (f : Stn → Stn) : (s.stnU n f).evl = s.evl := rfl
@[simp] theorem State.stnU_tru (s : State) (n : Fin 8) (f : Stn → Stn) : (s.stnU n f).tru = s.tru := rfl
@[simp] theorem State.stnU_lanes (s : State) (n : Fin 8) (f : Stn → Stn) : (s.stnU n f).lanes = s.lanes := rfl
@[simp] theorem State.stnU_stn (s : State) (n : Fin 8) (f : Stn → Stn) : (s.stnU n f).stn = vmod s.stn n f := rfl
@[simp] theorem State.stnU_wrs (s : State) (n : Fin 8) (f : Stn → Stn) : (s.stnU n f).wrs = s.wrs := rfl
@[simp] theorem State.stnU_tpz (s : State) (n : Fin 8) (f : Stn → Stn) : (s.stnU n f).tpz = s.tpz := rfl
@[simp] theorem State.stnU_buf (s : State) (n : Fin 8) (f : Stn → Stn) : (s.stnU n f).buf = s.buf := rfl
@[simp] theorem State.stnU_grn (s : State) (n : Fin 8) (f : Stn → Stn) : (s.stnU n f).grn = s.grn := rfl
@[simp] theorem State.stnU_onx (s : State) (n : Fin 8) (f : Stn → Stn) : (s.stnU n f).onx = s.onx := rfl
@[simp] theorem State.stnU_hqe (s : State) (n : Fin 8) (f : Stn → Stn) : (s.stnU n f).hqe = s.hqe := rfl
@[simp] theorem State.stnU_rx (s : State) (n : Fin 8) (f : Stn → Stn) : (s.stnU n f).rx = s.rx := rfl
@[simp] theorem State.stnU_brl (s : State) (n : Fin 8) (f : Stn → Stn) : (s.stnU n f).brl = s.brl := rfl
@[simp] theorem State.stnU_jsp (s : State) (n : Fin 8) (f : Stn → Stn) : (s.stnU n f).jsp = s.jsp := rfl
@[simp] theorem State.stnU_spn (s : State) (n : Fin 8) (f : Stn → Stn) : (s.stnU n f).spn = s.spn := rfl
@[simp] theorem State.stnU_bus (s : State) (n : Fin 8) (f : Stn → Stn) : (s.stnU n f).bus = s.bus := rfl
@[simp] theorem State.stnU_sld (s : State) (n : Fin 8) (f : Stn → Stn) : (s.stnU n f).sld = s.sld := rfl
@[simp] theorem State.stnU_cal (s : State) (n : Fin 8) (f : Stn → Stn) : (s.stnU n f).cal = s.cal := rfl
@[simp] theorem State.stnU_vf (s : State) (n : Fin 8) (f : Stn → Stn) : (s.stnU n f).vf = s.vf := rfl
@[simp] theorem State.stnU_pcx (s : State) (n : Fin 8) (f : Stn → Stn) : (s.stnU n f).pcx = s.pcx := rfl
@[simp] theorem State.stnU_cgl (s : State) (n : Fin 8) (f : Stn → Stn) : (s.stnU n f).cgl = s.cgl := rfl
@[simp] theorem State.stnU_drk (s : State) (n : Fin 8) (f : Stn → Stn) : (s.stnU n f).drk = s.drk := rfl
@[simp] theorem State.stnU_qtz (s : State) (n : Fin 8) (f : Stn → Stn) : (s.stnU n f).qtz = s.qtz := rfl
@[simp] theorem State.stnU_rd (s : State) (n : Fin 8) (f : Stn → Stn) (x : Nat) : (s.stnU n f).rd x = s.rd x := rfl
@[simp] theorem State.stnU_g (s : State) (n : Fin 8) (f : Stn → Stn) (x : FRef) : (s.stnU n f).g x = s.g x := rfl
@[simp] theorem State.stnU_on (s : State) (n : Fin 8) (f : Stn → Stn) (x : FRef) : (s.stnU n f).on x = s.on x := rfl
@[simp] theorem State.stnU_now (s : State) (n : Fin 8) (f : Stn → Stn) : (s.stnU n f).now = s.now := rfl
@[simp] theorem State.stnU_live (s : State) (n : Fin 8) (f : Stn → Stn) : (s.stnU n f).live = s.live := rfl
@[simp] theorem State.stnU_up (s : State) (n : Fin 8) (f : Stn → Stn) : (s.stnU n f).up = s.up := rfl
@[simp] theorem State.wrsU_pending (s : State) (n : Fin 8) (f : Wrs → Wrs) : (s.wrsU n f).pending = s.pending := rfl
@[simp] theorem State.wrsU_regs (s : State) (n : Fin 8) (f : Wrs → Wrs) : (s.wrsU n f).regs = s.regs := rfl
@[simp] theorem State.wrsU_pend (s : State) (n : Fin 8) (f : Wrs → Wrs) : (s.wrsU n f).pend = s.pend := rfl
@[simp] theorem State.wrsU_stag (s : State) (n : Fin 8) (f : Wrs → Wrs) : (s.wrsU n f).stag = s.stag := rfl
@[simp] theorem State.wrsU_written (s : State) (n : Fin 8) (f : Wrs → Wrs) : (s.wrsU n f).written = s.written := rfl
@[simp] theorem State.wrsU_strobes (s : State) (n : Fin 8) (f : Wrs → Wrs) : (s.wrsU n f).strobes = s.strobes := rfl
@[simp] theorem State.wrsU_rdShadows (s : State) (n : Fin 8) (f : Wrs → Wrs) : (s.wrsU n f).rdShadows = s.rdShadows := rfl
@[simp] theorem State.wrsU_wrShadows (s : State) (n : Fin 8) (f : Wrs → Wrs) : (s.wrsU n f).wrShadows = s.wrShadows := rfl
@[simp] theorem State.wrsU_free (s : State) (n : Fin 8) (f : Wrs → Wrs) : (s.wrsU n f).free = s.free := rfl
@[simp] theorem State.wrsU_out (s : State) (n : Fin 8) (f : Wrs → Wrs) : (s.wrsU n f).out = s.out := rfl
@[simp] theorem State.wrsU_sys (s : State) (n : Fin 8) (f : Wrs → Wrs) : (s.wrsU n f).sys = s.sys := rfl
@[simp] theorem State.wrsU_evl (s : State) (n : Fin 8) (f : Wrs → Wrs) : (s.wrsU n f).evl = s.evl := rfl
@[simp] theorem State.wrsU_tru (s : State) (n : Fin 8) (f : Wrs → Wrs) : (s.wrsU n f).tru = s.tru := rfl
@[simp] theorem State.wrsU_lanes (s : State) (n : Fin 8) (f : Wrs → Wrs) : (s.wrsU n f).lanes = s.lanes := rfl
@[simp] theorem State.wrsU_stn (s : State) (n : Fin 8) (f : Wrs → Wrs) : (s.wrsU n f).stn = s.stn := rfl
@[simp] theorem State.wrsU_wrs (s : State) (n : Fin 8) (f : Wrs → Wrs) : (s.wrsU n f).wrs = vmod s.wrs n f := rfl
@[simp] theorem State.wrsU_tpz (s : State) (n : Fin 8) (f : Wrs → Wrs) : (s.wrsU n f).tpz = s.tpz := rfl
@[simp] theorem State.wrsU_buf (s : State) (n : Fin 8) (f : Wrs → Wrs) : (s.wrsU n f).buf = s.buf := rfl
@[simp] theorem State.wrsU_grn (s : State) (n : Fin 8) (f : Wrs → Wrs) : (s.wrsU n f).grn = s.grn := rfl
@[simp] theorem State.wrsU_onx (s : State) (n : Fin 8) (f : Wrs → Wrs) : (s.wrsU n f).onx = s.onx := rfl
@[simp] theorem State.wrsU_hqe (s : State) (n : Fin 8) (f : Wrs → Wrs) : (s.wrsU n f).hqe = s.hqe := rfl
@[simp] theorem State.wrsU_rx (s : State) (n : Fin 8) (f : Wrs → Wrs) : (s.wrsU n f).rx = s.rx := rfl
@[simp] theorem State.wrsU_brl (s : State) (n : Fin 8) (f : Wrs → Wrs) : (s.wrsU n f).brl = s.brl := rfl
@[simp] theorem State.wrsU_jsp (s : State) (n : Fin 8) (f : Wrs → Wrs) : (s.wrsU n f).jsp = s.jsp := rfl
@[simp] theorem State.wrsU_spn (s : State) (n : Fin 8) (f : Wrs → Wrs) : (s.wrsU n f).spn = s.spn := rfl
@[simp] theorem State.wrsU_bus (s : State) (n : Fin 8) (f : Wrs → Wrs) : (s.wrsU n f).bus = s.bus := rfl
@[simp] theorem State.wrsU_sld (s : State) (n : Fin 8) (f : Wrs → Wrs) : (s.wrsU n f).sld = s.sld := rfl
@[simp] theorem State.wrsU_cal (s : State) (n : Fin 8) (f : Wrs → Wrs) : (s.wrsU n f).cal = s.cal := rfl
@[simp] theorem State.wrsU_vf (s : State) (n : Fin 8) (f : Wrs → Wrs) : (s.wrsU n f).vf = s.vf := rfl
@[simp] theorem State.wrsU_pcx (s : State) (n : Fin 8) (f : Wrs → Wrs) : (s.wrsU n f).pcx = s.pcx := rfl
@[simp] theorem State.wrsU_cgl (s : State) (n : Fin 8) (f : Wrs → Wrs) : (s.wrsU n f).cgl = s.cgl := rfl
@[simp] theorem State.wrsU_drk (s : State) (n : Fin 8) (f : Wrs → Wrs) : (s.wrsU n f).drk = s.drk := rfl
@[simp] theorem State.wrsU_qtz (s : State) (n : Fin 8) (f : Wrs → Wrs) : (s.wrsU n f).qtz = s.qtz := rfl
@[simp] theorem State.wrsU_rd (s : State) (n : Fin 8) (f : Wrs → Wrs) (x : Nat) : (s.wrsU n f).rd x = s.rd x := rfl
@[simp] theorem State.wrsU_g (s : State) (n : Fin 8) (f : Wrs → Wrs) (x : FRef) : (s.wrsU n f).g x = s.g x := rfl
@[simp] theorem State.wrsU_on (s : State) (n : Fin 8) (f : Wrs → Wrs) (x : FRef) : (s.wrsU n f).on x = s.on x := rfl
@[simp] theorem State.wrsU_now (s : State) (n : Fin 8) (f : Wrs → Wrs) : (s.wrsU n f).now = s.now := rfl
@[simp] theorem State.wrsU_live (s : State) (n : Fin 8) (f : Wrs → Wrs) : (s.wrsU n f).live = s.live := rfl
@[simp] theorem State.wrsU_up (s : State) (n : Fin 8) (f : Wrs → Wrs) : (s.wrsU n f).up = s.up := rfl
@[simp] theorem State.tpzU_pending (s : State) (f : Tpz → Tpz) : (s.tpzU f).pending = s.pending := rfl
@[simp] theorem State.tpzU_regs (s : State) (f : Tpz → Tpz) : (s.tpzU f).regs = s.regs := rfl
@[simp] theorem State.tpzU_pend (s : State) (f : Tpz → Tpz) : (s.tpzU f).pend = s.pend := rfl
@[simp] theorem State.tpzU_stag (s : State) (f : Tpz → Tpz) : (s.tpzU f).stag = s.stag := rfl
@[simp] theorem State.tpzU_written (s : State) (f : Tpz → Tpz) : (s.tpzU f).written = s.written := rfl
@[simp] theorem State.tpzU_strobes (s : State) (f : Tpz → Tpz) : (s.tpzU f).strobes = s.strobes := rfl
@[simp] theorem State.tpzU_rdShadows (s : State) (f : Tpz → Tpz) : (s.tpzU f).rdShadows = s.rdShadows := rfl
@[simp] theorem State.tpzU_wrShadows (s : State) (f : Tpz → Tpz) : (s.tpzU f).wrShadows = s.wrShadows := rfl
@[simp] theorem State.tpzU_free (s : State) (f : Tpz → Tpz) : (s.tpzU f).free = s.free := rfl
@[simp] theorem State.tpzU_out (s : State) (f : Tpz → Tpz) : (s.tpzU f).out = s.out := rfl
@[simp] theorem State.tpzU_sys (s : State) (f : Tpz → Tpz) : (s.tpzU f).sys = s.sys := rfl
@[simp] theorem State.tpzU_evl (s : State) (f : Tpz → Tpz) : (s.tpzU f).evl = s.evl := rfl
@[simp] theorem State.tpzU_tru (s : State) (f : Tpz → Tpz) : (s.tpzU f).tru = s.tru := rfl
@[simp] theorem State.tpzU_lanes (s : State) (f : Tpz → Tpz) : (s.tpzU f).lanes = s.lanes := rfl
@[simp] theorem State.tpzU_stn (s : State) (f : Tpz → Tpz) : (s.tpzU f).stn = s.stn := rfl
@[simp] theorem State.tpzU_wrs (s : State) (f : Tpz → Tpz) : (s.tpzU f).wrs = s.wrs := rfl
@[simp] theorem State.tpzU_tpz (s : State) (f : Tpz → Tpz) : (s.tpzU f).tpz = f s.tpz := rfl
@[simp] theorem State.tpzU_buf (s : State) (f : Tpz → Tpz) : (s.tpzU f).buf = s.buf := rfl
@[simp] theorem State.tpzU_grn (s : State) (f : Tpz → Tpz) : (s.tpzU f).grn = s.grn := rfl
@[simp] theorem State.tpzU_onx (s : State) (f : Tpz → Tpz) : (s.tpzU f).onx = s.onx := rfl
@[simp] theorem State.tpzU_hqe (s : State) (f : Tpz → Tpz) : (s.tpzU f).hqe = s.hqe := rfl
@[simp] theorem State.tpzU_rx (s : State) (f : Tpz → Tpz) : (s.tpzU f).rx = s.rx := rfl
@[simp] theorem State.tpzU_brl (s : State) (f : Tpz → Tpz) : (s.tpzU f).brl = s.brl := rfl
@[simp] theorem State.tpzU_jsp (s : State) (f : Tpz → Tpz) : (s.tpzU f).jsp = s.jsp := rfl
@[simp] theorem State.tpzU_spn (s : State) (f : Tpz → Tpz) : (s.tpzU f).spn = s.spn := rfl
@[simp] theorem State.tpzU_bus (s : State) (f : Tpz → Tpz) : (s.tpzU f).bus = s.bus := rfl
@[simp] theorem State.tpzU_sld (s : State) (f : Tpz → Tpz) : (s.tpzU f).sld = s.sld := rfl
@[simp] theorem State.tpzU_cal (s : State) (f : Tpz → Tpz) : (s.tpzU f).cal = s.cal := rfl
@[simp] theorem State.tpzU_vf (s : State) (f : Tpz → Tpz) : (s.tpzU f).vf = s.vf := rfl
@[simp] theorem State.tpzU_pcx (s : State) (f : Tpz → Tpz) : (s.tpzU f).pcx = s.pcx := rfl
@[simp] theorem State.tpzU_cgl (s : State) (f : Tpz → Tpz) : (s.tpzU f).cgl = s.cgl := rfl
@[simp] theorem State.tpzU_drk (s : State) (f : Tpz → Tpz) : (s.tpzU f).drk = s.drk := rfl
@[simp] theorem State.tpzU_qtz (s : State) (f : Tpz → Tpz) : (s.tpzU f).qtz = s.qtz := rfl
@[simp] theorem State.tpzU_rd (s : State) (f : Tpz → Tpz) (x : Nat) : (s.tpzU f).rd x = s.rd x := rfl
@[simp] theorem State.tpzU_g (s : State) (f : Tpz → Tpz) (x : FRef) : (s.tpzU f).g x = s.g x := rfl
@[simp] theorem State.tpzU_on (s : State) (f : Tpz → Tpz) (x : FRef) : (s.tpzU f).on x = s.on x := rfl
@[simp] theorem State.tpzU_now (s : State) (f : Tpz → Tpz) : (s.tpzU f).now = s.now := rfl
@[simp] theorem State.tpzU_live (s : State) (f : Tpz → Tpz) : (s.tpzU f).live = s.live := rfl
@[simp] theorem State.tpzU_up (s : State) (f : Tpz → Tpz) : (s.tpzU f).up = s.up := rfl
@[simp] theorem State.truU_pending (s : State) (f : Tru → Tru) : (s.truU f).pending = s.pending := rfl
@[simp] theorem State.truU_regs (s : State) (f : Tru → Tru) : (s.truU f).regs = s.regs := rfl
@[simp] theorem State.truU_pend (s : State) (f : Tru → Tru) : (s.truU f).pend = s.pend := rfl
@[simp] theorem State.truU_stag (s : State) (f : Tru → Tru) : (s.truU f).stag = s.stag := rfl
@[simp] theorem State.truU_written (s : State) (f : Tru → Tru) : (s.truU f).written = s.written := rfl
@[simp] theorem State.truU_strobes (s : State) (f : Tru → Tru) : (s.truU f).strobes = s.strobes := rfl
@[simp] theorem State.truU_rdShadows (s : State) (f : Tru → Tru) : (s.truU f).rdShadows = s.rdShadows := rfl
@[simp] theorem State.truU_wrShadows (s : State) (f : Tru → Tru) : (s.truU f).wrShadows = s.wrShadows := rfl
@[simp] theorem State.truU_free (s : State) (f : Tru → Tru) : (s.truU f).free = s.free := rfl
@[simp] theorem State.truU_out (s : State) (f : Tru → Tru) : (s.truU f).out = s.out := rfl
@[simp] theorem State.truU_sys (s : State) (f : Tru → Tru) : (s.truU f).sys = s.sys := rfl
@[simp] theorem State.truU_evl (s : State) (f : Tru → Tru) : (s.truU f).evl = s.evl := rfl
@[simp] theorem State.truU_tru (s : State) (f : Tru → Tru) : (s.truU f).tru = f s.tru := rfl
@[simp] theorem State.truU_lanes (s : State) (f : Tru → Tru) : (s.truU f).lanes = s.lanes := rfl
@[simp] theorem State.truU_stn (s : State) (f : Tru → Tru) : (s.truU f).stn = s.stn := rfl
@[simp] theorem State.truU_wrs (s : State) (f : Tru → Tru) : (s.truU f).wrs = s.wrs := rfl
@[simp] theorem State.truU_tpz (s : State) (f : Tru → Tru) : (s.truU f).tpz = s.tpz := rfl
@[simp] theorem State.truU_buf (s : State) (f : Tru → Tru) : (s.truU f).buf = s.buf := rfl
@[simp] theorem State.truU_grn (s : State) (f : Tru → Tru) : (s.truU f).grn = s.grn := rfl
@[simp] theorem State.truU_onx (s : State) (f : Tru → Tru) : (s.truU f).onx = s.onx := rfl
@[simp] theorem State.truU_hqe (s : State) (f : Tru → Tru) : (s.truU f).hqe = s.hqe := rfl
@[simp] theorem State.truU_rx (s : State) (f : Tru → Tru) : (s.truU f).rx = s.rx := rfl
@[simp] theorem State.truU_brl (s : State) (f : Tru → Tru) : (s.truU f).brl = s.brl := rfl
@[simp] theorem State.truU_jsp (s : State) (f : Tru → Tru) : (s.truU f).jsp = s.jsp := rfl
@[simp] theorem State.truU_spn (s : State) (f : Tru → Tru) : (s.truU f).spn = s.spn := rfl
@[simp] theorem State.truU_bus (s : State) (f : Tru → Tru) : (s.truU f).bus = s.bus := rfl
@[simp] theorem State.truU_sld (s : State) (f : Tru → Tru) : (s.truU f).sld = s.sld := rfl
@[simp] theorem State.truU_cal (s : State) (f : Tru → Tru) : (s.truU f).cal = s.cal := rfl
@[simp] theorem State.truU_vf (s : State) (f : Tru → Tru) : (s.truU f).vf = s.vf := rfl
@[simp] theorem State.truU_pcx (s : State) (f : Tru → Tru) : (s.truU f).pcx = s.pcx := rfl
@[simp] theorem State.truU_cgl (s : State) (f : Tru → Tru) : (s.truU f).cgl = s.cgl := rfl
@[simp] theorem State.truU_drk (s : State) (f : Tru → Tru) : (s.truU f).drk = s.drk := rfl
@[simp] theorem State.truU_qtz (s : State) (f : Tru → Tru) : (s.truU f).qtz = s.qtz := rfl
@[simp] theorem State.truU_rd (s : State) (f : Tru → Tru) (x : Nat) : (s.truU f).rd x = s.rd x := rfl
@[simp] theorem State.truU_g (s : State) (f : Tru → Tru) (x : FRef) : (s.truU f).g x = s.g x := rfl
@[simp] theorem State.truU_on (s : State) (f : Tru → Tru) (x : FRef) : (s.truU f).on x = s.on x := rfl
@[simp] theorem State.truU_now (s : State) (f : Tru → Tru) : (s.truU f).now = s.now := rfl
@[simp] theorem State.truU_live (s : State) (f : Tru → Tru) : (s.truU f).live = s.live := rfl
@[simp] theorem State.truU_up (s : State) (f : Tru → Tru) : (s.truU f).up = s.up := rfl

/-- What holds of a state and is kept by every turn of a loop holds after the loop. -/
theorem State.each_keeps {α : Type} (P : State → Prop) (k : State → α → State) (h : ∀ s x, P s → P (k s x)) (l : List α) (s : State)
    (hs : P s) : P (s.each l k) := by
  induction l generalizing s with
  | nil => exact hs
  | cons x t ih => exact ih (k s x) (h s x hs)

/-- What no turn of a loop changes the loop does not change. -/
theorem State.each_proj {α γ : Type} (p : State → γ) (k : State → α → State) (h : ∀ s x, p (k s x) = p s) (l : List α) (s : State) :
    p (s.each l k) = p s :=
  s.each_keeps (fun t => p t = p s) k (fun t x e => (h t x).trans e) l rfl

/-- What setting one field does not change, setting fields in turn does not change. -/
theorem State.us_proj {γ : Type} (p : State → γ) (h : ∀ (s : State) f v, p (s.u f v) = p s) (l : List (FRef × Nat)) (s : State) :
    p (s.us l) = p s := by
  induction l generalizing s with
  | nil => rfl
  | cons x t ih => exact (ih (s.u x.1 x.2)).trans (h s x.1 x.2)

@[simp] theorem State.us_nil (s : State) : s.us [] = s := rfl
@[simp] theorem State.us_cons (s : State) (f : FRef) (v : Nat) (l : List (FRef × Nat)) : s.us ((f, v) :: l) = (s.u f v).us l := rfl

@[simp] theorem State.whenB_true (s : State) (k : State → State) : s.whenB true k = k s := rfl
@[simp] theorem State.whenB_false (s : State) (k : State → State) : s.whenB false k = s := rfl

end Sys2Proof.Machine
end

