-- ==== Sys2Proof/Laws/Ops.lean ====
section
/-!
SUPPORT. Laws of the shared operations on registers, and of the answer of a command.
-/

namespace Sys2Proof.Machine

/-- A register of a sparse file read after it was written. -/
theorem rdR_wrR_self (m : SMap Word) (a : Nat) (w : Word) : rdR (wrR m a w) a = w := smSet_self _ _ _ _

/-- A write of a sparse file leaves the other registers alone. -/
theorem rdR_wrR_other (m : SMap Word) {a b : Nat} (w : Word) (h : b ≠ a) : rdR (wrR m a w) b = rdR m b := by
  unfold rdR wrR
  rw [smSet_other _ _ _ h]

/-- A write keeps a sparse file canonical. -/
theorem wrR_wf {m : SMap Word} (a : Nat) (w : Word) (h : smWf resetWord m = true) : smWf resetWord (wrR m a w) = true :=
  smWf_smSet a w h

@[simp] theorem State.rd_wr_self (s : State) (a : Nat) (w : Word) : (s.wr a w).rd a = w := rdR_wrR_self _ _ _

theorem State.rd_wr_other (s : State) {a b : Nat} (w : Word) (h : b ≠ a) : (s.wr a w).rd b = s.rd b := rdR_wrR_other _ _ h

/-- Setting a field leaves every other register alone. -/
theorem State.rd_u_other (s : State) (f : FRef) (v : Nat) {b : Nat} (h : b ≠ f.addr) : (s.u f v).rd b = s.rd b :=
  s.rd_wr_other _ h

@[simp] theorem State.rd_u_self (s : State) (f : FRef) (v : Nat) : (s.u f v).rd f.addr = setF (s.rd f.addr) f v := s.rd_wr_self _ _

/-- A field reads what the hardware set it to. -/
theorem State.g_u_self (s : State) (f : FRef) (v : Nat) (h : f.lo + f.w ≤ 32) : (s.u f v).g f = v % 2 ^ f.w := by
  unfold State.g; rw [State.rd_u_self, getF_setF_self _ _ _ h]

/-- Setting a field leaves the fields of other registers alone. -/
theorem State.g_u_addr (s : State) (f g : FRef) (v : Nat) (h : g.addr ≠ f.addr) : (s.u f v).g g = s.g g := by
  unfold State.g; rw [s.rd_u_other f v h]

/-- Setting a field leaves the other fields of its register alone. -/
theorem State.g_u_bits (s : State) (f g : FRef) (v : Nat) (h : f.lo + f.w ≤ g.lo ∨ g.lo + g.w ≤ f.lo) (hg : g.lo + g.w ≤ 32) :
    (s.u f v).g g = s.g g := by
  by_cases ha : g.addr = f.addr
  · unfold State.g; rw [ha, State.rd_u_self, getF_setF_other _ _ _ _ h hg]
  · exact s.g_u_addr f g v ha

/-- Setting a field keeps the registers canonical. -/
theorem State.u_wf (s : State) (f : FRef) (v : Nat) (h : smWf resetWord s.regs = true) : smWf resetWord (s.u f v).regs = true :=
  wrR_wf _ _ h

/-- The registers that setting fields in turn may change. -/
theorem State.rd_us_other (s : State) (l : List (FRef × Nat)) {b : Nat} (h : ∀ p ∈ l, b ≠ p.1.addr) : (s.us l).rd b = s.rd b := by
  induction l generalizing s with
  | nil => rfl
  | cons p t ih =>
    rw [State.us_cons, ih _ (fun q hq => h q (List.mem_cons_of_mem _ hq)), s.rd_u_other _ _ (h p (List.mem_cons_self ..))]

/-- A command of a live FY8C has its effect (R470, R504). -/
theorem answer_live {s : State} (k : State → State) (h : s.live = true) : answer s k = .next (k s) := by
  unfold answer; rw [if_pos h]

/-- A command has no effect while the FY8C is held in reset or in RECOVERY (R470, R504). -/
theorem answer_dead {s : State} (k : State → State) (h : s.live = false) : answer s k = .next s := by
  unfold answer; rw [h]; rfl

theorem answerUp_up {s : State} (k : State → State) (h : s.up = true) : answerUp s k = .next (k s) := by
  unfold answerUp; rw [if_pos h]

theorem answerUp_held {s : State} (k : State → State) (h : s.up = false) : answerUp s k = .next s := by
  unfold answerUp; rw [h]; rfl

/-- Every command that is answered so answers a next state. -/
theorem answer_next (s : State) (k : State → State) : ∃ t, answer s k = .next t := by
  unfold answer; split <;> exact ⟨_, rfl⟩

theorem answerUp_next (s : State) (k : State → State) : ∃ t, answerUp s k = .next t := by
  unfold answerUp; split <;> exact ⟨_, rfl⟩

/-- A live FY8C is out of reset. -/
theorem up_of_live {s : State} (h : s.live = true) : s.up = true := by
  unfold State.live at h; exact (Bool.and_eq_true_iff.mp h).1

/-- A change of one element of a vector: the element, and the others. -/
@[simp] theorem vmod_self {α : Type} {n : Nat} (v : Vector α n) (i : Fin n) (f : α → α) : (vmod v i f)[i] = f v[i] := by
  simp [vmod]

theorem vmod_other {α : Type} {n : Nat} (v : Vector α n) {i j : Fin n} (f : α → α) (h : j ≠ i) : (vmod v i f)[j] = v[j] := by
  have : i.val ≠ j.val := fun e => h (Fin.ext e.symm)
  simp [vmod, this]

end Sys2Proof.Machine
end

