-- ==== Sys2Proof/Tests/Slice0.lean ====
section
/-!
SUPPORT. Tests: that what each statement of Certificates/Slice0/Obligations.lean assumes can be met, clause by clause and at the ends of the
ranges (theorems wit_<statement>); that ill-formed commands are refused; and the spec's worked examples, each on one step or one
operation, with the values the spec gives (theorems test_<what>).
-/

set_option Elab.async false

namespace Sys2Proof.Tests

open Sys2Proof Sys2Proof.Machine

/-- A live FY8C on which nothing is under way. -/
def s0 : State := { State.reset with sys := ⟨.no, true, true, 0, 0, false⟩, regs := [(0x1E0000, 0#32)] }
theorem wit_StepRunsFrontCommand : State.reset.pending = [] := rfl
theorem wit_HeldWithoutPowerStays : State.reset.sys.held = .power ∧ step State.reset = .next State.reset := ⟨rfl, rfl⟩
theorem wit_HeldDeviceIgnoresCommands_held : State.reset.up = false := rfl
theorem wit_HeldDeviceIgnoresCommands_recovery : ({ s0 with regs := [(0x1E0000, 4#32)] }).on R.TRU_STATUS_RECOVERY = true := by decide +kernel
theorem wit_RegisterWritesGoToTheRightCopy : s0.live = true ∧ (1#4 ≠ 0#4) ∧ (regAt 0x64).isSome = true ∧ configurable 0x64 = true ∧
    (regAt 0x64).all (fun d => d.part == 0 && !isCommand d.fields) = true := by decide +kernel
theorem wit_ReadClearAndShadows : s0.live = true ∧ (3#4 ≠ 15#4) ∧ (3#4 ≠ 0#4) ∧
    shadowAt [⟨.mgmt 1, R.QTZ_TIME_LO, 7#32⟩] (.mgmt 1) R.QTZ_TIME_LO = some 7#32 ∧
    shadowAt [⟨.mgmt 0, R.SLD_START_TIME_LO 7, 9#32⟩] (.mgmt 0) (R.SLD_START_TIME_LO 7) = some 9#32 := by decide +kernel
theorem wit_WideAndPartialAccesses : s0.live = true ∧ 2 < 3 ∧ 255 < 256 ∧ (8#4 ≠ 15#4) ∧ (8#4 ≠ 0#4) := by decide +kernel
theorem wit_StrobeStagesThenBoundaryApplies : s0.live = true ∧ s0.grn.cfgGroups = 0#32 ∧
    (1#32 &&& groupBit (groupOf s0 .glbTemp)) ≠ 0#32 ∧ (2#32 &&& groupBit (groupOf s0 .glbTemp)) = 0#32 := by decide +kernel
theorem wit_StrobeStagesThenBoundaryApplies_ok : toSigned 16 (getF (rdR [(0x64, 0xF600#32), (0x68, 0x2080#32)] R.GLB_TEMP_WARN) R.GLB_TEMP_WARN_LEVEL) = -2560 ∧
    toSigned 16 (getF (rdR [(0x64, 0xF600#32), (0x68, 0x2080#32)] R.GLB_TEMP_CRIT) R.GLB_TEMP_CRIT_LEVEL) = 8320 := by decide +kernel
theorem wit_StrobeStagesThenBoundaryApplies_bad : toSigned 16 (getF (rdR [(0x64, 0x1F80#32)] R.GLB_TEMP_CRIT) R.GLB_TEMP_CRIT_LEVEL) ≤
    toSigned 16 (getF (rdR [(0x64, 0x1F80#32)] R.GLB_TEMP_WARN) R.GLB_TEMP_WARN_LEVEL) := by decide +kernel
theorem wit_StrobeStagesThenBoundaryApplies_unit :
    let s : State := { s0 with strobes := [⟨.qtz, 1#32, 0, false, false⟩] }
    s.live = true ∧ UnitId.qtz ∈ allUnits ∧ (setsOf s (stagedView s .qtz) .qtz).all (fun c => c.ok) = true := by decide +kernel
theorem wit_StrobeStagesThenBoundaryApplies_set :
    let s : State := { s0 with strobes := [⟨.glbTemp, 1#32, 0, false, false⟩], stag := [(0x64, 0x1F80#32)] }
    ∃ c ∈ setsOf s (stagedView s .glbTemp) .glbTemp, c.ok = false := by decide +kernel
theorem wit_StrobeStagesThenBoundaryApplies_auto :
    let s : State := { s0 with regs := [(0x28, 0x10#32), (0x1E0000, 0#32)], written := [0x84804], pend := [(0x84804, 1#32)] }
    s.live = true ∧ s.on R.GLB_AUTO_APPLY_SPN = true ∧ R.SPN_BUS_CTRL = 0x84804 ∧ UnitId.spnBus ∈ allUnits ∧
    autoBit .spnBus = some R.GLB_AUTO_APPLY_SPN ∧ autoRegs s .spnBus = [0x84804] := by decide +kernel
theorem wit_DeviceResetAndTemperature : s0.live = true ∧ s0.up = true ∧ getF 0x0FA50001#32 R.GLB_RESET_KEY = 0x0FA5 ∧
    getF 0x0FA50001#32 R.GLB_RESET_DEVICE = 1 := by decide +kernel
theorem wit_DeviceResetAndTemperature_levels :
    (Vector.replicate 8 (8639 : Int)).toList.all (fun x => decide (-32768 ≤ x) && decide (x < 8640)) = true ∧
    (Vector.replicate 8 (8640 : Int)).toList.any (fun x => decide (8640 ≤ x)) = true ∧
    (Vector.replicate 8 (7359 : Int)).toList.all (fun x => decide (x < 7360)) = true ∧
    (Vector.replicate 8 (7360 : Int)).toList.any (fun x => decide (7360 ≤ x)) = true := by decide +kernel
theorem wit_DeviceResetAndTemperature_others : State.reset.sys.held = .power ∧ State.reset.tru.flashOp = none ∧
    ({ s0 with sys := ⟨.jtag, true, true, 0, 0, true⟩ }).sys.held = .jtag ∧ s0.sys.held ≠ .jtag ∧ s0.sys.held ≠ .power ∧
    ({ s0 with regs := [(0x1E0000, 8#32)] }).on R.TRU_STATUS_TRIAL = true := by decide +kernel
theorem wit_DeviceResetAndTemperature_held : ({ s0 with sys := ⟨.thermal, true, true, 0, 0, false⟩ }).sys.held = .thermal := rfl
def f0 : LaneIn := ⟨[], none⟩
def patBits (w : BitVec 40) : List (Bool × Nat) := (List.range 40).map (fun i => (w.getLsbD i, 0))
def laneState : State := { (s0.laneU 0 (fun x => { x with dsp := { x.dsp with n := 40, bits := patBits primarySync } })) with
  regs := [(R.OPL_MODE 0, 1#32), (R.OPL_STATUS 0, BitVec.ofNat 32 (2 ^ (R.OPL_STATUS_FRAME_LOCK 0).lo)), (0x1E0000, 0#32)] }
theorem wit_LaneSyncMatches : laneRun laneState 0 f0 = laneState ∧ laneState.live = true ∧ laneWorks laneState 0 = true ∧
    laneState.on (R.OPL_STATUS_FRAME_LOCK 0) = true ∧ (laneState.lanes[(0 : Fin 68)]).hyp = none ∧ (laneState.lanes[(0 : Fin 68)]).pri = none ∧
    syncBits (laneState.lanes[(0 : Fin 68)]).dsp 0 = some primarySync ∧ syncDiff primarySync primarySync ≤ laneState.g (R.OPL_SYNC_PRI_MAXDIFF 0) := by
  decide +kernel
def lane67 (p : Nat) : State := { (s0.laneU 67 (fun x => { x with pred := 4, dsp := { x.dsp with n := p, bits := patBits primarySync } })) with
  regs := [(R.OPL_MODE 67, 1#32), (R.OPL_SPARE_MAP, 0x80000000#32), (R.OPL_STATUS 67, BitVec.ofNat 32 (2 ^ (R.OPL_STATUS_FRAME_LOCK 67).lo)), (0x1E0000, 0#32)] }
theorem wit_LaneSyncMatches_early : laneWorks (lane67 40) 67 = true ∧ syncBits ((lane67 40).lanes[(67 : Fin 68)]).dsp (4 + -4) = some primarySync ∧
    syncBits ((lane67 48).lanes[(67 : Fin 68)]).dsp (4 + 4) = some primarySync := by decide +kernel
def secState (pri : Option Int) : State := { (s0.laneU 0 (fun x => { x with pri := pri, dsp := { x.dsp with n := 1324, bits := patBits secondarySync } })) with
  regs := laneState.regs }
theorem wit_LaneSyncMatches_secondary : laneWorks (secState none) 0 = true ∧ syncBits ((secState none).lanes[(0 : Fin 68)]).dsp (0 + 1280 + 4) = some secondarySync ∧
    syncDiff secondarySync secondarySync ≤ (secState none).g (R.OPL_SYNC_SEC_MAXDIFF 0) ∧ ((secState (some 0)).lanes[(0 : Fin 68)]).pri = some 0 ∧
    ((secState none).lanes[(0 : Fin 68)]).sec = none := by decide +kernel
def hypState (h : List (Int × Nat)) : State := s0.laneU 67 (fun x => { x with hyp := some ⟨-4, h⟩, dsp := { x.dsp with n := 1324 } })
theorem wit_LaneSyncMatches_open : ((hypState []).lanes[(67 : Fin 68)]).hyp = some ⟨-4, []⟩ ∧ ((hypState [(0, 3)]).lanes[(67 : Fin 68)]).hyp = some ⟨-4, [(0, 3)]⟩ ∧
    ((hypState []).lanes[(67 : Fin 68)]).pred + 1324 ≤ ((hypState []).lanes[(67 : Fin 68)]).dsp.n := by decide +kernel
def searchState : State := { laneState with regs := [(R.OPL_MODE 0, 1#32), (0x1E0000, 0#32)] }
theorem wit_LaneSyncMatches_search : laneWorks searchState 0 = true ∧ searchState.on (R.OPL_STATUS_FRAME_LOCK 0) = false ∧
    (searchState.lanes[(0 : Fin 68)]).starting = false := by decide +kernel
def defState (defect : Nat) (d : Dsp) : State := { (s0.laneU 0 (fun x => { x with dsp := d })) with
  regs := [(R.OPL_MODE 0, 1#32), (R.OPL_STATUS 0, BitVec.ofNat 32 (defect * 2 ^ (R.OPL_STATUS_DEFECT 0).lo + 2 ^ (R.OPL_STATUS_SPARED 0).lo)),
    (R.OPL_STATUS 1, BitVec.ofNat 32 (2 ^ (R.OPL_STATUS_FRAME_LOCK 1).lo)), (R.OPL_STATUS 2, BitVec.ofNat 32 (2 ^ (R.OPL_STATUS_FRAME_LOCK 2).lo)),
    (R.OPL_STATUS 3, BitVec.ofNat 32 (2 ^ (R.OPL_STATUS_FRAME_LOCK 3).lo)),
    (R.BRL_STN_SEQ_STATUS 0, BitVec.ofNat 32 (2 ^ (R.BRL_STN_SEQ_STATUS_FLOCK 0).lo)), (0x1E0000, 0#32)] }
theorem wit_LaneDefectsAndFailures : (defState 0 { Dsp.init with low := 2040, n := 2040 }).live = true ∧
    laneWorks (defState 0 { Dsp.init with low := 2040, n := 2040 }) 0 = true ∧ (defState 0 Dsp.init).on (R.OPL_STATUS_DEFECT 0) = false ∧
    (defState 0 Dsp.init).g (R.OPL_DEFECT_MIN_LEN 0) * 8 ≤ 2040 ∧ ((defState 0 Dsp.init).lanes[(0 : Fin 68)]).held = false ∧
    ((defState 0 Dsp.init).lanes[(0 : Fin 68)]).rows = [] ∧ (freeSpare (defState 0 Dsp.init)).isSome = true := by decide +kernel
def midS : State := (defState 0 Dsp.init).laneU 0 (fun x => { x with rows := [erasedRow 6 false] })
theorem wit_LaneDefectsAndFailures_middle : (midS.lanes[(0 : Fin 68)]).rows = [erasedRow 6 false] ∧ midS.g (R.OPL_MODE_MODE 0) = 1 ∧
    calReads midS (laneStation midS 0) = false ∧ betweenClusters midS 0 = false ∧ betweenClusters (defState 0 Dsp.init) 67 = true ∧
    (s0.lanes[(67 : Fin 68)]).rows = [] ∧ laneReads s0 67 = false := by decide +kernel
theorem wit_LaneDefectsAndFailures_hold : (defState 1 Dsp.init).on (R.OPL_STATUS_DEFECT 0) = true ∧
    (defState 1 Dsp.init).g (R.OPL_DEFECT_MAX_HOLD 0) * 2560 < defectLength { Dsp.init with n := 50000, defects := [(0, none)] } ∧
    (defState 1 Dsp.init).g (R.OPL_DEFECT_MIN_LEN 0) * 8 ≤ 2040 := by decide +kernel
theorem wit_LaneDefectsAndFailures_dry : laneBeam (defState 0 { Dsp.init with n := 163840 }) 0 = some (0, 0, false) ∧
    laneWorks (defState 0 { Dsp.init with n := 163840 }) 0 = true ∧ [1, 2, 3].all (fun k => (defState 0 Dsp.init).on (R.OPL_STATUS_FRAME_LOCK k)) = true ∧ sramBad (some ⟨Vector.replicate 8 0#8, 3#8, 0#8⟩) = true := by decide +kernel
theorem wit_LaneDefectsAndFailures_adc : ((⟨3, by omega⟩ : Fin 64).val = (laneOf 0 3 false).val) ∧
    (defState 0 { Dsp.init with same := 1000 }).on (R.BRL_STN_SEQ_STATUS_FLOCK 0) = true := by decide +kernel
theorem wit_LaneDefectsAndFailures_spare : (defState 0 Dsp.init).on (R.OPL_STATUS_SPARED (laneOf 0 0 false)) = true ∧
    (defState 0 Dsp.init).on (R.OPL_STATUS_FAILED (laneOf 0 0 false)) = false ∧
    s0.on (R.OPL_STATUS_SPARED (laneOf 7 3 true)) = false ∧ s0.on (R.OPL_STATUS_ADC_FAILED (laneOf 7 3 true)) = false ∧ (freeSpare s0).isSome = true := by decide +kernel
def lane1 (pri : Option Int) (n : Nat) : State := laneState.laneU 0 (fun x => { x with hyp := none, awaitSlot := false, pri := pri, rows := [], dsp := { x.dsp with n := n } })
theorem wit_LaneFramesAndLock_frame : laneRun (lane1 (some 0) 2560) 0 f0 = lane1 (some 0) 2560 ∧ (lane1 (some 0) 2560).live = true ∧
    laneReads (lane1 (some 0) 2560) 0 = true ∧ (lane1 (some 0) 2560).g (R.OPL_MODE_MODE 0) = 1 ∧
    (lane1 (some 0) 2560).on (R.OPL_STATUS_FRAME_LOCK 0) = true ∧ defectFrame ((lane1 (some 0) 2560).lanes[(0 : Fin 68)]) = false ∧
    syncCase ((lane1 (some 0) 2560).lanes[(0 : Fin 68)]) ≠ 0 ∧
    (framePlaces ((lane1 (some 0) 2560).lanes[(0 : Fin 68)])).2.1 + 1280 ≤ ((lane1 (some 0) 2560).lanes[(0 : Fin 68)]).dsp.n := by decide +kernel
theorem wit_LaneFramesAndLock_fly : syncCase ((lane1 none 1324).lanes[(0 : Fin 68)]) = 0 ∧ ((lane1 none 1324).lanes[(0 : Fin 68)]).miss < 2 ∧
    laneReads (lane1 none 1324) 0 = true ∧ ((lane1 none 1324).lanes[(0 : Fin 68)]).pred + 1324 ≤ ((lane1 none 1324).lanes[(0 : Fin 68)]).dsp.n := by decide +kernel
def laneAwait (at' : Option Nat) : State := (lane1 none 1324).laneU 0 (fun x => { x with awaitSlot := true, slotAt := at' })
theorem wit_LaneFramesAndLock_await : laneRun (laneAwait (some 48)) 0 f0 = laneAwait (some 48) ∧ laneReads (laneAwait none) 0 = true ∧
    atSlotStart ((laneAwait (some 48)).lanes[(0 : Fin 68)]) 0 = true ∧ atSlotStart ((laneAwait none).lanes[(0 : Fin 68)]) 0 = false ∧
    defectFrame ((laneAwait none).lanes[(0 : Fin 68)]) = false ∧ syncCase ((laneAwait none).lanes[(0 : Fin 68)]) = 0 := by decide +kernel
def lane2 : State := { (s0.laneU 3 (fun x => { x with searchPri := some 7, dsp := { x.dsp with n := 1331, bits := patBits secondarySync } })) with
  regs := [(R.OPL_MODE 3, 2#32), (0x1E0000, 0#32)] }
theorem wit_LaneFramesAndLock_lock : lane2.live = true ∧ laneWorks lane2 3 = true ∧ lane2.on (R.OPL_STATUS_FRAME_LOCK 3) = false ∧
    (lane2.lanes[(3 : Fin 68)]).searchPri = some 7 ∧ syncBits (lane2.lanes[(3 : Fin 68)]).dsp (7 + 1280 + 4) = some secondarySync ∧
    syncDiff secondarySync secondarySync ≤ lane2.g (R.OPL_SYNC_SEC_MAXDIFF 3) := by decide +kernel
theorem wit_LaneFramesAndLock_station : ({ s0 with regs := [(R.BRL_STN_SEQ_STATUS 7, BitVec.ofNat 32 (2 ^ (R.BRL_STN_SEQ_STATUS_TLOCK 7).lo)), (0x1E0000, 0#32)] }).on (R.BRL_STN_SEQ_STATUS_TLOCK 7) = true ∧
    (adipAddress 0xFFFFFFFFFFFFFFF#60 = none) ∧ adipAddress (adipWord 0x0C000401) = some 0x0C000401 ∧
    nextPca 0x0C000400 = some 0x0C000401 ∧ (wobbleRun 0 ⟨some (-1), some 0, 50, 127⟩ [1]).2.isSome = true ∧ wobbleRun 0 ⟨none, none, 0, 0⟩ [] = (⟨none, none, 0, 0⟩, none) ∧
    0 ≤ ((wobbleRun 0 ⟨some (-1), some 0, 50, 127⟩ [1]).2).getD 0 ∧ s0.on (R.BRL_STN_SEQ_STATUS_TLOCK 7) = false ∧ ((s0.stn[(0 : Fin 8)]).adip[(3 : Fin 4)]).here = none := by decide +kernel
def lane4 : State := { (s0.laneU (laneOf 0 0 false) (fun x => { x with stopped := true, adcDone := true })) with
  regs := [(R.OPL_STATUS 0, BitVec.ofNat 32 (2 ^ (R.OPL_STATUS_ADC_FAILED 0).lo)), (R.OPL_STATUS 4, BitVec.ofNat 32 (2 ^ (R.OPL_STATUS_ADC_FAILED 4).lo)), (0x1E0000, 0#32)] }
theorem wit_LaneFramesAndLock_adc : lane4.live = true ∧ lane4.on (R.OPL_STATUS_ADC_FAILED (laneOf 0 0 true)) = true ∧ (lane4.lanes[laneOf 0 0 true]).adcDone = false ∧
    lane4.on (R.OPL_STATUS_ADC_FAILED (laneOf 0 0 false)) = true ∧ (lane4.lanes[laneOf 0 0 false]).adcDone = true ∧ spareOf lane4 0 0 true = none ∧
    (lane4.beam 0 0).cur = none := by decide +kernel
def lane5 : State := { s0 with regs := [(R.OPL_STATUS (laneOf 7 3 false), BitVec.ofNat 32 (2 ^ (R.OPL_STATUS_FAILED 0).lo)), (0x1E0000, 0#32)] }
theorem wit_LaneFramesAndLock_spare : freeSpare lane5 = some 0 ∧ spareOf lane5 7 3 false = none ∧ lane5.on (R.OPL_STATUS_FAILED (laneOf 7 3 false)) = true ∧
    lane5.on (R.OPL_STATUS_ADC_FAILED (laneOf 7 3 false)) = false ∧ (lane5.lanes[laneOf 7 3 false]).handled = false ∧
    lane5.on (R.OPL_STATUS_FAILED (workLane lane5 7 3 true)) = false ∧ (lane5.beam 7 3).cur = none := by decide +kernel
def actS (n : Fin 8) (l : List (FRef × Nat)) : State :=
  (s0.us ([(R.STN_STATUS_STATE n, stACTIVE), (R.STN_STATUS_DISC_KIND n, 1), (R.STN_STATUS_AVAILABLE n, 1), (R.WRS_CTRL_BEAM_EN n, 15)] ++ l)).stnU n
    (fun x => { x with fronts := Vector.ofFn (fun m => some (mkPca 0 m.val 0 dataFirst)) })
def page0 : Page := ⟨1, 0, 1, 0, 0, 0, .acked, [], false, false, false, false, false⟩
def joinS : State := { s0 with buf := { s0.buf with pages := [(5, page0)] } }
theorem wit_TopazClustersAndStripes_join : joinS.live = true ∧ nextBlock joinS 1 0 = some (5, page0) ∧ earlierWrite joinS 1 0 0 = false ∧
    openStripe joinS 1 0 = none := by decide +kernel
def stripe0 (closed : Bool) (k : Nat) (f : Option Clu) : Stripe := ⟨1, 0, 1, k, false, 0, [⟨1, 1, 0, 0, 1, 0, [5], []⟩], f, closed, 0, [], 0⟩
def clu0 : Clu := ⟨1, 1, 0, 0, 1, 0, [], []⟩
def joinS2 (f : Option Clu) : State := { joinS with tpz := { s0.tpz with stripes := [stripe0 false 7 f] } }
theorem wit_TopazClustersAndStripes_continue : openStripe (joinS2 (some clu0)) 1 0 = some (stripe0 false 7 (some clu0)) ∧ continues clu0 page0 = true ∧
    nextBlock (joinS2 (some clu0)) 1 0 = some (5, page0) ∧ openStripe (joinS2 none) 1 0 = some (stripe0 false 7 none) := by decide +kernel
def joinS3 : State := { actS 0 [(R.TPZ_GEOMETRY_GEOM, 0)] with buf := joinS.buf }
def joinS4 : State := { joinS3.us [(R.STN_STATUS_STATE 1, stACTIVE), (R.STN_STATUS_DISC_KIND 1, 1)] with stn := Vector.replicate 8 (joinS3.stn[(0 : Fin 8)]) }
theorem wit_TopazClustersAndStripes_open : nextBlock joinS4 1 0 = some (5, page0) ∧ openStripe joinS4 1 0 = none ∧ serialSpent joinS4 = false ∧
    parityCount joinS4 < (availSet joinS4).length := by decide +kernel
def idleS : State := { (s0.u64 R.QTZ_TIME_LO 60000000000) with tpz := { s0.tpz with stripes := [stripe0 false 7 none] } }
theorem wit_TopazClustersAndStripes_idle : idleS.live = true ∧ openStripe idleS 1 0 = some (stripe0 false 7 none) ∧
    idleS.g R.TPZ_STRIPE_CTRL_IDLE_CLOSE ≠ 0 ∧ 0 + idleS.g R.TPZ_STRIPE_CTRL_IDLE_CLOSE * 1000000 ≤ idleS.now := by decide +kernel
def placeS : State := { actS 1 [] with tpz := { s0.tpz with stripes := [stripe0 true 1 none] }, grn := { s0.grn with ceilStripe := 100 } }
theorem wit_TopazClustersAndStripes_place : placeS.live = true ∧ placeable placeS = some (stripe0 true 1 none) ∧ nextSerial placeS < placeS.grn.ceilStripe ∧
    serialSpent placeS = false ∧ (List.range 2).any (fun r => avail placeS (stnOf (placeStation (nextSerial placeS) r false 0))) = true ∧
    (List.range 2).any (fun r => !avail placeS (stnOf (placeStation (nextSerial placeS) r false 0))) = true := by decide +kernel
def hdr0 : Hdr := ⟨1, 1, 0, 1, 0, 17, 3, 0, 1, 0, 0, 4096, false, false, false, 0xFFFFFFFF, 0xFF, none⟩
def job0 : Job := ⟨.member, false, hdr0, 1, [], 0, none, 0, 0⟩
def encS : State := (actS 7 []).wrsU 7 (fun w => { w with queue := [job0] })
theorem wit_TopazClustersAndStripes_encode : encS.live = true ∧ ((encS.wrs[(7 : Fin 8)]).queue = [job0]) ∧ nextBeam encS 7 = some 0 ∧
    (encS.beam 7 0).enc = none ∧ (encS.cal[(7 : Fin 8)]).run = none ∧ jobSlot encS 7 0 job0 = some (mkPca 0 0 0 dataFirst) := by decide +kernel
def rebS : State := { actS 7 [] with tpz := { s0.tpz with
  rebuilds := [⟨1, 1, 7, 1, 1, false, 0, false, none⟩], stripes := [⟨1, 0, 1, 1, false, 0, [], none, true, 1, [], 0⟩] } }
theorem wit_TopazClustersAndStripes_rebuild : avail rebS 7 = true ∧ nothingQueued rebS 7 = true ∧
    (rebS.tpz.rebuilds.any (fun r => r.station == 7 && !r.queued)) = true ∧ (stripeBySerial rebS 1).isSome = true ∧ (touchAll rebS []).1 = true ∧ stripeLines rebS 1 [] = [] := by decide +kernel
def sweepS : State := (actS 7 [(R.TPZ_SWEEP_CTRL_EN, 1)]).stnU 7 (fun x => { x with fronts := Vector.ofFn (fun m => some (mkPca 0 m.val 0 (dataFirst + 5))) })
theorem wit_TopazClustersAndStripes_sweep : sweepRuns sweepS 7 = true ∧ (sweepS.grn.chains[(7 : Fin 8)]).check = [] ∧
    frontKey (max dataFirst (sweepS.tpz.sweepNext[(7 : Fin 8)])) <
      beams.foldl (fun a m => max a (frontKey (((sweepS.stn[(7 : Fin 8)]).fronts[m]).getD 0))) 0 ∧
    (discIndex sweepS (discId sweepS 7)).isNone = true ∧
    (sweepAfter sweepS 7 (max dataFirst (sweepS.tpz.sweepNext[(7 : Fin 8)]))).isSome = true := by decide +kernel
theorem wit_TopazClustersAndStripes_rest :
    ((⟨0, 9, 1024, 1, 1, 0, some (1, 9, 2048), [], false⟩ : Reloc).done.isSome = true) ∧
    ([(⟨0, 9, 1024, 1, 1, 0, some (1, 9, 2048), [], false⟩ : Reloc)].find? (fun x => x.disc == 9 && x.pca == 1024)).isSome = true := by decide +kernel
def cur0 (k : JobKind) (res failed : Nat) : Cur := ⟨{ job0 with kind := k }, mkPca 0 0 0 dataFirst, 0, res, failed, false, false, false, [], 0, false⟩
def writeS (n : Fin 8) (m : Fin 4) (f : Beam → Beam) (l : List (FRef × Nat)) : State :=
  ((actS n ([(R.SPN_STATUS_ANGLE_VALID n, 1), (R.BRL_STN_SEQ_STATUS_STATE n, 0), (R.BRL_STN_SEQ_STATUS_FLOCK n, 1), (R.BRL_STN_SEQ_STATUS_TLOCK n, 1),
    (R.WRS_STATUS_LINK_ACTIVE n, 1)] ++ l)).stnU n (fun x => { x with
      adip := vmod x.adip m (fun a => { a with last := some (mkPca 0 m.val 0 dataFirst) }) })).beamU n m f
def startS : State := writeS 7 3 (fun b => { b with enc := some ⟨job0, mkPca 0 3 0 dataFirst, 0, []⟩ }) []
theorem wit_WritePathClusters_start : startS.live = true ∧ (startS.beam 7 3).cur = none ∧ mayStart startS 7 ⟨job0, mkPca 0 3 0 dataFirst, 0, []⟩ = true ∧
    writeMay startS 7 3 .member = true ∧ lanesGood startS 7 3 = true ∧ sendsAtOnce (startS.beam 7 3) = false ∧
    slotAccepted startS 7 3 (mkPca 0 3 0 dataFirst) = true := by decide +kernel
def endS : State := writeS 0 0 (fun b => { b with cur := some (cur0 .member 0 33) })
  [(R.BRL_STN_SEQ_STATUS_TLOCK 0, 0), (R.WRS_CTRL_ABANDON 0, 1), (R.WRS_STATUS_WRITING 0, 9), (R.OPL_STATUS_FAILED 4, 1)]
theorem wit_WritePathClusters_end : endS.live = true ∧ (endS.beam 0 0).cur = some (cur0 .member 0 33) ∧ writeHolds endS 0 .member = false ∧
    endS.on (R.WRS_CTRL_ABANDON 0) = true ∧ endS.g (R.WRS_VERIFY_FRAME_FAIL_MAX 0) < 33 ∧ awaitsResult (endS.beam 0 0) = true ∧
    endS.g (R.WRS_STATUS_WRITING 0) - bitOf (endS.g (R.WRS_STATUS_WRITING 0)) 0 * 2 ^ 0 ≠ 0 ∧ takesResults (cur0 .member 0 33) = true ∧ writeHolds startS 7 .member = true ∧ clusterLength ≤ ({ cur0 .member 0 33 with sent := clusterLength }).sent ∧
    (endS.beam 0 0).judged = [] ∧ endS.on (R.OPL_STATUS_FAILED (workLane endS 0 0 true)) = true := by decide +kernel
def verS : State := (writeS 0 0 (fun b => { b with cur := some (cur0 .member 0 0) }) [(R.OPL_MODE_MODE 4, 2)]).laneU 4
  (fun x => { x with dsp := { x.dsp with n := 2560 } })
theorem wit_WritePathClusters_verify : workLane verS 0 0 true = 4 ∧ verS.on (R.OPL_STATUS_ADC_FAILED (laneOf 0 0 true)) = false ∧ laneWorks verS 4 = true ∧
    verS.g (R.OPL_MODE_MODE 4) = 2 ∧ verifyCase verS 4 = 6 ∧
    (framePlaces (verS.lanes[(4 : Fin 68)])).2.1 + 1280 ≤ (verS.lanes[(4 : Fin 68)]).dsp.n := by decide +kernel
def verdictS : State := writeS 7 3 (fun b => { b with judged := [cur0 .test 320 0], failRun := 2, cur := some (cur0 .member 0 0) }) [(R.WRS_STATUS_SUSPENDED 7, 8)]
theorem wit_WritePathClusters_verdict : (verdictS.beam 7 3).judged = [cur0 .test 320 0] ∧ judgeable (cur0 .test 320 0) = true ∧
    passes verdictS 7 (cur0 .test 320 0) = true ∧ bitOf (verdictS.g (R.WRS_STATUS_SUSPENDED 7)) 3 = 1 ∧ (verdictS.beam 7 3).suspAt = none ∧
    verdictS.on (R.WRS_STATUS_LINK_ACTIVE 7) = true ∧ (verdictS.beam 7 3).link = [] := by decide +kernel
def seqState (n : Nat) (st fl tl ly reg : Nat) : State := { s0 with regs := [(R.BRL_STN_SEQ_STATUS n, BitVec.ofNat 32 (st + 256 * fl + 512 * tl + 2 ^ 24 * ly)),
    (R.SPN_STATUS n, BitVec.ofNat 32 (reg * 2 ^ (R.SPN_STATUS_IN_REG n).lo)), (0x1E0000, 0#32)] }
theorem wit_SequencerRefusals_busy : (seqState 0 1 1 1 0 1).live = true ∧ (seqState 0 1 1 1 0 1).g (R.BRL_STN_SEQ_STATUS_STATE 0) = 1 ∧
    (seqState 7 0 1 1 0 0).on (R.SPN_STATUS_IN_REG 7) = false := by decide +kernel
theorem wit_SequencerRefusals_arg : (191#8).toInt < -64 ∧ 64 < (65#8).toInt ∧
    (seqState 7 0 0 0 0 1).on (R.BRL_STN_SEQ_STATUS_FLOCK 7) = false ∧ (seqState 7 0 0 0 0 1).on (R.BRL_STN_SEQ_STATUS_TLOCK 7) = false := by decide +kernel
theorem wit_SequencerRefusals_same : (seqState 7 10 1 1 15 1).live = true ∧ (seqState 7 10 1 1 15 1).g (R.BRL_STN_SEQ_STATUS_STATE 7) = 10 ∧
    (seqState 7 10 1 1 15 1).on (R.SPN_STATUS_IN_REG 7) = true ∧ (seqState 7 10 1 1 15 1).on (R.BRL_STN_SEQ_STATUS_FLOCK 7) = true ∧
    (seqState 7 10 1 1 15 1).g (R.BRL_STN_SEQ_STATUS_LAYER 7) = (15#8).toNat := by decide +kernel
theorem wit_SequencerCommandsRun : (seqState 7 0 1 1 3 1).live = true ∧ (seqState 7 0 1 1 3 1).g (R.BRL_STN_SEQ_STATUS_STATE 7) = 0 ∧
    (seqState 7 0 1 1 3 1).on (R.SPN_STATUS_IN_REG 7) = true ∧ (seqState 7 0 1 1 3 1).on (R.BRL_STN_SEQ_STATUS_FLOCK 7) = true ∧
    (seqState 7 0 1 1 3 1).on (R.BRL_STN_SEQ_STATUS_TLOCK 7) = true ∧ (seqState 7 0 1 1 3 1).g (R.WRS_STATUS_WRITING 7) = 0 ∧
    (seqState 7 0 1 1 3 1).g (R.BRL_STN_SEQ_STATUS_LAYER 7) = 3 ∧ (192#8).toInt = -64 ∧ (64#8).toInt = 64 ∧ (15#8).toNat < 16 := by decide +kernel
def lockState (n : Fin 8) (f t : Nat) (q : Seq → Seq) : State :=
  let s : State := { s0 with regs := [(R.BRL_SLOT_CFG 8, 0x81000000#32), (R.BRL_SLOT_CFG 9, 0x82000000#32),
    (R.BRL_STN_SEQ_STATUS n, BitVec.ofNat 32 (6 + 256 * f + 512 * t)), (0x1E0000, 0#32)] }
  ((s.loopU 8 (fun l => { l with drive := .closed })).loopU 9 (fun l => { l with drive := .closed })).seqU n q
theorem wit_ServoLocksAndHold_gain : (lockState 0 0 0 (fun q => { q with fGood := 64 })).live = true ∧
    loopClosed (lockState 0 0 0 (fun q => { q with fGood := 64 })) 0 tyFOCUS = true ∧
    ((lockState 0 0 0 (fun q => { q with fGood := 64 })).brl.seq[(0 : Fin 8)]).fGood = 64 ∧
    loopClosed (lockState 0 1 0 (fun q => { q with tGood := 64 })) 0 tyTRACK = true := by decide +kernel
theorem wit_ServoLocksAndHold_lose : (lockState 7 1 1 (fun q => { q with fBad := 16, tBad := 8, held := some 41 })).live = true ∧
    (lockState 7 1 1 (fun q => { q with fBad := 16, tBad := 8, held := some 41 })).on (R.BRL_STN_SEQ_STATUS_TLOCK 7) = true ∧
    ((lockState 7 1 1 (fun q => { q with fBad := 16, tBad := 8, held := some 41 })).brl.seq[(7 : Fin 8)]).held = some 41 ∧
    (lockState 7 1 1 id).g (R.BRL_STN_FOK_HOLD_MAX 7) = 40 := by decide +kernel
theorem wit_ServoLocksAndHold_mount : (s0.us [(R.STN_STATUS_STATE 7, stLOADING)]).g (R.STN_STATUS_STATE 7) = stLOADING ∧
    (s0.us [(R.STN_STATUS_STATE 7, stMOUNTING)]).g (R.STN_STATUS_STATE 7) = stMOUNTING := by decide +kernel
theorem wit_ServoLocksAndHold_quiet : (lockState 7 1 1 id).g (R.STN_STATUS_STATE 7) ≠ stACTIVE ∧
    (lockState 7 1 1 id).g (R.STN_STATUS_STATE 7) ≠ stMOUNTING ∧ ((lockState 7 1 1 id).stn[(7 : Fin 8)]).task = .none := by decide +kernel
theorem wit_ServoLocksAndHold_tick : dueSlots s0 s0.brl.tick = [] ∧ s0.on R.JSP_STATUS_ARMED = false := by decide +kernel
def stepState (n : Fin 8) (st now : Nat) (q : Seq → Seq) (d : Drive) : State :=
  let s : State := { s0 with regs := [(R.BRL_SLOT_CFG 8, BitVec.ofNat 32 (0x81000000 + n.val * 2 ^ 20)),
    (R.BRL_STN_SEQ_STATUS n, BitVec.ofNat 32 st), (R.QTZ_TIME_LO, BitVec.ofNat 32 now), (0x1E0000, 0#32)] }
  (s.loopU 8 (fun l => { l with drive := d })).seqU n q
theorem wit_SequenceSteps_wait : (stepState 0 1 0 (fun q => { q with cmd := 2 }) .parked).live = true ∧
    (stepState 0 1 0 (fun q => { q with cmd := 2 }) .parked).g (R.BRL_STN_SEQ_STATUS_STATE 0) = 1 ∧
    (stepState 0 1 0 (fun q => { q with cmd := 3 }) .parked).g (R.WRS_STATUS_WRITING 0) = 0 := by decide +kernel
theorem wit_SequenceSteps_sa : (stepState 7 2 600000 (fun q => { q with saTaken := true }) .parked).now = 600000 ∧
    (stepState 7 2 600000 (fun q => { q with saTaken := true }) .parked).g (R.BRL_STN_SEQ_STATUS_STATE 7) = 2 ∧
    100000 * (stepState 7 2 600000 (fun q => { q with saTaken := true }) .parked).g (R.BRL_STN_SEQT_SA_SETTLE 7) = 600000 ∧
    ((stepState 7 2 600000 (fun q => { q with saTaken := true }) .parked).brl.seq[(7 : Fin 8)]).since = 0 := by decide +kernel
theorem wit_SequenceSteps_kick : (stepState 7 7 30000 (fun q => { q with arg := -1, count := 4 }) .parked).g (R.BRL_STN_SEQ_STATUS_STATE 7) = 7 ∧
    ((stepState 7 7 30000 (fun q => { q with arg := -1, count := 4 }) .parked).brl.seq[(7 : Fin 8)]).sub = 0 ∧
    2500 * (stepState 7 7 30000 id .parked).g (R.BRL_STN_JUMP_KICK_T 7) = 30000 ∧ 4 + 3 < 8 * (-1 : Int).natAbs := by decide +kernel
theorem wit_SequenceSteps_sweep : slotFor (stepState 7 3 0 id (.ramp 0 1 5 5)) 7 tyFOCUS = some 8 ∧
    ((stepState 7 3 0 id (.ramp 0 1 5 5)).brl.loops[(8 : Fin 96)]).drive = .ramp 0 1 5 5 ∧
    (stepState 7 5 0 id .parked).g (R.BRL_STN_SEQ_STATUS_STATE 7) = 5 := by decide +kernel
theorem wit_SequenceSteps_timeout : (stepState 7 9 1000000 (fun q => { q with sub := 1 }) .parked).g (R.BRL_STN_SEQ_STATUS_STATE 7) = 9 ∧
    100000 * (stepState 7 9 1000000 id .parked).g (R.BRL_STN_SEQT_JUMP_TIMEOUT 7) = 1000000 := by decide +kernel
theorem wit_BerylSampleLaws : outMin s0 95 = -8388608 ∧ outMax s0 95 = 8388607 ∧ 0 ≤ s0.gi (R.BRL_BANK_ILIM_VALUE (bankOf s0 95) 95) * 128 ∧
    bitOf (s0.g (R.BRL_SLOT_CFG_BQ_EN 95)) 4 = 0 ∧ s0.on (R.SPN_STATUS_ANGLE_VALID 7) = false ∧ (s0.brl.loops[(95 : Fin 96)]).integ = 0 := by decide +kernel
def jspState (v : Word) : State := { s0 with regs := [(R.JSP_STATUS, v), (0x1E0000, 0#32)] }
theorem wit_JasperCapture : (jspState 3#32).live = true ∧ (jspState 3#32).on R.JSP_STATUS_ARMED = true ∧ (jspState 3#32).on R.JSP_STATUS_TRIGGERED = true ∧
    (jspState 3#32).jsp.left = 0 ∧ (jspState 1#32).on R.JSP_STATUS_TRIGGERED = false := by decide +kernel
def spnS (n : Fin 8) (st now : Nat) (l : List (FRef × Nat)) (f : Spn → Spn) : State :=
  let s := (s0.us ([(R.SPN_STATUS_STATE n, st)] ++ l)).u64 R.QTZ_TIME_LO now
  { s with spn := vmod s.spn n f }
theorem wit_SpindleStartAndCatch_measure : (spnS 0 1 20000000 [(R.SPN_BUS_CTRL_CHOP_EN, 1)] id).live = true ∧
    (spnS 0 1 20000000 [(R.SPN_BUS_CTRL_CHOP_EN, 1)] id).g (R.SPN_STATUS_STATE 0) = 1 ∧
    ((spnS 0 1 20000000 [] id).spn[(0 : Fin 8)]).since + 20000000 ≤ (spnS 0 1 20000000 [] id).now ∧
    (spnS 0 1 19999999 [] id).now < ((spnS 0 1 19999999 [] id).spn[(0 : Fin 8)]).since + 20000000 ∧
    chopUsable (spnS 0 1 20000000 [(R.SPN_BUS_CTRL_CHOP_EN, 1)] id) = true := by decide +kernel
def emfS (e old : Rat × Rat) : State := { (s0.us [(R.SPN_FLUX_KE 0, 51200)]) with spn := vmod s0.spn 0 (fun x => { x with emf := e, emfOld := old }) }
theorem wit_SpindleStartAndCatch_rest : ((sat24 (emfSpeed s0 0)).natAbs : Int) < rpm 60 := by decide +kernel
theorem wit_SpindleStartAndCatch_forward : sat24 (emfSpeed (emfS (384 / 125, 0) (0, 0)) 0) = rpm 60 ∧ rpm 60 < rpm (s0.g (R.SPN_SPEEDS_IF_SPEED 0)) ∧
    rpm (s0.g (R.SPN_SPEEDS_IF_SPEED 0)) ≤ sat24 (emfSpeed (emfS (0, 838) (0, 0)) 0) := by decide +kernel
theorem wit_SpindleStartAndCatch_backward : sat24 (emfSpeed (emfS (384 / 125, 0) (0, 1)) 0) = -(rpm 60) ∧ rpm 60 < rpm (s0.g (R.SPN_OBS_OBS_MIN 0)) ∧
    sat24 (emfSpeed (emfS (768 / 25, 0) (0, 1)) 0) = -(rpm 600) ∧ rpm (s0.g (R.SPN_OBS_OBS_MIN 0)) ≤ rpm 599 ∧
    sat24 (emfSpeed (emfS (30, 0) (0, 1)) 0) = -300000 ∧ (300000 : Int) < rpm 600 ∧ rpm (s0.g (R.SPN_OBS_OBS_MIN 0)) ≤ 300000 := by decide +kernel
theorem wit_SpindleStartAndCatch_steps :
    ((spnS 7 2 500000000 [] id).spn[(7 : Fin 8)]).since + 5000000 * (spnS 7 2 500000000 [] id).g (R.SPN_START_ALIGN_T 7) ≤ (spnS 7 2 500000000 [] id).now ∧
    5000000 * (spnS 7 3 500000000 [] id).g (R.SPN_START_IF_T 7) ≤ (spnS 7 3 500000000 [] id).now ∧
    ((spnS 7 3 500000000 [] (fun x => { x with waitObs := true, tries := 1 })).spn[(7 : Fin 8)]).tries < 2 ∧
    5000000 * (spnS 7 3 500000000 [] id).g (R.SPN_START_OBS_T 7) ≤ (spnS 7 3 500000000 [] id).now ∧
    (spnS 7 11 200000000 [] id).g (R.SPN_STATUS_STATE 7) = 11 := by decide +kernel
theorem wit_SpindleBrakingAndFaults : (spnS 7 7 0 [(R.SPN_SPEED_SPEED 7, 1)] id).live = true ∧
    (((spnS 7 7 0 [(R.SPN_SPEED_SPEED 7, 1)] id).gi (R.SPN_SPEED_SPEED 7)).natAbs : Int) ≤ rpm ((spnS 7 7 0 [] id).g (R.SPN_SPEEDS_SHORT_SPEED 7)) ∧
    ¬ ((((spnS 7 7 0 [(R.SPN_SPEED_SPEED 7, 0x384000)] id).gi (R.SPN_SPEED_SPEED 7)).natAbs : Int) ≤ rpm ((spnS 7 7 0 [] id).g (R.SPN_SPEEDS_SHORT_SPEED 7))) ∧
    5000000 * (spnS 7 8 100000000 [] id).g (R.SPN_START_SHORT_T 7) ≤ (spnS 7 8 100000000 [] id).now := by decide +kernel
theorem wit_SpindleBrakingAndFaults_trip : (((0 : Int).natAbs : Int) < cur24 (s0.g (R.SPN_LIMIT_I_TRIP 0))) ∧
    cur24 (s0.g (R.SPN_LIMIT_I_TRIP 0)) ≤ (((-8388608 : Int).natAbs) : Int) := by decide +kernel
theorem wit_SpindleBrakingAndFaults_observer : (spnS 0 4 0 [(R.SPN_STATUS_ANGLE_VALID 0, 1)] id).on (R.SPN_STATUS_ANGLE_VALID 0) = true ∧
    -((8 * rpm (s0.g (R.SPN_OBS_OBS_MIN 0)) : Int) : Rat) < 10 * ((spnS 0 4 0 [] id).spn[(0 : Fin 8)]).obsSpeed ∧
    10 * ((spnS 0 4 0 [] id).spn[(0 : Fin 8)]).obsSpeed < ((8 * rpm (s0.g (R.SPN_OBS_OBS_MIN 0)) : Int) : Rat) ∧
    ((spnS 0 4 0 [] id).spn[(0 : Fin 8)]).losses = [] := by decide +kernel
theorem wit_SpindleAngleAndSpeed_pwm : (spnS 7 4 0 [] id).live = true ∧ ((spnS 7 4 0 [] id).spn[(7 : Fin 8)]).bridge = false ∧
    (spnS 7 4 0 [] id).on (R.SPN_STATUS_ANGLE_VALID 7) = false ∧ (spnS 7 4 0 [(R.SPN_STATUS_ANGLE_VALID 7, 1), (R.SPN_SPEED_SPEED 7, 512)] id).on (R.SPN_STATUS_ANGLE_VALID 7) = true ∧
    0 < ((spnS 7 4 0 [] (fun x => { x with obsSpeed := 512 })).spn[(7 : Fin 8)]).obsSpeed := by decide +kernel
theorem wit_SpindleAngleAndSpeed_brakes : (spnS 7 5 0 [(R.SPN_BUS_CTRL_CHOP_EN, 0)] id).g (R.SPN_STATUS_STATE 7) = 5 ∧
    chopUsable (spnS 7 5 0 [(R.SPN_BUS_CTRL_CHOP_EN, 0)] id) = false ∧ chopUsable (spnS 7 6 0 [(R.SPN_BUS_CTRL_CHOP_EN, 1)] id) = true ∧
    ((spnS 7 6 0 [] id).spn[(7 : Fin 8)]).lossTo600 = false ∧ ((spnS 7 3 0 [] (fun x => { x with waitObs := true })).spn[(7 : Fin 8)]).waitObs = true := by decide +kernel
theorem wit_SpindleAngleAndSpeed_observer :
    let s := spnS 7 0 0 [] id
    let s := ((voltageOf s 7).2.2.quantR (elecTurn (voltageOf s 7).2.2 7 0 50000)).2
    ((observe s 7 (phaseVolts s 7 #v[0, 0, 0] 2400 0 1000 (-1000)) (clarke s 7 (phaseAmps s 7 0) (phaseAmps s 7 0) (phaseAmps s 7 0))).spn[(7 : Fin 8)]).obsSpeed = 0 := by
  decide +kernel
theorem wit_SpindleAngleAndSpeed_times : ((spnS 0 4 10000000 [] (fun x => { x with errLow := some 8000000, inBand := some 0, offBand := some 9000000 })).spn[(0 : Fin 8)]).errLow = some 8000000 ∧
    turnsAt (spnS 0 4 10000000 [] (fun x => { x with obsSpeed := -(rpm 1800 : Int) })) 0 (rpm (s0.g (R.SPN_OBS_OBS_MIN 0))) = true ∧
    ((spnS 0 4 10000000 [] id).stn[(0 : Fin 8)]).task = .none ∧
    0 + 10000000 ≤ (spnS 0 4 10000000 [] id).now ∧ 9000000 + 1000000 ≤ (spnS 0 4 10000000 [] id).now ∧ (spnS 0 4 9999999 [] id).now < 0 + 10000000 ∧
    (spnS 0 4 10000000 [] id).g (R.SPN_STATUS_STATE 0) = 4 := by decide +kernel
theorem wit_MotorBusUnit_sample : s0.live = true ∧ chopControlled (s0.us [(R.SPN_BUS_CTRL_CHOP_EN, 1)]) = true ∧
    s0.bus.chopOn + 20000 ≤ (s0.u64 R.QTZ_TIME_LO 20000).now ∧
    s0.on R.SPN_BUS_STATUS_REGEN_LIMIT = false := by decide +kernel
theorem wit_MotorBusUnit_chop : (s0.us [(R.SPN_BUS_STATUS_CHOP_ON, 1)]).on R.SPN_BUS_STATUS_CHOP_ON = true ∧
    s0.on R.SPN_BUS_STATUS_CHOP_ON = false ∧ s0.on R.SPN_BUS_STATUS_CHOP_FAULT = false ∧ s0.bus.drawn = false ∧
    0 + 20000 ≤ (s0.u64 R.QTZ_TIME_LO 20000).now ∧ (5 + 50 < 56) ∧ ([((0 : Nat), (5 : Nat)), (1000000, 56)].head? = some (0, 5)) ∧
    chopFails s0 1 = false := by decide +kernel
theorem wit_MotorBusUnit_trip : (s0.us [(R.SPN_BUS_STATUS_TRIPPED, 1), (R.SPN_BUS_CTRL_TRIP_RESTART, 0)]).on R.SPN_BUS_STATUS_TRIPPED = true ∧
    s0.on R.SPN_BUS_STATUS_TRIPPED = false ∧ (s0.us [(R.SPN_BUS_CTRL_TRIP_RESTART, 0)]).on R.SPN_BUS_CTRL_TRIP_RESTART = false ∧
    (s0.u64 R.QTZ_TIME_LO 10000000).now = 0 + 10000000 ∧ (s0.spn[(7 : Fin 8)]).bridge = false ∧
    (s0.us [(R.SPN_STATUS_STATE 7, 9)]).g (R.SPN_STATUS_STATE 7) = 9 := by decide +kernel
def sldS (n : Fin 8) (st now : Nat) (l : List (FRef × Nat)) (f : Sld → Sld) : State :=
  let s := (s0.us ([(R.SLD_STATUS_STATE n, st)] ++ l)).u64 R.QTZ_TIME_LO now
  { s with sld := vmod s.sld n f }
theorem wit_SledCommandsRefused : (sldS 7 8 0 [(R.SLD_STATUS_FAULT_CAUSE 7, 1)] id).live = true ∧
    (sldS 7 8 0 [(R.SLD_STATUS_FAULT_CAUSE 7, 1)] id).g (R.SLD_STATUS_STATE 7) = 8 ∧
    (sldS 7 8 0 [(R.SLD_STATUS_FAULT_CAUSE 7, 1)] id).g (R.SLD_STATUS_FAULT_CAUSE 7) ≠ 0 ∧
    targetOk (sldS 7 2 0 [(R.SLD_MOVE_TARGET_POS 7, 0x7FFFFF)] id) 7 ((sldS 7 2 0 [(R.SLD_MOVE_TARGET_POS 7, 0x7FFFFF)] id).gi (R.SLD_MOVE_TARGET_POS 7)) = false ∧
    s0.on (R.SPN_STATUS_ANGLE_VALID 7) = false ∧ (s0.us [(R.SPN_BUS_STATUS_TRIPPED, 1)]).on R.SPN_BUS_STATUS_TRIPPED = true ∧
    gearBlocked (sldS 7 2 0 [(R.SLD_STATUS_END 7, 1), (R.SLD_GEAR_RATIO_RATIO 7, 5)] id) 7 5 = true := by decide +kernel
theorem wit_SledCommandsRefused_gear : 0 < (sldS 7 7 0 [(R.SLD_GEAR_ACTIVE_RATIO 7, 229064922)] id).gi (R.SLD_GEAR_ACTIVE_RATIO 7) ∧
    (sldS 7 7 0 [(R.SLD_GEAR_ACTIVE_RATIO 7, 229064922)] id).gi (R.SLD_GEAR_CHANGE_POS 7) * q40 ≤ ((sldS 7 7 0 [] id).sld[(7 : Fin 8)]).geared ∧
    (sldS 7 7 0 [(R.SLD_GEAR_ACTIVE_RATIO 7, 0xF258BF26)] id).gi (R.SLD_GEAR_ACTIVE_RATIO 7) < 0 := by decide +kernel
theorem wit_SledCommandsRun_move : (sldS 7 2 5 [] id).live = true ∧ targetOk (sldS 7 2 5 [(R.SLD_MOVE_TARGET_POS 7, 100000)] id) 7 ((sldS 7 2 5 [(R.SLD_MOVE_TARGET_POS 7, 100000)] id).gi (R.SLD_MOVE_TARGET_POS 7)) = true ∧
    (sldS 7 2 5 [] id).g64 (R.SLD_START_TIME_LO 7) < (sldS 7 2 5 [] id).stamp (stationDomain 7) ∧ (sldS 7 2 0 [] id).stamp (stationDomain 7) ≤ (sldS 7 2 0 [] id).g64 (R.SLD_START_TIME_LO 7) ∧
    ((sldS 7 3 5 [] (fun x => { x with vel := 1 })).sld[(7 : Fin 8)]).vel ≠ 0 := by decide +kernel
theorem wit_SledCommandsRun_gear : (sldS 0 7 0 [(R.SLD_GEAR_ACTIVE_RATIO 0, 229064922), (R.SLD_GEAR_CHANGE_POS 0, 1)] id).g (R.SLD_STATUS_STATE 0) = 7 ∧
    0 < (sldS 0 7 0 [(R.SLD_GEAR_ACTIVE_RATIO 0, 229064922)] id).gi (R.SLD_GEAR_ACTIVE_RATIO 0) ∧
    ((sldS 0 7 0 [] id).sld[(0 : Fin 8)]).geared < (sldS 0 7 0 [(R.SLD_GEAR_CHANGE_POS 0, 1)] id).gi (R.SLD_GEAR_CHANGE_POS 0) * q40 ∧
    (sldS 0 2 0 [(R.SPN_STATUS_ANGLE_VALID 0, 1)] id).on (R.SPN_STATUS_ANGLE_VALID 0) = true ∧
    gearBlocked (sldS 0 2 0 [(R.SLD_GEAR_RATIO_RATIO 0, 5)] id) 0 5 = false ∧ s0.on R.SPN_BUS_STATUS_TRIPPED = false := by decide +kernel
theorem wit_SledCommandsRun_armed : (sldS 0 4 5 [] id).g64 (R.SLD_START_TIME_LO 0) ≤ (sldS 0 4 5 [] id).stamp (stationDomain 0) ∧
    (sldS 0 4 0 [(R.SLD_START_TIME_LO_TIME 0, 1)] id).stamp (stationDomain 0) < (sldS 0 4 0 [(R.SLD_START_TIME_LO_TIME 0, 1)] id).g64 (R.SLD_START_TIME_LO 0) ∧
    targetOk (sldS 0 4 5 [] id) 0 100000 = true ∧ targetOk (sldS 0 4 5 [] (fun x => { x with target := 8000000 })) 0 8000000 = false := by decide +kernel
def moveS : State := sldS 7 3 0 [] (fun x => { x with target := 1000, vel := 100 })
theorem wit_SledProfileNeverPasses : moveS.live = true ∧ 0 < moveS.g (R.SLD_ACCEL_DECEL 7) ∧ moveS.g (R.SLD_STATUS_STATE 7) = 3 ∧
    (moveS.sld[(7 : Fin 8)]).halt = false ∧ (moveS.sld[(7 : Fin 8)]).nextTarget = none ∧ (moveS.sld[(7 : Fin 8)]).limit = none ∧
    (moveS.sld[(7 : Fin 8)]).fresh = false ∧
    ((sldS 7 5 0 [] (fun x => { x with limit := some (2, 7) })).sld[(7 : Fin 8)]).limit = some (2, 7) ∧
    ((sldS 7 3 0 [] (fun x => { x with fresh := true })).sld[(7 : Fin 8)]).fresh = true ∧
    (moveS.sld[(7 : Fin 8)]).pos ≤ ((moveS.sld[(7 : Fin 8)]).target : Rat) := by decide +kernel
theorem wit_SledProfileNeverPasses_halt : ((sldS 0 3 0 [(R.SLD_STATUS_REFERENCED 0, 1)] (fun x => { x with halt := true })).sld[(0 : Fin 8)]).halt = true ∧
    (sldS 0 3 0 [(R.SLD_STATUS_REFERENCED 0, 1)] (fun x => { x with halt := true })).on (R.SLD_STATUS_REFERENCED 0) = true := by decide +kernel
theorem wit_SledUpdatesAndSwitches_gear : (sldS 7 7 0 [] id).live = true ∧ (sldS 7 7 0 [] id).g (R.SLD_STATUS_STATE 7) = 7 ∧
    (sldS 7 7 0 [] id).on (R.SLD_STATUS_CHANGE_ARMED 7) = false ∧ (sldS 7 7 0 [] id).on (R.SPN_STATUS_ANGLE_VALID 7) = false ∧
    20 ≤ ((sldS 7 3 0 [] (fun x => { x with subs := 19 })).sld[(7 : Fin 8)]).subs + 1 := by decide +kernel
theorem wit_SledUpdatesAndSwitches_rest : (sldS 0 2 9999999999 [] id).g (R.SLD_STATUS_STATE 0) = 2 ∧
    ((sldS 0 2 9999999999 [] id).sld[(0 : Fin 8)]).restFrom + 10000000 * (sldS 0 2 9999999999 [] id).g (R.SLD_CURPI_HOLD_DELAY 0) ≤ (sldS 0 2 9999999999 [] id).now ∧
    (32767 : Int).natAbs < 32768 ∧ 32768 ≤ (-32768 : Int).natAbs := by decide +kernel
theorem wit_SledUpdatesAndSwitches_switch : bitOf ((sldS 0 3 0 [(R.SLD_SWITCH_EN 0, 3), (R.SLD_SWITCH_LIMIT_STOP 0, 1)] (fun x => { x with vel := 1 })).g (R.SLD_SWITCH_EN 0)) 1 = 1 ∧
    (sldS 0 3 0 [(R.SLD_SWITCH_EN 0, 3), (R.SLD_SWITCH_LIMIT_STOP 0, 1)] id).on (R.SLD_SWITCH_LIMIT_STOP 0) = true ∧
    (sldS 0 3 0 [] id).on (R.SLD_STATUS_END 0) = false ∧ qualTime (sldS 0 3 0 [(R.SLD_SWITCH_QUAL 0, 10)] id) 0 ≤ 1000000 ∧
    ¬ bitOf ((sldS 0 3 0 [] id).g (R.SLD_SWITCH_POL 0)) 1 = 1 ∧ 0 < ((sldS 0 3 0 [] (fun x => { x with vel := 1 })).sld[(0 : Fin 8)]).vel := by decide +kernel
theorem wit_StationOrdersAnswered : (actS 7 [(R.STN_OWNER_PF 7, 1)]).live = true ∧ isOwner (actS 7 [(R.STN_OWNER_PF 7, 1)]) 7 .pf = true ∧
    isOwner (actS 7 [(R.STN_OWNER_RING 7, 0)]) 7 .ring = false ∧
    orderBeats (actS 7 [(R.STN_OWNER_PF 7, 1)]) 7 ⟨.pf, 2, true⟩ .pf 3 = true ∧
    (orderEffect (actS 7 []) 7 3 false []).isSome = true ∧ (orderEffect (actS 7 []) 7 4 false []).isNone = true := by decide +kernel
theorem wit_StationOrderEffects : hasWork (actS 7 []) 7 = false ∧ (actS 7 []).g (R.STN_STATUS_STATE 7) = 3 ∧ (actS 7 []).g (R.WRS_STATUS_WRITING 7) = 0 ∧
    ((actS 7 []).cal[(7 : Fin 8)]).run = none ∧ hasWork encS 7 = true ∧ (actS 7 [(R.WRS_STATUS_WRITING 7, 8)]).g (R.WRS_STATUS_WRITING 7) ≠ 0 := by decide +kernel
theorem wit_StationOrderEffects_states : (s0.us [(R.STN_STATUS_STATE 0, 6)]).g (R.STN_STATUS_STATE 0) = 6 ∧
    (s0.us [(R.STN_STATUS_STATE 0, 9)]).g (R.STN_STATUS_STATE 0) = 9 ∧ s0.on (R.STN_STATUS_DISC_PRESENT 0) = false ∧
    (s0.us [(R.STN_STATUS_STATE 0, 0), (R.STN_STATUS_DISC_PRESENT 0, 1)]).on (R.STN_STATUS_DISC_PRESENT 0) = true ∧
    (s0.us [(R.STN_STATUS_STATE 0, 8)]).g (R.STN_STATUS_STATE 0) = 8 ∧ (s0.us [(R.STN_STATUS_STATE 0, 4)]).g (R.STN_STATUS_STATE 0) = 4 ∧
    s0.g (R.SPN_STATUS_STATE 0) = 0 ∧ (s0.stn[(0 : Fin 8)]).task ≠ .wake ∧ hasWork (s0.us [(R.STN_STATUS_STATE 0, 4)]) 0 = false ∧
    s0.g (R.SLD_STATUS_STATE 0) ≠ 8 ∧ s0.g (R.WRS_STATUS_SUSPENDED 0) ≠ 15 ∧ s0.on (R.SLD_STATUS_REFERENCED 0) = false ∧
    targetOk s0 0 (s0.g (R.STN_MOUNT_MOUNT_POS 0)) = true ∧ (s0.us [(R.SPN_STATUS_STATE 0, 10)]).g (R.SPN_STATUS_STATE 0) = 10 ∧
    (s0.us [(R.SLD_STATUS_STATE 0, 8)]).g (R.SLD_STATUS_STATE 0) = 8 := by decide +kernel
theorem wit_StationMountSteps_present : s0.live = true ∧ (s0.us [(R.STN_CFG_AUTO_MOUNT 7, 0)]).on (R.STN_CFG_AUTO_MOUNT 7) = false ∧
    s0.on (R.STN_STATUS_DISC_PRESENT 7) = false ∧ (s0.us [(R.STN_STATUS_DISC_PRESENT 7, 1), (R.STN_STATUS_STATE 7, 7)]).on (R.STN_STATUS_DISC_PRESENT 7) = true ∧
    (s0.stn[(7 : Fin 8)]).resetAt ≠ some s0.now ∧ s0.g (R.STN_STATUS_STATE 7) = 0 ∧ s0.on (R.STN_CFG_AUTO_MOUNT 7) = true ∧
    ({ s0 with sys := { s0.sys with sysInit := true } } : State).sys.sysInit = true ∧ (actS 7 [(R.STN_STATUS_DISC_PRESENT 7, 1)]).g (R.STN_STATUS_STATE 7) = 3 := by decide +kernel
def loadS : State := sldS 7 2 0 [(R.STN_STATUS_STATE 7, 1), (R.SPN_STATUS_IN_REG 7, 1), (R.SLD_STATUS_REFERENCED 7, 1)] (fun x => { x with pos := 51166 })
theorem wit_StationMountSteps_loading : loadS.live = true ∧ loadS.on (R.SPN_STATUS_IN_REG 7) = true ∧ loadS.g (R.SLD_STATUS_STATE 7) = 2 ∧
    (loadS.sld[(7 : Fin 8)]).pos = ((loadS.g (R.STN_MOUNT_MOUNT_POS 7) : Nat) : Rat) ∧ loadS.g (R.BRL_STN_SEQ_STATUS_STATE 7) = 10 := by decide +kernel
def mountS (ph : Nat) : State := (s0.us [(R.STN_STATUS_STATE 0, 2), (R.STN_STATUS_MOUNT_PHASE 0, ph), (R.BRL_STN_SEQ_STATUS_STATE 0, 0), (R.BRL_STN_SEQ_STATUS_FLOCK 0, 1),
  (R.BRL_STN_SEQ_STATUS_TLOCK 0, 1)]).u64 R.QTZ_TIME_LO 50000000
theorem wit_StationMountSteps_steps : (mountS 7).live = true ∧ ((mountS 7).stn[(0 : Fin 8)]).task = .none ∧ seqFailedNow (mountS 7) 0 = false ∧
    onTrack (mountS 7) 0 = true ∧ (mountS 7).g (R.SLD_STATUS_STATE 0) ≠ 7 ∧ (mountS 7).g (R.SLD_STATUS_STATE 0) ≠ 2 ∧
    ((mountS 7).us [(R.SLD_STATUS_STATE 0, 7)]).g (R.SLD_STATUS_STATE 0) = 7 ∧
    blocked ((mountS 7).us [(R.SLD_STATUS_STATE 0, 2), (R.SPN_STATUS_ANGLE_VALID 0, 1), (R.SLD_STATUS_END 0, 1), (R.SLD_STATUS_HOME 0, 1)]) 0
      (decide (workLayer (mountS 7) 0 % 2 = 0)) = true ∧ blocked (mountS 7) 0 (decide (workLayer (mountS 7) 0 % 2 = 0)) = false ∧ ((mountS 7).cal[(0 : Fin 8)]).pend = [] ∧ (mountS 3).g (R.STN_STATUS_MOUNT_PHASE 0) = 3 ∧ acceptedB0 (mountS 3) 0 = none ∧
    ((mountS 3).stn[(0 : Fin 8)]).since + 50000000 ≤ (mountS 3).now ∧ s0.now < (s0.stn[(0 : Fin 8)]).since + 50000000 ∧
    ((mountS 3).stn[(0 : Fin 8)]).tryLayer = 0 ∧ ((mountS 3).stn[(0 : Fin 8)]).homed = false := by decide +kernel
def idleS2 (n : Fin 8) (st : Nat) (now : Nat) : State := (actS n [(R.STN_STATUS_STATE n, st)]).u64 R.QTZ_TIME_LO now
theorem wit_StationIdleAndWork : (idleS2 7 3 99999000000000).live = true ∧ (idleS2 7 3 0).g (R.STN_IDLE_T_SPIN 7) ≠ 0 ∧ (idleS2 7 3 0).g (R.STN_IDLE_T_PARK 7) ≠ 0 ∧
    ((idleS2 7 3 99999000000000).stn[(7 : Fin 8)]).idleFrom + (idleS2 7 3 0).g (R.STN_IDLE_T_SPIN 7) * 1000000000 ≤ (idleS2 7 3 99999000000000).now ∧
    ((idleS2 7 4 99999000000000).stn[(7 : Fin 8)]).idleFrom + (idleS2 7 4 0).g (R.STN_IDLE_T_PARK 7) * 1000000000 ≤ (idleS2 7 4 99999000000000).now ∧
    (idleS2 7 3 0).now < ((idleS2 7 3 0).stn[(7 : Fin 8)]).idleFrom + (idleS2 7 3 0).g (R.STN_IDLE_T_SPIN 7) * 1000000000 ∧
    hasWork (idleS2 7 3 0) 7 = false ∧ hasWork encS 7 = true ∧ hasWork (encS.u (R.STN_STATUS_STATE 7) 4) 7 = true ∧
    ((encS.u (R.STN_STATUS_STATE 7) 4).stn[(7 : Fin 8)]).task = .none := by decide +kernel
theorem wit_StationIdleAndWork_stop : (idleS2 0 4 0).g (R.SPN_STATUS_STATE 0) = 0 ∧ (s0.us [(R.SPN_STATUS_STATE 0, 4)]).g (R.SPN_STATUS_STATE 0) ≠ 0 ∧
    (((idleS2 0 4 0).stnU 0 (fun x => { x with task := .toPark })).stn[(0 : Fin 8)]).task = .toPark ∧
    ((idleS2 0 6 0).stn[(0 : Fin 8)]).retire = false := by decide +kernel
theorem wit_CalibrationFiguresAndTriggers : s0.live = true ∧ s0.g (R.OPL_MODE_MODE 67) = 0 ∧ (s0.us [(R.OPL_MODE_MODE 67, 2)]).g (R.OPL_MODE_MODE 67) ≠ 0 ∧
    32 < ((s0.laneU 67 (fun x => { x with erased := 33 })).lanes[(67 : Fin 68)]).erased ∧
    (s0.us [(R.CAL_CTRL_TEMP_EN, 0), (R.CAL_CTRL_INTERVAL_EN, 0)]).on R.CAL_CTRL_TEMP_EN = false ∧
    (s0.us [(R.CAL_CTRL_TEMP_EN, 0), (R.CAL_CTRL_INTERVAL_EN, 0)]).on R.CAL_CTRL_INTERVAL_EN = false ∧
    (∀ n m, laneBeam s0 0 ≠ some (n, m, true)) ∧ ((s0.laneU 0 (fun x => { x with halves := 3, marginSum := 6 })).lanes[(0 : Fin 68)]).marginSum % 3 = 0 ∧
    (s0.us [(R.CAL_SET0_VALID 7 0 7, 1), (⟨R.QTZ_TIME_HI, 0, 32⟩, 60000000)]).on (R.CAL_SET0_VALID (7 : Fin 8) (workLayer s0 7) (7 : Fin 8)) = true ∧
    60 * s0.g R.CAL_TRIG_INTERVAL ≤ (s0.us [(⟨R.QTZ_TIME_HI, 0, 32⟩, 60000000)]).now / 1000000000 % 2 ^ 32 ∧
    ((s0.calU 3 (fun c => { c with badReads := 2 })).cal[(3 : Fin 8)]).badReads = 2 ∧ (s0.cal[(4 : Fin 8)]).badReads < 2 ∧
    s0.g (R.STN_STATUS_STATE 0) = 0 ∧ (actS 7 []).g (R.STN_STATUS_STATE 7) = 3 ∧ ((actS 7 []).cal[(7 : Fin 8)]).run = none := by decide +kernel
def calRun0 (k : Nat) : CalRun := ⟨0, false, k, false, 0#32, 0#32, 0, 0, 0, Vector.replicate 4 0, 0, 0, 0, [], 15, 0, 0⟩
def calS (k : Nat) : State := (actS 7 [(R.BRL_STN_SEQ_STATUS_STATE 7, 0), (R.BRL_STN_SEQ_STATUS_FLOCK 7, 1), (R.BRL_STN_SEQ_STATUS_TLOCK 7, 1),
  (R.SLD_STATUS_STATE 7, 2)]).calU 7 (fun c => { c with run := some (calRun0 k) })
def calP : State := (calS 0).calU 7 (fun c => { c with run := none, pend := [⟨0, 0, true⟩] })
def calFull : State := calP.calU 7 (fun c => { c with tests := [(0, 100000), (4, 100000)] })
theorem wit_CalibrationRuns_full : calReady calFull 7 = some ⟨0, 0, true⟩ ∧ [true, false].all (fun o => !(writingBeams calFull 7).all (fun m =>
    decide ((smGet (calFull.cal[(7 : Fin 8)]).tests (8 * 0 + 4 * b2n o + m.val)).getD 0 + 5 ≤ zoneSlots (if o then 3 else 1)))) = true := by decide +kernel
theorem wit_CalibrationRuns : (calS 1).live = true ∧ ((calS 19).cal[(7 : Fin 8)]).run = some (calRun0 19) ∧ testsDone (calS 1) 7 = true ∧
    onTrack (calS 1) 7 = true ∧ (calS 19).g (R.SLD_STATUS_STATE 7) = 2 ∧ calReady s0 7 = none ∧ calReady calP 7 = some ⟨0, 0, true⟩ ∧
    (writingBeams calP 7).all (fun m => (smGet (calP.cal[(7 : Fin 8)]).tests (8 * 0 + 4 * b2n true + m.val)).getD 0 + 5 ≤ zoneSlots (if true then 3 else 1)) = true ∧
    (actS 7 [(R.WRS_STATUS_WRITING 7, 1)]).g (R.WRS_STATUS_WRITING 7) ≠ 0 ∧ onTrack (actS 7 []) 7 = false := by decide +kernel
def bufS (c : Fin 4) (f : Buf → Buf) : State :=
  { s0 with buf := f { s0.buf with train := vmod (Vector.replicate 4 .trained) c (fun _ => .none), fits := vmod (Vector.replicate 4 (some ⟨3, 2, true⟩)) c (fun _ => none) } }
theorem wit_BufferTraining : (bufS 3 id).live = true ∧ (bufS 3 id).sys.ready = true ∧ (bufS 3 id).buf.train[(3 : Fin 4)] = .none ∧
    (∀ d : Fin 4, d ≠ 3 → (bufS 3 id).buf.train[d] = .trained) ∧ (∀ d : Fin 4, d ≠ 3 → (bufS 3 id).buf.fits[d] = some ⟨3, 2, true⟩) ∧
    fitOk ⟨3, 2, true⟩ = true ∧ fittedGiB ⟨3, 2, true⟩ = 128 ∧ (bufS 3 id).buf.attempts[(3 : Fin 4)] < 2 ∧
    (bufS 3 (fun b => { b with attempts := Vector.replicate 4 2 })).buf.attempts[(3 : Fin 4)] = 2 ∧
    s0.buf.train[(0 : Fin 4)] ≠ .trained ∧ s0.sys.sysInit = true ∧ s0.g R.BUF_STATUS_TRAIN_FAIL = 0 ∧ s0.on R.BUF_STATUS_INIT_DONE = false := by decide +kernel
theorem wit_BufferTraining_notReady : ({ s0 with sys := ⟨.no, false, false, 0, 0, false⟩ }).sys.ready = false := rfl
def scrubS : State := s0.us [(R.BUF_SCRUB_EN, 1), (R.BUF_STATUS_INIT_DONE, 1), (R.BUF_CONFIG_FITTED, 128), (R.BUF_SCRUB_POS_ADDR, 2147483631)]
theorem wit_PatrolScrubber : scrubS.live = true ∧ scrubS.on R.BUF_SCRUB_EN = true ∧ scrubS.on R.BUF_STATUS_INIT_DONE = true ∧
    scrubS.g R.BUF_CONFIG_FITTED * 2 ^ 24 ≤ scrubS.g R.BUF_SCRUB_POS_ADDR + 17 ∧ holdsData (2147483631 + 1) = false ∧ dramPlace 2147483631 = .pool 29097983 ∧
    scrubSkips scrubS (.pool 29097983) = false ∧ smGet scrubS.buf.pages 29097983 = none ∧
    (smGet scrubS.buf.ceCounts (4 * 29097983)).getD 0 + 1 < scrubS.g R.BUF_RETIRE_ADV_CE_THRESH ∧ s0.on R.BUF_STATUS_INIT_DONE = false ∧
    (4 * 29097983 + 0 ∉ scrubS.buf.advised) ∧ scrubSkips { scrubS with buf := { scrubS.buf with retired := [(0, 29097983)] } } (.pool 29097983) = true ∧
    dramPlace 111 = .system 2 0 ∧ holdsData 112 = false ∧ s0.g R.BUF_SCRUB_POS_ADDR = 0 ∧ scrubSkips scrubS (.system 2 0) = false := by decide +kernel
def mapM (rw : Bool) : Mem := ⟨1, 6, .verified, mkPca 2 1 0 5000, 9, rw, 15, 77⟩
def mapT : Stripe := { stripe0 true 7 none with serial := 21, mems := [mapM false], data := [] }
def mapDisc : Entry := .disc ⟨77, Vector.replicate 4 0⟩
def mapRun : Entry := .run ⟨6, 15, 0, 0, 20, 1, mkPca 2 0 0 5000, 3⟩
def mapS (l : List (Nat × Entry)) : State := { s0 with grn := { s0.grn with entries := l }, tpz := { s0.tpz with stripes := [mapT] } }
theorem wit_StripesMapInSerialOrder : (mapS [(0, mapDisc)]).live = true ∧ mappable s0 = none ∧ mappable (mapS [(0, mapDisc)]) = some mapT ∧
    discIndex (mapS [(0, mapDisc)]) (mapM true).disc = some 0 ∧ runs (mapS [(0, mapDisc)]) = [] ∧
    runs (mapS [(0, mapDisc), (1, mapRun)]) = [(1, ⟨6, 15, 0, 0, 20, 1, mkPca 2 0 0 5000, 3⟩)] ∧
    (mapS [(0, mapDisc)]).pcx.hold = none ∧ (mapS [(0, mapDisc)]).pcx.posted = [] ∧ mirroring (mapS [(0, mapDisc)]) = false ∧
    mapFull (mapS [(0, mapDisc)]) = false ∧ runNext ⟨6, 15, 0, 0, 20, 1, mkPca 2 0 0 5000, 3⟩ = (mapM false).pca ∧ serial48 21 = 21 ∧
    members (mapS [(2, .member ⟨true, 3, 6, 0, 0, 21, 4, 5⟩)]) = [(2, ⟨true, 3, 6, 0, 0, 21, 4, 5⟩)] ∧
    (mapS [(2, .logical ⟨true, 3, 0, 0, false, 0, 9, 100, 16, 0, 0, 0⟩)]).grn.entries.length + 2 * mapT.mems.length ≤ mapSize ∧
    selectLogical (mapS [(2, .logical ⟨true, 3, 0, 0, false, 0, 9, 100, 16, 0, 0, 0⟩)]) [7] 3 115 9 =
      some (2, ⟨true, 3, 0, 0, false, 0, 9, 100, 16, 0, 0, 0⟩) := by decide +kernel
def onxS (l : List OnxMiss) (op : Option OnxOp) : State := { s0 with onx := { s0.onx with misses := l, op := op, ways := [⟨0, 3, 4096, true⟩] } }
theorem wit_OnyxFillsAndOperations : (onxS [] none).live = true ∧ (∀ m ∈ s0.onx.misses, m.way ≠ none ∨ missWaits s0 m = true) ∧
    (onxS [⟨4096, none, false, false, false⟩] none).onx.misses.find? (fun m => m.way.isNone && !missWaits (onxS [⟨4096, none, false, false, false⟩] none) m) =
      some ⟨4096, none, false, false, false⟩ ∧
    (onxS [⟨7, some 2, true, false, false⟩] none).onx.misses.find? (fun m => m.line == 7 && m.way.isSome) = some ⟨7, some 2, true, false, false⟩ ∧
    (onxS [⟨7, some 2, false, true, false⟩] none).onx.misses.find? (fun m => m.line == 7 && m.way.isSome) = some ⟨7, some 2, false, true, false⟩ ∧
    lockedWay s0 0 15 = false ∧ (s0.us [(R.ONX_OP_STATUS_BUSY, 1)]).on R.ONX_OP_STATUS_BUSY = true ∧ s0.on R.ONX_OP_STATUS_BUSY = false ∧
    (onxS [] (some ⟨1, 1048575, 5, []⟩)).onx.op = some ⟨1, 1048575, 5, []⟩ ∧ opCovers ⟨1, 1048575, 5, []⟩ 524287 = true ∧
    opCovers ⟨2, 8192, 1, []⟩ 4096 = true ∧ opCovers ⟨5, 8192, 1, []⟩ 4096 = true ∧ opCovers ⟨3, 8192, 1, []⟩ 4096 = true := by decide +kernel
def grpS (st : GrpSt) (a b : Nat) : State := { s0 with grn := { s0.grn with groups := [⟨5, 0, st, a, b, none⟩] } }
def grnS (l : List (FRef × Nat)) (f : Grn → Grn) : State := (actS 7 ((R.GRN_STATUS_LOADED, 1) :: l)).grnU f
def ckK (a : Nat) : Ckpt := ⟨4, [], [5], [⟨7, true, 2, a, false, []⟩], 9, 9, 9, 0⟩
theorem wit_GroupsAndCheckpoints : (grpS .closing 2 2).live = true ∧ grpOf s0 5 = none ∧ grpOf (grpS .closing 2 2) 5 = some ⟨5, 0, .closing, 2, 2, none⟩ ∧
    pairMode (grpS .closing 2 2) = 0 ∧ s0.on R.GRN_STATUS_LOADED = false ∧ (grnS [] id).on R.GRN_STATUS_LOADED = true ∧
    ((grnS [] (fun g => { g with ceilingDue := true })).grn.ceilingDue) = true ∧
    (grnS [(R.GRN_CKPT_CTRL_INTERVAL, 0)] id).g R.GRN_CKPT_CTRL_INTERVAL = 0 ∧
    ((grnS [] id).u64 R.QTZ_TIME_LO 60000000000).grn.lastCut + (grnS [] id).g R.GRN_CKPT_CTRL_INTERVAL * 1000000000 ≤
      ((grnS [] id).u64 R.QTZ_TIME_LO 60000000000).now ∧ (grnS [] id).g R.HQE_STATUS_POWER ≠ 2 ∧
    (∃ n ∈ availSet (grnS [] id), 577 ≤ mapRoom (grnS [] id) n) ∧
    (grnS [] (fun g => { g with ckpts := [ckK 1] })).grn.ckpts.find? (fun k => k.seq == 4) = some (ckK 1) ∧
    (ckK 2).stations.filter (fun c => !c.out && avail (grnS [] (fun g => { g with ckpts := [ckK 2] })) (stnOf c.station)) = [⟨7, true, 2, 2, false, []⟩] ∧
    (ckK 1).stations.filter (fun c => !c.out && avail (grnS [] (fun g => { g with ckpts := [ckK 1] })) (stnOf c.station)) = [⟨7, true, 2, 1, false, []⟩] ∧ ckptRoom s0 (availSet s0) = [] ∧ ckptRoom (grnS [] id) (availSet (grnS [] id)) = [7] ∧
    (grnS [] (fun g => { g with ceilingDue := true })).grn.ckpts = [] ∧ (grnS [] id).grn.ceilGroup ≤ (grnS [] id).grn.nextGroup + 2 ^ 14 ∧
    (grnS [] id).grn.ceilGroup < 2 ^ 32 ∧ mapRoom (grnS [] (fun g => { g with ceilingDue := true })) 7 ≥ 577 ∧
    s0.grn.ckpts = [] ∧ s0.sys.sysInit = true ∧ mountsSettled s0 = true := by decide +kernel
theorem wit_GroupsAndCheckpoints_head :
    (⟨Config.uid, 5, 5, 5⟩ : LastHdr).uid = Config.uid ∧ (⟨Config.uid, 5, 5, 5⟩ : LastHdr).group + 2 ^ 16 < 2 ^ 32 := ⟨rfl, by decide⟩
def txS (v : Nat) : State :=
  let s := (s0.us [(R.GRN_UNIT_APPLY_GRP, 31)]).wr R.GRN_CFGTX_GROUPS 0x80000000#32
  { s with pend := wrR s.pend R.GRN_CKPT_CTRL (BitVec.ofNat 32 (65536 * v)) }
theorem wit_ConfigurationTransactions : (txS 0).live = true ∧ (txS 0).on R.GRN_CFGTX_STATUS_BUSY = false ∧
    allUnits.filter (fun u => ((txS 0).rd R.GRN_CFGTX_GROUPS &&& groupBit (groupOf (txS 0) u)) != 0#32) = [.grn] ∧
    (setsOf (txS 0) (txView (txS 0) [.grn]) .grn).map CfgSet.ok = [false] ∧ (setsOf (txS 1) (txView (txS 1) [.grn]) .grn).map CfgSet.ok = [true] ∧
    allUnits.filter (fun u => (s0.rd R.GRN_CFGTX_GROUPS &&& groupBit (groupOf s0 u)) != 0#32) = [] ∧
    (s0.us [(R.GRN_CFGTX_STATUS_BUSY, 1)]).on R.GRN_CFGTX_STATUS_BUSY = true := by decide +kernel
def hostS (l : List (FRef × Nat)) : State := { s0.us l with pcx := { s0.pcx with cfg := [(1, 0x00100006#32)] } }
def sqe0 (op a0 a1 a2 a3 : Nat) : Sqe := ⟨op, 0, 3, 2, 0, 0, 100, 16, 0, 0, 0, a0, a1, a2, a3⟩
def cmd0 (tag sq : Nat) (e : Sqe) : Cmd := ⟨tag, 0, sq, e, tag, .running, 4, [], none, none, 0, false, [], none, none, []⟩
def sq0 : Sq := ⟨0, 16, 3, 5, 1, 2, false, none⟩
def cq0 : Cq := ⟨4096, 16, 3, 5, true, 1, false⟩
def queS (l : List Cmd) : State := { hostS [] with hqe := { s0.hqe with cmds := l, sqs := [(0, { sq0 with cq := 0 }), (7, sq0)], cqs := [(0, cq0), (1, cq0), (9, cq0)] } }
theorem wit_QueuesAndDoorbells : (queS []).live = true ∧ vfShut (hostS []) 0 = false ∧ (hostS []).pcx.hold = none ∧ (queS []).pcx.hold = none ∧ adminRuns (hostS []) = true ∧
    aqRd (hostS []) 0 0x214 = 0#32 ∧ (pairsHeld (aqWr (hostS []) 0 0x214 1#32)).length ≤ 8192 ∧ queueRange 0 = 8192 ∧ adminRuns { hostS [] with sys := ⟨.no, true, false, 0, 0, false⟩ } = false ∧ sqOf (queS []) 0 0 = some { sq0 with cq := 0 } ∧
    bellShut s0 0 8192 = true ∧ bellShut (queS []) 0 7 = false ∧ sqOf (queS []) 0 7 = some sq0 ∧ sqOf (queS []) 0 8 = none ∧
    (5 + 16 - 3) % 16 + (2 + 16 - 5) % 16 = 16 - 1 ∧ cqOf (queS []) 0 9 = some cq0 ∧ running s0 0 1 = none ∧
    running (queS [cmd0 0 0 (sqe0 1 8191 16 65537 0)]) 0 1 = some (cmd0 0 0 (sqe0 1 8191 16 65537 0)) ∧ queueIdOk 0 8191 = true ∧ queueIdOk 0 8192 = false ∧
    pairsSpent (queS []) 0 8191 = false ∧ (s0.us [(R.HQE_STATUS_CLOSED, 1)]).on R.HQE_STATUS_CLOSED = true ∧
    running (queS [cmd0 0 0 (sqe0 2 5 16 9 2)]) 0 2 = some (cmd0 0 0 (sqe0 2 5 16 9 2)) ∧ sqOf (queS []) 0 5 = none ∧
    running (queS [cmd0 0 0 (sqe0 3 7 0 0 0), cmd0 1 7 (sqe0 0x11 0 0 0 0)]) 0 3 = some (cmd0 0 0 (sqe0 3 7 0 0 0)) ∧
    (queS [cmd0 0 0 (sqe0 3 7 0 0 0), cmd0 1 7 (sqe0 0x11 0 0 0 0)]).hqe.cmds.filter (fun y => y.sq == 7) = [cmd0 1 7 (sqe0 0x11 0 0 0 0)] ∧
    running (queS [cmd0 0 0 (sqe0 4 9 0 0 0)]) 0 4 = some (cmd0 0 0 (sqe0 4 9 0 0 0)) ∧ (queS []).hqe.sqs.any (fun q => q.2.cq == 9) = false := by decide +kernel
def admS (e : Sqe) (l : List (FRef × Nat)) : State :=
  { queS [] with regs := ((queS []).us ([(R.GRN_STATUS_LOADED, 1), (R.HQE_VOL_OWNER_PF 2, 1)] ++ l)).wr (R.HQE_VOL_SIZE_LO 2) 1000#32 |>.regs, hqe := { (queS []).hqe with fetched := [⟨1, 0, 7, 3, some e, some [], false, [], 0, false⟩] } }
def cqe0 : Cqe := ⟨0, 9, 4, 5, 7, 3, 0, false⟩
def postS : State := { queS [cmd0 4 7 (sqe0 0x11 0 0 0 0)] with hqe := { (queS [cmd0 4 7 (sqe0 0x11 0 0 0 0)]).hqe with cqes := [cqe0] } }
theorem wit_FetchAdmitAndPost : arbitrate s0 = none ∧ ((arbitrate (queS [])).map Prod.fst) = some 7 ∧
    ((arbitrate { queS [] with hqe := { (queS []).hqe with sqs := [(0, { sq0 with cls := 4 }), (7, sq0)] } }).map Prod.fst) = some 0 ∧ nextFetched s0 = none ∧
    (admS (sqe0 0x10 0 0 0 0) []).live = true ∧
    nextFetched (admS (sqe0 0x10 0 0 0 0) []) = some ⟨1, 0, 7, 3, some (sqe0 0x10 0 0 0 0), some [], false, [], 0, false⟩ ∧
    checks (admS (sqe0 0x10 0 0 0 0) []) ⟨1, 0, 7, 3, some (sqe0 0x10 0 0 0 0), some [], false, [], 0, false⟩ (sqe0 0x10 0 0 0 0) [⟨0, 65536⟩] = none ∧
    checks (admS (sqe0 0x11 0 0 0 0) []) ⟨1, 0, 7, 3, some (sqe0 0x11 0 0 0 0), some [], false, [], 0, false⟩ (sqe0 0x11 0 0 0 0) [⟨0, 65536⟩] = none ∧
    checks (admS (sqe0 9 0 0 0 0) []) ⟨1, 0, 7, 3, some (sqe0 9 0 0 0 0), some [], false, [], 0, false⟩ (sqe0 9 0 0 0 0) [] = some cBAD_OPCODE ∧
    (admS (sqe0 0x10 0 0 0 0) [(R.GRN_STATUS_MAP_LOW, 1)]).on R.GRN_STATUS_MAP_LOW = true ∧ serialSpent (admS (sqe0 0x10 0 0 0 0) []) = false ∧
    topVersion (admS (sqe0 0x10 0 0 0 0) []) 2 100 16 = 0 ∧ frozenVf (admS (sqe0 0x10 0 0 0 0) []) 0 = false ∧
    postS.hqe.cqes.find? (fun e => e.fn == 0 && e.cq == 9) = some cqe0 ∧ cqOf postS 0 9 = some cq0 ∧ contained postS = false ∧
    (5 + 1) % 16 ≠ 3 ∧ atsOn postS 0 = false ∧ busMaster postS 0 = true ∧
    checks (admS { sqe0 0x12 0 0 0 0 with blocks := 0 } []) ⟨1, 0, 7, 3, some { sqe0 0x12 0 0 0 0 with blocks := 0 }, some [], false, [], 0, false⟩ { sqe0 0x12 0 0 0 0 with blocks := 0 } [⟨0, 0⟩] = none ∧
    reelBeaten (admS (sqe0 0x15 255 0 0 0) []) 2 (fnMaster 0) false [⟨.pf, 2, false⟩] = true ∧ reelBeaten s0 2 .pf true [] = false ∧ postS.pcx.tx = [] ∧ postS.hqe.powerTag = none := by decide +kernel
theorem wit_AdminOrders :
    running (queS [cmd0 0 0 (sqe0 5 7 3 0 0), cmd0 1 7 (sqe0 0x11 0 0 0 0)]) 0 5 = some (cmd0 0 0 (sqe0 5 7 3 0 0)) ∧ running s0 0 5 = none ∧
    (queS [cmd0 0 0 (sqe0 5 7 3 0 0), cmd0 1 7 (sqe0 0x11 0 0 0 0)]).hqe.cmds.filter (fun d => d.fn == 0 && d.sq == 7 && d.sqe.cid == 3 % 65536) =
      [cmd0 1 7 (sqe0 0x11 0 0 0 0)] ∧ abortable (cmd0 1 7 (sqe0 0x11 0 0 0 0)) = true ∧
    (queS [cmd0 0 0 (sqe0 5 7 3 0 0), { cmd0 1 7 (sqe0 0x11 0 0 0 0) with abortBy := some 0 }]).hqe.cmds.find? (fun d => d.abortBy == some 0) =
      some { cmd0 1 7 (sqe0 0x11 0 0 0 0) with abortBy := some 0 } ∧ abortable { cmd0 1 7 (sqe0 0x10 0 0 0 0) with st := .effective } = false ∧
    running (queS [cmd0 0 0 (sqe0 6 2 0 0 0)]) 0 6 = some (cmd0 0 0 (sqe0 6 2 0 0 0)) ∧ (queS []).hqe.powerTag = none ∧ (queS []).buf.pages = [] ∧
    (∀ n ∈ stations, hasWork (queS []) n = false) ∧
    running (queS [cmd0 0 0 (sqe0 7 7 2 0 0)]) 0 7 = some (cmd0 0 0 (sqe0 7 7 2 0 0)) ∧
    isOwner ((queS [cmd0 0 0 (sqe0 7 7 2 0 0)]).us [(R.STN_OWNER_PF 7, 1)]) 7 .pf = true ∧
    (orderEffect ((queS [cmd0 0 0 (sqe0 7 7 2 0 0)]).us [(R.STN_OWNER_PF 7, 1), (R.STN_STATUS_STATE 7, 5)]) 7 2 false []).any
      (fun u => cmdOf u 0 == some (cmd0 0 0 (sqe0 7 7 2 0 0))) = true ∧
    running (queS [cmd0 0 0 (sqe0 8 0 5 0 0)]) 0 8 = some (cmd0 0 0 (sqe0 8 0 5 0 0)) ∧ smGet (queS []).buf.pages 5 = none ∧
    running (queS [cmd0 1 0 (sqe0 6 1 0 0 0), cmd0 0 0 (sqe0 6 2 0 0 0), cmd0 2 7 (sqe0 0x11 0 0 0 0)]) 1 6 = some (cmd0 1 0 (sqe0 6 1 0 0 0)) := by decide +kernel
def bufU (l : List (Nat × Page)) (s : State) : State := { s with buf := { s.buf with pages := l } }
def wr0 : Cmd := cmd0 0 7 (sqe0 0x10 0 0 0 0)
def rd0 : Cmd := cmd0 1 7 (sqe0 0x11 0 0 0 0)
def fl0 : Cmd := cmd0 2 7 (sqe0 0x12 0 0 0 0)
def flS : State := { actS 7 [(R.GRN_STATUS_LOADED, 1)] with hqe := (queS [fl0]).hqe }
theorem wit_ReadsWritesAndFlushes : running (queS [wr0]) 0 oWRITE = some wr0 ∧ poolFree (queS [wr0]) < wr0.sqe.blocks ∧
    poolFree ((queS [wr0]).us [(R.BUF_POOL_FREE_PAGES, 16), (R.BUF_STATUS_INIT_DONE, 1)]) = wr0.sqe.blocks ∧
    ((queS [wr0]).us [(R.BUF_POOL_FREE_PAGES, 16), (R.BUF_STATUS_INIT_DONE, 1)]).on R.BUF_STATUS_INIT_DONE = true ∧ cmdOf s0 0 = none ∧
    ackReady (queS [wr0]) wr0 = false ∧ ackReady (queS [{ wr0 with st := .inBuffer }]) { wr0 with st := .inBuffer } = true ∧
    running (queS [rd0]) 1 oREAD = some rd0 ∧ heldBack (queS [rd0]) rd0 = false ∧ heldBack (queS [wr0, rd0]) rd0 = true ∧ shadowed s0 2 = false ∧
    pageOf s0 [] 2 100 0 = none ∧ selectLogical s0 [] 2 100 0 = none ∧
    pageOf (bufU [(5, { page0 with vol := 2, lba := 100 })] s0) [7] 2 100 0 = some (5, { page0 with vol := 2, lba := 100 }) ∧
    running (queS [{ wr0 with dead := true }]) 0 oWRITE = some { wr0 with dead := true } ∧
    running flS 2 oFLUSH = some fl0 ∧ heldBack flS fl0 = false ∧ pairMode flS = 0 ∧ flS.buf.pages = [] ∧
    coverMapped (bufU [(5, { page0 with vol := 2, lba := 100 })] flS) [(2, 100, page0.ver)] = false ∧
    (∃ n ∈ availSet flS, 577 ≤ mapRoom flS n) := by decide +kernel
def op0 (op a0 reel grp : Nat) : Cmd := ⟨0, 0, 7, ⟨op, 0, 3, 2, 0, 0, 100, 16, grp, 0, reel, a0, 0, 0, 0⟩, 0, .running, 0, [], none, none, 0, false, [], none, none, []⟩
def reel0 (st : ReelSt) : Reel := ⟨4, 2, 0, none, 100, st, 0, 0, 0, 0, 0, 0, [], 0, 0, none, false⟩
def opS (c : Cmd) (f : Grn → Grn) (l : List (FRef × Nat)) : State := { (actS 7 l).grnU f with hqe := { s0.hqe with cmds := [c] } }
theorem wit_GroupsReelsAndSeals : running s0 0 oSEAL = none ∧ running (opS (op0 0x13 0 0 0) id []) 0 oCOMMIT_OPEN = some (op0 0x13 0 0 0) ∧
    (opS (op0 0x13 0 0 0) (fun g => { g with nextGroup := 2 ^ 32 }) []).grn.nextGroup = 2 ^ 32 ∧
    s0.grn.ceilGroup ≤ s0.grn.nextGroup ∧ s0.grn.nextGroup < (opS (op0 0x13 0 0 0) (fun g => { g with ceilGroup := 9 }) []).grn.ceilGroup ∧
    s0.g R.GRN_GROUPS_OPEN_COUNT < 4096 ∧ running (opS (op0 0x14 0 0 5) id []) 0 oCOMMIT_CLOSE = some (op0 0x14 0 0 5) ∧
    grpOf (opS (op0 0x14 0 0 5) (fun g => { g with groups := [⟨5, 0, .rolledBack, 1, 0, none⟩] }) []) 5 = some ⟨5, 0, .rolledBack, 1, 0, none⟩ ∧
    running (opS (op0 0x15 255 0 0) id []) 0 oREEL_OPEN = some (op0 0x15 255 0 0) ∧
    (opS (op0 0x15 255 0 0) id [(R.PCX_WIN_STATUS_BOUND 255, 1)]).on (R.PCX_WIN_STATUS_BOUND 255) = true ∧
    (opS (op0 0x15 255 0 0) (fun g => { g with ceilReel := 9 }) []).grn.nextReel < (opS (op0 0x15 255 0 0) (fun g => { g with ceilReel := 9 }) []).grn.ceilReel ∧
    running (opS (op0 0x16 0 4 0) id []) 0 oREEL_CLOSE = some (op0 0x16 0 4 0) ∧
    reelOf (opS (op0 0x16 0 4 0) (fun g => { g with reels := [{ reel0 .closing with closeTag := some 0 }] }) []) 4 = some { reel0 .closing with closeTag := some 0 } ∧
    reelDrained { opS (op0 0x16 0 4 0) id [] with hqe := { s0.hqe with cmds := [{ op0 0x10 0 4 0 with tag := 1 }] } } (reel0 .closing) = false ∧
    running (opS (op0 0x17 3 4 0) id []) 0 oSEAL = some (op0 0x17 3 4 0) ∧
    sealSrc { opS (op0 0x17 3 4 0) id [] with tru := { s0.tru with manifests := [⟨4, [1, 2, 3, 4]⟩] } } 4 = .have' [1, 2, 3, 4] ∧
    sealName (opS (op0 0x17 3 4 0) id []) 4 = 4 ∧ reelOf (opS (op0 0x17 3 4 0) (fun g => { g with reels := [reel0 .closed] }) []) 4 = some (reel0 .closed) := by decide +kernel
def allS : State := { s0.us ((List.range 8).flatMap (fun n => [(R.STN_STATUS_STATE n, 3), (R.STN_STATUS_DISC_KIND n, 1), (R.STN_STATUS_AVAILABLE n, 1)])) with
  stn := s0.stn.map (fun x => { x with fronts := Vector.replicate 4 (some (mkPca 0 0 0 dataFirst)) }) }
theorem wit_GroupsReelsAndSeals_sign : newStripe allS 2 4 = some ⟨2, 4, 1, 7, false, 0, [], none, false, 0, [], 0⟩ := by decide +kernel
def vfS (ctl n : Nat) (l : List (FRef × Nat)) : State :=
  { hostS l with pcx := { s0.pcx with cfg := [(1, 0x00100002#32), (0x8A, BitVec.ofNat 32 ctl), (0x8C, BitVec.ofNat 32 n)] } }
theorem wit_EndpointResetsAndConfig : (vfS 9 2 []).live = true ∧ fnOn s0 255 = false ∧ numVfs (vfS 25 255 []) = 255 ∧ fnOn (vfS 25 255 []) 255 = true ∧
    (cfgRd (vfS 8 8 []) 0 0x230).toNat % 65536 = 8 ∧ cfgBit (vfS 8 8 []) 0 0x228 4 = false ∧ cfgBit (vfS 24 8 []) 0 0x228 4 = true ∧
    (cfgRd (vfS 8 7 []) 0 0x230).toNat % 65536 = 7 ∧ ({ s0 with sys := ⟨.no, false, false, 0, 0, false⟩ } : State).sys.ready = false ∧
    (⟨.io, 0, 0, false, 0, 0⟩ : CfgReq).kind = .io ∧ (⟨.config1, 0, 0, false, 0, 0⟩ : CfgReq).kind = .config1 ∧ (4 * (17 : Fin 1024).val = 0x44) ∧
    s0.sys.ready = true ∧ fnOn s0 0 = true ∧ ({ s0 with regs := [(0x1E0000, 4#32)] } : State).up = true ∧
    ({ s0 with regs := [(0x1E0000, 4#32)] } : State).on R.TRU_STATUS_RECOVERY = true := by decide +kernel
theorem wit_ShadowsAreCleared : s0.live = true ∧ fnOn s0 0 = true ∧ s0.sys.held ≠ .power ∧ s0.up = true ∧
    (8640 : Int) ≤ (Vector.replicate 8 (8640 : Int))[(7 : Fin 8)] ∧ getF 0x0FA50001#32 R.GLB_RESET_KEY = 0x0FA5 ∧
    getF 0x0FA50001#32 R.GLB_RESET_DEVICE = 1 := by decide +kernel
def conS (l : List (FRef × Nat)) : State := { s0.us ([(R.PCX_CONTAIN_CONTAINED, 1), (R.PCX_CONTAIN_CAUSE, 5)] ++ l) with
  pcx := { s0.pcx with reqs := [⟨3, ⟨0, .orphan, 0, 0, 64⟩, 0, none, []⟩] } }
theorem wit_ContainmentAndLinks : ecrcChecked s0 = false ∧ ecrcChecked { s0 with pcx := { s0.pcx with cfg := [(0x46, 0x1E0#32)] } } = true ∧
    contained (conS []) = true ∧ contained s0 = false ∧ (conS []).live = true ∧
    (conS [(R.PCX_LINK_DL_UP, 1)]).on R.PCX_LINK_DL_UP = true ∧ (conS []).on R.PCX_LINK_DL_UP = false ∧
    bitOf ((s0.us [(R.PCX_LINK_LANES_OK, 0xFF)]).g R.PCX_LINK_LANES_OK) 7 = 1 ∧ bitOf (s0.g R.PCX_LINK_LANES_OK) 0 = 0 ∧ widest 0x7F = 4 ∧
    (s0.us [(R.PCX_FROZEN_LIST_VALID 63, 1), (R.PCX_FROZEN_STATUS_COUNT, 1)]).on (R.PCX_FROZEN_LIST_VALID 63) = true := by decide +kernel
def tlp0 (poison : Bool) : Tlp := ⟨0x1234, 0x10A203000, [1, 2, 3, 4], poison, []⟩
def ingS (l : List (FRef × Nat)) : State := hostS l
def ingWin : State := hostS [(R.PCX_WIN_CFG_EN 17, 1), (R.PCX_WIN_CFG_SIZE 17, 4096), (R.PCX_WIN_BASE_BASE 17, 0x10000)]
theorem wit_IngestWindows : memOn (ingS []) 0 = true ∧ memOn s0 0 = false ∧ contained (ingS []) = false ∧ (ingS []).pcx.hold = none ∧
    frozenRid (ingS [(R.PCX_FROZEN_LIST_VALID 63, 1), (R.PCX_FROZEN_LIST_ID 63, 0x1234)]) 0x1234 = true ∧ frozenRid (ingS []) 0x1234 = false ∧
    windowAt ingWin 0x10A203000 4 = some 17 ∧ ridMatches (ingWin.rd (R.PCX_WIN_RID 17)) 0x1234 = true ∧
    ingWin.on (R.PCX_WIN_STATUS_BOUND 17) = false ∧ windowAt (ingS []) 0x10A203000 4 = none ∧ oldWindowAt (ingS []) 0x1234 0x10A203000 4 = none ∧
    winBytes ingWin 17 = 0x10000000 ∧ (ingS [(R.PCX_FROZEN_LIST_VALID 0, 1)]).on (R.PCX_FROZEN_LIST_VALID 1) = false := by decide +kernel
def fillS : State :=
  let s := ingWin.us [(R.PCX_WIN_STATUS_BOUND 17, 1), (R.PCX_WIN_REEL_REEL 17, 4)]
  { s with pcx := { s.pcx with wins := vmod s.pcx.wins 17 (fun x => { x with parts := [⟨winPos ingWin 17 0xA203000 / 4096, 5, 0⟩] }) },
           grn := { s.grn with reels := [reel0 .opened] }, buf := { s.buf with pages := [(5, page0)] } }
theorem wit_IngestWindows_fill : windowAt fillS 0x10A203000 1 = some 17 ∧ reelOf fillS (fillS.g (R.PCX_WIN_REEL_REEL 17)) = some (reel0 .opened) ∧
    fillS.on (R.PCX_WIN_STATUS_BOUND 17) = true ∧ fillS.on R.GRN_STATUS_MAP_LOW = false ∧
    winPos fillS 17 (0x10A203000 - 65536 * fillS.g (R.PCX_WIN_BASE_BASE 17)) = winPos ingWin 17 0xA203000 ∧ (winOf fillS 17).admitted = 0 ∧
    (winOf fillS 17).parts = [⟨winPos ingWin 17 0xA203000 / 4096, 5, 0⟩] ∧ smGet fillS.buf.pages 5 = some page0 ∧
    (0#4096 ||| BitVec.ofNat 4096 (2 ^ (winPos ingWin 17 0xA203000 % 4096))) ≠ BitVec.allOnes 4096 := by decide +kernel
def graceS (since : Nat) : State := { s0 with pcx := { s0.pcx with wins := vmod s0.pcx.wins 255 (fun x => { x with old := some ⟨0, 0, 0, 4, since⟩ }) } }
def heldS (now : Nat) : State := { (ingWin.us [(R.PCX_WIN_STATUS_BOUND 17, 1), (R.PCX_WIN_REEL_REEL 17, 4)]).u64 R.QTZ_TIME_LO now with
  pcx := { ingWin.pcx with hold := some ⟨17, 0xA203000, false, 0, tlp0 false⟩ }, grn := { s0.grn with reels := [reel0 .opened] } }
theorem wit_IngestWindows_held : (retryHold (heldS 0)).pcx.hold = some ⟨17, 0xA203000, false, 0, tlp0 false⟩ ∧ (retryHold (heldS 100000000)).pcx.posted = [] ∧ (retryHold (heldS 0)).now = 0 ∧
    0 < (heldS 0).g R.PCX_CREDIT_HOLD ∧ 0 + 1000 * (retryHold (heldS 100000000)).g R.PCX_CREDIT_HOLD ≤ (retryHold (heldS 100000000)).now ∧
    (graceS 0).pcx.wins[(255 : Fin 256)].old = some ⟨0, 0, 0, 4, 0⟩ ∧ 0 + 1000 * (graceS 0).g R.PCX_TIMING_GRACE ≤ ((graceS 0).u64 R.QTZ_TIME_LO 100000000).now ∧
    (graceS 0).now < 0 + 1000 * (graceS 0).g R.PCX_TIMING_GRACE := by decide +kernel
def reqS (c : Cmd) (use : DmaFor) (fn now : Nat) : State :=
  { ((queS [c]).us [(R.PCX_VIOL_UR_FREEZE, 1)]).u64 R.QTZ_TIME_LO now with pcx := { (hostS []).pcx with reqs := [⟨9, ⟨fn, use, 0, 0, 64⟩, 0, none, [1, 2]⟩] } }
def wrl : Cmd := { wr0 with left := some 1 }
def quaS (now : Nat) : State := { s0.u64 R.QTZ_TIME_LO now with pcx := { s0.pcx with quarantine := [(9, 0, 0)] } }
def msixS : State := { s0.wr 0x38000 1#32 with pcx := { s0.pcx with cfg := [(1, 0x00100006#32), (20, 0x80000000#32)] } }
theorem wit_RequestsAndTranslations : reqOf s0 9 = none ∧ reqOf (reqS wrl (.data 0) 0 0) 9 = some ⟨9, ⟨0, .data 0, 0, 0, 64⟩, 0, none, [1, 2]⟩ ∧
    cmdOf (reqS wrl (.data 0) 0 0) 0 = some wrl ∧ (reqS wrl (.data 0) 3 0).on R.PCX_VIOL_UR_FREEZE = true ∧
    (reqS wrl (.data 0) 0 0).now < 0 + 1000000 * (reqS wrl (.data 0) 0 0).g R.PCX_TIMING_CPL_TO ∧
    0 + 1000000 * (reqS wrl (.data 0) 0 0).g R.PCX_TIMING_CPL_TO ≤ (reqS wrl (.data 0) 0 1000000000).now ∧
    (quaS 0).pcx.quarantine.find? (fun q => q.1 == 9) = some (9, 0, 0) ∧
    0 + 4000000 * (quaS 0).g R.PCX_TIMING_CPL_TO ≤ (quaS 4000000000).now ∧ contained (quaS 0) = false ∧
    reqOf (reqS wrl (.trans 5) 0 0) 9 = some ⟨9, ⟨0, .trans 5, 0, 0, 64⟩, 0, none, [1, 2]⟩ ∧
    atsOn { s0 with pcx := { s0.pcx with cfg := [(153, 0x80000000#32)] } } 0 = true ∧ atsOn s0 0 = false ∧
    msixOn msixS 0 = true ∧ fnMasked msixS 0 = false ∧ bitOf (pbaRd msixS 0 0).toNat 0 = 1 ∧ memOn msixS 0 = true ∧ vfShut msixS 0 = false ∧ busMaster msixS 0 = true ∧ msixS.pcx.hold = none ∧ vfShut s0 0 = true ∧ vectorsOf 0 = 2048 ∧
    vectorsOf 255 = 8 := by decide +kernel
def peer0 : PeerId := ⟨7, 1, 1, 2, 5, 0, 4⟩
def pairS (st : Nat) (l : List (FRef × Nat)) (f : Cgl → Cgl) : State :=
  (s0.us ([(R.CGL_CTRL_MODE, 1), (R.CGL_STATUS_STATE, st), (R.CGL_STATUS_LANES_OK, 0xFF), (R.CGL_STATUS_WIDTH, 8), (R.QTZ_TIME_LO_TIME, 90000000)] ++ l)).cglU f
def upC (c : Cgl) : Cgl := { c with up := true, peer := some peer0 }
def waitW : State := { pairS 4 [] upC with hqe := (queS [{ cmd0 0 7 (sqe0 0x10 0 0 0 0) with st := .inBuffer }]).hqe }
theorem wit_PairingAndLoss : mirroring (pairS 1 [] id) = false ∧ frozenPartner (pairS 1 [] id) = false ∧ widest 255 = 8 ∧ widest 0 = 0 ∧
    mirroring (pairS 4 [] upC) = true ∧ (pairS 1 [] id).live = true ∧
    ((pairS 1 [] id).g64 R.CGL_PEER_UID_LO = 0 ∧ pairMode (pairS 1 [] id) = peer0.mode ∧ peer0.mode ≠ 0 ∧ (pairS 1 [] id).g R.CGL_CTRL_ROLE ≠ peer0.role ∧
      Nat.land ((pairS 1 [] id).g64 R.CGL_HOME_LO) peer0.home.toNat = 0) ∧
    ((pairS 1 [(⟨R.CGL_PEER_UID_LO, 0, 32⟩, 8)] id).g64 R.CGL_PEER_UID_LO ≠ 0 ∧ (pairS 1 [(⟨R.CGL_PEER_UID_LO, 0, 32⟩, 8)] id).g64 R.CGL_PEER_UID_LO ≠ peer0.uid.toNat) ∧
    (pairS 1 [(R.CGL_CTRL_MODE, 2)] id).g R.CGL_CTRL_MODE ≠ peer0.mode ∧ (pairS 1 [(R.CGL_CTRL_ROLE, 1)] id).g R.CGL_CTRL_ROLE = peer0.role ∧
    Nat.land ((pairS 1 [(⟨R.CGL_HOME_LO, 0, 32⟩, 3)] id).g64 R.CGL_HOME_LO) peer0.home.toNat ≠ 0 ∧
    bitOf ((pairS 4 [] upC).g R.CGL_STATUS_LANES_OK) 7 = 1 ∧ bitOf ((pairS 4 [(R.CGL_STATUS_LANES_OK, 1)] upC).g R.CGL_STATUS_LANES_OK) 7 = 0 ∧
    widest 0x7F = 4 ∧ widest 0x7F < (pairS 4 [] upC).g R.CGL_STATUS_WIDTH ∧
    (pairS 4 [] (fun c => { upC c with retraining := true, replay := [⟨4095, .unknown, 2⟩] })).cgl.retraining = true ∧
    0 + max 1000000 (100000 * (pairS 4 [] upC).g R.CGL_CTRL_DEAD_TIME) ≤ (pairS 4 [] upC).now ∧ (pairS 4 [] upC).on R.CGL_CTRL_RING_ARB = true ∧
    (pairS 4 [] (fun c => { upC c with alive := some 89500000 })).now < 89500000 + 1000000 ∧ (pairS 4 [(R.CGL_CTRL_ROLE, 1)] upC).on R.CGL_CTRL_ROLE = true ∧
    (pairS 4 [(R.CGL_CTRL_RING_ARB, 0)] upC).on R.CGL_CTRL_RING_ARB = false ∧ pairSt (pairS 6 [] id) = pISOLATED ∧
    waitW.live = true ∧ mirroring waitW = true ∧ waitW.grn.groups = [] ∧ waitW.grn.reels = [] := by decide +kernel
def flitPg : FlitBody := .page 1 0 9 0 0 0 true [1#8]
def ctl0 : Ctl := ⟨none, some 4095, [(1, 0, 1)], [5], false, 4, some ⟨7, some 3⟩⟩
def recW (n : Nat) : WriteRec := ⟨0, 1, 0, n, 9, 0, 0⟩
def pairB (st : Nat) : State := pairS st [(⟨R.CGL_HOME_LO, 0, 32⟩, 1), (R.BUF_POOL_FREE_PAGES, 4), (R.BUF_STATUS_INIT_DONE, 1)] upC
theorem wit_FlitsAndHandback : (pairB 4).live = true ∧ frozenPartner (pairB 4) = false ∧ mirroring (pairB 4) = true ∧ homeVol (pairB 4) 0 = true ∧
    homeVol (pairB 4) 1 = false ∧ 0 < poolFree (pairB 4) ∧ poolFree (pairS 4 [] upC) = 0 ∧ homeVol (pairS 4 [] upC) 1 = false ∧
    (smGet (pairB 4).cgl.applied (2 ^ 48 * 1 + 0)).getD 0 < 9 ∧ pairSt (pairB 4) ≠ pSYNCING ∧
    (pairB 4).on (R.PCX_FROZEN_LIST_VALID 63) = false ∧ mirroring ((pairB 4).u R.CGL_STATUS_STATE 2) = false ∧
    recBlocks (recW 1) = [0] ∧ recBlocks (recW 2) = [0, 1] ∧ haveVersion (pairB 4) 1 1 9 = false ∧ haveVersion (pairB 4) 1 0 9 = false ∧
    (pairB 4).on R.BUF_STATUS_INIT_DONE = true ∧ recorded (pairB 4) 1 0 9 = false ∧ (pairB 4).cgl.admits = [] ∧
    recorded ((pairB 4).cglU (fun c => { c with admits := [recW 2] })) 1 0 9 = true ∧ pMISMATCH = 2 ∧ ctl0.state ≠ pMISMATCH ∧
    (bufU [(3, page0)] (pairB 4)).buf.pages = [(3, page0)] ∧ (page0.vol, page0.lba, page0.ver) ∈ ctl0.confirm ∧
    ((pairB 4).cglU (fun c => { c with replay := [⟨4095, .unknown, 8⟩] })).cgl.replay.find? (fun r => r.seq == 4095) = some ⟨4095, .unknown, 8⟩ ∧
    (pairS 4 [(R.CGL_CTRL_ROLE, 1), (R.QTZ_CTRL_SOURCE, 2)] upC).g R.QTZ_CTRL_SOURCE = 2 ∧
    parseEntry (0x10#8 :: List.replicate 31 0#8) ≠ none ∧
    pairSt (pairB 7) = pHANDING_BACK ∧ (pairB 7).cgl.sendQ = [] ∧ (pairB 7).hqe.cmds = [] ∧
    pairSt (pairB 3) = pSYNCING ∧ (pairB 3).cgl.sync = [] ∧ (pairB 3).cgl.due = [] := by decide +kernel
def pinS (func fwd : Nat) (f : Drk → Drk) : State := (s0.us [(R.DRK_PIN_FUNC 15, func), (R.DRK_PIN_ARG 15, 0x80), (R.DRK_CTRL_FWD_PINS, fwd),
  (R.HQE_VOL_OWNER_PINS 0, 1), (R.DRK_CTRL_EN, 1)]).drkU f
theorem wit_PinsAndActions : 100 * (pinS 2 0 id).g R.DRK_PIN_QUAL_QUAL ≤ 1000 ∧ 0 < 100 * (pinS 2 0 id).g R.DRK_PIN_QUAL_QUAL ∧
    (pinS 2 0 id).live = true ∧ (pinS 2 0 id).g (R.DRK_PIN_FUNC (15 : Fin 16)) = 2 ∧
    (true != (pinS 2 0 id).on (R.DRK_PIN_POL (15 : Fin 16))) = true ∧ bitOf ((pinS 2 0 id).g R.DRK_PIN_IN_LEVEL) 15 = 0 ∧
    (pinS 2 1 id).on R.DRK_CTRL_FWD_PINS = true ∧ (pinS 2 0 id).on R.DRK_CTRL_FWD_PINS = false ∧
    masterOwnsVol (pinS 2 0 id) 0 .pins = true ∧ reelBeaten (pinS 2 0 id) 0 .pins true [] = false ∧ masterOwnsVol (s0.us [(R.HQE_VOL_OWNER_PINS 0, 0)]) 0 .pins = false ∧
    (pinS 1 0 id).g (R.DRK_PIN_ARG (15 : Fin 16)) % 256 = 2 ^ (7 : Fin 8).val ∧ (pinS 3 0 id).g (R.DRK_PIN_FUNC (15 : Fin 16)) = 3 ∧
    (pinS 3 0 (fun d => { d with acts := [⟨4, 0, 0, none⟩], reps := [⟨4, 255, 0, 0, 1, 0⟩] })).drk.acts = [⟨4, 0, 0, none⟩] ∧
    ([⟨4, 255, 0, 0, 1, 0⟩] : List RingRep).find? (fun r => decide (r.due ≤ (pinS 3 0 id).now)) = some ⟨4, 255, 0, 0, 1, 0⟩ ∧
    (0 : Nat) ≤ (pinS 3 0 id).now ∧ (pinS 3 0 (fun d => { d with acts := [⟨4, 0, 1, none⟩] })).now < 1 := by decide +kernel
def ringS (l : List (FRef × Nat)) (f : Drk → Drk) : State := (s0.us ([(R.DRK_CTRL_EN, 1), (R.DRK_CTRL_NODE_ID, 3), (R.QTZ_TIME_LO_TIME, 90000000)] ++ l)).drkU f
theorem wit_RingMessages : (ringS [] id).live = true ∧ (ringS [] id).on R.DRK_CTRL_EN = true ∧ s0.on R.DRK_CTRL_EN = false ∧
    (ringS [] id).g R.DRK_CTRL_NODE_ID = 3 ∧ (1, 9) ∈ (ringS [] (fun d => { d with own := [(1, 9)], sent := [(9, 5)] })).drk.own ∧
    (ringS [] (fun d => { d with sent := [(9, 5)] })).drk.sent.find? (fun x => x.1 == 9) = some (9, 5) ∧
    (ringS [] id).on R.DRK_CTRL_ACCEPT_STOP = true ∧ (ringS [(R.DRK_CTRL_ACCEPT_MARK, 0)] id).on R.DRK_CTRL_ACCEPT_MARK = false ∧
    (ringS [] id).now = 90000000 ∧ (∀ k : Fin 16, (ringS [] id).g (R.DRK_PIN_FUNC k) ≠ 4) ∧ (ringS [(R.QTZ_CTRL_SOURCE, 1)] id).g R.QTZ_CTRL_SOURCE = 1 ∧
    (ringS [(R.DRK_CTRL_TIME_MASTER, 1)] id).on R.DRK_CTRL_TIME_MASTER = true ∧ (ringS [] id).drk.stood = none ∧
    pairMode (ringS [(R.CGL_CTRL_MODE, 2)] id) ≠ 0 ∧ (ringS [(R.DRK_STATUS_IN_LOCK, 1)] id).on R.DRK_STATUS_IN_LOCK = true ∧
    (ringS [] id).on R.DRK_STATUS_IN_LOCK = false ∧ 80000000 + 10000000 ≤ (ringS [] (fun d => { d with stood := some 80000000 })).now := by decide +kernel
/-- Whatever the start value of the CRC is, some message fails it. -/
theorem wit_RingMessages_crc : ∃ b : List Byte, b.length = 21 ∧ b.head? = some 0xBC#8 ∧ numBE (b.drop 19) ≠ ringCrc ((b.drop 1).take 18) := by
  by_cases h : ringCrc ((((0xBC#8 :: List.replicate 20 0#8).drop 1)).take 18) = 0
  · exact ⟨0xBC#8 :: (List.replicate 18 0#8 ++ [0#8, 1#8]), rfl, rfl, fun e => absurd (e.trans h) (by decide)⟩
  · exact ⟨0xBC#8 :: List.replicate 20 0#8, rfl, rfl, fun e => h (e.symm.trans (by decide))⟩
theorem wit_RingMessages_bytes : (ringBytes 4 255 255 31 (2 ^ 64 - 1) 0 65535).length = 21 ∧
    (ringBytes 4 2 255 31 90000000 0 65535).head? = some 0xBC#8 := ⟨rfl, rfl⟩
def ltcS (l : List (FRef × Nat)) (f : Qtz → Qtz) : State := (s0.us ([(R.DRK_PIN_FUNC 15, 4), (R.QTZ_TIME_LO_TIME, 90000000)] ++ l)).qtzU f
theorem wit_QuartzAndTimecode : (ltcS [] id).live = true ∧ (ltcS [] id).now = 90000000 ∧ (89999999#64).toNat < (ltcS [] id).now ∧
    (ltcS [(R.QTZ_CTRL_SOURCE, 1)] id).g R.QTZ_CTRL_SOURCE = 1 ∧ (10000 * (ltcS [] id).g R.QTZ_LIMITS_STEP_LIMIT : Nat) < (1000001 : Int) ∧
    (ltcS [] id).g R.QTZ_CTRL_SOURCE = 0 ∧ (ltcS [] id).g (R.DRK_PIN_FUNC (15 : Fin 16)) = 4 ∧ (∀ k : Fin 16, s0.g (R.DRK_PIN_FUNC k) ≠ 4) ∧
    (ltcFrame true 0x12345601#32 true 33367 5 (ltcS [] (fun q => { q with run := 15, periods := List.replicate 15 33367 }))).g R.QTZ_STATUS_TC_RATE = 2 ∧
    (ltcFrame true 0x12345601#32 true 40000 5 (ltcS [] (fun q => { q with run := 15, periods := List.replicate 15 40000 }))).on R.QTZ_STATUS_TC_VALID = true ∧
    (ltcS [] id).on R.QTZ_STATUS_TC_VALID = false ∧ (ltcS [(R.DRK_CTRL_TIME_MASTER, 1), (R.DRK_CTRL_EN, 1)] id).on R.DRK_CTRL_EN = true ∧
    (ltcS [(R.QTZ_STATUS_TC_VALID, 1)] (fun q => { q with bad := 8 })).on R.QTZ_STATUS_TC_VALID = true := by decide +kernel
def ev0 (code time : Nat) : Event := ⟨time, code, 0, 3, 1, 2, 3, 4⟩
def evS (fl : List Event) (ring : List Rec) (l : List (FRef × Nat)) : State :=
  { s0.us ([(R.EVL_TAIL_COUNT, ring.length), (R.EVL_CFG_COALESCE, 10)] ++ l) with evl := ⟨ring, fl⟩ }
theorem wit_EventsMerge : (evS [ev0 0x101 0] [⟨ev0 0x101 0, 0xFFFF, 0⟩] []).up = true ∧
    nextEvent [ev0 0x101 0] = some (ev0 0x101 0, []) ∧ nextEvent [ev0 0x203 0, ev0 0x101 1, ev0 0x101 0] = some (ev0 0x101 0, [ev0 0x203 0, ev0 0x101 1]) ∧
    unconsumed (evS [ev0 0x101 0] [⟨ev0 0x101 0, 0, 0⟩] []) = 1 ∧ (evS [] [] []).now < 0 + 100000 * (evS [] [] []).g R.EVL_CFG_COALESCE ∧
    severity 0x101 0 = 0 ∧ severity 0x203 2 = 3 ∧ unconsumed (evS [] [⟨ev0 0x101 0, 0, 0⟩] [(R.EVL_HEAD_COUNT, 1)]) = 0 := by decide +kernel
def truS (f : Tru → Tru) (l : List (FRef × Nat)) : State := (s0.us l).truU f
def initS : State := { s0 with sys := ⟨.no, true, false, 0, 0, false⟩, buf := { s0.buf with train := Vector.replicate 4 .trained, poolSize := 1 } }
theorem wit_EventLogAndMailbox : s0.up = true ∧ s0.evl.inFlight = [] ∧
    unconsumed (evS [ev0 0x101 0] [] [(R.EVL_TAIL_COUNT, 7936)]) = 7936 ∧ unconsumed (evS [ev0 0x203 0] [] [(R.EVL_TAIL_COUNT, 8192)]) = 8192 ∧
    unconsumed (evS [] [] [(R.EVL_HEAD_COUNT, 0xFFFFFFFF)]) = 1 ∧ ((0#32) - (evS [] [] [(R.EVL_HEAD_COUNT, 0xFFFFFFFF)]).rd R.EVL_HEAD).toNat = 1 ∧
    unconsumed (evS [] [] []) < ((1#32) - (evS [] [] []).rd R.EVL_HEAD).toNat ∧ (truS (fun t => { t with updOp := some 2 }) []).tru.updOp = some 2 ∧
    s0.tru.updOp ≠ some 2 ∧ s0.tru.spdmVersion = false ∧ (truS (fun t => { t with spdmAlgs := true, spdmCaps := true, spdmVersion := true }) []).tru.spdmAlgs = true ∧
    (∀ x ∈ initS.buf.train.toList, x = .trained) ∧ initS.g R.BUF_STATUS_TRAIN_FAIL = 0 ∧ initS.sys.sysInit = false ∧ initS.live = true ∧
    s0.sys.sysInit = true := by decide +kernel
def truR (w : BitVec 32) (f : Tru → Tru) : State := { s0.truU f with regs := [(0x1D0084, 3#32), (0x1E0000, w), (0x1E0008, 0#32)] }
theorem wit_FlashAndUpdate : s0.up = true ∧ s0.tru.flashOp = none ∧ s0.tru.updOp = none ∧
    (truS id [(R.TRU_FLASH_ADDR_ADDR, 0x3FFFFFF)]).g R.TRU_FLASH_ADDR_ADDR / 0x10000 * 0x10000 / 2 ^ 25 % 2 ≠ (truS id []).g R.TRU_STATUS_SLOT ∧
    (truR 4#32 id).on R.TRU_STATUS_RECOVERY = true ∧ (truR 8#32 id).on R.TRU_STATUS_TRIAL = true ∧
    (truS (fun t => { t with flashOp := some ⟨1, 0x3FFFFFF, 4096⟩ }) []).tru.flashOp = some ⟨1, 0x3FFFFFF, 4096⟩ ∧
    imageNum s0 0 false 12 4 = 0xFFFFFFFF ∧ slotOk s0 1 = false ∧
    imageNum (truS (fun t => { t with flash := [(12, 0#8)] }) []) 0 false 12 4 = 0xFFFFFF ∧ 0xFFFFFF < (truS id [(R.TRU_FLASH_ADDR_ADDR, 0x3FFFFFF)]).g R.TRU_FLASH_ADDR_ADDR ∧
    signing s0 = false ∧ s0.on R.TRU_STATUS_OWNER_KEYS = false ∧
    (truR 16#32 id).on R.TRU_STATUS_OWNER_KEYS = true ∧
    (truS (fun t => { t with updOp := some 5, secTo := 7 }) []).tru.updOp = some 5 ∧
    (truR 8#32 (fun t => { t with trialFrom := 0 })).on R.TRU_STATUS_TRIAL = true ∧
    (0 : Nat) + 10000000000 ≤ (truR 8#32 (fun t => { t with trialFrom := 0 })).now := by decide +kernel
/-- A flash whose slot B holds two images with empty bodies and SERIAL 1. -/
def goodFlash : List (Nat × Byte) :=
  [(0x2000000, 0x46593849), (0x2800000, 0x46593843)].flatMap (fun (q : Nat × Nat) =>
    let head := bytesBE 4 q.2 ++ bytesBE 4 1 ++ bytesBE 4 1 ++ bytesBE 4 0 ++ bytesBE 4 0 ++ bytesBE 4 0 ++
      bytesBE 64 0xcf83e1357eefb8bdf1542850d66d8007d620e4050b5715dc83f4a921d36ce9ce47d0d13c5d85f2b0ff8318d2877eec2f63b931bd47417a81a538327af927da3e
    (List.range 88).map (fun i => (q.1 + i, (head[i]?).getD 0)))
theorem wit_FlashAndUpdate_good (h : ∀ m k d g, Config.verifies m k d g = true) :
    slotOk (truR 0#32 (fun t => { t with flash := goodFlash, updOp := some 2 })) 1 = true ∧
    (truR 0#32 (fun t => { t with flash := goodFlash, updOp := some 2 })).g R.TRU_SERIAL_SERIAL <
      imageNum (truR 0#32 (fun t => { t with flash := goodFlash, updOp := some 2 })) 1 false 8 4 := by
  simp only [slotOk, imageCause, h]; decide +kernel
/-! Well-formedness: for each check of `Instr.wf` a term that it refuses. -/

/-- Whether every command of a list is refused by `Instr.wf`. -/
def allRefused (l : List Instr) : Bool := l.all (fun i => !i.wf)
def acc0 : Access := ⟨.pf, 0, 0x64, 1, 15, 0, 0x1F80, 0, [], [], none⟩
/-- A stretch of one sample whose mark lies past it, and one whose mark lies at its end. -/
def badIn : LaneIn := ⟨[5], some 1⟩
def goodIn : LaneIn := ⟨[5, -5], some 1⟩
def pdZero (v : Int) : List (List Int) := List.replicate 7 (List.replicate 8 0) ++ [List.replicate 7 0 ++ [v]]

theorem test_wf_access : allRefused [.registerWrite { acc0 with addr := 0x66 }, .readClear { acc0 with dws := 0 },
    .read64Low { acc0 with addr := 0x410000 }, .read64High { acc0 with req := .vf 0 }, .write64Low { acc0 with req := .vf 256 },
    .write64High { acc0 with rid := 65536 }, .registerWrite { acc0 with req := .vf 1, addr := 0x10000 }, .registerWrite { acc0 with dws := 1025 },
    .registerWrite { acc0 with req := .mgmt 2 }, .registerWrite { acc0 with req := .partner, addr := 0x400000 },
    .registerWrite { acc0 with rivals := [⟨.pf, 16, false⟩] }] = true ∧ (Instr.registerWrite acc0).wf = true := by decide +kernel

theorem test_wf_units : allRefused [.applyAtBoundary [.glbTemp, .pcxWin 256], .autoApply (.stn 8), .autoApply (.lane 68),
    .autoApply (.brlSlot 96), .autoApply (.brlBank 2 0)] = true ∧ (Instr.autoApply (.lane 67)).wf = true := by decide +kernel

theorem test_wf_measured : allRefused [.tempSensorUpdate (Vector.replicate 8 32768), .thermalTripRelease (Vector.replicate 8 (-32769)),
    .wobbleSeedUpdate 0 [2 ^ 31], .pickupTempRead 7 (some 32768), .sampleTick (pdZero 8388608) [] [], .sampleTick [] [] [],
    .pwmPeriod 0 (-8388609) 0 0 0 0 0 0, .pwmPeriod 0 0 0 0 4096 0 0 0, .phaseOvercurrent 0 8388608,
    .busSample 4096 0, .busTrip 4096, .chopperFault 0, .chopperFault 4, .sledCurrentPeriod 0 0 8388608, .sledOvercurrent 0 (-8388609)] = true ∧
    (Instr.sampleTick (pdZero (-8388608)) [] []).wf = true ∧ (Instr.busSample 4095 0).wf = true := by decide +kernel

theorem test_wf_lanes_and_clusters : allRefused [.primarySyncMatch 0 0 badIn, .secondarySyncMatch 0 0 badIn, .hypothesisDecide 0 badIn,
    .flywheelInsertion 0 badIn, .frameLockRegained 0 0 badIn, .defectDeclared 0 badIn, .defectEnd 0 badIn, .defectHoldExceeded 0 badIn,
    .frameDelivery 0 badIn none, .adcFailed 0 badIn false, .laneSpareSwitch (List.replicate 5 (0, 0)), .blockJoinCluster 64 0,
    .streamIdleExpiry 0 (2 ^ 32), .stripeOpen 64 0, .clusterEncode 0 65536, .clusterDecoded (2 ^ 32), .relocationComplete 0 (2 ^ 32),
    .linkSyncWord 0 0 (List.replicate 64 (0, 0)), .linkSyncWord 0 0 [(25, 0)], .linkSyncWord 0 0 [(0, 256)], .clusterWriteStart 0 0 (2 ^ 19),
    .frameVerifyResult 0 0 badIn] = true ∧ (Instr.frameDelivery 67 goodIn none).wf = true ∧ (Instr.linkSyncWord 0 0 [(24, 255)]).wf = true := by
  decide +kernel

theorem test_wf_stations_and_map : allRefused [.stationMount 0 (.vf 0) [] [], .stationRelease 0 .pf false [⟨.pf, 16, true⟩],
    .stationPark 0 (.vf 256) [], .stationWake 0 .pf [⟨.vf 0, 1, false⟩], .stationOffline 0 (.vf 0) false [], .stationOnline 0 (.vf 0) [] [],
    .stationReset 0 (.vf 0) [] [], .dramTrainingComplete 0 ⟨0, 1, false⟩ true, .dramTrainingComplete 0 ⟨1, 3, false⟩ true,
    .scrubRead ⟨0, [⟨0, 0, none, false, [0]⟩]⟩, .registerWrite { acc0 with sram := some ⟨.other, ⟨Vector.replicate 8 0, 0, 0⟩, 255#8, Vector.replicate 8 0⟩ }, .onyxFillComplete (2 ^ 20), .mapLoadComplete ⟨[], [⟨0, 2 ^ 32, 0, 0⟩]⟩, .mapLoadComplete ⟨[], [⟨0, 0, 0, 2 ^ 64⟩]⟩] = true ∧
    (Instr.stationMount 0 (.vf 255) [] []).wf = true := by decide +kernel

theorem test_wf_host : allRefused [.sqTailDoorbell 0 8192 0, .cqHeadDoorbell 1 4096 0, .sqTailDoorbell 0 0 (2 ^ 32), .createCq 16384, .createSq 16384,
    .deleteSq 16384, .deleteCq 16384, .abort 16384, .abortRequestArrival 16384, .setPower 16384, .stationOrder 16384 [] [], .retirePage 16384,
    .write 16384, .writeAcknowledge 16384, .read 16384 [], .flush 16384, .commitOpen 16384, .commitClose 16384, .reelOpen 16384,
    .reelClose 16384, .seal 16384, .completionPosted 1 4096, .configRequest ⟨.config0, 256, 0, false, 15, 0⟩, .ingestTlp ⟨65536, 0, [], false, []⟩,
    .ingestTlp ⟨0, 2 ^ 34, [0], false, []⟩, .bar2Read 0 4097, .bar2Read 65536 4, .translationCompletion 1024 true 0 true true,
    .invalidateRequest 0 0 0 32, .dmaCompletion 1024 .ok [], .completionTimeout 1024, .lateCompletion 1024, .tagQuarantineExpiry 1024,
    .dataLinkUp 6 8 255, .dataLinkUp 5 3 255, .dataLinkUp 5 8 256, .vectorUnmask 0 2048, .vectorUnmask 255 8] = true ∧
    (Instr.sqTailDoorbell 0 8191 0).wf = true ∧ (Instr.vectorUnmask 0 2047).wf = true := by decide +kernel

theorem test_wf_pair_ring_trust : allRefused [.cglLinkUp ⟨0, 3, 0, 0, 0, 0, 0⟩ 255, .cglLinkUp ⟨0, 2, 2, 0, 0, 0, 0⟩ 255,
    .cglLinkUp ⟨0, 2, 1, 0, 0, 0, 0⟩ 256, .dataFlit 4096 true .unknown, .cglRetrainComplete 256, .pinQualifiedEdge 0 true 0 [⟨.vf 0, 1, false⟩],
    .ringMessage [], .ringActionTime [⟨.pf, 16, false⟩], .doeDiscovery 256, .getCertificate 16 0 0, .getCertificate 0 65536 0,
    .getCertificate 0 0 65536, .challenge 16 [], .getMeasurements 256 true []] = true ∧
    (Instr.dataFlit 4095 true .unknown).wf = true ∧ (Instr.ringMessage (List.replicate 21 0)).wf = true := by decide +kernel

/-! The spec's own worked examples, each on one step or one operation. -/

/-- The state after a command: the state itself where the command stops. -/
def after (i : Instr) (s : State) : State :=
  match step { s with pending := [i] } with
  | .next t => t
  | _ => s
def rd1 (a : Nat) : Access := { acc0 with req := .mgmt 0, addr := a }
def timeS : State := { s0 with regs := [(R.QTZ_TIME_LO, 0x9A3C0000#32), (R.QTZ_TIME_HI, 0x12#32), (0x1E0000, 0#32)] }

/-- File 00, example below R8: the low word reads 0x9A3C_0000 and latches the high word. -/
theorem test_read_64_low : (after (.read64Low (rd1 R.QTZ_TIME_LO)) timeS).out = [.readData (.mgmt 0) 0x9A3C0000#32] := by decide +kernel
def shadS : State := { timeS.wr R.QTZ_TIME_HI 0x13#32 with rdShadows := [⟨.mgmt 0, R.QTZ_TIME_LO, 0x12#32⟩] }
/-- The same: the high word reads 0x0000_0012 from the shadow, although the clock has gone on. -/
theorem test_read_64_high : (after (.read64High (rd1 R.QTZ_TIME_HI)) shadS).out = [.readData (.mgmt 0) 0x12#32] ∧
    shadS.rd R.QTZ_TIME_HI = 0x13#32 ∧ timeS.now = 79897034752 := by decide +kernel

/-- File 02, example below R40: the pending view of lane OPL_S5_V2 is at 0x000D_9C00. -/
theorem test_pending_view : laneBase (laneOf 5 2 true).val = 0xD1C00 ∧
    pfTarget (R.OPL_MODE (laneOf 5 2 true).val + 0x8000) = .view (R.OPL_MODE (laneOf 5 2 true).val) := by decide +kernel

/-- File 02, last example, step 1: a write of GLB_TEMP_WARN goes to the pending copy. -/
theorem test_register_write : rdR (after (.registerWrite { acc0 with req := .mgmt 0 }) s0).pend 0x64 = 0x1F80#32 ∧
    (after (.registerWrite { acc0 with req := .mgmt 0 }) s0).rd 0x64 = 0x1B80#32 := by decide +kernel
/-- The same, step 2: with WARN 126.0 staged and CRIT 125.0 the rule fails and GLB_CFGREJ reads 0x8000_0064. -/
theorem test_apply_rejected : (after (.applyAtBoundary [.glbTemp])
      { s0 with stag := [(0x64, 0x1F80#32)], strobes := [⟨.glbTemp, 1#32, 1, false, false⟩] }).rd 0x30 = 0x80000064#32 ∧
    (after (.applyAtBoundary [.glbTemp])
      { s0 with stag := [(0x64, 0x1F80#32)], strobes := [⟨.glbTemp, 1#32, 1, false, false⟩] }).rd 0x64 = 0x1B80#32 := by decide +kernel
/-- The same, step 4: the values 126.0 and 130.0 pass the rule. -/
theorem test_apply_passes : (after (.applyAtBoundary [.glbTemp])
      { s0 with stag := [(0x64, 0x1F80#32), (0x68, 0x2080#32)], strobes := [⟨.glbTemp, 1#32, 1, false, false⟩] }).rd 0x64 = 0x1F80#32 ∧
    (after (.applyAtBoundary [.glbTemp])
      { s0 with stag := [(0x64, 0x1F80#32), (0x68, 0x2080#32)], strobes := [⟨.glbTemp, 1#32, 1, false, false⟩] }).rd 0x68 = 0x2080#32 := by
  decide +kernel

/-- File 03, example below R82: the PCA, the address field and the first channel bits. -/
theorem test_frame_address : mkPca 3 2 0 100000 = 0x380186A0 ∧ frameAddress 5 0x380186A0 = 0x029C06A0 ∧
    dk45Bytes ((bytesBE 4 0x029C06A0).take 1) = [0b00001#5, 0b00101#5] ∧ primarySync = 0x8008009249#40 := by decide +kernel
/-- File 03, example at the end: the slot lies at radius 48.176 mm. -/
theorem test_radius : 48175500 ≤ radiusOf 0x380186A0 ∧ radiusOf 0x380186A0 < 48176500 := by decide +kernel
/-- The same, last step: the written frame begins with the primary sync, its most significant bit first, and then 0b0000100101 (R75 to R78); a
channel bit 1 changes the level. -/
theorem test_written_frame : (frameBits (bytesBE 4 0x029C06A0)).take 50 =
      (List.range 40).map (fun i => Nat.testBit 0x8008009249 (39 - i)) ++ [false, false, false, false, true, false, false, true, false, true] ∧
    nrzi false [true, false, false, true] = [true, true, true, false] := by decide +kernel
/-- The state of station 0 with tracking lock, half a period before the end of a measurement whose mean is 176.31 samples. -/
def wobS : State := { s0.us [(R.BRL_STN_SEQ_STATUS_TLOCK 0, 1), (R.OPL_MODE_MODE 0, 1), (R.OPL_TR_SEED_SRC 0, 1)] with
  stn := vmod s0.stn 0 (fun x => { x with meas := ⟨some (-1), some 88, 0x2C13BE / 256 - 88 - 1 / 2, 127⟩ }) }
/-- File 04, example below R95: with tracking lock a wobble of 176.31 samples gives the seed 0x002C_13BE, which reaches OPL_RATE of a lane seeded by
the wobble; the last zero crossing lies midway between the samples −1 and 1 (R280). -/
theorem test_wobble_seed : (after (.wobbleSeedUpdate 0 [1]) wobS).g (R.OPL_RATE_PERIOD 0) = 0x2C13BE := by decide +kernel
/-- File 05, example below R138, one byte position: D1 and D4 of a 6+2 stripe from the rest. -/
theorem test_stripe_algebra : 0x77 ^^^ 0x11 ^^^ 0x33 ^^^ 0x44 ^^^ 0x66 = 0x77 ∧ gmul gf256 (galpha gf256 2) 0x33 = 0xCC ∧
    gmul gf256 (galpha gf256 3) 0x44 = 0x1A ∧ gmul gf256 (galpha gf256 5) 0x66 = 0x5C ∧ gmul gf256 (galpha gf256 4) 0x77 = 0x23 ∧
    gmul gf256 0x12 0x22 = 0x5E ∧ gmul gf256 (ginv gf256 (galpha gf256 1 ^^^ galpha gf256 4)) (0x23 ^^^ 0x7D) = 0x22 := by decide +kernel
/-- The same: the stations of serial 1,000,003, P first. -/
theorem test_stripe_rotation : (List.range 8).map (fun r => placeStation 1000003 r false 0) = [3, 4, 5, 6, 7, 0, 1, 2] := by decide +kernel
/-- File 06, example below R168: one step of power control gives WRS_PW_LIVE = 0x13CD and an offset of −1.0 %. -/
theorem test_power_control : (powerControl (s0.us [(R.WRS_CTRL_PC_EN 0, 1), (R.WRS_PW_PW 0 0, 5120), (R.WRS_PC_GAIN 0, 0x40),
    (R.WRS_LIMIT_PW_MAX 0, 0xFFFF)]) 0 0 0x0666).g (R.WRS_PW_LIVE_PW 0 0) = 0x13CD ∧
    ((powerControl (s0.us [(R.WRS_CTRL_PC_EN 0, 1), (R.WRS_PW_PW 0 0, 5120), (R.WRS_PC_GAIN 0, 0x40)]) 0 0 0x0666).beam 0 0).offset = -83886080 := by
  decide +kernel
/-- One configuration word of a slot. -/
def slotCfg (typ n bq ff : Nat) : Word :=
  setF (setF (setF (setF (setF 0 (R.BRL_SLOT_CFG_EN 0) 1) (R.BRL_SLOT_CFG_TYPE 0) typ) (R.BRL_SLOT_CFG_STATION 0) n) (R.BRL_SLOT_CFG_BQ_EN 0) bq)
    (R.BRL_SLOT_CFG_FF_EN 0) ff
/-- File 07, example below R187: the load bound at full load is 840 cycles. -/
theorem test_load_bound : loadBound ((List.range 8).flatMap (fun n => [slotCfg tyFOCUS n 31 1, slotCfg tyTRACK n 31 1, slotCfg tyTILT n 31 0,
    slotCfg tySA n 31 0, slotCfg tyCURD n 31 0, slotCfg tyCURQ n 31 0, slotCfg tySPEED n 31 0, slotCfg tySLED n 31 0])) = 840 := by decide +kernel
/-- File 07, below R194: angle 0x9A3C lies between entries 308 and 309 at 60/128; file 09, example of the turnaround: 58.0 mm with
HOME_RADIUS 21,000 µm is 631,467 table steps. -/
theorem test_feed_forward_and_steps : (ffOf (s0.us [(R.SPN_STATUS_ANGLE_VALID 0, 1), (R.SPN_ANGLE_ANGLE 0, 0x9A3C),
    (R.BRL_FF_ENTRY_VALUE 0 0 308, 1000), (R.BRL_FF_ENTRY_VALUE 0 0 309, 1128)]) 0 0).1 = 1060 ∧
    (stepsOf (s0.us [(R.SLD_GEOM_HOME_RADIUS 0, 21000)]) 0 58000000).1 = 631467 := by decide +kernel
/-- File 09, table of R260: reset entries of the sled's current table are rounded sines. -/
theorem test_sine_table : sineEntry 0 = 0 ∧ sineEntry 256 = 32767 ∧ sineEntry 768 = 65536 - 32767 ∧ sineEntry 128 = 23170 := by decide +kernel
/-- File 11, example below R303, with temperatures in the example's ratio 4.6 / 10.8 (Q10.6 cannot hold its tenths): the SA set-point
is 0x01_2A39. -/
theorem test_interpolation : (saOf (s0.us [(R.CAL_TEMP_TEMP 0, 460), (R.CAL_SET0_VALID 0 2 1, 1), (R.CAL_SET5_TEMP 0 2 1, 0),
    (R.CAL_SET2_SA 0 2 1, 0x12000), (R.CAL_SET0_VALID 0 2 5, 1), (R.CAL_SET5_TEMP 0 2 5, 1080), (R.CAL_SET2_SA 0 2 5, 0x13800)]) 0 2).1
    = 0x12A39 := by decide +kernel
/-- File 13, example of R341: block 1,000,000 of volume 3 lies at PCA 0x2402_4CC3. -/
theorem test_map_lookup : clusterOf ⟨false, 3, 7, 1, false, 2, 1, 900000, 2000000, 0, 5000000, 0⟩ 1000000 = (5000893, 2) ∧
    placeStation 5000893 2 false 0 = 7 ∧
    (findMember { s0 with grn := { s0.grn with entries := [(40, .run ⟨7, 15, 12, 0, 4998000, 40000, 0x20000000 + 150000, 9⟩)] } } 5000893 2 7).map
      Found.pca = some 0x24024CC3 := by decide +kernel
/-- File 15, example below R422: window offset 0x0A20_3000 of window 17 is block 2,041,475, and BASE lies at 0x0002_2448. -/
theorem test_window_map : windowAt ingWin 0x10A203000 512 = some 17 ∧ 2000000 + 0xA203000 / 4096 = 2041475 ∧
    R.PCX_WIN_BASE 17 = 0x22448 ∧ pfTarget 0x2A448 = .view 0x22448 := by decide +kernel
/-- File 18, example below R491: the third and fourth words of record 0x1A2B. -/
theorem test_event_record : recWord ⟨⟨79897034752, 0x203, 2, 4, 3, 1000000, 16, 7⟩, 0, 0⟩ 0x1A2B 0 = 0x9A3C0000#32 ∧
    recWord ⟨⟨79897034752, 0x203, 2, 4, 3, 1000000, 16, 7⟩, 0, 0⟩ 0x1A2B 2 = 0x04230203#32 ∧
    recWord ⟨⟨79897034752, 0x203, 2, 4, 3, 1000000, 16, 7⟩, 0, 0⟩ 0x1A2B 3 = 0x00001A2B#32 ∧
    recWord ⟨⟨79897034752, 0x203, 2, 4, 3, 1000000, 16, 7⟩, 0, 0⟩ 0x1A2B 5 = 0x000F4240#32 := by decide +kernel
/-- The same: the driver consumes the record by writing 0x0000_1A2C to EVL_HEAD. -/
theorem test_evl_head : (after (.evlHeadWrite 0x1A2C) (s0.us [(R.EVL_TAIL_COUNT, 0x1A2C), (R.EVL_HEAD_COUNT, 0x1A2B),
    (R.EVL_STATUS_PENDING, 1)])).rd R.EVL_HEAD = 0x1A2C#32 := by decide +kernel

/-! Standards that the spec names: CRC-32C of "123456789" (its catalogued check value) and SHA-512 of no bytes (FIPS 180-4). -/
theorem test_crc32c : crc32c [0x31, 0x32, 0x33, 0x34, 0x35, 0x36, 0x37, 0x38, 0x39] = 0xE3069283 := by decide +kernel
theorem test_sha512 : numBE ((sha512 []).take 8) = 0xcf83e1357eefb8bd := by decide +kernel

/-! The queue. -/
/-- A step runs the command at the front and leaves the rest. -/
theorem test_queue : (match step { s0 with pending := [.jspDisarm, .grnBase] } with | .next t => t.pending | _ => []) = [.grnBase] := by decide +kernel

end Sys2Proof.Tests
end

/-!
PROOF. O8: what one full or partial DW of a management core's access does to a register and to the requester's shadows (R13, R51, R52,
R54). First the layout of a register of one field, then the shadows, then a read and a write of one DW, then the obligation.
-/

namespace Sys2Proof.Machine

/-! Byte enables and a register of one field that fills its word. -/

theorem beMask_full : beMask 15#4 = BitVec.allOnes 32 := by decide

/-- Only four enabled bytes cover a whole word (R54). -/
theorem beMask_partial : ∀ {be : BitVec 4}, be ≠ 15#4 → ~~~ beMask be ≠ 0#32 := by decide

theorem and_beMask_full (w : Word) : w &&& beMask 15#4 = w := by
  rw [beMask_full, BitVec.and_allOnes]

/-- Four enabled bytes replace the whole word (R54). -/
theorem mergeBytes_full (old new : Word) : mergeBytes 15#4 old new = new := by
  rw [mergeBytes, and_beMask_full, beMask_full, BitVec.not_allOnes, BitVec.and_zero, BitVec.zero_or]

/-- The layout of one 32-bit field that is 0 at reset. -/
def oneField (acc : Acc) : List Field := [⟨0, 32, acc, 0⟩]

theorem oneField_mask (acc : Acc) : Field.mask ⟨0, 32, acc, 0⟩ = BitVec.allOnes 32 := by
  simp only [Field.mask]; decide

theorem readWord_oneField {acc : Acc} (h : acc ≠ .wo) (w : Word) : readWord (oneField acc) w = w := by
  have hm : accMask (oneField acc) (fun c => c != .wo) = BitVec.allOnes 32 := by
    simp [accMask, oneField, oneField_mask, h]
  rw [readWord, hm, BitVec.and_allOnes]

theorem writeWord_oneField_rw (data w : Word) : writeWord (oneField .rw) (beMask 15#4) data w = data := by
  simp only [writeWord, oneField, List.foldl_cons, List.foldl_nil, writeField, oneField_mask, beMask_full, BitVec.and_self,
    BitVec.not_allOnes, BitVec.and_zero, BitVec.zero_or, BitVec.and_allOnes]

/-- A covering read clears an RC field (R13). -/
theorem clearOnRead_oneField_full (w : Word) : clearOnRead (oneField .rc) (beMask 15#4) w = 0#32 := by
  simp [clearOnRead, oneField, oneField_mask, beMask_full]

/-- A read that leaves a byte out leaves an RC field of all four bytes alone (R13, R54). -/
theorem clearOnRead_oneField_partial {be : BitVec 4} (h : be ≠ 15#4) (w : Word) : clearOnRead (oneField .rc) (beMask be) w = w := by
  have hm : ¬ (BitVec.allOnes 32 &&& ~~~ beMask be = 0#32) := by
    rw [BitVec.allOnes_and]
    exact beMask_partial h
  simp only [clearOnRead, oneField, oneField_mask, List.foldl_cons, List.foldl_nil, hm, and_false, if_false]

theorem regAt_cfgrejCount : regAt R.GLB_CFGREJ_COUNT = some ⟨0, oneField .rc⟩ := rfl
theorem regAt_qtzTimeLo : regAt R.QTZ_TIME_LO = some ⟨1, oneField .ro⟩ := rfl
theorem regAt_qtzTimeHi : regAt R.QTZ_TIME_HI = some ⟨2, oneField .ro⟩ := rfl
theorem regAt_sldStartTimeLo : ∀ n : Fin 8, regAt (R.SLD_START_TIME_LO n) = some ⟨1, oneField .rw⟩ := by decide
theorem regAt_sldStartTimeHi : ∀ n : Fin 8, regAt (R.SLD_START_TIME_HI n) = some ⟨2, oneField .rw⟩ := by decide

/-- A register without an RWA field has one copy (R39). -/
theorem configurable_oneField_rw {a part : Nat} (h : regAt a = some ⟨part, oneField .rw⟩) : configurable a = false := by
  rw [configurable, h]; rfl

/-! A requester's shadows (R51, R52). -/

theorem shadowAt_setShadow_self (l : List Shadow) (r : Req) (a : Nat) (w : Word) : shadowAt (setShadow l r a w) r a = some w := by
  simp [shadowAt, setShadow]

theorem shadowAt_dropShadow_self (l : List Shadow) (r : Req) (a : Nat) : shadowAt (dropShadow l r) r a = none := by
  have hnone : (dropShadow l r).find? (fun x => x.req == r && x.addr == a) = none := by
    refine List.find?_eq_none.mpr fun x hx => ?_
    have hreq : x.req ≠ r := by simpa using (List.mem_filter.mp hx).2
    simp [hreq]
  rw [shadowAt, hnone]; rfl

/-! An access of one DW by a management core. -/

/-- A requester finds a register at an offset, and the register's block responds. -/
structure Finds (s : State) (r : Req) (a : Nat) (d : RegDef) : Prop where
  target : targetOf r a = .reg a
  layout : regAt a = some d
  responds : reaches s r a = true

/-- A block below TRU and EVL responds to every requester while the FY8C is live (R38). -/
theorem reaches_of_live {s : State} (hs : s.live = true) (r : Req) {a : Nat} (ha : a < 0x1E0000) : reaches s r a = true := by
  have hrec : (!s.on R.TRU_STATUS_RECOVERY) = true := (Bool.and_eq_true_iff.mp hs).2
  rw [reaches, if_neg (by simp; omega), hrec]

theorem finds_mgmt {s : State} (hs : s.live = true) (c : Nat) {a : Nat} {d : RegDef} (hd : regAt a = some d) (ha : a < 0x1E0000) :
    Finds s (.mgmt c) a d where
  target := by simp [targetOf, pfTarget, hd, show ¬ 0x400000 ≤ a by omega]
  layout := hd
  responds := reaches_of_live hs _ ha

/-- A read TLP of one DW by a management core reads that DW (R54). -/
theorem readTlp_mgmt_one {x : Access} {c : Nat} (s : State) (hreq : x.req = .mgmt c) (hdws : x.dws = 1) (hal : x.addr % 4 = 0) :
    readTlp x s = (readDw s (.mgmt c) ⟨x.addr, x.be, x.data⟩).2.emit
      (.readData (.mgmt c) (readDw s (.mgmt c) ⟨x.addr, x.be, x.data⟩).1) := by
  have ha : x.addr / 4 * 4 = x.addr := by omega
  simp [readTlp, served, hreq, hdws, dwParts, ha, readPart, toReq, overPcie]

/-- A write TLP of one DW by a management core, to what no SRAM keeps, writes that DW (R54). -/
theorem writeTlp_mgmt_one {x : Access} {c : Nat} (s : State) (hreq : x.req = .mgmt c) (hdws : x.dws = 1) (hal : x.addr % 4 = 0)
    (hsram : x.sram = none) : writeTlp x s = writeDw x s ⟨x.addr, x.be, x.data⟩ := by
  have ha : x.addr / 4 * 4 = x.addr := by omega
  simp [writeTlp, served, hreq, hdws, hsram, dwParts, ha, overPcie]

section Dw
variable {s : State} {r : Req} {a : Nat} {be : BitVec 4} {data : Word} {fs : List Field}

/-- A read of a register of one DW shows the enabled bytes and clears what it covers of RC fields (R13, R54). -/
theorem readDw_single (h : Finds s r a ⟨0, fs⟩) (hbe : be ≠ 0#4) (hrc : fs.any (fun f => f.acc == .rc) = true) :
    readDw s r ⟨a, be, data⟩ = (readWord fs (s.rd a) &&& beMask be, s.wr a (clearOnRead fs (beMask be) (s.rd a))) := by
  simp [readDw, h.target, h.responds, hbe, defOf, h.layout, shown, hrc]

/-- A full read of a low word latches the high word (R51). -/
theorem readDw_low (h : Finds s r a ⟨1, fs⟩) (hrc : fs.any (fun f => f.acc == .rc) = false) :
    readDw s r ⟨a, 15#4, data⟩ =
      (readWord fs (s.rd a) &&& beMask 15#4, { s with rdShadows := setShadow s.rdShadows r a (s.rd (a + 4)) }) := by
  simp [readDw, h.target, h.responds, defOf, h.layout, shown, highOf, hrc]

/-- A read of a high word whose tag matches shows the latched word, and the shadow is gone (R51). -/
theorem readDw_high {w : Word} (h : Finds s r a ⟨2, fs⟩) (hbe : be ≠ 0#4) (hsh : shadowAt s.rdShadows r (a - 4) = some w) :
    readDw s r ⟨a, be, data⟩ = (w &&& beMask be, { s with rdShadows := dropShadow s.rdShadows r }) := by
  simp [readDw, h.target, h.responds, hbe, defOf, h.layout, hsh]

/-- A home requester's write of a register that is no command goes past the guards (R54). -/
theorem writeDw_home {x : Access} {d : RegDef} (h : Finds s x.req a d) (hhome : isHome x.req = true) (hbe : be ≠ 0#4)
    (hcmd : isCommand d.fields = false) : writeDw x s ⟨a, be, data⟩ = writeReg s x.req (.reg a) d ⟨a, be, data⟩ := by
  simp [writeDw, h.target, h.responds, hhome, hbe, defOf, h.layout, hcmd]

/-- A full write of a low word goes to the write shadow alone (R52). -/
theorem writeReg_low (hw : isWritable fs = true) :
    writeReg s r (.reg a) ⟨1, fs⟩ ⟨a, 15#4, data⟩ = { s with wrShadows := setShadow s.wrShadows r a data } := by
  simp [writeReg, hw, regTag, mergeBytes_full]

/-- A full write of a high word whose tag matches writes both words of a register that has one copy (R52). -/
theorem writeReg_high {fl : List Field} {part : Nat} {w : Word} (hw : isWritable fs = true) (hlow : regAt a = some ⟨part, fl⟩)
    (hca : configurable a = false) (hcb : configurable (a + 4) = false) (hq : a ≠ R.QTZ_SET_LO)
    (hsh : shadowAt s.wrShadows r a = some w) :
    writeReg s r (.reg (a + 4)) ⟨2, fs⟩ ⟨a + 4, 15#4, data⟩ =
      (({ s with wrShadows := dropShadow s.wrShadows r }).wr a (writeWord fl (beMask 15#4) w (s.rd a))).wr (a + 4)
        (writeWord fs (beMask 15#4) data (s.rd (a + 4))) := by
  simp [writeReg, hw, lowOf, regTag, hsh, defOf, hlow, writeCopy, putWritten, hca, hcb, hq]

end Dw

/-- A command that is answered out of reset has its effect on a live FY8C. -/
theorem does_of_answerUp {i : Instr} {s : State} {k : State → State} {P : State → Prop} (hs : s.live = true)
    (hi : exec i s = answerUp s k) (hP : P (k s)) : Does i s P :=
  ⟨k s, hi.trans (answerUp_up k (up_of_live hs)), hP⟩

/-- Writing a register what it holds changes no register. -/
theorem State.rd_wr_same (s : State) (a b : Nat) : (s.wr a (s.rd a)).rd b = s.rd b := by
  by_cases h : b = a
  · rw [h, State.rd_wr_self]
  · exact s.rd_wr_other _ h

/-! What each of the accesses of O8 answers. -/

section Accesses
variable {s : State} {x : Access} {c : Nat} (hs : s.live = true) (hreq : x.req = .mgmt c) (hdws : x.dws = 1)
include hs hreq hdws

/-- A read of GLB_CFGREJ_COUNT (R13, R54). -/
theorem readTlp_cfgrejCount (haddr : x.addr = R.GLB_CFGREJ_COUNT) (hbe : x.be ≠ 0#4) :
    readTlp x s = (s.wr R.GLB_CFGREJ_COUNT (clearOnRead (oneField .rc) (beMask x.be) (s.rd R.GLB_CFGREJ_COUNT))).emit
      (.readData (.mgmt c) (s.rd R.GLB_CFGREJ_COUNT &&& beMask x.be)) := by
  have hf := finds_mgmt hs c regAt_cfgrejCount (by decide)
  rw [readTlp_mgmt_one s hreq hdws (by rw [haddr]; rfl), haddr, readDw_single hf hbe rfl, readWord_oneField (by decide)]

/-- A full read of the low word of Quartz time (R51). -/
theorem readTlp_qtzTimeLo (haddr : x.addr = R.QTZ_TIME_LO) (hbe : x.be = 15#4) :
    readTlp x s = ({ s with rdShadows := setShadow s.rdShadows (.mgmt c) R.QTZ_TIME_LO (s.rd R.QTZ_TIME_HI) } : State).emit
      (.readData (.mgmt c) (s.rd R.QTZ_TIME_LO)) := by
  have hf := finds_mgmt hs c regAt_qtzTimeLo (by decide)
  rw [readTlp_mgmt_one s hreq hdws (by rw [haddr]; rfl), haddr, hbe, readDw_low hf rfl, readWord_oneField (by decide), and_beMask_full]
  rfl

/-- A full read of the high word of Quartz time whose tag matches (R51). -/
theorem readTlp_qtzTimeHi {w : Word} (haddr : x.addr = R.QTZ_TIME_HI) (hbe : x.be = 15#4) (hsh : shadowAt s.rdShadows (.mgmt c) R.QTZ_TIME_LO = some w) :
    readTlp x s = ({ s with rdShadows := dropShadow s.rdShadows (.mgmt c) } : State).emit (.readData (.mgmt c) w) := by
  have hf := finds_mgmt hs c regAt_qtzTimeHi (by decide)
  rw [readTlp_mgmt_one s hreq hdws (by rw [haddr]; rfl), haddr, hbe, readDw_high hf (by decide) hsh, and_beMask_full]

/-- A full write of the low word of SLD_START_TIME (R52). -/
theorem writeTlp_sldStartTimeLo (n : Fin 8) (haddr : x.addr = R.SLD_START_TIME_LO n) (hbe : x.be = 15#4) (hsram : x.sram = none) :
    writeTlp x s = { s with wrShadows := setShadow s.wrShadows (.mgmt c) (R.SLD_START_TIME_LO n) x.data } := by
  have ha : R.SLD_START_TIME_LO n % 4 = 0 ∧ R.SLD_START_TIME_LO n < 0x1E0000 := by unfold R.SLD_START_TIME_LO; omega
  have hf : Finds s x.req _ _ := hreq ▸ finds_mgmt hs c (regAt_sldStartTimeLo n) ha.2
  rw [writeTlp_mgmt_one s hreq hdws (haddr ▸ ha.1) hsram, haddr, hbe, writeDw_home hf (by rw [hreq]; rfl) (by decide) rfl,
    writeReg_low rfl, hreq]

/-- A full write of the high word of SLD_START_TIME whose tag matches (R52). -/
theorem writeTlp_sldStartTimeHi (n : Fin 8) {w : Word} (haddr : x.addr = R.SLD_START_TIME_HI n) (hbe : x.be = 15#4)
    (hsram : x.sram = none) (hsh : shadowAt s.wrShadows (.mgmt c) (R.SLD_START_TIME_LO n) = some w) :
    writeTlp x s = (({ s with wrShadows := dropShadow s.wrShadows (.mgmt c) }).wr (R.SLD_START_TIME_LO n) w).wr
      (R.SLD_START_TIME_HI n) x.data := by
  have hhi : R.SLD_START_TIME_HI n = R.SLD_START_TIME_LO n + 4 := by unfold R.SLD_START_TIME_HI R.SLD_START_TIME_LO; omega
  have ha : R.SLD_START_TIME_HI n % 4 = 0 ∧ R.SLD_START_TIME_HI n < 0x1E0000 := by unfold R.SLD_START_TIME_HI; omega
  have hq : R.SLD_START_TIME_LO n ≠ R.QTZ_SET_LO := by unfold R.SLD_START_TIME_LO R.QTZ_SET_LO; omega
  have hf : Finds s x.req _ _ := hreq ▸ finds_mgmt hs c (regAt_sldStartTimeHi n) ha.2
  have hch := configurable_oneField_rw (regAt_sldStartTimeHi n)
  rw [writeTlp_mgmt_one s hreq hdws (haddr ▸ ha.1) hsram, haddr, hbe, writeDw_home hf (by rw [hreq]; rfl) (by decide) rfl, hreq]
  rw [hhi] at hch ⊢
  rw [writeReg_high rfl (regAt_sldStartTimeLo n) (configurable_oneField_rw (regAt_sldStartTimeLo n)) hch hq hsh,
    writeWord_oneField_rw, writeWord_oneField_rw]

end Accesses

/-- Settles O8: each clause reads what it says off the answer of its one access. -/
theorem readClearAndShadows : Obligations.ReadClearAndShadows := by
  intro s c rid be be2 d d2 hs
  refine ⟨fun hbe => ?coveringRead, fun hbe hbe0 => ?partialRead, ?timeLow, fun w hsh => ?timeHigh,
    fun n => ⟨?startLow, fun w hsh => ?startHigh⟩⟩
  case coveringRead =>
    refine does_of_answerUp hs rfl ?_
    rw [readClear, readTlp_cfgrejCount hs rfl rfl rfl (by simp [hbe]), hbe, clearOnRead_oneField_full, and_beMask_full]
    refine ⟨?_, rfl, fun a ha => ?_⟩
    · rw [State.emit_rd, State.rd_wr_self]
    · rw [State.emit_rd, State.rd_wr_other _ _ (List.ne_of_not_mem_cons ha)]
  case partialRead =>
    refine does_of_answerUp hs rfl ?_
    rw [readClear, readTlp_cfgrejCount hs rfl rfl rfl hbe0, clearOnRead_oneField_partial hbe]
    exact ⟨State.rd_wr_same s _, rfl⟩
  case timeLow =>
    refine does_of_answerUp hs rfl ?_
    rw [readLow, readTlp_qtzTimeLo hs rfl rfl rfl rfl]
    exact ⟨shadowAt_setShadow_self .., rfl, rfl⟩
  case timeHigh =>
    refine does_of_answerUp hs rfl ?_
    rw [readHigh, readTlp_qtzTimeHi hs rfl rfl rfl rfl hsh]
    exact ⟨rfl, shadowAt_dropShadow_self .., rfl⟩
  case startLow =>
    refine does_of_answerUp hs rfl ?_
    rw [writeLow, writeTlp_sldStartTimeLo hs rfl rfl n rfl rfl rfl]
    exact ⟨shadowAt_setShadow_self .., rfl⟩
  case startHigh =>
    have hne : R.SLD_START_TIME_LO n ≠ R.SLD_START_TIME_HI n := by unfold R.SLD_START_TIME_LO R.SLD_START_TIME_HI; omega
    refine does_of_answerUp hs rfl ?_
    rw [writeHigh, writeTlp_sldStartTimeHi hs rfl rfl n rfl rfl rfl hsh]
    refine ⟨?_, State.rd_wr_self .., fun a ha => ?_, rfl⟩
    · rw [State.rd_wr_other _ _ hne, State.rd_wr_self]
    · obtain ⟨hlo, hhi⟩ : a ≠ R.SLD_START_TIME_LO n ∧ a ≠ R.SLD_START_TIME_HI n := by simpa using ha
      rw [State.rd_wr_other _ _ hhi, State.rd_wr_other _ _ hlo]
      rfl

end Sys2Proof.Machine

/-!
PROOF. O39: what STRIPE_MAP_UPDATE does with the map, the stripes and the buffer (R21, R22, R24, R341, R342, R344, R353). First what a change
of the table leaves alone, then room in the table, the release of a stripe's pages, the best of a fold, then the obligation.
-/

namespace Sys2Proof.Machine

/-! The pages and the table as lists of keyed entries. -/

theorem mem_of_smGet {α : Type} {m : SMap α} {k : Nat} {v : α} (h : smGet m k = some v) : (k, v) ∈ m := by
  induction m with
  | nil => cases h
  | cons p t ih =>
    rw [smGet] at h
    split at h
    · next hk => cases h; subst hk; exact List.mem_cons_self ..
    · exact List.mem_cons_of_mem _ (ih h)

/-- A listed key is found. -/
theorem smGet_isSome_of_mem {α : Type} {m : SMap α} {p : Nat × α} (h : p ∈ m) : ∃ v, smGet m p.1 = some v := by
  induction m with
  | nil => cases h
  | cons q t ih =>
    rw [smGet]
    split
    · exact ⟨_, rfl⟩
    · next hk => exact ih ((List.mem_cons.mp h).resolve_left fun e => hk (e ▸ rfl))

/-- What is listed once under its key is what the key finds. -/
theorem smGet_of_unique {α : Type} {m : SMap α} {p : Nat × α} (h : p ∈ m) (hu : ∀ x ∈ m, x.1 = p.1 → x = p) : smGet m p.1 = some p.2 := by
  obtain ⟨v, hv⟩ := smGet_isSome_of_mem h
  rw [hv, ← hu _ (mem_of_smGet hv) rfl]

theorem smErase_eq_filter {α : Type} (m : SMap α) (k : Nat) : smErase m k = m.filter (fun p => p.1 != k) := by
  induction m with
  | nil => rfl
  | cons p t ih =>
    rw [smErase, List.filter_cons, ih]
    by_cases hk : p.1 = k <;> simp [hk]

theorem mem_smErase_iff {α : Type} {m : SMap α} {k : Nat} {p : Nat × α} : p ∈ smErase m k ↔ p ∈ m ∧ p.1 ≠ k := by
  simp [smErase_eq_filter]

theorem mem_foldl_smErase_iff {α : Type} (ks : List Nat) (m : SMap α) (p : Nat × α) : p ∈ ks.foldl smErase m ↔ p ∈ m ∧ p.1 ∉ ks := by
  induction ks generalizing m with
  | nil => simp
  | cons k t ih => rw [List.foldl_cons, ih, mem_smErase_iff, List.mem_cons, not_or, and_assoc]

theorem length_smInsert {α : Type} (m : SMap α) (k : Nat) (v : α) : (smInsert m k v).length = m.length + 1 := by
  induction m with
  | nil => rfl
  | cons p t ih =>
    rw [smInsert]
    split
    · rfl
    · rw [List.length_cons, ih, List.length_cons]

theorem length_smPut_le {α : Type} (m : SMap α) (k : Nat) (v : α) : (smPut m k v).length ≤ m.length + 1 := by
  rw [smPut, length_smInsert, smErase_eq_filter]
  exact Nat.succ_le_succ (List.length_filter_le ..)

/-! What a map change leaves alone. -/

/-- What the changes of the map leave alone: the buffer, the stripes, the endpoint, the commit groups, and whether mirror traffic flows. -/
structure AsideMap where
  buf : Buf
  tpz : Tpz
  pcx : Pcx
  groups : List Grp
  mirror : Bool

def aside (s : State) : AsideMap := ⟨s.buf, s.tpz, s.pcx, s.grn.groups, mirroring s⟩

/-- What the journal, Onyx and the registers of both leave alone: the entries, those that wait, and what the map leaves alone. -/
structure MapView where
  entries : SMap Entry
  waiting : List Entry
  aside : AsideMap

def mapView (s : State) : MapView := ⟨s.grn.entries, s.grn.waiting, aside s⟩

/-- Whether mirror traffic flows stands in CGL_CTRL and CGL_STATUS alone (R438, R461). -/
theorem mirroring_congr {s t : State} (hc : t.rd R.CGL_CTRL = s.rd R.CGL_CTRL) (hs : t.rd R.CGL_STATUS = s.rd R.CGL_STATUS) :
    mirroring t = mirroring s := by
  have hm : pairMode t = pairMode s := congrArg (getF · R.CGL_CTRL_MODE) hc
  have hp : pairSt t = pairSt s := congrArg (getF · R.CGL_STATUS_STATE) hs
  rw [mirroring, mirroring, hm, hp]

theorem mapView_wr (s : State) {a : Nat} (w : Word) (ha : R.CGL_CTRL ≠ a ∧ R.CGL_STATUS ≠ a) : mapView (s.wr a w) = mapView s := by
  have hm : mirroring (s.wr a w) = mirroring s := mirroring_congr (s.rd_wr_other w ha.1) (s.rd_wr_other w ha.2)
  simp [mapView, aside, hm]

theorem mapView_u (s : State) (f : FRef) (v : Nat) (hf : R.CGL_CTRL ≠ f.addr ∧ R.CGL_STATUS ≠ f.addr) : mapView (s.u f v) = mapView s :=
  mapView_wr s _ hf

theorem mapView_bump (s : State) {a : Nat} (ha : R.CGL_CTRL ≠ a ∧ R.CGL_STATUS ≠ a) : mapView (s.bump a) = mapView s :=
  mapView_wr s _ ha

@[simp] theorem mapView_onxU (s : State) (f : Onx → Onx) : mapView (s.onxU f) = mapView s := rfl
@[simp] theorem mapView_cglU (s : State) (f : Cgl → Cgl) : mapView (s.cglU f) = mapView s := rfl
@[simp] theorem mapView_hqeU (s : State) (f : Hqe → Hqe) : mapView (s.hqeU f) = mapView s := rfl
@[simp] theorem mapView_log (s : State) (c r : Nat) (l : List Nat) (k : Nat) : mapView (s.log c r l k) = mapView s := rfl
@[simp] theorem mapView_copyLine (s : State) (l : Nat) : mapView (copyLine s l) = mapView s := rfl
@[simp] theorem mapView_noteUse (s : State) (set way : Nat) : mapView (noteUse s set way) = mapView s := rfl

@[simp] theorem mapView_refreshOnx (s : State) : mapView (refreshOnx s) = mapView s := by
  simp (disch := decide) only [refreshOnx, State.us_cons, State.us_nil, mapView_u]

@[simp] theorem mapView_refreshJournal (s : State) : mapView (refreshJournal s) = mapView s := by
  simp (disch := decide) only [refreshJournal, State.us_cons, State.us_nil, mapView_u]

@[simp] theorem mapView_refreshMap (s : State) : mapView (refreshMap s) = mapView s := by
  simp only [refreshMap, State.us_cons, State.us_nil]
  split <;> simp (disch := decide) only [mapView_log, mapView_u]

/-- A line written back leaves the journal, and nothing else of the map changes (R356). -/
@[simp] theorem mapView_writeBack (s : State) (l : Nat) : mapView (writeBack s l) = mapView s := by
  rw [writeBack, mapView_refreshJournal, mapView_refreshOnx]
  exact mapView_bump _ (by decide)

@[simp] theorem mapView_whenB_writeBack (s : State) (d : Bool) (l : Nat) : mapView (s.whenB d (fun s => writeBack s l)) = mapView s := by
  cases d
  · rfl
  · exact mapView_writeBack s l

@[simp] theorem mapView_trimVictims (s : State) : mapView (trimVictims s) = mapView s := by
  unfold trimVictims
  split
  · rfl
  · split
    · rfl
    · simp

@[simp] theorem mapView_evict (s : State) (set way : Nat) : mapView (evict s set way) = mapView s := by
  unfold evict
  split
  · rfl
  · dsimp only
    split <;> simp

@[simp] theorem mapView_installAt (s : State) (l way : Nat) (d : Bool) : mapView (installAt s l way d) = mapView s := by
  simp [installAt]

@[simp] theorem mapView_touch (s : State) (l : Nat) (d : Bool) : mapView (touch s l d).2 = mapView s := by
  unfold touch
  split
  · simp (disch := decide) [mapView_bump]
  · split
    · simp (disch := decide) [mapView_bump]
    · dsimp only
      split
      · simp
      · split
        · simp
        · simp (disch := decide) [mapView_bump]

@[simp] theorem mapView_journalRoom (s : State) : mapView (journalRoom s) = mapView s := by
  unfold journalRoom
  split
  · rfl
  · split
    · rfl
    · simp

@[simp] theorem mapView_mapFlit (s : State) (i : Nat) : mapView (mapFlit s i) = mapView s := by
  unfold mapFlit queueFlits
  split
  · split <;> rfl
  · rfl

/-- A change that is noted leaves the table as it stands (R356). -/
@[simp] theorem mapView_changed (s : State) (i : Nat) : mapView (changed s i) = mapView s := by
  rw [changed, mapView_refreshMap, mapView_refreshJournal, mapView_bump _ (by decide), mapView_touch]
  exact (mapView_mapFlit _ i).trans (mapView_journalRoom s)

/-! What entering does to the table. -/

theorem putEntry_entries (s : State) (i : Nat) (e : Entry) : (putEntry s i e).grn.entries = smPut s.grn.entries i e :=
  congrArg MapView.entries (mapView_changed _ i)

theorem putEntry_waiting (s : State) (i : Nat) (e : Entry) : (putEntry s i e).grn.waiting = s.grn.waiting :=
  congrArg MapView.waiting (mapView_changed _ i)

@[simp] theorem aside_putEntry (s : State) (i : Nat) (e : Entry) : aside (putEntry s i e) = aside s :=
  congrArg MapView.aside (mapView_changed _ i)

/-- An entry that was set is found. -/
theorem smGet_putEntry (s : State) (i : Nat) (e : Entry) : smGet (putEntry s i e).grn.entries i = some e := by
  rw [putEntry_entries, smGet_smPut_self]

/-- In a full table a new entry waits (R344). -/
theorem addEntry_full {s : State} (h : mapFull s = true) (e : Entry) :
    addEntry s e = { s with grn := { s.grn with waiting := s.grn.waiting ++ [e] } } := if_pos h

theorem addEntry_room {s : State} (h : mapFull s = false) (e : Entry) : addEntry s e = putEntry s.tick (freeEntry s) e :=
  if_neg (by simp [h])

@[simp] theorem aside_addEntry (s : State) (e : Entry) : aside (addEntry s e) = aside s := by
  cases h : mapFull s
  · rw [addEntry_room h, aside_putEntry]; rfl
  · rw [addEntry_full h]; rfl

/-- A disc that the map knows keeps its entry (R281). -/
theorem ensureDisc_known {s : State} {id d : Nat} (h : discIndex s id = some d) : ensureDisc s id = (d, s) := by
  rw [ensureDisc, h]

@[simp] theorem aside_ensureDisc (s : State) (id : Nat) : aside (ensureDisc s id).2 = aside s := by
  unfold ensureDisc
  split
  · rfl
  · exact aside_addEntry ..

@[simp] theorem aside_mapMember (s : State) (t : Stripe) (m : Mem) : aside (mapMember s t m) = aside s := by
  unfold mapMember
  dsimp only
  split
  · simp
  · split <;> simp

@[simp] theorem aside_mapData (s : State) (t : Stripe) (j : Nat) (c : Clu) : aside (mapData s t j c) = aside s := by
  unfold mapData
  dsimp only
  split
  · simp
  · split
    · rfl
    · split <;> simp

@[simp] theorem aside_recordFronts (s : State) (n : Fin 8) : aside (recordFronts s n) = aside s := by
  unfold recordFronts
  split
  · rfl
  · split
    · dsimp only
      split
      · rfl
      · simp
    · rfl

theorem recordFronts_waiting (s : State) (n : Fin 8) : (recordFronts s n).grn.waiting = s.grn.waiting := by
  unfold recordFronts
  split
  · rfl
  · split
    · dsimp only
      split
      · rfl
      · exact putEntry_waiting ..
    · rfl

/-! Room in the table. -/

/-- `t` comes from `s` by entering at most `k` entries: the table grows by no more, and where it has room for them none waits (R344). -/
structure Enters (k : Nat) (s t : State) : Prop where
  size : t.grn.entries.length ≤ s.grn.entries.length + k
  fits : s.grn.entries.length + k ≤ mapSize → t.grn.waiting = s.grn.waiting

theorem Enters.refl (k : Nat) (s : State) : Enters k s s := ⟨Nat.le_add_right .., fun _ => rfl⟩

theorem Enters.trans {j k : Nat} {s t u : State} (h : Enters j s t) (h' : Enters k t u) : Enters (j + k) s u where
  size := by have := h.size; have := h'.size; omega
  fits hr := by have := h.size; rw [h'.fits (by omega), h.fits (by omega)]

theorem Enters.each {α : Type} {j : Nat} {k : State → α → State} (h : ∀ s x, Enters j s (k s x)) (l : List α) (s : State) :
    Enters (j * l.length) s (s.each l k) := by
  induction l generalizing s with
  | nil => exact Enters.refl ..
  | cons x t ih =>
    have hx := (h s x).trans (ih (k s x))
    rwa [List.length_cons, Nat.mul_succ, Nat.add_comm]

theorem enters_putEntry (s : State) (i : Nat) (e : Entry) : Enters 1 s (putEntry s i e) where
  size := putEntry_entries s i e ▸ length_smPut_le ..
  fits _ := putEntry_waiting ..

theorem enters_addEntry (s : State) (e : Entry) : Enters 1 s (addEntry s e) := by
  cases h : mapFull s
  · have hp := enters_putEntry s.tick (freeEntry s) e
    rw [addEntry_room h]
    exact ⟨hp.size, hp.fits⟩
  · have hfull : mapSize ≤ s.grn.entries.length := of_decide_eq_true h
    rw [addEntry_full h]
    exact ⟨Nat.le_succ _, fun hr => absurd hr (by omega)⟩

theorem enters_ensureDisc (s : State) (id : Nat) : Enters 1 s (ensureDisc s id).2 := by
  unfold ensureDisc
  split
  · exact Enters.refl ..
  · exact enters_addEntry ..

/-- A member takes two entries at most: its own and its disc's. -/
theorem enters_mapMember (s : State) (t : Stripe) (m : Mem) : Enters 2 s (mapMember s t m) := by
  unfold mapMember
  dsimp only
  split
  · exact (enters_ensureDisc ..).trans (enters_addEntry ..)
  · split
    · exact (enters_ensureDisc ..).trans (enters_putEntry ..)
    · exact (enters_ensureDisc ..).trans (enters_addEntry ..)

theorem enters_mapData (s : State) (t : Stripe) (j : Nat) (c : Clu) : Enters 1 s (mapData s t j c) := by
  unfold mapData
  dsimp only
  split
  · exact enters_addEntry ..
  · split
    · exact Enters.refl ..
    · split
      · exact enters_putEntry ..
      · exact enters_addEntry ..

/-! A stripe enters the map and is released (stages 8 and 9 of R21). -/

/-- Stage 8: the entries of a stripe's members and data (R342). -/
def enterStripe (s : State) (t : Stripe) : State :=
  (s.each (t.mems.filter (fun m => m.st == .verified)) (fun s m => mapMember s t m)).each t.data.zipIdx (fun s c => mapData s t c.2 c.1)

/-- The pages that a stripe's data still holds. -/
def stripePages (s : State) (t : Stripe) : List Nat := t.data.flatMap (clusterPages s)

/-- A page whose data counts for reads (R352). -/
def pageVisible (s : State) (b : Nat) : Bool := ((smGet s.buf.pages b).map (fun p => grpVisible s p.group)).getD false

/-- The pages of a stripe are mapped. -/
def markStripe (s : State) (t : Stripe) : State := pagesU s (fun b _ => (stripePages s t).contains b) (fun p => { p with mapped := true })

/-- Stage 9: the pages of a stripe are mapped, those that are visible are let go, and the stripe is gone (R21, R22). -/
def releaseStripe (s : State) (t : Stripe) : State :=
  (letGo (markStripe s t) ((stripePages s t).filter (pageVisible (markStripe s t)))).tpzU
    (fun z => { z with stripes := z.stripes.filter (fun x => x.serial != t.serial) })

theorem mapStripe_eq (s : State) (t : Stripe) : mapStripe s t = releaseStripe ((enterStripe s t).each stations recordFronts) t := by
  simp only [mapStripe, releaseStripe, markStripe, enterStripe, stripePages]
  rfl

theorem aside_enterStripe (s : State) (t : Stripe) : aside ((enterStripe s t).each stations recordFronts) = aside s := by
  rw [State.each_proj aside _ aside_recordFronts, enterStripe, State.each_proj aside _ (fun s (x : Clu × Nat) => aside_mapData s t x.2 x.1),
    State.each_proj aside _ (fun s m => aside_mapMember s t m)]

/-- In a table with room for a stripe's entries none of them waits (R344). -/
theorem enterStripe_waiting {s : State} {t : Stripe} (h : s.grn.entries.length + 2 * t.mems.length + t.data.length ≤ mapSize) :
    ((enterStripe s t).each stations recordFronts).grn.waiting = s.grn.waiting := by
  have hmems := Enters.each (fun s m => enters_mapMember s t m) (t.mems.filter (fun m => m.st == .verified)) s
  have hall := hmems.trans (Enters.each (fun s (x : Clu × Nat) => enters_mapData s t x.2 x.1) t.data.zipIdx _)
  have hlen : (t.mems.filter (fun m => m.st == .verified)).length ≤ t.mems.length := List.length_filter_le ..
  rw [State.each_proj (fun s => s.grn.waiting) _ recordFronts_waiting]
  exact hall.fits (by rw [List.length_zipIdx]; omega)

/-! Letting pages go changes no entry of the map, whatever is sent to the partner. -/

theorem pumpFlits_grn (s : State) (l : List FlitBody) : (pumpFlits s l).1.grn = s.grn := by
  induction l generalizing s with
  | nil => rfl
  | cons b t ih =>
    rw [pumpFlits]
    split
    · exact ih _
    · rfl

theorem pumpCgl_grn (s : State) : (pumpCgl s).grn = s.grn := by
  unfold pumpCgl
  dsimp only
  split
  · exact (pumpFlits_grn _ _).trans (pumpFlits_grn s _)
  · exact pumpFlits_grn s _

theorem sendFlits_grn (s : State) (l : List FlitBody) : (sendFlits s l).grn = s.grn := by
  unfold sendFlits queueFlits
  split
  · exact pumpCgl_grn _
  · rfl

theorem letGo_grn (s : State) (bs : List Nat) : (letGo s bs).grn = s.grn := by
  unfold letGo
  split
  · rfl
  · dsimp only
    split
    · exact sendFlits_grn ..
    · exact sendFlits_grn ..

theorem letGo_unpaired {s : State} (h : mirroring s = false) (bs : List Nat) : letGo s bs = freePages s bs := if_pos (by simp [h])

theorem releaseStripe_grn (s : State) (t : Stripe) : (releaseStripe s t).grn = s.grn := letGo_grn ..

theorem mapStripe_waiting {s : State} {t : Stripe} (h : s.grn.entries.length + 2 * t.mems.length + t.data.length ≤ mapSize) :
    (mapStripe s t).grn.waiting = s.grn.waiting := by
  rw [mapStripe_eq, releaseStripe_grn, enterStripe_waiting h]

/-- A stripe that was mapped is no longer held. -/
theorem mapStripe_serial_ne {s : State} {t u : Stripe} (h : u ∈ (mapStripe s t).tpz.stripes) : u.serial ≠ t.serial := by
  have := (List.mem_filter.mp h).2
  simpa using this

/-! What the release of a stripe does where no mirror traffic flows. -/

/-- Changing pages keeps each under its number. -/
theorem smGet_pagesU (s : State) (c : Nat → Page → Bool) (f : Page → Page) (b : Nat) :
    smGet (pagesU s c f).buf.pages b = (smGet s.buf.pages b).map (fun p => if c b p then f p else p) := by
  simp only [pagesU]
  induction s.buf.pages with
  | nil => rfl
  | cons q t ih =>
    have hq : (if c q.1 q.2 then (q.1, f q.2) else q) = (q.1, if c q.1 q.2 then f q.2 else q.2) := by split <;> rfl
    rw [List.map_cons, hq, smGet, smGet, ih]
    split
    · next hk => rw [hk, Option.map_some]
    · rfl

theorem pageVisible_markStripe (s : State) (t : Stripe) : pageVisible (markStripe s t) = pageVisible s := by
  funext b
  rw [pageVisible, markStripe, smGet_pagesU, pageVisible, Option.map_map]
  congr 2
  funext p
  simp only [Function.comp]
  split <;> rfl

/-- The pages of a stripe that is released: what is left, and as what (R21, R22). -/
theorem mem_pages_releaseStripe {s : State} (h : mirroring s = false) (t : Stripe) (q : Nat × Page) :
    q ∈ (releaseStripe s t).buf.pages ↔ ∃ p ∈ s.buf.pages, p.1 = q.1 ∧
      q.2 = (if p.1 ∈ stripePages s t then { p.2 with mapped := true } else p.2) ∧
      ¬ (p.1 ∈ stripePages s t ∧ pageVisible s p.1 = true) := by
  have hm : mirroring (markStripe s t) = false := h
  have hmark : ∀ p : Nat × Page, (if (stripePages s t).contains p.1 then (p.1, { p.2 with mapped := true }) else p) =
      (p.1, if p.1 ∈ stripePages s t then { p.2 with mapped := true } else p.2) := fun p => by
    by_cases hp : p.1 ∈ stripePages s t <;> simp [hp]
  rw [releaseStripe, letGo_unpaired hm, pageVisible_markStripe]
  simp only [State.tpzU_buf, freePages, refreshPool, State.u_buf, mem_foldl_smErase_iff, markStripe, pagesU, List.mem_map, hmark,
    List.mem_filter]
  constructor
  · rintro ⟨⟨p, hp, rfl⟩, hkept⟩
    exact ⟨p, hp, rfl, rfl, hkept⟩
  · rintro ⟨p, hp, hk, hv, hkept⟩
    exact ⟨⟨p, hp, Prod.ext hk hv.symm⟩, hk ▸ hkept⟩

/-! The host's side: what was held back for want of pages, and the power states. -/

@[simp] theorem aside_complete (s : State) (tag status result : Nat) (d : Bool) : aside (complete s tag status result d) = aside s := by
  unfold complete
  split
  · rfl
  · split
    · rfl
    · split <;> rfl

theorem aside_checkPower (s : State) : aside (checkPower s) = aside s := by
  unfold checkPower
  split
  · rfl
  · dsimp only
    split
    · rfl
    · rw [aside_complete]
      refine congrArg MapView.aside (?_ : mapView _ = mapView s)
      simp (disch := decide) only [State.us_cons, State.us_nil, mapView_hqeU, mapView_u]

theorem retryHold_none {s : State} (h : s.pcx.hold = none) : retryHold s = s := by
  rw [retryHold, h]

/-- Nothing goes on while credits are held back, or where nothing waited for them (R412, R422). -/
theorem drainPosted_idle {s : State} (h : s.pcx.hold ≠ none ∨ s.pcx.posted = []) : drainPosted s = s := by
  rcases h with h | h
  · have hc : creditsHeld s = true := Option.isSome_iff_ne_none.mpr h
    rw [drainPosted, if_pos hc]
  · rw [drainPosted, h]
    split
    · rfl
    · exact congrArg (fun l => s.pcxU (fun x => { x with posted := l })) h.symm

/-! The stripe that is mapped, and the entry that a lookup selects, are the best of a list. -/

section Best
variable {α : Type} {R : α → α → Prop} {f : Option α → α → Option α} (hrefl : ∀ x, R x x) (htrans : ∀ {x y z}, R x y → R y z → R x z)
  (hsome : ∀ b x, f (some b) x = some x ∧ R x b ∨ f (some b) x = some b ∧ R b x)
include hrefl htrans hsome

theorem foldl_best_from {l : List α} {b m : α} (h : l.foldl f (some b) = some m) : m ∈ b :: l ∧ ∀ x ∈ b :: l, R m x := by
  induction l generalizing b with
  | nil =>
    cases h
    exact ⟨List.mem_singleton_self _, fun x hx => List.mem_singleton.mp hx ▸ hrefl _⟩
  | cons y t ih =>
    rw [List.foldl_cons] at h
    rcases hsome b y with ⟨hy, hR⟩ | ⟨hb, hR⟩
    · obtain ⟨hm, hbest⟩ := ih (hy ▸ h)
      exact ⟨List.mem_cons_of_mem _ hm, List.forall_mem_cons.mpr ⟨htrans (hbest y (List.mem_cons_self ..)) hR, hbest⟩⟩
    · obtain ⟨hm, hbest⟩ := ih (hb ▸ h)
      obtain ⟨hmb, hrest⟩ := List.forall_mem_cons.mp hbest
      refine ⟨?_, List.forall_mem_cons.mpr ⟨hmb, List.forall_mem_cons.mpr ⟨htrans hmb hR, hrest⟩⟩⟩
      rcases List.mem_cons.mp hm with rfl | hm
      · exact List.mem_cons_self ..
      · exact List.mem_cons_of_mem _ (List.mem_cons_of_mem _ hm)

/-- Going through a list and keeping the better of two ends with the best. -/
theorem foldl_best (hnone : ∀ x, f none x = some x) {l : List α} {m : α} (h : l.foldl f none = some m) : m ∈ l ∧ ∀ x ∈ l, R m x := by
  cases l with
  | nil => cases h
  | cons y t => exact foldl_best_from hrefl htrans hsome (hnone y ▸ h)

end Best

/-- A stripe may enter the map: its members are all verified or dropped, no more dropped than its parities replace (R24, R342). -/
def Stripe.Settled (t : Stripe) : Prop :=
  t.serial ≠ 0 ∧ (∀ m ∈ t.mems, m.st ≠ .queued) ∧ (t.mems.filter (fun m => m.st == .absent)).length ≤ t.p

/-- The stripe that is mapped is the one of the lowest serial among those that may be (R342). -/
theorem mappable_oldest {s : State} {t : Stripe} (h : mappable s = some t) :
    t ∈ s.tpz.stripes ∧ t.Settled ∧ ∀ u ∈ s.tpz.stripes, u.Settled → t.serial ≤ u.serial := by
  obtain ⟨hm, hbest⟩ := foldl_best (R := fun a b : Stripe => a.serial ≤ b.serial) (fun _ => Nat.le_refl _) Nat.le_trans
    (fun b x => by
      dsimp only
      split
      · next hlt => exact .inl ⟨rfl, Nat.le_of_lt hlt⟩
      · next hge => exact .inr ⟨rfl, Nat.le_of_not_lt hge⟩) (fun _ => rfl) h
  have hpass : ∀ u, u ∈ s.tpz.stripes.filter (fun t => t.serial != 0 && t.mems.all (fun m => m.st != .queued) &&
      decide ((t.mems.filter (fun m => m.st == .absent)).length ≤ t.p)) ↔ u ∈ s.tpz.stripes ∧ u.Settled := fun u => by
    simp [Stripe.Settled, and_assoc]
  obtain ⟨hmem, hset⟩ := (hpass t).mp hm
  exact ⟨hmem, hset, fun u hu hc => hbest u ((hpass u).mpr ⟨hu, hc⟩)⟩

/-- An entry goes before another in a lookup: of a later version, or of the same one and lost if the other is (R341). -/
def LogicalE.Beats (a b : LogicalE) : Prop := b.version ≤ a.version ∧ (b.version = a.version → b.lost = true → a.lost = true)

theorem LogicalE.Beats.trans {a b c : LogicalE} (hab : a.Beats b) (hbc : b.Beats c) : a.Beats c := by
  obtain ⟨hv, hl⟩ := hab
  obtain ⟨hv', hl'⟩ := hbc
  exact ⟨hv'.trans hv, fun he hc => hl (by omega) (hl' (by omega) hc)⟩

/-- An entry can serve a read of a block: it covers it, is visible, was so when the read was admitted, and is not too new (R335, R353). -/
def LogicalE.Serves (s : State) (hid : List Nat) (v b top : Nat) (e : LogicalE) : Prop :=
  covers e v b = true ∧ grpVisible s e.group = true ∧ e.group ∉ hid ∧ (top = 0 ∨ e.version ≤ top)

/-- A lookup selects the entry that beats every other that can serve the read (R341, R353). -/
theorem selectLogical_beats {s : State} {hid : List Nat} {v b top : Nat} {q : Nat × LogicalE} (h : selectLogical s hid v b top = some q) :
    q ∈ logicals s ∧ q.2.Serves s hid v b top ∧ ∀ p ∈ logicals s, p.2.Serves s hid v b top → q.2.Beats p.2 := by
  obtain ⟨hm, hbest⟩ := foldl_best (R := fun a b : Nat × LogicalE => a.2.Beats b.2) (fun _ => ⟨Nat.le_refl _, fun _ hl => hl⟩)
    LogicalE.Beats.trans
    (fun b x => by
      dsimp only
      split
      · next hlt =>
        refine .inl ⟨rfl, ?_⟩
        simp only [Bool.or_eq_true, Bool.and_eq_true, decide_eq_true_eq, beq_iff_eq] at hlt
        exact ⟨by omega, fun he _ => (hlt.resolve_left (by omega)).2⟩
      · next hge =>
        refine .inr ⟨rfl, ?_⟩
        simp only [Bool.or_eq_true, Bool.and_eq_true, decide_eq_true_eq, beq_iff_eq, not_or, not_and] at hge
        exact ⟨by omega, fun he hl => absurd hl (hge.2 he.symm)⟩) (fun _ => rfl) h
  have hpass : ∀ p, p ∈ (logicals s).filter (fun p => covers p.2 v b && grpVisible s p.2.group && !hid.contains p.2.group &&
      (top == 0 || p.2.version ≤ top)) ↔ p ∈ logicals s ∧ p.2.Serves s hid v b top := fun p => by
    simp [LogicalE.Serves, and_assoc]
  obtain ⟨hmem, hserves⟩ := (hpass q).mp hm
  exact ⟨hmem, hserves, fun p hp hs => hbest p ((hpass p).mpr ⟨hp, hs⟩)⟩

/-- A member that a MEMBER entry places is found there, before any RUN (R341). -/
theorem findMember_member {s : State} {S r : Nat} (n : Nat) (h : ∃ q ∈ members s, q.2.serial = serial48 S ∧ q.2.rot = r) :
    ∃ f, findMember s S r n = some f ∧ f.isMember = true ∧ ∃ q ∈ members s, q.2.serial = serial48 S ∧ q.2.rot = r ∧ f.pca = q.2.pca ∧
      f.disc = q.2.disc := by
  obtain ⟨q, hq, hS, hr⟩ := h
  have hsome : ((members s).find? (fun p => p.2.serial == serial48 S && p.2.rot == r)).isSome :=
    List.find?_isSome.mpr ⟨q, hq, by simp [hS, hr]⟩
  obtain ⟨⟨i, e⟩, hfind⟩ := Option.isSome_iff_exists.mp hsome
  have hkey := List.find?_some hfind
  simp only [Bool.and_eq_true, beq_iff_eq] at hkey
  rw [findMember, hfind]
  exact ⟨_, rfl, rfl, (i, e), List.mem_of_find?_eq_some hfind, hkey.1, hkey.2, rfl, rfl⟩

/-! A member of a disc that the map knows enters the map (R342). -/

/-- The RUN that a member continues, as the meaning looks for it. -/
def continuesRun (t : Stripe) (m : Mem) (d : Nat) (q : Nat × RunE) : Bool :=
  q.2.ws == m.station && q.2.disc == d && q.2.layout == (if t.narrow then t.setA else 0) && q.2.arms == Nat.lor m.arms (2 ^ pcaArm m.pca) &&
    q.2.serial0 + q.2.count == serial48 t.serial && runNext q.2 == m.pca

theorem continuesRun_iff (t : Stripe) (m : Mem) (d : Nat) (q : Nat × RunE) : continuesRun t m d q = true ↔
    q.2.ws = m.station ∧ q.2.disc = d ∧ q.2.layout = (if t.narrow then t.setA else 0) ∧ q.2.arms = Nat.lor m.arms (2 ^ pcaArm m.pca) ∧
      q.2.serial0 + q.2.count = serial48 t.serial ∧ runNext q.2 = m.pca := by
  simp [continuesRun, and_assoc]

section Member
variable {s : State} {m : Mem} {d : Nat} (hd : discIndex s m.disc = some d) (t : Stripe)
include hd

/-- A rewritten member takes a MEMBER entry. -/
theorem mapMember_rewritten (hr : m.rewritten = true) : mapMember s t m =
    addEntry s (.member ⟨false, m.rot, m.station, d, if t.narrow then t.setA else 0, serial48 t.serial, m.pca, m.time⟩) := by
  rw [mapMember, ensureDisc_known hd]
  exact if_pos hr

theorem mapMember_continues {q : Nat × RunE} (hr : m.rewritten = false) (hq : (runs s).find? (continuesRun t m d) = some q) :
    mapMember s t m = putEntry s q.1 (.run { q.2 with count := q.2.count + 1 }) := by
  rw [mapMember, ensureDisc_known hd]
  unfold continuesRun at hq
  simp only [hr, hq]
  rfl

theorem mapMember_starts (hr : m.rewritten = false) (hq : (runs s).find? (continuesRun t m d) = none) :
    mapMember s t m = addEntry s (.run ⟨m.station, Nat.lor m.arms (2 ^ pcaArm m.pca), d, if t.narrow then t.setA else 0,
      serial48 t.serial, 1, m.pca, m.time⟩) := by
  rw [mapMember, ensureDisc_known hd]
  unfold continuesRun at hq
  simp only [hr, hq]
  rfl

end Member

/-- A new entry finds a place in a table that is not full. -/
theorem smGet_addEntry {s : State} (h : mapFull s = false) (e : Entry) : ∃ i, smGet (addEntry s e).grn.entries i = some e := by
  rw [addEntry_room h]
  exact ⟨_, smGet_putEntry ..⟩

/-! STRIPE_MAP_UPDATE (R342, R344). -/

theorem exec_stripeMapUpdate {s : State} (hs : s.live = true) : exec .stripeMapUpdate s = .next (drainPosted (mapOldest s)) :=
  answer_live stripeMapUpdate hs

theorem mapOldest_none {s : State} (h : mappable s = none) : mapOldest s = s := by
  rw [mapOldest, h]

theorem mapOldest_some {s : State} {t : Stripe} (h : mappable s = some t) : mapOldest s =
    if s.grn.waiting.length < (mapStripe s t).grn.waiting.length then s else checkPower (retryHold (mapStripe s t)) := by
  rw [mapOldest, h]

/-- A cluster's pages are listed. -/
theorem smGet_of_clusterPages {s : State} {c : Clu} {b : Nat} (h : b ∈ clusterPages s c) : ∃ p, smGet s.buf.pages b = some p := by
  have hb := (List.mem_filter.mp h).2
  cases hp : smGet s.buf.pages b with
  | none => rw [hp] at hb; cases hb
  | some p => exact ⟨p, rfl⟩

section Unpaired
variable {s : State} (hm : mirroring s = false) (t : Stripe)
include hm

/-- Mapping a stripe leaves the endpoint alone, and of the stripes only it is gone. -/
theorem mapStripe_unpaired : (mapStripe s t).pcx = s.pcx ∧
    (mapStripe s t).tpz.stripes = s.tpz.stripes.filter (fun x => x.serial != t.serial) := by
  rw [mapStripe_eq]
  have ha := aside_enterStripe s t
  generalize (enterStripe s t).each stations recordFronts = e at ha ⊢
  have hm' : mirroring (markStripe e t) = false := (congrArg AsideMap.mirror ha).trans hm
  have htpz : e.tpz = s.tpz := congrArg AsideMap.tpz ha
  rw [releaseStripe, letGo_unpaired hm', ← htpz]
  exact ⟨congrArg AsideMap.pcx ha, rfl⟩

/-- The pages after a stripe was mapped: the stripe's are mapped, and gone where they are visible (R21, R22). -/
theorem mem_pages_mapStripe (q : Nat × Page) :
    q ∈ (mapStripe s t).buf.pages ↔ ∃ p ∈ s.buf.pages, p.1 = q.1 ∧
      q.2 = (if p.1 ∈ stripePages s t then { p.2 with mapped := true } else p.2) ∧
      ¬ (p.1 ∈ stripePages s t ∧ pageVisible s p.1 = true) := by
  rw [mapStripe_eq]
  have ha := aside_enterStripe s t
  generalize (enterStripe s t).each stations recordFronts = e at ha ⊢
  have hm' : mirroring e = false := (congrArg AsideMap.mirror ha).trans hm
  have hbuf : e.buf = s.buf := congrArg AsideMap.buf ha
  have hgrp : e.grn.groups = s.grn.groups := congrArg AsideMap.groups ha
  have hclu : clusterPages e = clusterPages s := by
    simp only [funext_iff, clusterPages, hbuf, implies_true]
  have hpages : stripePages e t = stripePages s t := by
    rw [stripePages, hclu, stripePages]
  have hvis : pageVisible e = pageVisible s := by
    simp only [funext_iff, pageVisible, grpVisible, grpOf, hbuf, hgrp, implies_true]
  rw [mem_pages_releaseStripe hm', hbuf, hpages, hvis]

/-- A page that is left is one of before, mapped or as it was. -/
theorem mapStripe_page_of_before {q : Nat × Page} (hq : q ∈ (mapStripe s t).buf.pages) :
    ∃ p ∈ s.buf.pages, p.1 = q.1 ∧ (q.2 = p.2 ∨ q.2 = { p.2 with mapped := true }) := by
  obtain ⟨p, hp, hk, hv, -⟩ := (mem_pages_mapStripe hm t q).mp hq
  refine ⟨p, hp, hk, ?_⟩
  split at hv
  · exact .inr hv
  · exact .inl hv

/-- A page of a group that is not visible is not freed (R22). -/
theorem mapStripe_keeps_hidden {p : Nat × Page} (hp : p ∈ s.buf.pages) (hg : grpVisible s p.2.group = false)
    (hu : ∀ x ∈ s.buf.pages, x.1 = p.1 → x = p) : ∃ q ∈ (mapStripe s t).buf.pages, p.1 = q.1 ∧ q.2.ver = p.2.ver := by
  have hvis : pageVisible s p.1 = false := by
    rw [pageVisible, smGet_of_unique hp hu]
    exact hg
  refine ⟨(p.1, if p.1 ∈ stripePages s t then { p.2 with mapped := true } else p.2), (mem_pages_mapStripe hm t _).mpr ?_, rfl, ?_⟩
  · exact ⟨p, hp, rfl, rfl, fun ⟨_, h⟩ => by rw [hvis] at h; cases h⟩
  · dsimp only
    split <;> rfl

/-- What is left of a stripe's pages is mapped, and waits for its group to be visible (R21). -/
theorem mapStripe_stripe_page {q : Nat × Page} {c : Clu} (hc : c ∈ t.data) (hq : q ∈ (mapStripe s t).buf.pages)
    (hb : q.1 ∈ clusterPages s c) : q.2.mapped = true ∧ ∃ p ∈ s.buf.pages, grpVisible s p.2.group = false := by
  obtain ⟨p, -, hk, hv, hkept⟩ := (mem_pages_mapStripe hm t q).mp hq
  have hin : p.1 ∈ stripePages s t := hk ▸ List.mem_flatMap.mpr ⟨c, hc, hb⟩
  rw [if_pos hin] at hv
  refine ⟨congrArg Page.mapped hv, ?_⟩
  obtain ⟨x, hx⟩ := smGet_of_clusterPages (hk.symm ▸ hb)
  have hhid : ¬ pageVisible s p.1 = true := fun h => hkept ⟨hin, h⟩
  rw [pageVisible, hx] at hhid
  exact ⟨_, mem_of_smGet hx, Bool.eq_false_iff.mpr hhid⟩

/-- With no write held back or waiting, what STRIPE_MAP_UPDATE leaves has the stripes and pages of the mapping. -/
theorem drainPosted_mapped (hh : s.pcx.hold = none) (hp : s.pcx.posted = []) :
    let u := drainPosted (checkPower (retryHold (mapStripe s t)))
    u.tpz = (mapStripe s t).tpz ∧ u.buf = (mapStripe s t).buf := by
  obtain ⟨hpcx, -⟩ := mapStripe_unpaired hm t
  generalize mapStripe s t = z at hpcx ⊢
  have ha := aside_checkPower z
  have hpcx' : (checkPower z).pcx = z.pcx := congrArg AsideMap.pcx ha
  rw [retryHold_none (by rw [hpcx, hh]), drainPosted_idle (.inr (by rw [hpcx', hpcx, hp]))]
  exact ⟨congrArg AsideMap.tpz ha, congrArg AsideMap.buf ha⟩

end Unpaired

/-- Settles O39: the stripe is the best of a fold, its entries fit by `Enters`, its pages follow `mem_pages_mapStripe`. -/
theorem stripesMapInSerialOrder : Obligations.StripesMapInSerialOrder := by
  intro s hs
  refine ⟨fun hn => ?nothing, drainPosted_idle, fun t ht => ?oldest, fun t m d hd => ?member, fun S r n h => findMember_member n h,
    fun hid v b top q hq => ?lookup⟩
  case nothing => rw [exec_stripeMapUpdate hs, mapOldest_none hn]
  case oldest =>
    obtain ⟨hmem, ⟨hserial, hqueued, hdropped⟩, hleast⟩ := mappable_oldest ht
    refine ⟨hmem, hserial, hqueued, hdropped, fun u hu h1 h2 h3 => hleast u hu ⟨h1, h2, h3⟩, fun hw => ?waits, fun hroom => ?fits,
      fun u hu => mapStripe_serial_ne hu⟩
    case waits => rw [exec_stripeMapUpdate hs, mapOldest_some ht, if_pos hw]
    case fits =>
      have hexec : exec .stripeMapUpdate s = .next (drainPosted (checkPower (retryHold (mapStripe s t)))) := by
        rw [exec_stripeMapUpdate hs, mapOldest_some ht, if_neg (by rw [mapStripe_waiting hroom]; exact Nat.lt_irrefl _)]
      refine ⟨hexec, fun hh hp hm => ⟨_, hexec, ?_⟩⟩
      obtain ⟨htpz, hbuf⟩ := drainPosted_mapped hm t hh hp
      obtain ⟨-, hstripes⟩ := mapStripe_unpaired hm t
      rw [htpz, hbuf, hstripes]
      refine ⟨by simp, fun hlen => ?_, fun x hx hne => List.mem_filter.mpr ⟨hx, by simpa using hne⟩,
        fun q hq => mapStripe_page_of_before hm t hq, fun p hp hg hu => mapStripe_keeps_hidden hm t hp hg hu,
        fun c hc b hb q hq hqb => mapStripe_stripe_page hm t hc hq (hqb ▸ hb)⟩
      have hlt : (s.tpz.stripes.filter (fun x => x.serial != t.serial)).length < s.tpz.stripes.length :=
        List.length_filter_lt_length_iff_exists.mpr ⟨t, hmem, by simp⟩
      exact absurd hlen (Nat.ne_of_gt hlt)
  case member =>
    refine ⟨fun hr hfull => ?room, fun hr hfull => ?full, fun hr hq => ?continues, fun hr hfull hq => ?starts⟩
    case room =>
      rw [mapMember_rewritten hd t hr]
      exact smGet_addEntry hfull _
    case full =>
      rw [mapMember_rewritten hd t hr, addEntry_full hfull]
      exact ⟨rfl, rfl⟩
    case continues =>
      obtain ⟨q, hq, hcont⟩ := hq
      have hsome := List.find?_isSome.mpr ⟨q, hq, (continuesRun_iff t m d q).mpr hcont⟩
      obtain ⟨x, hx⟩ := Option.isSome_iff_exists.mp hsome
      refine ⟨x, List.mem_of_find?_eq_some hx, (continuesRun_iff t m d x).mp (List.find?_some hx), ?_⟩
      rw [mapMember_continues hd t hr hx, smGet_putEntry]
    case starts =>
      have hnone := List.find?_eq_none.mpr fun q hqr hc => hq q hqr ((continuesRun_iff t m d q).mp hc)
      rw [mapMember_starts hd t hr hnone]
      exact smGet_addEntry hfull _
  case lookup =>
    obtain ⟨hmem, ⟨hcov, hvis, hhid, htop⟩, hbest⟩ := selectLogical_beats hq
    exact ⟨hmem, hcov, hvis, hhid, htop, fun p hp h1 h2 h3 h4 => hbest p hp ⟨h1, h2, h3, h4⟩⟩
end Sys2Proof.Machine

/-!
PROOF. O57: Quartz, its reference and the timecode (R31, R457, R458, R459, R463). First fields and 64-bit registers after an update, then one
lemma per operation on the time, then the obligation.
-/

namespace Sys2Proof.Machine

/-! Registers after an update. -/

theorem RegsBut.trans {s t u : State} {l l' : List Nat} (h : RegsBut s t l) (h' : RegsBut t u l') : RegsBut s u (l ++ l') := fun a ha => by
  obtain ⟨hl, hl'⟩ := not_or.mp (mt List.mem_append.mpr ha)
  exact (h' a hl').trans (h a hl)

theorem RegsBut.mono {s t : State} {l l' : List Nat} (h : RegsBut s t l) (hl : l ⊆ l') : RegsBut s t l' := fun a ha => h a fun hm => ha (hl hm)

theorem RegsBut.of_regs {s t : State} (h : t.regs = s.regs) (l : List Nat) : RegsBut s t l := fun a _ => congrArg (rdR · a) h

/-- A field of a register that did not change reads as before. -/
theorem RegsBut.g {s t : State} {l : List Nat} (h : RegsBut s t l) {f : FRef} (hf : f.addr ∉ l) : t.g f = s.g f :=
  congrArg (getF · f) (h f.addr hf)

theorem RegsBut.on {s t : State} {l : List Nat} (h : RegsBut s t l) {f : FRef} (hf : f.addr ∉ l) : t.on f = s.on f :=
  congrArg (· == 1) (h.g hf)

theorem RegsBut.g64 {s t : State} {l : List Nat} (h : RegsBut s t l) {a : Nat} (ha : a ∉ l ∧ a + 4 ∉ l) : t.g64 a = s.g64 a := by
  rw [State.g64, State.g64, h a ha.1, h (a + 4) ha.2]

/-- The time stands while its two registers do (R457). -/
theorem RegsBut.now {s t : State} {l : List Nat} (h : RegsBut s t l) (hl : R.QTZ_TIME_LO ∉ l ∧ R.QTZ_TIME_LO + 4 ∉ l) : t.now = s.now :=
  h.g64 hl

theorem regsBut_wr (s : State) (a : Nat) (w : Word) : RegsBut s (s.wr a w) [a] := fun _ hb => s.rd_wr_other w (List.ne_of_not_mem_cons hb)

theorem regsBut_u (s : State) (f : FRef) (v : Nat) : RegsBut s (s.u f v) [f.addr] := regsBut_wr s f.addr _

theorem regsBut_u64 (s : State) (a v : Nat) : RegsBut s (s.u64 a v) [a, a + 4] := (regsBut_wr s a _).trans (regsBut_wr _ (a + 4) _)

/-- A 64-bit register reads what it was set to. -/
theorem State.g64_u64_self (s : State) (a v : Nat) : (s.u64 a v).g64 a = v % 2 ^ 64 := by
  rw [State.g64, State.u64, State.rd_wr_self, State.rd_wr_other _ _ (by omega), State.rd_wr_self]
  simp only [BitVec.toNat_ofNat]
  omega

/-- A field of one bit reads the truth value it was set to. -/
theorem State.on_u_self (s : State) {f : FRef} (hf : f.lo + f.w ≤ 32 ∧ f.w = 1) (b : Bool) : (s.u f (b2n b)).on f = b := by
  rw [State.on, State.g_u_self _ _ _ hf.1, hf.2]
  cases b <;> rfl

theorem State.on_u_bits (s : State) {f g : FRef} (v : Nat) (h : f.lo + f.w ≤ g.lo ∨ g.lo + g.w ≤ f.lo) (hg : g.lo + g.w ≤ 32) :
    (s.u f v).on g = s.on g := congrArg (· == 1) (s.g_u_bits f g v h hg)

/-- A signed field of 32 bits reads the value it was set to (R7). -/
theorem State.gi_ui_self (s : State) {f : FRef} (hf : f.lo + f.w ≤ 32 ∧ f.w = 32) {v : Int} (hv : -2147483648 ≤ v ∧ v ≤ 2147483647) :
    (s.ui f v).gi f = v := by
  rw [State.gi, State.ui, State.g_u_self _ _ _ hf.1, hf.2, toSigned, ofSigned]
  split <;> omega

theorem clampI_bounds {lo hi : Int} (h : lo ≤ hi) (v : Int) : lo ≤ clampI lo hi v ∧ clampI lo hi v ≤ hi := by
  unfold clampI
  split
  · exact ⟨le_refl _, h⟩
  · split <;> constructor <;> omega

theorem getF_lt (w : Word) (f : FRef) : getF w f < 2 ^ f.w := Nat.mod_lt _ (Nat.two_pow_pos _)

/-! Setting the time (R457). -/

theorem setQuartz_regsBut (s : State) (v : Nat) : RegsBut s (setQuartz s v) [R.QTZ_TIME_LO, R.QTZ_TIME_HI, R.CGL_STATUS] :=
  (regsBut_u64 s R.QTZ_TIME_LO _).trans (regsBut_u _ R.CGL_STATUS_PEER_ON_RING _)

theorem setQuartz_now (s : State) (v : Nat) : (setQuartz s v).now = v % 2 ^ 64 := by
  have h : (setQuartz s v).now = (s.u64 R.QTZ_TIME_LO (v % 2 ^ 64)).now := (regsBut_u _ R.CGL_STATUS_PEER_ON_RING _).now (by decide)
  rw [h, State.now, State.g64_u64_self, Nat.mod_mod]

theorem setQuartz_qtz (s : State) (v : Nat) : (setQuartz s v).qtz = s.qtz := rfl

/-- Setting the time changes registers alone. -/
theorem setQuartz_only (s : State) (v : Nat) : setQuartz s v = { s with regs := (setQuartz s v).regs } := rfl

theorem qtzSet_earlier {s : State} {v : BitVec 64} (h : v.toNat < s.now) :
    qtzSet v s = (s.u64 R.QTZ_SET_LO v.toNat).u R.QTZ_STATUS_SET_REFUSED 1 :=
  if_pos (by rwa [(regsBut_u64 s R.QTZ_SET_LO v.toNat).now (by decide)])

theorem qtzSet_later {s : State} {v : BitVec 64} (h : s.now ≤ v.toNat) : qtzSet v s = setQuartz (s.u64 R.QTZ_SET_LO v.toNat) v.toNat :=
  if_neg (by rw [(regsBut_u64 s R.QTZ_SET_LO v.toNat).now (by decide)]; omega)

/-! A reference measurement (R457, R458). -/

/-- OFFSET and LOCKED follow a measurement. -/
def refMeasured (s : State) (o : Int) : State :=
  (s.ui R.QTZ_OFFSET_OFFSET (clampI (-2147483648) 2147483647 o)).u R.QTZ_STATUS_LOCKED (b2n (decide (-100 ≤ o ∧ o ≤ 100)))

theorem refMeasured_regsBut (s : State) (o : Int) : RegsBut s (refMeasured s o) [R.QTZ_OFFSET, R.QTZ_STATUS] :=
  (regsBut_u s R.QTZ_OFFSET_OFFSET _).trans (regsBut_u _ R.QTZ_STATUS_LOCKED _)

theorem refMeasured_offset (s : State) (o : Int) : (refMeasured s o).gi R.QTZ_OFFSET_OFFSET = clampI (-2147483648) 2147483647 o := by
  have h := (regsBut_u (s.ui R.QTZ_OFFSET_OFFSET (clampI (-2147483648) 2147483647 o)) R.QTZ_STATUS_LOCKED
    (b2n (decide (-100 ≤ o ∧ o ≤ 100)))).g (f := R.QTZ_OFFSET_OFFSET) (by decide)
  rw [refMeasured, State.gi, h]
  exact State.gi_ui_self s (by decide) (clampI_bounds (by decide) o)

theorem refMeasured_locked (s : State) (o : Int) : (refMeasured s o).on R.QTZ_STATUS_LOCKED = decide (-100 ≤ o ∧ o ≤ 100) :=
  State.on_u_self _ (by decide) _

/-- Quartz steps forward, and nothing is left to be slewed. -/
def refJump (s : State) (o : Int) : State := (setQuartz s (s.now + o.toNat)).qtzU (fun q => { q with slew := 0, slewFrom := 0 })

/-- A step is shown and counted. -/
def refCount (s : State) : State := (s.u R.QTZ_STATUS_STEPPED 1).bump R.QTZ_CNT_STEPS

theorem quartzRef_eq (s : State) (o : Int) : quartzRef s o =
    if (10000 * (refMeasured s o).g R.QTZ_LIMITS_STEP_LIMIT : Nat) < o then
      (refCount (refJump (refMeasured s o) o)).log 0x505 noStation
        [o.toNat % 2 ^ 32, o.toNat / 2 ^ 32, (refJump (refMeasured s o) o).g R.QTZ_CTRL_SOURCE]
    else (refMeasured s o).qtzU (fun q => { q with slew := 65536 * o, slewFrom := 65536 * o }) := rfl

theorem refJump_regsBut (s : State) (o : Int) : RegsBut s (refJump s o) [R.QTZ_TIME_LO, R.QTZ_TIME_HI, R.CGL_STATUS] :=
  setQuartz_regsBut s _

theorem refJump_now (s : State) (o : Int) : (refJump s o).now = (s.now + o.toNat) % 2 ^ 64 := by
  rw [refJump, State.qtzU_now, setQuartz_now]

theorem refJump_slew (s : State) (o : Int) : (refJump s o).qtz.slew = 0 := rfl

theorem refCount_qtz (s : State) : (refCount s).qtz = s.qtz := rfl

theorem refCount_regsBut (s : State) : RegsBut s (refCount s) [R.QTZ_STATUS, R.QTZ_CNT_STEPS] :=
  (regsBut_u s R.QTZ_STATUS_STEPPED 1).trans (regsBut_wr _ R.QTZ_CNT_STEPS _)

theorem refCount_stepped (s : State) : (refCount s).on R.QTZ_STATUS_STEPPED = true ∧
    (refCount s).on R.QTZ_STATUS_LOCKED = s.on R.QTZ_STATUS_LOCKED ∧ Counted s (refCount s) R.QTZ_CNT_STEPS 1 := by
  have hb := regsBut_wr (s.u R.QTZ_STATUS_STEPPED 1) R.QTZ_CNT_STEPS
  refine ⟨?_, ?_, ?_⟩
  · rw [refCount, State.bump, State.bumpN, (hb _).on (by decide)]
    exact s.on_u_self (by decide) true
  · rw [refCount, State.bump, State.bumpN, (hb _).on (by decide)]
    exact s.on_u_bits 1 (by decide) (by decide)
  · rw [Counted, refCount, State.bump, State.bumpN, State.rd_wr_self, regsBut_u s R.QTZ_STATUS_STEPPED 1 _ (by decide)]

theorem State.gi_of_g {s t : State} {f : FRef} (h : t.g f = s.g f) : t.gi f = s.gi f := congrArg (toSigned f.w) h

/-- Within STEP_LIMIT the offset is left to be slewed (R457). -/
theorem quartzRef_within {s : State} {o : Int} (h : ¬ (10000 * s.g R.QTZ_LIMITS_STEP_LIMIT : Nat) < o) :
    quartzRef s o = (refMeasured s o).qtzU (fun q => { q with slew := 65536 * o, slewFrom := 65536 * o }) := by
  rw [quartzRef_eq, (refMeasured_regsBut s o).g (by decide), if_neg h]

/-- Beyond STEP_LIMIT Quartz steps forward and TIME_STEPPED is logged (R457, R458). -/
theorem quartzRef_beyond {s : State} {o : Int} (h : (10000 * s.g R.QTZ_LIMITS_STEP_LIMIT : Nat) < o) :
    quartzRef s o = (refCount (refJump (refMeasured s o) o)).log 0x505 noStation
      [o.toNat % 2 ^ 32, o.toNat / 2 ^ 32, (refJump (refMeasured s o) o).g R.QTZ_CTRL_SOURCE] := by
  rw [quartzRef_eq, (refMeasured_regsBut s o).g (by decide), if_pos h]

/-- What a step that is counted leaves of the measurement, and what it does. -/
theorem refCount_refJump (z : State) (o : Int) :
    (refCount (refJump z o)).gi R.QTZ_OFFSET_OFFSET = z.gi R.QTZ_OFFSET_OFFSET ∧
    (refCount (refJump z o)).on R.QTZ_STATUS_LOCKED = z.on R.QTZ_STATUS_LOCKED ∧
    (refCount (refJump z o)).now = (z.now + o.toNat) % 2 ^ 64 ∧
    (refCount (refJump z o)).on R.QTZ_STATUS_STEPPED = true ∧ Counted z (refCount (refJump z o)) R.QTZ_CNT_STEPS 1 := by
  have hj := refJump_regsBut z o
  have hc := refCount_regsBut (refJump z o)
  obtain ⟨hst, hlk, hcnt⟩ := refCount_stepped (refJump z o)
  refine ⟨State.gi_of_g ((hj.trans hc).g (by decide)), ?_, ?_, hst, ?_⟩
  · rw [hlk, hj.on (by decide)]
  · rw [hc.now (by decide), refJump_now]
  · rw [Counted, hcnt, hj _ (by decide)]

/-! The timecode (R459). -/

/-- No pin has a function: the list of its pins is empty (R451). -/
theorem pinsWith_isEmpty (s : State) (func : Nat) : (pinsWith s func).isEmpty = true ↔ ∀ k : Fin 16, s.g (R.DRK_PIN_FUNC k) ≠ func := by
  simp only [pinsWith, List.isEmpty_iff, List.filter_eq_nil_iff, List.mem_range, beq_iff_eq]
  exact ⟨fun h k => h k.val k.isLt, fun h k hk => h ⟨k, hk⟩⟩

/-- What a good frame stores: the timecode, when it began, its period, that it was good. -/
def ltcStored (tc : BitVec 32) (period start : Nat) (s : State) : State :=
  let z := (s.wr R.QTZ_TC tc).u64 R.QTZ_TC_TIME_LO (start % 2 ^ 64)
  z.qtzU (fun q => { q with periods := (period :: s.qtz.periods).take 16, bad := 0, run := q.run + 1, lastGood := z.now })

/-- The rate of 16 frames is a candidate, and for how many frames it has been. -/
def ltcCandidate (rate : Nat) (s : State) : State :=
  s.qtzU (fun q => if q.cand = rate then { q with held := q.held + 1 } else { q with cand := rate, held := 1 })

/-- TC_VALID and TC_RATE after a good frame. -/
def ltcShow (rate : Nat) (s : State) : State :=
  if s.on R.QTZ_STATUS_TC_VALID then
    if 16 ≤ s.qtz.held then s.u R.QTZ_STATUS_TC_RATE rate else s
  else if 16 ≤ s.qtz.run then s.us [(R.QTZ_STATUS_TC_VALID, 1), (R.QTZ_STATUS_TC_RATE, rate)]
  else s

/-- Quartz takes the measured rate while the timecode is valid. -/
def ltcFollow (sum : Nat) (s : State) : State :=
  if s.on R.QTZ_STATUS_TC_VALID then
    s.qtzU (fun q => { q with rate := 2 ^ 32 * 16 * ratePeriod (s.g R.QTZ_STATUS_TC_RATE) / max 1 sum })
  else s

/-- What the class of frame rate that the last 16 frames come nearest to makes of the timecode. -/
def ltcRated (sum : Nat) (drop : Bool) (c : Nat × State) : State :=
  ltcFollow sum (ltcShow (ltcRate c.1 drop) (ltcCandidate (ltcRate c.1 drop) c.2))

/-- Sixteen periods make a rate measurement. -/
def ltcMeasured (drop : Bool) (ps : List Nat) (s : State) : State :=
  if ps.length < 16 then s else ltcRated (ps.foldl (· + ·) 0) drop (ltcClass s (ps.foldl (· + ·) 0))

/-- A time master passes the timecode on. -/
def ltcPassOn (tc : BitVec 32) (start : Nat) (s : State) : State :=
  if s.on R.DRK_CTRL_TIME_MASTER then sendRingNew s 5 start tc.toNat 0 else s

/-- Without an LTC_IN pin a frame does nothing. -/
theorem ltcFrame_noPin {s : State} (h : ∀ k : Fin 16, s.g (R.DRK_PIN_FUNC k) ≠ 4) (good drop : Bool) (tc : BitVec 32) (period start : Nat) :
    ltcFrame good tc drop period start s = s :=
  if_pos ((pinsWith_isEmpty s 4).mpr h)

theorem ltcFrame_bad {s : State} (h : ¬ ∀ k : Fin 16, s.g (R.DRK_PIN_FUNC k) ≠ 4) (drop : Bool) (tc : BitVec 32) (period start : Nat) :
    ltcFrame false tc drop period start s = s.qtzU (fun q => { q with bad := q.bad + 1, run := 0 }) :=
  (if_neg (mt (pinsWith_isEmpty s 4).mp h)).trans (if_pos rfl)

theorem ltcFrame_good {s : State} (h : ¬ ∀ k : Fin 16, s.g (R.DRK_PIN_FUNC k) ≠ 4) (tc : BitVec 32) (drop : Bool) (period start : Nat) :
    ltcFrame true tc drop period start s =
      ltcPassOn tc start (ltcMeasured drop ((period :: s.qtz.periods).take 16) (ltcStored tc period start s)) := by
  refine (if_neg (mt (pinsWith_isEmpty s 4).mp h)).trans ((if_neg Bool.false_ne_true).trans ?_)
  extract_lets ps sum z1 z2 z3
  have hz : z3 = ltcMeasured drop ps z2 := by
    by_cases hlen : ps.length < 16
    · exact (if_pos hlen).trans (if_pos hlen).symm
    · refine (if_neg hlen).trans (Eq.trans ?_ (if_neg hlen).symm)
      change _ = ltcRated sum drop (ltcClass z2 sum)
      -- The class is taken apart, so that the kernel does not evaluate it.
      generalize ltcClass z2 sum = c
      rcases c with ⟨cls, z⟩
      rfl
  exact congrArg (ltcPassOn tc start) hz

/-- What the rate measurement leaves alone: every register but QTZ_STATUS, the log, what leaves the chip, the ring, the count of frames. -/
structure LtcKeeps (s t : State) : Prop where
  regs : RegsBut s t [R.QTZ_STATUS]
  evl : t.evl = s.evl
  out : t.out = s.out
  drk : t.drk = s.drk
  run : t.qtz.run = s.qtz.run
  bad : t.qtz.bad = s.qtz.bad

theorem LtcKeeps.refl (s : State) : LtcKeeps s s := ⟨RegsBut.of_regs rfl _, rfl, rfl, rfl, rfl, rfl⟩

theorem LtcKeeps.trans {s t u : State} (h : LtcKeeps s t) (h' : LtcKeeps t u) : LtcKeeps s u where
  regs := (h.regs.trans h'.regs).mono (by decide)
  evl := h'.evl.trans h.evl
  out := h'.out.trans h.out
  drk := h'.drk.trans h.drk
  run := h'.run.trans h.run
  bad := h'.bad.trans h.bad

/-- A class between two that are equally near takes a free value, and nothing else changes. The function is unfolded as a whole: applied, the
kernel would evaluate its match, which subtracts a literal in the hundred thousands from a variable. -/
theorem ltcClass_state (s : State) (sum : Nat) : ∃ n, ltcClass s sum = (n, s) ∨ ltcClass s sum = (n, s.tick) := by
  obtain ⟨f, hf⟩ : ∃ f, f = ltcClass := ⟨_, rfl⟩
  rw [← hf]
  delta ltcClass at hf
  subst hf
  beta_reduce
  extract_lets far best
  generalize (List.range 4).filter _ = l
  rcases l with _ | ⟨a, _ | ⟨b, l⟩⟩
  · exact ⟨_, .inr rfl⟩
  · exact ⟨_, .inl rfl⟩
  · exact ⟨_, .inr rfl⟩

theorem ltcClass_regs (s : State) (sum : Nat) : (ltcClass s sum).2.regs = s.regs := by
  obtain ⟨n, h | h⟩ := ltcClass_state s sum
  · rw [h]
  · rw [h]; rfl

theorem ltcKeeps_class (s : State) (sum : Nat) : LtcKeeps s (ltcClass s sum).2 := by
  obtain ⟨n, h | h⟩ := ltcClass_state s sum
  · rw [h]; exact LtcKeeps.refl s
  · rw [h]; exact ⟨RegsBut.of_regs rfl _, rfl, rfl, rfl, rfl, rfl⟩

theorem ltcKeeps_candidate (rate : Nat) (s : State) : LtcKeeps s (ltcCandidate rate s) := by
  have hq : (ltcCandidate rate s).qtz.run = s.qtz.run ∧ (ltcCandidate rate s).qtz.bad = s.qtz.bad := by
    simp only [ltcCandidate, State.qtzU]
    split <;> exact ⟨rfl, rfl⟩
  exact ⟨RegsBut.of_regs rfl _, rfl, rfl, rfl, hq.1, hq.2⟩

theorem ltcKeeps_u {f : FRef} (hf : f.addr = R.QTZ_STATUS) (s : State) (v : Nat) : LtcKeeps s (s.u f v) :=
  ⟨hf ▸ regsBut_u s f v, rfl, rfl, rfl, rfl, rfl⟩

theorem ltcKeeps_show (rate : Nat) (s : State) : LtcKeeps s (ltcShow rate s) := by
  unfold ltcShow
  split
  · split
    · exact ltcKeeps_u rfl ..
    · exact LtcKeeps.refl s
  · split
    · exact (ltcKeeps_u (f := R.QTZ_STATUS_TC_VALID) rfl s 1).trans (ltcKeeps_u (f := R.QTZ_STATUS_TC_RATE) rfl _ rate)
    · exact LtcKeeps.refl s

theorem ltcKeeps_follow (sum : Nat) (s : State) : LtcKeeps s (ltcFollow sum s) := by
  unfold ltcFollow
  split
  · exact ⟨RegsBut.of_regs rfl _, rfl, rfl, rfl, rfl, rfl⟩
  · exact LtcKeeps.refl s

theorem ltcKeeps_measured (drop : Bool) (ps : List Nat) (s : State) : LtcKeeps s (ltcMeasured drop ps s) := by
  unfold ltcMeasured
  split
  · exact LtcKeeps.refl s
  · exact (ltcKeeps_class ..).trans ((ltcKeeps_candidate ..).trans ((ltcKeeps_show ..).trans (ltcKeeps_follow ..)))

/-- TC_VALID stays while good frames come (R459). -/
theorem ltcShow_valid {s : State} (h : s.on R.QTZ_STATUS_TC_VALID = true) (rate : Nat) :
    (ltcShow rate s).on R.QTZ_STATUS_TC_VALID = true := by
  rw [ltcShow, if_pos h]
  split
  · rw [s.on_u_bits rate (by decide) (by decide), h]
  · exact h

/-- TC_VALID is set by the sixteenth good frame in a row, with the rate it gives (R459). -/
theorem ltcShow_invalid {s : State} (h : s.on R.QTZ_STATUS_TC_VALID = false) (rate : Nat) :
    (ltcShow rate s).on R.QTZ_STATUS_TC_VALID = decide (16 ≤ s.qtz.run) ∧
      (16 ≤ s.qtz.run → (ltcShow rate s).g R.QTZ_STATUS_TC_RATE = rate % 8) := by
  rw [ltcShow, if_neg (by simp [h])]
  by_cases hr : 16 ≤ s.qtz.run
  · rw [if_pos hr, State.us_cons, State.us_cons, State.us_nil]
    refine ⟨?_, fun _ => State.g_u_self _ _ _ (by decide)⟩
    rw [State.on_u_bits _ rate (by decide) (by decide), decide_eq_true hr]
    exact s.on_u_self (by decide) true
  · rw [if_neg hr, h]
    exact ⟨(decide_eq_false hr).symm, fun h => absurd h hr⟩

theorem ltcFollow_regs (sum : Nat) (s : State) : (ltcFollow sum s).regs = s.regs := by
  unfold ltcFollow
  split <;> rfl

/-- What a rate measurement shows: TC_VALID stays, or is set by the sixteenth good frame in a row with the rate measured (R459). -/
theorem ltcRated_shows (sum : Nat) (drop : Bool) (c : Nat × State) :
    (c.2.on R.QTZ_STATUS_TC_VALID = true → (ltcRated sum drop c).on R.QTZ_STATUS_TC_VALID = true) ∧
    (c.2.on R.QTZ_STATUS_TC_VALID = false → (ltcRated sum drop c).on R.QTZ_STATUS_TC_VALID = decide (16 ≤ c.2.qtz.run) ∧
      (16 ≤ c.2.qtz.run → (ltcRated sum drop c).g R.QTZ_STATUS_TC_RATE = ltcRate c.1 drop % 8)) := by
  have hrun : (ltcCandidate (ltcRate c.1 drop) c.2).qtz.run = c.2.qtz.run := (ltcKeeps_candidate ..).run
  have hon : (ltcCandidate (ltcRate c.1 drop) c.2).on R.QTZ_STATUS_TC_VALID = c.2.on R.QTZ_STATUS_TC_VALID := State.qtzU_on ..
  rw [ltcRated, ← hrun, ← hon]
  generalize ltcCandidate (ltcRate c.1 drop) c.2 = z
  have hregs := RegsBut.of_regs (ltcFollow_regs sum (ltcShow (ltcRate c.1 drop) z)) []
  rw [hregs.on List.not_mem_nil, hregs.g List.not_mem_nil]
  exact ⟨fun h => ltcShow_valid h _, fun h => ltcShow_invalid h _⟩

theorem ltcMeasured_valid {s : State} (h : s.on R.QTZ_STATUS_TC_VALID = true) (drop : Bool) (ps : List Nat) :
    (ltcMeasured drop ps s).on R.QTZ_STATUS_TC_VALID = true := by
  have hregs := RegsBut.of_regs (ltcClass_regs s (ps.foldl (· + ·) 0)) []
  rw [ltcMeasured]
  split
  · exact h
  · exact (ltcRated_shows ..).1 (by rw [hregs.on List.not_mem_nil, h])

theorem ltcMeasured_invalid {s : State} (h : s.on R.QTZ_STATUS_TC_VALID = false) (drop : Bool) (ps : List Nat) :
    (ltcMeasured drop ps s).on R.QTZ_STATUS_TC_VALID = decide (16 ≤ s.qtz.run ∧ 16 ≤ ps.length) ∧
      ((ltcMeasured drop ps s).on R.QTZ_STATUS_TC_VALID = true →
        (ltcMeasured drop ps s).g R.QTZ_STATUS_TC_RATE = ltcRate (ltcClass s (ps.foldl (· + ·) 0)).1 drop % 8) := by
  have hregs := RegsBut.of_regs (ltcClass_regs s (ps.foldl (· + ·) 0)) []
  have hrun := (ltcKeeps_class s (ps.foldl (· + ·) 0)).run
  rw [ltcMeasured]
  split
  · next hlen =>
    rw [h]
    exact ⟨(decide_eq_false (by omega)).symm, fun hf => by cases hf⟩
  · next hlen =>
    obtain ⟨hon, hrate⟩ := (ltcRated_shows (ps.foldl (· + ·) 0) drop _).2 (by rw [hregs.on List.not_mem_nil, h])
    rw [hrun] at hon hrate
    rw [hon]
    exact ⟨decide_eq_decide.mpr (by omega), fun hd => hrate (of_decide_eq_true hd)⟩

/-- Sixteen frames of 25 frames per second name that class, and sixteen of 29.97 theirs (R459). -/
theorem ltcClass_25 (s : State) : (ltcClass s 640000).1 = 1 := rfl
theorem ltcClass_2997 (s : State) : (ltcClass s 533872).1 = 2 := rfl

/-! What a good frame stores, and what a time master sends of it. -/

theorem ltcStored_regs (tc : BitVec 32) (period start : Nat) (s : State) :
    (ltcStored tc period start s).regs = ((s.wr R.QTZ_TC tc).u64 R.QTZ_TC_TIME_LO (start % 2 ^ 64)).regs :=
  State.qtzU_regs ((s.wr R.QTZ_TC tc).u64 R.QTZ_TC_TIME_LO (start % 2 ^ 64)) _

theorem ltcStored_regsBut (tc : BitVec 32) (period start : Nat) (s : State) :
    RegsBut s (ltcStored tc period start s) [R.QTZ_TC, R.QTZ_TC_TIME_LO, R.QTZ_TC_TIME_HI] :=
  ((regsBut_wr s R.QTZ_TC tc).trans (regsBut_u64 _ R.QTZ_TC_TIME_LO (start % 2 ^ 64))).trans
    (RegsBut.of_regs (ltcStored_regs tc period start s) [])

theorem ltcStored_stores (tc : BitVec 32) (period start : Nat) (s : State) :
    (ltcStored tc period start s).rd R.QTZ_TC = tc ∧ (ltcStored tc period start s).g64 R.QTZ_TC_TIME_LO = start % 2 ^ 64 := by
  have hregs := RegsBut.of_regs (ltcStored_regs tc period start s) []
  constructor
  · rw [hregs _ List.not_mem_nil, regsBut_u64 _ R.QTZ_TC_TIME_LO _ _ (by decide), State.rd_wr_self]
  · rw [hregs.g64 (by decide), State.g64_u64_self, Nat.mod_mod]

/-- Passing a frame on changes no register, and nothing of Quartz and the log. -/
theorem ltcPassOn_keeps (tc : BitVec 32) (start : Nat) (s : State) :
    (ltcPassOn tc start s).regs = s.regs ∧ (ltcPassOn tc start s).qtz = s.qtz ∧ (ltcPassOn tc start s).evl = s.evl := by
  unfold ltcPassOn sendRingNew sendRing nextRingSeq
  dsimp only
  split
  · split <;> exact ⟨rfl, rfl, rfl⟩
  · exact ⟨rfl, rfl, rfl⟩

theorem ltcPassOn_slave {s : State} (h : s.on R.DRK_CTRL_TIME_MASTER = false) (tc : BitVec 32) (start : Nat) : ltcPassOn tc start s = s :=
  if_neg (by simp [h])

/-- A time master in an enabled ring sends TIMECODE (R459). -/
theorem ltcPassOn_master {s : State} (h : s.on R.DRK_CTRL_TIME_MASTER = true) (hen : s.on R.DRK_CTRL_EN = true) (tc : BitVec 32) (start : Nat) :
    (ltcPassOn tc start s).out =
      .ring (ringBytes 5 (s.g R.DRK_CTRL_NODE_ID) s.drk.seq 0 (start % 2 ^ 64) (tc.toNat % 2 ^ 32) 0) :: s.out := by
  rw [ltcPassOn, if_pos h]
  exact congrArg State.out (if_pos hen)

/-! Slewing (R457), and the followers (R31). -/

/-- By how much the crystal has moved the time, in units of 2⁻¹⁶ ns. -/
def slewBase (dt : Nat) (s : State) : Nat := if s.g R.QTZ_CTRL_SOURCE = 3 then 65536 * dt * s.qtz.rate / 2 ^ 32 else 65536 * dt

/-- How much of the offset may be removed at most. -/
def slewMost (dt : Nat) (s : State) : Nat :=
  min s.qtz.slew.natAbs (min (dt * s.qtz.slewFrom.natAbs / 1000000000) (65536 * dt * s.g R.QTZ_LIMITS_SLEW_MAX / 1000000))

/-- How much of it is removed. -/
def slewDone (dt : Nat) (s : State) : Nat := s.freeVal % (slewMost dt s + 1)

/-- By how much the time moves, with the fraction it stood at. -/
def slewTotal (dt : Nat) (s : State) : Nat :=
  if 0 ≤ s.qtz.slew then s.qtz.frac + slewBase dt s + slewDone dt s
  else s.qtz.frac + slewBase dt s - min (slewBase dt s) (slewDone dt s)

/-- The fraction and the offset that are left. -/
def slewed (dt : Nat) (s : State) : State :=
  (if slewMost dt s = 0 then s else s.tick).qtzU (fun x => { x with
    frac := slewTotal dt s % 65536
    slew := if 0 ≤ s.qtz.slew then s.qtz.slew - (slewDone dt s : Nat) else s.qtz.slew + (slewDone dt s : Nat) })

/-- Each follower takes the time, off by a free value. -/
def followTime (s : State) : State :=
  s.tick.qtzU (fun x => { x with skew := Vector.ofFn (fun d => ((s.freeVal / 17 ^ d.val % 17 : Nat) : Int) - 8) })

theorem timeFollowerCorrection_eq (dt : Nat) (s : State) :
    timeFollowerCorrection dt s = followTime (setQuartz (slewed dt s) ((slewed dt s).now + slewTotal dt s / 65536)) := rfl

theorem slewed_regs (dt : Nat) (s : State) : (slewed dt s).regs = s.regs := by
  unfold slewed
  split <;> rfl

theorem slewed_evl (dt : Nat) (s : State) : (slewed dt s).evl = s.evl := by
  unfold slewed
  split <;> rfl

theorem slewDone_le (dt : Nat) (s : State) : slewDone dt s ≤ s.qtz.slew.natAbs ∧
    slewDone dt s ≤ if s.qtz.slew = 0 then 0 else 65536 * dt * s.g R.QTZ_LIMITS_SLEW_MAX / 1000000 := by
  have hdone : slewDone dt s ≤ slewMost dt s := Nat.le_of_lt_succ (Nat.mod_lt _ (Nat.succ_pos _))
  have habs : slewMost dt s ≤ s.qtz.slew.natAbs := Nat.min_le_left ..
  have hmax : slewMost dt s ≤ 65536 * dt * s.g R.QTZ_LIMITS_SLEW_MAX / 1000000 := (Nat.min_le_right ..).trans (Nat.min_le_right ..)
  refine ⟨hdone.trans habs, ?_⟩
  split
  · next h0 =>
    rw [h0] at habs
    exact hdone.trans habs
  · exact hdone.trans hmax

/-- Slewing moves the time by no more than what is removed, either way, and never back (R457). -/
theorem slewTotal_bounds (dt : Nat) (s : State) : slewTotal dt s ≤ s.qtz.frac + slewBase dt s + slewDone dt s ∧
    s.qtz.frac + slewBase dt s ≤ slewTotal dt s + slewDone dt s := by
  unfold slewTotal
  split <;> omega

theorem slewed_slew_le (dt : Nat) (s : State) : (slewed dt s).qtz.slew.natAbs ≤ s.qtz.slew.natAbs := by
  have hdone := (slewDone_le dt s).1
  have heq : (slewed dt s).qtz.slew =
      if 0 ≤ s.qtz.slew then s.qtz.slew - (slewDone dt s : Nat) else s.qtz.slew + (slewDone dt s : Nat) := rfl
  rw [heq]
  split <;> omega

theorem followTime_regs (s : State) : (followTime s).regs = s.regs := rfl

theorem followTime_slew_frac {s : State} : (followTime s).qtz.slew = s.qtz.slew ∧ (followTime s).qtz.frac = s.qtz.frac := by
  rw [followTime, State.qtzU_qtz, State.tick_qtz]
  exact ⟨rfl, rfl⟩

theorem followTime_setQuartz_evl (s : State) (v : Nat) : (followTime (setQuartz s v)).evl = s.evl := rfl

/-- Every follower is within 8 ns of Quartz (R31). -/
theorem followTime_skew (s : State) (i : Nat) : ((followTime s).qtz.skew[i]?.getD 0).natAbs ≤ 8 := by
  have heq : (followTime s).qtz.skew = Vector.ofFn (fun d => ((s.freeVal / 17 ^ d.val % 17 : Nat) : Int) - 8) := rfl
  rw [heq, Vector.getElem?_ofFn]
  split
  · rw [Option.getD_some]
    omega
  · exact Nat.zero_le _

/-! TC_VALID ends (R459). -/

/-- The frames that were not good, or their time, end TC_VALID. -/
theorem tcValidLoss_ends {s : State} (h : s.on R.QTZ_STATUS_TC_VALID = true ∧ (8 ≤ s.qtz.bad ∨
    s.qtz.lastGood + 8000 * ratePeriod (s.g R.QTZ_STATUS_TC_RATE) ≤ s.now)) :
    tcValidLoss s = (s.u R.QTZ_STATUS_TC_VALID 0).qtzU (fun q => { q with periods := [], run := 0, cand := 0, held := 0, rate := 2 ^ 32 }) :=
  if_pos (by simpa using h)

theorem tcValidLoss_stays {s : State} (h : ¬ (s.on R.QTZ_STATUS_TC_VALID = true ∧ (8 ≤ s.qtz.bad ∨
    s.qtz.lastGood + 8000 * ratePeriod (s.g R.QTZ_STATUS_TC_RATE) ≤ s.now))) : tcValidLoss s = s :=
  if_neg (by simpa using h)

/-! The commands, where the FY8C is live. -/

theorem does_of_answer {i : Instr} {s : State} {k : State → State} {P : State → Prop} (hs : s.live = true) (hi : exec i s = answer s k)
    (hP : P (k s)) : Does i s P :=
  ⟨k s, hi.trans (answer_live k hs), hP⟩

/-- The time moves by its own command in RECOVERY too, and stands without power alone. -/
theorem exec_timeFollowerCorrection {s : State} (hs : s.live = true) (dt : Nat) :
    exec (.timeFollowerCorrection dt) s = .next (timeFollowerCorrection dt s) := by
  have hheld : s.sys.held = .no := by simpa [State.up] using up_of_live hs
  exact if_neg (by rw [hheld]; decide)

theorem qtzSet_earlier_spec {s : State} {v : BitVec 64} (hs : s.live = true) (h : v.toNat < s.now) :
    Does (.qtzSet v) s (fun t => t.on R.QTZ_STATUS_SET_REFUSED = true ∧ t.now = s.now ∧
      t.g64 R.QTZ_SET_LO = v.toNat ∧ RegsBut s t [R.QTZ_SET_LO, R.QTZ_SET_HI, R.QTZ_STATUS]) := by
  refine does_of_answer hs rfl ?_
  have hset := regsBut_u64 s R.QTZ_SET_LO v.toNat
  have hst := regsBut_u (s.u64 R.QTZ_SET_LO v.toNat) R.QTZ_STATUS_SET_REFUSED 1
  rw [qtzSet_earlier h]
  refine ⟨State.on_u_self _ (by decide) true, (hset.trans hst).now (by decide), ?_, hset.trans hst⟩
  rw [hst.g64 (by decide), State.g64_u64_self, Nat.mod_eq_of_lt v.isLt]

theorem qtzSet_later_spec {s : State} {v : BitVec 64} (hs : s.live = true) (h : s.now ≤ v.toNat) :
    Does (.qtzSet v) s (fun t => t.now = v.toNat ∧
      RegsBut s t [R.QTZ_SET_LO, R.QTZ_SET_HI, R.QTZ_TIME_LO, R.QTZ_TIME_HI, R.CGL_STATUS] ∧ t = { s with regs := t.regs }) := by
  refine does_of_answer hs rfl ?_
  rw [qtzSet_later h]
  refine ⟨?_, (regsBut_u64 s R.QTZ_SET_LO v.toNat).trans (setQuartz_regsBut _ _), setQuartz_only ..⟩
  rw [setQuartz_now, Nat.mod_eq_of_lt v.isLt]

/-- What a measurement always shows, and what it does within STEP_LIMIT and beyond (R457, R458). -/
theorem quartzRef_offset_locked (s : State) (o : Int) : (quartzRef s o).gi R.QTZ_OFFSET_OFFSET = clampI (-2147483648) 2147483647 o ∧
    (quartzRef s o).on R.QTZ_STATUS_LOCKED = decide (-100 ≤ o ∧ o ≤ 100) := by
  rw [← refMeasured_offset s o, ← refMeasured_locked s o]
  by_cases h : (10000 * s.g R.QTZ_LIMITS_STEP_LIMIT : Nat) < o
  · obtain ⟨hoff, hlock, -⟩ := refCount_refJump (refMeasured s o) o
    rw [quartzRef_beyond h, State.log_on, State.gi_of_g (State.log_g ..)]
    exact ⟨hoff, hlock⟩
  · rw [quartzRef_within h, State.qtzU_on, State.gi_of_g (State.qtzU_g ..)]
    exact ⟨rfl, rfl⟩

theorem quartzRef_beyond_steps {s : State} {o : Int} (h : (10000 * s.g R.QTZ_LIMITS_STEP_LIMIT : Nat) < o) :
    (quartzRef s o).now = (s.now + o.toNat) % 2 ^ 64 ∧ (quartzRef s o).on R.QTZ_STATUS_STEPPED = true ∧
      Counted s (quartzRef s o) R.QTZ_CNT_STEPS 1 ∧ (quartzRef s o).qtz.slew = 0 ∧
      ∃ e ∈ (quartzRef s o).evl.inFlight, e.code = 0x505 ∧ e.a0 = o.toNat % 2 ^ 32 ∧ e.a2 = s.g R.QTZ_CTRL_SOURCE := by
  have hm := refMeasured_regsBut s o
  obtain ⟨-, -, hnow, hst, hcnt⟩ := refCount_refJump (refMeasured s o) o
  have hsrc : (refJump (refMeasured s o) o).g R.QTZ_CTRL_SOURCE = s.g R.QTZ_CTRL_SOURCE :=
    (hm.trans (refJump_regsBut _ o)).g (by decide)
  rw [hm.now (by decide)] at hnow
  rw [Counted, hm _ (by decide)] at hcnt
  rw [quartzRef_beyond h, hsrc, State.log_now, State.log_on, State.log_qtz, refCount_qtz, refJump_slew, Counted, State.log_rd]
  refine ⟨hnow, hst, hcnt, rfl, _, List.mem_append_right _ (List.mem_singleton_self _), rfl, Nat.mod_mod .., ?_⟩
  exact Nat.mod_eq_of_lt ((getF_lt _ R.QTZ_CTRL_SOURCE).trans (by decide))

theorem quartzRef_within_slews {s : State} {o : Int} (h : ¬ (10000 * s.g R.QTZ_LIMITS_STEP_LIMIT : Nat) < o) :
    (quartzRef s o).now = s.now ∧ (quartzRef s o).evl = s.evl ∧ (quartzRef s o).qtz.slew = 65536 * o ∧
      RegsBut s (quartzRef s o) [R.QTZ_OFFSET, R.QTZ_STATUS] := by
  have hm := refMeasured_regsBut s o
  rw [quartzRef_within h]
  exact ⟨hm.now (by decide), rfl, rfl, hm⟩

theorem tcValidLoss_ended {s : State} (h : s.on R.QTZ_STATUS_TC_VALID = true ∧ (8 ≤ s.qtz.bad ∨
    s.qtz.lastGood + 8000 * ratePeriod (s.g R.QTZ_STATUS_TC_RATE) ≤ s.now)) :
    (tcValidLoss s).on R.QTZ_STATUS_TC_VALID = false ∧ BitsBut s (tcValidLoss s) R.QTZ_STATUS [R.QTZ_STATUS_TC_VALID] ∧
      RegsBut s (tcValidLoss s) [R.QTZ_STATUS] ∧ (tcValidLoss s).qtz.run = 0 ∧ (tcValidLoss s).qtz.periods = [] := by
  have hoff := s.on_u_self (f := R.QTZ_STATUS_TC_VALID) (by decide) false
  have hregs := regsBut_u s R.QTZ_STATUS_TC_VALID 0
  have hbits : BitsBut s (s.u R.QTZ_STATUS_TC_VALID 0) R.QTZ_STATUS [R.QTZ_STATUS_TC_VALID] := fun f _ hw hg =>
    s.g_u_bits R.QTZ_STATUS_TC_VALID f 0 (hg _ (List.mem_singleton_self _)).symm hw
  rw [tcValidLoss_ends h]
  exact ⟨hoff, hbits, hregs, rfl, rfl⟩

/-- A good frame (R459): what it stores, that Quartz and the log stand, and the run of good frames. -/
theorem ltcFrame_good_stores {s : State} (h : ¬ ∀ k : Fin 16, s.g (R.DRK_PIN_FUNC k) ≠ 4) (tc : BitVec 32) (drop : Bool)
    (period start : Nat) (t : State) (ht : t = ltcFrame true tc drop period start s) :
    t.rd R.QTZ_TC = tc ∧ t.g64 R.QTZ_TC_TIME_LO = start % 2 ^ 64 ∧ t.qtz.run = s.qtz.run + 1 ∧ t.qtz.bad = 0 ∧ t.now = s.now ∧
      RegsBut s t [R.QTZ_TC, R.QTZ_TC_TIME_LO, R.QTZ_TC_TIME_HI, R.QTZ_STATUS] ∧ t.evl = s.evl := by
  have hstored := ltcStored_regsBut tc period start s
  obtain ⟨htc, htime⟩ := ltcStored_stores tc period start s
  have hkeeps := ltcKeeps_measured drop ((period :: s.qtz.periods).take 16) (ltcStored tc period start s)
  obtain ⟨hregs, hqtz, hevl⟩ := ltcPassOn_keeps tc start (ltcMeasured drop ((period :: s.qtz.periods).take 16) (ltcStored tc period start s))
  have hall := hstored.trans (hkeeps.regs.trans (RegsBut.of_regs hregs []))
  have hrest := hkeeps.regs.trans (RegsBut.of_regs hregs [])
  rw [← ltcFrame_good h tc drop period start, ← ht] at hregs hqtz hevl hall hrest
  refine ⟨?_, ?_, ?_, ?_, hall.now (by decide), hall.mono (by decide), hevl.trans hkeeps.evl⟩
  · rw [hrest _ (by decide), htc]
  · rw [hrest.g64 (by decide), htime]
  · rw [hqtz, hkeeps.run]; rfl
  · rw [hqtz, hkeeps.bad]; rfl

/-- TC_VALID and TC_RATE after a good frame (R459). -/
theorem ltcFrame_good_valid {s : State} (h : ¬ ∀ k : Fin 16, s.g (R.DRK_PIN_FUNC k) ≠ 4) (tc : BitVec 32) (drop : Bool)
    (period start : Nat) (t : State) (ht : t = ltcFrame true tc drop period start s) :
    (s.on R.QTZ_STATUS_TC_VALID = true → t.on R.QTZ_STATUS_TC_VALID = true) ∧
      (s.on R.QTZ_STATUS_TC_VALID = false → t.on R.QTZ_STATUS_TC_VALID = decide (16 ≤ s.qtz.run + 1 ∧ 15 ≤ s.qtz.periods.length) ∧
        (t.on R.QTZ_STATUS_TC_VALID = true → ∃ z, t.g R.QTZ_STATUS_TC_RATE =
          ltcRate (ltcClass z (((period :: s.qtz.periods).take 16).foldl (· + ·) 0)).1 drop % 8)) := by
  have hon := (ltcStored_regsBut tc period start s).on (f := R.QTZ_STATUS_TC_VALID) (by decide)
  obtain ⟨hregs, -, -⟩ := ltcPassOn_keeps tc start (ltcMeasured drop ((period :: s.qtz.periods).take 16) (ltcStored tc period start s))
  rw [ht, ltcFrame_good h, (RegsBut.of_regs hregs []).on List.not_mem_nil, (RegsBut.of_regs hregs []).g List.not_mem_nil, ← hon]
  refine ⟨fun hv => ltcMeasured_valid hv .., fun hv => ?_⟩
  obtain ⟨hvalid, hrate⟩ := ltcMeasured_invalid hv drop ((period :: s.qtz.periods).take 16)
  refine ⟨hvalid.trans (decide_eq_decide.mpr ?_), fun ht => ⟨_, hrate ht⟩⟩
  have hrun : (ltcStored tc period start s).qtz.run = s.qtz.run + 1 := rfl
  rw [hrun, List.length_take, List.length_cons]
  omega

/-- A time master in an enabled ring sends the frame on, and no other node does (R459). -/
theorem ltcFrame_good_out {s : State} (h : ¬ ∀ k : Fin 16, s.g (R.DRK_PIN_FUNC k) ≠ 4) (tc : BitVec 32) (drop : Bool)
    (period start : Nat) (t : State) (ht : t = ltcFrame true tc drop period start s) :
    (s.on R.DRK_CTRL_TIME_MASTER = true → s.on R.DRK_CTRL_EN = true → t.out = .ring (ringBytes 5 (s.g R.DRK_CTRL_NODE_ID) s.drk.seq 0
      (start % 2 ^ 64) (tc.toNat % 2 ^ 32) 0) :: s.out) ∧ (s.on R.DRK_CTRL_TIME_MASTER = false → t.out = s.out) := by
  have hkeeps := ltcKeeps_measured drop ((period :: s.qtz.periods).take 16) (ltcStored tc period start s)
  have hall := (ltcStored_regsBut tc period start s).trans hkeeps.regs
  rw [ht, ltcFrame_good h]
  generalize ltcMeasured drop ((period :: s.qtz.periods).take 16) (ltcStored tc period start s) = z at hkeeps hall ⊢
  have hout : z.out = s.out := hkeeps.out
  have hdrk : z.drk = s.drk := hkeeps.drk
  rw [← hall.on (f := R.DRK_CTRL_TIME_MASTER) (by decide), ← hall.on (f := R.DRK_CTRL_EN) (by decide),
    ← hall.g (f := R.DRK_CTRL_NODE_ID) (by decide), ← hdrk, ← hout]
  exact ⟨fun hm hen => ltcPassOn_master hm hen tc start, fun hm => by rw [ltcPassOn_slave hm]⟩

theorem timeFollowerCorrection_moves (dt : Nat) (s t : State) (ht : t = timeFollowerCorrection dt s) :
    t.now = (s.now + slewTotal dt s / 65536) % 2 ^ 64 ∧ t.qtz.slew.natAbs ≤ s.qtz.slew.natAbs ∧ t.qtz.frac < 65536 ∧
      RegsBut s t [R.QTZ_TIME_LO, R.QTZ_TIME_HI, R.CGL_STATUS] ∧ t.evl = s.evl := by
  have hregs := RegsBut.of_regs (slewed_regs dt s) []
  have hset := setQuartz_regsBut (slewed dt s) ((slewed dt s).now + slewTotal dt s / 65536)
  have hnow : (setQuartz (slewed dt s) ((slewed dt s).now + slewTotal dt s / 65536)).now = (s.now + slewTotal dt s / 65536) % 2 ^ 64 := by
    rw [setQuartz_now, hregs.now (by decide)]
  have hfrac : (slewed dt s).qtz.frac = slewTotal dt s % 65536 := rfl
  have hfollow := RegsBut.of_regs (followTime_regs (setQuartz (slewed dt s) ((slewed dt s).now + slewTotal dt s / 65536))) []
  rw [ht, timeFollowerCorrection_eq, hfollow.now (by decide), followTime_slew_frac.1, followTime_slew_frac.2, setQuartz_qtz, hfrac,
    followTime_setQuartz_evl]
  exact ⟨hnow, slewed_slew_le dt s, Nat.mod_lt _ (by decide), (hregs.trans hset).trans hfollow, slewed_evl dt s⟩

/-- Settles O57: each command's effect is read off the lemma of its operation. -/
theorem quartzAndTimecode : Obligations.QuartzAndTimecode := by
  intro s hs
  refine ⟨fun v => ⟨qtzSet_earlier_spec hs, qtzSet_later_spec hs⟩, fun o => ⟨fun hu => ?unused, fun hu => ?reference⟩,
    fun good drop tc period start => ⟨fun h => ?noPin, fun h => ?pin⟩, fun dt => ?slew, fun h => ?stays, fun h => ?ends⟩
  case unused => exact (answer_live _ hs).trans (congrArg _ (if_neg hu))
  case reference =>
    have href : quartzReferenceUpdate o s = quartzRef s o := if_pos hu
    obtain ⟨hoff, hlock⟩ := quartzRef_offset_locked s o
    refine does_of_answer hs rfl ?_
    rw [href]
    exact ⟨hoff, hlock, quartzRef_beyond_steps, quartzRef_within_slews⟩
  case noPin => exact (answer_live _ hs).trans (congrArg _ (ltcFrame_noPin h ..))
  case pin =>
    have hpin : ¬ ∀ k : Fin 16, s.g (R.DRK_PIN_FUNC k) ≠ 4 := not_forall_not.mpr h
    refine ⟨fun hg => ?bad, fun hg => ?good⟩
    case bad =>
      rw [hg]
      exact (answer_live _ hs).trans (congrArg _ (ltcFrame_bad hpin ..))
    case good =>
      subst hg
      refine does_of_answer hs rfl ?_
      obtain ⟨htc, htime, hrun, hbad, hnow, hregs, hevl⟩ := ltcFrame_good_stores hpin tc drop period start _ rfl
      obtain ⟨hstays, hsets⟩ := ltcFrame_good_valid hpin tc drop period start _ rfl
      obtain ⟨hmaster, hslave⟩ := ltcFrame_good_out hpin tc drop period start _ rfl
      refine ⟨htc, htime, hrun, hbad, hnow, hregs, hevl, hstays, fun hv => (hsets hv).1, fun hv ht hp hps => ?rate25,
        fun hv ht hp hps => ?rate2997, hmaster, hslave⟩
      case rate25 =>
        obtain ⟨z, hz⟩ := (hsets hv).2 ht
        have hsum : ((period :: s.qtz.periods).take 16).foldl (· + ·) 0 = 640000 := by rw [hp, hps]; rfl
        rw [hz, hsum, ltcClass_25]
        rfl
      case rate2997 =>
        obtain ⟨z, hz⟩ := (hsets hv).2 ht
        have hsum : ((period :: s.qtz.periods).take 16).foldl (· + ·) 0 = 533872 := by rw [hp, hps]; rfl
        rw [hz, hsum, ltcClass_2997]
        cases drop <;> rfl
  case slew =>
    obtain ⟨hnow, hslew, hfrac, hregs, hevl⟩ := timeFollowerCorrection_moves dt s _ rfl
    obtain ⟨hle, hge⟩ := slewTotal_bounds dt s
    have hdone := (slewDone_le dt s).2
    have hbase : slewBase dt s = if s.g R.QTZ_CTRL_SOURCE = 3 then 65536 * dt * s.qtz.rate / 2 ^ 32 else 65536 * dt := rfl
    refine ⟨_, exec_timeFollowerCorrection hs dt, _, hnow, ?_, fun d => followTime_skew _ d, hslew, hfrac, hregs, hevl⟩
    rw [← hbase]
    constructor <;> omega
  case stays => exact (answer_live _ hs).trans (congrArg _ (tcValidLoss_stays h))
  case ends => exact does_of_answer hs rfl (tcValidLoss_ended h)
end Sys2Proof.Machine

/-!
PROOF. O3, O4 and O6: the device after reset, the device without power, and what a device held in reset ignores (R38, R42, R504). First which
commands are answered out of reset alone, then what taking the power away leaves, then the obligations.
-/

namespace Sys2Proof.Machine

/-! Which commands act while the device is held. -/

/-- The commands that begin, renew or end a hold, and the one that moves the time: the others act out of reset alone (R57, R457, R504, R522). -/
def actsHeld : Instr → Bool
  | .powerGood | .pwrgoodLow | .jtagTestInstruction | .jtagTestExit | .thermalTripRelease _ | .timeFollowerCorrection _ => true
  | _ => false

/-- Every other command is answered out of reset and RECOVERY, or out of reset (R38, R470, R504). -/
theorem exec_gated {c : Instr} (h : actsHeld c = false) (s : State) :
    (∃ k, exec c s = answer s k) ∨ ∃ k, exec c s = answerUp s k := by
  cases c
  case powerGood | pwrgoodLow | jtagTestInstruction | jtagTestExit | thermalTripRelease | timeFollowerCorrection => cases h
  case registerWrite | readClear | read64Low | read64High | write64Low | write64High => exact .inr ⟨_, rfl⟩
  case tempSensorUpdate | watchdogExpiry | restart | fundamentalReset | configRequest | serdesLaneFailure | dataLinkUp => exact .inr ⟨_, rfl⟩
  case eventEntry | evlHeadWrite | flashRead | flashProgram | flashErase | flashCommandComplete | updateVerify | activate | provision |
      raiseSec | updateCommandComplete | trialExpiry => exact .inr ⟨_, rfl⟩
  case doeDiscovery | getVersion | getCapabilities | negotiateAlgorithms | getDigests | getCertificate | challenge | getMeasurements =>
    exact .inr ⟨_, rfl⟩
  all_goals exact .inl ⟨_, rfl⟩

theorem live_of_held {s : State} (h : s.up = false) : s.live = false := by
  rw [State.live, h, Bool.false_and]

theorem live_of_recovery {s : State} (h : s.on R.TRU_STATUS_RECOVERY = true) : s.live = false := by
  rw [State.live, h, Bool.not_true, Bool.and_false]

/-- A device held in reset leaves such a command without effect (R504). -/
theorem exec_held {c : Instr} {s : State} (hc : actsHeld c = false) (hs : s.up = false) : exec c s = .next s := by
  rcases exec_gated hc s with ⟨k, hk⟩ | ⟨k, hk⟩
  · rw [hk, answer_dead k (live_of_held hs)]
  · rw [hk, answerUp_held k hs]

/-- Settles O6: `exec_held` for the hold, `answer_dead` for RECOVERY. -/
theorem heldDeviceIgnoresCommands : Obligations.HeldDeviceIgnoresCommands := by
  refine ⟨fun c s hs hgood hlow htest hexit htrip htime => exec_held ?_ hs, fun s hrec => ?recovery⟩
  · cases c
    case powerGood => exact absurd rfl hgood
    case pwrgoodLow => exact absurd rfl hlow
    case jtagTestInstruction => exact absurd rfl htest
    case jtagTestExit => exact absurd rfl hexit
    case thermalTripRelease v => exact absurd rfl (htrip v)
    case timeFollowerCorrection dt => exact absurd rfl (htime dt)
    all_goals rfl
  case recovery =>
    have hdead (k : State → State) : answer s k = .next s := answer_dead k (live_of_recovery hrec)
    exact ⟨fun _ _ _ => hdead _, fun _ _ _ => hdead _, fun _ _ _ => hdead _, fun _ _ _ => hdead _, fun _ => hdead _,
      fun _ _ _ => hdead _, hdead _, hdead _, fun _ => hdead _⟩

/-! Taking the power away. -/

/-- Bytes that an interrupted PROGRAM or ERASE leaves open keep the flash canonical (R478). -/
theorem scrambled_flash_wf {s : State} (h : smWf (fun _ => 0xFF#8) s.tru.flash = true) :
    smWf (fun _ => 0xFF#8) (scrambled s).tru.flash = true := by
  unfold scrambled
  split
  · exact h
  · split
    · exact h
    · exact State.each_keeps (fun t => smWf (fun _ => 0xFF#8) t.tru.flash = true) _ (fun _ _ ht => smWf_smSet _ _ ht) _ _ h

/-- Of an interrupted flash command nothing is open but the bytes it acted on and the free values they took (R478). -/
theorem scrambled_only (s : State) : ∃ m n, scrambled s = { s with tru := { s.tru with flash := m }, free := n } := by
  unfold scrambled
  split
  · exact ⟨_, _, rfl⟩
  · split
    · exact ⟨_, _, rfl⟩
    · refine State.each_keeps (fun t => ∃ m n, t = { s with tru := { s.tru with flash := m }, free := n }) _ ?_ _ _ ⟨_, _, rfl⟩
      rintro _ i ⟨m, n, rfl⟩
      exact ⟨_, _, rfl⟩

theorem scrambled_pending (s : State) : (scrambled s).pending = s.pending := by
  obtain ⟨m, n, h⟩ := scrambled_only s
  rw [h]

/-- Without power the registers stand at reset, but for the two that show fuses (R42, R496). -/
theorem poweredOff_atReset (s : State) : (poweredOff s).atReset := by
  intro a hsec hst
  rw [poweredOff, State.rd_u_other _ _ _ hst, State.rd_wr_other _ _ hsec]
  rfl

/-- Losing power leaves a device that is held for want of it, with nothing under way (R504). -/
theorem poweredOff_heldInv {s : State} (h : s.heldInv) : (poweredOff s).heldInv where
  held := rfl
  atReset := poweredOff_atReset s
  calm := ⟨rfl, rfl, rfl, rfl⟩
  flash := scrambled_flash_wf h.flash
  noEdge := (scrambled_pending s).symm ▸ h.noEdge

/-! Without power no command but the rising edge of PWRGOOD changes what holds. -/

theorem State.heldInv.up {s : State} (h : s.heldInv) : s.up = false := by
  rw [State.up, h.held]; rfl

/-- Taking a command out of the queue. -/
theorem State.heldInv.withPending {s : State} (h : s.heldInv) {l : List Instr} (hl : Instr.powerGood ∉ l) : ({ s with pending := l } : State).heldInv :=
  ⟨h.held, h.atReset, h.calm, h.flash, hl⟩

theorem jtagTestInstruction_unpowered {s : State} (h : s.sys.held = .power) : jtagTestInstruction s = s := by
  unfold jtagTestInstruction
  rw [h]

/-- What a command other than the rising edge of PWRGOOD leaves without power: losing power again, a JTAG test instruction left, or nothing
changed (R504, R522). -/
theorem exec_unpowered {s : State} (h : s.sys.held = .power) {c : Instr} (hc : c ≠ .powerGood) :
    exec c s = .next s ∨ exec c s = .next (poweredOff s) ∨ exec c s = .next { s with sys := { s.sys with jtagTest := false } } := by
  cases hact : actsHeld c
  · exact .inl (exec_held hact (by rw [State.up, h]; rfl))
  · cases c
    case powerGood => exact absurd rfl hc
    case pwrgoodLow => exact .inr (.inl rfl)
    case jtagTestInstruction => exact .inl (congrArg Host.Outcome.next (jtagTestInstruction_unpowered h))
    case jtagTestExit => exact .inr (.inr (congrArg _ (if_neg (by rw [h]; decide))))
    case thermalTripRelease v => exact .inl (congrArg _ (if_neg (by rw [h]; simp)))
    case timeFollowerCorrection dt => exact .inl (if_pos h)
    all_goals cases hact

theorem heldInv_exec {s t : State} {c : Instr} (h : s.heldInv) (hc : c ≠ .powerGood) (ht : exec c s = .next t) : t.heldInv := by
  rcases exec_unpowered h.held hc with he | he | he
  · cases ht.symm.trans he
    exact h
  · cases ht.symm.trans he
    exact poweredOff_heldInv h
  · cases ht.symm.trans he
    exact ⟨h.held, h.atReset, h.calm, h.flash, h.noEdge⟩

/-- Settles O4: the command at the front of the queue is not the rising edge of PWRGOOD, and `heldInv_exec` does the rest. -/
theorem heldWithoutPowerStays : Obligations.HeldWithoutPowerStays := by
  intro s t h ht
  unfold step at ht
  split at ht
  · cases ht
    exact h
  · next c rest hq =>
    obtain ⟨hc, hrest⟩ : Instr.powerGood ≠ c ∧ Instr.powerGood ∉ rest := by
      have := h.noEdge
      rwa [hq, List.mem_cons, not_or] at this
    exact heldInv_exec (h.withPending hrest) hc.symm ht

/-- Settles O3: the sparse tables of the reset state are empty, so every register reads its reset value. -/
theorem resetHoldsWithoutPower : Obligations.ResetHoldsWithoutPower :=
  ⟨rfl, rfl, rfl, fun _ => rfl, fun _ => rfl, rfl⟩

end Sys2Proof.Machine

/-!
PROOF. O11, and of O49 what a device reset does to the shadows: power, device resets, the die temperatures (R53, R56, R57, R468, R496, R504,
R522). First what a start-up leaves alone, then what a reset keeps, then the temperatures, then the obligation.
-/

namespace Sys2Proof.Machine

/-! What a start-up leaves alone (R468, R469). -/

/-- What no start-up changes: the queues of commands and strobes, the shadows, what holds the device, the log, the flash, Garnet, the reset
causes, the time and the two bits of the trial. -/
structure StartView where
  pending : List Instr
  strobes : List Strobe
  rdShadows : List Shadow
  wrShadows : List Shadow
  held : Held
  jtagTest : Bool
  ring : List Rec
  flash : SMap Byte
  grn : Grn
  cause : Word
  timeLo : Word
  timeHi : Word
  trial : Bool
  trialFailed : Bool

def startView (s : State) : StartView where
  pending := s.pending
  strobes := s.strobes
  rdShadows := s.rdShadows
  wrShadows := s.wrShadows
  held := s.sys.held
  jtagTest := s.sys.jtagTest
  ring := s.evl.ring
  flash := s.tru.flash
  grn := s.grn
  cause := s.rd R.GLB_RESET_CAUSE
  timeLo := s.rd R.QTZ_TIME_LO
  timeHi := s.rd R.QTZ_TIME_HI
  trial := s.on R.TRU_STATUS_TRIAL
  trialFailed := s.on R.TRU_STATUS_TRIAL_FAILED

/-- The registers that hold what a start-up leaves alone. -/
def startRegs : List Nat := [R.GLB_RESET_CAUSE, R.QTZ_TIME_LO, R.QTZ_TIME_HI, R.TRU_STATUS]

theorem startView_of_rd {s t : State} (hrd : ∀ a ∈ startRegs, t.rd a = s.rd a) (ht : ∃ r, t = { s with regs := r }) : startView t = startView s := by
  obtain ⟨r, rfl⟩ := ht
  have h1 := hrd R.GLB_RESET_CAUSE (by decide)
  have h2 := hrd R.QTZ_TIME_LO (by decide)
  have h3 := hrd R.QTZ_TIME_HI (by decide)
  have h4 := hrd R.TRU_STATUS (by decide)
  simp only [startView, h1, h2, h3, State.on, State.g, show R.TRU_STATUS_TRIAL.addr = R.TRU_STATUS from rfl,
    show R.TRU_STATUS_TRIAL_FAILED.addr = R.TRU_STATUS from rfl, h4]

theorem startView_wr (s : State) {a : Nat} (w : Word) (ha : a ∉ startRegs) : startView (s.wr a w) = startView s :=
  startView_of_rd (fun _ hb => s.rd_wr_other w fun e => ha (e ▸ hb)) ⟨_, rfl⟩

theorem startView_u (s : State) (f : FRef) (v : Nat) (hf : f.addr ∉ startRegs) : startView (s.u f v) = startView s := startView_wr s _ hf

/-- The bits of TRU_STATUS below TRIAL. -/
theorem startView_u_status (s : State) {f : FRef} (v : Nat) (hf : f.addr = R.TRU_STATUS ∧ f.lo + f.w ≤ 3) : startView (s.u f v) = startView s := by
  have ha (a : Nat) (h : a ≠ R.TRU_STATUS) : (s.u f v).rd a = s.rd a := s.rd_u_other _ _ (hf.1.symm ▸ h)
  have ht : (s.u f v).on R.TRU_STATUS_TRIAL = s.on R.TRU_STATUS_TRIAL := s.on_u_bits v (.inl hf.2) (by decide)
  have htf : (s.u f v).on R.TRU_STATUS_TRIAL_FAILED = s.on R.TRU_STATUS_TRIAL_FAILED :=
    s.on_u_bits v (.inl (hf.2.trans (by decide))) (by decide)
  simp only [startView, ha R.GLB_RESET_CAUSE (by decide), ha R.QTZ_TIME_LO (by decide), ha R.QTZ_TIME_HI (by decide), ht, htf]
  rfl

@[simp] theorem startView_log (s : State) (c r : Nat) (l : List Nat) (k : Nat) : startView (s.log c r l k) = startView s := rfl

/-- No field of these registers can be written, so no configuration image sets one. -/
theorem startRegs_fixed {a : Nat} (ha : a ∈ startRegs) {r : RegDef} (hr : regAt a = some r) :
    r.fields.filter (fun f => f.acc == .rw || f.acc == .rwa) = [] := by
  simp only [startRegs, List.mem_cons, List.not_mem_nil, or_false] at ha
  rcases ha with rfl | rfl | rfl | rfl
  all_goals
    cases hr
    rfl

theorem startView_imageReg (s : State) (p : Nat × Word) : startView (imageReg s p) = startView s := by
  unfold imageReg
  split
  · rfl
  · next r hr =>
    have hwr : startView (s.wr p.1 ((r.fields.filter (fun f => f.acc == .rw || f.acc == .rwa)).foldl
        (fun (w : Word) f => setF w ⟨p.1, f.lo, f.w⟩ (p.2.toNat / 2 ^ f.lo)) (s.rd p.1))) = startView s := by
      by_cases ha : p.1 ∈ startRegs
      · rw [startRegs_fixed ha hr]
        exact startView_of_rd (fun b _ => s.rd_wr_same p.1 b) ⟨_, rfl⟩
      · exact startView_wr s _ ha
    dsimp only
    split
    · exact hwr
    · exact hwr

theorem not_mem_startRegs {a : Nat} (h : a ≠ 0x10 ∧ a ≠ 0x1D0080 ∧ a ≠ 0x1D0084 ∧ a ≠ 0x1E0000) : a ∉ startRegs := by
  obtain ⟨h1, h2, h3, h4⟩ := h
  simp [startRegs, R.GLB_RESET_CAUSE, R.QTZ_TIME_LO, R.QTZ_TIME_HI, R.TRU_STATUS, h1, h2, h3, h4]

/-- A lane's registers lie in its station's page or behind the slots. -/
theorem laneBase_bounds (l : Fin 68) : 0x81000 ≤ laneBase l ∧ laneBase l < 0x100000 ∨ 0x200000 ≤ laneBase l := by
  unfold laneBase
  split
  · exact .inl (by omega)
  · exact .inr (by omega)

theorem startView_gainLoad (s : State) (l : Fin 68) : startView (gainLoad s l) = startView s := by
  have hb := laneBase_bounds l
  have hgain : R.OPL_GAIN l ∉ startRegs := not_mem_startRegs (by unfold R.OPL_GAIN; omega)
  have hst : R.OPL_STATUS l ∉ startRegs := not_mem_startRegs (by unfold R.OPL_STATUS; omega)
  rw [gainLoad, State.us_cons, State.us_cons, State.us_cons, State.us_nil, startView_u _ _ _ hst, startView_u _ _ _ hst,
    startView_u _ _ _ hgain]
  rfl

theorem startView_tapsLoad (s : State) (l : Fin 68) : startView (tapsLoad s l) = startView s := by
  unfold tapsLoad
  rfl

theorem startView_lanePrime (s : State) (l : Fin 68) : startView (lanePrime s l) = startView s := by
  unfold lanePrime
  split
  · rfl
  · exact (startView_tapsLoad _ l).trans (startView_gainLoad s l)

theorem startView_refreshLoad (s : State) : startView (refreshLoad s) = startView s := by
  have hslot (t : State) (k : Nat) (hk : k ∈ List.range 96) (c p : Nat) :
      startView (t.us [(R.BRL_SLOT_COST_COST k, c), (R.BRL_SLOT_STATUS_PHASE k, p)]) = startView t := by
    have hk' := List.mem_range.1 hk
    have hcost : R.BRL_SLOT_COST k ∉ startRegs := not_mem_startRegs (by unfold R.BRL_SLOT_COST; omega)
    have hst : R.BRL_SLOT_STATUS k ∉ startRegs := not_mem_startRegs (by unfold R.BRL_SLOT_STATUS; omega)
    rw [State.us_cons, State.us_cons, State.us_nil, startView_u _ _ _ hst, startView_u _ _ _ hcost]
  have hload : R.BRL_LOAD ∉ startRegs := not_mem_startRegs (by decide)
  have htop (b c : Nat) : startView (s.us [(R.BRL_LOAD_BOUND, b), (R.BRL_LOAD_CAPACITY, c)]) = startView s := by
    rw [State.us_cons, State.us_cons, State.us_nil, startView_u _ _ _ hload, startView_u _ _ _ hload]
  have hloop (t : State) : startView (t.each (List.range 96) fun s k => s.us [(R.BRL_SLOT_COST_COST k, costOf (s.rd (R.BRL_SLOT_CFG k))),
      (R.BRL_SLOT_STATUS_PHASE k, phaseOf (slotType s k) (slotStation s k))]) = startView t :=
    List.foldlRecOn (motive := fun x => startView x = startView t) _ _ rfl fun x hx k hk => (hslot x k hk _ _).trans hx
  exact (hloop _).trans (htop _ _)

theorem startView_logRejects (s : State) (slot : Nat) : startView (logRejects s slot) = startView s := by
  refine State.each_proj startView _ (fun t cfg => ?_) _ s
  have hrej : R.TRU_REJECT ∉ startRegs := not_mem_startRegs (by decide)
  dsimp only
  split
  · rfl
  · rw [startView_log, State.us_cons, State.us_cons, State.us_cons, State.us_nil, startView_u _ _ _ hrej, startView_u _ _ _ hrej,
      startView_u _ _ _ hrej]

theorem startView_truU (s : State) {f : Tru → Tru} (hf : (f s.tru).flash = s.tru.flash) : startView (s.truU f) = startView s := by
  unfold State.truU startView
  rw [hf]
  rfl

theorem startView_with_sys (s : State) {sys : Sys} (buf : Buf) (lanes : Vector Lane 68) (hh : sys.held = s.sys.held)
    (hj : sys.jtagTest = s.sys.jtagTest) : startView { s with sys := sys, buf := buf, lanes := lanes } = startView s := by
  unfold startView
  rw [hh, hj]
  rfl

theorem startView_runSlot (s : State) (slot : Nat) : startView (runSlot s slot) = startView s := by
  unfold runSlot
  extract_lets body boot withTru sys oldBuf buf withSys primed
  rw [startView_refreshLoad, State.each_proj startView _ startView_lanePrime, State.each_proj startView _ startView_imageReg]
  calc startView withSys
    _ = startView withTru := startView_with_sys withTru buf _ rfl rfl
    _ = startView boot := startView_truU boot rfl
    _ = startView (s.u R.TRU_STATUS_SLOT slot) := startView_u _ R.TRU_SERIAL_SERIAL _ (not_mem_startRegs (by decide))
    _ = startView s := startView_u_status _ _ ⟨rfl, by decide⟩

theorem startView_refreshPending (s : State) : startView (refreshPending s) = startView s :=
  startView_u s _ _ (not_mem_startRegs (by decide))

theorem startView_startUp (s : State) : startView (startUp s) = startView s := by
  unfold startUp
  rw [startView_refreshPending]
  dsimp only
  split
  · exact startView_runSlot s _
  · have hfall : startView ((logRejects s (firstSlot s)).u R.TRU_STATUS_FALLBACK 1) = startView s :=
      (startView_u_status _ _ ⟨rfl, by decide⟩).trans (startView_logRejects s _)
    revert hfall
    generalize (logRejects s (firstSlot s)).u R.TRU_STATUS_FALLBACK 1 = t
    intro hfall
    split
    · exact (startView_runSlot _ _).trans hfall
    · have hrec : startView ((logRejects t (1 - firstSlot s)).u R.TRU_STATUS_RECOVERY 1) = startView s :=
        (startView_u_status _ _ ⟨rfl, by decide⟩).trans ((startView_logRejects _ _).trans hfall)
      revert hrec
      generalize (logRejects t (1 - firstSlot s)).u R.TRU_STATUS_RECOVERY 1 = u
      exact fun hrec => (startView_with_sys u u.buf u.lanes rfl rfl).trans hrec

/-! What a device reset keeps (R468, R496, R524). -/

/-- Keeping some keys of a sparse table, with values that depend on the key alone. -/
theorem smGet_filterMap_keys {α β : Type} (f : Nat → Option β) (m : SMap α) (k : Nat) :
    smGet (m.filterMap fun p => (f p.1).map fun v => (p.1, v)) k = if (smGet m k).isSome then f k else none := by
  induction m with
  | nil => rfl
  | cons p m ih =>
    obtain ⟨k', v'⟩ := p
    by_cases he : k' = k
    · cases hf : f k' with
      | none => simp [smGet, he, he ▸ hf, ih]
      | some v => simp [smGet, he, he ▸ hf]
    · cases hf : f k' with
      | none => simp [smGet, he, hf, ih]
      | some v => simp [smGet, he, hf, ih]

theorem rdR_keptRegs (s : State) {a : Nat} (h : keptWord s a = some (s.rd a)) : rdR (keptRegs s) a = s.rd a := by
  have hg : smGet (keptRegs s) a = _ := smGet_filterMap_keys (keptWord s) s.regs a
  rw [rdR, hg, h, State.rd, rdR]
  cases smGet s.regs a <;> rfl

/-- An interrupted flash command leaves every register alone. -/
theorem scrambled_rd (s : State) (a : Nat) : (scrambled s).rd a = s.rd a := by
  obtain ⟨m, n, h⟩ := scrambled_only s
  rw [h]
  rfl

/-- The registers of a device reset: the kept ones, with the four that are kept even where they read reset (R496). -/
theorem wiped_regs (s : State) : ∃ t : State, t.regs = keptRegs (scrambled s) ∧
    wiped s = (((t.wr R.GLB_RESET_CAUSE (s.rd R.GLB_RESET_CAUSE)).wr R.EVL_STATUS ((s.rd R.EVL_STATUS &&& 0x1C#32) ||| 1#32)).wr
      R.TRU_STATUS (s.rd R.TRU_STATUS &&& 0x39#32)).wr R.TRU_SEC (s.rd R.TRU_SEC) := by
  unfold wiped
  rw [← scrambled_rd s, ← scrambled_rd s, ← scrambled_rd s, ← scrambled_rd s]
  generalize scrambled s = u
  exact ⟨_, rfl, rfl⟩

theorem wiped_rd_cause (s : State) : (wiped s).rd R.GLB_RESET_CAUSE = s.rd R.GLB_RESET_CAUSE := by
  obtain ⟨t, ht, hw⟩ := wiped_regs s
  rw [hw, State.rd_wr_other _ _ (by decide), State.rd_wr_other _ _ (by decide), State.rd_wr_other _ _ (by decide), State.rd_wr_self]

theorem wiped_rd_status (s : State) : (wiped s).rd R.TRU_STATUS = s.rd R.TRU_STATUS &&& 0x39#32 := by
  obtain ⟨t, ht, hw⟩ := wiped_regs s
  rw [hw, State.rd_wr_other _ _ (by decide), State.rd_wr_self]

/-- Quartz keeps counting through a device reset (R457, R496). -/
theorem wiped_rd_quartz (s : State) {a : Nat} (ha : 0x1D0000 ≤ a ∧ a < 0x1D8000) : (wiped s).rd a = s.rd a := by
  obtain ⟨t, ht, hw⟩ := wiped_regs s
  have hother (b : Nat) (hb : b < 0x1D0000 ∨ 0x1D8000 ≤ b) : a ≠ b := by omega
  have hkept : keptWord (scrambled s) a = some ((scrambled s).rd a) := by
    unfold keptWord
    split
    · rfl
    · rw [if_neg (hother _ (by decide)), if_neg (hother _ (by decide))]
  rw [hw, State.rd_wr_other _ _ (hother _ (by decide)), State.rd_wr_other _ _ (hother _ (by decide)),
    State.rd_wr_other _ _ (hother _ (by decide)), State.rd_wr_other _ _ (hother _ (by decide)), State.rd, ht, rdR_keptRegs _ hkept,
    scrambled_rd]

/-- The word of TRU_STATUS that is kept holds both bits of the trial. -/
theorem getF_and_keptStatus (w : Word) {f : FRef} (hf : f.w = 1 ∧ (f.lo = 3 ∨ f.lo = 5)) : getF (w &&& 0x39#32) f = getF w f := by
  obtain ⟨h1, hlo⟩ := hf
  refine Nat.eq_of_testBit_eq fun i => ?_
  simp only [getF, BitVec.toNat_and, Nat.testBit_mod_two_pow, Nat.testBit_div_two_pow, Nat.testBit_and, h1]
  by_cases hi : i < 1
  · have hbit : ((0x39#32 : Word).toNat).testBit (i + f.lo) = true := by
      obtain rfl : i = 0 := by omega
      rcases hlo with h | h
      · rw [h]; decide
      · rw [h]; decide
    rw [hbit, Bool.and_true]
  · simp [hi]

theorem wiped_on_status (s : State) {f : FRef} (ha : f.addr = R.TRU_STATUS) (hf : f.w = 1 ∧ (f.lo = 3 ∨ f.lo = 5)) :
    (wiped s).on f = s.on f := by
  rw [State.on, State.on, State.g, State.g, ha, wiped_rd_status, getF_and_keptStatus _ hf]

/-- A device reset leaves the causes, the time, the bits of the trial, the log, the commands that wait and the flash as they were, ends every
hold and empties the shadows, the strobes and Garnet (R53, R496). -/
theorem startView_wiped (s : State) : startView (wiped s) =
    { startView s with strobes := [], rdShadows := [], wrShadows := [], held := .no, flash := (scrambled s).tru.flash, grn := Grn.init } := by
  have hjtag : (wiped s).sys.jtagTest = s.sys.jtagTest := by
    obtain ⟨m, n, h⟩ := scrambled_only s
    exact (congrArg (fun u : State => u.sys.jtagTest) h : (scrambled s).sys.jtagTest = _)
  have hring : (wiped s).evl.ring = s.evl.ring := by
    obtain ⟨m, n, h⟩ := scrambled_only s
    exact (congrArg (fun u : State => u.evl.ring) h : (scrambled s).evl.ring = _)
  have hpending : (wiped s).pending = s.pending := scrambled_pending s
  unfold startView
  rw [hjtag, hring, hpending, wiped_rd_cause, wiped_rd_quartz s (by decide), wiped_rd_quartz s (by decide), wiped_on_status s rfl (by decide),
    wiped_on_status s rfl (by decide)]
  rfl

/-! Device resets, and resets that hold the device (R56, R496, R504). -/

theorem startView_u_cause (s : State) {f : FRef} (hf : f.addr = R.GLB_RESET_CAUSE) (v : Nat) :
    startView (s.u f v) = { startView s with cause := setF (s.rd R.GLB_RESET_CAUSE) f v } := by
  have hself : (s.u f v).rd R.GLB_RESET_CAUSE = setF (s.rd R.GLB_RESET_CAUSE) f v := by rw [← hf, State.rd_u_self]
  have hother (a : Nat) (h : a ≠ R.GLB_RESET_CAUSE) : (s.u f v).rd a = s.rd a := s.rd_u_other _ _ (hf.symm ▸ h)
  have hon (g : FRef) (h : g.addr ≠ R.GLB_RESET_CAUSE) : (s.u f v).on g = s.on g := by rw [State.on, State.g, hother _ h]; rfl
  unfold startView
  rw [hself, hother _ (by decide), hother _ (by decide), hon _ (by decide), hon _ (by decide)]
  rfl

theorem on_of_startView_cause {t : State} {w : Word} {f : FRef} (hf : f.addr = R.GLB_RESET_CAUSE ∧ f.lo + f.w ≤ 32 ∧ f.w = 1)
    (h : (startView t).cause = setF w f 1) : t.on f = true := by
  obtain ⟨ha, hfit, hw⟩ := hf
  have hrd : t.rd f.addr = setF w f 1 := by rw [ha]; exact h
  rw [State.on, State.g, hrd, getF_setF_self _ _ _ hfit, hw]
  rfl

/-- The time is part of what a start-up leaves alone. -/
theorem now_of_startView {s t : State} (h : (startView t).timeLo = (startView s).timeLo ∧ (startView t).timeHi = (startView s).timeHi) :
    t.now = s.now := by
  have hlo : t.rd R.QTZ_TIME_LO = s.rd R.QTZ_TIME_LO := h.1
  have hhi : t.rd (R.QTZ_TIME_LO + 4) = s.rd (R.QTZ_TIME_LO + 4) := h.2
  rw [State.now, State.now, State.g64, State.g64, hlo, hhi]

theorem startView_deviceReset (s : State) {c : FRef} (hc : c.addr = R.GLB_RESET_CAUSE) :
    startView (deviceReset s c) = { startView (wiped s) with cause := setF (s.rd R.GLB_RESET_CAUSE) c 1 } := by
  have h : startView (deviceReset s c) = startView ((wiped s).u c 1) := startView_startUp _
  rw [h, startView_u_cause _ hc, wiped_rd_cause]

theorem startView_heldReset (s : State) {c : FRef} (hc : c.addr = R.GLB_RESET_CAUSE) (why : Held) :
    startView (heldReset s c why) = { startView (wiped s) with cause := setF (s.rd R.GLB_RESET_CAUSE) c 1, held := why } := by
  have h : startView (heldReset s c why) = { startView ((wiped s).u c 1) with held := why } := rfl
  rw [h, startView_u_cause _ hc, wiped_rd_cause]

theorem startView_endTrial (s : State) : startView (s.us [(R.TRU_STATUS_TRIAL, 0), (R.TRU_STATUS_TRIAL_FAILED, 1)]) =
    { startView s with trial := false, trialFailed := true } := by
  rw [State.us_cons, State.us_cons, State.us_nil]
  have hother (a : Nat) (h : a ≠ R.TRU_STATUS) :
      ((s.u R.TRU_STATUS_TRIAL 0).u R.TRU_STATUS_TRIAL_FAILED 1).rd a = s.rd a := by
    rw [State.rd_u_other _ _ _ h, State.rd_u_other _ _ _ h]
  have htrial : ((s.u R.TRU_STATUS_TRIAL 0).u R.TRU_STATUS_TRIAL_FAILED 1).on R.TRU_STATUS_TRIAL = false := by
    rw [State.on_u_bits _ _ (by decide) (by decide)]
    exact s.on_u_self (by decide) false
  have hfailed : ((s.u R.TRU_STATUS_TRIAL 0).u R.TRU_STATUS_TRIAL_FAILED 1).on R.TRU_STATUS_TRIAL_FAILED = true :=
    State.on_u_self _ (by decide) true
  unfold startView
  rw [hother _ (by decide), hother _ (by decide), hother _ (by decide), htrial, hfailed]
  rfl

/-- A watchdog's expiry ends a trial (R468). -/
theorem startView_watchdogExpiry (s : State) : startView (watchdogExpiry s) =
    { startView (wiped s) with
      cause := setF (s.rd R.GLB_RESET_CAUSE) R.GLB_RESET_CAUSE_WATCHDOG 1
      trial := false
      trialFailed := s.on R.TRU_STATUS_TRIAL || s.on R.TRU_STATUS_TRIAL_FAILED } := by
  have hcause := startView_u_cause (wiped s) (f := R.GLB_RESET_CAUSE_WATCHDOG) rfl 1
  have htrial : ((wiped s).u R.GLB_RESET_CAUSE_WATCHDOG 1).on R.TRU_STATUS_TRIAL = s.on R.TRU_STATUS_TRIAL :=
    (congrArg StartView.trial hcause).trans (wiped_on_status s rfl (by decide))
  rw [wiped_rd_cause] at hcause
  unfold watchdogExpiry deviceReset
  dsimp only
  rw [startView_startUp, Bool.true_and, htrial]
  split
  · next h => rw [startView_endTrial, hcause, h, Bool.true_or]
  · next h =>
    rw [hcause, startView_wiped]
    simp only [startView, h, Bool.false_or]

/-! Losing power and getting it back (R504). -/

theorem poweredOff_rd (s : State) {a : Nat} (ha : a ≠ R.TRU_SEC ∧ a ≠ R.TRU_STATUS) : (poweredOff s).rd a = State.reset.rd a :=
  poweredOff_atReset s a ha.1 ha.2

/-- Quartz starts at 0 when power comes (R457, R504). -/
theorem poweredOff_now (s : State) : (poweredOff s).now = 0 := by
  rw [State.now, State.g64, poweredOff_rd s (by decide), poweredOff_rd s (by decide)]
  rfl

theorem scrambled_of_idle {s : State} (h : s.tru.flashOp = none) : scrambled s = s := by
  unfold scrambled
  rw [h]

/-- What power good leaves, but for the start-up. -/
theorem startView_powerGood {s : State} (h : s.sys.held = .power) :
    startView (powerGood s) = { startView (poweredOff s) with held := .no } := by
  unfold powerGood
  rw [if_pos h, startView_startUp]
  rfl

/-! The die temperatures (R57). -/

theorem State.each_sets {α : Type} {P : α → State → Prop} {k : State → α → State} (hset : ∀ s x, P x (k s x))
    (hkeep : ∀ s x y, P x s → P x (k s y)) (l : List α) : ∀ s : State, ∀ x ∈ l, P x (s.each l k) := by
  induction l with
  | nil => exact fun _ _ h => absurd h List.not_mem_nil
  | cons y l ih =>
    intro s x hx
    change P x ((k s y).each l k)
    rcases List.mem_cons.1 hx with rfl | hx
    · exact State.each_keeps (P x) k (fun t z ht => hkeep t x z ht) l _ (hset s x)
    · exact ih _ x hx

theorem toSigned_ofSigned_16 {v : Int} (h : -32768 ≤ v ∧ v ≤ 32767) : toSigned 16 (ofSigned 16 v % 2 ^ 16) = v := by
  unfold toSigned ofSigned
  split
  · omega
  · omega

theorem sensorReading_bounds (v : Int) : -32768 ≤ sensorReading v ∧ sensorReading v ≤ 32767 := by
  unfold sensorReading clampI
  split
  · omega
  · split <;> omega

/-- Within the range of a sensor its threshold comparisons are those of the temperature itself. -/
theorem le_sensorReading_iff {v level : Int} (h : -32768 < level ∧ level ≤ 32767) : level ≤ sensorReading v ↔ level ≤ v := by
  unfold sensorReading clampI
  split
  · omega
  · split <;> omega

/-- The sensor k shows the reading x as VALID. -/
def tempShown (k : Fin 8) (x : Int) (t : State) : Prop :=
  t.on (R.GLB_TEMP_VALID k) = true ∧ toSigned 16 (t.g (R.GLB_TEMP_VALUE k)) = x

theorem tempShown_of_rd {s t : State} {k : Fin 8} {x : Int} (h : t.rd (R.GLB_TEMP k) = s.rd (R.GLB_TEMP k)) (hs : tempShown k x s) :
    tempShown k x t := by
  have hon : t.on (R.GLB_TEMP_VALID k) = s.on (R.GLB_TEMP_VALID k) := congrArg (fun w => getF w (R.GLB_TEMP_VALID k) == 1) h
  have hg : t.g (R.GLB_TEMP_VALUE k) = s.g (R.GLB_TEMP_VALUE k) := congrArg (getF · (R.GLB_TEMP_VALUE k)) h
  exact ⟨hon.trans hs.1, (congrArg _ hg).trans hs.2⟩

/-- What one sensor's reading writes. -/
def showTemp (v : Vector Int 8) (s : State) (k : Fin 8) : State :=
  (s.u (R.GLB_TEMP_VALID k.val) 1).ui (R.GLB_TEMP_VALUE k.val) (sensorReading v[k])

theorem tempShown_showTemp (v : Vector Int 8) (s : State) (k : Fin 8) : tempShown k (sensorReading v[k]) (showTemp v s k) := by
  refine ⟨?_, ?_⟩
  · rw [showTemp, State.ui, State.on_u_bits _ _ (by simp [R.GLB_TEMP_VALUE, R.GLB_TEMP_VALID]) (by simp [R.GLB_TEMP_VALID])]
    exact s.on_u_self (by simp [R.GLB_TEMP_VALID]) true
  · rw [showTemp, State.ui, State.g_u_self _ _ _ (by simp [R.GLB_TEMP_VALUE])]
    exact toSigned_ofSigned_16 (sensorReading_bounds _)

theorem tempShown_showTemp_other (v : Vector Int 8) {s : State} {k j : Fin 8} (h : tempShown k (sensorReading v[k]) s) :
    tempShown k (sensorReading v[k]) (showTemp v s j) := by
  by_cases hj : k = j
  · exact hj ▸ tempShown_showTemp v s k
  · have hne : R.GLB_TEMP k ≠ R.GLB_TEMP j := fun e => hj (Fin.ext (by unfold R.GLB_TEMP at e; omega))
    have hrd : (showTemp v s j).rd (R.GLB_TEMP k) = s.rd (R.GLB_TEMP k) := by
      rw [showTemp, State.ui, State.rd_u_other _ _ _ hne, State.rd_u_other _ _ _ hne]
    exact tempShown_of_rd hrd h

/-- The state after the readings are shown and GLB_TEMP_STATUS is set (R57, R58). -/
def readTemps (v : Vector Int 8) (s : State) : State :=
  let hot := fun (level : Int) => v.toList.any (fun x => decide (level ≤ sensorReading x))
  let s := s.each (List.finRange 8) (showTemp v)
  let s := s.whenB (hot (s.gi R.GLB_TEMP_WARN_LEVEL)) (fun s => s.u R.GLB_TEMP_STATUS_WARN 1)
  s.whenB (hot (s.gi R.GLB_TEMP_CRIT_LEVEL)) (fun s => s.u R.GLB_TEMP_STATUS_CRIT 1)

theorem tempSensorUpdate_eq (v : Vector Int 8) (s : State) : tempSensorUpdate v s =
    if v.toList.any (fun x => decide (8640 ≤ sensorReading x)) then heldReset (readTemps v s) R.GLB_RESET_CAUSE_THERMAL .thermal
    else dramRetrain (readTemps v s) := rfl

/-- A projection that writes to registers keep is kept while the readings are shown. -/
theorem readTemps_proj {γ : Type} (p : State → γ) (hp : ∀ (s : State) (a : Nat) (w : Word), p (s.wr a w) = p s) (v : Vector Int 8) (s : State) :
    p (readTemps v s) = p s := by
  have hu (s : State) (f : FRef) (n : Nat) : p (s.u f n) = p s := hp s _ _
  have hwhen (s : State) (b : Bool) (f : FRef) : p (s.whenB b fun s => s.u f 1) = p s := by
    cases b
    · rfl
    · exact hu s f 1
  exact (hwhen _ _ _).trans ((hwhen _ _ _).trans (State.each_proj p _ (fun s k => (hu _ _ _).trans (hu s _ _)) _ s))

theorem tempShown_readTemps (v : Vector Int 8) (s : State) (k : Fin 8) : tempShown k (sensorReading v[k]) (readTemps v s) := by
  have hloop : tempShown k (sensorReading v[k]) (s.each (List.finRange 8) (showTemp v)) :=
    State.each_sets (P := fun k => tempShown k (sensorReading v[k])) (tempShown_showTemp v) (fun _ _ _ h => tempShown_showTemp_other v h) _ s k
      (List.mem_finRange k)
  have hne : R.GLB_TEMP k ≠ R.GLB_TEMP_STATUS := by unfold R.GLB_TEMP R.GLB_TEMP_STATUS; omega
  have hwhen (s : State) (b : Bool) (f : FRef) (hf : f.addr = R.GLB_TEMP_STATUS) :
      (s.whenB b fun s => s.u f 1).rd (R.GLB_TEMP k) = s.rd (R.GLB_TEMP k) := by
    cases b
    · rfl
    · exact s.rd_u_other _ _ (hf.symm ▸ hne)
  exact tempShown_of_rd ((hwhen _ _ _ rfl).trans (hwhen _ _ _ rfl)) hloop

/-! O11. -/

theorem does_glbReset {s : State} {w : Word} {P : State → Prop} (hs : s.live = true) (hkey : getF w R.GLB_RESET_KEY = 0x0FA5)
    (hdev : getF w R.GLB_RESET_DEVICE = 1) (hP : P (deviceReset s R.GLB_RESET_CAUSE_DEVICE)) : Does (.glbReset w) s P :=
  does_of_answer hs rfl (by rw [glbReset, if_pos ⟨hkey, hdev⟩]; exact hP)

theorem does_of_up {i : Instr} {s : State} {k : State → State} {P : State → Prop} (hs : s.up = true) (hi : exec i s = answerUp s k)
    (hP : P (k s)) : Does i s P :=
  ⟨k s, hi.trans (answerUp_up k hs), hP⟩

theorem readings_hot {v : Vector Int 8} (h : ∃ x ∈ v.toList, 8640 ≤ x) : v.toList.any (fun x => decide (8640 ≤ sensorReading x)) = true := by
  obtain ⟨x, hx, hle⟩ := h
  exact List.any_eq_true.2 ⟨x, hx, decide_eq_true ((le_sensorReading_iff (by decide)).2 hle)⟩

theorem does_tempSensorUpdate_hot {s : State} {v : Vector Int 8} {P : State → Prop} (hs : s.up = true) (h : ∃ x ∈ v.toList, 8640 ≤ x)
    (hP : P (heldReset (readTemps v s) R.GLB_RESET_CAUSE_THERMAL .thermal)) : Does (.tempSensorUpdate v) s P :=
  does_of_up hs rfl (by rw [tempSensorUpdate_eq, if_pos (readings_hot h)]; exact hP)

theorem temperature_shown {s : State} {v : Vector Int 8} (hs : s.up = true)
    (hv : v.toList.all (fun x => decide (-32768 ≤ x) && decide (x < 8640)) = true) :
    Does (.tempSensorUpdate v) s (fun t => t.sys = s.sys ∧
      ∀ k : Fin 8, t.on (R.GLB_TEMP_VALID k) = true ∧ toSigned 16 (t.g (R.GLB_TEMP_VALUE k)) = v[k]) := by
  have hrange {x : Int} (hx : x ∈ v.toList) : -32768 ≤ x ∧ x < 8640 := by
    simpa using List.all_eq_true.1 hv x hx
  have hcool : ¬ v.toList.any (fun x => decide (8640 ≤ sensorReading x)) = true := by
    intro hany
    obtain ⟨x, hx, hle⟩ := List.any_eq_true.1 hany
    have := (le_sensorReading_iff (by decide)).1 (of_decide_eq_true hle)
    exact absurd (hrange hx).2 (by omega)
  refine does_of_up hs rfl ?_
  rw [tempSensorUpdate_eq, if_neg hcool]
  refine ⟨readTemps_proj (·.sys) (fun _ _ _ => rfl) v s, fun k => ?_⟩
  have hx : sensorReading v[k] = v[k] := by
    have h := hrange (Vector.mem_toList_iff.2 (Vector.getElem_mem k.isLt))
    have h1 : (-32768 : Int) ≤ v[k] := h.1
    have h2 : (v[k] : Int) < 8640 := h.2
    unfold sensorReading clampI
    rw [if_neg (by omega), if_neg (by omega)]
  have hshown : tempShown k (sensorReading v[k]) (dramRetrain (readTemps v s)) := tempShown_of_rd rfl (tempShown_readTemps v s k)
  rwa [hx] at hshown

theorem temperature_trip {s : State} {v : Vector Int 8} (hs : s.up = true) (hv : v.toList.any (fun x => decide (8640 ≤ x)) = true) :
    Does (.tempSensorUpdate v) s (fun t => t.sys.held = .thermal ∧ t.on R.GLB_RESET_CAUSE_THERMAL = true ∧ t.pending = s.pending) := by
  obtain ⟨x, hx, hle⟩ := List.any_eq_true.1 hv
  have hview := startView_heldReset (readTemps v s) (c := R.GLB_RESET_CAUSE_THERMAL) rfl .thermal
  rw [startView_wiped] at hview
  refine does_tempSensorUpdate_hot hs ⟨x, hx, of_decide_eq_true hle⟩ ⟨rfl, ?_, ?_⟩
  · exact on_of_startView_cause ⟨rfl, by decide, rfl⟩ (congrArg StartView.cause hview)
  · exact (congrArg StartView.pending hview).trans (readTemps_proj (·.pending) (fun _ _ _ => rfl) v s)

theorem thermalTripRelease_cool {s : State} {v : Vector Int 8} (hs : s.sys.held = .thermal) (hj : s.sys.jtagTest = false)
    (hv : v.toList.all (fun x => decide (x < 7360)) = true) : (thermalTripRelease v s).sys.held = .no := by
  have hcool : v.toList.all (fun x => decide (sensorReading x < 7360)) = true := by
    refine List.all_eq_true.2 fun x hx => decide_eq_true ?_
    have hlt : x < 7360 := of_decide_eq_true (List.all_eq_true.1 hv x hx)
    exact Int.not_le.1 fun hle => absurd ((le_sensorReading_iff (by decide)).1 hle) (by omega)
  unfold thermalTripRelease
  rw [if_pos ⟨hs, hcool⟩, hj]
  exact congrArg StartView.held (startView_startUp _)

theorem thermalTripRelease_hot {s : State} {v : Vector Int 8} (hv : v.toList.any (fun x => decide (7360 ≤ x)) = true) :
    thermalTripRelease v s = s := by
  obtain ⟨x, hx, hle⟩ := List.any_eq_true.1 hv
  refine if_neg fun h => ?_
  have hlt : sensorReading x < 7360 := of_decide_eq_true (List.all_eq_true.1 h.2 x hx)
  exact absurd ((le_sensorReading_iff (by decide)).2 (of_decide_eq_true hle)) (by omega)

theorem powerGood_fresh {s : State} (h : s.sys.held = .power) :
    (powerGood s).sys.held = .no ∧ (powerGood s).now = 0 ∧ (powerGood s).evl.ring = [] ∧
      (powerGood s).on R.GLB_RESET_CAUSE_POWER_ON = true ∧ (s.tru.flashOp = none → (powerGood s).tru.flash = s.tru.flash) := by
  have hview := startView_powerGood h
  refine ⟨congrArg StartView.held hview, ?_, congrArg StartView.ring hview, ?_, fun hidle => ?_⟩
  · have hlo : (startView (powerGood s)).timeLo = (startView (poweredOff s)).timeLo := by rw [hview]
    have hhi : (startView (powerGood s)).timeHi = (startView (poweredOff s)).timeHi := by rw [hview]
    exact (now_of_startView ⟨hlo, hhi⟩).trans (poweredOff_now s)
  · have hcause : (powerGood s).rd R.GLB_RESET_CAUSE = State.reset.rd R.GLB_RESET_CAUSE :=
      (congrArg StartView.cause hview).trans (poweredOff_rd s (by decide))
    exact congrArg (fun w => getF w R.GLB_RESET_CAUSE_POWER_ON == 1) hcause
  · have hflash : (powerGood s).tru.flash = (scrambled s).tru.flash := congrArg StartView.flash hview
    rw [hflash, scrambled_of_idle hidle]

theorem restart_keeps (s : State) : (restart s).sys.held = .no ∧ (restart s).evl.ring = s.evl.ring ∧ (restart s).now = s.now ∧
    (restart s).grn.reels = [] := by
  have hview : startView (restart s) = startView (wiped s) := startView_startUp (wiped s)
  rw [startView_wiped] at hview
  have hlo : (startView (restart s)).timeLo = (startView s).timeLo := by rw [hview]
  have hhi : (startView (restart s)).timeHi = (startView s).timeHi := by rw [hview]
  exact ⟨congrArg StartView.held hview, congrArg StartView.ring hview, now_of_startView ⟨hlo, hhi⟩,
    congrArg (fun v => v.grn.reels) hview⟩

theorem watchdogExpiry_keeps (s : State) : (watchdogExpiry s).sys.held = .no ∧ (watchdogExpiry s).on R.GLB_RESET_CAUSE_WATCHDOG = true ∧
    (watchdogExpiry s).evl.ring = s.evl.ring ∧ (watchdogExpiry s).now = s.now ∧
    (s.on R.TRU_STATUS_TRIAL = true → (watchdogExpiry s).on R.TRU_STATUS_TRIAL = false ∧
      (watchdogExpiry s).on R.TRU_STATUS_TRIAL_FAILED = true) := by
  have hview := startView_watchdogExpiry s
  rw [startView_wiped] at hview
  have hlo : (startView (watchdogExpiry s)).timeLo = (startView s).timeLo := by rw [hview]
  have hhi : (startView (watchdogExpiry s)).timeHi = (startView s).timeHi := by rw [hview]
  refine ⟨congrArg StartView.held hview, on_of_startView_cause ⟨rfl, by decide, rfl⟩ (congrArg StartView.cause hview),
    congrArg StartView.ring hview, now_of_startView ⟨hlo, hhi⟩, fun htrial => ⟨congrArg StartView.trial hview, ?_⟩⟩
  have hfailed : (watchdogExpiry s).on R.TRU_STATUS_TRIAL_FAILED = (s.on R.TRU_STATUS_TRIAL || s.on R.TRU_STATUS_TRIAL_FAILED) :=
    congrArg StartView.trialFailed hview
  rw [hfailed, htrial, Bool.true_or]

/-- A JTAG test instruction holds the device in reset, thermally if it was (R522). -/
theorem jtagTestInstruction_powered {s : State} (h : s.sys.held ≠ .power) : jtagTestInstruction s =
    heldReset { s with sys := { s.sys with jtagTest := true } } R.GLB_RESET_CAUSE_TEST (if s.sys.held = .thermal then .thermal else .jtag) := by
  unfold jtagTestInstruction
  cases hh : s.sys.held
  case power => exact absurd hh h
  all_goals rfl

theorem jtagTestInstruction_holds {s : State} (h : s.sys.held ≠ .power) :
    (jtagTestInstruction s).sys.jtagTest = true ∧ (jtagTestInstruction s).on R.GLB_RESET_CAUSE_TEST = true ∧
      (jtagTestInstruction s).sys.held = (if s.sys.held = .thermal then .thermal else .jtag) ∧
      (jtagTestInstruction s).evl.ring = s.evl.ring := by
  have hview := startView_heldReset { s with sys := { s.sys with jtagTest := true } } (c := R.GLB_RESET_CAUSE_TEST) rfl
    (if s.sys.held = .thermal then .thermal else .jtag)
  rw [startView_wiped] at hview
  rw [jtagTestInstruction_powered h]
  exact ⟨congrArg StartView.jtagTest hview, on_of_startView_cause ⟨rfl, by decide, rfl⟩ (congrArg StartView.cause hview),
    congrArg StartView.held hview, congrArg StartView.ring hview⟩

theorem jtagTestExit_starts {s : State} (h : s.sys.held = .jtag) :
    (jtagTestExit s).sys.held = .no ∧ (jtagTestExit s).sys.jtagTest = false ∧ (jtagTestExit s).evl.ring = s.evl.ring := by
  have hview : startView (jtagTestExit s) = { startView s with held := .no, jtagTest := false } := by
    unfold jtagTestExit
    rw [if_pos h, startView_startUp]
    rfl
  exact ⟨congrArg StartView.held hview, congrArg StartView.jtagTest hview, congrArg StartView.ring hview⟩

theorem deviceReset_device (s : State) : (deviceReset s R.GLB_RESET_CAUSE_DEVICE).on R.GLB_RESET_CAUSE_DEVICE = true ∧
    (deviceReset s R.GLB_RESET_CAUSE_DEVICE).sys.held = .no ∧ (deviceReset s R.GLB_RESET_CAUSE_DEVICE).pending = s.pending ∧
    (deviceReset s R.GLB_RESET_CAUSE_DEVICE).evl.ring = s.evl.ring ∧ (deviceReset s R.GLB_RESET_CAUSE_DEVICE).rdShadows = [] ∧
    (deviceReset s R.GLB_RESET_CAUSE_DEVICE).wrShadows = [] ∧ (deviceReset s R.GLB_RESET_CAUSE_DEVICE).strobes = [] := by
  have hview := startView_deviceReset s (c := R.GLB_RESET_CAUSE_DEVICE) rfl
  rw [startView_wiped] at hview
  exact ⟨on_of_startView_cause ⟨rfl, by decide, rfl⟩ (congrArg StartView.cause hview), congrArg StartView.held hview,
    congrArg StartView.pending hview, congrArg StartView.ring hview, congrArg StartView.rdShadows hview, congrArg StartView.wrShadows hview,
    congrArg StartView.strobes hview⟩

/-- Settles O11: each clause is what the reset it names keeps (`startView_wiped`), or what the readings show (`tempShown_readTemps`). -/
theorem deviceResetAndTemperature : Obligations.DeviceResetAndTemperature := by
  refine ⟨fun s w hs hkey hdev => does_glbReset hs hkey hdev (deviceReset_device s), fun s v hs hv => temperature_shown hs hv,
    fun s v hs hv => temperature_trip hs hv, fun s v hs hj => ⟨fun hv => ⟨_, rfl, thermalTripRelease_cool hs hj hv⟩,
    fun hv => ⟨_, rfl, thermalTripRelease_hot hv⟩⟩, fun s => ⟨fun h => ⟨_, rfl, powerGood_fresh h⟩, fun h => congrArg _ (if_neg h),
    ⟨_, rfl, rfl, scrambled_pending s, rfl, poweredOff_now s⟩, fun hs => ⟨does_of_up hs rfl (restart_keeps s),
    does_of_up hs rfl (watchdogExpiry_keeps s)⟩, fun h => congrArg _ (jtagTestInstruction_unpowered h),
    fun h => ⟨_, rfl, jtagTestInstruction_holds h⟩, fun h => congrArg _ (if_neg h), fun h => ⟨_, rfl, jtagTestExit_starts h⟩⟩⟩

/-! What O49 says of device resets. -/

theorem deviceReset_shadows (s : State) (c : FRef) (w : Bool) : (deviceReset s c w).rdShadows = [] ∧ (deviceReset s c w).wrShadows = [] := by
  unfold deviceReset
  dsimp only
  split
  · exact ⟨congrArg StartView.rdShadows (startView_startUp _), congrArg StartView.wrShadows (startView_startUp _)⟩
  · exact ⟨congrArg StartView.rdShadows (startView_startUp _), congrArg StartView.wrShadows (startView_startUp _)⟩

theorem powerGood_shadows {s : State} (h : s.sys.held = .power) : (powerGood s).rdShadows = [] ∧ (powerGood s).wrShadows = [] :=
  ⟨congrArg StartView.rdShadows (startView_powerGood h), congrArg StartView.wrShadows (startView_powerGood h)⟩

theorem jtagTestInstruction_shadows {s : State} (h : s.sys.held ≠ .power) :
    (jtagTestInstruction s).rdShadows = [] ∧ (jtagTestInstruction s).wrShadows = [] := by
  rw [jtagTestInstruction_powered h]
  exact ⟨rfl, rfl⟩

theorem restart_shadows (s : State) : (restart s).rdShadows = [] ∧ (restart s).wrShadows = [] :=
  ⟨congrArg StartView.rdShadows (startView_startUp _), congrArg StartView.wrShadows (startView_startUp _)⟩

/-- What O49 says of device resets, of each command that makes one. -/
theorem deviceResets_clear_shadows :
    (∀ s : State, Does .pwrgoodLow s (fun t => t.rdShadows = [] ∧ t.wrShadows = [])) ∧
    (∀ s : State, s.sys.held = .power → Does .powerGood s (fun t => t.rdShadows = [] ∧ t.wrShadows = [])) ∧
    (∀ (s : State) (c : FRef) (w : Bool), (deviceReset s c w).rdShadows = [] ∧ (deviceReset s c w).wrShadows = []) ∧
    (∀ s : State, s.sys.held ≠ .power → Does .jtagTestInstruction s (fun t => t.rdShadows = [] ∧ t.wrShadows = [])) ∧
    (∀ s : State, s.up = true → Does .restart s (fun t => t.rdShadows = [] ∧ t.wrShadows = []) ∧
      Does .watchdogExpiry s (fun t => t.rdShadows = [] ∧ t.wrShadows = []) ∧
      ∀ v : Vector Int 8, (∃ k : Fin 8, 8640 ≤ v[k]) → Does (.tempSensorUpdate v) s (fun t => t.rdShadows = [] ∧ t.wrShadows = [])) ∧
    (∀ (s : State) (w : BitVec 32), s.live = true → getF w R.GLB_RESET_KEY = 0x0FA5 → getF w R.GLB_RESET_DEVICE = 1 →
      Does (.glbReset w) s (fun t => t.rdShadows = [] ∧ t.wrShadows = [])) := by
  refine ⟨fun s => ⟨_, rfl, rfl, rfl⟩, fun s h => ⟨_, rfl, powerGood_shadows h⟩, deviceReset_shadows,
    fun s h => ⟨_, rfl, jtagTestInstruction_shadows h⟩, fun s hs => ⟨does_of_up hs rfl (restart_shadows s),
    does_of_up hs rfl (deviceReset_shadows s _ _), fun v ⟨k, hk⟩ => ?_⟩,
    fun s w hs hkey hdev => does_glbReset hs hkey hdev (deviceReset_shadows s _ _)⟩
  exact does_tempSensorUpdate_hot hs ⟨v[k], Vector.mem_toList_iff.2 (Vector.getElem_mem k.isLt), hk⟩ ⟨rfl, rfl⟩

end Sys2Proof.Machine

/-!
PROOF. O7 and O9: which copy a write of one DW goes to (R39, R41, R49), and what a long TLP or a partial write of a command does (R54, R492).
First where the tables place configurable registers, then a write of one, then accesses that are refused for their width.
-/

namespace Sys2Proof.Machine

/-! Where the tables place the registers that hold an RWA field (R39). -/

/-- The rows of a table that hold an RWA field, by base address and dimensions; `g` picks a register of the row. -/
def rwaPlaces (rows : List Row) (g : Nat → Nat) : List (Nat × List (Nat × Nat)) :=
  (rows.filter fun r => (r.fields g).any fun f => f.acc == .rwa).map fun r => (r.base, r.dims)

/-- A register that the lookup finds lies in a row of the table. -/
theorem findReg_row {rows : List Row} {a : Nat} {d : RegDef} (h : findReg rows a = some d) :
    ∃ row ∈ rows, row.base ≤ a ∧ ∃ ix, matchDims (a - row.base) row.dims = some ix ∧ d.fields = row.fields fun k => (ix[k]?).getD 0 := by
  induction rows with
  | nil => cases h
  | cons r rows ih =>
    have hlater (h : findReg rows a = some d) : ∃ row ∈ r :: rows, row.base ≤ a ∧ ∃ ix, matchDims (a - row.base) row.dims = some ix ∧
        d.fields = row.fields fun k => (ix[k]?).getD 0 := by
      obtain ⟨row, hmem, hrow⟩ := ih h
      exact ⟨row, List.mem_cons_of_mem _ hmem, hrow⟩
    rw [findReg] at h
    split at h
    · next hbase =>
      split at h
      · next ix hix =>
        cases h
        exact ⟨r, List.mem_cons_self, hbase, ix, hix, rfl⟩
      · exact hlater h
    · exact hlater h

theorem configurable_place {a : Nat} (h : configurable a = true) :
    ∃ g, ∃ p ∈ rwaPlaces (rowsFor a) g, p.1 ≤ a ∧ (matchDims (a - p.1) p.2).isSome = true := by
  unfold configurable at h
  split at h
  · next d hd =>
    obtain ⟨row, hmem, hbase, ix, hix, hfields⟩ := findReg_row hd
    rw [hfields] at h
    exact ⟨_, (row.base, row.dims), List.mem_map.2 ⟨row, List.mem_filter.2 ⟨hmem, h⟩, rfl⟩, hbase, by rw [hix]; rfl⟩
  · cases h

theorem matchDims_nil {rel : Nat} : (matchDims rel []).isSome = true ↔ rel = 0 := by
  rw [matchDims]
  split
  · next h => simp [h]
  · next h => simp [h]

theorem matchDims_cons {rel c st : Nat} {ds : List (Nat × Nat)} :
    (matchDims rel ((c, st) :: ds)).isSome = true ↔ rel / st < c ∧ (matchDims (rel % st) ds).isSome = true := by
  rw [matchDims]
  split
  · next h => simp [h]
  · next h => simp [h]

/-- The configurable registers of block PCX are its own three and the first words of the windows. -/
theorem configurable_pcx {a : Nat} (h : configurable a = true) (ha : 0x20000 ≤ a ∧ a < 0x40000) : a < 0x26000 ∧ a % 0x40 < 0x20 := by
  have hrows : rowsFor a = rowsPcx := by
    simp [rowsFor, show ¬ (0x80000 ≤ a ∧ a < 0x100000) by omega, show ¬ a < 0x10000 by omega, show ¬ a < 0x20000 by omega, ha.2]
  obtain ⟨g, p, hp, hbase, hdims⟩ := configurable_place h
  have hplaces : rwaPlaces rowsPcx g = [(0x20004, []), (0x20008, []), (0x2000C, []), (0x22004, [(256, 0x40)]), (0x22008, [(256, 0x40)]),
      (0x2200C, [(256, 0x40)]), (0x22010, [(256, 0x40)]), (0x22014, [(256, 0x40)])] := rfl
  rw [hrows, hplaces] at hp
  simp only [List.mem_cons, List.not_mem_nil, or_false] at hp
  rcases hp with rfl | rfl | rfl | rfl | rfl | rfl | rfl | rfl
  all_goals
    simp only [matchDims_cons, matchDims_nil] at hdims hbase
    omega

theorem configurable_cal {a : Nat} (h : configurable a = true) (ha : 0x180000 ≤ a ∧ a < 0x1C0000) : a < 0x190000 := by
  have hrows : rowsFor a = rowsCal := by
    simp [rowsFor, show ¬ a < 0x100000 by omega, show ¬ a < 0x10000 by omega, show ¬ a < 0x20000 by omega, show ¬ a < 0x40000 by omega,
      show ¬ a < 0x50000 by omega, show ¬ a < 0x60000 by omega, show ¬ a < 0x70000 by omega, show ¬ a < 0x80000 by omega,
      show ¬ a < 0x140000 by omega, show ¬ a < 0x180000 by omega, ha.2]
  obtain ⟨g, p, hp, hbase, hdims⟩ := configurable_place h
  have hplaces : rwaPlaces rowsCal g = [(0x180004, []), (0x180008, []), (0x18000C, []), (0x180010, []), (0x180014, []), (0x180018, [])] := by
    by_cases hg : g 2 = 7
    · simp [rwaPlaces, rowsCal, hg]
    · simp [rwaPlaces, rowsCal, hg]
  rw [hrows, hplaces] at hp
  simp only [List.mem_cons, List.not_mem_nil, or_false] at hp
  rcases hp with rfl | rfl | rfl | rfl | rfl | rfl
  all_goals
    simp only [matchDims_nil] at hdims hbase
    omega

/-! A write of one DW (R41, R49, R54). -/

/-- Nothing follows at once from the write of a configurable register: its values wait for a strobe or for auto-apply (R41). -/
theorem follows_configurable {a : Nat} (h : configurable a = true) (s : State) (old data : Word) : follows s (.reg a) old data = s := by
  have hpcx := configurable_pcx h
  have hcal := configurable_cal h
  have hne {b : Nat} (hb : configurable b = false) : a ≠ b := fun e => by rw [e, hb] at h; cases h
  unfold follows
  dsimp only
  rw [if_neg (hne rfl), if_neg (by omega), if_neg (hne rfl), if_neg (hne rfl), if_neg (by omega), if_neg (by omega), if_neg (by omega)]

theorem mem_insertBy {α : Type} (lt : α → α → Bool) (x : α) (l : List α) : x ∈ insertBy lt x l := by
  induction l with
  | nil => exact List.mem_singleton.2 rfl
  | cons y l ih =>
    rw [insertBy]
    split
    · exact List.mem_cons_self
    · exact List.mem_cons_of_mem _ ih

/-- Marking a register as written changes the list of marks alone, and the register is in it (R49). -/
theorem markWritten_spec (s : State) (a : Nat) : ∃ l, markWritten s a = { s with written := l } ∧ a ∈ l := by
  unfold markWritten
  split
  · next h => exact ⟨s.written, rfl, List.contains_iff_mem.1 h⟩
  · exact ⟨_, rfl, mem_insertBy _ a s.written⟩

theorem finds_mgmt_any {s : State} (hs : s.live = true) (c : Nat) {a : Nat} {d : RegDef} (hd : regAt a = some d) (ha : a < 0x400000) :
    Finds s (.mgmt c) a d where
  target := by simp [targetOf, pfTarget, hd, show ¬ 0x400000 ≤ a by omega]
  layout := hd
  responds := by
    have hrec : (!s.on R.TRU_STATUS_RECOVERY) = true := (Bool.and_eq_true_iff.mp hs).2
    unfold reaches
    split
    · rfl
    · exact hrec

/-- A write of a configurable register of one word goes to its pending copy and marks it (R41, R49). -/
theorem writeReg_configurable {s : State} {r : Req} {a : Nat} {d : RegDef} {be : BitVec 4} {data : Word} (hd : regAt a = some d)
    (hpart : d.part = 0) (h : configurable a = true) : writeReg s r (.reg a) d ⟨a, be, data⟩ =
      markWritten (pendPut s a (writeWord d.fields (beMask be) data (rdR s.pend a))) a := by
  have hw : isWritable d.fields = true := by
    have hany : d.fields.any (fun f => f.acc == .rwa) = true := by rwa [configurable, hd] at h
    obtain ⟨f, hf, hacc⟩ := List.any_eq_true.1 hany
    exact List.any_eq_true.2 ⟨f, hf, by simp [hacc]⟩
  have hhead : Target.reg a ≠ .reg R.EVL_HEAD := fun e => by
    cases e
    cases h
  simp only [writeReg, hw, hpart, hhead, writeCopy, putWritten, h, follows_configurable h, Bool.not_true, if_true, if_false,
    Bool.false_eq_true]

/-! A register whose fields are all RW (R13). -/

/-- The bits of a register that its fields hold. -/
def fieldsMask (fs : List Field) : Word := fs.foldr (fun f m => f.mask ||| m) 0#32

/-- Writing one set of bits and then another of the same data is writing both. -/
theorem setBits_setBits (w d x y m : Word) : (((w &&& ~~~ (x &&& m)) ||| (d &&& (x &&& m))) &&& ~~~ (y &&& m)) ||| (d &&& (y &&& m)) =
    (w &&& ~~~ ((x ||| y) &&& m)) ||| (d &&& ((x ||| y) &&& m)) := by
  ext i hi
  simp only [BitVec.getElem_or, BitVec.getElem_and, BitVec.getElem_not]
  cases w[i] <;> cases d[i] <;> cases x[i] <;> cases y[i] <;> cases m[i] <;> rfl

theorem writeWord_rw {fs : List Field} (h : ∀ f ∈ fs, f.acc = .rw) (m data : Word) :
    ∀ w, writeWord fs m data w = (w &&& ~~~ (fieldsMask fs &&& m)) ||| (data &&& (fieldsMask fs &&& m)) := by
  induction fs with
  | nil =>
    intro w
    rw [fieldsMask, List.foldr_nil, BitVec.zero_and, BitVec.and_zero, BitVec.not_zero, BitVec.and_allOnes, BitVec.or_zero]
    rfl
  | cons f fs ih =>
    intro w
    have hf : writeField m data w f = (w &&& ~~~ (f.mask &&& m)) ||| (data &&& (f.mask &&& m)) := by
      simp [writeField, h f List.mem_cons_self]
    have hrest := ih (fun g hg => h g (List.mem_cons_of_mem _ hg)) (writeField m data w f)
    calc writeWord (f :: fs) m data w
      _ = writeWord fs m data (writeField m data w f) := rfl
      _ = _ := by rw [hrest, hf, setBits_setBits]; rfl

/-- The fields of GLB_AUTO_APPLY, one for each group (R47). -/
def autoApplyFields : List Field := (List.range 6).reverse.map fun k => ⟨k, 1, .rw, 0⟩

theorem regAt_autoApply : regAt R.GLB_AUTO_APPLY = some ⟨0, autoApplyFields⟩ := rfl

theorem writeReg_autoApply (s : State) (r : Req) (be : BitVec 4) (data : Word) :
    writeReg s r (.reg R.GLB_AUTO_APPLY) ⟨0, autoApplyFields⟩ ⟨R.GLB_AUTO_APPLY, be, data⟩ = s.wr R.GLB_AUTO_APPLY
      ((s.rd R.GLB_AUTO_APPLY &&& ~~~ (0x3F#32 &&& beMask be)) ||| (data &&& (0x3F#32 &&& beMask be))) := by
  have hword := writeWord_rw (fs := autoApplyFields) (by decide) (beMask be) data (s.rd R.GLB_AUTO_APPLY)
  rw [show fieldsMask autoApplyFields = 0x3F#32 by decide] at hword
  rw [← hword]
  rfl

theorem autoApply_written (s : State) (c rid : Nat) {be : BitVec 4} (be2 : BitVec 4) (data data2 : Word) (hs : s.live = true) (hbe : be ≠ 0#4) :
    registerWrite ⟨.mgmt c, rid, R.GLB_AUTO_APPLY, 1, be, be2, data, data2, [], [], none⟩ s = s.wr R.GLB_AUTO_APPLY
      ((s.rd R.GLB_AUTO_APPLY &&& ~~~ (0x3F#32 &&& beMask be)) ||| (data &&& (0x3F#32 &&& beMask be))) := by
  rw [registerWrite, writeTlp_mgmt_one s rfl rfl (show R.GLB_AUTO_APPLY % 4 = 0 by decide) rfl,
    writeDw_home (finds_mgmt_any hs c regAt_autoApply (by decide)) rfl hbe rfl, writeReg_autoApply]

theorem configurable_written (s : State) (c rid : Nat) {a : Nat} {be : BitVec 4} (be2 : BitVec 4) (data data2 : Word) {d : RegDef}
    (hs : s.live = true) (hbe : be ≠ 0#4) (hd : regAt a = some d) (hpart : d.part = 0) (hcmd : isCommand d.fields = false)
    (hconf : configurable a = true) (hal : a % 4 = 0) (ha : a < 0x400000) :
    registerWrite ⟨.mgmt c, rid, a, 1, be, be2, data, data2, [], [], none⟩ s =
      markWritten (pendPut s a (writeWord d.fields (beMask be) data (rdR s.pend a))) a := by
  rw [registerWrite, writeTlp_mgmt_one s rfl rfl hal rfl, writeDw_home (finds_mgmt_any hs c hd ha) rfl hbe hcmd,
    writeReg_configurable hd hpart hconf]

/-- Settles O7: the one DW is written by `writeReg_configurable` or `writeReg_autoApply`. -/
theorem registerWritesGoToTheRightCopy : Obligations.RegisterWritesGoToTheRightCopy := by
  intro s c rid a be be2 data data2 hs hbe
  refine ⟨fun d hd hpart hcmd hconf hal ha => does_of_answerUp hs rfl ?_, does_of_answerUp hs rfl ?_⟩
  · rw [configurable_written s c rid be2 data data2 hs hbe hd hpart hcmd hconf hal ha]
    obtain ⟨l, hl, hmem⟩ := markWritten_spec (pendPut s a (writeWord d.fields (beMask be) data (rdR s.pend a))) a
    rw [hl]
    exact ⟨rdR_wrR_self _ _ _, rfl, hmem, fun b hb => rdR_wrR_other _ _ hb, rfl⟩
  · rw [autoApply_written s c rid be2 data data2 hs hbe]
    exact ⟨s.rd_wr_self _ _, rfl, regsBut_wr _ _ _⟩

/-! Accesses that have no effect but ACCESS_WIDTH (R54, R492). -/

section Wide
variable {x : Access} {c : Nat} (s : State) (hreq : x.req = .mgmt c) (hdws : 2 < x.dws)
include hreq hdws

/-- A long read of a management core is completed as Unsupported Request. -/
theorem readTlp_wide : readTlp x s = widthEvent (s.emit (.unsupported (.mgmt c))) x x.addr x.be := by
  simp [readTlp, served, hreq, hdws, refuse, toReq, overPcie]

/-- A long write of a management core is dropped. -/
theorem writeTlp_wide : writeTlp x s = widthEvent s x x.addr x.be := by
  simp [writeTlp, served, hreq, hdws, refuse, overPcie]

end Wide

/-- A home requester's partial write of a command register is ignored (R54). -/
theorem writeDw_partial_command {x : Access} {s : State} {a : Nat} {be : BitVec 4} {data : Word} {d : RegDef} (h : Finds s x.req a d)
    (hhome : isHome x.req = true) (hbe : be ≠ 0#4) (hpart : be ≠ 15#4) (hcmd : isCommand d.fields = true) :
    writeDw x s ⟨a, be, data⟩ = widthEvent s x a be := by
  simp [writeDw, h.target, h.responds, hhome, hbe, defOf, h.layout, hcmd, hpart]

theorem writeTlp_mgmt_empty {x : Access} {c : Nat} (s : State) (hreq : x.req = .mgmt c) (hdws : x.dws = 1) (hbe : x.be = 0#4)
    (hsram : x.sram = none) : writeTlp x s = s := by
  simp [writeTlp, served, hreq, hdws, hsram, dwParts, writeDw, hbe, overPcie]

/-- ACCESS_WIDTH carries the offset, the requester ID, and the byte enables with the length (R492). -/
theorem logged_widthEvent (s : State) (x : Access) (a : Nat) (be : BitVec 4) (hdws : x.dws < 256) :
    Logged s (widthEvent s x a be) 0x002 0xFF [a, x.rid, be.toNat + 256 * x.dws] 0 := by
  rw [widthEvent, Nat.mod_eq_of_lt hdws]
  rfl

/-- Settles O9: each access ends at `widthEvent`, or before it does anything. -/
theorem wideAndPartialAccesses : Obligations.WideAndPartialAccesses := by
  intro s c rid a dws be be2 d d2 hs
  refine ⟨fun hwide hfits => ⟨does_of_answerUp hs rfl ?_, does_of_answerUp hs rfl ?_⟩, fun hpart hbe => does_of_answerUp hs rfl ?_,
    does_of_answerUp hs rfl (writeTlp_mgmt_empty s rfl rfl rfl rfl)⟩
  · rw [readClear, readTlp_wide s rfl hwide]
    exact ⟨logged_widthEvent (s.emit _) _ a be hfits, rfl, rfl⟩
  · rw [registerWrite, writeTlp_wide s rfl hwide]
    exact ⟨logged_widthEvent s _ a be hfits, rfl⟩
  · rw [registerWrite, writeTlp_mgmt_one s rfl rfl (show R.GLB_APPLY % 4 = 0 by decide) rfl,
      writeDw_partial_command (d := ⟨0, [⟨0, 32, .wo, 0⟩]⟩) (finds_mgmt_any hs c (a := R.GLB_APPLY) rfl (by decide)) rfl hbe hpart rfl]
    exact ⟨logged_widthEvent s _ _ be (show 1 < 256 by decide), rfl⟩

end Sys2Proof.Machine

/-!
PROOF. O10 and O42: apply units (R45 to R50, R364). First what staging, strobing and rejecting a unit leave alone, then a transaction, then
the boundary of a unit and auto-apply.
-/

namespace Sys2Proof.Machine

/-! Copying a unit's registers from one copy to another (R45). -/

/-- Setting listed registers one after another. -/
theorem rdR_foldl_wrR (f : Nat → Word) (l : List Nat) : ∀ (m : SMap Word) (a : Nat),
    rdR (l.foldl (fun m a => wrR m a (f a)) m) a = if a ∈ l then f a else rdR m a := by
  induction l with
  | nil => exact fun _ _ => rfl
  | cons b l ih =>
    intro m a
    rw [List.foldl_cons, ih]
    by_cases hl : a ∈ l
    · rw [if_pos hl, if_pos (List.mem_cons_of_mem _ hl)]
    · rw [if_neg hl]
      by_cases hb : a = b
      · rw [hb, rdR_wrR_self, if_pos List.mem_cons_self]
      · rw [rdR_wrR_other _ _ hb, if_neg (List.not_mem_cons_of_ne_of_not_mem hb hl)]

theorem rdR_of_not_mem {m : SMap Word} {a : Nat} (h : a ∉ m.map Prod.fst) : rdR m a = resetWord a := by
  have hnone : smGet m a = none := by
    induction m with
    | nil => rfl
    | cons p m ih =>
      rw [List.map_cons, List.mem_cons, not_or] at h
      rw [smGet, if_neg (Ne.symm h.1), ih h.2]
  rw [rdR, hnone]
  rfl

theorem mem_unitRegs {s : State} {u : UnitId} {a : Nat} : a ∈ unitRegs s u ↔
    (a ∈ s.regs.map Prod.fst ∨ a ∈ s.pend.map Prod.fst ∨ a ∈ s.stag.map Prod.fst) ∧ unitOf a = some u := by
  simp only [unitRegs, List.mem_filter, List.mem_eraseDups, List.mem_append, beq_iff_eq, or_assoc]

/-- A register of a unit that none of its copies lists reads its reset value in all of them. -/
theorem unlisted_atReset {s : State} {u : UnitId} {a : Nat} (hu : unitOf a = some u) (h : a ∉ unitRegs s u) :
    rdR s.regs a = resetWord a ∧ rdR s.pend a = resetWord a ∧ rdR s.stag a = resetWord a := by
  simp only [mem_unitRegs, hu, and_true, not_or] at h
  obtain ⟨hr, hp, hs⟩ := h
  exact ⟨rdR_of_not_mem hr, rdR_of_not_mem hp, rdR_of_not_mem hs⟩

/-- Copying the registers of a unit copies each of them, listed or not, and no other. -/
theorem rdR_copyUnit {s : State} {u : UnitId} {src dst : SMap Word} (hsrc : src = s.regs ∨ src = s.pend ∨ src = s.stag)
    (hdst : dst = s.regs ∨ dst = s.pend ∨ dst = s.stag) (a : Nat) :
    rdR ((unitRegs s u).foldl (fun m a => wrR m a (rdR src a)) dst) a = if unitOf a = some u then rdR src a else rdR dst a := by
  rw [rdR_foldl_wrR (rdR src)]
  by_cases hl : a ∈ unitRegs s u
  · rw [if_pos hl, if_pos (mem_unitRegs.1 hl).2]
  · rw [if_neg hl]
    split
    · next hu =>
      obtain ⟨hr, hp, hs⟩ := unlisted_atReset hu hl
      have hreset {m : SMap Word} (hm : m = s.regs ∨ m = s.pend ∨ m = s.stag) : rdR m a = resetWord a := by
        rcases hm with rfl | rfl | rfl
        · exact hr
        · exact hp
        · exact hs
      rw [hreset hsrc, hreset hdst]
    · rfl

/-! Staging and strobing a unit (R45, R46). -/

theorem stageUnit_only (s : State) (u : UnitId) : ∃ m l, stageUnit s u = { s with stag := m, written := l } := ⟨_, _, rfl⟩

theorem stageUnit_stag (s : State) (u : UnitId) (a : Nat) :
    rdR (stageUnit s u).stag a = if unitOf a = some u then rdR s.pend a else rdR s.stag a :=
  rdR_copyUnit (.inr (.inl rfl)) (.inr (.inr rfl)) a

theorem addStrobe_only (s : State) (u : UnitId) (g : Word) (i : Nat) (c : Bool) :
    ∃ l, addStrobe s u g i c = { s with strobes := l } := ⟨_, rfl⟩

/-- A strobe of a unit that waits already joins the one that waits. -/
theorem addStrobe_self (s : State) (u : UnitId) (g : Word) (i : Nat) (c : Bool) :
    ∃ q ∈ (addStrobe s u g i c).strobes, q.unit = u ∧ q.checked = c ∧ q.groups &&& g = g := by
  unfold addStrobe
  dsimp only
  split
  · next h =>
    obtain ⟨t, ht, hu⟩ := List.any_eq_true.1 h
    refine ⟨⟨u, t.groups ||| g, i, c, false⟩, List.mem_map.2 ⟨t, ht, if_pos (by simpa using hu)⟩, rfl, rfl, ?_⟩
    ext k hk
    simp only [BitVec.getElem_and, BitVec.getElem_or]
    cases t.groups[k] <;> cases g[k] <;> rfl
  · exact ⟨⟨u, g, i, c, false⟩, List.mem_append_right _ (List.mem_singleton.2 rfl), rfl, rfl, BitVec.and_self⟩

theorem mem_addStrobe_other {s : State} {u : UnitId} {g : Word} {i : Nat} {c : Bool} {q : Strobe} (h : q ∈ s.strobes) (hu : q.unit ≠ u) :
    q ∈ (addStrobe s u g i c).strobes := by
  unfold addStrobe
  dsimp only
  split
  · exact List.mem_map.2 ⟨q, h, if_neg hu⟩
  · exact List.mem_append_left _ h

theorem filter_addStrobe_other {s : State} {u v : UnitId} {g : Word} {i : Nat} {c : Bool} (hv : v ≠ u) :
    (addStrobe s u g i c).strobes.filter (fun x => x.unit == v) = s.strobes.filter (fun x => x.unit == v) := by
  unfold addStrobe
  dsimp only
  split
  · have hunit : ((fun x : Strobe => x.unit == v) ∘ fun t => if t.unit = u then ⟨u, t.groups ||| g, i, c, false⟩ else t) =
        fun x => x.unit == v := by
      funext x
      by_cases hx : x.unit = u
      · simp [hx]
      · simp [hx]
    rw [List.filter_map, hunit]
    refine (List.map_congr_left fun x hx => ?_).trans (List.map_id _)
    have hx' : x.unit = v := by simpa using (List.mem_filter.1 hx).2
    exact if_neg (hx' ▸ hv)
  · simp [hv.symm]

/-! Rejecting a set (R50). -/

/-- What the rejections of sets do: one event and one count for each, and GLB_CFGREJ; `n` of them. -/
structure Rejections (s t : State) (n : Nat) : Prop where
  regs : RegsBut s t [R.GLB_CFGREJ, R.GLB_CFGREJ_COUNT]
  valid : n ≠ 0 ∨ s.on R.GLB_CFGREJ_VALID = true → t.on R.GLB_CFGREJ_VALID = true
  events : t.evl.inFlight.length = s.evl.inFlight.length + n
  pend : t.pend = s.pend
  strobes : t.strobes = s.strobes
  grn : t.grn = s.grn

/-- GLB_CFGREJ after a rejection: the first one is shown, a further one sets OVERRUN (R56). -/
def shownReject (s : State) (grp : Nat) (mem : List Nat) : State :=
  if s.on R.GLB_CFGREJ_VALID then s.u R.GLB_CFGREJ_OVERRUN 1
  else s.us [(R.GLB_CFGREJ_VALID, 1), (R.GLB_CFGREJ_GROUP, grp), (R.GLB_CFGREJ_ADDR, (mem.head?).getD 0)]

theorem rejectSet_eq (s : State) (grp how : Nat) (mem : List Nat) : rejectSet s grp how mem =
    ((shownReject { s with written := s.written.filter (fun a => !mem.contains a) } grp mem).bump R.GLB_CFGREJ_COUNT).log 0x001 noStation
      [((shownReject { s with written := s.written.filter (fun a => !mem.contains a) } grp mem).rd R.GLB_CFGREJ).toNat, how] := rfl

theorem shownReject_regs (s : State) (grp : Nat) (mem : List Nat) : ∃ r, shownReject s grp mem = { s with regs := r } := by
  unfold shownReject
  split
  · exact ⟨_, rfl⟩
  · exact ⟨_, rfl⟩

theorem shownReject_regsBut (s : State) (grp : Nat) (mem : List Nat) : RegsBut s (shownReject s grp mem) [R.GLB_CFGREJ] := by
  intro a ha
  have ha : a ≠ R.GLB_CFGREJ := List.ne_of_not_mem_cons ha
  unfold shownReject
  split
  · exact s.rd_u_other _ _ ha
  · rw [State.us_cons, State.us_cons, State.us_cons, State.us_nil, State.rd_u_other _ _ _ ha, State.rd_u_other _ _ _ ha,
      State.rd_u_other _ _ _ ha]

theorem shownReject_valid (s : State) (grp : Nat) (mem : List Nat) : (shownReject s grp mem).on R.GLB_CFGREJ_VALID = true := by
  unfold shownReject
  split
  · next h => rw [State.on_u_bits _ _ (by decide) (by decide), h]
  · rw [State.us_cons, State.us_cons, State.us_cons, State.us_nil, State.on_u_bits _ _ (by decide) (by decide),
      State.on_u_bits _ _ (by decide) (by decide)]
    exact s.on_u_self (by decide) true

theorem rejectSet_rejections (s : State) (grp how : Nat) (mem : List Nat) : Rejections s (rejectSet s grp how mem) 1 := by
  rw [rejectSet_eq]
  have hregs := shownReject_regsBut { s with written := s.written.filter (fun a => !mem.contains a) } grp mem
  have hvalid := shownReject_valid { s with written := s.written.filter (fun a => !mem.contains a) } grp mem
  obtain ⟨r, hr⟩ := shownReject_regs { s with written := s.written.filter (fun a => !mem.contains a) } grp mem
  generalize shownReject _ grp mem = t at hregs hvalid hr
  have hcount : RegsBut t (t.bump R.GLB_CFGREJ_COUNT) [R.GLB_CFGREJ_COUNT] := regsBut_wr t _ _
  refine ⟨hregs.trans hcount, fun _ => (hcount.on (by decide)).trans hvalid, ?_, ?_, ?_, ?_⟩
  · rw [hr]; exact List.length_append
  · rw [hr]; rfl
  · rw [hr]; rfl
  · rw [hr]; rfl

theorem Rejections.refl (s : State) : Rejections s s 0 where
  regs := fun _ _ => rfl
  valid := fun h => h.resolve_left fun h => h rfl
  events := rfl
  pend := rfl
  strobes := rfl
  grn := rfl

theorem Rejections.trans {s t u : State} {n k : Nat} (h : Rejections s t n) (h' : Rejections t u k) : Rejections s u (n + k) where
  regs := (h.regs.trans h'.regs).mono (by simp)
  valid := fun hv => h'.valid <| by
    by_cases hk : k = 0
    · exact .inr (h.valid (hv.imp_left fun hn => by omega))
    · exact .inl hk
  events := by rw [h'.events, h.events, Nat.add_assoc]
  pend := h'.pend.trans h.pend
  strobes := h'.strobes.trans h.strobes
  grn := h'.grn.trans h.grn

/-- A loop of rejections, one each turn. -/
theorem rejections_each {α : Type} {k : State → α → State} (hk : ∀ s x, Rejections s (k s x) 1) (l : List α) :
    ∀ s : State, Rejections s (s.each l k) l.length := by
  induction l with
  | nil => exact Rejections.refl
  | cons x l ih =>
    intro s
    have h := (hk s x).trans (ih (k s x))
    rwa [Nat.add_comm] at h

theorem rejectSet_stag (s : State) (grp how : Nat) (mem : List Nat) : (rejectSet s grp how mem).stag = s.stag := by
  rw [rejectSet_eq]
  obtain ⟨r, hr⟩ := shownReject_regs { s with written := s.written.filter (fun a => !mem.contains a) } grp mem
  rw [hr]
  rfl

/-! A configuration transaction (R364). -/

/-- The units that a transaction of these groups applies. -/
def txUnits (s : State) : List UnitId := allUnits.filter fun u => (s.rd R.GRN_CFGTX_GROUPS &&& groupBit (groupOf s u)) != 0#32

/-- The sets that fail in the configuration that would result, each with the group of its unit. -/
def txFailing (s : State) : List (Nat × List Nat) := (txUnits s).flatMap fun u =>
  (if unitOk s (txView s (txUnits s)) u then [] else [(groupOf s u, wholeUnit s u)]) ++
    ((setsOf s (txView s (txUnits s)) u).filter (fun c => !c.ok)).map fun c => (groupOf s u, c.mem)

/-- What the turn of one unit does in a transaction that passes. -/
def txStage (s : State) (u : UnitId) : State := addStrobe (stageUnit s u) u (groupBit (groupOf s u)) (newStrobe s) true

theorem cfgtxCommit_idle {s : State} (h : s.on R.GRN_CFGTX_STATUS_BUSY = false) : cfgtxCommit s =
    if (txUnits s).isEmpty then s.us [(R.GRN_CFGTX_STATUS_SETS, 0), (R.GRN_CFGTX_STATUS_DONE, 1)]
    else if (txFailing s).isEmpty then
      txEnd (refreshBusy ((((s.each (txUnits s) txStage).grnU (fun g => { g with cfgGroups := s.rd R.GRN_CFGTX_GROUPS })).us
        [(R.GRN_CFGTX_STATUS_SETS, 0), (R.GRN_CFGTX_STATUS_BUSY, 1)])))
    else (s.each (txFailing s) fun s f => rejectSet s f.1 2 f.2).us
      [(R.GRN_CFGTX_STATUS_SETS, min 0xFFFF (txFailing s).length), (R.GRN_CFGTX_STATUS_REJECTED, 1), (R.GRN_CFGTX_STATUS_DONE, 1)] := by
  unfold cfgtxCommit
  rw [if_neg (by rw [h]; decide)]
  rfl

/-- With no unit in its groups a transaction is done. -/
theorem cfgtxCommit_noUnits {s : State} (h : s.on R.GRN_CFGTX_STATUS_BUSY = false) (hu : txUnits s = []) :
    (cfgtxCommit s).on R.GRN_CFGTX_STATUS_DONE = true ∧ (cfgtxCommit s).g R.GRN_CFGTX_STATUS_SETS = 0 ∧
      OnlyFields s (cfgtxCommit s) R.GRN_CFGTX_STATUS [R.GRN_CFGTX_STATUS_DONE, R.GRN_CFGTX_STATUS_SETS] := by
  rw [cfgtxCommit_idle h, if_pos (List.isEmpty_iff.2 hu), State.us_cons, State.us_cons, State.us_nil]
  refine ⟨State.on_u_self _ (by decide) true, ?_, ⟨rfl, ?_⟩, ?_⟩
  · rw [State.g_u_bits _ _ _ _ (by decide) (by decide)]
    exact State.g_u_self s _ _ (by decide)
  · exact (regsBut_u s R.GRN_CFGTX_STATUS_SETS 0).trans (regsBut_u _ R.GRN_CFGTX_STATUS_DONE 1) |>.mono (by simp; exact ⟨rfl, rfl⟩)
  · intro f _ hw hf
    have hdone := hf _ List.mem_cons_self
    have hsets := hf _ (List.mem_cons_of_mem _ List.mem_cons_self)
    rw [State.g_u_bits _ _ _ _ hdone.symm hw, State.g_u_bits _ _ _ _ hsets.symm hw]

/-- A set that fails rejects the transaction as a whole. -/
theorem cfgtxCommit_rejected {s : State} (h : s.on R.GRN_CFGTX_STATUS_BUSY = false) (hf : txFailing s ≠ []) :
    let t := cfgtxCommit s
    t.on R.GRN_CFGTX_STATUS_REJECTED = true ∧ t.on R.GRN_CFGTX_STATUS_DONE = true ∧
        t.g R.GRN_CFGTX_STATUS_SETS = min 0xFFFF (txFailing s).length ∧ t.on R.GLB_CFGREJ_VALID = true ∧
        t.evl.inFlight.length = s.evl.inFlight.length + (txFailing s).length ∧ t.pend = s.pend ∧ t.stag = s.stag ∧ t.strobes = s.strobes ∧
        RegsBut s t [R.GLB_CFGREJ, R.GLB_CFGREJ_COUNT, R.GRN_CFGTX_STATUS] := by
  have hu : ¬ (txUnits s).isEmpty = true := fun he => hf (by rw [txFailing, List.isEmpty_iff.1 he, List.flatMap_nil])
  have hrej := rejections_each (fun s (f : Nat × List Nat) => rejectSet_rejections s f.1 2 f.2) (txFailing s) s
  have hstag : (s.each (txFailing s) fun s f => rejectSet s f.1 2 f.2).stag = s.stag :=
    State.each_proj (·.stag) (fun s (f : Nat × List Nat) => rejectSet s f.1 2 f.2) (fun s f => rejectSet_stag s f.1 2 f.2) _ s
  have hlen : (txFailing s).length ≠ 0 := fun hl => hf (List.length_eq_zero_iff.1 hl)
  have hfe : ¬ (txFailing s).isEmpty = true := fun he => hf (List.isEmpty_iff.1 he)
  dsimp only
  rw [cfgtxCommit_idle h, if_neg hu, if_neg hfe]
  generalize s.each (txFailing s) (fun s f => rejectSet s f.1 2 f.2) = t at hrej hstag
  rw [State.us_cons, State.us_cons, State.us_cons, State.us_nil]
  refine ⟨?_, State.on_u_self _ (by decide) true, ?_, ?_, hrej.events, hrej.pend, hstag, hrej.strobes, ?_⟩
  · rw [State.on_u_bits _ _ (by decide) (by decide)]
    exact State.on_u_self _ (by decide) true
  · rw [State.g_u_bits _ _ _ _ (by decide) (by decide), State.g_u_bits _ _ _ _ (by decide) (by decide), State.g_u_self _ _ _ (by decide)]
    exact Nat.mod_eq_of_lt (Nat.lt_of_le_of_lt (Nat.min_le_left _ _) (by decide))
  · have hvalid := hrej.valid (.inl hlen)
    rw [State.on, State.g_u_addr _ _ _ _ (by decide), State.g_u_addr _ _ _ _ (by decide), State.g_u_addr _ _ _ _ (by decide)]
    exact hvalid
  · intro a ha
    simp only [List.mem_cons, List.not_mem_nil, or_false, not_or] at ha
    obtain ⟨h1, h2, h3⟩ := ha
    rw [State.rd_u_other _ _ _ h3, State.rd_u_other _ _ _ h3, State.rd_u_other _ _ _ h3, hrej.regs a (by simp [h1, h2])]

/-- The unit waits for its boundary, checked, by a strobe that carries its group. -/
def waitsChecked (u : UnitId) (t : State) : Prop :=
  ∃ q ∈ t.strobes, q.unit = u ∧ q.checked = true ∧ q.groups &&& groupBit (groupOf t u) = groupBit (groupOf t u)

theorem txStage_regs (s : State) (u : UnitId) : (txStage s u).regs = s.regs := rfl

theorem waitsChecked_txStage (s : State) (u : UnitId) : waitsChecked u (txStage s u) :=
  addStrobe_self (stageUnit s u) u (groupBit (groupOf s u)) (newStrobe s) true

theorem waitsChecked_txStage_other {s : State} {u : UnitId} (v : UnitId) (h : waitsChecked u s) : waitsChecked u (txStage s v) := by
  by_cases hv : u = v
  · exact hv ▸ waitsChecked_txStage s u
  · obtain ⟨q, hq, hu, hc, hg⟩ := h
    exact ⟨q, mem_addStrobe_other (s := stageUnit s v) hq (hu ▸ hv), hu, hc, hg⟩

/-- A strobe that carries one of the groups keeps a transaction under way. -/
theorem txEnd_of_strobe {s : State} {q : Strobe} (hq : q ∈ s.strobes) (hg : q.groups &&& s.grn.cfgGroups ≠ 0#32) : txEnd s = s :=
  if_neg fun h => hg (by simpa using List.all_eq_true.1 h.2 q hq)

/-- When every check passes, each unit of the groups waits for its boundary. -/
theorem cfgtxCommit_staged {s : State} (h : s.on R.GRN_CFGTX_STATUS_BUSY = false) (hu : txUnits s ≠ []) (hf : txFailing s = []) :
    (cfgtxCommit s).on R.GRN_CFGTX_STATUS_BUSY = true ∧ ∀ u ∈ txUnits s, ∃ q ∈ (cfgtxCommit s).strobes, q.unit = u ∧ q.checked = true := by
  have hregs : (s.each (txUnits s) txStage).regs = s.regs := State.each_proj (·.regs) _ txStage_regs _ s
  have hwait : ∀ u ∈ txUnits s, waitsChecked u (s.each (txUnits s) txStage) :=
    State.each_sets (P := waitsChecked) waitsChecked_txStage (fun _ _ v h => waitsChecked_txStage_other v h) _ s
  have hue : ¬ (txUnits s).isEmpty = true := fun he => hu (List.isEmpty_iff.1 he)
  rw [cfgtxCommit_idle h, if_neg hue, if_pos (List.isEmpty_iff.2 hf)]
  generalize s.each (txUnits s) txStage = t at hregs hwait
  have hstay : txEnd (refreshBusy ((t.grnU (fun g => { g with cfgGroups := s.rd R.GRN_CFGTX_GROUPS })).us
        [(R.GRN_CFGTX_STATUS_SETS, 0), (R.GRN_CFGTX_STATUS_BUSY, 1)])) =
      refreshBusy ((t.grnU (fun g => { g with cfgGroups := s.rd R.GRN_CFGTX_GROUPS })).us
        [(R.GRN_CFGTX_STATUS_SETS, 0), (R.GRN_CFGTX_STATUS_BUSY, 1)]) := by
    obtain ⟨u, hmem⟩ := List.exists_mem_of_ne_nil _ hu
    obtain ⟨q, hq, -, -, hg⟩ := hwait u hmem
    have hgroup : groupOf t u = groupOf s u := congrArg (fun m => getF (rdR m (groupField u).addr) (groupField u)) hregs
    have hsel : s.rd R.GRN_CFGTX_GROUPS &&& groupBit (groupOf s u) ≠ 0#32 := by simpa using (List.mem_filter.1 hmem).2
    refine txEnd_of_strobe (q := q) hq fun hzero => hsel ?_
    rw [hgroup] at hg
    calc s.rd R.GRN_CFGTX_GROUPS &&& groupBit (groupOf s u)
      _ = (q.groups &&& s.rd R.GRN_CFGTX_GROUPS) &&& groupBit (groupOf s u) := by
        rw [BitVec.and_comm q.groups, BitVec.and_assoc, hg]
      _ = 0#32 := by
        have hz : q.groups &&& s.rd R.GRN_CFGTX_GROUPS = 0#32 := hzero
        rw [hz, BitVec.zero_and]
  rw [hstay]
  refine ⟨?_, fun u hmem => ?_⟩
  · rw [refreshBusy, State.us_cons, State.us_cons, State.us_nil, State.on, State.g, State.rd_wr_other _ _ (by decide)]
    exact State.on_u_self _ (by decide) true
  · obtain ⟨q, hq, hunit, hc, -⟩ := hwait u hmem
    exact ⟨q, hq, hunit, hc⟩

/-- Settles O42: one lemma for each way in which CFGTX_COMMIT goes. -/
theorem configurationTransactions : Obligations.ConfigurationTransactions := by
  intro s hs
  dsimp only
  have hmems : (txUnits s).flatMap (fun u => (if unitOk s (txView s (txUnits s)) u then [] else [wholeUnit s u]) ++
      ((setsOf s (txView s (txUnits s)) u).filter (fun c => !c.ok)).map CfgSet.mem) = (txFailing s).map Prod.snd := by
    rw [txFailing, List.map_flatMap]
    refine List.flatMap_congr fun u _ => ?_
    split
    · simp [Function.comp_def]
    · simp [Function.comp_def]
  refine ⟨fun hbusy => (answer_live cfgtxCommit hs).trans (congrArg _ (if_pos hbusy)), fun hidle => ⟨fun hu => ?_, fun hf => ?_, fun hu hf => ?_⟩⟩
  · exact does_of_answer hs rfl (cfgtxCommit_noUnits hidle hu)
  · have hf' : (txFailing s).map Prod.snd ≠ [] := hmems ▸ hf
    have hlen := congrArg List.length hmems
    rw [List.length_map] at hlen
    have hrej := cfgtxCommit_rejected hidle fun he => hf' (by rw [he]; rfl)
    rw [← hlen] at hrej
    exact does_of_answer hs rfl hrej
  · have hf' : (txFailing s).map Prod.snd = [] := hmems ▸ hf
    exact does_of_answer hs rfl (cfgtxCommit_staged hidle hu (List.map_eq_nil_iff.1 hf'))

/-! A strobe (R45, R46). -/

/-- What the turn of one unit does for a strobe of the groups `go`. -/
def strobeTurn (go : Word) (id : Nat) (s : State) (u : UnitId) : State :=
  if (go &&& groupBit (groupOf s u)) = 0#32 then s else addStrobe (stageUnit s u) u (groupBit (groupOf s u)) id false

theorem glbApply_eq (w : Word) (s : State) : glbApply w s = refreshBusy
    ((s.grnU fun g => { g with cfgWaits := g.cfgWaits ||| (w &&& s.grn.cfgGroups) }).each allUnits
      (strobeTurn (w &&& ~~~ s.grn.cfgGroups) (newStrobe s))) := rfl

theorem strobeTurn_only (go : Word) (id : Nat) (s : State) (u : UnitId) :
    ∃ m l q, strobeTurn go id s u = { s with stag := m, written := l, strobes := q } := by
  unfold strobeTurn
  split
  · exact ⟨_, _, _, rfl⟩
  · exact ⟨_, _, _, rfl⟩

theorem strobeTurn_regs (go : Word) (id : Nat) (s : State) (u : UnitId) : (strobeTurn go id s u).regs = s.regs := by
  obtain ⟨m, l, q, h⟩ := strobeTurn_only go id s u
  rw [h]

theorem strobeTurn_pend (go : Word) (id : Nat) (s : State) (u : UnitId) : (strobeTurn go id s u).pend = s.pend := by
  obtain ⟨m, l, q, h⟩ := strobeTurn_only go id s u
  rw [h]

theorem groupOf_of_regs {s t : State} (h : t.regs = s.regs) (u : UnitId) : groupOf t u = groupOf s u :=
  congrArg (fun m => getF (rdR m (groupField u).addr) (groupField u)) h

/-- A unit of the strobe's groups waits, with its pending values staged. -/
def strobed (go : Word) (u : UnitId) (t : State) : Prop :=
  (go &&& groupBit (groupOf t u)) ≠ 0#32 →
    (∃ x ∈ t.strobes, x.unit = u ∧ x.checked = false) ∧ ∀ a, unitOf a = some u → rdR t.stag a = rdR t.pend a

theorem strobed_turn (go : Word) (id : Nat) (s : State) (u : UnitId) : strobed go u (strobeTurn go id s u) := by
  intro hgo
  rw [groupOf_of_regs (strobeTurn_regs go id s u)] at hgo
  rw [strobeTurn, if_neg hgo]
  obtain ⟨q, hq, hu, hc, -⟩ := addStrobe_self (stageUnit s u) u (groupBit (groupOf s u)) id false
  refine ⟨⟨q, hq, hu, hc⟩, fun a ha => ?_⟩
  exact (stageUnit_stag s u a).trans (if_pos ha)

theorem strobed_turn_other {go : Word} {id : Nat} {s : State} {u : UnitId} (v : UnitId) (h : strobed go u s) :
    strobed go u (strobeTurn go id s v) := by
  by_cases hv : u = v
  · exact hv ▸ strobed_turn go id s u
  · intro hgo
    rw [groupOf_of_regs (strobeTurn_regs go id s v)] at hgo
    obtain ⟨⟨x, hx, hu, hc⟩, hstag⟩ := h hgo
    unfold strobeTurn
    split
    · exact ⟨⟨x, hx, hu, hc⟩, hstag⟩
    · refine ⟨⟨x, mem_addStrobe_other (s := stageUnit s v) hx (hu ▸ hv), hu, hc⟩, fun a ha => ?_⟩
      have hav : ¬ unitOf a = some v := fun e => hv (Option.some.inj (ha.symm.trans e))
      exact ((stageUnit_stag s v a).trans (if_neg hav)).trans (hstag a ha)

/-- A unit keeps its strobe and what is staged for it. -/
def unstrobed (s : State) (u : UnitId) (t : State) : Prop :=
  t.regs = s.regs ∧ t.strobes.filter (fun x => x.unit == u) = s.strobes.filter (fun x => x.unit == u) ∧
    ∀ a, unitOf a = some u → rdR t.stag a = rdR s.stag a

theorem unstrobed_turn {go : Word} {id : Nat} {s t : State} {u : UnitId} (hgo : (go &&& groupBit (groupOf s u)) = 0#32) (v : UnitId)
    (h : unstrobed s u t) : unstrobed s u (strobeTurn go id t v) := by
  obtain ⟨hregs, hstrobes, hstag⟩ := h
  refine ⟨(strobeTurn_regs go id t v).trans hregs, ?_⟩
  unfold strobeTurn
  split
  · exact ⟨hstrobes, hstag⟩
  · next hne =>
    have hv : u ≠ v := fun e => hne (by rw [← e, groupOf_of_regs hregs, hgo])
    refine ⟨(filter_addStrobe_other (s := stageUnit t v) hv).trans hstrobes, fun a ha => ?_⟩
    have hav : ¬ unitOf a = some v := fun e => hv (Option.some.inj (ha.symm.trans e))
    exact ((stageUnit_stag t v a).trans (if_neg hav)).trans (hstag a ha)

theorem strobeTurn_grn (go : Word) (id : Nat) (s : State) (u : UnitId) : (strobeTurn go id s u).grn = s.grn := by
  obtain ⟨m, l, q, h⟩ := strobeTurn_only go id s u
  rw [h]

theorem glbApply_strobes (s : State) (w : Word) :
    RegsBut s (glbApply w s) [R.GLB_APPLY_BUSY] ∧ (glbApply w s).pend = s.pend ∧
      (glbApply w s).grn.cfgWaits = s.grn.cfgWaits ||| (w &&& s.grn.cfgGroups) ∧
      ∀ u ∈ allUnits,
        ((w &&& ~~~ s.grn.cfgGroups &&& groupBit (groupOf s u)) ≠ 0#32 →
          (∃ x ∈ (glbApply w s).strobes, x.unit = u ∧ x.checked = false) ∧
            ∀ a, unitOf a = some u → rdR (glbApply w s).stag a = rdR s.pend a) ∧
        ((w &&& ~~~ s.grn.cfgGroups &&& groupBit (groupOf s u)) = 0#32 →
          (glbApply w s).strobes.filter (fun x => x.unit == u) = s.strobes.filter (fun x => x.unit == u) ∧
            ∀ a, unitOf a = some u → rdR (glbApply w s).stag a = rdR s.stag a) := by
  rw [glbApply_eq]
  generalize hgo : w &&& ~~~ s.grn.cfgGroups = go
  generalize hs₁ : s.grnU (fun g => { g with cfgWaits := g.cfgWaits ||| (w &&& s.grn.cfgGroups) }) = s₁
  have hregs : (s₁.each allUnits (strobeTurn go (newStrobe s))).regs = s.regs :=
    (State.each_proj (fun t => t.regs) _ (strobeTurn_regs go _) _ s₁).trans (by rw [← hs₁]; rfl)
  have hpend : (s₁.each allUnits (strobeTurn go (newStrobe s))).pend = s.pend :=
    (State.each_proj (fun t => t.pend) _ (strobeTurn_pend go _) _ s₁).trans (by rw [← hs₁]; rfl)
  have hgrn : (s₁.each allUnits (strobeTurn go (newStrobe s))).grn = s₁.grn := State.each_proj (fun t => t.grn) _ (strobeTurn_grn go _) _ s₁
  have hin : ∀ u ∈ allUnits, strobed go u (s₁.each allUnits (strobeTurn go (newStrobe s))) :=
    State.each_sets (P := strobed go) (strobed_turn go _) (fun _ _ v h => strobed_turn_other v h) _ s₁
  have hout (u : UnitId) (hz : (go &&& groupBit (groupOf s u)) = 0#32) : unstrobed s u (s₁.each allUnits (strobeTurn go (newStrobe s))) :=
    State.each_keeps (unstrobed s u) _ (fun _ v h => unstrobed_turn hz v h) _ s₁ (by rw [← hs₁]; exact ⟨rfl, rfl, fun _ _ => rfl⟩)
  generalize s₁.each allUnits (strobeTurn go (newStrobe s)) = t at hregs hpend hgrn hin hout
  refine ⟨(RegsBut.of_regs hregs []).trans (regsBut_wr t _ _), hpend, ?_, fun u hu => ⟨fun hne => ?_, fun hz => (hout u hz).2⟩⟩
  · have hw : (refreshBusy t).grn.cfgWaits = s₁.grn.cfgWaits := congrArg Grn.cfgWaits hgrn
    rw [hw, ← hs₁]
    rfl
  · rw [← groupOf_of_regs hregs u] at hne
    obtain ⟨hx, hstag⟩ := hin u hu hne
    exact ⟨hx, fun a ha => (hstag a ha).trans (congrArg (rdR · a) hpend)⟩

/-! The boundary of a unit that has no effect beyond its registers (R45, R50). -/

/-- The units that an apply changes nothing of but their registers. -/
def plainUnit (u : UnitId) : Bool :=
  match u with
  | .glbTemp => true | .hqeArb => true | .hqeVol => true | .pcxCtl => true | .spnBus => true | .onx => true | .jsp => true
  | .cal => true | .qtz => true | .brlStn _ => true | .brlBank _ _ => true | _ => false

/-- The sets of a unit that fail at its boundary, of those that take part. -/
def failingSets (s : State) (u : UnitId) (part : CfgSet → Bool) : List CfgSet := (setsOf s (stagedView s u) u).filter fun c => part c && !c.ok

/-- What the turn of one failing set does. -/
def rejectTurn (grp how : Nat) (s : State) (c : CfgSet) : State := unstage (rejectSet s grp how c.mem) c.mem

theorem atBoundary_plain (s : State) {u : UnitId} (hu : plainUnit u = true) : atBoundary s u = true := by
  cases u
  case lane | sld | brlSlot => cases hu
  all_goals rfl

theorem applied_plain (old new : State) {u : UnitId} (hu : plainUnit u = true) : applied old new u = new := by
  cases u
  case glbTemp | hqeArb | hqeVol | pcxCtl | spnBus | onx | jsp | cal | qtz | brlStn | brlBank => rfl
  all_goals cases hu

theorem activate1_plain (s : State) {u : UnitId} (hu : plainUnit u = true) (rejected : Bool) :
    activate1 s u rejected = dropStrobe (commitUnit s u) u := by
  unfold activate1
  dsimp only
  rw [applied_plain _ _ hu, ite_self]

theorem judgeUnit_plain (s : State) {u : UnitId} (hu : plainUnit u = true) (grp how : Nat) (part : CfgSet → Bool) :
    (judgeUnit s u grp how part).2 = s.each (failingSets s u part) (rejectTurn grp how) := by
  cases u
  case brlSlot => cases hu
  all_goals rfl

theorem unitBoundary_plain (s : State) {u : UnitId} (hu : plainUnit u = true) (g : Word) (i how : Nat) (part : CfgSet → Bool) :
    ∃ grp, unitBoundary s ⟨u, g, i, false, false⟩ how part =
      dropStrobe (commitUnit (s.each (failingSets s u part) (rejectTurn grp how)) u) u := by
  refine ⟨strobeGroup s ⟨u, g, i, false, false⟩, ?_⟩
  rw [← judgeUnit_plain s hu, ← activate1_plain _ hu (judgeUnit s u (strobeGroup s ⟨u, g, i, false, false⟩) how part).1]
  unfold unitBoundary
  rw [atBoundary_plain s hu]
  cases u
  case wrs | brlSlot => cases hu
  all_goals rfl

/-- The staged values become active, listed or not, and nothing else changes. -/
theorem commitUnit_rd (s : State) (u : UnitId) (a : Nat) : (commitUnit s u).rd a = if unitOf a = some u then rdR s.stag a else s.rd a :=
  rdR_copyUnit (.inr (.inr rfl)) (.inl rfl) a

/-- Outside transactions dropping a strobe changes the strobes and GLB_APPLY_BUSY alone. -/
theorem dropStrobe_idle {s : State} (h : s.grn.cfgGroups = 0#32) (u : UnitId) :
    dropStrobe s u = refreshBusy { s with strobes := s.strobes.filter (fun t => t.unit != u) } :=
  if_neg fun hb => hb.1 h

/-- No member of a set of these units lies among the global registers below the temperatures. -/
theorem mem_setsOf_plain {s : State} {v : Nat → Word} {u : UnitId} (hu : plainUnit u = true) {c : CfgSet} (hc : c ∈ setsOf s v u) {a : Nat}
    (ha : a ∈ c.mem) : 0x40 ≤ a := by
  cases u
  case hqeArb | onx | spnBus | jsp => cases hc
  case glbTemp | pcxCtl | cal | qtz =>
    obtain rfl := List.mem_singleton.1 hc
    dsimp only at ha
    revert a
    decide
  case hqeVol =>
    obtain ⟨x, -, rfl⟩ := List.mem_map.1 hc
    simp only [R.HQE_VOL_SIZE_LO, R.HQE_VOL_SIZE_HI, List.mem_cons, List.not_mem_nil, or_false] at ha
    omega
  case brlStn n =>
    simp only [setsOf, brlStnSets, List.mem_cons, List.not_mem_nil, or_false] at hc
    rcases hc with rfl | rfl
    · simp only [R.BRL_STN_FOK, R.BRL_STN_LOCKERR, List.mem_cons, List.not_mem_nil, or_false] at ha
      omega
    · simp only [R.BRL_STN_JUMP, R.BRL_STN_SEQT, List.mem_cons, List.not_mem_nil, or_false] at ha
      omega
  case brlBank b k =>
    obtain rfl := List.mem_singleton.1 hc
    simp only [R.BRL_BANK_GAIN, R.BRL_BANK_KI, R.BRL_BANK_ILIM, R.BRL_BANK_OUTMIN, R.BRL_BANK_OUTMAX, R.BRL_BANK_BIAS, R.BRL_BANK_BQ,
      List.mem_append, List.mem_flatMap, List.mem_map, List.mem_cons, List.not_mem_nil, or_false] at ha
    rcases ha with ha | ⟨q, -, i, -, rfl⟩
    · omega
    · omega
  all_goals cases hu

/-! What the failing sets leave. -/

/-- The staged values of these registers are the active ones. -/
def givenUp (mem : List Nat) (t : State) : Prop := ∀ a ∈ mem, 0x40 ≤ a → rdR t.stag a = t.rd a

theorem rejectTurn_rejections (grp how : Nat) (s : State) (c : CfgSet) : Rejections s (rejectTurn grp how s c) 1 := by
  have h := rejectSet_rejections s grp how c.mem
  exact ⟨h.regs, h.valid, h.events, h.pend, h.strobes, h.grn⟩

theorem rejectTurn_stag (grp how : Nat) (s : State) (c : CfgSet) (a : Nat) :
    rdR (rejectTurn grp how s c).stag a = if a ∈ c.mem then (rejectTurn grp how s c).rd a else rdR s.stag a := by
  have h : rdR (rejectTurn grp how s c).stag a = _ := rdR_foldl_wrR (rejectSet s grp how c.mem).rd c.mem (rejectSet s grp how c.mem).stag a
  rw [h, rejectSet_stag]
  rfl

theorem Rejections.rd {s t : State} {n : Nat} (h : Rejections s t n) {a : Nat} (ha : 0x40 ≤ a) : t.rd a = s.rd a :=
  h.regs a (by simp only [R.GLB_CFGREJ, R.GLB_CFGREJ_COUNT, List.mem_cons, List.not_mem_nil, or_false]; omega)

theorem givenUp_turn (grp how : Nat) (s : State) (c : CfgSet) : givenUp c.mem (rejectTurn grp how s c) := fun a ha _ => by
  rw [rejectTurn_stag, if_pos ha]

theorem givenUp_turn_other {grp how : Nat} {s : State} {mem : List Nat} (c : CfgSet) (h : givenUp mem s) :
    givenUp mem (rejectTurn grp how s c) := fun a ha hlow => by
  rw [rejectTurn_stag]
  split
  · rfl
  · rw [h a ha hlow, (rejectTurn_rejections grp how s c).rd hlow]

/-- What the boundary of such a unit does, when it waits alone and outside transactions. -/
theorem unitBoundary_plain_spec {s : State} {u : UnitId} (hu : plainUnit u = true) (htx : s.grn.cfgGroups = 0#32) {g : Word} {i : Nat}
    (halone : s.strobes = [⟨u, g, i, false, false⟩]) (how : Nat) (part : CfgSet → Bool) :
    let t := unitBoundary s ⟨u, g, i, false, false⟩ how part
    t.strobes = [] ∧
    (failingSets s u part = [] → t.evl = s.evl ∧ ∀ a, a ≠ R.GLB_APPLY_BUSY → t.rd a = if unitOf a = some u then rdR s.stag a else s.rd a) ∧
    (∀ c ∈ failingSets s u part, t.on R.GLB_CFGREJ_VALID = true ∧
      t.evl.inFlight.length = s.evl.inFlight.length + (failingSets s u part).length ∧ ∀ a ∈ c.mem, t.rd a = s.rd a) := by
  obtain ⟨grp, hb⟩ := unitBoundary_plain s hu g i how part
  have hrej := rejections_each (rejectTurn_rejections grp how) (failingSets s u part) s
  have hgiven : ∀ c ∈ failingSets s u part, givenUp c.mem (s.each (failingSets s u part) (rejectTurn grp how)) :=
    State.each_sets (P := fun (c : CfgSet) => givenUp c.mem) (givenUp_turn grp how) (fun _ _ c h => givenUp_turn_other c h) _ s
  dsimp only
  rw [hb]
  have hnone : s.each [] (rejectTurn grp how) = s := rfl
  generalize hf : failingSets s u part = failing at *
  generalize hj : s.each failing (rejectTurn grp how) = j at *
  have hidle : (commitUnit j u).grn.cfgGroups = 0#32 := (congrArg Grn.cfgGroups hrej.grn).trans htx
  have hstrobes : (commitUnit j u).strobes = s.strobes := hrej.strobes
  have hrd (a : Nat) (ha : a ≠ R.GLB_APPLY_BUSY) :
      (dropStrobe (commitUnit j u) u).rd a = if unitOf a = some u then rdR j.stag a else j.rd a := by
    rw [dropStrobe_idle hidle, refreshBusy, State.rd_wr_other _ _ ha]
    exact commitUnit_rd j u a
  refine ⟨?_, fun hnil => ?_, fun c hc => ⟨?_, ?_, fun a ha => ?_⟩⟩
  · rw [dropStrobe_idle hidle]
    show (commitUnit j u).strobes.filter (fun t => t.unit != u) = []
    rw [hstrobes, halone]
    simp
  · subst hnil
    obtain rfl : s = j := hj
    rw [dropStrobe_idle hidle] at hrd ⊢
    exact ⟨rfl, hrd⟩
  · have hne : failing.length ≠ 0 := fun hl => by rw [List.length_eq_zero_iff.1 hl] at hc; cases hc
    have hvalid := hrej.valid (.inl hne)
    have hcfg : unitOf R.GLB_CFGREJ_VALID.addr ≠ some u := by rw [show unitOf R.GLB_CFGREJ_VALID.addr = none from rfl]; simp
    rw [State.on, State.g, hrd _ (by decide), if_neg hcfg]
    exact hvalid
  · rw [dropStrobe_idle hidle]
    exact hrej.events
  · have hlow : 0x40 ≤ a := mem_setsOf_plain hu (List.mem_filter.1 (hf ▸ hc)).1 ha
    rw [hrd a (by simp only [R.GLB_APPLY_BUSY]; omega), hgiven c hc a ha hlow, ite_self, hrej.rd hlow]

/-! APPLY_AT_BOUNDARY of such a unit (R45). -/

/-- A loop whose turns are all the same does it once, when once is enough. -/
theorem State.each_once {α : Type} {k : State → α → State} {x : α} {s : State} (hk : k (k s x) x = k s x) {l : List α} (hl : ∀ y ∈ l, y = x)
    (hne : l ≠ []) : s.each l k = k s x := by
  cases l with
  | nil => exact absurd rfl hne
  | cons y l =>
    obtain rfl := hl y List.mem_cons_self
    exact List.foldlRecOn (motive := fun t => t = k s y) l k rfl fun t ht z hz => by
      rw [ht, hl z (List.mem_cons_of_mem _ hz), hk]

theorem applyAtBoundary_alone {s : State} {u : UnitId} (hmem : u ∈ allUnits) (hu : plainUnit u = true) (htx : s.grn.cfgGroups = 0#32) {g : Word}
    {i : Nat} (halone : s.strobes = [⟨u, g, i, false, false⟩]) :
    applyAtBoundary [u] s = unitBoundary s ⟨u, g, i, false, false⟩ 0 fun _ => true := by
  obtain ⟨hdone, -, -⟩ := unitBoundary_plain_spec hu htx halone 0 fun _ => true
  have hwait : ∀ v ∈ waitingUnits s [u], v = u := fun v hv => by
    simpa using (Bool.and_eq_true_iff.1 (List.mem_filter.1 hv).2).1
  have hne : u ∈ waitingUnits s [u] := List.mem_filter.2 ⟨hmem, by simp [halone]⟩
  unfold applyAtBoundary
  refine (State.each_once (x := u) ?_ hwait (List.ne_nil_of_mem hne)).trans ?_
  · simp only [halone, List.find?_cons, beq_self_eq_true, hdone, List.find?_nil]
  · simp only [halone, List.find?_cons, beq_self_eq_true]

/-! The members of the sets that auto-apply judges lie in their unit (R44, R48). -/

/-- The rows of a table that hold no RWA field, by base address and dimensions. -/
def otherPlaces (rows : List Row) (g : Nat → Nat) : List (Nat × List (Nat × Nat)) :=
  (rows.filter fun r => !(r.fields g).any fun f => f.acc == .rwa).map fun r => (r.base, r.dims)

theorem findReg_isSome {rows : List Row} {a : Nat} (h : ∃ row ∈ rows, row.base ≤ a ∧ (matchDims (a - row.base) row.dims).isSome = true) :
    ∃ d, findReg rows a = some d := by
  induction rows with
  | nil =>
    obtain ⟨row, hmem, -⟩ := h
    cases hmem
  | cons r rows ih =>
    obtain ⟨row, hmem, hbase, hdims⟩ := h
    have hlater (hne : row ≠ r) : ∃ d, findReg rows a = some d := ih ⟨row, (List.mem_cons.1 hmem).resolve_left hne, hbase, hdims⟩
    rw [findReg]
    split
    · split
      · exact ⟨_, rfl⟩
      · next hnone => exact hlater fun e => by rw [e, hnone] at hdims; cases hdims
    · next hlow => exact hlater fun e => hlow (e ▸ hbase)

/-- A register is configurable where a row with an RWA field places it and no other row does. -/
theorem configurable_of_places {a : Nat} (hrow : ∀ g, ∃ p ∈ rwaPlaces (rowsFor a) g, p.1 ≤ a ∧ (matchDims (a - p.1) p.2).isSome = true)
    (hother : ∀ g, ∀ p ∈ otherPlaces (rowsFor a) g, p.1 ≤ a → ¬ (matchDims (a - p.1) p.2).isSome = true) : configurable a = true := by
  obtain ⟨p, hp, hbase, hdims⟩ := hrow fun _ => 0
  obtain ⟨row, hmem, rfl⟩ := List.mem_map.1 hp
  obtain ⟨d, hd⟩ := findReg_isSome ⟨row, (List.mem_filter.1 hmem).1, hbase, hdims⟩
  obtain ⟨found, hfound, hfbase, ix, hix, hfields⟩ := findReg_row hd
  rw [configurable, regAt, hd]
  by_contra hno
  refine hother (fun k => (ix[k]?).getD 0) (found.base, found.dims) (List.mem_map.2 ⟨found, List.mem_filter.2 ⟨hfound, ?_⟩, rfl⟩) hfbase
    (by rw [hix]; rfl)
  rw [← hfields]
  simpa using hno

/-- The offsets of a bank's configurable registers. -/
def bankOffset (o : Nat) : Prop := o ∈ [4, 8, 0xC, 0x10, 0x14, 0x18] ∨ ∃ q < 5, ∃ i < 5, o = 0x20 + 0x20 * q + 4 * i

theorem rowsFor_brl {a : Nat} (ha : 0x100000 ≤ a ∧ a < 0x140000) : rowsFor a = rowsBrl := by
  simp [rowsFor, show ¬ a < 0x100000 by omega, show ¬ a < 0x10000 by omega, show ¬ a < 0x20000 by omega, show ¬ a < 0x40000 by omega,
    show ¬ a < 0x50000 by omega, show ¬ a < 0x60000 by omega, show ¬ a < 0x70000 by omega, show ¬ a < 0x80000 by omega, ha.2]

theorem rwaPlaces_brl (g : Nat → Nat) : rwaPlaces rowsBrl g =
    [(0x100404, [(8, 0x40)]), (0x100408, [(8, 0x40)]), (0x10040C, [(8, 0x40)]), (0x100410, [(8, 0x40)]), (0x100414, [(8, 0x40)]),
     (0x101004, [(96, 0x40)]), (0x101008, [(96, 0x40)]), (0x101010, [(96, 0x40), (4, 4)]), (0x101020, [(96, 0x40), (4, 4)]),
     (0x110004, [(2, 0x10000), (96, 0x100)]), (0x110008, [(2, 0x10000), (96, 0x100)]), (0x11000C, [(2, 0x10000), (96, 0x100)]),
     (0x110010, [(2, 0x10000), (96, 0x100)]), (0x110014, [(2, 0x10000), (96, 0x100)]), (0x110018, [(2, 0x10000), (96, 0x100)]),
     (0x110020, [(2, 0x10000), (96, 0x100), (5, 0x20), (5, 4)])] := rfl

theorem otherPlaces_brl (g : Nat → Nat) : otherPlaces rowsBrl g =
    [(0x100000, []), (0x100004, []), (0x100008, []), (0x100400, [(8, 0x40)]), (0x100420, [(8, 0x40)]), (0x100424, [(8, 0x40)]),
     (0x101000, [(96, 0x40)]), (0x101030, [(96, 0x40)]), (0x101034, [(96, 0x40)]), (0x101038, [(96, 0x40)]), (0x10103C, [(96, 0x40)]),
     (0x110000, [(2, 0x10000), (96, 0x100)]), (0x130000, [(8, 0x1000), (2, 0x800), (512, 4)])] := rfl

theorem bankOffset_range {o : Nat} (ho : bankOffset o) : 4 ≤ o ∧ o < 0x100 := by
  rcases ho with ho | ⟨q, hq, i, hi, rfl⟩
  · revert o
    decide
  · omega

/-- A row of the banks' table places every such register. -/
theorem bank_place {b k o : Nat} (hb : b < 2) (hk : k < 96) (ho : bankOffset o) (g : Nat → Nat) : ∃ p ∈ rwaPlaces rowsBrl g,
    p.1 ≤ 0x110000 + 0x10000 * b + 0x100 * k + o ∧ (matchDims (0x110000 + 0x10000 * b + 0x100 * k + o - p.1) p.2).isSome = true := by
  rw [rwaPlaces_brl]
  rcases ho with ho | ⟨q, hq, i, hi, rfl⟩
  · refine ⟨(0x110000 + o, [(2, 0x10000), (96, 0x100)]), ?_, ?_, ?_⟩
    · revert o
      decide
    · dsimp only
      omega
    · simp only [matchDims_cons, matchDims_nil]
      omega
  · refine ⟨(0x110020, [(2, 0x10000), (96, 0x100), (5, 0x20), (5, 4)]), by decide, ?_, ?_⟩
    · dsimp only
      omega
    · simp only [matchDims_cons, matchDims_nil]
      omega

/-- No other row places a register of a bank but its APPLY_GRP. -/
theorem bank_no_other {a : Nat} (ha : 0x110000 ≤ a ∧ a < 0x130000) (ho : a % 0x100 ≠ 0) (g : Nat → Nat) :
    ∀ p ∈ otherPlaces rowsBrl g, p.1 ≤ a → ¬ (matchDims (a - p.1) p.2).isSome = true := by
  intro p hp hbase hdims
  rw [otherPlaces_brl] at hp
  simp only [List.mem_cons, List.not_mem_nil, or_false] at hp
  rcases hp with rfl | rfl | rfl | rfl | rfl | rfl | rfl | rfl | rfl | rfl | rfl | rfl | rfl
  all_goals
    simp only [matchDims_cons, matchDims_nil] at hdims hbase
    omega

theorem unitOf_bank {b k o : Nat} (hb : b < 2) (hk : k < 96) (ho : bankOffset o) :
    unitOf (0x110000 + 0x10000 * b + 0x100 * k + o) = some (.brlBank b k) := by
  have hrange := bankOffset_range ho
  have hplace := bank_place hb hk ho
  generalize ha : 0x110000 + 0x10000 * b + 0x100 * k + o = a at hplace
  have hrows : rowsFor a = rowsBrl := rowsFor_brl (by omega)
  have hconf : configurable a = true := by
    refine configurable_of_places ?_ ?_
    · rw [hrows]
      exact hplace
    · rw [hrows]
      exact bank_no_other (by omega) (by omega)
  have hbank : (a - 0x110000) / 0x10000 = b ∧ a % 0x10000 / 0x100 = k := by omega
  rw [unitOf, if_neg (by simp [hconf])]
  iterate 12 rw [if_neg (by omega)]
  rw [if_pos (by omega), hbank.1, hbank.2]

theorem mem_allUnits_brlStn {n : Nat} (h : UnitId.brlStn n ∈ allUnits) : n < 8 := by
  simpa [allUnits] using h

theorem mem_allUnits_brlBank {b k : Nat} (h : UnitId.brlBank b k ∈ allUnits) : b < 2 ∧ k < 96 := by
  simp [allUnits] at h
  omega

theorem unitOf_brlStn : ∀ n : Fin 8, ∀ a ∈ [R.BRL_STN_FOK n, R.BRL_STN_LOCKERR n, R.BRL_STN_JUMP n, R.BRL_STN_SEQT n],
    unitOf a = some (.brlStn n) := by
  decide

theorem unitOf_pcxCtl : ∀ a ∈ [R.PCX_TIMING, R.PCX_VIOL, R.PCX_CREDIT], unitOf a = some .pcxCtl := by
  decide

/-- The members of the sets of a unit under auto-apply lie in that unit. -/
theorem unitOf_member {s : State} {v : Nat → Word} {u : UnitId} (hmem : u ∈ allUnits) (hu : plainUnit u = true) (hauto : autoBit u ≠ none)
    {c : CfgSet} (hc : c ∈ setsOf s v u) {a : Nat} (ha : a ∈ c.mem) : unitOf a = some u := by
  cases u
  case spnBus => cases hc
  case pcxCtl =>
    obtain rfl := List.mem_singleton.1 hc
    exact unitOf_pcxCtl a ha
  case brlStn n =>
    have hall := unitOf_brlStn ⟨n, mem_allUnits_brlStn hmem⟩ a
    simp only [setsOf, brlStnSets, List.mem_cons, List.not_mem_nil, or_false] at hc hall
    rcases hc with rfl | rfl
    · simp only [List.mem_cons, List.not_mem_nil, or_false] at ha
      exact hall (ha.imp_right .inl)
    · simp only [List.mem_cons, List.not_mem_nil, or_false] at ha
      exact hall (.inr (.inr ha))
  case brlBank b k =>
    obtain ⟨hb, hk⟩ := mem_allUnits_brlBank hmem
    obtain rfl := List.mem_singleton.1 hc
    have hat (o : Nat) (h : a = 0x110000 + 0x10000 * b + 0x100 * k + o) (ho : bankOffset o) : unitOf a = some (.brlBank b k) :=
      h ▸ unitOf_bank hb hk ho
    rcases List.mem_append.1 ha with ha | ha
    · simp only [List.mem_cons, List.not_mem_nil, or_false] at ha
      rcases ha with rfl | rfl | rfl | rfl | rfl | rfl
      · exact hat 4 (by unfold R.BRL_BANK_GAIN; omega) (.inl (by decide))
      · exact hat 8 (by unfold R.BRL_BANK_KI; omega) (.inl (by decide))
      · exact hat 0xC (by unfold R.BRL_BANK_ILIM; omega) (.inl (by decide))
      · exact hat 0x10 (by unfold R.BRL_BANK_OUTMIN; omega) (.inl (by decide))
      · exact hat 0x14 (by unfold R.BRL_BANK_OUTMAX; omega) (.inl (by decide))
      · exact hat 0x18 (by unfold R.BRL_BANK_BIAS; omega) (.inl (by decide))
    · obtain ⟨q, hq, ha⟩ := List.mem_flatMap.1 ha
      obtain ⟨i, hi, rfl⟩ := List.mem_map.1 ha
      exact hat (0x20 + 0x20 * q + 4 * i) (by unfold R.BRL_BANK_BQ; omega) (.inr ⟨q, List.mem_range.1 hq, i, List.mem_range.1 hi, rfl⟩)
  case glbTemp | hqeArb | hqeVol | onx | jsp | cal | qtz => exact absurd rfl hauto
  all_goals cases hu

/-! AUTO_APPLY of such a unit (R47, R49). -/

/-- The sets of these units do not depend on the state beside the values they are judged for. -/
theorem setsOf_plain (s t : State) (v : Nat → Word) {u : UnitId} (hu : plainUnit u = true) : setsOf s v u = setsOf t v u := by
  cases u
  case glbTemp | hqeArb | hqeVol | pcxCtl | spnBus | onx | jsp | cal | qtz | brlStn | brlBank => rfl
  all_goals cases hu

theorem unitOf_autoRegs {s : State} {u : UnitId} (hmem : u ∈ allUnits) (hu : plainUnit u = true) (hauto : autoBit u ≠ none) {a : Nat}
    (ha : a ∈ autoRegs s u) : unitOf a = some u := by
  rcases List.mem_append.1 ha with ha | ha
  · obtain ⟨c, hc, hac⟩ := List.mem_flatMap.1 ha
    exact unitOf_member hmem hu hauto (List.mem_filter.1 hc).1 hac
  · simpa using (Bool.and_eq_true_iff.1 (List.mem_filter.1 ha).2).1

/-- Without a checked strobe only the unit's own staged values are seen. -/
theorem stagedView_own {s : State} (h : ∀ q ∈ s.strobes, q.checked = false) (u : UnitId) (a : Nat) :
    stagedView s u a = if unitOf a = some u then rdR s.stag a else s.rd a := by
  have hnone (p : Strobe → Bool) : s.strobes.filter (fun t => t.checked && p t) = [] :=
    List.filter_eq_nil_iff.2 fun q hq => by simp [h q hq]
  unfold stagedView
  rw [hnone]
  cases hua : unitOf a with
  | none => rfl
  | some v =>
    by_cases hv : v = u
    · simp [hv]
    · simp [hv]

/-- The registers that auto-apply stages, over the active values of the unit (R49). -/
def autoStaged (s : State) (u : UnitId) : SMap Word :=
  (autoRegs s u).foldl (fun m a => wrR m a (rdR s.pend a)) ((unitRegs s u).foldl (fun m a => wrR m a (s.rd a)) s.stag)

/-- The state in which a unit under auto-apply is judged. -/
def autoState (s : State) (u : UnitId) : State := addStrobe { s with
  stag := autoStaged s u
  written := s.written.filter fun a => !((autoRegs s u).contains a && (setMembers s u).contains a) } u 0#32 (newStrobe s) false

/-- The values that auto-apply makes active. -/
def autoView (s : State) (u : UnitId) (a : Nat) : Word := if (autoRegs s u).contains a then rdR s.pend a else s.rd a

theorem rdR_autoStaged {s : State} {u : UnitId} {a : Nat} (hu : unitOf a = some u) : rdR (autoStaged s u) a = autoView s u a := by
  have hbase : rdR ((unitRegs s u).foldl (fun m a => wrR m a (s.rd a)) s.stag) a = _ := rdR_copyUnit (.inl rfl) (.inr (.inr rfl)) a
  rw [autoStaged, rdR_foldl_wrR (rdR s.pend), hbase, if_pos hu, autoView]
  simp [State.rd]

theorem autoState_strobes {s : State} (h : s.strobes = []) (u : UnitId) :
    (autoState s u).strobes = [⟨u, 0#32, newStrobe s, false, false⟩] := by
  simp [autoState, addStrobe, h]

theorem autoApply_taken {s : State} {u : UnitId} (hu : plainUnit u = true) {f : FRef} (hf : autoBit u = some f) (hon : s.on f = true)
    (htx : s.grn.cfgGroups = 0#32) (hidle : s.strobes = []) (htake : autoRegs s u ≠ []) :
    autoApply u s = unitBoundary (autoState s u) ⟨u, 0#32, newStrobe s, false, false⟩ 1
      (fun c => c.mem.all fun a => (autoRegs s u).contains a) := by
  have hstrobes := autoState_strobes hidle u
  have htake' : (autoRegs s u).isEmpty = false := by simpa using htake
  unfold autoApply
  dsimp only
  rw [if_neg (by simp [hf, hon, htake', htx, hidle])]
  have hfind : (autoState s u).strobes.find? (fun t => t.unit == u) = some ⟨u, 0#32, newStrobe s, false, false⟩ := by simp [hstrobes]
  split
  · next t ht =>
    cases hfind.symm.trans ht
    exact if_pos (atBoundary_plain _ hu)
  · next hnone => cases hfind.symm.trans hnone

/-- The values that a unit under auto-apply is judged by. -/
theorem stagedView_auto {s : State} {u : UnitId} (hmem : u ∈ allUnits) (hu : plainUnit u = true) (hauto : autoBit u ≠ none)
    (hidle : s.strobes = []) : stagedView (autoState s u) u = autoView s u := by
  funext a
  rw [stagedView_own (by rw [autoState_strobes hidle]; simp) u a]
  split
  · next hua => exact rdR_autoStaged hua
  · next hua =>
    have hno : a ∉ autoRegs s u := fun ha => hua (unitOf_autoRegs hmem hu hauto ha)
    rw [autoView, if_neg (by simpa using hno)]
    rfl

theorem autoApply_spec {s : State} {u : UnitId} (hmem : u ∈ allUnits) (hu : plainUnit u = true) {f : FRef} (hf : autoBit u = some f)
    (hon : s.on f = true) (htx : s.grn.cfgGroups = 0#32) (hidle : s.strobes = []) (htake : autoRegs s u ≠ [])
    (hok : (setsOf s (autoView s u) u).all (fun c => c.ok || !c.mem.all (fun a => (autoRegs s u).contains a)) = true) :
    (autoApply u s).strobes = [] ∧ (∀ a, unitOf a = some u → (autoApply u s).rd a = autoView s u a) ∧
      ∀ a, unitOf a ≠ some u → a ≠ R.GLB_APPLY_BUSY → (autoApply u s).rd a = s.rd a := by
  have hauto : autoBit u ≠ none := by rw [hf]; simp
  obtain ⟨hstrobes, happlied, -⟩ := unitBoundary_plain_spec (s := autoState s u) hu htx (autoState_strobes hidle u) 1
    fun c => c.mem.all fun a => (autoRegs s u).contains a
  have hnone : failingSets (autoState s u) u (fun c => c.mem.all fun a => (autoRegs s u).contains a) = [] := by
    rw [failingSets, stagedView_auto hmem hu hauto hidle, setsOf_plain _ s _ hu]
    refine List.filter_eq_nil_iff.2 fun c hc => ?_
    have hc := List.all_eq_true.1 hok c hc
    revert hc
    cases c.ok
    · simp
    · simp
  obtain ⟨-, hrd⟩ := happlied hnone
  rw [autoApply_taken hu hf hon htx hidle htake]
  refine ⟨hstrobes, fun a ha => ?_, fun a ha hbusy => (hrd a hbusy).trans (if_neg ha)⟩
  have hbusy : a ≠ R.GLB_APPLY_BUSY := fun e => by rw [e, show unitOf R.GLB_APPLY_BUSY = none from rfl] at ha; cases ha
  rw [hrd a hbusy, if_pos ha]
  exact rdR_autoStaged ha

/-! O10. -/

theorem failingSets_all (s : State) (u : UnitId) :
    failingSets s u (fun _ => true) = (setsOf s (stagedView s u) u).filter fun c => !c.ok := by
  simp [failingSets]

theorem boundary_applies {s : State} {u : UnitId} (hmem : u ∈ allUnits) (hu : plainUnit u = true) (htx : s.grn.cfgGroups = 0#32) {g : Word}
    {i : Nat} (halone : s.strobes = [⟨u, g, i, false, false⟩]) (hok : (setsOf s (stagedView s u) u).all (fun c => c.ok) = true) :
    (applyAtBoundary [u] s).strobes = [] ∧ (applyAtBoundary [u] s).evl = s.evl ∧
      (∀ a, unitOf a = some u → (applyAtBoundary [u] s).rd a = rdR s.stag a) ∧
      ∀ a, unitOf a ≠ some u → a ≠ R.GLB_APPLY_BUSY → (applyAtBoundary [u] s).rd a = s.rd a := by
  obtain ⟨hstrobes, happlied, -⟩ := unitBoundary_plain_spec hu htx halone 0 fun _ => true
  have hnone : failingSets s u (fun _ => true) = [] := by
    rw [failingSets_all]
    exact List.filter_eq_nil_iff.2 fun c hc => by simp [List.all_eq_true.1 hok c hc]
  obtain ⟨hevl, hrd⟩ := happlied hnone
  rw [applyAtBoundary_alone hmem hu htx halone]
  refine ⟨hstrobes, hevl, fun a ha => ?_, fun a ha hbusy => (hrd a hbusy).trans (if_neg ha)⟩
  have hbusy : a ≠ R.GLB_APPLY_BUSY := fun e => by rw [e, show unitOf R.GLB_APPLY_BUSY = none from rfl] at ha; cases ha
  exact (hrd a hbusy).trans (if_pos ha)

theorem boundary_rejects {s : State} {u : UnitId} (hmem : u ∈ allUnits) (hu : plainUnit u = true) (htx : s.grn.cfgGroups = 0#32) {g : Word}
    {i : Nat} (halone : s.strobes = [⟨u, g, i, false, false⟩]) {c : CfgSet} (hc : c ∈ setsOf s (stagedView s u) u) (hbad : c.ok = false) :
    (applyAtBoundary [u] s).strobes = [] ∧ (applyAtBoundary [u] s).on R.GLB_CFGREJ_VALID = true ∧
      (applyAtBoundary [u] s).evl.inFlight.length = s.evl.inFlight.length + (failingSets s u fun _ => true).length ∧
      ∀ a ∈ c.mem, (applyAtBoundary [u] s).rd a = s.rd a := by
  obtain ⟨hstrobes, -, hrejected⟩ := unitBoundary_plain_spec hu htx halone 0 fun _ => true
  rw [applyAtBoundary_alone hmem hu htx halone]
  exact ⟨hstrobes, hrejected c (by rw [failingSets_all]; exact List.mem_filter.2 ⟨hc, by rw [hbad]; rfl⟩)⟩

/-- The one set of the temperature thresholds (R58). -/
theorem setsOf_glbTemp {s : State} (h : ∀ q ∈ s.strobes, q.checked = false) : ∃ c, setsOf s (stagedView s .glbTemp) .glbTemp = [c] ∧
    c.mem = [R.GLB_TEMP_WARN, R.GLB_TEMP_CRIT] ∧ (c.ok = true ↔
      -2560 ≤ toSigned 16 (getF (rdR s.stag R.GLB_TEMP_WARN) R.GLB_TEMP_WARN_LEVEL) ∧
      toSigned 16 (getF (rdR s.stag R.GLB_TEMP_WARN) R.GLB_TEMP_WARN_LEVEL) <
        toSigned 16 (getF (rdR s.stag R.GLB_TEMP_CRIT) R.GLB_TEMP_CRIT_LEVEL) ∧
      toSigned 16 (getF (rdR s.stag R.GLB_TEMP_CRIT) R.GLB_TEMP_CRIT_LEVEL) ≤ 8320) := by
  have hwarn : stagedView s .glbTemp R.GLB_TEMP_WARN = rdR s.stag R.GLB_TEMP_WARN := (stagedView_own h _ _).trans (if_pos rfl)
  have hcrit : stagedView s .glbTemp R.GLB_TEMP_CRIT = rdR s.stag R.GLB_TEMP_CRIT := (stagedView_own h _ _).trans (if_pos rfl)
  refine ⟨_, rfl, rfl, ?_⟩
  rw [← hwarn, ← hcrit, Bool.and_eq_true, Bool.and_eq_true, decide_eq_true_iff, decide_eq_true_iff, decide_eq_true_iff, and_assoc]
  rfl

/-- Settles O10: a strobe by `glbApply_strobes`, the boundaries by `unitBoundary_plain_spec`, auto-apply by `autoApply_spec`. -/
theorem strobeStagesThenBoundaryApplies : Obligations.StrobeStagesThenBoundaryApplies := by
  refine ⟨fun s w hs => does_of_answer hs rfl (glbApply_strobes s w), fun s u g i hs hmem hu htx halone => ⟨fun hok => ?_, fun c hc hbad => ?_⟩,
    fun s u f hs hmem hu hf hon htx hidle htake hok => ?_, fun s g i hs htx halone => ⟨fun hlow hlt hhigh => ?_, fun hbad => ?_⟩,
    fun s hs htx hidle hon hwritten => ?_⟩
  · exact does_of_answer hs rfl (boundary_applies hmem hu htx halone hok)
  · obtain ⟨hstrobes, hvalid, -, hrd⟩ := boundary_rejects hmem hu htx halone hc hbad
    exact does_of_answer hs rfl ⟨hstrobes, hvalid, hrd⟩
  · exact does_of_answer hs rfl (autoApply_spec hmem hu hf hon htx hidle htake hok)
  · obtain ⟨c, hsets, -, hok⟩ := setsOf_glbTemp (s := s) (by rw [halone]; simp)
    obtain ⟨hstrobes, hevl, hrd, -⟩ := boundary_applies (u := .glbTemp) (by simp [allUnits]) rfl htx halone
      (by rw [hsets]; simpa using hok.2 ⟨hlow, hlt, hhigh⟩)
    exact does_of_answer hs rfl ⟨hrd _ rfl, hrd _ rfl, hstrobes, hevl⟩
  · obtain ⟨c, hsets, hmem, hok⟩ := setsOf_glbTemp (s := s) (by rw [halone]; simp)
    have hcbad : c.ok = false := Bool.eq_false_iff.2 fun h => hbad (hok.1 h)
    obtain ⟨hstrobes, hvalid, hevents, hrd⟩ := boundary_rejects (u := .glbTemp) (by simp [allUnits]) rfl htx halone
      (by rw [hsets]; exact List.mem_singleton.2 rfl) hcbad
    rw [failingSets_all, hsets, List.filter_cons_of_pos (by rw [hcbad]; rfl)] at hevents
    rw [hmem] at hrd
    exact does_of_answer hs rfl ⟨hrd _ (by simp), hrd _ (by simp), hstrobes, hvalid, hevents⟩
  · have htake : autoRegs s .spnBus = [R.SPN_BUS_CTRL] := by
      unfold autoRegs setMembers
      rw [hwritten]
      rfl
    obtain ⟨hstrobes, hrd, -⟩ := autoApply_spec (u := .spnBus) (by simp [allUnits]) rfl rfl hon htx hidle (by rw [htake]; simp) rfl
    refine does_of_answer hs rfl ⟨(hrd R.SPN_BUS_CTRL rfl).trans ?_, hstrobes⟩
    rw [autoView, htake]
    rfl

end Sys2Proof.Machine

/-!
PROOF. O48 and O49: the resets of the endpoint's functions (R402 to R415, R428) and what they do to shadows (R53). First what of the host's
side the operations below a function reset leave alone, then what they can only take away, then the resets, then configuration requests.
-/

namespace Sys2Proof.Machine

/-! What of the host's side an operation leaves alone. -/

/-- What no operation below a function reset touches: the shadows, the containment, the reset causes, and the configuration space, but for the
keys that are hidden. -/
structure KeepView where
  rdShadows : List Shadow
  wrShadows : List Shadow
  contain : Word
  cause : Word
  cfg : Nat → Option Word
  subsys : BitVec 32

/-- The key of the PF's Command and Status register, which follows INTx (R410). -/
def commandKey (k : Nat) : Bool := k == 1

/-- That key, and the one of AER's Uncorrectable Error Status. -/
def statusKey (k : Nat) : Bool := k == 1 || k == 65

def keepView (hidden : Nat → Bool) (s : State) : KeepView where
  rdShadows := s.rdShadows
  wrShadows := s.wrShadows
  contain := s.rd R.PCX_CONTAIN
  cause := s.rd R.GLB_RESET_CAUSE
  cfg k := if hidden k then none else smGet s.pcx.cfg k
  subsys := s.sys.subsys

/-- What most of them leave alone beside: the queues, the commands by function and kind, what is fetched and posted, the translations, and the
admin registers ASQ and AQ_CTRL of each function. -/
structure HostView where
  sqs : SMap Sq
  cqs : SMap Cq
  cmds : List (Nat × Option Nat)
  cqes : List Cqe
  fetched : List Nat
  ats : List AtsEntry
  aq : Nat → Word × Word
  keep : KeepView

def hostView (s : State) : HostView where
  sqs := s.hqe.sqs
  cqs := s.hqe.cqs
  cmds := s.hqe.cmds.map fun c => (c.fn, c.window)
  cqes := s.hqe.cqes
  fetched := s.hqe.fetched.map Fetched.fn
  ats := s.pcx.ats
  aq fn := (aqRd s fn 0x200, aqRd s fn 0x214)
  keep := keepView commandKey s

/-- The registers that the view holds. -/
def hostRegs : List Nat := [R.GLB_RESET_CAUSE, 0x10200, 0x10214, R.PCX_CONTAIN]

theorem hostView_of_rd {s t : State} (hrd : ∀ a ∈ hostRegs, t.rd a = s.rd a) (ht : ∃ r, t = { s with regs := r }) : hostView t = hostView s := by
  obtain ⟨r, rfl⟩ := ht
  have hcause := hrd R.GLB_RESET_CAUSE (by decide)
  have hasq := hrd 0x10200 (by decide)
  have hctrl := hrd 0x10214 (by decide)
  have hcontain := hrd R.PCX_CONTAIN (by decide)
  have haq : (fun fn => (aqRd { s with regs := r } fn 0x200, aqRd { s with regs := r } fn 0x214)) =
      fun fn => (aqRd s fn 0x200, aqRd s fn 0x214) := by
    funext fn
    by_cases h : fn = 0
    · simp only [aqRd, if_pos h]
      exact Prod.ext hasq hctrl
    · simp only [aqRd, if_neg h]
      rfl
  have hkeep : keepView commandKey { s with regs := r } = keepView commandKey s := by
    unfold keepView
    rw [hcause, hcontain]
  unfold hostView
  rw [haq, hkeep]

theorem hostView_wr (s : State) {a : Nat} (w : Word) (ha : a ∉ hostRegs) : hostView (s.wr a w) = hostView s :=
  hostView_of_rd (fun _ hb => s.rd_wr_other w fun e => ha (e ▸ hb)) ⟨_, rfl⟩

theorem hostView_u (s : State) (f : FRef) (v : Nat) (hf : f.addr ∉ hostRegs) : hostView (s.u f v) = hostView s := hostView_wr s _ hf

theorem hostView_bump (s : State) {a : Nat} (ha : a ∉ hostRegs) : hostView (s.bump a) = hostView s := hostView_wr s _ ha

theorem not_mem_hostRegs {a : Nat} (h : a ≠ 0x10 ∧ a ≠ 0x10200 ∧ a ≠ 0x10214 ∧ a ≠ 0x20088) : a ∉ hostRegs := by
  obtain ⟨h1, h2, h3, h4⟩ := h
  simp [hostRegs, R.GLB_RESET_CAUSE, R.PCX_CONTAIN, h1, h2, h3, h4]

@[simp] theorem hostView_tick (s : State) : hostView s.tick = hostView s := rfl
@[simp] theorem hostView_emit (s : State) (o : Out) : hostView (s.emit o) = hostView s := rfl
@[simp] theorem hostView_emitTlp (s : State) (o : Out) : hostView (s.emitTlp o) = hostView s := rfl
@[simp] theorem hostView_log (s : State) (c r : Nat) (l : List Nat) (k : Nat) : hostView (s.log c r l k) = hostView s := rfl
@[simp] theorem hostView_onxU (s : State) (f : Onx → Onx) : hostView (s.onxU f) = hostView s := rfl
@[simp] theorem hostView_cglU (s : State) (f : Cgl → Cgl) : hostView (s.cglU f) = hostView s := rfl
@[simp] theorem hostView_tpzU (s : State) (f : Tpz → Tpz) : hostView (s.tpzU f) = hostView s := rfl
@[simp] theorem hostView_grn (s : State) (g : Grn) : hostView { s with grn := g } = hostView s := rfl
@[simp] theorem hostView_buf (s : State) (b : Buf) : hostView { s with buf := b } = hostView s := rfl
@[simp] theorem hostView_tpz (s : State) (z : Tpz) : hostView { s with tpz := z } = hostView s := rfl
@[simp] theorem hostView_cgl (s : State) (c : Cgl) : hostView { s with cgl := c } = hostView s := rfl

/-- Changes of the endpoint beside its translations and configuration space. -/
theorem hostView_pcxU (s : State) {f : Pcx → Pcx} (ha : (f s.pcx).ats = s.pcx.ats) (hc : (f s.pcx).cfg = s.pcx.cfg) :
    hostView (s.pcxU f) = hostView s := by
  unfold hostView keepView State.pcxU
  rw [ha, hc]
  rfl

/-- Changes of the command table that keep each command's function and kind. -/
theorem hostView_hqeU (s : State) {f : Hqe → Hqe} (hs : (f s.hqe).sqs = s.hqe.sqs) (hc : (f s.hqe).cqs = s.hqe.cqs)
    (hm : (f s.hqe).cmds.map (fun c => (c.fn, c.window)) = s.hqe.cmds.map fun c => (c.fn, c.window)) (he : (f s.hqe).cqes = s.hqe.cqes)
    (hf : (f s.hqe).fetched.map Fetched.fn = s.hqe.fetched.map Fetched.fn) : hostView (s.hqeU f) = hostView s := by
  unfold hostView State.hqeU
  rw [hs, hc, hm, he, hf]
  rfl

theorem hostView_us (s : State) (l : List (FRef × Nat)) (hl : ∀ p ∈ l, p.1.addr ∉ hostRegs) : hostView (s.us l) = hostView s :=
  List.foldlRecOn (motive := fun t => hostView t = hostView s) l _ rfl fun t ht p hp => (hostView_u t p.1 p.2 (hl p hp)).trans ht

/-! The pages, the groups, the reels, the stripes and the link to the partner. -/

@[simp] theorem hostView_refreshPool (s : State) : hostView (refreshPool s) = hostView s := hostView_u s _ _ (by decide)
@[simp] theorem hostView_freePages (s : State) (bs : List Nat) : hostView (freePages s bs) = hostView s := hostView_refreshPool _
@[simp] theorem hostView_pagesU (s : State) (c : Nat → Page → Bool) (f : Page → Page) : hostView (pagesU s c f) = hostView s := rfl
@[simp] theorem hostView_grpU (s : State) (id : Nat) (f : Grp → Grp) : hostView (grpU s id f) = hostView s := rfl
@[simp] theorem hostView_refreshGroups (s : State) : hostView (refreshGroups s) = hostView s := hostView_u s _ _ (by decide)
@[simp] theorem hostView_grpDrop (s : State) (id : Nat) : hostView (grpDrop s id) = hostView s := hostView_refreshGroups _
@[simp] theorem hostView_reelU (s : State) (serial : Nat) (f : Reel → Reel) : hostView (reelU s serial f) = hostView s := rfl
@[simp] theorem hostView_hashCluster (s : State) (c : Clu) : hostView (hashCluster s c) = hostView s := rfl
@[simp] theorem hostView_streamU (s : State) (vol reel : Nat) (f : Stripe → Stripe) : hostView (streamU s vol reel f) = hostView s := rfl
@[simp] theorem hostView_refreshSync (s : State) : hostView (refreshSync s) = hostView s := hostView_u s _ _ (by decide)

@[simp] theorem hostView_queueFlits (s : State) (l : List FlitBody) : hostView (queueFlits s l) = hostView s := by
  unfold queueFlits
  split
  · rfl
  · rfl

@[simp] theorem hostView_pumpFlits (s : State) (l : List FlitBody) : hostView (pumpFlits s l).1 = hostView s := by
  induction l generalizing s with
  | nil => rfl
  | cons b t ih =>
    rw [pumpFlits]
    split
    · exact ih _
    · rfl

@[simp] theorem hostView_pumpCgl (s : State) : hostView (pumpCgl s) = hostView s := by
  unfold pumpCgl
  dsimp only
  split
  · simp
  · simp

@[simp] theorem hostView_sendFlits (s : State) (l : List FlitBody) : hostView (sendFlits s l) = hostView s := by
  unfold sendFlits
  split
  · simp
  · rfl

@[simp] theorem hostView_mirrorEnd (s : State) (c : Cmd) : hostView (mirrorEnd s c) = hostView s := by
  unfold mirrorEnd
  split
  · simp
  · rfl

@[simp] theorem hostView_closeOpen (s : State) (vol reel : Nat) (how : Stripe → Stripe) : hostView (closeOpen s vol reel how) = hostView s := by
  unfold closeOpen
  dsimp only
  split
  · split
    · simp
    · simp
  · simp

@[simp] theorem hostView_closeStream (s : State) (vol reel : Nat) : hostView (closeStream s vol reel) = hostView s := hostView_closeOpen ..

@[simp] theorem hostView_joinBlock (s : State) (bpn : Nat) (p : Page) : hostView (joinBlock s bpn p) = hostView s := by
  unfold joinBlock
  extract_lets closed opened paged joined full
  have hclosed : hostView closed = hostView s := by
    unfold closed
    split
    · split
      · split
        · rfl
        · simp
      · rfl
    · rfl
  have hopened : hostView opened = hostView closed := by
    unfold opened
    split
    · rfl
    · split
      · rfl
      · rfl
  refine Eq.trans ?_ (hopened.trans hclosed)
  split
  · rfl
  · split
    · exact hostView_closeOpen joined _ _ _
    · rfl

@[simp] theorem hostView_closeBlocks (s : State) (vol reel : Nat) (blocks : List (Nat × Nat)) :
    hostView (closeBlocks s vol reel blocks) = hostView s := by
  unfold closeBlocks
  rw [hostView_closeOpen]
  refine State.each_proj hostView _ (fun s q => ?_) _ s
  split
  · simp
  · rfl

@[simp] theorem hostView_closeWaits (s : State) (vol reel : Nat) : hostView (closeWaits s vol reel) = hostView s := by
  refine State.each_proj hostView _ (fun s c => ?_) _ s
  dsimp only
  split
  · simp
  · rfl

@[simp] theorem hostView_blockJoinCluster (s : State) (vol reel : Nat) : hostView (blockJoinCluster vol reel s) = hostView s := by
  unfold blockJoinCluster
  dsimp only
  split
  · simp
  · split
    · simp
    · simp

@[simp] theorem hostView_joinAll (s : State) (vol reel k : Nat) : hostView (joinAll s vol reel k) = hostView s := by
  induction k generalizing s with
  | zero => rfl
  | succ k ih =>
    rw [joinAll]
    split
    · rfl
    · rw [ih, hostView_blockJoinCluster]

/-! Onyx, the journal and the map. -/

@[simp] theorem hostView_copyLine (s : State) (l : Nat) : hostView (copyLine s l) = hostView s := rfl
@[simp] theorem hostView_noteUse (s : State) (set way : Nat) : hostView (noteUse s set way) = hostView s := rfl
@[simp] theorem hostView_refreshOnx (s : State) : hostView (refreshOnx s) = hostView s := hostView_us s _ (by simp; decide)
@[simp] theorem hostView_refreshJournal (s : State) : hostView (refreshJournal s) = hostView s := hostView_us s _ (by simp; decide)

@[simp] theorem hostView_refreshMap (s : State) : hostView (refreshMap s) = hostView s := by
  have hus (m n : Nat) : hostView (s.us [(R.GRN_MAP_FREE_COUNT, m), (R.GRN_STATUS_MAP_LOW, n)]) = hostView s :=
    hostView_us s _ (by simp; decide)
  unfold refreshMap
  extract_lets free low t
  have ht : hostView t = hostView s := hus _ _
  split
  · exact (hostView_log t _ _ _ _).trans ht
  · exact ht

@[simp] theorem hostView_writeBack (s : State) (l : Nat) : hostView (writeBack s l) = hostView s := by
  rw [writeBack, hostView_refreshJournal, hostView_refreshOnx]
  exact hostView_bump _ (by decide)

@[simp] theorem hostView_whenB_writeBack (s : State) (d : Bool) (l : Nat) :
    hostView (s.whenB d (fun s => writeBack s l)) = hostView s := by
  cases d
  · rfl
  · exact hostView_writeBack s l

@[simp] theorem hostView_trimVictims (s : State) : hostView (trimVictims s) = hostView s := by
  unfold trimVictims
  split
  · rfl
  · split
    · rfl
    · simp

@[simp] theorem hostView_evict (s : State) (set way : Nat) : hostView (evict s set way) = hostView s := by
  unfold evict
  split
  · rfl
  · dsimp only
    split
    · simp
    · simp

@[simp] theorem hostView_installAt (s : State) (l way : Nat) (d : Bool) : hostView (installAt s l way d) = hostView s := by
  simp [installAt]

@[simp] theorem hostView_touch (s : State) (l : Nat) (d : Bool) : hostView (touch s l d).2 = hostView s := by
  unfold touch
  split
  · simp (disch := decide) [hostView_bump]
  · split
    · simp (disch := decide) [hostView_bump]
    · dsimp only
      split
      · simp
      · split
        · simp
        · simp (disch := decide) [hostView_bump]

@[simp] theorem hostView_journalRoom (s : State) : hostView (journalRoom s) = hostView s := by
  unfold journalRoom
  split
  · rfl
  · split
    · rfl
    · simp

@[simp] theorem hostView_mapFlit (s : State) (i : Nat) : hostView (mapFlit s i) = hostView s := by
  unfold mapFlit
  split
  · simp
  · rfl

@[simp] theorem hostView_changed (s : State) (i : Nat) : hostView (changed s i) = hostView s := by
  rw [changed, hostView_refreshMap, hostView_refreshJournal, hostView_bump _ (by decide), hostView_touch]
  exact (hostView_mapFlit _ i).trans (hostView_journalRoom s)

@[simp] theorem hostView_addEntry (s : State) (e : Entry) : hostView (addEntry s e) = hostView s := by
  unfold addEntry
  split
  · rfl
  · exact hostView_changed _ _

@[simp] theorem hostView_dropEntry (s : State) (i : Nat) : hostView (dropEntry s i) = hostView s := by
  unfold dropEntry
  dsimp only
  split
  · exact hostView_changed _ i
  · rw [hostView_addEntry]
    exact hostView_changed _ i

/-! Windows, reads on their way, and what is sent to the host. -/

@[simp] theorem hostView_orphan (s : State) (c : DmaRead → Bool) : hostView (orphan s c) = hostView s := hostView_pcxU s rfl rfl
@[simp] theorem hostView_dropReq (s : State) (tag : Nat) : hostView (dropReq s tag) = hostView s := hostView_pcxU s rfl rfl
@[simp] theorem hostView_dropPosted (s : State) : hostView (dropPosted s) = hostView s := hostView_pcxU s rfl rfl
@[simp] theorem hostView_refreshQueues (s : State) : hostView (refreshQueues s) = hostView s := hostView_u s _ _ (by decide)
@[simp] theorem hostView_refreshTags (s : State) : hostView (refreshTags s) = hostView s := hostView_u s _ _ (by decide)

@[simp] theorem hostView_unbindWin (s : State) (w : Nat) : hostView (unbindWin s w) = hostView s := by
  have hregs : ∀ p ∈ [(R.PCX_WIN_STATUS_BOUND (w % 256), 0), (R.PCX_WIN_REEL_REEL (w % 256), 0)], p.1.addr ∉ hostRegs := by
    intro p hp
    simp only [List.mem_cons, List.not_mem_nil, or_false] at hp
    rcases hp with rfl | rfl
    · exact not_mem_hostRegs (by simp only [R.PCX_WIN_STATUS_BOUND, R.PCX_WIN_STATUS]; omega)
    · exact not_mem_hostRegs (by simp only [R.PCX_WIN_REEL_REEL, R.PCX_WIN_REEL]; omega)
  exact (hostView_pcxU _ rfl rfl).trans ((hostView_us _ _ hregs).trans (hostView_freePages s _))

@[simp] theorem hostView_stopReel (s : State) (r : Reel) : hostView (stopReel s r) = hostView s := by
  unfold stopReel
  dsimp only
  rw [hostView_reelU]
  split
  · simp
  · rfl

/-- A change of one command that keeps its function and its kind. -/
theorem hostView_cmdU (s : State) (tag : Nat) {f : Cmd → Cmd} (hf : ∀ c, (f c).fn = c.fn ∧ (f c).window = c.window) :
    hostView (cmdU s tag f) = hostView s := by
  refine hostView_hqeU s (f := fun h => { h with cmds := h.cmds.map fun c => if c.tag = tag then f c else c }) rfl rfl ?_ rfl rfl
  rw [List.map_map]
  refine List.map_congr_left fun c _ => ?_
  simp only [Function.comp]
  split
  · rw [(hf c).1, (hf c).2]
  · rfl

@[simp] theorem hostView_settleFlushes (s : State) : hostView (settleFlushes s) = hostView s := by
  unfold settleFlushes
  refine State.each_proj hostView _ (fun s (c : Cmd) => ?_) _ s
  exact hostView_cmdU s c.tag fun _ => ⟨rfl, rfl⟩

@[simp] theorem hostView_fetchedU (s : State) (id : Nat) : hostView (fetchedU s id fun f => { f with failed := true }) = hostView s := by
  refine hostView_hqeU s rfl rfl rfl rfl ?_
  dsimp only
  rw [List.map_map]
  refine List.map_congr_left fun x _ => ?_
  simp only [Function.comp]
  split
  · rfl
  · rfl

@[simp] theorem hostView_askTrans (s : State) (fn page : Nat) : hostView (askTrans s fn page) = hostView s := by
  unfold askTrans
  split
  · rfl
  · split
    · rfl
    · exact hostView_pcxU _ rfl rfl

theorem hostView_pumpReads (s : State) (l : List DmaRead) : hostView (pumpReads s l) = hostView s := by
  induction l generalizing s with
  | nil => rfl
  | cons r t ih =>
    have hkeep (s : State) : hostView (s.pcxU fun p => { p with wait := p.wait ++ [r] }) = hostView s := hostView_pcxU s rfl rfl
    unfold pumpReads
    dsimp only
    split
    · rw [ih, hkeep]
    · split
      · rw [ih, hkeep]
      · split
        · rw [ih, hkeep, hostView_askTrans]
        · rw [ih]
          exact hostView_pcxU _ rfl rfl

/-- A VF's register that the view does not hold. -/
theorem hostView_vfWr (s : State) (v : Nat) {off : Nat} (w : Word) (ho : off % 65536 = off ∧ off ≠ 0x200 ∧ off ≠ 0x214) :
    hostView (vfWr s v off w) = hostView s := by
  obtain ⟨hlow, hasq, hctrl⟩ := ho
  have hrd (fn o : Nat) (hoff : o % 65536 = o ∧ o ≠ off) : aqRd (vfWr s v off w) fn o = aqRd s fn o := by
    unfold aqRd
    split
    · rfl
    · have hkey : smGet (vfWr s v off w).vf (65536 * fn + o) = smGet s.vf (65536 * fn + o) := smSet_other _ _ _ (by omega)
      rw [vfRd, vfRd, hkey]
  have haq : (fun fn => (aqRd (vfWr s v off w) fn 0x200, aqRd (vfWr s v off w) fn 0x214)) = fun fn => (aqRd s fn 0x200, aqRd s fn 0x214) := by
    funext fn
    rw [hrd fn 0x200 ⟨by decide, hasq.symm⟩, hrd fn 0x214 ⟨by decide, hctrl.symm⟩]
  unfold hostView
  rw [haq]
  rfl

@[simp] theorem hostView_pbaWr (s : State) (fn v : Nat) (w : Word) : hostView (pbaWr s fn v w) = hostView s := by
  unfold pbaWr
  split
  · exact hostView_wr s w (not_mem_hostRegs (by omega))
  · exact hostView_vfWr s fn w (by decide)

@[simp] theorem hostView_sendMsix (s : State) (fn v : Nat) : hostView (sendMsix s fn v) = hostView s := by
  unfold sendMsix
  split
  · rfl
  · split
    · simp
    · rfl

theorem hostView_pumpTx (s : State) (l : List Tx) : hostView (pumpTx s l) = hostView s := by
  induction l generalizing s with
  | nil => rfl
  | cons x t ih =>
    unfold pumpTx
    split
    · exact (hostView_pcxU _ rfl rfl).trans (ih s)
    · split
      · split
        · exact (hostView_pcxU _ rfl rfl).trans (hostView_askTrans s _ _)
        · exact ih _
      · rw [ih, hostView_sendMsix]
      · exact ih _

@[simp] theorem hostView_pump (s : State) : hostView (pump s) = hostView s := by
  unfold pump
  split
  · rfl
  · dsimp only
    rw [hostView_pumpReads, hostView_pcxU _ rfl rfl, hostView_pumpTx, hostView_pcxU _ rfl rfl]

theorem keepView_cfgPut {hidden : Nat → Bool} (s : State) {fn off : Nat} (w : Word) (h : hidden (1024 * fn + off / 4) = true) :
    keepView hidden (cfgPut s fn off w) = keepView hidden s := by
  have hcfg : (fun k => if hidden k then none else smGet (cfgPut s fn off w).pcx.cfg k) =
      fun k => if hidden k then none else smGet s.pcx.cfg k := by
    funext k
    split
    · rfl
    · next hk => exact smSet_other _ _ _ fun e => hk (e ▸ h)
  unfold keepView
  rw [hcfg]
  rfl

/-- A write of the PF's Command and Status register. -/
theorem hostView_cfgPut (s : State) (w : Word) : hostView (cfgPut s 0 0x04 w) = hostView s := by
  have hkeep : keepView commandKey (cfgPut s 0 0x04 w) = keepView commandKey s := keepView_cfgPut s w rfl
  unfold hostView
  rw [hkeep]
  rfl

@[simp] theorem hostView_refreshIntx (s : State) : hostView (refreshIntx s) = hostView s := by
  have hus (m n : Nat) : hostView (s.us [(R.PCX_INTX_PENDING, m), (R.PCX_INTX_WIRE, n)]) = hostView s :=
    hostView_us s _ (by simp; decide)
  unfold refreshIntx
  dsimp only
  split
  · rw [hostView_cfgPut, hus]
  · rw [hostView_pump, hostView_pcxU _ rfl rfl, hostView_cfgPut, hus]

@[simp] theorem hostView_raiseMsix (s : State) (fn v : Nat) : hostView (raiseMsix s fn v) = hostView s :=
  (hostView_pump _).trans (hostView_pcxU s rfl rfl)

@[simp] theorem hostView_sendPending (s : State) (fn v : Nat) : hostView (sendPending s fn v) = hostView s := by
  unfold sendPending
  split
  · simp
  · rfl

/-! What the operations below a function reset can only take away. -/

/-- Nothing of the function is left in block HQE: no queue, no command but a window's, no completion and no fetch. -/
def HqeGone (t : State) (fn : Nat) : Prop :=
  (∀ q ∈ t.hqe.sqs, q.1 / 8192 ≠ fn) ∧ (∀ q ∈ t.hqe.cqs, q.1 / 8192 ≠ fn) ∧
    (∀ c ∈ t.hqe.cmds, c.fn = fn → c.window ≠ none) ∧ (∀ e ∈ t.hqe.cqes, e.fn ≠ fn) ∧ ∀ f ∈ t.hqe.fetched, f.fn ≠ fn

/-- Nothing of the function is left (R402): nor a translation, and its admin registers ASQ and AQ_CTRL are at reset. -/
def Gone (t : State) (fn : Nat) : Prop :=
  (∀ q ∈ t.hqe.sqs, q.1 / 8192 ≠ fn) ∧ (∀ q ∈ t.hqe.cqs, q.1 / 8192 ≠ fn) ∧
    (∀ c ∈ t.hqe.cmds, c.fn = fn → c.window ≠ none) ∧ (∀ e ∈ t.hqe.cqes, e.fn ≠ fn) ∧ (∀ f ∈ t.hqe.fetched, f.fn ≠ fn) ∧
    (∀ e ∈ t.pcx.ats, e.fn ≠ fn) ∧ aqRd t fn 0x214 = 0#32 ∧ aqRd t fn 0x200 = 0#32

theorem gone_iff {t : State} {fn : Nat} :
    Gone t fn ↔ HqeGone t fn ∧ (∀ e ∈ t.pcx.ats, e.fn ≠ fn) ∧ aqRd t fn 0x214 = 0#32 ∧ aqRd t fn 0x200 = 0#32 := by
  simp only [Gone, HqeGone, and_assoc]

theorem hqeGone_of_hostView {s t : State} (h : hostView t = hostView s) {fn : Nat} (hs : HqeGone s fn) : HqeGone t fn := by
  obtain ⟨hsq, hcq, hcmd, hcqe, hfetch⟩ := hs
  have hsqs : t.hqe.sqs = s.hqe.sqs := congrArg HostView.sqs h
  have hcqs : t.hqe.cqs = s.hqe.cqs := congrArg HostView.cqs h
  have hcmds : t.hqe.cmds.map (fun c => (c.fn, c.window)) = s.hqe.cmds.map fun c => (c.fn, c.window) := congrArg HostView.cmds h
  have hcqes : t.hqe.cqes = s.hqe.cqes := congrArg HostView.cqes h
  have hfetched : t.hqe.fetched.map Fetched.fn = s.hqe.fetched.map Fetched.fn := congrArg HostView.fetched h
  refine ⟨hsqs ▸ hsq, hcqs ▸ hcq, fun c hc hfn hw => ?_, hcqes ▸ hcqe, fun f hf hfn => ?_⟩
  · have hmem : (c.fn, c.window) ∈ s.hqe.cmds.map fun c => (c.fn, c.window) := hcmds ▸ List.mem_map_of_mem hc
    obtain ⟨d, hd, he⟩ := List.mem_map.1 hmem
    exact hcmd d hd ((congrArg Prod.fst he).trans hfn) ((congrArg Prod.snd he).trans hw)
  · have hmem : f.fn ∈ s.hqe.fetched.map Fetched.fn := hfetched ▸ List.mem_map_of_mem hf
    obtain ⟨d, hd, he⟩ := List.mem_map.1 hmem
    exact hfetch d hd (he.trans hfn)

theorem gone_of_hostView {s t : State} (h : hostView t = hostView s) {fn : Nat} (hs : Gone s fn) : Gone t fn := by
  obtain ⟨hhqe, hats, hctrl, hasq⟩ := gone_iff.1 hs
  have hatss : t.pcx.ats = s.pcx.ats := congrArg HostView.ats h
  have haq : (aqRd t fn 0x200, aqRd t fn 0x214) = (aqRd s fn 0x200, aqRd s fn 0x214) := congrFun (congrArg HostView.aq h) fn
  exact gone_iff.2 ⟨hqeGone_of_hostView h hhqe, hatss ▸ hats, (congrArg Prod.snd haq).trans hctrl, (congrArg Prod.fst haq).trans hasq⟩

/-- What is gone stays gone, and nothing of the rest changes but status. -/
structure Dwindles (s t : State) : Prop where
  gone : ∀ fn, Gone s fn → Gone t fn
  keep : keepView statusKey t = keepView statusKey s

theorem Dwindles.refl (s : State) : Dwindles s s := ⟨fun _ h => h, rfl⟩

theorem Dwindles.trans {s t u : State} (h : Dwindles s t) (h' : Dwindles t u) : Dwindles s u :=
  ⟨fun fn hs => h'.gone fn (h.gone fn hs), h'.keep.trans h.keep⟩

theorem Dwindles.each {α : Type} {k : State → α → State} (h : ∀ s x, Dwindles s (k s x)) (l : List α) : ∀ s : State, Dwindles s (s.each l k) := by
  induction l with
  | nil => exact Dwindles.refl
  | cons x l ih => exact fun s => (h s x).trans (ih (k s x))

theorem keepView_statusKey {s t : State} (h : keepView commandKey t = keepView commandKey s) : keepView statusKey t = keepView statusKey s := by
  have hcfg : (keepView statusKey t).cfg = (keepView statusKey s).cfg := by
    funext k
    have hk := congrFun (congrArg KeepView.cfg h) k
    change (if statusKey k then none else smGet t.pcx.cfg k) = if statusKey k then none else smGet s.pcx.cfg k
    split
    · rfl
    · next hs =>
      have hc : ¬ commandKey k = true := fun e => hs (by rw [statusKey, ← commandKey, e, Bool.true_or])
      exact (if_neg hc).symm.trans (hk.trans (if_neg hc))
  have hrd : t.rdShadows = s.rdShadows := congrArg KeepView.rdShadows h
  have hwr : t.wrShadows = s.wrShadows := congrArg KeepView.wrShadows h
  have hcontain : t.rd R.PCX_CONTAIN = s.rd R.PCX_CONTAIN := congrArg KeepView.contain h
  have hcause : t.rd R.GLB_RESET_CAUSE = s.rd R.GLB_RESET_CAUSE := congrArg KeepView.cause h
  have hsub : t.sys.subsys = s.sys.subsys := congrArg KeepView.subsys h
  change KeepView.mk _ _ _ _ (keepView statusKey t).cfg _ = KeepView.mk _ _ _ _ (keepView statusKey s).cfg _
  rw [hcfg, hrd, hwr, hcontain, hcause, hsub]

theorem dwindles_of_hostView {s t : State} (h : hostView t = hostView s) : Dwindles s t :=
  ⟨fun _ hs => gone_of_hostView h hs, keepView_statusKey (congrArg HostView.keep h)⟩

/-! Commands that end, and admin pairs that start. -/

/-- A command that completes leaves one completion of its own function at most. -/
theorem dwindles_complete (s : State) (tag status result : Nat) (d : Bool) : Dwindles s (complete s tag status result d) := by
  unfold complete
  split
  · exact Dwindles.refl s
  · next c hc =>
    have hmem : c ∈ s.hqe.cmds := List.mem_of_find?_eq_some hc
    split
    · exact Dwindles.refl s
    · split
      · refine ⟨fun fn hs => ?_, rfl⟩
        obtain ⟨hsq, hcq, hcmd, hrest⟩ := hs
        exact ⟨hsq, hcq, fun x hx => hcmd x (List.mem_filter.1 hx).1, hrest⟩
      · next hwin =>
        have hbusy := hostView_cmdU s tag (f := fun c => { c with st := .completing, abortBy := none }) fun _ => ⟨rfl, rfl⟩
        refine ⟨fun fn hs => ?_, (dwindles_of_hostView hbusy).keep⟩
        obtain ⟨-, -, hopen, -⟩ := id hs
        have hfn : c.fn ≠ fn := fun e => hopen c hmem e (by simpa using hwin)
        obtain ⟨hsq, hcq, hcmd, hcqe, hrest⟩ := gone_of_hostView hbusy hs
        refine ⟨hsq, hcq, hcmd, fun e he => ?_, hrest⟩
        rcases List.mem_append.1 he with he | he
        · exact hcqe e he
        · rw [List.mem_singleton.1 he]
          exact hfn

theorem aqRd_aqWr_self (s : State) (fn : Nat) {o : Nat} (w : Word) : aqRd (aqWr s fn o w) fn o = w := by
  unfold aqRd aqWr
  split
  · exact s.rd_wr_self _ _
  · exact smSet_self _ _ _ _

theorem aqRd_aqWr_other (s : State) {fn gn o p : Nat} (w : Word) (ho : o < 65536 ∧ p < 65536) (h : fn ≠ gn ∨ o ≠ p) :
    aqRd (aqWr s fn o w) gn p = aqRd s gn p := by
  unfold aqRd aqWr
  by_cases hf : fn = 0
  · rw [if_pos hf]
    split
    · exact s.rd_wr_other _ (by omega)
    · rfl
  · rw [if_neg hf]
    split
    · rfl
    · have hkey : smGet (vfWr s fn o w).vf (65536 * gn + p) = smGet s.vf (65536 * gn + p) := smSet_other _ _ _ (by omega)
      rw [vfRd, vfRd, hkey]

/-- The admin registers hold nothing that is kept. -/
theorem keepView_aqWr (s : State) (fn : Nat) {o : Nat} (w : Word) (ho : 0x200 ≤ o ∧ o < 0x300) :
    keepView statusKey (aqWr s fn o w) = keepView statusKey s := by
  unfold aqWr
  split
  · have hrd (a : Nat) (ha : a < 0x10200 ∨ 0x10300 ≤ a) : (s.wr (0x10000 + o) w).rd a = s.rd a := s.rd_wr_other w (by omega)
    unfold keepView
    rw [hrd R.PCX_CONTAIN (by decide), hrd R.GLB_RESET_CAUSE (by decide)]
    rfl
  · rfl

theorem mem_smPut {α : Type} {m : SMap α} {k : Nat} {v : α} {p : Nat × α} (h : p ∈ smPut m k v) : p = (k, v) ∨ p ∈ m :=
  (mem_smInsert h).imp_right fun hm => (mem_smErase_iff.1 hm).1

theorem aqWr_hqe (s : State) (fn o : Nat) (w : Word) : (aqWr s fn o w).hqe = s.hqe := by
  unfold aqWr
  split <;> rfl

theorem aqWr_pcx (s : State) (fn o : Nat) (w : Word) : (aqWr s fn o w).pcx = s.pcx := by
  unfold aqWr
  split <;> rfl

/-- Another function's admin registers, and a register that is cleared. -/
theorem gone_aqWr {s : State} {gn : Nat} (hs : Gone s gn) {fn o : Nat} {w : Word} (ho : o < 65536) (h : fn ≠ gn ∨ w = 0#32) :
    Gone (aqWr s fn o w) gn := by
  have hrd (p : Nat) (hp : p < 65536) (hz : aqRd s gn p = 0#32) : aqRd (aqWr s fn o w) gn p = 0#32 := by
    by_cases he : fn = gn ∧ o = p
    · obtain ⟨rfl, rfl⟩ := he
      rw [aqRd_aqWr_self]
      exact h.resolve_left fun e => e rfl
    · rw [aqRd_aqWr_other s w ⟨ho, hp⟩ (by rwa [not_and_or] at he), hz]
  obtain ⟨hsq, hcq, hcmd, hcqe, hfetch, hats, hctrl, hasq⟩ := hs
  unfold Gone
  rw [aqWr_hqe, aqWr_pcx]
  exact ⟨hsq, hcq, hcmd, hcqe, hfetch, hats, hrd _ (by decide) hctrl, hrd _ (by decide) hasq⟩

/-- Another function's pair of queues. -/
theorem gone_pairPut {s : State} {gn : Nat} (hs : Gone s gn) {fn : Nat} (h : fn ≠ gn) (sq : Sq) (cq : Cq) :
    Gone (cqPut (sqPut s fn 0 sq) fn 0 cq) gn := by
  obtain ⟨hsq, hcq, hrest⟩ := hs
  have hkey : qKey fn 0 / 8192 ≠ gn := by unfold qKey; omega
  refine ⟨fun q hq => ?_, fun q hq => ?_, hrest⟩
  · rcases mem_smPut hq with rfl | hq
    · exact hkey
    · exact hsq q hq
  · rcases mem_smPut hq with rfl | hq
    · exact hkey
    · exact hcq q hq

/-- An admin pair starts for a function whose AQ_CTRL asks for it alone (R369). -/
theorem dwindles_adminStart (s : State) (fn : Nat) : Dwindles s (adminStart s fn) := by
  unfold adminStart
  dsimp only
  split
  · next hgo =>
    refine Dwindles.trans (t := cqPut (sqPut (aqWr s fn 0x214 3#32) fn 0 _) fn 0 _)
      ⟨fun gn hs => ?_, keepView_aqWr s fn 3#32 (by decide)⟩ (dwindles_of_hostView (hostView_refreshQueues _))
    have hne : fn ≠ gn := fun e => by
      obtain ⟨-, -, -, -, -, -, hctrl, -⟩ := hs
      rw [e, hctrl] at hgo
      exact absurd hgo.1 (by decide)
    exact gone_pairPut (gone_aqWr hs (by decide) (.inl hne)) hne _ _
  · exact Dwindles.refl s

theorem dwindles_pairFreed (s : State) : Dwindles s (pairFreed s) := Dwindles.each dwindles_adminStart _ s

/-! Groups that roll back, reels that close, writes that end. -/

theorem dwindles_rollback (s : State) (id : Nat) : Dwindles s (rollback s id) := by
  unfold rollback
  split
  · exact Dwindles.refl s
  · next g hg =>
    split
    · exact Dwindles.refl s
    · extract_lets counted freed gone oldTpz unrelocated dropped oldGrn unlisted oldHqe dead
      have hcounted : hostView counted = hostView s := hostView_bump _ (by decide)
      have hfreed : hostView freed = hostView counted := hostView_freePages _ _
      have hdropped : hostView dropped = hostView unrelocated :=
        State.each_proj hostView (fun s (p : Nat × LogicalE) => dropEntry s p.1) (fun s p => hostView_dropEntry s p.1) gone unrelocated
      have hdead : hostView dead = hostView unlisted := by
        refine hostView_hqeU unlisted (f := fun h => { h with cmds := h.cmds.map fun c =>
          if c.sqe.op = oWRITE ∧ c.sqe.group = id then { c with dead := true, bpns := [] } else c }) rfl rfl ?_ rfl rfl
        rw [List.map_map]
        refine List.map_congr_left fun c _ => ?_
        simp only [Function.comp]
        split
        · rfl
        · rfl
      have hall : hostView (refreshGroups dead) = hostView s :=
        (hostView_refreshGroups dead).trans (hdead.trans (hdropped.trans (hfreed.trans hcounted)))
      split
      · exact (dwindles_of_hostView hall).trans
          ((dwindles_complete _ _ _ _ _).trans (dwindles_of_hostView (hostView_grpDrop _ _)))
      · exact dwindles_of_hostView hall

theorem dwindles_rollbackBoth (s : State) (id : Nat) : Dwindles s (rollbackBoth s id) := by
  unfold rollbackBoth
  split
  · split
    · exact (dwindles_rollback s id).trans (dwindles_of_hostView (hostView_sendFlits _ _))
    · exact Dwindles.refl s
  · exact Dwindles.refl s

theorem dwindles_resetGroups (s : State) (fn : Nat) : Dwindles s (resetGroups s fn) := by
  refine Dwindles.each (fun s g => ?_) _ s
  have hdrop (t : State) : Dwindles t (grpDrop t g.id) := dwindles_of_hostView (hostView_grpDrop t g.id)
  dsimp only
  split
  · exact (dwindles_rollbackBoth s g.id).trans (hdrop _)
  · exact hdrop s
  · have huntag : Dwindles s (grpU s g.id fun x => { x with closeTag := none }) := dwindles_of_hostView (hostView_grpU s _ _)
    split
    · exact huntag.trans ((dwindles_rollbackBoth _ g.id).trans (hdrop _))
    · exact huntag
  · exact Dwindles.refl s

theorem dwindles_closeReel (s : State) (serial : Nat) : Dwindles s (closeReel s serial) := by
  unfold closeReel
  split
  · exact Dwindles.refl s
  · split
    · exact Dwindles.refl s
    · extract_lets joined closed tc own copy n sent
      have hjoined : hostView joined = hostView s := hostView_joinAll _ _ _ _
      have hclosed : hostView closed = hostView joined := hostView_closeStream _ _ _
      have hown : hostView own = hostView closed := by
        unfold own
        split
        · rfl
        · rfl
      have hcopy : hostView copy = hostView own := by
        unfold copy
        split
        · rfl
        · rfl
      have hsent : hostView sent = hostView copy := by
        unfold sent
        split
        · simp
        · rfl
      have hall : hostView sent = hostView s := hsent.trans (hcopy.trans (hown.trans (hclosed.trans hjoined)))
      split
      · exact dwindles_of_hostView hjoined
      · split
        · exact (dwindles_of_hostView hall).trans (dwindles_complete _ _ _ _ _)
        · exact dwindles_of_hostView hall

theorem dwindles_endWrite (s : State) (c : Cmd) (status : Nat) : Dwindles s (endWrite s c status) := by
  unfold endWrite
  extract_lets orphaned freed dead settled
  have horphaned : hostView orphaned = hostView s := hostView_orphan _ _
  have hfreed : hostView freed = hostView orphaned := (hostView_freePages _ _).trans (hostView_mirrorEnd _ _)
  have hdead : hostView dead = hostView freed := hostView_cmdU _ _ fun _ => ⟨rfl, rfl⟩
  have hsettled : Dwindles s settled := (dwindles_of_hostView (hdead.trans (hfreed.trans horphaned))).trans
    ((dwindles_complete _ _ _ _ _).trans (dwindles_of_hostView (hostView_settleFlushes _)))
  split
  · exact hsettled
  · exact hsettled.trans (dwindles_rollbackBoth _ _)

theorem dwindles_readFails (s : State) (r : DmaRead) : Dwindles s (readFails s r) := by
  unfold readFails
  split
  · exact dwindles_of_hostView (hostView_pcxU s rfl rfl)
  · exact dwindles_of_hostView (hostView_fetchedU s _)
  · split
    · split
      · exact Dwindles.refl s
      · exact dwindles_endWrite _ _ _
    · exact Dwindles.refl s
  · exact dwindles_of_hostView (hostView_pcxU s rfl rfl)
  · exact Dwindles.refl s

theorem dwindles_aer (s : State) (bit : Nat) : Dwindles s (aer s bit) :=
  ⟨fun _ hs => hs, keepView_cfgPut s _ rfl⟩

theorem dwindles_timeOut (s : State) (r : NpReq) : Dwindles s (timeOut s r) := by
  unfold timeOut
  extract_lets quarantined
  have hq : hostView quarantined = hostView s := (hostView_pcxU _ rfl rfl).trans (hostView_dropReq s _)
  exact (dwindles_of_hostView hq).trans ((dwindles_aer _ _).trans
    ((dwindles_of_hostView (hostView_bump _ (by decide))).trans (dwindles_readFails _ _)))

/-! A function reset (R402). -/

/-- What the reset of a function leaves: nothing of it, nor a shadow of its own, and of the rest what it does not touch. -/
structure FnCleared (s t : State) (fn : Nat) : Prop where
  own : Gone t fn
  gone : ∀ gn, Gone s gn → Gone t gn
  shadows : ∀ x ∈ t.rdShadows ++ t.wrShadows, x.req ≠ if fn = 0 then .pf else .vf fn
  keep : keepView statusKey t = { keepView statusKey s with rdShadows := t.rdShadows, wrShadows := t.wrShadows }

theorem FnCleared.dwindles {s t u : State} {fn : Nat} (h : FnCleared s t fn) (h' : Dwindles t u) : FnCleared s u fn := by
  have hrd : u.rdShadows = t.rdShadows := congrArg KeepView.rdShadows h'.keep
  have hwr : u.wrShadows = t.wrShadows := congrArg KeepView.wrShadows h'.keep
  refine ⟨h'.gone fn h.own, fun gn hg => h'.gone gn (h.gone gn hg), ?_, ?_⟩
  · rw [hrd, hwr]
    exact h.shadows
  · rw [hrd, hwr, h'.keep, h.keep]

/-- Clearing the admin registers of a function. -/
theorem clearAdmin (s : State) (fn : Nat) :
    let t := [0x200, 0x204, 0x208, 0x20C, 0x210, 0x214].foldl (fun s o => aqWr s fn o 0#32) s
    (∀ gn, Gone s gn → Gone t gn) ∧ t.hqe = s.hqe ∧ t.pcx = s.pcx ∧ aqRd t fn 0x214 = 0#32 ∧ aqRd t fn 0x200 = 0#32 ∧
      keepView statusKey t = keepView statusKey s := by
  simp only [List.foldl_cons, List.foldl_nil]
  refine ⟨fun gn hg => ?_, ?_, ?_, aqRd_aqWr_self _ _ _, ?_, ?_⟩
  · exact gone_aqWr (gone_aqWr (gone_aqWr (gone_aqWr (gone_aqWr (gone_aqWr hg (by decide) (.inr rfl)) (by decide) (.inr rfl))
      (by decide) (.inr rfl)) (by decide) (.inr rfl)) (by decide) (.inr rfl)) (by decide) (.inr rfl)
  · simp only [aqWr_hqe]
  · simp only [aqWr_pcx]
  · rw [aqRd_aqWr_other _ _ (by decide) (.inr (by decide)), aqRd_aqWr_other _ _ (by decide) (.inr (by decide)),
      aqRd_aqWr_other _ _ (by decide) (.inr (by decide)), aqRd_aqWr_other _ _ (by decide) (.inr (by decide)),
      aqRd_aqWr_other _ _ (by decide) (.inr (by decide)), aqRd_aqWr_self]
  · simp (disch := decide) only [keepView_aqWr]

theorem fnCleared_fnReset (s : State) (fn : Nat) : FnCleared s (fnReset s fn) fn := by
  unfold fnReset
  extract_lets rolled mine tags orphaned freed emptied untagged entered oldGrn unkept cleared owner unshadowed quiet reels untag oldGrn' untold closed
  have hrolled : Dwindles s rolled := dwindles_resetGroups s fn
  have hfreed : hostView freed = hostView rolled :=
    (State.each_proj hostView (fun s (c : Cmd) => freePages (mirrorEnd s c) c.bpns)
      (fun s c => (hostView_freePages _ _).trans (hostView_mirrorEnd s c)) _ _).trans (hostView_orphan _ _)
  have hemptied : HqeGone emptied fn ∧ ∀ gn, Gone freed gn → Gone emptied gn := by
    refine ⟨⟨fun q hq => ?_, fun q hq => ?_, fun c hc hfn hw => ?_, fun e he => ?_, fun f hf => ?_⟩, fun gn hg => ?_⟩
    · simpa using (List.mem_filter.1 hq).2
    · simpa using (List.mem_filter.1 hq).2
    · have := (List.mem_filter.1 hc).2
      simp [hfn, hw] at this
    · simpa using (List.mem_filter.1 he).2
    · simpa using (List.mem_filter.1 hf).2
    · obtain ⟨hsq, hcq, hcmd, hcqe, hfetch, hrest⟩ := hg
      exact ⟨fun q hq => hsq q (List.mem_filter.1 hq).1, fun q hq => hcq q (List.mem_filter.1 hq).1,
        fun c hc => hcmd c (List.mem_filter.1 hc).1, fun e he => hcqe e (List.mem_filter.1 he).1,
        fun f hf => hfetch f (List.mem_filter.1 hf).1, hrest⟩
  have hunkept : hostView unkept = hostView emptied := by
    have hentered : hostView entered = hostView untagged := by
      unfold entered
      split
      · exact hostView_u _ _ _ (by decide)
      · rfl
    exact hentered.trans (hostView_hqeU emptied rfl rfl rfl rfl rfl)
  obtain ⟨hgone, hhqe, hpcx, hctrl, hasq, hkeep⟩ := clearAdmin unkept fn
  have hquiet : FnCleared s quiet fn := by
    refine ⟨gone_iff.2 ⟨?_, fun e he => ?_, hctrl, hasq⟩, fun gn hg => ?_, fun x hx => ?_, ?_⟩
    · have hc : HqeGone cleared fn := by
        unfold HqeGone
        rw [show cleared.hqe = unkept.hqe from hhqe]
        exact hqeGone_of_hostView hunkept hemptied.1
      exact hc
    · simpa using (List.mem_filter.1 he).2
    · obtain ⟨h, hats, hrest⟩ := gone_iff.1 (hgone gn (gone_of_hostView hunkept (hemptied.2 gn (gone_of_hostView hfreed (hrolled.gone gn hg)))))
      exact gone_iff.2 ⟨h, fun e he => hats e (List.mem_filter.1 he).1, hrest⟩
    · rcases List.mem_append.1 hx with hx | hx
      · simpa [owner] using (List.mem_filter.1 hx).2
      · simpa [owner] using (List.mem_filter.1 hx).2
    · have hbefore : keepView statusKey cleared = keepView statusKey s :=
        hkeep.trans ((keepView_statusKey (congrArg HostView.keep hunkept)).trans
          ((keepView_statusKey (congrArg HostView.keep hfreed)).trans hrolled.keep))
      rw [← hbefore]
      rfl
  have hclosed : Dwindles quiet closed := by
    refine Dwindles.trans (t := untold) (dwindles_of_hostView rfl) (Dwindles.each (fun s r => ?_) _ _)
    refine Dwindles.trans (dwindles_of_hostView ?_) (dwindles_closeReel _ _)
    split
    · exact hostView_stopReel s r
    · rfl
  have hend : Dwindles closed (settleFlushes (pairFreed (refreshIntx (refreshTags (refreshQueues closed))))) :=
    (dwindles_of_hostView (by simp)).trans ((dwindles_pairFreed _).trans (dwindles_of_hostView (hostView_settleFlushes _)))
  exact hquiet.dwindles (hclosed.trans hend)

/-! The reset of a function with its configuration space, and of every function (R402, R409, R428). -/

theorem contained_of_rd {s t : State} (h : t.rd R.PCX_CONTAIN = s.rd R.PCX_CONTAIN) : contained t = contained s :=
  congrArg (fun w => getF w R.PCX_CONTAIN_CONTAINED == 1) h

theorem contained_of_keep {hidden : Nat → Bool} {s t : State} (h : keepView hidden t = keepView hidden s) : contained t = contained s :=
  contained_of_rd (congrArg KeepView.contain h)

theorem cfgReset_of_subsys {s t : State} (h : t.sys.subsys = s.sys.subsys) (fn off : Nat) : cfgReset t fn off = cfgReset s fn off := by
  unfold cfgReset
  rw [h]

theorem cfgRd_of_keep {hidden : Nat → Bool} {s t : State} (h : keepView hidden t = keepView hidden s) {fn off : Nat}
    (hk : hidden (1024 * fn + off / 4) = false) : cfgRd t fn off = cfgRd s fn off := by
  have hcfg := congrFun (congrArg KeepView.cfg h) (1024 * fn + off / 4)
  simp only [keepView, hk, Bool.false_eq_true, if_false] at hcfg
  unfold cfgRd
  rw [hcfg, cfgReset_of_subsys (congrArg KeepView.subsys h)]

theorem numVfs_of_keep {s t : State} (h : keepView statusKey t = keepView statusKey s) : numVfs t = numVfs s := by
  have hrd (off : Nat) (ho : off = 0x228 ∨ off = 0x230) : cfgRd t 0 off = cfgRd s 0 off :=
    cfgRd_of_keep h (by rcases ho with rfl | rfl <;> rfl)
  unfold numVfs cfgBit
  rw [hrd 0x228 (.inl rfl), hrd 0x230 (.inr rfl)]

theorem keepView_refreshIntx (s : State) : keepView statusKey (refreshIntx s) = keepView statusKey s :=
  keepView_statusKey (congrArg HostView.keep (hostView_refreshIntx s))

/-! Wiping the configuration space touches nothing else. -/

theorem gone_cfgWipe {s : State} {gn : Nat} (h : Gone s gn) (fn : Nat) (sticky : Bool) : Gone (cfgWipe s fn sticky) gn := h

theorem rd_cfgWipe (s : State) (fn : Nat) (sticky : Bool) (a : Nat) : (cfgWipe s fn sticky).rd a = s.rd a := rfl

theorem shadows_cfgWipe (s : State) (fn : Nat) (sticky : Bool) :
    (cfgWipe s fn sticky).rdShadows ++ (cfgWipe s fn sticky).wrShadows = s.rdShadows ++ s.wrShadows := rfl

theorem smGet_filter_of_key {α : Type} (m : SMap α) (p : Nat → Bool) {k : Nat} (h : p k = false) :
    smGet (m.filter fun e => p e.1) k = none := by
  induction m with
  | nil => rfl
  | cons e m ih =>
    rw [List.filter_cons]
    split
    · next hp =>
      have hne : e.1 ≠ k := fun he => by simp [he, h] at hp
      exact (if_neg hne).trans ih
    · exact ih

/-- VF Enable is no sticky bit. -/
theorem numVfs_cfgWipe (s : State) (sticky : Bool) : numVfs (cfgWipe s 0 sticky) = 0 := by
  have hkey : smGet (cfgWipe s 0 sticky).pcx.cfg 138 = none :=
    smGet_filter_of_key _ (fun k => !(k / 1024 == 0 && !(sticky && (0 == 0) && 64 ≤ k % 1024 && k % 1024 < 82))) (by cases sticky <;> rfl)
  have hrd : cfgRd (cfgWipe s 0 sticky) 0 0x228 = 0#32 := by
    unfold cfgRd
    rw [hkey]
    rfl
  unfold numVfs cfgBit
  rw [hrd]
  rfl

theorem FnCleared.contain {s t : State} {fn : Nat} (h : FnCleared s t fn) : t.rd R.PCX_CONTAIN = s.rd R.PCX_CONTAIN :=
  congrArg KeepView.contain h.keep

theorem gone_flrOne (s : State) (fn : Nat) (sticky : Bool) : Gone (flrOne s fn sticky) fn :=
  gone_cfgWipe (fnCleared_fnReset s fn).own fn sticky

theorem gone_flrOne_of_gone {s : State} {gn : Nat} (h : Gone s gn) (fn : Nat) (sticky : Bool) : Gone (flrOne s fn sticky) gn :=
  gone_cfgWipe ((fnCleared_fnReset s fn).gone gn h) fn sticky

theorem shadows_flrOne (s : State) (fn : Nat) (sticky : Bool) :
    ∀ x ∈ (flrOne s fn sticky).rdShadows ++ (flrOne s fn sticky).wrShadows, x.req ≠ if fn = 0 then .pf else .vf fn := by
  rw [flrOne, shadows_cfgWipe]
  exact (fnCleared_fnReset s fn).shadows

theorem contain_flrOne (s : State) (fn : Nat) (sticky : Bool) : (flrOne s fn sticky).rd R.PCX_CONTAIN = s.rd R.PCX_CONTAIN := by
  rw [flrOne, rd_cfgWipe]
  exact (fnCleared_fnReset s fn).contain

theorem gone_flrVfs (s : State) (sticky : Bool) {v : Nat} (h : 1 ≤ v ∧ v ≤ numVfs s) : Gone (flrVfs s sticky) v := by
  refine State.each_sets (P := fun v t => Gone t v) (fun s x => gone_flrOne s x sticky) (fun s _ y hs => gone_flrOne_of_gone hs y sticky) _ s v ?_
  exact List.mem_map.2 ⟨v - 1, List.mem_range.2 (by omega), by omega⟩

theorem contain_flrVfs (s : State) (sticky : Bool) : (flrVfs s sticky).rd R.PCX_CONTAIN = s.rd R.PCX_CONTAIN := by
  unfold flrVfs
  exact State.each_proj (fun t => t.rd R.PCX_CONTAIN) (fun s v => flrOne s v sticky) (fun s v => contain_flrOne s v sticky) _ s

/-- The reset of the PF reaches every VF. -/
theorem gone_flrAll (s : State) (sticky : Bool) {v : Nat} (h : v ≤ numVfs s) : Gone (flrOne (flrVfs s sticky) 0 sticky) v := by
  by_cases hv : v = 0
  · rw [hv]
    exact gone_flrOne _ 0 sticky
  · exact gone_flrOne_of_gone (gone_flrVfs s sticky ⟨Nat.one_le_iff_ne_zero.2 hv, h⟩) 0 sticky

theorem contain_flrAll (s : State) (sticky : Bool) :
    (flrOne (flrVfs s sticky) 0 sticky).rd R.PCX_CONTAIN = s.rd R.PCX_CONTAIN :=
  (contain_flrOne _ 0 sticky).trans (contain_flrVfs s sticky)

theorem numVfs_flrAll (s : State) (sticky : Bool) : numVfs (flrOne (flrVfs s sticky) 0 sticky) = 0 := numVfs_cfgWipe _ sticky

/-! Shadows after a function reset (O49). -/

theorem shadows_functionLevelReset {s : State} {fn : Fin 256} (h : fnOn s fn = true) :
    ∀ x ∈ (functionLevelReset fn s).rdShadows ++ (functionLevelReset fn s).wrShadows, x.req ≠ if fn = 0 then .pf else .vf fn := by
  have hkept (t : State) : (refreshIntx t).rdShadows ++ (refreshIntx t).wrShadows = t.rdShadows ++ t.wrShadows := by
    rw [show (refreshIntx t).rdShadows = t.rdShadows from congrArg KeepView.rdShadows (keepView_refreshIntx t),
      show (refreshIntx t).wrShadows = t.wrShadows from congrArg KeepView.wrShadows (keepView_refreshIntx t)]
  rw [functionLevelReset, h]
  by_cases hfn : fn = 0
  · subst hfn
    simp only [Bool.not_true, Bool.false_eq_true, if_false, Fin.val_zero, if_true, hkept]
    exact shadows_flrOne _ 0 true
  · have hval : fn.val ≠ 0 := fun e => hfn (Fin.ext e)
    have hshadows := shadows_flrOne s fn true
    rw [if_neg hval] at hshadows
    simp only [Bool.not_true, Bool.false_eq_true, if_false, hval, hfn, hkept]
    exact hshadows

/-- Settles O49: the reset of a function filters its shadows, and a device reset starts from a state without any. -/
theorem shadowsAreCleared : Obligations.ShadowsAreCleared := by
  refine ⟨fun s fn hs hfn => ?_, deviceResets_clear_shadows⟩
  have hall := shadows_functionLevelReset hfn
  exact does_of_answer hs rfl ⟨fun x hx => hall x (List.mem_append_left _ hx), fun x hx => hall x (List.mem_append_right _ hx)⟩

/-! Hot and fundamental reset (R428). -/

theorem numVfs_refreshIntx (s : State) : numVfs (refreshIntx s) = numVfs s := numVfs_of_keep (keepView_refreshIntx s)

theorem contained_refreshIntx (s : State) : contained (refreshIntx s) = contained s := contained_of_keep (keepView_refreshIntx s)

theorem gone_refreshIntx {s : State} {fn : Nat} (h : Gone s fn) : Gone (refreshIntx s) fn := gone_of_hostView (hostView_refreshIntx s) h

/-- The bit of the containment under its cause. -/
theorem contained_us (s : State) (n : Nat) : contained (s.us [(R.PCX_CONTAIN_CONTAINED, 1), (R.PCX_CONTAIN_CAUSE, n)]) = true := by
  change ((s.u R.PCX_CONTAIN_CONTAINED 1).u R.PCX_CONTAIN_CAUSE n).on R.PCX_CONTAIN_CONTAINED = true
  rw [State.on_u_bits _ _ (by decide) (by decide)]
  exact s.on_u_self (by decide) true

/-- A link-down cause contains the endpoint and leaves the VFs. -/
theorem contain_linkDown (s : State) : numVfs (contain s .linkDown) = numVfs s ∧ contained (contain s .linkDown) = true := by
  have hdown : hostView (dropPosted (s.u R.PCX_LINK_DL_UP 0)) = hostView s :=
    (hostView_dropPosted _).trans (hostView_u s _ _ (by decide))
  have hvfs : numVfs (dropPosted (s.u R.PCX_LINK_DL_UP 0)) = numVfs s := numVfs_of_keep (keepView_statusKey (congrArg HostView.keep hdown))
  unfold contain
  extract_lets down marked timed
  have hdowneq : down = dropPosted (s.u R.PCX_LINK_DL_UP 0) := if_pos rfl
  split
  · next h => exact ⟨(congrArg numVfs hdowneq).trans hvfs, h⟩
  · have htimed : keepView statusKey timed = keepView statusKey marked := (Dwindles.each dwindles_timeOut _ marked).keep
    have hmarked : contained marked = true :=
      (contained_of_rd (State.log_rd _ _ _ _ _ _)).trans (contained_us down (containCode .linkDown))
    have hmarkedVfs : numVfs marked = numVfs down := rfl
    rw [numVfs_refreshIntx, contained_refreshIntx]
    exact ⟨(numVfs_of_keep (s := marked) htimed).trans (hmarkedVfs.trans ((congrArg numVfs hdowneq).trans hvfs)),
      (contained_of_keep (s := marked) htimed).trans hmarked⟩

theorem hotReset_spec (s : State) (down : Bool) :
    (∀ v, v ≤ numVfs s → Gone (hotReset down s) v) ∧ numVfs (hotReset down s) = 0 ∧ contained (hotReset down s) = (down || contained s) := by
  unfold hotReset
  generalize hu : (if down = true then contain s .linkDown else dropPosted s) = u
  have hstart : numVfs u = numVfs s ∧ contained u = (down || contained s) := by
    cases down
    · have hdrop := keepView_statusKey (congrArg HostView.keep (hostView_dropPosted s))
      rw [← hu]
      exact ⟨numVfs_of_keep hdrop, contained_of_keep hdrop⟩
    · rw [← hu]
      exact contain_linkDown s
  obtain ⟨hvfs, hcontained⟩ := hstart
  rw [numVfs_refreshIntx, contained_refreshIntx, resetFunctions]
  exact ⟨fun v hv => gone_refreshIntx (gone_flrAll u false (hvfs ▸ hv)), numVfs_flrAll u false,
    (contained_of_rd (contain_flrAll u false)).trans hcontained⟩

/-- Nothing waits, and so the interrupt wire alone is sent. -/
theorem pump_reqs {s : State} (hw : s.pcx.wait = []) {on : Bool} (ht : s.pcx.tx = [.intx on]) : (pump s).pcx.reqs = s.pcx.reqs := by
  unfold pump
  split
  · rfl
  · simp only [hw, ht]
    rfl

theorem refreshIntx_reqs {s : State} (hw : s.pcx.wait = []) (ht : s.pcx.tx = []) : (refreshIntx s).pcx.reqs = s.pcx.reqs := by
  unfold refreshIntx
  extract_lets pend wire was shown w put
  split
  · rfl
  · exact pump_reqs (s := put.pcxU fun p => { p with tx := p.tx ++ [.intx wire] }) (on := wire) hw
      (congrArg (· ++ [Tx.intx wire]) ht)

/-- The registers that a fundamental reset sets beside. -/
def fundamentalRegs (s : State) : State :=
  s.us [(R.PCX_CONTAIN_CONTAINED, 0), (R.PCX_CONTAIN_CAUSE, 0), (R.PCX_LINK_DL_UP, 0), (R.GLB_RESET_CAUSE_FUNDAMENTAL, 1)]

theorem fundamentalRegs_spec (s : State) :
    contained (fundamentalRegs s) = false ∧ (fundamentalRegs s).on R.GLB_RESET_CAUSE_FUNDAMENTAL = true := by
  refine ⟨?_, State.on_u_self _ (by decide) true⟩
  change ((((s.u R.PCX_CONTAIN_CONTAINED 0).u R.PCX_CONTAIN_CAUSE 0).u R.PCX_LINK_DL_UP 0).u R.GLB_RESET_CAUSE_FUNDAMENTAL 1).on
    R.PCX_CONTAIN_CONTAINED = false
  rw [State.on, State.g_u_addr _ _ _ _ (by decide), State.g_u_addr _ _ _ _ (by decide)]
  exact (State.on_u_bits _ _ (by decide) (by decide)).trans (s.on_u_self (by decide) false)

theorem gone_fundamentalRegs {s : State} {fn : Nat} (h : Gone s fn) : Gone (fundamentalRegs s) fn := by
  have hrd (o : Nat) (ho : o = 0x214 ∨ o = 0x200) : aqRd (fundamentalRegs s) fn o = aqRd s fn o := by
    unfold aqRd
    split
    · refine s.rd_us_other _ ?_
      rcases ho with rfl | rfl <;> decide
    · rfl
  obtain ⟨hhqe, hats, hctrl, hasq⟩ := gone_iff.1 h
  exact gone_iff.2 ⟨hhqe, hats, (hrd _ (.inl rfl)).trans hctrl, (hrd _ (.inr rfl)).trans hasq⟩

/-- What waits on the link is gone. -/
def emptyLink (s : State) : State := s.pcxU fun p => { p with quarantine := [], reqs := [], wait := [], tx := [], posted := [] }

theorem fundamentalReset_eq (s : State) : fundamentalReset s = refreshIntx (emptyLink (fundamentalRegs (resetFunctions s))) := rfl

theorem fundamentalReset_spec (s : State) :
    (∀ v, v ≤ numVfs s → Gone (fundamentalReset s) v) ∧ contained (fundamentalReset s) = false ∧
      (fundamentalReset s).on R.GLB_RESET_CAUSE_FUNDAMENTAL = true ∧ (fundamentalReset s).pcx.reqs = [] := by
  have hgone (v : Nat) (hv : v ≤ numVfs s) : Gone (fundamentalRegs (resetFunctions s)) v := gone_fundamentalRegs (gone_flrAll s false hv)
  rw [fundamentalReset_eq]
  generalize resetFunctions s = u at hgone ⊢
  obtain ⟨hcontained, hcause⟩ := fundamentalRegs_spec u
  have hview : hostView (refreshIntx (emptyLink (fundamentalRegs u))) = hostView (fundamentalRegs u) :=
    (hostView_refreshIntx _).trans (hostView_pcxU _ rfl rfl)
  have hrd : (refreshIntx (emptyLink (fundamentalRegs u))).rd R.GLB_RESET_CAUSE = (fundamentalRegs u).rd R.GLB_RESET_CAUSE :=
    congrArg (fun v => v.keep.cause) hview
  exact ⟨fun v hv => gone_of_hostView hview (hgone v hv), (contained_of_keep (congrArg HostView.keep hview)).trans hcontained,
    (congrArg (fun r => getF r R.GLB_RESET_CAUSE_FUNDAMENTAL == 1) hrd).trans hcause, refreshIntx_reqs rfl rfl⟩

/-! VF Enable (R409). -/

theorem cfgRd_cfgPut_self (s : State) (fn off : Nat) (w : Word) : cfgRd (cfgPut s fn off w) fn off = w := smSet_self _ _ _ _

theorem cfgRd_cfgPut_other (s : State) {fn off gn o : Nat} (w : Word) (h : 1024 * gn + o / 4 ≠ 1024 * fn + off / 4) :
    cfgRd (cfgPut s fn off w) gn o = cfgRd s gn o := by
  have hkey : smGet (cfgPut s fn off w).pcx.cfg (1024 * gn + o / 4) = smGet s.pcx.cfg (1024 * gn + o / 4) := smSet_other _ _ _ h
  unfold cfgRd
  rw [hkey]
  rfl

theorem cfgBit_cfgPut_self (s : State) (fn off b : Nat) (w : Word) : cfgBit (cfgPut s fn off w) fn off b = (bitOf w.toNat b == 1) := by
  rw [cfgBit, cfgRd_cfgPut_self]

theorem bitOf_or_one (w : Word) : bitOf (w ||| 1#32).toNat 0 = 1 := by
  rw [bitOf, Nat.pow_zero, Nat.div_one, BitVec.toNat_or, Nat.or_mod_two_eq_one]
  exact .inr rfl

theorem bitOf_and_not_one (w : Word) : bitOf (w &&& ~~~ 1#32).toNat 0 = 0 := by
  have hodd : ¬ (w &&& ~~~ 1#32).toNat % 2 = 1 := by
    rw [BitVec.toNat_and, Nat.and_mod_two_eq_one]
    exact fun h => absurd h.2 (by decide)
  rw [bitOf, Nat.pow_zero, Nat.div_one]
  omega

/-- VF Enable takes NumVFs, of at most 7 where ARI is off. -/
theorem numVfs_setVfEnable_on (s : State) (h : (cfgRd s 0 0x230).toNat % 65536 ≤ 7 ∨ cfgBit s 0 0x228 4 = true) :
    numVfs (setVfEnable s true) = (cfgRd s 0 0x230).toNat % 65536 := by
  have hfew : ¬ (7 < (cfgRd s 0 0x230).toNat % 65536 ∧ cfgBit s 0 0x228 4 = false) := by
    rintro ⟨hlt, hari⟩
    rcases h with h | h
    · omega
    · simp [hari] at h
  rw [setVfEnable, if_pos rfl, if_neg hfew, numVfs, cfgBit_cfgPut_self, bitOf_or_one, cfgRd_cfgPut_other _ _ (by decide)]
  rfl

theorem numVfs_setVfEnable_off (s : State) : numVfs (setVfEnable s false) = 0 := by
  unfold setVfEnable
  simp only [Bool.false_eq_true, if_false]
  rw [numVfs, cfgBit_cfgPut_self, bitOf_and_not_one]
  rfl

theorem gone_setVfEnable_off (s : State) {v : Nat} (h : 1 ≤ v ∧ v ≤ numVfs s) : Gone (setVfEnable s false) v := by
  have hput (t : State) (ht : Gone t v) (w : Word) : Gone (cfgPut t 0 0x228 w) v := ht
  exact hput _ (gone_flrVfs s true h) _

/-! Configuration requests (R404, R405, R411). -/

theorem recovery_of_live {s : State} (h : s.live = true) : s.on R.TRU_STATUS_RECOVERY = false := by
  unfold State.live at h
  simpa using (Bool.and_eq_true_iff.1 h).2

theorem emitTlp_eq (s : State) (o : Out) : s.emitTlp o = s.emit (if ecrcSent s then .digest o else o) := rfl

/-- What a TLP carries follows from the state after it as from the state before. -/
theorem mem_out_emitTlp (s : State) (o : Out) : (if ecrcSent (s.emitTlp o) then Out.digest o else o) ∈ (s.emitTlp o).out :=
  List.mem_cons_self

/-- A dword under a configuration write: `m` its bits that follow the data, and those of `cfgClear` that a 1 clears. -/
def cfgWritten (fn off : Nat) (m : Word) (be : BitVec 4) (old data : Word) : Word :=
  ((old &&& ~~~ m) ||| (data &&& m)) &&& ~~~ (BitVec.ofNat 32 (cfgClear fn off) &&& beMask be &&& data)

/-- The bits that follow the data: none in Power Management where the data name D1 or D2 (R405). -/
def cfgTaken (fn off : Nat) (be : BitVec 4) (data : Word) : Word :=
  if off = 0x44 ∧ (data.toNat % 4 = 1 ∨ data.toNat % 4 = 2) then 0#32 else BitVec.ofNat 32 (cfgMask fn off) &&& beMask be

theorem keepView_pcxU_ats (hidden : Nat → Bool) (s : State) (c : AtsEntry → Bool) :
    keepView hidden (s.pcxU fun p => { p with ats := p.ats.filter c }) = keepView hidden s := rfl

/-- What follows a configuration write of a register but Device Control and VF Enable leaves the configuration alone. -/
theorem keepView_cfgWrite (s : State) (fn : Nat) {off : Nat} (be : BitVec 4) (data : Word) (hdevice : off ≠ 0x78) (hvf : off ≠ 0x228) :
    keepView commandKey (cfgWrite s fn off be data) =
      keepView commandKey (cfgPut s fn off (cfgWritten fn off (cfgTaken fn off be data) be (cfgRd s fn off) data)) := by
  unfold cfgWrite
  extract_lets old m c vfBit m' noSuch m'' put enabled noAts shut pending flr reset pumped
  have hput : put = cfgPut s fn off (cfgWritten fn off (cfgTaken fn off be data) be old data) := by
    have hm' : m' = m := if_neg fun h => hvf h.2
    unfold put m''
    rw [hm']
    rfl
  have henabled : enabled = put := if_neg fun h => hvf h.1.2
  have hshut : keepView commandKey shut = keepView commandKey enabled := by
    unfold shut
    split
    · exact keepView_pcxU_ats _ _ _
    · rfl
  have hpending : keepView commandKey pending = keepView commandKey shut := by
    unfold pending
    split
    · exact congrArg HostView.keep (State.each_proj hostView _ (fun s v => hostView_sendPending s fn v) _ shut)
    · rfl
  have hreset : reset = pending := if_neg fun h => hdevice h.1
  have hpumped : keepView commandKey pumped = keepView commandKey reset := by
    unfold pumped
    split
    · exact congrArg HostView.keep (hostView_pump reset)
    · rfl
  calc keepView commandKey (refreshIntx pumped) = keepView commandKey pumped := congrArg HostView.keep (hostView_refreshIntx pumped)
    _ = keepView commandKey pending := by rw [hpumped, hreset]
    _ = keepView commandKey put := by rw [hpending, hshut, henabled]
    _ = _ := by rw [hput]

theorem cfgRd_cfgWrite (s : State) {fn off : Nat} (be : BitVec 4) (data : Word) (hoff : off ∉ [0x04, 0x78, 0x228])
    (hdword : off < 4096 ∧ off % 4 = 0) :
    cfgRd (cfgWrite s fn off be data) fn off = cfgWritten fn off (cfgTaken fn off be data) be (cfgRd s fn off) data := by
  simp only [List.mem_cons, List.not_mem_nil, or_false, not_or] at hoff
  obtain ⟨hcommand, hdevice, hvf⟩ := hoff
  have hkey : commandKey (1024 * fn + off / 4) = false := by
    simp only [commandKey, beq_eq_false_iff_ne]
    omega
  rw [cfgRd_of_keep (keepView_cfgWrite s fn be data hdevice hvf) hkey, cfgRd_cfgPut_self]

/-- D1 and D2 are not entered (R405). -/
theorem cfgRd_cfgWrite_power (s : State) (fn : Nat) (be : BitVec 4) {data : Word} (hdata : data.toNat % 4 = 1 ∨ data.toNat % 4 = 2) :
    cfgRd (cfgWrite s fn 0x44 be data) fn 0x44 = cfgRd s fn 0x44 := by
  have hclear : cfgClear fn 0x44 = 0 := by simp [cfgClear]
  rw [cfgRd_cfgWrite s be data (by decide) (by decide), cfgTaken, if_pos ⟨rfl, hdata⟩, cfgWritten, hclear]
  simp only [BitVec.and_zero, BitVec.zero_and, BitVec.or_zero, BitVec.not_zero, BitVec.and_allOnes]

/-- A configuration request, out of reset. -/
theorem exec_configRequest {s : State} (hs : s.up = true) (r : CfgReq) : exec (.configRequest r) s = .next (configRequest r s) :=
  answerUp_up (configRequest r) hs

/-! One rule per branch of a configuration request. -/

theorem configRequest_io {r : CfgReq} (h : r.kind = .io ∨ r.kind = .atomic) (s : State) :
    configRequest r s = if contained s then s else s.emitTlp (.refused r.fn) := if_pos h

theorem configRequest_notReady {r : CfgReq} (h : r.kind = .config0 ∨ r.kind = .config1) {s : State} (hr : s.sys.ready = false) :
    configRequest r s = s.emitTlp (.cfgDone r.fn none) := by
  have hkind : ¬ (r.kind = .io ∨ r.kind = .atomic) := by rcases h with h | h <;> simp [h]
  rw [configRequest, if_neg hkind, if_pos hr]

theorem configRequest_type1 {r : CfgReq} (h : r.kind = .config1) {s : State} (hr : s.sys.ready = true) :
    configRequest r s = s.emitTlp (.refused r.fn) := by
  simp [configRequest, h, hr]

/-- What a Type 0 request of a device that is ready comes to. -/
theorem configRequest_type0 {r : CfgReq} (h : r.kind = .config0) {s : State} (hr : s.sys.ready = true) :
    configRequest r s =
      if !fnOn s r.fn ∨ (r.fn ≠ 0 ∧ s.on R.TRU_STATUS_RECOVERY = true) then s.emitTlp (.refused r.fn)
      else if s.on R.TRU_STATUS_RECOVERY = true ∧ 0x18 ≤ 4 * r.dw.val ∧ 4 * r.dw.val ≤ 0x24 then s.emitTlp (.cfgDone r.fn (some 0#32))
      else if r.write then (cfgWrite s r.fn (4 * r.dw.val) r.be r.data).emitTlp (.cfgDone r.fn (some 0#32))
      else s.emitTlp (.cfgDone r.fn (some (cfgRd s r.fn (4 * r.dw.val)))) := by
  simp [configRequest, h, hr]

theorem configRequest_missing {r : CfgReq} (h : r.kind = .config0) {s : State} (hr : s.sys.ready = true) (hfn : fnOn s r.fn = false) :
    configRequest r s = s.emitTlp (.refused r.fn) := by
  rw [configRequest_type0 h hr, if_pos (.inl (by rw [hfn]; rfl))]

theorem configRequest_present {r : CfgReq} (h : r.kind = .config0) {s : State} (hs : s.live = true) (hr : s.sys.ready = true)
    (hfn : fnOn s r.fn = true) :
    configRequest r s = if r.write then (cfgWrite s r.fn (4 * r.dw.val) r.be r.data).emitTlp (.cfgDone r.fn (some 0#32))
      else s.emitTlp (.cfgDone r.fn (some (cfgRd s r.fn (4 * r.dw.val)))) := by
  simp [configRequest_type0 h hr, recovery_of_live hs, hfn]

theorem configRequest_recovery {r : CfgReq} (h : r.kind = .config0) {s : State} (hr : s.sys.ready = true)
    (hrec : s.on R.TRU_STATUS_RECOVERY = true) :
    (r.fn ≠ 0 → configRequest r s = s.emitTlp (.refused r.fn)) ∧
      (r.fn = 0 → 0x18 ≤ 4 * r.dw.val → 4 * r.dw.val ≤ 0x24 → configRequest r s = s.emitTlp (.cfgDone r.fn (some 0#32))) := by
  rw [configRequest_type0 h hr]
  refine ⟨fun hfn => if_pos (.inr ⟨hfn, hrec⟩), fun hfn hlow hhigh => ?_⟩
  have hon : fnOn s 0 = true := rfl
  rw [if_neg (by simp [hfn, hon]), if_pos ⟨hrec, hlow, hhigh⟩]

/-! O48. -/

theorem functionLevelReset_zero (s : State) : functionLevelReset 0 s = refreshIntx (flrOne (flrVfs s true) 0 true) := rfl

theorem functionLevelReset_vf {s : State} {fn : Fin 256} (h : fnOn s fn = true) (hfn : fn.val ≠ 0) :
    functionLevelReset fn s = refreshIntx (flrOne s fn true) := by
  rw [functionLevelReset, h, Bool.not_true, if_neg Bool.false_ne_true, if_neg hfn]

theorem functionLevelReset_spec {s : State} {fn : Fin 256} (h : fnOn s fn = true) :
    Gone (functionLevelReset fn s) fn ∧ (functionLevelReset fn s).g R.PCX_CONTAIN_CONTAINED = s.g R.PCX_CONTAIN_CONTAINED := by
  have hrd (t : State) (ht : t.rd R.PCX_CONTAIN = s.rd R.PCX_CONTAIN) :
      (refreshIntx t).g R.PCX_CONTAIN_CONTAINED = s.g R.PCX_CONTAIN_CONTAINED := by
    have hintx : (refreshIntx t).rd R.PCX_CONTAIN = t.rd R.PCX_CONTAIN := congrArg KeepView.contain (keepView_refreshIntx t)
    exact congrArg (fun w => getF w R.PCX_CONTAIN_CONTAINED) (hintx.trans ht)
  by_cases hfn : fn.val = 0
  · obtain rfl : fn = 0 := Fin.ext hfn
    rw [functionLevelReset_zero]
    exact ⟨gone_refreshIntx (gone_flrOne _ 0 true), hrd _ (contain_flrAll s true)⟩
  · rw [functionLevelReset_vf h hfn]
    exact ⟨gone_refreshIntx (gone_flrOne s fn true), hrd _ (contain_flrOne s fn true)⟩

theorem functionLevelReset_pf (s : State) :
    (∀ v, 1 ≤ v → v ≤ numVfs s → Gone (functionLevelReset 0 s) v) ∧ numVfs (functionLevelReset 0 s) = 0 := by
  rw [functionLevelReset_zero, numVfs_refreshIntx]
  exact ⟨fun v _ hv => gone_refreshIntx (gone_flrAll s true hv), numVfs_flrAll s true⟩

theorem vfEnable_on (s : State) :
    (7 < (cfgRd s 0 0x230).toNat % 65536 → cfgBit s 0 0x228 4 = false → numVfs (vfEnable true s) = numVfs s) ∧
      ((cfgRd s 0 0x230).toNat % 65536 ≤ 7 ∨ cfgBit s 0 0x228 4 = true → numVfs (vfEnable true s) = (cfgRd s 0 0x230).toNat % 65536) := by
  rw [vfEnable, numVfs_refreshIntx]
  refine ⟨fun hmany hari => ?_, numVfs_setVfEnable_on s⟩
  rw [setVfEnable, if_pos rfl, if_pos ⟨hmany, hari⟩]

theorem vfEnable_off (s : State) : numVfs (vfEnable false s) = 0 ∧ ∀ v, 1 ≤ v → v ≤ numVfs s → Gone (vfEnable false s) v := by
  rw [vfEnable, numVfs_refreshIntx]
  exact ⟨numVfs_setVfEnable_off s, fun v h1 hv => gone_refreshIntx (gone_setVfEnable_off s ⟨h1, hv⟩)⟩

/-- A configuration write completes with what it wrote. -/
theorem does_configWrite {s : State} (hs : s.live = true) {r : CfgReq} (h : r.kind = .config0) (hr : s.sys.ready = true)
    (hfn : fnOn s r.fn = true) (hw : r.write = true) {P : State → Prop}
    (hP : P ((cfgWrite s r.fn (4 * r.dw.val) r.be r.data).emitTlp (.cfgDone r.fn (some 0#32)))) : Does (.configRequest r) s P :=
  ⟨_, (exec_configRequest (up_of_live hs) r).trans (by rw [configRequest_present h hs hr hfn, if_pos hw]), hP⟩

/-- Settles O48: what a function reset leaves is never built up again by what follows it, and a configuration request is answered by its
branch. -/
theorem endpointResetsAndConfig : Obligations.EndpointResetsAndConfig := by
  refine ⟨fun s hs => ?_, fun s r hup hr hrec hkind => ?_⟩
  · refine ⟨fun fn => ⟨fun hoff => ?_, fun hon => does_of_answer hs rfl (functionLevelReset_spec hon)⟩,
      does_of_answer hs rfl (functionLevelReset_pf s), fun down => does_of_answer hs rfl (hotReset_spec s down),
      does_of_answerUp hs rfl (fundamentalReset_spec s), ⟨fun hmany hari => does_of_answer hs rfl ((vfEnable_on s).1 hmany hari),
        fun hfew => does_of_answer hs rfl ((vfEnable_on s).2 hfew), does_of_answer hs rfl (vfEnable_off s)⟩, fun r => ?_⟩
    · refine (answer_live _ hs).trans (congrArg _ ?_)
      rw [functionLevelReset, hoff]
      rfl
    · have hexec := exec_configRequest (up_of_live hs) r
      refine ⟨fun hk => hexec.trans (congrArg _ (configRequest_io hk s)),
        fun hk hr => hexec.trans (congrArg _ (configRequest_notReady hk hr)),
        fun hk hr => hexec.trans (congrArg _ (configRequest_type1 hk hr)),
        fun hk hr => ⟨fun hfn => hexec.trans (congrArg _ (configRequest_missing hk hr hfn)), fun hfn hread => ?_,
          fun hfn hw hoff => does_configWrite hs hk hr hfn hw ?_, fun hfn hw hoff hdata => does_configWrite hs hk hr hfn hw ?_,
          fun hfn hw => does_configWrite hs hk hr hfn hw (mem_out_emitTlp _ _)⟩⟩
      · rw [hexec, configRequest_present hk hs hr hfn, hread]
        rfl
      · simp only [List.mem_cons, List.not_mem_nil, or_false, not_or] at hoff
        obtain ⟨hcommand, hpower, hdevice, hvf⟩ := hoff
        have hdw := r.dw.isLt
        refine (cfgRd_cfgWrite s r.be r.data (by simp [hcommand, hdevice, hvf]) (by omega)).trans ?_
        rw [cfgTaken, if_neg fun h => hpower h.1]
        rfl
      · rw [hoff]
        exact cfgRd_cfgWrite_power s r.fn r.be hdata
  · obtain ⟨hmissing, hbars⟩ := configRequest_recovery hkind hr hrec
    have hexec := exec_configRequest hup r
    exact ⟨fun hfn => hexec.trans (congrArg _ (hmissing hfn)), fun hfn hlow hhigh => hexec.trans (congrArg _ (hbars hfn hlow hhigh))⟩

end Sys2Proof.Machine

/-!
PROOF. O16: the write path's clusters, verdicts, suspensions and link words (R74, R75, R88, R112, R158 to R162, R170 to R173, R176). First what the
end of a cluster leaves, then what follows from its start, then the lanes, verify results, verdicts and resumed beams, then the words of a
pair, then the obligation.
-/

namespace Sys2Proof.Machine

/-! Counters, lanes and beams after an update. -/

theorem regsBut_bumpN (s : State) (a k : Nat) : RegsBut s (s.bumpN a k) [a] := regsBut_wr s a _

theorem regsBut_bump (s : State) (a : Nat) : RegsBut s (s.bump a) [a] := regsBut_wr s a _

theorem counted_bumpN (s : State) (a k : Nat) : Counted s (s.bumpN a k) a k := s.rd_wr_self a _

theorem counted_bump (s : State) (a : Nat) : Counted s (s.bump a) a 1 := s.rd_wr_self a _

/-- A counter that stood before has counted from the start. -/
theorem Counted.after {s t u : State} {a k : Nat} {l : List Nat} (h : Counted t u a k) (hst : RegsBut s t l) (ha : a ∉ l) : Counted s u a k := by
  rwa [Counted, hst a ha] at h

/-- A counter that stands afterwards keeps what it has counted. -/
theorem Counted.before {s t u : State} {a k : Nat} {l : List Nat} (h : Counted s t a k) (htu : RegsBut t u l) (ha : a ∉ l) : Counted s u a k :=
  (htu a ha).trans h

theorem counted_zero {s t : State} {a : Nat} (h : t.rd a = s.rd a) : Counted s t a 0 := by
  have hlt := (s.rd a).isLt
  rw [Counted, h, Nat.add_zero, Nat.min_eq_right (by omega), BitVec.ofNat_toNat, BitVec.setWidth_eq]

@[simp] theorem State.beam_beamU_self (s : State) (n : Fin 8) (m : Fin 4) (f : Beam → Beam) : (s.beamU n m f).beam n m = f (s.beam n m) := by
  simp only [State.beam, State.beamU, State.wrsU, vmod_self]

theorem State.beam_beamU_other (s : State) (n : Fin 8) {m k : Fin 4} (f : Beam → Beam) (h : k ≠ m) : (s.beamU n m f).beam n k = s.beam n k := by
  simp only [State.beam, State.beamU, State.wrsU, vmod_self, vmod_other _ _ h]

/-! WORK of a station (R284). -/

theorem refreshWork_wrs (s : State) (n : Fin 8) : (refreshWork s n).wrs = s.wrs := by
  unfold refreshWork; dsimp only; split <;> rfl

theorem refreshWork_beam (s : State) (n k : Fin 8) (m : Fin 4) : (refreshWork s n).beam k m = s.beam k m := by
  rw [State.beam, refreshWork_wrs]; rfl

theorem refreshWork_regsBut (s : State) (n : Fin 8) : RegsBut s (refreshWork s n) [R.STN_STATUS n] := by
  unfold refreshWork; dsimp only
  refine RegsBut.trans (l := []) ?_ (regsBut_u _ _ _)
  split <;> exact RegsBut.of_regs rfl _

/-! A cluster ends (R74, R159, R172). -/

/-- The bit of a beam in WRITING is cleared. -/
theorem bitOf_cleared : ∀ (w : Fin 16) (m : Fin 4), bitOf ((w.val - bitOf w.val m.val * 2 ^ m.val) % 2 ^ 4) m.val = 0 := by decide

/-- The bit of a beam in WRITING is set. -/
theorem bitOf_lor : ∀ (w : Fin 16) (m : Fin 4), bitOf (Nat.lor w.val (2 ^ m.val) % 2 ^ 4) m.val = 1 := by decide

theorem writing_lt (s : State) (n : Nat) : s.g (R.WRS_STATUS_WRITING n) < 16 := getF_lt _ _

/-- While a beam of the station writes nothing waits for the boundary. -/
theorem stnBoundary_writing {s : State} {n : Fin 8} (h : s.g (R.WRS_STATUS_WRITING n) ≠ 0) : stnBoundary s n = s := if_pos h

/-- While a beam of the station writes, or the station is not ACTIVE, it stays where it is (R88). -/
theorem goPlace_stays {s : State} {n : Fin 8} (h : s.g (R.STN_STATUS_STATE n) ≠ stACTIVE ∨ s.g (R.WRS_STATUS_WRITING n) ≠ 0) : goPlace s n = s := by
  unfold goPlace
  exact if_neg fun hc => h.elim (· hc.1) (· hc.2.2.1)

/-- The end of a cluster, what waits for the boundary apart. -/
def clusterEnded (s : State) (n : Fin 8) (m : Fin 4) (c : Cur) : State :=
  let w := s.g (R.WRS_STATUS_WRITING n)
  refreshWork ((s.u (R.WRS_STATUS_WRITING n) (w - bitOf w m * 2 ^ m.val)).beamU n m fun b => { b with cur := none, judged := b.judged ++ [c] }) n

theorem endCluster_eq (s : State) (n : Fin 8) (m : Fin 4) (c : Cur) : endCluster s n m c = stnBoundary (clusterEnded s n m c) n := rfl

theorem clusterEnded_writing (s : State) (n : Fin 8) (m : Fin 4) (c : Cur) : (clusterEnded s n m c).g (R.WRS_STATUS_WRITING n) =
    (s.g (R.WRS_STATUS_WRITING n) - bitOf (s.g (R.WRS_STATUS_WRITING n)) m * 2 ^ m.val) % 2 ^ 4 := by
  have hne : (R.WRS_STATUS_WRITING n).addr ∉ [R.STN_STATUS n] := by
    simp only [List.mem_singleton, R.WRS_STATUS_WRITING, R.WRS_STATUS, R.STN_STATUS]; omega
  exact ((refreshWork_regsBut _ n).g hne).trans (s.g_u_self _ _ (by decide : 0 + 4 ≤ 32))

theorem clusterEnded_stops (s : State) (n : Fin 8) (m : Fin 4) (c : Cur) :
    ((clusterEnded s n m c).beam n m).cur = none ∧ ((clusterEnded s n m c).beam n m).judged = (s.beam n m).judged ++ [c] ∧
      bitOf ((clusterEnded s n m c).g (R.WRS_STATUS_WRITING n)) m = 0 ∧
      (∀ k : Fin 4, k ≠ m → (clusterEnded s n m c).beam n k = s.beam n k) ∧
      RegsBut s (clusterEnded s n m c) [R.WRS_STATUS n, R.STN_STATUS n] := by
  refine ⟨?_, ?_, ?_, fun k hk => ?_, ?_⟩
  · rw [clusterEnded, refreshWork_beam, State.beam_beamU_self]
  · rw [clusterEnded, refreshWork_beam, State.beam_beamU_self]; rfl
  · rw [clusterEnded_writing]
    exact bitOf_cleared ⟨_, writing_lt s n⟩ m
  · rw [clusterEnded, refreshWork_beam, State.beam_beamU_other _ _ _ hk]; rfl
  · exact (regsBut_u s (R.WRS_STATUS_WRITING n) _).trans (refreshWork_regsBut _ n)

/-- While another beam writes, the end of a cluster lets nothing go on. -/
theorem endCluster_others {s : State} {n : Fin 8} {m : Fin 4}
    (h : s.g (R.WRS_STATUS_WRITING n) - bitOf (s.g (R.WRS_STATUS_WRITING n)) m * 2 ^ m.val ≠ 0) (c : Cur) :
    endCluster s n m c = clusterEnded s n m c ∧ goPlace (endCluster s n m c) n = clusterEnded s n m c := by
  have hw : (clusterEnded s n m c).g (R.WRS_STATUS_WRITING n) ≠ 0 := by
    have hlt := writing_lt s n
    rw [clusterEnded_writing, Nat.mod_eq_of_lt (by omega)]
    exact h
  have he : endCluster s n m c = clusterEnded s n m c := (endCluster_eq s n m c).trans (stnBoundary_writing hw)
  exact ⟨he, by rw [he]; exact goPlace_stays (.inr hw)⟩

/-- A counted end of a cluster while another beam writes. -/
theorem endCluster_bump_stops {s : State} {n : Fin 8} {m : Fin 4} {a : Nat} (ha : a ∉ [R.WRS_STATUS n, R.STN_STATUS n])
    (h : s.g (R.WRS_STATUS_WRITING n) - bitOf (s.g (R.WRS_STATUS_WRITING n)) m * 2 ^ m.val ≠ 0) (c : Cur) :
    let t := endCluster (s.bump a) n m c
    ((t.beam n m).cur = none ∧ (t.beam n m).judged = (s.beam n m).judged ++ [c] ∧ bitOf (t.g (R.WRS_STATUS_WRITING n)) m = 0 ∧
      (∀ k : Fin 4, k ≠ m → t.beam n k = s.beam n k) ∧ RegsBut s t ([R.WRS_STATUS n, R.STN_STATUS n] ++ [a])) ∧ Counted s t a 1 := by
  have hw : (s.bump a).g (R.WRS_STATUS_WRITING n) = s.g (R.WRS_STATUS_WRITING n) :=
    (regsBut_bump s a).g fun hm => ha (List.mem_singleton.mp hm ▸ List.mem_cons_self ..)
  obtain ⟨hcur, hjudged, hbit, hbeams, hregs⟩ := clusterEnded_stops (s.bump a) n m c
  dsimp only
  rw [(endCluster_others (by rwa [hw]) c).1]
  refine ⟨⟨hcur, hjudged, hbit, hbeams, ((regsBut_bump s a).trans hregs).mono fun x hx => ?_⟩, (counted_bump s a).before hregs ha⟩
  simp only [List.mem_append, List.mem_cons] at hx ⊢
  tauto

/-! What the operations around the start of a cluster leave alone. -/

/-- The status and the cluster count of a station's write path, and what its beams write. -/
structure WritingView where
  status : Word
  clusters : Word
  cur : Fin 4 → Option Cur

def writingView (n : Fin 8) (s : State) : WritingView := ⟨s.rd (R.WRS_STATUS n), s.rd (R.WRS_CNT_CLUSTERS n), fun m => (s.beam n m).cur⟩

/-- Another register than the two that the view holds. -/
def besideWriting (n : Fin 8) (a : Nat) : Prop := a ≠ R.WRS_STATUS n ∧ a ≠ R.WRS_CNT_CLUSTERS n

section
variable (n : Fin 8) (s : State)

theorem writingView_wr {a : Nat} (w : Word) (ha : besideWriting n a) : writingView n (s.wr a w) = writingView n s := by
  rw [writingView, s.rd_wr_other _ ha.1.symm, s.rd_wr_other _ ha.2.symm]; rfl

theorem writingView_u {f : FRef} (v : Nat) (hf : besideWriting n f.addr) : writingView n (s.u f v) = writingView n s := writingView_wr n s _ hf

theorem writingView_bumpN {a : Nat} (k : Nat) (ha : besideWriting n a) : writingView n (s.bumpN a k) = writingView n s := writingView_wr n s _ ha

theorem besideWriting_stn (k : Fin 8) : besideWriting n (R.STN_STATUS k) := by
  unfold besideWriting R.STN_STATUS R.WRS_STATUS R.WRS_CNT_CLUSTERS; omega

theorem besideWriting_lane (l : Fin 68) : besideWriting n (R.OPL_STATUS l) := by
  unfold besideWriting R.OPL_STATUS R.WRS_STATUS R.WRS_CNT_CLUSTERS laneBase; split <;> omega

theorem besideWriting_low {a : Nat} (ha : a < 0x80000) : besideWriting n a := by
  unfold besideWriting R.WRS_STATUS R.WRS_CNT_CLUSTERS; omega

@[simp] theorem writingView_log (c r : Nat) (l : List Nat) (k : Nat) : writingView n (s.log c r l k) = writingView n s := rfl
@[simp] theorem writingView_tick : writingView n s.tick = writingView n s := rfl
@[simp] theorem writingView_emit (o : Out) : writingView n (s.emit o) = writingView n s := rfl
@[simp] theorem writingView_stnU (k : Fin 8) (f : Stn → Stn) : writingView n (s.stnU k f) = writingView n s := rfl
@[simp] theorem writingView_tpzU (f : Tpz → Tpz) : writingView n (s.tpzU f) = writingView n s := rfl
@[simp] theorem writingView_tpz (z : Tpz) : writingView n { s with tpz := z } = writingView n s := rfl
@[simp] theorem writingView_calU (k : Fin 8) (f : CalStn → CalStn) : writingView n (s.calU k f) = writingView n s := rfl
@[simp] theorem writingView_laneU (l : Fin 68) (f : Lane → Lane) : writingView n (s.laneU l f) = writingView n s := rfl
@[simp] theorem writingView_grn (g : Grn) : writingView n { s with grn := g } = writingView n s := rfl

/-- A change of a write path that lets its beams write what they write. -/
theorem writingView_wrsU (k : Fin 8) {f : Wrs → Wrs} (hf : ∀ (w : Wrs) (m : Fin 4), ((f w).beams[m]).cur = (w.beams[m]).cur) :
    writingView n (s.wrsU k f) = writingView n s := by
  have hcur (m : Fin 4) : ((s.wrsU k f).beam n m).cur = (s.beam n m).cur := by
    by_cases hk : n = k
    · subst hk
      simp only [State.beam, State.wrsU, vmod_self, hf]
    · simp only [State.beam, State.wrsU, vmod_other _ _ hk]
  simp only [writingView, hcur]
  rfl

theorem writingView_queueU (k : Fin 8) (q : Wrs → List Job) : writingView n (s.wrsU k fun w => { w with queue := q w }) = writingView n s :=
  writingView_wrsU n s k fun _ _ => rfl

theorem writingView_beamU (k : Fin 8) (j : Fin 4) {f : Beam → Beam} (hf : ∀ b, (f b).cur = b.cur) :
    writingView n (s.beamU k j f) = writingView n s := by
  refine writingView_wrsU n s k fun w m => ?_
  by_cases hm : m = j
  · subst hm
    simp only [vmod_self, hf]
  · simp only [vmod_other _ _ hm]

@[simp] theorem writingView_recallEnc (k : Fin 8) (j : Fin 4) : writingView n (recallEnc s k j) = writingView n s := by
  unfold recallEnc
  split
  · rfl
  · refine writingView_wrsU n s k fun w m => ?_
    by_cases hm : m = j
    · subst hm
      simp only [vmod_self]
    · simp only [vmod_other _ _ hm]

@[simp] theorem writingView_recallAll (k : Fin 8) : writingView n (recallAll s k) = writingView n s :=
  State.each_proj (writingView n) _ (fun t m => writingView_recallEnc n t k m) _ s

@[simp] theorem writingView_refreshWork (k : Fin 8) : writingView n (refreshWork s k) = writingView n s := by
  unfold refreshWork
  dsimp only
  rw [writingView_u n _ _ (besideWriting_stn n k)]
  split <;> rfl

@[simp] theorem writingView_refreshRebuild : writingView n (refreshRebuild s) = writingView n s := by
  rw [refreshRebuild, State.us_cons, State.us_cons, State.us_nil, writingView_u n _ _ (besideWriting_low n (by decide)),
    writingView_u n _ _ (besideWriting_low n (by decide))]

@[simp] theorem writingView_refreshAvail : writingView n (refreshAvail s) = writingView n s := by
  have hlow {f : FRef} (t : State) (v : Nat) (hf : f.addr < 0x80000) := writingView_u n t v (besideWriting_low n hf)
  unfold refreshAvail
  extract_lets a p t un t'
  have hstn : writingView n t = writingView n s :=
    State.each_proj (writingView n) _ (fun t k => writingView_u n t _ (besideWriting_stn n k)) _ s
  have htpz : writingView n t' = writingView n t := by
    change writingView n (t.us [_, _, _]) = _
    rw [State.us_cons, State.us_cons, State.us_cons, State.us_nil, hlow _ _ (by decide), hlow _ _ (by decide), hlow _ _ (by decide)]
  exact (writingView_tpz n t' _).trans (htpz.trans hstn)

/-- Clusters that give way are encoded anew. -/
theorem writingView_recallIf (p : State → Fin 4 → Bool) (k : Fin 8) (l : List (Fin 4)) :
    writingView n (s.each l fun t m => if p t m then recallEnc t k m else t) = writingView n s :=
  State.each_proj (writingView n) _ (fun t m => by split; exacts [writingView_recallEnc n t k m, rfl]) l s

@[simp] theorem writingView_queueJob (k : Fin 8) (j : Job) (front : Bool) : writingView n (queueJob s k j front) = writingView n s := by
  unfold queueJob
  split
  · rw [writingView_refreshWork, writingView_queueU]
  · split
    · rw [writingView_refreshWork, writingView_queueU]
    · extract_lets t
      have ht : writingView n t = writingView n s := writingView_recallIf n s _ k beams
      rw [writingView_refreshWork, writingView_queueU, ht]

@[simp] theorem writingView_reheadJobs (k : Fin 8) (p : Job → Bool) (f : Hdr → Hdr) : writingView n (reheadJobs s k p f) = writingView n s := by
  unfold reheadJobs
  extract_lets t
  have ht : writingView n t = writingView n s := writingView_recallIf n s _ k beams.reverse
  rw [writingView_queueU, ht]

@[simp] theorem writingView_queueRebuild (r : Rebuild) : writingView n (queueRebuild s r) = writingView n s := by
  unfold queueRebuild
  split
  · rfl
  · rw [writingView_refreshRebuild, writingView_tpzU]

@[simp] theorem writingView_logDegraded (S : Nat) (always : Bool) : writingView n (logDegraded s S always) = writingView n s := by
  unfold logDegraded
  dsimp only
  split
  · rfl
  · split <;> rfl

@[simp] theorem writingView_memberAbsent (S r : Nat) (always : Bool) : writingView n (memberAbsent s S r always) = writingView n s := by
  unfold memberAbsent
  split
  · rfl
  · dsimp only
    rw [writingView_logDegraded, writingView_queueRebuild]
    exact State.each_proj (writingView n) _ (fun t k => writingView_reheadJobs n t k _ _) _ _

@[simp] theorem writingView_loseJob (k : Fin 8) (j : Job) : writingView n (loseJob s k j) = writingView n s := by
  unfold loseJob
  split
  case h_3 => split <;> simp
  all_goals simp

@[simp] theorem writingView_moveRewrite (k : Fin 8) (j : Job) : writingView n (moveRewrite s k j) = writingView n s := by
  unfold moveRewrite
  split <;> simp

/-- A station that is let finish what it writes loses only what it has not begun. -/
@[simp] theorem writingView_loseStation (k : Fin 8) : writingView n (loseStation s k false) = writingView n s := by
  have hcnt {a : Nat} (ha : a = R.WRS_CNT_INTERRUPTED k ∨ a = R.WRS_CNT_FAILED k) : besideWriting n a := by
    unfold R.WRS_CNT_INTERRUPTED R.WRS_CNT_FAILED at ha
    unfold besideWriting R.WRS_STATUS R.WRS_CNT_CLUSTERS
    omega
  unfold loseStation
  extract_lets jobs cut counted emptied kept lost out
  have hcounted : writingView n counted = writingView n s :=
    (writingView_bumpN n _ _ (hcnt (.inr rfl))).trans (writingView_bumpN n _ _ (hcnt (.inl rfl)))
  have hemptied : writingView n emptied = writingView n counted := writingView_wrsU n counted k fun w m => by simp
  have hlost : writingView n lost = writingView n kept :=
    State.each_proj (writingView n) _ (fun t j => writingView_loseJob n t k j) jobs kept
  rw [writingView_refreshWork, writingView_refreshRebuild]
  exact hlost.trans (hemptied.trans hcounted)

@[simp] theorem writingView_watchFull (k : Fin 8) : writingView n (watchFull s k) = writingView n s := by
  unfold watchFull
  split
  · extract_lets recalled moves l queued
    have hqueued : writingView n queued = writingView n recalled := writingView_queueU n recalled k _
    rw [writingView_loseStation]
    refine (State.each_proj (writingView n) _ (fun t j => writingView_moveRewrite n t k j) _ queued).trans (hqueued.trans ?_)
    rw [writingView_recallAll, writingView_refreshAvail]
  · rfl

@[simp] theorem writingView_useSlot (k : Fin 8) (m : Fin 4) (j : Job) (pca : Nat) : writingView n (useSlot s k m j pca) = writingView n s := by
  unfold useSlot
  split <;> rfl

@[simp] theorem writingView_writeLanes (k : Fin 8) (m : Fin 4) : writingView n (writeLanes s k m) = writingView n s := by
  unfold writeLanes
  dsimp only
  split
  · rw [writingView_laneU, writingView_u n _ _ (besideWriting_lane n _), writingView_u n _ _ (besideWriting_lane n _)]
  · exact writingView_u n _ _ (besideWriting_lane n _)

@[simp] theorem writingView_livePower (view : State) (k : Fin 8) (m : Fin 4) : writingView n (livePower view s k m) = writingView n s := by
  have hpw : besideWriting n (R.WRS_PW_LIVE_PW k m).addr := by
    unfold besideWriting R.WRS_STATUS R.WRS_CNT_CLUSTERS R.WRS_PW_LIVE_PW R.WRS_PW_LIVE; dsimp only; omega
  unfold livePower State.nearest
  dsimp only
  rw [writingView_u n _ _ hpw]
  split <;> rfl

@[simp] theorem writingView_takeSet (k : Fin 8) (m : Fin 4) : writingView n (takeSet s k m) = writingView n s := by
  unfold takeSet
  dsimp only
  have htaken : writingView n (s.beamU k m fun b => { b with due := false, owed := 0, force := (s.wrs[k]).told }) = writingView n s :=
    writingView_beamU n s k m fun _ => rfl
  split
  · rw [writingView_livePower]
    exact (writingView_beamU n _ k m (f := fun b => { b with offset := 0 }) fun _ => rfl).trans htaken
  · split
    · rw [writingView_livePower]
      exact htaken
    · exact htaken

end

/-! A cluster starts (R158). -/

/-- The state in which a beam has begun a cluster, before what follows from the slot's use. -/
def clusterBegun (s : State) (n : Fin 8) (m : Fin 4) (e : Enc) : State :=
  let t := s.beamU n m (fun b => { b with
    enc := none, cur := some ⟨e.job, e.pca, e.time, 0, 0, false, false, false, e.rows, 0, false⟩ })
  let t := t.whenB ((t.beam n m).due && (t.beam n m).owed == 0) (fun t => takeSet t n m)
  (t.u (R.WRS_STATUS_WRITING n) (Nat.lor (t.g (R.WRS_STATUS_WRITING n)) (2 ^ m.val))).bump (R.WRS_CNT_CLUSTERS n)

/-- Where every condition holds the beam begins the cluster that it holds encoded. -/
theorem clusterWriteStart_begins {s : State} {n : Fin 8} {m : Fin 4} {e : Enc} (henc : (s.beam n m).enc = some e)
    (hcur : (s.beam n m).cur = none) (hstart : mayStart s n e = true) (hmay : writeMay s n m e.job.kind = true)
    (hlanes : lanesGood s n m = true) (hlink : sendsAtOnce (s.beam n m) = false) (hslot : slotAccepted s n m e.pca = true) :
    clusterWriteStart n m e.pca s = watchFull (refreshWork (useSlot (writeLanes ((clusterBegun s n m e).emit
      (.written n m e.pca e.rows)) n m) n m e.job e.pca) n) n := by
  simp only [clusterWriteStart, henc, hcur, hstart, hmay, hlanes, hlink, hslot, ne_eq, not_true_eq_false, if_false, Option.isSome_none,
    Bool.not_true, Bool.or_self, Bool.false_eq_true]
  rfl

theorem clusterBegun_writes (s : State) (n : Fin 8) (m : Fin 4) (e : Enc) :
    bitOf ((clusterBegun s n m e).g (R.WRS_STATUS_WRITING n)) m = 1 ∧
      ((clusterBegun s n m e).beam n m).cur = some ⟨e.job, e.pca, e.time, 0, 0, false, false, false, e.rows, 0, false⟩ ∧
      Counted s (clusterBegun s n m e) (R.WRS_CNT_CLUSTERS n) 1 := by
  have hne : R.WRS_STATUS n ≠ R.WRS_CNT_CLUSTERS n := by unfold R.WRS_STATUS R.WRS_CNT_CLUSTERS; omega
  unfold clusterBegun
  extract_lets t u
  have htaken : writingView n u = writingView n t := by
    change writingView n (t.whenB _ _) = _
    cases (t.beam n m).due && (t.beam n m).owed == 0
    · rfl
    · exact writingView_takeSet n t n m
  have hcount : (u.u (R.WRS_STATUS_WRITING n) (Nat.lor (u.g (R.WRS_STATUS_WRITING n)) (2 ^ m.val))).rd (R.WRS_CNT_CLUSTERS n) =
      s.rd (R.WRS_CNT_CLUSTERS n) := (u.rd_u_other _ _ hne.symm).trans (congrArg WritingView.clusters htaken)
  refine ⟨?_, ?_, ?_⟩
  · rw [(regsBut_bump _ _).g (mt List.mem_singleton.mp hne), State.g_u_self _ _ _ (by decide : 0 + 4 ≤ 32)]
    exact bitOf_lor ⟨_, writing_lt u n⟩ m
  · exact (congrFun (congrArg WritingView.cur htaken) m).trans (congrArg Beam.cur (State.beam_beamU_self s n m _))
  · exact (counted_bump _ _).trans (by rw [hcount])

/-- What the start of a cluster shows outlasts the use of its slot, even where it makes the disc full (R158, R275). -/
theorem clusterWriteStart_writes {s : State} {n : Fin 8} {m : Fin 4} {e : Enc} (henc : (s.beam n m).enc = some e)
    (hcur : (s.beam n m).cur = none) (hstart : mayStart s n e = true) (hmay : writeMay s n m e.job.kind = true)
    (hlanes : lanesGood s n m = true) (hlink : sendsAtOnce (s.beam n m) = false) (hslot : slotAccepted s n m e.pca = true) :
    bitOf ((clusterWriteStart n m e.pca s).g (R.WRS_STATUS_WRITING n)) m = 1 ∧
      ((clusterWriteStart n m e.pca s).beam n m).cur = some ⟨e.job, e.pca, e.time, 0, 0, false, false, false, e.rows, 0, false⟩ ∧
      Counted s (clusterWriteStart n m e.pca s) (R.WRS_CNT_CLUSTERS n) 1 := by
  obtain ⟨hbit, hbeam, hcount⟩ := clusterBegun_writes s n m e
  rw [clusterWriteStart_begins henc hcur hstart hmay hlanes hlink hslot]
  generalize ht : watchFull _ n = t
  have hview : writingView n t = writingView n (clusterBegun s n m e) := by subst ht; simp
  have hstatus : t.rd (R.WRS_STATUS n) = (clusterBegun s n m e).rd (R.WRS_STATUS n) := congrArg WritingView.status hview
  refine ⟨?_, (congrFun (congrArg WritingView.cur hview) m).trans hbeam, (congrArg WritingView.clusters hview).trans hcount⟩
  exact (congrArg (fun w => bitOf (getF w (R.WRS_STATUS_WRITING n)) m) hstatus).trans hbit

/-! What an operation of a lane leaves alone. -/

/-- An operation of a lane: nothing but registers of a list, lanes and the count of free values has changed. -/
structure LaneStep (s t : State) (l : List Nat) : Prop where
  regs : RegsBut s t l
  only : ∃ r v k, t = { s with regs := r, lanes := v, free := k }

theorem LaneStep.refl (s : State) : LaneStep s s [] := ⟨RegsBut.of_regs rfl _, _, _, _, rfl⟩

theorem LaneStep.trans {s t u : State} {l l' : List Nat} (h : LaneStep s t l) (h' : LaneStep t u l') : LaneStep s u (l ++ l') := by
  obtain ⟨_, _, _, rfl⟩ := h.only
  obtain ⟨_, _, _, rfl⟩ := h'.only
  exact ⟨h.regs.trans h'.regs, _, _, _, rfl⟩

theorem LaneStep.mono {s t : State} {l l' : List Nat} (h : LaneStep s t l) (hl : l ⊆ l') : LaneStep s t l' := ⟨h.regs.mono hl, h.only⟩

theorem LaneStep.wrs {s t : State} {l : List Nat} (h : LaneStep s t l) : t.wrs = s.wrs := by
  obtain ⟨_, _, _, rfl⟩ := h.only
  rfl

theorem LaneStep.beam {s t : State} {l : List Nat} (h : LaneStep s t l) (n : Fin 8) (m : Fin 4) : t.beam n m = s.beam n m := by
  rw [State.beam, h.wrs]; rfl

theorem laneStep_u (s : State) (f : FRef) (v : Nat) : LaneStep s (s.u f v) [f.addr] := ⟨regsBut_u s f v, _, _, _, rfl⟩
theorem laneStep_bumpN (s : State) (a k : Nat) : LaneStep s (s.bumpN a k) [a] := ⟨regsBut_bumpN s a k, _, _, _, rfl⟩
theorem laneStep_bump (s : State) (a : Nat) : LaneStep s (s.bump a) [a] := laneStep_bumpN s a 1
theorem laneStep_laneU (s : State) (l : Fin 68) (f : Lane → Lane) : LaneStep s (s.laneU l f) [] := ⟨RegsBut.of_regs rfl _, _, _, _, rfl⟩
theorem laneStep_free (s : State) (k : Nat) : LaneStep s { s with free := k } [] := ⟨RegsBut.of_regs rfl _, _, _, _, rfl⟩

theorem laneStep_bumpIf (s : State) (c : Bool) (a : Nat) : LaneStep s (s.whenB c fun t => t.bump a) [a] := by
  cases c
  · exact (LaneStep.refl s).mono (List.nil_subset _)
  · exact laneStep_bump s a

/-- A lane that processes samples takes free values, goes on, and shows it in its registers (R89). -/
theorem laneRun_cases (s : State) (l : Fin 68) (f : LaneIn) : laneRun s l f = s ∨ ∃ k g fs c, laneRun s l f =
    ((({ s with free := k } : State).laneU l g).us fs).whenB c (fun t => t.u (R.OPL_STATUS_CLIP_SEEN l) 1) := by
  by_cases h : (f.rf.isEmpty || !laneWorks s l) = true
  · exact .inl (if_pos h)
  · exact .inr ⟨_, _, _, _, if_neg h⟩

/-- The stretch of samples that has reached a lane changes no write path. -/
theorem laneRun_wrs (s : State) (l : Fin 68) (f : LaneIn) : (laneRun s l f).wrs = s.wrs := by
  obtain h | ⟨k, g, fs, c, h⟩ := laneRun_cases s l f
  · rw [h]
  · rw [h]
    cases c
    all_goals exact State.us_proj State.wrs (fun _ _ _ => rfl) fs _

theorem laneRun_beam (s : State) (l : Fin 68) (f : LaneIn) (n : Fin 8) (m : Fin 4) : (laneRun s l f).beam n m = s.beam n m := by
  rw [State.beam, laneRun_wrs]; rfl

theorem laneStep_tapsLoad (s : State) (l : Fin 68) : LaneStep s (tapsLoad s l) [] := laneStep_laneU s l _

theorem laneStep_flywheelTo (s : State) (l : Fin 68) (q : Nat) : LaneStep s (flywheelTo s l q) [] := by
  unfold flywheelTo
  extract_lets t
  have ht : LaneStep s t [] := laneStep_laneU s l _
  split
  · exact ht.trans (laneStep_tapsLoad t l)
  · exact ht

theorem laneStep_takeFrame (s : State) (l : Fin 68) : LaneStep s (takeFrame s l).2 [] := laneStep_free s _

theorem laneStep_bookMargins (s : State) (l : Fin 68) (a b : Nat) : LaneStep s (bookMargins s l a b) [] := laneStep_laneU s l _

/-! A frame's result is booked (R112, R169, R170). -/

theorem frameResult_books (s : State) (n : Fin 8) (m : Fin 4) (failed lane : Bool) :
    Counted s (frameResult s n m failed lane) (R.WRS_CNT_FRAMES_FAILED n) (b2n failed) ∧
      RegsBut s (frameResult s n m failed lane) [R.WRS_CNT_FRAMES_FAILED n] := by
  unfold frameResult
  extract_lets t
  cases failed
  · exact ⟨counted_zero rfl, RegsBut.of_regs rfl _⟩
  · exact ⟨counted_bump t _, regsBut_bump t _⟩

theorem frameResult_beam (s : State) (n : Fin 8) (m : Fin 4) (failed lane : Bool) : (frameResult s n m failed lane).beam n m =
    putResult (s.beam n m) fun c =>
      { c with results := c.results + 1, failed := c.failed + b2n failed, laneFail := c.laneFail || lane } := by
  unfold frameResult
  extract_lets t
  have ht : t.beam n m = _ := State.beam_beamU_self s n m _
  cases failed
  · exact ht
  · exact ht

/-- With no older cluster the result goes to the one that is being written. -/
theorem putResult_cur {b : Beam} {c : Cur} (hj : b.judged = []) (hc : b.cur = some c) (ht : takesResults c = true) (f : Cur → Cur) :
    (putResult b f).cur = some (f c) := by
  simp [putResult, putResult.go, hj, hc, ht]

theorem resultCluster_cur {b : Beam} {c : Cur} (hj : b.judged = []) (hc : b.cur = some c) (ht : takesResults c = true) :
    resultCluster b = some c := by
  simp [resultCluster, hj, hc, ht]

/-- What a verify lane does once it has counted: a whole-frame erasure is one more of the cluster, else the frame is confirmed. -/
def verifySettled (t : State) (l : Fin 68) (whole : Bool) (a b confirmed : Nat) : State :=
  if whole then t.laneU l (fun y => { y with erased := y.erased + 1 })
  else (bookMargins t l a b).laneU l (fun y => { y with miss := 0, confirmed := confirmed })

theorem laneStep_verifySettled (t : State) (l : Fin 68) (whole : Bool) (a b confirmed : Nat) :
    LaneStep t (verifySettled t l whole a b confirmed) [] := by
  cases whole
  · exact (laneStep_bookMargins t l a b).trans (laneStep_laneU _ l _)
  · exact laneStep_laneU t l _

/-- The mismatches of the frame under way against the row that was written (R112). -/
def rowMismatches (x : Lane) (row : List Byte) : Nat :=
  mismatches x.dsp ((framePlaces x).1 + 40) (((frameBits row).drop 40).take 1240) +
    mismatches x.dsp ((framePlaces x).2.1 + 40) ((frameBits row).drop 1320)

theorem verifyFrame_reports (s : State) (l : Fin 68) (row : List Byte) : (verifyFrame s l row).1.case = verifyCase s l ∧
    (verifyFrame s l row).1.mismA + (verifyFrame s l row).1.mismB = rowMismatches s.lanes[l] row := ⟨rfl, rfl⟩

theorem verifyFrame_state (s : State) (l : Fin 68) (row : List Byte) : ∃ invalid whole halfA a b confirmed q, (verifyFrame s l row).2 =
    flywheelTo (verifySettled (((((takeFrame s l).2.bumpN (R.OPL_CNT_MISMATCH l) (rowMismatches s.lanes[l] row)).bumpN
      (R.OPL_CNT_INVALID_WORD l) invalid).whenB whole (fun s => s.bump (R.OPL_CNT_ERASED l))).whenB halfA
      (fun s => s.bump (R.OPL_CNT_HALF_ERASED l))) l whole a b confirmed) l q :=
  ⟨_, _, _, _, _, _, _, rfl⟩

/-- A verify lane counts the mismatches and changes nothing of the write path (R112). -/
theorem verifyFrame_counts (s : State) (l : Fin 68) (row : List Byte) :
    Counted s (verifyFrame s l row).2 (R.OPL_CNT_MISMATCH l) (rowMismatches s.lanes[l] row) ∧
      LaneStep s (verifyFrame s l row).2
        [R.OPL_CNT_MISMATCH l, R.OPL_CNT_INVALID_WORD l, R.OPL_CNT_ERASED l, R.OPL_CNT_HALF_ERASED l] := by
  obtain ⟨invalid, whole, halfA, a, b, confirmed, q, h⟩ := verifyFrame_state s l row
  rw [h]
  generalize rowMismatches s.lanes[l] row = mism
  have hcounted := counted_bumpN (takeFrame s l).2 (R.OPL_CNT_MISMATCH l) mism
  have hmism := (laneStep_takeFrame s l).trans (laneStep_bumpN (takeFrame s l).2 (R.OPL_CNT_MISMATCH l) mism)
  generalize (takeFrame s l).2.bumpN (R.OPL_CNT_MISMATCH l) mism = t at hcounted hmism ⊢
  have hrest := (((laneStep_bumpN t (R.OPL_CNT_INVALID_WORD l) invalid).trans
    (laneStep_bumpIf _ whole (R.OPL_CNT_ERASED l))).trans
    (laneStep_bumpIf _ halfA (R.OPL_CNT_HALF_ERASED l))).trans
    ((laneStep_verifySettled _ l whole a b confirmed).trans (laneStep_flywheelTo _ l q))
  refine ⟨(hcounted.after (laneStep_takeFrame s l).regs (List.not_mem_nil)).before hrest.regs ?_, (hmism.trans hrest).mono ?_⟩
  · simp [R.OPL_CNT_MISMATCH, R.OPL_CNT_INVALID_WORD, R.OPL_CNT_ERASED, R.OPL_CNT_HALF_ERASED]
  · simp

section
variable {s : State} {n : Fin 8} {m : Fin 4} {f : LaneIn} {c : Cur}

/-- A lane that has failed reports a failed result (R115). -/
theorem frameVerifyResult_failed (hc : resultCluster (s.beam n m) = some c)
    (hf : (laneRun s (workLane s n m true) f).on (R.OPL_STATUS_FAILED (workLane s n m true)) = true ∨
      (laneRun s (workLane s n m true) f).on (R.OPL_STATUS_ADC_FAILED (laneOf n m true)) = true) :
    frameVerifyResult n m f s = frameResult (laneRun s (workLane s n m true) f) n m true true := by
  unfold frameVerifyResult
  dsimp only
  rw [laneRun_beam, hc]
  exact if_pos hf

/-- The frame fails by R170. -/
def verifyBad (s : State) (n : Fin 8) (v : Verified) : Bool :=
  decide (v.case = 3 ∨ v.case = 5 ∨ v.case = 6 ∨ s.g (R.WRS_VERIFY_MISMATCH_MAX n) < v.mismA + v.mismB ∨
    s.g (R.WRS_VERIFY_ERASED_MAX n) < v.erased ∨ v.marginA < s.g (R.WRS_VERIFY_MARGIN_MIN n) ∨ v.marginB < s.g (R.WRS_VERIFY_MARGIN_MIN n))

/-- A settled frame whose last bit is decided is judged (R112, R170). -/
theorem frameVerifyResult_judged {l : Fin 68} {u : State} (hl : workLane s n m true = l) (hu : laneRun s l f = u)
    (hc : resultCluster (s.beam n m) = some c) (hadc : u.on (R.OPL_STATUS_ADC_FAILED (laneOf n m true)) = false) (hworks : laneWorks u l = true)
    (hmode : u.g (R.OPL_MODE_MODE l) = 2) (hcase : verifyCase u l ≠ 0) (hn : (framePlaces u.lanes[l]).2.1 + 1280 ≤ u.lanes[l].dsp.n) :
    ∃ b, frameVerifyResult n m f s = (frameResult (verifyFrame u l ((c.rows[c.results]?).getD [])).2 n m
      (verifyBad (verifyFrame u l ((c.rows[c.results]?).getD [])).2 n (verifyFrame u l ((c.rows[c.results]?).getD [])).1) false).u
        (R.OPL_STATUS_ACTIVE l) b := by
  have hfailed : u.on (R.OPL_STATUS_FAILED l) = false := by
    have h := hworks
    simp only [laneWorks, Bool.and_eq_true, Bool.not_eq_true'] at h
    exact h.1.2
  have hgo : ¬ ((!laneWorks u l) = true ∨ u.g (R.OPL_MODE_MODE l) ≠ 2 ∨ verifyCase u l = 0 ∨
      u.lanes[l].dsp.n < (framePlaces u.lanes[l]).2.1 + 1280) := by
    rw [hworks, hmode]
    simp only [Bool.not_true, Bool.false_eq_true, ne_eq, not_true_eq_false, false_or, not_or, Nat.not_lt]
    exact ⟨hcase, hn⟩
  subst hl hu
  unfold frameVerifyResult
  dsimp only
  rw [laneRun_beam, hc]
  exact ⟨_, (if_neg (by simp [hfailed, hadc])).trans (if_neg hgo)⟩

end

/-! A passed cluster (R173), and a beam that resumes (R176, R178). -/

/-- The verdict of a calibration's cluster that has passed reports to no other block. -/
theorem clusterVerdict_testPassed {s : State} {n : Fin 8} {m : Fin 4} {c : Cur} {rest : List Cur} (hj : (s.beam n m).judged = c :: rest)
    (hjudge : judgeable c = true) (hpass : passes s n c = true) (hkind : c.job.kind = .test) : clusterVerdict n m s =
      refreshWork (((s.beamU n m fun b => { b with judged := rest }).bump (R.WRS_CNT_PASSED n)).beamU n m fun b => { b with failRun := 0 }) n := by
  have hpass' : passes (s.beamU n m fun b => { b with judged := rest }) n c = true := hpass
  simp only [clusterVerdict, hj, hjudge, hpass', clusterPassed, hkind, Bool.not_true, Bool.false_eq_true, if_false, if_true]

theorem clusterVerdict_testPassed_spec {s : State} {n : Fin 8} {m : Fin 4} {c : Cur} {rest : List Cur} (hj : (s.beam n m).judged = c :: rest)
    (hjudge : judgeable c = true) (hpass : passes s n c = true) (hkind : c.job.kind = .test) :
    Counted s (clusterVerdict n m s) (R.WRS_CNT_PASSED n) 1 ∧ ((clusterVerdict n m s).beam n m).judged = rest ∧
      ((clusterVerdict n m s).beam n m).failRun = 0 := by
  have hne : R.WRS_CNT_PASSED n ∉ [R.STN_STATUS n] := by simp only [List.mem_singleton, R.WRS_CNT_PASSED, R.STN_STATUS]; omega
  have hbeam (t : State) : ((t.beamU n m fun b => { b with judged := rest }).bump (R.WRS_CNT_PASSED n)).beam n m = { t.beam n m with judged := rest } :=
    State.beam_beamU_self t n m _
  rw [clusterVerdict_testPassed hj hjudge hpass hkind]
  refine ⟨?_, ?_, ?_⟩
  · exact Counted.before (counted_bump (s.beamU n m fun b => { b with judged := rest }) _) (refreshWork_regsBut _ n) hne
  · rw [refreshWork_beam, State.beam_beamU_self, hbeam]
  · rw [refreshWork_beam, State.beam_beamU_self]

theorem bitOf_unset : ∀ (w : Fin 16) (m : Fin 4), bitOf w.val m.val = 1 → bitOf ((w.val - 2 ^ m.val) % 2 ^ 4) m.val = 0 := by decide

/-- The state in which a beam is suspended no more, before what is encoded is encoded anew. -/
def beamResumed (s : State) (n : Fin 8) (m : Fin 4) : State :=
  (s.u (R.WRS_STATUS_SUSPENDED n) (s.g (R.WRS_STATUS_SUSPENDED n) - 2 ^ m.val)).beamU n m fun b => { b with failRun := 0 }

theorem beamResumed_spec {s : State} {n : Fin 8} {m : Fin 4} (h : bitOf (s.g (R.WRS_STATUS_SUSPENDED n)) m = 1) :
    bitOf ((beamResumed s n m).g (R.WRS_STATUS_SUSPENDED n)) m = 0 ∧ ((beamResumed s n m).beam n m).failRun = 0 ∧
      RegsBut s (beamResumed s n m) [R.WRS_STATUS n] := by
  refine ⟨?_, congrArg Beam.failRun (State.beam_beamU_self _ n m _), regsBut_u s (R.WRS_STATUS_SUSPENDED n) _⟩
  have hg : (beamResumed s n m).g (R.WRS_STATUS_SUSPENDED n) = (s.g (R.WRS_STATUS_SUSPENDED n) - 2 ^ m.val) % 2 ^ 4 :=
    s.g_u_self _ _ (by decide : 4 + 4 ≤ 32)
  rw [hg]
  exact bitOf_unset ⟨_, getF_lt _ _⟩ m h

theorem beamResume_now {s : State} {n : Fin 8} {m : Fin 4} (h : (s.beam n m).suspAt = some s.now) : beamResume n m s = s := if_pos (.inr h)

theorem beamResume_later {s : State} {n : Fin 8} {m : Fin 4} (h : bitOf (s.g (R.WRS_STATUS_SUSPENDED n)) m = 1)
    (hs : (s.beam n m).suspAt ≠ some s.now) : beamResume n m s = beamBack (beamResumed s n m) n :=
  if_neg (not_or.mpr ⟨by rw [h]; decide, hs⟩)

/-! What waits encoded goes back to the queue (R88). -/

theorem mem_insertBy_iff {α : Type} {lt : α → α → Bool} {x y : α} {l : List α} : y ∈ insertBy lt x l ↔ y = x ∨ y ∈ l := by
  induction l with
  | nil => simp [insertBy]
  | cons z l ih =>
    rw [insertBy]
    split
    · simp
    · rw [List.mem_cons, ih, List.mem_cons, or_left_comm]

theorem mem_sortBy {α : Type} {lt : α → α → Bool} {y : α} {l : List α} : y ∈ sortBy lt l ↔ y ∈ l := by
  induction l with
  | nil => rfl
  | cons z l ih => rw [sortBy, mem_insertBy_iff, ih, List.mem_cons]

theorem recallEnc_regs (s : State) (n : Fin 8) (m : Fin 4) : (recallEnc s n m).regs = s.regs := by
  unfold recallEnc
  split <;> rfl

/-- A beam that is recalled holds nothing encoded, and the other beams hold what they held. -/
theorem recallEnc_beam (s : State) (n : Fin 8) (m k : Fin 4) :
    (recallEnc s n m).beam n k = if k = m then { s.beam n k with enc := none } else s.beam n k := by
  unfold recallEnc
  split
  · next h =>
    split
    · next hk =>
      subst hk
      change (s.beam n k).enc = none at h
      rw [← h]
    · rfl
  · split
    · next hk =>
      subst hk
      simp only [State.beam, vmod_self]
    · next hk => simp only [State.beam, vmod_self, vmod_other _ _ hk]

theorem recallAll_regs (s : State) (n : Fin 8) : (recallAll s n).regs = s.regs := State.each_proj State.regs _ (fun t m => recallEnc_regs t n m) _ s

/-- A recall of every beam takes nothing from a beam but what it holds encoded. -/
theorem recallAll_beam (s : State) (n : Fin 8) (k : Fin 4) : { (recallAll s n).beam n k with enc := none } = { s.beam n k with enc := none } := by
  refine State.each_proj (fun t => { t.beam n k with enc := none }) _ (fun t m => ?_) _ s
  rw [recallEnc_beam]
  split <;> rfl

theorem recallAll_enc (s : State) (n : Fin 8) (k : Fin 4) : ((recallAll s n).beam n k).enc = none := by
  refine State.each_sets (P := fun m t => (t.beam n m).enc = none) (fun t m => ?_) (fun t m j h => ?_) _ s k
    (mem_sortBy.mpr (by fin_cases k <;> decide))
  · rw [recallEnc_beam, if_pos rfl]
  · rw [recallEnc_beam]
    split
    · rfl
    · exact h

/-- A station that cannot go anywhere now gives up what it holds encoded and stays (R88, R178). -/
theorem beamBack_stays {s : State} {n : Fin 8} (h : s.g (R.STN_STATUS_STATE n) ≠ stACTIVE ∨ s.g (R.WRS_STATUS_WRITING n) ≠ 0) :
    beamBack s n = recallAll s n := by
  have hregs : RegsBut s (recallAll s n) [] := RegsBut.of_regs (recallAll_regs s n) _
  exact goPlace_stays (by rwa [hregs.g List.not_mem_nil, hregs.g List.not_mem_nil])

/-- A resumed beam of such a station. -/
theorem beamResume_stays {s : State} {n : Fin 8} {m : Fin 4} (h : bitOf (s.g (R.WRS_STATUS_SUSPENDED n)) m = 1)
    (hstay : s.g (R.STN_STATUS_STATE n) ≠ stACTIVE ∨ s.g (R.WRS_STATUS_WRITING n) ≠ 0) :
    let t := beamBack (beamResumed s n m) n
    bitOf (t.g (R.WRS_STATUS_SUSPENDED n)) m = 0 ∧ (t.beam n m).failRun = 0 ∧ RegsBut s t [R.WRS_STATUS n] ∧
      ∀ k : Fin 4, (t.beam n k).enc = none := by
  obtain ⟨hbit, hrun, hregs⟩ := beamResumed_spec h
  have hstate : (beamResumed s n m).g (R.STN_STATUS_STATE n) = s.g (R.STN_STATUS_STATE n) := hregs.g (by
    simp only [List.mem_singleton, R.STN_STATUS_STATE, R.STN_STATUS, R.WRS_STATUS]; omega)
  have hwriting : (beamResumed s n m).g (R.WRS_STATUS_WRITING n) = s.g (R.WRS_STATUS_WRITING n) :=
    s.g_u_bits _ _ _ (.inr (by decide : 0 + 4 ≤ 4)) (by decide : 0 + 4 ≤ 32)
  dsimp only
  rw [beamBack_stays (by rwa [hstate, hwriting])]
  have hrecalled : RegsBut (beamResumed s n m) (recallAll (beamResumed s n m) n) [] := RegsBut.of_regs (recallAll_regs _ n) _
  refine ⟨?_, ?_, hregs.trans hrecalled, recallAll_enc _ n⟩
  · rw [hrecalled.g List.not_mem_nil]
    exact hbit
  · exact (congrArg Beam.failRun (recallAll_beam (beamResumed s n m) n m)).trans hrun

/-! The words of a pair (R161, R162). -/

theorem nextWord_waiting {b : Beam} {w : BitVec 40} {t : List (BitVec 40)} (h : b.link = w :: t) (k : Nat) (osc : List (Nat × Nat)) :
    (nextWord b (k + 1) osc).1 = w := by
  simp only [nextWord, h]

theorem nextWord_idle {b : Beam} (hl : b.link = []) (hc : b.cur = none) (k : Nat) (osc : List (Nat × Nat)) : nextWord b k osc = (0#40, b, k, osc) := by
  simp only [nextWord, hl, hc]
  rfl

theorem nextWord_data {b : Beam} {c : Cur} (hl : b.link = []) (hc : b.cur = some c) (hs : c.sent < clusterLength) (k : Nat) (o : Nat × Nat)
    (osc : List (Nat × Nat)) : (nextWord b k (o :: osc)).1 = (nextData40 c o.1 o.2).1 := by
  simp only [nextWord, hl, hc, if_neg (Nat.not_le.mpr hs)]
  rfl

/-- The first DATA word of a cluster has CSTART and the levels of its first 24 channel bits (R75, R161). -/
theorem nextData40_first {c : Cur} (hs : c.sent = 0) (hl : c.level = false) (phase : Nat) :
    (nextData40 c 24 phase).1 = dataWord true phase (nrzi false (clusterBits c.rows 0 24)) := by
  have hk : min (min 24 24) (clusterLength - 0) = 24 := by decide
  simp only [nextData40, hs, hl, hk]
  rfl

theorem nextWord_sync (b : Beam) (k : Nat) (osc : List (Nat × Nat)) : (nextWord b k osc).2.1.sync = b.sync := by
  unfold nextWord
  split
  · rfl
  · split <;> rfl
  · rfl

theorem linkWords_length (k : Nat) (b : Beam) (other : Nat) (osc : List (Nat × Nat)) : (linkWords k b other osc).1.length = k := by
  induction k generalizing b other osc with
  | zero => rfl
  | succ k ih => exact congrArg (· + 1) (ih _ _ _)

theorem linkWords_sync (k : Nat) (b : Beam) (other : Nat) (osc : List (Nat × Nat)) : (linkWords k b other osc).2.sync = b.sync := by
  induction k generalizing b other osc with
  | zero => rfl
  | succ k ih => exact (ih _ _ _).trans (nextWord_sync b other osc)

theorem linkWords_head (k : Nat) (b : Beam) (other : Nat) (osc : List (Nat × Nat)) :
    (linkWords (k + 1) b other osc).1.head? = some (nextWord b other osc).1 := rfl

/-- A pair with nothing to send is IDLE. -/
theorem linkWords_idle {b : Beam} (hl : b.link = []) (hc : b.cur = none) (k other : Nat) (osc : List (Nat × Nat)) :
    linkWords k b other osc = (List.replicate k 0#40, b) := by
  induction k with
  | zero => rfl
  | succ k ih =>
    rw [linkWords, nextWord_idle hl hc]
    dsimp only
    rw [ih]
    rfl

/-- What a beam may go on to write (R159). -/
def linkGo (s : State) (n : Fin 8) (m : Fin 4) : Option Cur := (s.beam n m).cur.filter fun c => writeHolds s n c.job.kind

/-- The beam with what it may go on to write. -/
def linkReady (s : State) (n : Fin 8) (m : Fin 4) : Beam := { s.beam n m with cur := linkGo s n m }

/-- The 63 words that a pair sends, and the beam after them (R164). -/
def linkSent (s : State) (n : Fin 8) (m : Fin 4) (osc : List (Nat × Nat)) : List (BitVec 40) × Beam :=
  linkWords 63 (linkReady s n m) (if (linkGo s n m).isSome then 3 else 63) osc

/-- What a beam may not write now it keeps. -/
def linkKept (s : State) (n : Fin 8) (m : Fin 4) (b : Beam) : Beam := if (linkGo s n m).isSome then b else { b with cur := (s.beam n m).cur }

/-- The SYNC word after some words (R161). -/
def syncWord (m : Fin 4) (sync : BitVec 16) (words : List (BitVec 40)) : BitVec 40 :=
  BitVec.ofNat 40 (0xBC * 2 ^ 32 + m.val * 2 ^ 24 + sync.toNat * 2 ^ 8 + linkCrc words)

/-- Words leave the chip, the SYNC word after them, and the pair's beam goes on. -/
def linkSend (s : State) (n : Fin 8) (m : Fin 4) (words : List (BitVec 40)) (b : Beam) : State :=
  (s.each (words ++ [syncWord m b.sync words]) fun s w => s.emit (.laser n m w)).beamU n m fun _ => { b with sync := b.sync + 1 }

theorem linkSyncWord_active {s : State} {n : Fin 8} (h : s.on (R.WRS_STATUS_LINK_ACTIVE n) = true) (m : Fin 4) (osc : List (Nat × Nat)) :
    linkSyncWord n m osc s = linkSend s n m (linkSent s n m osc).1 (linkKept s n m (linkSent s n m osc).2) := by
  rw [linkSyncWord, if_pos h, linkSent, linkReady, linkGo]
  dsimp only
  generalize linkWords 63 _ _ osc = r
  rfl

theorem linkKept_sync (s : State) (n : Fin 8) (m : Fin 4) (b : Beam) : (linkKept s n m b).sync = b.sync := by
  unfold linkKept
  split <;> rfl

/-- Words leave the chip in their order. -/
theorem each_emit_out (s : State) (n : Fin 8) (m : Fin 4) (l : List (BitVec 40)) :
    (s.each l (fun s w => s.emit (.laser n m w))).out = l.reverse.map (Out.laser n m) ++ s.out := by
  induction l generalizing s with
  | nil => rfl
  | cons w l ih =>
    refine (ih (s.emit (.laser n m w))).trans ?_
    rw [List.reverse_cons, List.map_append, List.append_assoc]
    rfl

theorem linkSend_sends (s : State) (n : Fin 8) (m : Fin 4) (words : List (BitVec 40)) (b : Beam) :
    (linkSend s n m words b).out = .laser n m (syncWord m b.sync words) :: (words.reverse.map (Out.laser n m) ++ s.out) ∧
      ((linkSend s n m words b).beam n m).sync = b.sync + 1 ∧ (linkSend s n m words b).regs = s.regs ∧
      ((linkSend s n m words b).beam n m).cur = b.cur := by
  have hbeam : (linkSend s n m words b).beam n m = { b with sync := b.sync + 1 } := State.beam_beamU_self _ n m _
  have hregs : (linkSend s n m words b).regs = s.regs := State.each_proj State.regs (fun s w => s.emit (.laser n m w)) (fun _ _ => rfl) _ s
  refine ⟨?_, congrArg Beam.sync hbeam, hregs, (congrArg Beam.cur hbeam).trans rfl⟩
  refine (each_emit_out s n m _).trans ?_
  rw [List.reverse_append, List.map_append, List.append_assoc]
  rfl

section
variable {s : State} {n : Fin 8} {m : Fin 4} (osc : List (Nat × Nat))

/-- A pair that sends: its words, then the SYNC word with their CRC, and its count goes on (R161). -/
theorem linkSyncWord_sends (h : s.on (R.WRS_STATUS_LINK_ACTIVE n) = true) :
    (linkSyncWord n m osc s).out = .laser n m (syncWord m (s.beam n m).sync (linkSent s n m osc).1) ::
        ((linkSent s n m osc).1.reverse.map (Out.laser n m) ++ s.out) ∧
      ((linkSyncWord n m osc s).beam n m).sync = (s.beam n m).sync + 1 ∧ (linkSyncWord n m osc s).regs = s.regs ∧
      ((linkSyncWord n m osc s).beam n m).cur = (linkKept s n m (linkSent s n m osc).2).cur := by
  have hsync : (linkKept s n m (linkSent s n m osc).2).sync = (s.beam n m).sync := by
    rw [linkKept_sync, linkSent, linkWords_sync]
    rfl
  have hsend := linkSend_sends s n m (linkSent s n m osc).1 (linkKept s n m (linkSent s n m osc).2)
  rw [hsync] at hsend
  rwa [linkSyncWord_active h]

/-- A word that waits goes first. -/
theorem linkSent_waiting {w : BitVec 40} {rest : List (BitVec 40)} (h : (s.beam n m).link = w :: rest) : (linkSent s n m osc).1.head? = some w := by
  have hready : (linkReady s n m).link = w :: rest := h
  rw [linkSent, linkWords_head]
  split
  · exact congrArg some (nextWord_waiting hready 2 osc)
  · exact congrArg some (nextWord_waiting hready 62 osc)

/-- With nothing that may be sent the words are IDLE, and the beam keeps its cluster. -/
theorem linkSent_idle (hl : (s.beam n m).link = []) (hgo : linkGo s n m = none) :
    (linkSent s n m osc).1 = List.replicate 63 0#40 ∧ (linkKept s n m (linkSent s n m osc).2).cur = (s.beam n m).cur := by
  refine ⟨?_, ?_⟩
  · rw [linkSent, linkWords_idle (b := linkReady s n m) hl hgo]
  · generalize (linkSent s n m osc).2 = b
    rw [linkKept, hgo]
    rfl

theorem linkGo_none (h : (s.beam n m).cur = none) : linkGo s n m = none := by rw [linkGo, h]; rfl

theorem linkGo_ceased {c : Cur} (h : (s.beam n m).cur = some c) (hw : writeHolds s n c.job.kind = false) : linkGo s n m = none := by
  rw [linkGo, h, Option.filter, hw]
  rfl

theorem linkGo_holds {c : Cur} (h : (s.beam n m).cur = some c) (hw : writeHolds s n c.job.kind = true) : linkGo s n m = some c := by
  rw [linkGo, h, Option.filter, hw]
  rfl

/-- A cluster that begins is announced by its first DATA word. -/
theorem linkSent_first {c : Cur} {ph : Nat} (hl : (s.beam n m).link = []) (h : (s.beam n m).cur = some c)
    (hw : writeHolds s n c.job.kind = true) (hsent : c.sent = 0) (hlevel : c.level = false) :
    (linkSent s n m ((24, ph) :: osc)).1.head? = some (dataWord true ph (nrzi false (clusterBits c.rows 0 24))) := by
  have hlt : c.sent < clusterLength := by rw [hsent]; decide
  rw [linkSent, linkWords_head, nextWord_data (b := linkReady s n m) hl (linkGo_holds h hw) hlt, nextData40_first hsent hlevel]

end

/-! O16. -/

section
variable {s : State} {n : Fin 8} {m : Fin 4}

/-- Neither count of clusters that end early is the status of the write path or of the station. -/
theorem not_mem_endRegs {a : Nat} (ha : a = R.WRS_CNT_INTERRUPTED n ∨ a = R.WRS_CNT_ABANDONED n) : a ∉ [R.WRS_STATUS n, R.STN_STATUS n] := by
  simp only [List.mem_cons, List.not_mem_nil, or_false, R.WRS_STATUS, R.STN_STATUS]
  unfold R.WRS_CNT_INTERRUPTED R.WRS_CNT_ABANDONED at ha
  omega

theorem clusterWriteEnd_under {c : Cur} (hc : (s.beam n m).cur = some c) (h : c.sent < clusterLength) : clusterWriteEnd n m s = s := by
  rw [clusterWriteEnd, hc]
  exact if_pos h

theorem clusterWriteEnd_done {c : Cur} (hc : (s.beam n m).cur = some c) (h : clusterLength ≤ c.sent) :
    clusterWriteEnd n m s = goPlace (endCluster s n m c) n := by
  rw [clusterWriteEnd, hc]
  exact if_neg (Nat.not_lt.mpr h)

theorem clusterInterrupted_holds {c : Cur} (hc : (s.beam n m).cur = some c) (h : writeHolds s n c.job.kind = true) :
    clusterInterrupted n m s = s := by
  rw [clusterInterrupted, hc]
  exact if_pos h

theorem clusterInterrupted_ceased {c : Cur} (hc : (s.beam n m).cur = some c) (h : writeHolds s n c.job.kind = false) :
    clusterInterrupted n m s = endCluster (s.bump (R.WRS_CNT_INTERRUPTED n)) n m { c with interrupted := true } := by
  rw [clusterInterrupted, hc]
  exact if_neg (by rw [h]; decide)

theorem clusterAbandon_failed {c : Cur} (hc : (s.beam n m).cur = some c) (h : s.on (R.WRS_CTRL_ABANDON n) = true ∧
    s.g (R.WRS_VERIFY_FRAME_FAIL_MAX n) < c.failed) :
    clusterAbandon n m s = endCluster (s.bump (R.WRS_CNT_ABANDONED n)) n m { c with abandoned := true } := by
  rw [clusterAbandon, hc]
  exact if_pos h

theorem verifyResultTimeout_counts (h : awaitsResult (s.beam n m) = true) :
    Counted s (verifyResultTimeout n m s) (R.WRS_CNT_FRAMES_FAILED n) 1 ∧ RegsBut s (verifyResultTimeout n m s) [R.WRS_CNT_FRAMES_FAILED n] := by
  rw [verifyResultTimeout, if_pos h]
  exact frameResult_books s n m true true

variable {f : LaneIn} {c : Cur}

theorem frameVerifyResult_failed_spec (hj : (s.beam n m).judged = []) (hc : (s.beam n m).cur = some c) (ht : takesResults c = true)
    (hf : (laneRun s (workLane s n m true) f).on (R.OPL_STATUS_FAILED (workLane s n m true)) = true ∨
      (laneRun s (workLane s n m true) f).on (R.OPL_STATUS_ADC_FAILED (laneOf n m true)) = true) :
    Counted (laneRun s (workLane s n m true) f) (frameVerifyResult n m f s) (R.WRS_CNT_FRAMES_FAILED n) 1 ∧
      ((frameVerifyResult n m f s).beam n m).cur = some { c with results := c.results + 1, failed := c.failed + 1, laneFail := true } := by
  rw [frameVerifyResult_failed (resultCluster_cur hj hc ht) hf]
  refine ⟨(frameResult_books _ n m true true).1, ?_⟩
  rw [frameResult_beam, laneRun_beam, putResult_cur hj hc ht, Bool.or_true]
  rfl

/-- The counters of a verify lane and of a write path, and the lane's status, are different registers. -/
theorem verifyRegs_ne (l : Fin 68) (n : Fin 8) : R.OPL_CNT_MISMATCH l ∉ [R.WRS_CNT_FRAMES_FAILED n, R.OPL_STATUS l] ∧
    R.WRS_CNT_FRAMES_FAILED n ∉ [R.OPL_CNT_MISMATCH l, R.OPL_CNT_INVALID_WORD l, R.OPL_CNT_ERASED l, R.OPL_CNT_HALF_ERASED l] ∧
    R.WRS_CNT_FRAMES_FAILED n ∉ [R.OPL_STATUS l] ∧
    R.WRS_VERIFY n ∉ [R.OPL_CNT_MISMATCH l, R.OPL_CNT_INVALID_WORD l, R.OPL_CNT_ERASED l, R.OPL_CNT_HALF_ERASED l] := by
  simp only [List.mem_cons, List.not_mem_nil, or_false, R.WRS_CNT_FRAMES_FAILED, R.WRS_VERIFY, R.OPL_STATUS, R.OPL_CNT_MISMATCH,
    R.OPL_CNT_INVALID_WORD, R.OPL_CNT_ERASED, R.OPL_CNT_HALF_ERASED, laneBase]
  split <;> omega

/-- A frame that is judged while its cluster is written: what the lane and the write path count, and what makes it fail (R112, R170). -/
theorem frameVerifyResult_judged_spec {l : Fin 68} {u : State} (hl : workLane s n m true = l) (hu : laneRun s l f = u)
    (hj : (s.beam n m).judged = []) (hc : (s.beam n m).cur = some c) (ht : takesResults c = true)
    (hadc : u.on (R.OPL_STATUS_ADC_FAILED (laneOf n m true)) = false) (hworks : laneWorks u l = true)
    (hmode : u.g (R.OPL_MODE_MODE l) = 2) (hcase : verifyCase u l ≠ 0) (hn : (framePlaces u.lanes[l]).2.1 + 1280 ≤ u.lanes[l].dsp.n) :
    let mism := rowMismatches u.lanes[l] ((c.rows[c.results]?).getD [])
    Counted u (frameVerifyResult n m f s) (R.OPL_CNT_MISMATCH l) mism ∧
      ∃ bad : Bool, ((frameVerifyResult n m f s).beam n m).cur = some { c with results := c.results + 1, failed := c.failed + b2n bad } ∧
        Counted u (frameVerifyResult n m f s) (R.WRS_CNT_FRAMES_FAILED n) (b2n bad) ∧
        (u.g (R.WRS_VERIFY_MISMATCH_MAX n) < mism ∨ verifyCase u l = 3 ∨ verifyCase u l = 5 ∨ verifyCase u l = 6 → bad = true) := by
  obtain ⟨active, h⟩ := frameVerifyResult_judged hl hu (resultCluster_cur hj hc ht) hadc hworks hmode hcase hn
  obtain ⟨hcount, hstep⟩ := verifyFrame_counts u l ((c.rows[c.results]?).getD [])
  obtain ⟨hreports, hmism⟩ := verifyFrame_reports u l ((c.rows[c.results]?).getD [])
  obtain ⟨hne1, hne2, hne3, hne4⟩ := verifyRegs_ne l n
  have hbeam : u.beam n m = s.beam n m := hu ▸ laneRun_beam s l f n m
  rw [h]
  generalize hv : verifyFrame u l ((c.rows[c.results]?).getD []) = v at hcount hstep hreports hmism ⊢
  obtain ⟨hbook, hbook'⟩ := frameResult_books v.2 n m (verifyBad v.2 n v.1) false
  have hstatus := regsBut_u (frameResult v.2 n m (verifyBad v.2 n v.1) false) (R.OPL_STATUS_ACTIVE l) active
  dsimp only
  refine ⟨hcount.before (hbook'.trans hstatus) hne1, verifyBad v.2 n v.1, ?_, (hbook.after hstep.regs hne2).before hstatus hne3, fun hbad => ?_⟩
  · refine (congrArg Beam.cur (frameResult_beam v.2 n m _ false)).trans ?_
    rw [hstep.beam, hbeam, putResult_cur hj hc ht, Bool.or_false]
  · have hmax : v.2.g (R.WRS_VERIFY_MISMATCH_MAX n) = u.g (R.WRS_VERIFY_MISMATCH_MAX n) := hstep.regs.g hne4
    rw [verifyBad, decide_eq_true_iff, hreports, hmax, hmism]
    tauto

end

/-- Settles O16: each clause is read off the rule of its command. -/
theorem writePathClusters : Obligations.WritePathClusters := by
  intro s n m hs
  refine ⟨?start, fun c hc => ⟨?under, ?done, ?holds, ?ceased, ?abandon⟩, ?timeout, fun f c hj hc ht => ⟨?failed, ?judged⟩, ?verdict, fun hb => ⟨?now, ?later⟩, ?link⟩
  case start =>
    intro e henc hcur hstart hmay hlanes hlink hslot _
    exact does_of_answer hs rfl (clusterWriteStart_writes henc hcur hstart hmay hlanes hlink hslot)
  case under => exact fun h => (answer_live _ hs).trans (congrArg _ (clusterWriteEnd_under hc h))
  case done =>
    refine fun h => ⟨(answer_live _ hs).trans (congrArg _ (clusterWriteEnd_done hc h)), fun hothers => does_of_answer hs rfl ?_⟩
    rw [clusterWriteEnd_done hc h, (endCluster_others hothers c).2]
    exact clusterEnded_stops s n m c
  case holds => exact fun h => (answer_live _ hs).trans (congrArg _ (clusterInterrupted_holds hc h))
  case ceased =>
    refine fun h => ⟨(answer_live _ hs).trans (congrArg _ (clusterInterrupted_ceased hc h)), fun hothers => does_of_answer hs rfl ?_⟩
    rw [clusterInterrupted_ceased hc h]
    exact endCluster_bump_stops (not_mem_endRegs (.inl rfl)) hothers _
  case abandon =>
    refine fun hon hfailed => ⟨(answer_live _ hs).trans (congrArg _ (clusterAbandon_failed hc ⟨hon, hfailed⟩)), fun hothers =>
      does_of_answer hs rfl ?_⟩
    rw [clusterAbandon_failed hc ⟨hon, hfailed⟩]
    exact endCluster_bump_stops (not_mem_endRegs (.inr rfl)) hothers _
  case timeout => exact fun h => does_of_answer hs rfl (verifyResultTimeout_counts h)
  case failed => exact fun h => does_of_answer hs rfl (frameVerifyResult_failed_spec hj hc ht h)
  case judged =>
    exact fun hadc hworks hmode hcase hn => does_of_answer hs rfl (frameVerifyResult_judged_spec rfl rfl hj hc ht hadc hworks hmode hcase hn)
  case verdict => exact fun c rest hj hjudge hpass hkind => does_of_answer hs rfl (clusterVerdict_testPassed_spec hj hjudge hpass hkind)
  case now => exact fun h => (answer_live _ hs).trans (congrArg _ (beamResume_now h))
  case later =>
    refine fun h => ⟨⟨beamResumed s n m, (answer_live _ hs).trans (congrArg _ (beamResume_later hb h)), beamResumed_spec hb⟩, fun hstay =>
      does_of_answer hs rfl ?_⟩
    rw [beamResume_later hb h]
    exact beamResume_stays hb hstay
  case link =>
    intro osc hon
    obtain ⟨hout, hsync, hregs, hcur⟩ := linkSyncWord_sends (m := m) osc hon
    refine does_of_answer hs rfl ⟨(linkSent s n m osc).1, linkWords_length 63 _ _ osc, hout, hsync, hregs, fun w rest hl => linkSent_waiting osc hl,
      fun hl hc => (linkSent_idle osc hl (linkGo_none hc)).1, fun c hl hc hw => ?_, fun c ph more hl hc hw hsent hlevel hosc => ?_⟩
    · obtain ⟨hidle, hkept⟩ := linkSent_idle osc hl (linkGo_ceased hc hw)
      exact ⟨hidle, hcur.trans (hkept.trans hc)⟩
    · rw [hosc]
      exact linkSent_first more hl hc hw hsent hlevel

end Sys2Proof.Machine

/-!
PROOF. O14 fails: ADIP_WORD_DECODE does not only book the copy of an address word (R71), it also carries on the task of a station that waits for
the address (R285), which discards what was accepted before and changes more than the station's address records.
-/

namespace Sys2Proof.Machine

/-- The slot whose address the station hears: layer 0, arm 0, zone 0. -/
def heardPca : Nat := mkPca 0 0 0 1030

/-- A device out of reset and not in RECOVERY, whose station 0 recovers (R285): with focus and tracking locked it waits for an address on beam
B0, and one copy of the slot's word has been read. -/
def awaitingAddress : State :=
  (({ State.reset with sys := ⟨.no, true, true, 0, 0, false⟩, regs := [(R.TRU_STATUS, 0#32)] } : State).us
    [(R.BRL_STN_SEQ_STATUS_STATE 0, sqIDLE), (R.BRL_STN_SEQ_STATUS_FLOCK 0, 1), (R.BRL_STN_SEQ_STATUS_TLOCK 0, 1)]).stnU 0 (fun x => { x with
      task := .recover, step := 2, adip := vmod x.adip 0 (fun a => { a with copies := [heardPca] }) })

/-- The last accepted address of station 0's arm 0. -/
def lastHeard (s : State) : Option Nat := ((s.stn[(0 : Fin 8)]).adip[(0 : Fin 4)]).last

theorem awaitingAddress_copied : awaitingAddress.live = true ∧ adipAddress (adipWord heardPca) = some heardPca ∧
    ((awaitingAddress.stn[(0 : Fin 8)]).adip[(0 : Fin 4)]).copies = [heardPca] ∧
    ((awaitingAddress.stn[(0 : Fin 8)]).adip[(0 : Fin 4)]).here = none := by decide +kernel

/-- The second copy is accepted, and the station, on track, goes on at once to wait for an address anew: those accepted before do not count. -/
theorem adipWordDecode_forgets : lastHeard (adipWordDecode 0 0 false (adipWord heardPca) awaitingAddress) = none := by decide +kernel

/-- Refutes O14: a copy of an address word that two copies of the slot name is accepted, but where the station's task waits for that address the
same command carries the task on, and the address is no longer the arm's last accepted one. -/
theorem not_laneFramesAndLock : ¬ Obligations.LaneFramesAndLock := by
  intro h
  obtain ⟨hlive, haddr, hcopies, hhere⟩ := awaitingAddress_copied
  obtain ⟨-, -, -, -, hword, -⟩ := h awaitingAddress hlive
  obtain ⟨t, ht, hlast, -⟩ := ((hword 0 0 false (adipWord heardPca)).2 heardPca haddr (.inr (hhere ▸ nofun))).1
    (.inr (by rw [if_neg Bool.false_ne_true, hcopies]; exact List.mem_singleton_self heardPca))
  have hexec : exec (.adipWordDecode 0 0 false (adipWord heardPca)) awaitingAddress =
      .next (adipWordDecode 0 0 false (adipWord heardPca) awaitingAddress) := answer_live _ hlive
  obtain rfl : adipWordDecode 0 0 false (adipWord heardPca) awaitingAddress = t := Host.Outcome.next.inj (hexec.symm.trans ht)
  exact Option.some_ne_none _ (hlast.symm.trans adipWordDecode_forgets)

end Sys2Proof.Machine

/-!
PROOF. O12: the samples that reach a lane, and what its framer makes of sync matches (R89, R102 to R105). First what the samples leave alone, then
one rule per case of a primary, a secondary and a decision between hypotheses, then the obligation.
-/

namespace Sys2Proof.Machine

/-! Fields set in turn, and a lane after an update. -/

theorem RegsBut.andThen {s t u : State} {regs : List Nat} (h : RegsBut s t regs) (h' : RegsBut t u regs) : RegsBut s u regs :=
  (h.trans h').mono (List.append_subset.mpr ⟨List.Subset.refl _, List.Subset.refl _⟩)

theorem laneStep_us (s : State) (fs : List (FRef × Nat)) : LaneStep s (s.us fs) (fs.map fun p => p.1.addr) := by
  induction fs generalizing s with
  | nil => exact LaneStep.refl s
  | cons p fs ih => exact (laneStep_u s p.1 p.2).trans (ih (s.u p.1 p.2))

theorem State.us_lanes (s : State) (fs : List (FRef × Nat)) : (s.us fs).lanes = s.lanes := State.us_proj State.lanes (fun _ _ _ => rfl) fs s

theorem State.lane_laneU_self (s : State) (l : Fin 68) (f : Lane → Lane) : (s.laneU l f).lanes[l] = f s.lanes[l] := vmod_self _ _ _

theorem State.lane_laneU_other (s : State) {l k : Fin 68} (f : Lane → Lane) (h : k ≠ l) : (s.laneU l f).lanes[k] = s.lanes[k] :=
  vmod_other _ _ h

theorem LaneStep.eq {s t : State} {l : List Nat} (h : LaneStep s t l) : t = { s with regs := t.regs, lanes := t.lanes, free := t.free } := by
  obtain ⟨_, _, _, rfl⟩ := h.only
  rfl

theorem LaneStep.eq_of_free {s t : State} {l : List Nat} (h : LaneStep s t l) (hfree : t.free = s.free) :
    t = { s with regs := t.regs, lanes := t.lanes } := by
  obtain ⟨_, _, k, rfl⟩ := h.only
  obtain rfl : k = s.free := hfree
  rfl

/-- Setting a field changes no bit of its register outside it. -/
theorem onlyFields_u (s : State) (f : FRef) (v : Nat) : OnlyFields s (s.u f v) f.addr [f] :=
  ⟨⟨rfl, regsBut_u s f v⟩, fun g _ hg hbits => s.g_u_bits f g v (hbits f (List.mem_singleton_self f)).symm hg⟩

/-! The samples that reach a lane (R89). -/

theorem laneRun_nil {f : LaneIn} (h : f.rf = []) (s : State) (l : Fin 68) : laneRun s l f = s := if_pos (by rw [h]; rfl)

/-- A lane that processes samples goes on, takes free values, and shows it in its rate, its gain and its status. -/
theorem laneRun_shows (s : State) (l : Fin 68) (f : LaneIn) : laneRun s l f = s ∨ ∃ k g per gain env lock c, laneRun s l f =
    ((({ s with free := k } : State).laneU l g).us [(R.OPL_RATE_PERIOD l, per), (R.OPL_GAIN_GAIN l, gain), (R.OPL_GAIN_ENVELOPE l, env),
      (R.OPL_STATUS_TIMING_LOCK l, lock)]).whenB c (fun t => t.u (R.OPL_STATUS_CLIP_SEEN l) 1) := by
  by_cases h : (f.rf.isEmpty || !laneWorks s l) = true
  · exact .inl (if_pos h)
  · exact .inr ⟨_, _, _, _, _, _, _, if_neg h⟩

theorem laneStep_clipSeen (s : State) (l : Fin 68) (c : Bool) :
    LaneStep s (s.whenB c fun t => t.u (R.OPL_STATUS_CLIP_SEEN l) 1) [R.OPL_STATUS l] := by
  cases c
  · exact (LaneStep.refl s).mono (List.nil_subset _)
  · exact laneStep_u s _ _

theorem clipSeen_lanes (s : State) (l : Fin 68) (c : Bool) : (s.whenB c fun t => t.u (R.OPL_STATUS_CLIP_SEEN l) 1).lanes = s.lanes := by
  cases c <;> rfl

theorem laneStep_laneRun (s : State) (l : Fin 68) (f : LaneIn) : LaneStep s (laneRun s l f) [R.OPL_RATE l, R.OPL_GAIN l, R.OPL_STATUS l] := by
  obtain h | ⟨k, g, per, gain, env, lock, c, h⟩ := laneRun_shows s l f
  · rw [h]
    exact (LaneStep.refl s).mono (List.nil_subset _)
  · rw [h]
    have hpath := (laneStep_free s k).trans (laneStep_laneU _ l g)
    have hshow := (laneStep_us (({ s with free := k } : State).laneU l g) [(R.OPL_RATE_PERIOD l, per), (R.OPL_GAIN_GAIN l, gain),
      (R.OPL_GAIN_ENVELOPE l, env), (R.OPL_STATUS_TIMING_LOCK l, lock)]).trans (laneStep_clipSeen _ l c)
    exact (hpath.trans hshow).mono (by simp [R.OPL_RATE_PERIOD, R.OPL_GAIN_GAIN, R.OPL_GAIN_ENVELOPE, R.OPL_STATUS_TIMING_LOCK])

theorem laneRun_lane_other (s : State) {l k : Fin 68} (f : LaneIn) (hk : k ≠ l) : (laneRun s l f).lanes[k] = s.lanes[k] := by
  obtain h | ⟨j, g, per, gain, env, lock, c, h⟩ := laneRun_shows s l f
  · rw [h]
  · have hlanes : (laneRun s l f).lanes = (({ s with free := j } : State).laneU l g).lanes := by
      rw [h, clipSeen_lanes, State.us_lanes]
    rw [hlanes]
    exact State.lane_laneU_other _ g hk

/-! A primary sync match (R102, R104, R105). -/

section
variable {s u : State} {l : Fin 68} {x : Lane} {p : Int} {f : LaneIn} {bits : BitVec 40}
variable (hu : laneRun s l f = u) (hx : u.lanes[l] = x) (hworks : laneWorks u l = true)

section
variable (hbits : syncBits x.dsp (x.pred + p) = some bits) (hdiff : syncDiff bits primarySync ≤ u.g (R.OPL_SYNC_PRI_MAXDIFF l))
include hu hx hworks hbits hdiff

theorem primaryMatch_outside (hlock : locked u l = true) (hp : p < -4 ∨ 4 < p) : primaryMatch l p f s = u := by
  have hout : p < -4 ∨ 4 < p ∨ x.pri.isSome = true ∨ x.hyp.isSome = true := hp.imp_right Or.inl
  simp only [primaryMatch, hu, hx, hbits, hworks, hlock, hout, Nat.not_lt.mpr hdiff, if_true, Bool.not_true, Bool.false_eq_true, or_self, if_false]

theorem primaryMatch_accepted (hlock : locked u l = true) (hpri : x.pri = none) (hhyp : x.hyp = none) (hp : 0 ≤ p) (hp' : p ≤ 4) :
    primaryMatch l p f s = (u.laneU l fun x => { x with pri := some p }).whenB (p != 0) fun t => t.bump (R.OPL_CNT_LATE l) := by
  have hin : ¬ p < -4 ∧ ¬ 4 < p := by omega
  simp only [primaryMatch, hu, hx, hbits, hworks, hlock, hpri, hhyp, hin, hp, Nat.not_lt.mpr hdiff, if_true, Bool.not_true,
    Bool.false_eq_true, Option.isSome_none, or_self, if_false]

theorem primaryMatch_early (hlock : locked u l = true) (hpri : x.pri = none) (hhyp : x.hyp = none) (hp : -4 ≤ p) (hp' : p ≤ -1) :
    primaryMatch l p f s =
      ((u.laneU l fun x => { x with hyp := some ⟨p, []⟩ }).u (R.OPL_STATUS_HYPOTHESIS l) 1).bump (R.OPL_CNT_EARLY l) := by
  have hin : ¬ p < -4 ∧ ¬ 4 < p ∧ ¬ 0 ≤ p := by omega
  simp only [primaryMatch, hu, hx, hbits, hworks, hlock, hpri, hhyp, hin, Nat.not_lt.mpr hdiff, if_true, Bool.not_true,
    Bool.false_eq_true, Option.isSome_none, or_self, if_false]

/-- During a search a primary is remembered for the secondary that must follow. -/
theorem primaryMatch_search (hlock : locked u l = false) (hstart : x.starting = false) :
    primaryMatch l p f s = u.laneU l fun y => { y with searchPri := some (x.pred + p).toNat } := by
  simp only [primaryMatch, hu, hx, hbits, hworks, hlock, hstart, Nat.not_lt.mpr hdiff, Bool.not_true, Bool.false_eq_true, or_self, false_and, if_false]

end

/-- With no hypotheses open, and no secondary taken yet, a secondary within ±4 channel bits is taken: alone it is case 3 (R103). -/
theorem secondaryMatch_taken (hu : laneRun s l f = u) (hx : u.lanes[l] = x) (hworks : laneWorks u l = true)
    (hbits : syncBits x.dsp (x.pred + 1280 + p) = some bits) (hdiff : syncDiff bits secondarySync ≤ u.g (R.OPL_SYNC_SEC_MAXDIFF l))
    (hlock : locked u l = true) (hhyp : x.hyp = none) (hsec : x.sec = none) (hp : -4 ≤ p ∧ p ≤ 4) (hpri : x.pri.getD 0 = 0) :
    secondaryMatch l p f s =
      (u.laneU l fun x => { x with sec := some p }).whenB x.pri.isNone fun t => t.bump (R.OPL_CNT_PRI_MISSED l) := by
  have hin : ¬ p < 0 - 4 ∧ ¬ 0 + 4 < p := by omega
  simp only [secondaryMatch, hu, hx, hbits, hworks, hlock, hhyp, hsec, hpri, hin, Nat.not_lt.mpr hdiff, Bool.not_true, Bool.false_eq_true,
    Option.isSome_none, or_self, if_false]

/-! The decision between hypotheses (R104). -/

theorem hypothesisDecide_none (hu : laneRun s l f = u) (hx : u.lanes[l] = x) (hn : x.pred + 1324 ≤ x.dsp.n) (hhyp : x.hyp = some ⟨p, []⟩) :
    hypothesisDecide l f s = (u.u (R.OPL_STATUS_HYPOTHESIS l) 0).laneU l fun x => { x with hyp := none, decided := 5 } := by
  simp only [hypothesisDecide, hu, hx, hhyp, Nat.not_lt.mpr hn, if_false, bestSecondary]

/-- A match on time lies nearer to the predicted hypothesis than to any other. -/
theorem hypothesisDecide_predicted {d : Nat} (hu : laneRun s l f = u) (hx : u.lanes[l] = x) (hn : x.pred + 1324 ≤ x.dsp.n)
    (hhyp : x.hyp = some ⟨p, [(0, d)]⟩) : hypothesisDecide l f s =
      ((u.u (R.OPL_STATUS_HYPOTHESIS l) 0).laneU l fun x => { x with hyp := none, decided := 4, pri := some 0, sec := some 0 }).bump
        (R.OPL_CNT_EARLY_PRED l) := by
  simp only [hypothesisDecide, hu, hx, hhyp, Nat.not_lt.mpr hn, if_false, bestSecondary, Int.natAbs_zero, Nat.zero_le, if_true, decide_true,
    State.whenB]

end

/-! O12. -/

/-- After an operation of a lane one more event is counted. -/
theorem laneStep_bump_counts {u v : State} {regs : List Nat} (h : LaneStep u v regs) (hfree : v.free = u.free) {a : Nat} (ha : a ∉ regs) :
    Counted u (v.bump a) a 1 ∧ RegsBut u (v.bump a) (a :: regs) ∧
      v.bump a = { u with lanes := (v.bump a).lanes, regs := (v.bump a).regs } :=
  have hstep := h.trans (laneStep_bump v a)
  ⟨(counted_bump v a).after h.regs ha, hstep.regs.mono (List.append_subset.mpr ⟨List.subset_cons_self _ _, by simp⟩),
    hstep.eq_of_free hfree⟩

/-- The counters of a lane are not its status. -/
theorem laneCounters_ne_status (l : Fin 68) : R.OPL_CNT_EARLY l ∉ [R.OPL_STATUS l] ∧ R.OPL_CNT_EARLY_PRED l ∉ [R.OPL_STATUS l] := by
  simp [R.OPL_STATUS, R.OPL_CNT_EARLY, R.OPL_CNT_EARLY_PRED]

/-- HYPOTHESIS reads what it was set to, beside a change of the lane. -/
theorem hypothesis_set (u : State) (l : Fin 68) (b : Bool) : (u.u (R.OPL_STATUS_HYPOTHESIS l) (b2n b)).on (R.OPL_STATUS_HYPOTHESIS l) = b :=
  State.on_u_self u ⟨Nat.le_of_ble_eq_true rfl, rfl⟩ b

/-- A counter of a lane counts; its status stands. -/
theorem on_bump_of_ne {v : State} {f : FRef} {a : Nat} (h : a ∉ [f.addr]) : (v.bump a).on f = v.on f :=
  (regsBut_bump v a).on fun hm => h (List.mem_singleton.mpr (List.mem_singleton.mp hm).symm)

/-- Settles O12: each clause is read off the rule of its case. -/
theorem laneSyncMatches : Obligations.LaneSyncMatches := by
  intro s l p f hs u
  have hu : laneRun s l f = u := rfl
  have hstep : LaneStep s u _ := laneStep_laneRun s l f
  have hnil : f.rf = [] → u = s := fun h => laneRun_nil h s l
  have hother (k : Fin 68) (hk : k ≠ l) : u.lanes[k] = s.lanes[k] := laneRun_lane_other s f hk
  clear_value u
  intro x
  have hx : u.lanes[l] = x := rfl
  clear_value x
  refine ⟨hnil, ⟨hstep.regs, hstep.eq, hother⟩,
    fun hworks hhyp hpri bits hbits hdiff => ⟨fun hlock => ⟨?ontime, ?late, ?early, ?outside⟩, ?search⟩,
    fun hworks hlock hhyp hsec bits hbits hdiff hp hp' => ⟨?alone, ?both⟩, fun hn => ⟨?none, ?predicted⟩⟩
  case ontime =>
    rintro rfl
    refine does_of_answer hs rfl ?_
    rw [primaryMatch_accepted hu hx hworks hbits hdiff hlock hpri hhyp (le_refl _) (by decide)]
    exact ⟨congrArg Lane.pri (State.lane_laneU_self u l _), rfl⟩
  case late =>
    intro hp hp'
    have hlate : (p != 0) = true := bne_iff_ne.mpr (by omega)
    refine does_of_answer hs rfl ?_
    rw [primaryMatch_accepted hu hx hworks hbits hdiff hlock hpri hhyp (by omega) hp', hlate]
    exact ⟨congrArg Lane.pri (State.lane_laneU_self u l _), laneStep_bump_counts (laneStep_laneU u l _) rfl List.not_mem_nil⟩
  case early =>
    intro hp hp'
    refine does_of_answer hs rfl ?_
    rw [primaryMatch_early hu hx hworks hbits hdiff hlock hpri hhyp hp hp']
    exact ⟨congrArg Lane.hyp (State.lane_laneU_self u l _), (on_bump_of_ne (laneCounters_ne_status l).1).trans (hypothesis_set _ l true),
      laneStep_bump_counts ((laneStep_laneU u l _).trans (laneStep_u _ _ 1)) rfl (laneCounters_ne_status l).1⟩
  case outside => exact fun hp => (answer_live _ hs).trans (congrArg _ (primaryMatch_outside hu hx hworks hbits hdiff hlock hp))
  case search =>
    intro hlock hstart
    refine does_of_answer hs rfl ?_
    rw [primaryMatch_search hu hx hworks hbits hdiff hlock hstart]
    exact ⟨congrArg Lane.searchPri (State.lane_laneU_self u l _), rfl⟩
  case alone =>
    intro hpri
    refine does_of_answer hs rfl ?_
    rw [secondaryMatch_taken hu hx hworks hbits hdiff hlock hhyp hsec ⟨hp, hp'⟩ (by rw [hpri]; rfl), hpri]
    exact ⟨congrArg Lane.sec (State.lane_laneU_self u l _), laneStep_bump_counts (laneStep_laneU u l _) rfl List.not_mem_nil⟩
  case both =>
    intro hpri
    refine does_of_answer hs rfl ?_
    rw [secondaryMatch_taken hu hx hworks hbits hdiff hlock hhyp hsec ⟨hp, hp'⟩ (by rw [hpri]; rfl), hpri]
    exact ⟨congrArg Lane.sec (State.lane_laneU_self u l _), rfl⟩
  case none =>
    intro q hhyp
    refine does_of_answer hs rfl ?_
    rw [hypothesisDecide_none hu hx hn hhyp]
    have hlane := State.lane_laneU_self (u.u (R.OPL_STATUS_HYPOTHESIS l) 0) l fun x => { x with hyp := none, decided := 5 }
    exact ⟨congrArg Lane.hyp hlane, congrArg Lane.decided hlane, onlyFields_u u _ 0, hypothesis_set u l false⟩
  case predicted =>
    intro q d hhyp
    refine does_of_answer hs rfl ?_
    rw [hypothesisDecide_predicted hu hx hn hhyp]
    have hlane := State.lane_laneU_self (u.u (R.OPL_STATUS_HYPOTHESIS l) 0) l fun x =>
      { x with hyp := none, decided := 4, pri := some 0, sec := some 0 }
    have hne := (laneCounters_ne_status l).2
    exact ⟨congrArg Lane.hyp hlane, congrArg Lane.decided hlane, congrArg Lane.pri hlane, congrArg Lane.sec hlane,
      (on_bump_of_ne hne).trans (hypothesis_set u l false),
      (laneStep_bump_counts ((laneStep_u u _ 0).trans (laneStep_laneU _ l _)) rfl hne).1⟩

end Sys2Proof.Machine

/-!
PROOF. O13: declared defects, failures of a lane and of its ADC, spares and microcode (R107, R109, R114, R115, R117, R119, R122). First what the
delivery of rows leaves alone, then how the rest of a cluster is erased, then one rule per command, then the obligation.
-/

namespace Sys2Proof.Machine

/-! What the delivery of rows leaves alone (R111). -/

/-- An operation of a lane that may deliver rows: nothing but registers of a list, lanes, the count of free values and what waits for Topaz's
decoder has changed. -/
structure RowStep (s t : State) (l : List Nat) : Prop where
  regs : RegsBut s t l
  only : ∃ r v k x, t = { s with regs := r, lanes := v, free := k, rx := x }

theorem LaneStep.row {s t : State} {l : List Nat} (h : LaneStep s t l) : RowStep s t l := by
  obtain ⟨r, v, k, rfl⟩ := h.only
  exact ⟨h.regs, r, v, k, s.rx, rfl⟩

theorem RowStep.refl (s : State) (l : List Nat) : RowStep s s l := ⟨RegsBut.of_regs rfl _, _, _, _, _, rfl⟩

theorem RowStep.trans {s t u : State} {l : List Nat} (h : RowStep s t l) (h' : RowStep t u l) : RowStep s u l := by
  obtain ⟨_, _, _, _, rfl⟩ := h.only
  obtain ⟨_, _, _, _, rfl⟩ := h'.only
  exact ⟨h.regs.andThen h'.regs, _, _, _, _, rfl⟩

theorem RowStep.cal {s t : State} {l : List Nat} (h : RowStep s t l) : t.cal = s.cal := by
  obtain ⟨_, _, _, _, rfl⟩ := h.only
  rfl

/-- The counters of a lane's rows (R111). -/
def rowCounters (l : Fin 68) : List Nat := [R.OPL_CNT_FRAMES l, R.OPL_CNT_ERASED l, R.OPL_CNT_HALF_ERASED l]

theorem not_mem_rowCounters (l : Fin 68) : R.OPL_MODE l ∉ rowCounters l ∧ R.OPL_UNIT l ∉ rowCounters l ∧ R.BUF_CNT_SRAM_UE ∉ rowCounters l := by
  have hb := laneBase_bounds l
  simp only [rowCounters, List.mem_cons, List.not_mem_nil, or_false, R.OPL_MODE, R.OPL_UNIT, R.BUF_CNT_SRAM_UE, R.OPL_CNT_FRAMES,
    R.OPL_CNT_ERASED, R.OPL_CNT_HALF_ERASED]
  omega

/-- A row is booked in its lane and counted, before a complete cluster is handed on. -/
def rowBooked (s : State) (l : Fin 68) (r : RxRow) : State :=
  let x := s.lanes[l]
  (((s.laneU l fun y => { y with
    rows := if (r :: x.rows).length < 320 then r :: x.rows else []
    erased := if r.whole then x.erased + 1 else x.erased
    pri := none, sec := none, decided := 0, inserted := false, hyp := none }).bump (R.OPL_CNT_FRAMES l)).whenB r.whole
      fun t => t.bump (R.OPL_CNT_ERASED l)).whenB r.halfA fun t => t.bump (R.OPL_CNT_HALF_ERASED l)

theorem deliverRow_eq (s : State) (l : Fin 68) (r : RxRow) : deliverRow s l r =
    if (r :: s.lanes[l].rows).length < 320 then rowBooked s l r
    else if s.g (R.OPL_MODE_MODE l) = 1 && !calReads s (laneStation s l) then
      { rowBooked s l r with rx := (rowBooked s l r).rx ++ [⟨l, s.lanes[l].resynced, (r :: s.lanes[l].rows).reverse⟩] }
    else rowBooked s l r := rfl

theorem laneStep_rowBooked (s : State) (l : Fin 68) (r : RxRow) : LaneStep s (rowBooked s l r) (rowCounters l) :=
  ((laneStep_laneU s l _).trans (laneStep_bump _ _)).trans (laneStep_bumpIf _ r.whole _) |>.trans (laneStep_bumpIf _ r.halfA _)

theorem LaneStep.rx {s t : State} {l : List Nat} (h : LaneStep s t l) : t.rx = s.rx := by
  obtain ⟨_, _, _, rfl⟩ := h.only
  rfl

theorem bumpIf_lanes (s : State) (c : Bool) (a : Nat) : (s.whenB c fun t => t.bump a).lanes = s.lanes := by cases c <;> rfl

theorem rowBooked_rows (s : State) (l : Fin 68) (r : RxRow) : (rowBooked s l r).lanes[l].rows =
    if (r :: s.lanes[l].rows).length < 320 then r :: s.lanes[l].rows else [] := by
  simp only [rowBooked, bumpIf_lanes, State.bump_lanes, State.laneU_lanes, vmod_self]

theorem rowStep_deliverRow (s : State) (l : Fin 68) (r : RxRow) : RowStep s (deliverRow s l r) (rowCounters l) := by
  rw [deliverRow_eq]
  have hbook := (laneStep_rowBooked s l r).row
  split
  · exact hbook
  · split
    · exact hbook.trans ⟨RegsBut.of_regs rfl _, _, _, _, _, rfl⟩
    · exact hbook

theorem rowStep_eraseRows (l : Fin 68) (k : Nat) (s : State) (q : Nat) : RowStep s (eraseRows s l q k) (rowCounters l) := by
  induction k generalizing s q with
  | zero => exact RowStep.refl s _
  | succ k ih =>
    rw [eraseRows]
    split
    · exact RowStep.refl s _
    · exact (rowStep_deliverRow s l _).trans (ih _ _)

theorem rowStep_eraseCluster (s : State) (l : Fin 68) (q : Nat) : RowStep s (eraseCluster s l q) (rowCounters l) :=
  (rowStep_deliverRow s l _).trans (rowStep_eraseRows l _ _ _)

theorem rowStep_eraseFlight (s : State) (l : Fin 68) : RowStep s (eraseFlight s l) (rowCounters l) := by
  unfold eraseFlight
  extract_lets x
  split
  · exact rowStep_eraseRows l _ _ _
  · split
    · exact RowStep.refl s _
    · split
      · split
        · exact rowStep_eraseCluster s l _
        · exact RowStep.refl s _
      · split
        · split
          · exact rowStep_eraseCluster s l _
          · exact RowStep.refl s _
        · exact RowStep.refl s _

/-! The rest of a cluster is erased (R105, R115). -/

/-- The lane's rows go to Topaz: it is in role DATA, and no calibration reads its probe. -/
def servesTopaz (s : State) (l : Fin 68) : Prop := s.g (R.OPL_MODE_MODE l) = 1 ∧ calReads s (laneStation s l) = false

theorem RegsBut.laneStation {s t : State} {regs : List Nat} (h : RegsBut s t regs) {l : Fin 68} (hunit : R.OPL_UNIT l ∉ regs) :
    laneStation t l = laneStation s l := h.g hunit

theorem RowStep.servesTopaz {s t : State} {regs : List Nat} {l : Fin 68} (h : RowStep s t regs) (hmode : R.OPL_MODE l ∉ regs)
    (hunit : R.OPL_UNIT l ∉ regs) (hs : servesTopaz s l) : servesTopaz t l := by
  obtain ⟨hrole, hcal⟩ := hs
  refine ⟨(h.regs.g hmode).trans hrole, ?_⟩
  rw [h.regs.laneStation hunit, calReads, h.cal]
  exact hcal

/-- A row that does not complete the cluster joins it. -/
theorem deliverRow_joins {s : State} {l : Fin 68} {rows : List RxRow} (hrows : s.lanes[l].rows = rows) (hlen : rows.length < 319) (r : RxRow) :
    (deliverRow s l r).lanes[l].rows = r :: rows ∧ (deliverRow s l r).rx = s.rx := by
  have hmore : (r :: rows).length < 320 := Nat.succ_lt_succ hlen
  rw [deliverRow_eq, hrows, if_pos hmore, rowBooked_rows, hrows, if_pos hmore]
  exact ⟨rfl, (laneStep_rowBooked s l r).rx⟩

/-- The 320th row completes the cluster, which waits for Topaz's decoder. -/
theorem deliverRow_completes {s : State} {l : Fin 68} {rows : List RxRow} (hrows : s.lanes[l].rows = rows) (hlen : rows.length = 319)
    (hserves : servesTopaz s l) (r : RxRow) : (deliverRow s l r).lanes[l].rows = [] ∧
      ∃ c : RxCluster, (deliverRow s l r).rx = s.rx ++ [c] ∧ c.rows = (r :: rows).reverse := by
  have hlast : ¬ (r :: rows).length < 320 := by rw [List.length_cons, hlen]; decide
  obtain ⟨hrole, hcal⟩ := hserves
  rw [deliverRow_eq, hrows, if_neg hlast, hrole, hcal]
  have hbooked := rowBooked_rows s l r
  rw [hrows, if_neg hlast] at hbooked
  exact ⟨hbooked, _, congrArg (· ++ _) (laneStep_rowBooked s l r).rx, rfl⟩

theorem eraseRows_empty {s : State} {l : Fin 68} (h : s.lanes[l].rows = []) (q k : Nat) : eraseRows s l q k = s := by
  cases k
  · rfl
  · rw [eraseRows, h]; rfl

theorem eraseRows_succ {s : State} {l : Fin 68} (h : s.lanes[l].rows ≠ []) (q k : Nat) : ∃ touched, eraseRows s l q (k + 1) =
    eraseRows (deliverRow s l (erasedRow 6 touched)) l (q + 2560) k := by
  rw [eraseRows, if_neg (mt List.length_eq_zero_iff.mp h)]
  exact ⟨_, rfl⟩

/-- A cluster under way that is erased is delivered with 320 rows: those that were there, and whole-frame erasures for the others. -/
theorem eraseRows_delivers {l : Fin 68} (k : Nat) {s : State} {rows : List RxRow} (q : Nat) (hrows : s.lanes[l].rows = rows) (hne : rows ≠ [])
    (hlen : rows.length ≤ 319) (hk : 320 ≤ rows.length + k) (hserves : servesTopaz s l) :
    ∃ c : RxCluster, (eraseRows s l q k).rx = s.rx ++ [c] ∧ c.rows.length = 320 ∧
      ∃ erased : List RxRow, c.rows = rows.reverse ++ erased ∧ ∀ w ∈ erased, w.whole = true := by
  induction k generalizing s rows q with
  | zero => exact absurd hk (by omega)
  | succ k ih =>
    obtain ⟨touched, h⟩ := eraseRows_succ (hrows ▸ hne) q k
    rw [h]
    obtain hlast | hmore := Nat.eq_or_lt_of_le hlen
    · obtain ⟨hempty, c, hrx, hc⟩ := deliverRow_completes hrows hlast hserves (erasedRow 6 touched)
      rw [eraseRows_empty hempty]
      refine ⟨c, hrx, ?_, [erasedRow 6 touched], hc.trans List.reverse_cons, fun w hw => List.mem_singleton.mp hw ▸ rfl⟩
      rw [hc, List.length_reverse, List.length_cons, hlast]
    · obtain ⟨hrows', hrx⟩ := deliverRow_joins hrows hmore (erasedRow 6 touched)
      obtain ⟨hmode, hunit, -⟩ := not_mem_rowCounters l
      obtain ⟨c, hrx', hlen', erased, hc, herased⟩ := ih (q + 2560) hrows' (List.cons_ne_nil _ _) hmore
        (by rw [List.length_cons]; omega) ((rowStep_deliverRow s l _).servesTopaz hmode hunit hserves)
      refine ⟨c, hrx'.trans (by rw [hrx]), hlen', erasedRow 6 touched :: erased, ?_, ?_⟩
      · rw [hc, List.reverse_cons, List.append_assoc]; rfl
      · exact List.forall_mem_cons.mpr ⟨rfl, herased⟩

/-- What O13 says of a data cluster under way that a failure meets: Topaz receives 320 rows, those not yet sent as whole-frame erasures. -/
def RestErased (s t : State) (l : Fin 68) : Prop := ∀ r q, s.lanes[l].rows = r :: q → q.length < 319 → s.g (R.OPL_MODE_MODE l) = 1 →
  calReads s (laneStation s l) = false → ∃ c, t.rx = s.rx ++ [c] ∧ c.rows.length = 320 ∧ c.rows.take (q.length + 1) = (r :: q).reverse ∧
    ∀ w ∈ c.rows.drop (q.length + 1), w.whole = true

theorem eraseFlight_idle {s : State} {l : Fin 68} (hrows : s.lanes[l].rows = []) (hreads : laneReads s l = false) : eraseFlight s l = s := by
  rw [eraseFlight, hrows, hreads]
  rfl

theorem eraseFlight_restErased (s : State) (l : Fin 68) : RestErased s (eraseFlight s l) l := by
  intro r q hrows hlen hrole hcal
  have hrest : eraseFlight s l = eraseRows s l s.lanes[l].pred 320 := by rw [eraseFlight, hrows]; rfl
  obtain ⟨c, hrx, hlen', erased, hc, herased⟩ := eraseRows_delivers 320 s.lanes[l].pred hrows (List.cons_ne_nil r q) hlen (Nat.le_add_left _ _)
    ⟨hrole, hcal⟩
  have hsent : q.length + 1 = (r :: q).reverse.length := (List.length_reverse.trans List.length_cons).symm
  rw [hrest]
  refine ⟨c, hrx, hlen', ?_, ?_⟩
  · rw [hc, hsent, List.take_left]
  · rw [hc, hsent, List.drop_left]
    exact herased

/-! A failure of a lane, and of its ADC (R114). -/

theorem RestErased.of_eq {s s' t t' : State} {l : Fin 68} (h : RestErased s t l) {regs : List Nat} (hs : LaneStep s' s regs)
    (hlanes : s.lanes = s'.lanes) (hmode : R.OPL_MODE l ∉ regs) (hunit : R.OPL_UNIT l ∉ regs) (ht : t'.rx = t.rx) : RestErased s' t' l := by
  intro r q hrows hlen hrole hcal
  obtain ⟨hrole', hcal'⟩ := hs.row.servesTopaz hmode hunit ⟨hrole, hcal⟩
  have h' := h r q (hlanes ▸ hrows) hlen hrole' hcal'
  rwa [ht, ← hs.rx]

theorem us_rx (s : State) (fs : List (FRef × Nat)) : (s.us fs).rx = s.rx := State.us_proj State.rx (fun _ _ _ => rfl) fs s

/-- What a lane shows once its DSP section has failed. -/
theorem failLane_shows (s : State) (l : Fin 68) : (failLane s l).on (R.OPL_STATUS_FAILED l) = true ∧
    (failLane s l).on (R.OPL_STATUS_ACTIVE l) = false ∧ (failLane s l).on (R.OPL_STATUS_FRAME_LOCK l) = false := by
  unfold failLane
  generalize eraseFlight s l = t
  simp only [State.us_cons, State.us_nil]
  refine ⟨?_, ?_, State.on_u_self _ ⟨Nat.le_of_ble_eq_true rfl, rfl⟩ false⟩
  · rw [State.on_u_bits _ _ (.inl (Nat.le_of_ble_eq_true rfl)) (Nat.le_of_ble_eq_true rfl),
      State.on_u_bits _ _ (.inl (Nat.le_of_ble_eq_true rfl)) (Nat.le_of_ble_eq_true rfl)]
    exact State.on_u_self t ⟨Nat.le_of_ble_eq_true rfl, rfl⟩ true
  · rw [State.on_u_bits _ _ (.inl (Nat.le_of_ble_eq_true rfl)) (Nat.le_of_ble_eq_true rfl)]
    exact State.on_u_self _ ⟨Nat.le_of_ble_eq_true rfl, rfl⟩ false

theorem failLane_regs (s : State) (l : Fin 68) : RegsBut s (failLane s l) (rowCounters l ++ [R.OPL_STATUS l]) :=
  ((rowStep_eraseFlight s l).regs.trans ((laneStep_us _ _).regs)).mono (List.append_subset.mpr ⟨List.subset_append_left _ _, by
    simp [R.OPL_STATUS_FAILED, R.OPL_STATUS_ACTIVE, R.OPL_STATUS_FRAME_LOCK]⟩)

theorem failLane_restErased (s : State) (l : Fin 68) : RestErased s (failLane s l) l :=
  (eraseFlight_restErased s l).of_eq (LaneStep.refl s) rfl List.not_mem_nil List.not_mem_nil (us_rx _ _)

theorem us_onlyRegs (s : State) (fs : List (FRef × Nat)) : OnlyRegs s (s.us fs) (fs.map fun p => p.1.addr) := by
  refine ⟨?_, (laneStep_us s fs).regs⟩
  induction fs generalizing s with
  | nil => rfl
  | cons p fs ih => exact ih (s.u p.1 p.2)

/-- A lane with nothing in flight shows its failure, and nothing else changes. -/
theorem failLane_idle {s : State} {l : Fin 68} (hrows : s.lanes[l].rows = []) (hreads : laneReads s l = false) :
    OnlyRegs s (failLane s l) [R.OPL_STATUS l] := by
  rw [failLane, eraseFlight_idle hrows hreads]
  obtain ⟨honly, hregs⟩ := us_onlyRegs s [(R.OPL_STATUS_FAILED l, 1), (R.OPL_STATUS_ACTIVE l, 0), (R.OPL_STATUS_FRAME_LOCK l, 0)]
  exact ⟨honly, hregs.mono (by simp [R.OPL_STATUS_FAILED, R.OPL_STATUS_ACTIVE, R.OPL_STATUS_FRAME_LOCK])⟩

/-- A block that cross parity cannot mend is counted (R330). -/
theorem sramRead_bad {s : State} {b : SramBlock} (h : sramBad (some b) = true) : sramRead s (some b) = s.bump R.BUF_CNT_SRAM_UE := by
  have hbad : (sramCheck b).1 = .bad := beq_iff_eq.mp h
  rw [sramRead, hbad]

theorem laneFailed_memory {s : State} {l : Fin 68} {b : SramBlock} (h : sramBad (some b) = true) :
    laneFailed l (.memory b) s = failLane (s.bump R.BUF_CNT_SRAM_UE) l := by
  rw [laneFailed, laneMemory, if_pos h, sramRead_bad h]

/-- The lane has nothing in flight: no rows of a cluster, and it does not read. -/
def nothingInFlight (s : State) (l : Fin 68) : Prop := s.lanes[l].rows = [] ∧ laneReads s l = false

/-- Which lane works for a beam is a matter of the map of the spares alone. -/
theorem workLane_of_map {s t : State} (hmap : t.rd R.OPL_SPARE_MAP = s.rd R.OPL_SPARE_MAP) : workLane t = workLane s := by
  funext n m v
  have hserves (k : Fin 4) : serves t k n m v = serves s k n m v := by
    simp only [serves, State.on, State.g, mapAssigned, mapStation, mapVerify, mapBeam, hmap]
  simp only [workLane, spareOf, hserves]

theorem laneBeam_of_map {s t : State} (hmap : t.rd R.OPL_SPARE_MAP = s.rd R.OPL_SPARE_MAP) (l : Fin 68) : laneBeam t l = laneBeam s l := by
  rw [laneBeam, workLane_of_map hmap]
  rfl

/-- What a lane's work depends on: the map of the spares, the status and role registers of the lanes, the lanes and the write path. -/
structure LaneView where
  map : Word
  status : Fin 68 → Word
  mode : Fin 68 → Word
  lanes : Vector Lane 68
  wrs : Vector Wrs 8

def laneView (s : State) : LaneView where
  map := s.rd R.OPL_SPARE_MAP
  status := fun l => s.rd (R.OPL_STATUS l)
  mode := fun l => s.rd (R.OPL_MODE l)
  lanes := s.lanes
  wrs := s.wrs

section
variable {s t : State} (h : laneView t = laneView s)
include h

theorem laneBeam_congr (l : Fin 68) : laneBeam t l = laneBeam s l := laneBeam_of_map (congrArg LaneView.map h) l

theorem status_congr (l : Fin 68) {f : FRef} (hf : f.addr = R.OPL_STATUS l) : t.on f = s.on f := by
  have hrd : t.rd f.addr = s.rd f.addr := hf ▸ congrFun (congrArg LaneView.status h) l
  rw [State.on, State.g, hrd]; rfl

theorem mode_congr (l : Fin 68) : t.g (R.OPL_MODE_MODE l) = s.g (R.OPL_MODE_MODE l) :=
  congrArg (getF · (R.OPL_MODE_MODE l)) (congrFun (congrArg LaneView.mode h) l)

theorem laneWorks_congr (l : Fin 68) : laneWorks t l = laneWorks s l := by
  have hlanes : t.lanes = s.lanes := congrArg LaneView.lanes h
  have hadc (k : Fin 68) : t.on (R.OPL_STATUS_ADC_FAILED k) = s.on (R.OPL_STATUS_ADC_FAILED k) := status_congr h k rfl
  have hrate : t.on (R.OPL_STATUS_RATE_ERR l) = s.on (R.OPL_STATUS_RATE_ERR l) := status_congr h l rfl
  have hfailed : t.on (R.OPL_STATUS_FAILED l) = s.on (R.OPL_STATUS_FAILED l) := status_congr h l rfl
  simp only [laneWorks, mode_congr h, hrate, hfailed, laneBeam_congr h, hadc, hlanes]

theorem keepsSeed_congr (l : Fin 68) : keepsSeed t l = keepsSeed s l := by
  have hwrs : t.wrs = s.wrs := congrArg LaneView.wrs h
  simp only [keepsSeed, laneBeam_congr h, hwrs]

theorem laneReads_congr (l : Fin 68) : laneReads t l = laneReads s l := by
  simp only [laneReads, laneWorks_congr h, mode_congr h, keepsSeed_congr h]

end

theorem laneView_bump (s : State) {a : Nat} (ha : a < 0x80000) : laneView (s.bump a) = laneView s := by
  have hb := laneBase_bounds
  have hmap : (s.bump a).rd R.OPL_SPARE_MAP = s.rd R.OPL_SPARE_MAP := s.rd_wr_other _ (by unfold R.OPL_SPARE_MAP; omega)
  have hstatus (l : Fin 68) : (s.bump a).rd (R.OPL_STATUS l) = s.rd (R.OPL_STATUS l) :=
    s.rd_wr_other _ (by have := hb l; unfold R.OPL_STATUS; omega)
  have hmode (l : Fin 68) : (s.bump a).rd (R.OPL_MODE l) = s.rd (R.OPL_MODE l) :=
    s.rd_wr_other _ (by have := hb l; unfold R.OPL_MODE; omega)
  simp only [laneView, hmap, hstatus, hmode, State.bump_lanes, State.bump_wrs]

theorem laneFailed_memory_shows {s : State} {l : Fin 68} {b : SramBlock} (h : sramBad (some b) = true) {t : State}
    (ht : laneFailed l (.memory b) s = t) : t.on (R.OPL_STATUS_FAILED l) = true ∧ t.on (R.OPL_STATUS_ACTIVE l) = false ∧
      t.on (R.OPL_STATUS_FRAME_LOCK l) = false ∧ Counted s t R.BUF_CNT_SRAM_UE 1 ∧
      (nothingInFlight s l → OnlyRegs s t [R.OPL_STATUS l, R.BUF_CNT_SRAM_UE]) ∧ RestErased s t l := by
  rw [laneFailed_memory h] at ht
  subst ht
  obtain ⟨hfailed, hactive, hlock⟩ := failLane_shows (s.bump R.BUF_CNT_SRAM_UE) l
  obtain ⟨hmode, hunit, hsram⟩ := not_mem_rowCounters l
  have hb := laneBase_bounds l
  have hne : R.BUF_CNT_SRAM_UE ≠ R.OPL_STATUS l ∧ R.BUF_CNT_SRAM_UE ≠ R.OPL_MODE l ∧ R.BUF_CNT_SRAM_UE ≠ R.OPL_UNIT l := by
    unfold R.BUF_CNT_SRAM_UE R.OPL_STATUS R.OPL_MODE R.OPL_UNIT; omega
  have hcounter : R.BUF_CNT_SRAM_UE ∉ rowCounters l ++ [R.OPL_STATUS l] := by simpa using ⟨hsram, hne.1⟩
  refine ⟨hfailed, hactive, hlock, (counted_bump s _).before (failLane_regs _ l) hcounter, fun ⟨hrows, hreads⟩ => ?_, ?_⟩
  · obtain ⟨honly, hregs⟩ := failLane_idle (s := s.bump R.BUF_CNT_SRAM_UE) hrows
      ((laneReads_congr (laneView_bump s (by decide)) l).trans hreads)
    exact ⟨honly, ((regsBut_bump s _).trans hregs).mono (by simp)⟩
  · exact (failLane_restErased _ l).of_eq (laneStep_bump s _) rfl (by simpa using hne.2.1.symm) (by simpa using hne.2.2.symm) rfl

/-- A lane without confirmed frames, while the others of its role hold frame lock, has failed. -/
theorem laneFailed_noFrames {s : State} {l : Fin 68} {x : Lane} {n : Fin 8} {m : Fin 4} {v : Bool} (hx : s.lanes[l] = x)
    (hbeam : laneBeam s l = some (n, m, v)) (hworks : laneWorks s l = true) (hdry : x.confirmed + 163840 ≤ x.dsp.n) (hdef : x.dsp.defects = [])
    (hothers : ∀ k : Fin 4, workLane s n k v ≠ l → s.g (R.OPL_MODE_MODE (workLane s n k v)) = s.g (R.OPL_MODE_MODE l) →
      s.on (R.OPL_STATUS_FRAME_LOCK (workLane s n k v)) = true) : laneFailed l .noFrames s = failLane s l := by
  have hall : ((beams.map fun k => workLane s n k v).filter fun k => k != l && s.g (R.OPL_MODE_MODE k) == s.g (R.OPL_MODE_MODE l)).all
      (locked s) = true := by
    refine List.all_eq_true.mpr fun j hj => ?_
    obtain ⟨hmem, hrole⟩ := List.mem_filter.mp hj
    obtain ⟨k, -, rfl⟩ := List.mem_map.mp hmem
    obtain ⟨hne, hmode⟩ := Bool.and_eq_true_iff.mp hrole
    exact hothers k (bne_iff_ne.mp hne) (beq_iff_eq.mp hmode)
  have hlong : x.confirmed + 64 * 2560 ≤ x.dsp.n := hdry
  simp only [laneFailed, hx, hbeam, hworks, hall, hdef, hlong, decide_true, List.any_nil, Bool.not_false, Bool.and_self, if_true]

/-- The station, beam and kind of a station lane, as its number gives them (R37). -/
theorem laneOf_parts {a : Fin 64} {n : Fin 8} {m : Fin 4} {v : Bool} (h : a.val = (laneOf n m v).val) :
    (⟨a.val / 8, by omega⟩ : Fin 8) = n ∧ (⟨a.val % 4, by omega⟩ : Fin 4) = m ∧ decide (4 ≤ a.val % 8) = v := by
  have hval : a.val = 8 * n.val + m.val + if v then 4 else 0 := h
  refine ⟨Fin.ext ?_, Fin.ext ?_, ?_⟩ <;> cases v <;> simp at hval ⊢ <;> omega

theorem adcFailed_fails {s z : State} {a : Fin 64} {n : Fin 8} {m : Fin 4} {v b : Bool} {f : LaneIn} {w : Fin 68} {x : Lane}
    (ha : a.val = (laneOf n m v).val) (hw : workLane s n m v = w) (hz : laneRun s w f = z) (hx : z.lanes[w] = x)
    (hfail : b = true ∨ (1000 ≤ x.dsp.same ∧ z.on (R.BRL_STN_SEQ_STATUS_FLOCK n) = true)) :
    adcFailed a f b s = (eraseFlight z w).us [(R.OPL_STATUS_ADC_FAILED a, 1), (R.OPL_STATUS_ACTIVE w, 0)] := by
  obtain ⟨hn, hm, hv⟩ := laneOf_parts ha
  have hstation : a.val / 8 = n.val := congrArg Fin.val hn
  simp only [adcFailed, hn, hm, hv, hw, hz, hx]
  rw [hstation]
  exact if_pos hfail

theorem adcFailed_shows (z : State) (a : Fin 64) (w : Fin 68) {t : State}
    (ht : (eraseFlight z w).us [(R.OPL_STATUS_ADC_FAILED a, 1), (R.OPL_STATUS_ACTIVE w, 0)] = t) :
    t.on (R.OPL_STATUS_ADC_FAILED a) = true ∧ t.on (R.OPL_STATUS_ACTIVE w) = false ∧
      (z.lanes[w].rows = [] → laneReads z w = false → OnlyRegs z t [R.OPL_STATUS a, R.OPL_STATUS w]) ∧ RestErased z t w := by
  subst ht
  refine ⟨?_, ?_, fun hrows hreads => ?_, (eraseFlight_restErased z w).of_eq (LaneStep.refl z) rfl List.not_mem_nil List.not_mem_nil (us_rx _ _)⟩
  · rw [State.us_cons, State.us_cons, State.us_nil, State.on_u_bits _ _ (.inl (Nat.le_of_ble_eq_true rfl)) (Nat.le_of_ble_eq_true rfl)]
    exact State.on_u_self _ ⟨Nat.le_of_ble_eq_true rfl, rfl⟩ true
  · rw [State.us_cons, State.us_cons, State.us_nil]
    exact State.on_u_self _ ⟨Nat.le_of_ble_eq_true rfl, rfl⟩ false
  · rw [eraseFlight_idle hrows hreads]
    exact us_onlyRegs z _

/-! Declared defects (R107, R109). -/

section
variable {s u : State} {l : Fin 68} {x : Lane} {f : LaneIn} (hu : laneRun s l f = u) (hx : u.lanes[l] = x)
include hu hx

theorem defectDeclared_holds (hworks : laneWorks u l = true) (hoff : u.on (R.OPL_STATUS_DEFECT l) = false)
    (hlen : u.g (R.OPL_DEFECT_MIN_LEN l) * 8 ≤ max x.dsp.low x.dsp.high) : defectDeclared l f s =
      (u.u (R.OPL_STATUS_DEFECT l) 1).laneU l fun y => { y with dsp := { y.dsp with
        defects := (outputsOf x.dsp - max x.dsp.low x.dsp.high, none) :: x.dsp.defects.filter (defectCounts y) } } := by
  simp only [defectDeclared, hu, hx, hworks, hoff, qualifyLen, hlen, Bool.not_false, and_self, if_true]

theorem defectHoldExceeded_holds (hon : u.on (R.OPL_STATUS_DEFECT l) = true)
    (hlen : u.g (R.OPL_DEFECT_MAX_HOLD l) * 2560 < defectLength x.dsp) :
    defectHoldExceeded l f s = (u.u (R.OPL_STATUS_HOLD_EXCEEDED l) 1).laneU l fun x => { x with held := true } := by
  simp only [defectHoldExceeded, hu, hx, hon, hlen, and_self, if_true]

theorem defectEnd_ends (hon : u.on (R.OPL_STATUS_DEFECT l) = true) (hheld : x.held = false) (hlen : u.g (R.OPL_DEFECT_MIN_LEN l) * 8 ≤ x.dsp.good) :
    defectEnd l f s = (u.u (R.OPL_STATUS_DEFECT l) 0).laneU l fun y => { y with dsp := { y.dsp with
      defects := closeDefect (outputsOf x.dsp) x.dsp.defects } } := by
  simp only [defectEnd, hu, hx, hon, qualifyLen, hlen, hheld, and_self, if_true, Bool.false_eq_true, if_false]

end

/-! Spares and microcode (R119, R122). -/

section
variable {s : State} {n : Fin 8} {m : Fin 4} {ver : Bool}

theorem spareForce_waits (hfree : (freeSpare s).isSome = true) (hspared : s.on (R.OPL_STATUS_SPARED (laneOf n m ver)) = false)
    (hadc : s.on (R.OPL_STATUS_ADC_FAILED (laneOf n m ver)) = false) :
    spareForce n ver m s = s.laneU (laneOf n m ver) fun x => { x with force := true } := by
  have hsome : (freeSpare s).isNone = false := by rw [← Option.not_isSome, hfree]; rfl
  simp only [spareForce, hsome, hspared, hadc, Bool.false_eq_true, or_self, if_false]

theorem spareRelease_waits (hfailed : s.on (R.OPL_STATUS_FAILED (laneOf n m ver)) = false)
    (hspared : s.on (R.OPL_STATUS_SPARED (laneOf n m ver)) = true) :
    spareRelease n ver m s = s.laneU (laneOf n m ver) fun x => { x with release := true } := by
  simp only [spareRelease, hfailed, hspared, Bool.not_true, Bool.false_eq_true, or_self, if_false]

end

/-- Settles O13: each clause is read off the rule of its command. -/
theorem laneDefectsAndFailures : Obligations.LaneDefectsAndFailures := by
  intro s l f hs u
  have hu : laneRun s l f = u := rfl
  clear_value u
  intro x
  have hx : u.lanes[l] = x := rfl
  clear_value x
  refine ⟨?declared, ?exceeded, ?ends, ⟨?memory, ?noFrames, ?adc⟩, fun n ver m => ⟨?force, ?release⟩, ?take, ?within⟩
  case declared =>
    intro hworks hoff hlen
    refine does_of_answer hs rfl ?_
    rw [defectDeclared_holds hu hx hworks hoff hlen]
    exact ⟨State.on_u_self u ⟨Nat.le_of_ble_eq_true rfl, rfl⟩ true,
      congrArg (fun y => y.dsp.defects.head?) (State.lane_laneU_self (u.u (R.OPL_STATUS_DEFECT l) 1) l _), onlyFields_u u _ 1⟩
  case exceeded =>
    intro hon hlen
    refine does_of_answer hs rfl ?_
    rw [defectHoldExceeded_holds hu hx hon hlen]
    exact ⟨State.on_u_self u ⟨Nat.le_of_ble_eq_true rfl, rfl⟩ true,
      congrArg Lane.held (State.lane_laneU_self (u.u (R.OPL_STATUS_HOLD_EXCEEDED l) 1) l _), onlyFields_u u _ 1⟩
  case ends =>
    intro hon hheld hlen
    refine does_of_answer hs rfl ?_
    rw [defectEnd_ends hu hx hon hheld hlen]
    exact ⟨State.on_u_self u ⟨Nat.le_of_ble_eq_true rfl, rfl⟩ false, onlyFields_u u _ 0⟩
  case memory => exact fun b hbad => does_of_answer hs rfl (laneFailed_memory_shows hbad rfl)
  case noFrames =>
    intro n m v hbeam hworks hdry hdef hothers
    refine does_of_answer hs rfl ?_
    rw [laneFailed_noFrames rfl hbeam hworks hdry hdef hothers]
    obtain ⟨hfailed, hactive, hlock⟩ := failLane_shows s l
    exact ⟨hfailed, hactive, hlock, fun ⟨hrows, hreads⟩ => failLane_idle hrows hreads, failLane_restErased s l⟩
  case adc =>
    intro n m v b a ha w z hfail
    refine does_of_answer hs rfl ?_
    rw [adcFailed_fails ha rfl rfl rfl hfail]
    exact adcFailed_shows z a w rfl
  case force =>
    intro hfree hspared hadc
    refine does_of_answer hs rfl ?_
    rw [spareForce_waits hfree hspared hadc]
    exact ⟨congrArg Lane.force (State.lane_laneU_self s _ _), rfl⟩
  case release =>
    intro hfailed hspared
    refine does_of_answer hs rfl ?_
    rw [spareRelease_waits hfailed hspared]
    exact ⟨congrArg Lane.release (State.lane_laneU_self s _ _), rfl⟩
  case take =>
    intro hbetween
    refine does_of_answer hs rfl ?_
    rw [microcodeTake, if_pos hbetween]
    exact ⟨congrArg Lane.ucode (State.lane_laneU_self s _ _), rfl⟩
  case within =>
    intro hwithin
    refine (answer_live _ hs).trans (congrArg _ ?_)
    rw [microcodeTake, hwithin]
    rfl

end Sys2Proof.Machine

/-!
PROOF. O18: the commands of the sequencer (R95, R196, R200 to R206, R209). First what its operations leave alone and what they show in SEQ_STATUS,
then how each sequence starts, then the feed-forward tables, then the obligation.
-/

namespace Sys2Proof.Machine

/-! Operations on loops and sequencers. -/

/-- Nothing but Beryl's loops and sequencers has changed. -/
def LoopStep (s t : State) : Prop := ∃ b, t = { s with brl := b }

theorem LoopStep.refl (s : State) : LoopStep s s := ⟨s.brl, rfl⟩

theorem LoopStep.trans {s t u : State} (h : LoopStep s t) (h' : LoopStep t u) : LoopStep s u := by
  obtain ⟨_, rfl⟩ := h
  obtain ⟨_, rfl⟩ := h'
  exact ⟨_, rfl⟩

theorem LoopStep.eq {s t : State} (h : LoopStep s t) : t = { s with brl := t.brl } := by
  obtain ⟨_, rfl⟩ := h
  rfl

theorem LoopStep.regs {s t : State} (h : LoopStep s t) : t.regs = s.regs := by
  obtain ⟨_, rfl⟩ := h
  rfl

theorem LoopStep.rd {s t : State} (h : LoopStep s t) (a : Nat) : t.rd a = s.rd a := congrArg (rdR · a) h.regs

theorem loopStep_loopU (s : State) (k : Fin 96) (f : Loop → Loop) : LoopStep s (s.loopU k f) := ⟨_, rfl⟩

theorem loopStep_seqU (s : State) (n : Fin 8) (f : Seq → Seq) : LoopStep s (s.seqU n f) := ⟨_, rfl⟩

theorem loopStep_loopOf (s : State) (n typ : Nat) (f : Loop → Loop) : LoopStep s (s.loopOf n typ f) := by
  unfold State.loopOf
  split
  · exact loopStep_loopU s _ f
  · exact LoopStep.refl s

theorem loopStep_holdLoop (s : State) (n typ : Nat) : LoopStep s (holdLoop s n typ) := loopStep_loopOf s n typ _

theorem loopStep_closeLoop (s : State) (n typ : Nat) : LoopStep s (closeLoop s n typ) := loopStep_loopOf s n typ _

theorem loopStep_parkLoop (s : State) (n typ : Nat) : LoopStep s (parkLoop s n typ) := loopStep_loopOf s n typ _

theorem loopStep_releaseLoop (s : State) (n typ : Nat) : LoopStep s (releaseLoop s n typ) := loopStep_loopOf s n typ _

/-- A change of the focus loop, where a slot runs it, by what that slot shows. -/
theorem loopStep_focus (s : State) (n : Nat) (f : Fin 96 → Loop → Loop) :
    LoopStep s (match slotFor s n tyFOCUS with
      | some k => s.loopU k (f k)
      | none => s) := by
  split
  · exact loopStep_loopU s _ _
  · exact LoopStep.refl s

theorem loopStep_rampDown (s : State) (n : Nat) : LoopStep s (rampDown s n) := loopStep_focus s n _

theorem LoopStep.each {α : Type} {k : State → α → State} (hk : ∀ s x, LoopStep s (k s x)) (l : List α) (s : State) : LoopStep s (s.each l k) := by
  induction l generalizing s with
  | nil => exact LoopStep.refl s
  | cons x l ih => exact (hk s x).trans (ih (k s x))

/-- Nothing but registers of a list, Beryl's loops and sequencers, and whether a capture triggers at its next sample, has changed. -/
structure SeqStep (s t : State) (l : List Nat) : Prop where
  regs : RegsBut s t l
  only : ∃ r b d, t = { s with regs := r, brl := b, jsp := { s.jsp with due := d } }

theorem LoopStep.seq {s t : State} (h : LoopStep s t) (l : List Nat) : SeqStep s t l := by
  obtain ⟨b, rfl⟩ := h
  exact ⟨RegsBut.of_regs rfl _, s.regs, b, s.jsp.due, rfl⟩

theorem SeqStep.trans {s t u : State} {l : List Nat} (h : SeqStep s t l) (h' : SeqStep t u l) : SeqStep s u l := by
  obtain ⟨_, _, _, rfl⟩ := h.only
  obtain ⟨_, _, _, rfl⟩ := h'.only
  exact ⟨h.regs.andThen h'.regs, _, _, _, rfl⟩

theorem SeqStep.eq {s t : State} {l : List Nat} (h : SeqStep s t l) :
    t = { s with regs := t.regs, brl := t.brl, jsp := { s.jsp with due := t.jsp.due } } := by
  obtain ⟨_, _, _, rfl⟩ := h.only
  rfl

theorem seqStep_u (s : State) (f : FRef) (v : Nat) : SeqStep s (s.u f v) [f.addr] := ⟨regsBut_u s f v, _, _, _, rfl⟩

/-! What the sequencer shows in SEQ_STATUS (R218). -/

theorem jspLeavesIdle_only (s : State) (n : Fin 8) (st : Nat) : ∃ d, jspLeavesIdle s n st = { s with jsp := { s.jsp with due := d } } := by
  unfold jspLeavesIdle
  split
  · exact ⟨true, rfl⟩
  · exact ⟨s.jsp.due, rfl⟩

/-- A sequencer that does not leave IDLE triggers no capture (R214). -/
theorem jspLeavesIdle_busy {s : State} {n : Fin 8} {st : Nat} (h : seqSt s n ≠ sqIDLE ∨ st = sqIDLE) : jspLeavesIdle s n st = s := by
  unfold jspLeavesIdle
  rw [if_neg]
  obtain h | h := h
  · simp [h]
  · simp [h]

theorem seqStep_jspLeavesIdle (s : State) (n : Fin 8) (st : Nat) (l : List Nat) : SeqStep s (jspLeavesIdle s n st) l := by
  obtain ⟨d, h⟩ := jspLeavesIdle_only s n st
  rw [h]
  exact ⟨RegsBut.of_regs rfl _, s.regs, s.brl, d, rfl⟩

theorem seqStep_seqEnter (s : State) (n : Fin 8) (st sub : Nat) : SeqStep s (seqEnter s n st sub) [R.BRL_STN_SEQ_STATUS n] :=
  ((seqStep_jspLeavesIdle s n st _).trans (seqStep_u _ (R.BRL_STN_SEQ_STATUS_STATE n) st)).trans ((loopStep_seqU _ n _).seq _)

theorem seqEnter_g (s : State) (n : Fin 8) (st sub : Nat) (f : FRef) :
    (seqEnter s n st sub).g f = (s.u (R.BRL_STN_SEQ_STATUS_STATE n) st).g f := by
  unfold seqEnter
  obtain ⟨d, h⟩ := jspLeavesIdle_only s n st
  rw [h]
  rfl

theorem seqEnter_state (s : State) (n : Fin 8) {st : Nat} (sub : Nat) (h : st < 16) :
    (seqEnter s n st sub).g (R.BRL_STN_SEQ_STATUS_STATE n) = st := by
  rw [seqEnter_g, State.g_u_self _ _ _ (Nat.le_of_ble_eq_true rfl)]
  exact Nat.mod_eq_of_lt h

/-- Entering a state changes no field above STATE. -/
theorem seqEnter_keeps (s : State) (n : Fin 8) (st sub : Nat) {f : FRef} (hlo : 4 ≤ f.lo) (hf : f.lo + f.w ≤ 32) :
    (seqEnter s n st sub).g f = s.g f := by
  rw [seqEnter_g]
  exact s.g_u_bits _ f st (.inl hlo) hf

theorem seqEnter_loops (s : State) (n : Fin 8) (st sub : Nat) : (seqEnter s n st sub).brl.loops = s.brl.loops := by
  unfold seqEnter
  obtain ⟨d, h⟩ := jspLeavesIdle_only s n st
  rw [h]
  rfl

theorem locksOff_off (s : State) (n : Nat) : (locksOff s n).on (R.BRL_STN_SEQ_STATUS_FLOCK n) = false ∧
    (locksOff s n).on (R.BRL_STN_SEQ_STATUS_TLOCK n) = false := by
  simp only [locksOff, State.us_cons, State.us_nil]
  refine ⟨?_, State.on_u_self _ ⟨Nat.le_of_ble_eq_true rfl, rfl⟩ false⟩
  rw [State.on_u_bits _ _ (.inr (Nat.le_of_ble_eq_true rfl)) (Nat.le_of_ble_eq_true rfl)]
  exact State.on_u_self s ⟨Nat.le_of_ble_eq_true rfl, rfl⟩ false

/-- The loss of the locks changes no field above them. -/
theorem locksOff_keeps (s : State) (n : Nat) {f : FRef} (hlo : 10 ≤ f.lo) (hf : f.lo + f.w ≤ 32) : (locksOff s n).g f = s.g f := by
  have hlock : 8 + 1 ≤ f.lo := Nat.le_of_succ_le hlo
  simp only [locksOff, State.us_cons, State.us_nil]
  exact ((s.u _ 0).g_u_bits (R.BRL_STN_SEQ_STATUS_TLOCK n) f 0 (.inl hlo) hf).trans (s.g_u_bits (R.BRL_STN_SEQ_STATUS_FLOCK n) f 0 (.inl hlock) hf)

theorem seqStep_locksOff (s : State) (n : Nat) : SeqStep s (locksOff s n) [R.BRL_STN_SEQ_STATUS n] :=
  (seqStep_u s (R.BRL_STN_SEQ_STATUS_FLOCK n) 0).trans (seqStep_u _ (R.BRL_STN_SEQ_STATUS_TLOCK n) 0)

/-- The locks read 0, and the sequencer enters a state. -/
def unlockedIn (s : State) (n : Fin 8) (f : Seq → Seq) (st : Nat) : State := seqEnter ((locksOff s n).seqU n f) n st 0

theorem unlockedIn_shows (s : State) (n : Fin 8) (f : Seq → Seq) {st : Nat} (h : st < 16) {t : State} (ht : unlockedIn s n f st = t) :
    t.g (R.BRL_STN_SEQ_STATUS_STATE n) = st ∧ t.on (R.BRL_STN_SEQ_STATUS_FLOCK n) = false ∧ t.on (R.BRL_STN_SEQ_STATUS_TLOCK n) = false ∧
      t.g (R.BRL_STN_SEQ_STATUS_LAST_CMD n) = s.g (R.BRL_STN_SEQ_STATUS_LAST_CMD n) ∧ SeqStep s t [R.BRL_STN_SEQ_STATUS n] := by
  subst ht
  have hseq := loopStep_seqU (locksOff s n) n f
  have hkeeps {g : FRef} (hlo : 4 ≤ g.lo) (hg : g.lo + g.w ≤ 32) : (unlockedIn s n f st).g g = (locksOff s n).g g :=
    (seqEnter_keeps ((locksOff s n).seqU n f) n st 0 hlo hg).trans (State.seqU_g _ n f g)
  obtain ⟨hflock, htlock⟩ := locksOff_off s n
  refine ⟨seqEnter_state _ n 0 h, ?_, ?_, ?_, ((seqStep_locksOff s n).trans (hseq.seq _)).trans (seqStep_seqEnter _ n st 0)⟩
  · exact (congrArg (· == 1) (hkeeps (Nat.le_of_ble_eq_true rfl) (Nat.le_of_ble_eq_true rfl))).trans hflock
  · exact (congrArg (· == 1) (hkeeps (Nat.le_of_ble_eq_true rfl) (Nat.le_of_ble_eq_true rfl))).trans htlock
  · exact (hkeeps (Nat.le_of_ble_eq_true rfl) (Nat.le_of_ble_eq_true rfl)).trans
      (locksOff_keeps s n (Nat.le_of_ble_eq_true rfl) (Nat.le_of_ble_eq_true rfl))

/-! The lanes of a station start again at the new place (R95). -/

theorem LaneStep.quant (s : State) (num den : Int) : LaneStep s (s.quant num den).2 [] := by
  unfold State.quant
  split
  · exact LaneStep.refl s
  · exact laneStep_free s _

/-- A seed is loaded into a lane, and shown (R95). -/
def seedShown (s : State) (l : Fin 68) (sd : Nat) (bad : Bool) : State :=
  ((s.laneU l fun x => { x with seed := sd }).us [(R.OPL_RATE_PERIOD l, sd), (R.OPL_STATUS_RATE_ERR l, b2n bad)]).whenB bad
    fun u => u.u (R.OPL_STATUS_ACTIVE l) 0

theorem laneStep_seedShown (s : State) (l : Fin 68) (sd : Nat) (bad : Bool) :
    LaneStep s (seedShown s l sd bad) [R.OPL_STATUS l, R.OPL_RATE l] := by
  have hshow := (laneStep_laneU s l fun x => { x with seed := sd }).trans
    (laneStep_us _ [(R.OPL_RATE_PERIOD l, sd), (R.OPL_STATUS_RATE_ERR l, b2n bad)])
  cases bad
  · exact hshow.mono (by simp [R.OPL_RATE_PERIOD, R.OPL_STATUS_RATE_ERR])
  · exact (hshow.trans (laneStep_u _ (R.OPL_STATUS_ACTIVE l) 0)).mono (by simp [R.OPL_RATE_PERIOD, R.OPL_STATUS_RATE_ERR, R.OPL_STATUS_ACTIVE])

theorem laneStep_seedLoad (wobble : Nat) (s : State) (l : Fin 68) : LaneStep s (seedLoad wobble s l) [R.OPL_STATUS l, R.OPL_RATE l] := by
  unfold seedLoad
  split
  next q t hsource =>
    have ht : LaneStep s t [] := by
      split at hsource
      · have hquant := LaneStep.quant s wobble 128
        rw [hsource] at hquant
        exact hquant
      · exact (Prod.mk.inj hsource).2 ▸ LaneStep.refl s
    exact ht.trans (laneStep_seedShown t l _ _)

theorem laneStep_laneRestart (wobble : Nat) (s : State) (l : Fin 68) : LaneStep s (laneRestart wobble s l) [R.OPL_STATUS l, R.OPL_RATE l] := by
  have hlocks := laneStep_us s [(R.OPL_STATUS_FRAME_LOCK l, 0), (R.OPL_STATUS_HYPOTHESIS l, 0), (R.OPL_STATUS_ACTIVE l, 0)]
  have hseed := laneStep_seedLoad wobble (s.us [(R.OPL_STATUS_FRAME_LOCK l, 0), (R.OPL_STATUS_HYPOTHESIS l, 0), (R.OPL_STATUS_ACTIVE l, 0)]) l
  exact ((hlocks.trans hseed).trans (laneStep_laneU _ l _)).mono
    (by simp [R.OPL_STATUS_FRAME_LOCK, R.OPL_STATUS_HYPOTHESIS, R.OPL_STATUS_ACTIVE])

/-- The registers in which the lanes show that they start again (R95). -/
def lanesShown : List Nat := (List.finRange 68).flatMap fun l => [R.OPL_STATUS l, R.OPL_RATE l]

theorem mem_lanesShown {a : Nat} : a ∈ lanesShown ↔ ∃ l : Fin 68, a = R.OPL_STATUS l ∨ a = R.OPL_RATE l := by
  simp [lanesShown]

theorem RegsBut.each {α : Type} {k : State → α → State} {regs : List Nat} (hk : ∀ s x, RegsBut s (k s x) regs) (l : List α) (s : State) :
    RegsBut s (s.each l k) regs := by
  induction l generalizing s with
  | nil => exact RegsBut.of_regs rfl _
  | cons x l ih => exact (hk s x).andThen (ih (k s x))

theorem regsBut_lanesSeek (s : State) (n : Fin 8) : RegsBut s (lanesSeek s n) lanesShown :=
  RegsBut.each (fun t l => by
    split
    · exact RegsBut.of_regs rfl _
    · exact (laneStep_laneRestart _ t l).regs.mono fun a ha => mem_lanesShown.mpr ⟨l, by simpa using ha⟩) _ s

/-! What CAL holds for a layer, and the offsets of the loops (R208, R299). -/

/-- The OFFSET registers of the loops. -/
def slotOffsets : List Nat := slots.map fun k => R.BRL_SLOT_OFFSET k

theorem mem_slotOffsets {a : Nat} : a ∈ slotOffsets ↔ ∃ k : Fin 96, a = R.BRL_SLOT_OFFSET k := by
  simp [slotOffsets, slots, eq_comm]

theorem nearest_regs (s : State) (num den : Int) : (s.nearest num den).2.regs = s.regs := by
  unfold State.nearest
  extract_lets twice
  split <;> rfl

theorem quant_regs (s : State) (num den : Int) : (s.quant num den).2.regs = s.regs := by
  unfold State.quant
  split <;> rfl

theorem saOf_regs (s : State) (n : Fin 8) (layer : Nat) : (saOf s n layer).2.regs = s.regs := nearest_regs s _ _

theorem meanOf_regs (s : State) (l : List Int) : (meanOf s l).2.regs = s.regs := by
  unfold meanOf
  split
  · rfl
  · exact quant_regs s _ _

theorem regsBut_uBoth (s : State) (f : FRef) (v : Nat) : RegsBut s (s.uBoth f v) [f.addr] := regsBut_u s f v

theorem regsBut_writeOffset (s : State) (n typ : Nat) (v : Int) : RegsBut s (writeOffset s n typ v) slotOffsets := by
  unfold writeOffset
  split
  next k _ => exact (regsBut_uBoth s _ _).mono fun a ha => mem_slotOffsets.mpr ⟨k, List.mem_singleton.mp ha⟩
  · exact RegsBut.of_regs rfl _

theorem seqStatus_not_mem (n : Fin 8) : R.BRL_STN_SEQ_STATUS n ∉ slotOffsets ∧ R.BRL_STN_SEQ_STATUS n ∉ lanesShown := by
  constructor
  · rw [mem_slotOffsets]
    rintro ⟨k, hk⟩
    simp only [R.BRL_STN_SEQ_STATUS, R.BRL_SLOT_OFFSET] at hk
    omega
  · rw [mem_lanesShown]
    rintro ⟨l, hl⟩
    have hb := laneBase_bounds l
    simp only [R.BRL_STN_SEQ_STATUS, R.OPL_STATUS, R.OPL_RATE] at hl
    omega

/-! How each sequence starts. -/

theorem LoopStep.regsBut {s t : State} (h : LoopStep s t) (l : List Nat) : RegsBut s t l := RegsBut.of_regs h.regs l

/-- What the start of a sequence shows: its state, and that tracking is lost; LAST_CMD stands. -/
structure Starts (s t : State) (n : Fin 8) (st : Nat) (regs : List Nat) : Prop where
  state : t.g (R.BRL_STN_SEQ_STATUS_STATE n) = st
  tlock : t.on (R.BRL_STN_SEQ_STATUS_TLOCK n) = false
  last : t.g (R.BRL_STN_SEQ_STATUS_LAST_CMD n) = s.g (R.BRL_STN_SEQ_STATUS_LAST_CMD n)
  regs : RegsBut s t (R.BRL_STN_SEQ_STATUS n :: regs)

/-- Tracking lock reads 0, and a jump enters its first state. -/
def jumpIn (s : State) (n : Fin 8) (f : Seq → Seq) (st : Nat) : State := seqEnter ((s.u (R.BRL_STN_SEQ_STATUS_TLOCK n) 0).seqU n f) n st 0

theorem jumpIn_starts (s : State) (n : Fin 8) (f : Seq → Seq) {st : Nat} (h : st < 16) : Starts s (jumpIn s n f st) n st [] where
  state := seqEnter_state _ n 0 h
  tlock := by
    have hkeeps := seqEnter_keeps ((s.u (R.BRL_STN_SEQ_STATUS_TLOCK n) 0).seqU n f) n st 0 (f := R.BRL_STN_SEQ_STATUS_TLOCK n)
      (Nat.le_of_ble_eq_true rfl) (Nat.le_of_ble_eq_true rfl)
    exact (congrArg (· == 1) (hkeeps.trans (State.seqU_g _ n f _))).trans (State.on_u_self s ⟨Nat.le_of_ble_eq_true rfl, rfl⟩ false)
  last := by
    have hkeeps := seqEnter_keeps ((s.u (R.BRL_STN_SEQ_STATUS_TLOCK n) 0).seqU n f) n st 0 (f := R.BRL_STN_SEQ_STATUS_LAST_CMD n)
      (Nat.le_of_ble_eq_true rfl) (Nat.le_of_ble_eq_true rfl)
    exact (hkeeps.trans (State.seqU_g _ n f _)).trans
      (s.g_u_bits (R.BRL_STN_SEQ_STATUS_TLOCK n) _ 0 (.inl (Nat.le_of_ble_eq_true rfl)) (Nat.le_of_ble_eq_true rfl))
  regs := (((seqStep_u s (R.BRL_STN_SEQ_STATUS_TLOCK n) 0).trans ((loopStep_seqU _ n f).seq _)).trans (seqStep_seqEnter _ n st 0)).regs

/-- A start may follow operations that leave SEQ_STATUS alone. -/
theorem Starts.after {s v t : State} {n : Fin 8} {st : Nat} {regs : List Nat} (h : Starts v t n st []) (hv : RegsBut s v regs)
    (hseq : R.BRL_STN_SEQ_STATUS n ∉ regs) : Starts s t n st regs where
  state := h.state
  tlock := h.tlock
  last := h.last.trans (hv.g hseq)
  regs := (hv.trans h.regs).mono (by simp)

theorem startTrackJump_starts (s : State) (n : Fin 8) : Starts s (startTrackJump s n) n 7 lanesShown := by
  have hv : ∃ v f, startTrackJump s n = jumpIn v n f 7 ∧ LoopStep (lanesSeek s n) v :=
    ⟨_, _, rfl, ((loopStep_holdLoop _ _ _).trans (loopStep_holdLoop _ _ _)).trans (loopStep_loopOf _ _ _ _)⟩
  obtain ⟨v, f, heq, hv⟩ := hv
  rw [heq]
  exact (jumpIn_starts v n f (by decide)).after ((regsBut_lanesSeek s n).andThen (hv.regsBut _)) (seqStatus_not_mem n).2

theorem startLayerJump_starts (s : State) (n : Fin 8) : Starts s (startLayerJump s n) n 8 (lanesShown ++ slotOffsets) := by
  have htrack (s : State) : (match slotFor s n tyTRACK with
      | some k => ((meanOf s ((s.loop k).hist.take 64)).2.loopU k fun l => { l with drive := .hold (meanOf s ((s.loop k).hist.take 64)).1 })
      | none => s).regs = s.regs := by
    split
    · exact meanOf_regs s _
    · rfl
  have hv : ∃ v f, startLayerJump s n = jumpIn v n f 8 ∧ RegsBut s v (lanesShown ++ slotOffsets) := by
    refine ⟨_, _, rfl, (regsBut_lanesSeek s n).trans (RegsBut.andThen (RegsBut.of_regs ?_ _) (regsBut_writeOffset _ _ _ _))⟩
    exact (saOf_regs _ _ _).trans (((loopStep_holdLoop _ _ _).trans (loopStep_holdLoop _ _ _)).regs.trans (htrack _))
  obtain ⟨v, f, heq, hv⟩ := hv
  rw [heq]
  exact (jumpIn_starts v n f (by decide)).after hv (by simp [seqStatus_not_mem n])

theorem startAcq_shows (s : State) (n : Fin 8) {t : State} (ht : startAcq s n = t) :
    t.g (R.BRL_STN_SEQ_STATUS_STATE n) = 2 ∧ t.on (R.BRL_STN_SEQ_STATUS_FLOCK n) = false ∧ t.on (R.BRL_STN_SEQ_STATUS_TLOCK n) = false ∧
      t.g (R.BRL_STN_SEQ_STATUS_LAST_CMD n) = s.g (R.BRL_STN_SEQ_STATUS_LAST_CMD n) ∧ RegsBut s t (R.BRL_STN_SEQ_STATUS n :: slotOffsets) := by
  have hv : ∃ v f, startAcq s n = unlockedIn v n f 2 ∧ RegsBut s v slotOffsets := by
    refine ⟨_, _, rfl, RegsBut.andThen (RegsBut.of_regs ?_ _) (regsBut_writeOffset _ _ _ _)⟩
    refine (loopStep_closeLoop _ _ _).regs.trans ((saOf_regs _ _ _).trans ?_)
    exact ((((LoopStep.each (fun s t => loopStep_loopOf s n t _) _ s).trans (loopStep_parkLoop _ _ _)).trans (loopStep_parkLoop _ _ _)).trans
      (loopStep_holdLoop _ _ _) |>.trans (loopStep_focus _ n _)).regs
  obtain ⟨v, f, heq, hv⟩ := hv
  obtain ⟨hstate, hflock, htlock, hlast, hstep⟩ := unlockedIn_shows v n f (by decide) (heq.symm.trans ht)
  exact ⟨hstate, hflock, htlock, hlast.trans (hv.g (seqStatus_not_mem n).1), (hv.trans hstep.regs).mono (by simp)⟩

theorem seqStopNow_shows (s : State) (n : Fin 8) {t : State} (ht : seqStopNow s n = t) :
    t.g (R.BRL_STN_SEQ_STATUS_STATE n) = 10 ∧ t.on (R.BRL_STN_SEQ_STATUS_FLOCK n) = false ∧ t.on (R.BRL_STN_SEQ_STATUS_TLOCK n) = false ∧
      t.g (R.BRL_STN_SEQ_STATUS_LAST_CMD n) = s.g (R.BRL_STN_SEQ_STATUS_LAST_CMD n) ∧ SeqStep s t [R.BRL_STN_SEQ_STATUS n] := by
  have hv : ∃ v f, seqStopNow s n = unlockedIn v n f 10 ∧ LoopStep s v :=
    ⟨_, _, rfl, (((loopStep_seqU s n _).trans (LoopStep.each (fun s t => loopStep_releaseLoop s n t) _ _)).trans
      (LoopStep.each (fun s t => loopStep_parkLoop s n t) _ _)).trans (LoopStep.each (fun s t => loopStep_holdLoop s n t) _ _) |>.trans
      (loopStep_rampDown _ n)⟩
  obtain ⟨v, f, heq, hv⟩ := hv
  obtain ⟨hstate, hflock, htlock, hlast, hstep⟩ := unlockedIn_shows v n f (by decide) (heq.symm.trans ht)
  exact ⟨hstate, hflock, htlock, hlast.trans (congrArg (getF · _) (hv.rd _)), (hv.seq _).trans hstep⟩

/-! The feed-forward tables at reset (R42, R196). -/

/-- How far from its base the last register of a row of the register map lies. -/
def rowReach : List (Nat × Nat) → Nat
  | [] => 0
  | (c, st) :: dims => (c - 1) * st + rowReach dims

theorem matchDims_le_reach {rel : Nat} {dims : List (Nat × Nat)} (h : (matchDims rel dims).isSome = true) : rel ≤ rowReach dims := by
  induction dims generalizing rel with
  | nil => exact (matchDims_nil.mp h).le
  | cons d dims ih =>
    obtain ⟨hindex, hrest⟩ := matchDims_cons.mp h
    calc rel = rel / d.2 * d.2 + rel % d.2 := (Nat.div_add_mod' rel d.2).symm
      _ ≤ (d.1 - 1) * d.2 + rowReach dims := Nat.add_le_add (Nat.mul_le_mul_right _ (Nat.le_sub_one_of_lt hindex)) (ih hrest)

/-- Every row of Beryl's block lies below the feed-forward tables, or resets to 0. -/
theorem rowsBrl_below_tables : ∀ row ∈ rowsBrl, row.base + rowReach row.dims < 0x130000 ∨ ∀ g, fieldsReset (row.fields g) = 0 := by
  have hlist : rowsBrl = rowsBrl.dropLast ++ [⟨0x130000, [(8, 0x1000), (2, 0x800), (512, 0x4)], 0, fun _ => [⟨0, 24, .rw, 0⟩]⟩] := rfl
  have hbelow : ∀ row ∈ rowsBrl.dropLast, row.base + rowReach row.dims < 0x130000 := by decide
  intro row hrow
  rw [hlist, List.mem_append, List.mem_singleton] at hrow
  obtain hrow | rfl := hrow
  · exact .inl (hbelow row hrow)
  · exact .inr fun _ => rfl

theorem resetWord_ffTables {a : Nat} (hlo : 0x130000 ≤ a) (hhi : a < 0x140000) : resetWord a = 0#32 := by
  have hrows : rowsFor a = rowsBrl := by
    simp [rowsFor, show ¬ a < 0x100000 by omega, show ¬ a < 0x10000 by omega, show ¬ a < 0x20000 by omega, show ¬ a < 0x40000 by omega,
      show ¬ a < 0x50000 by omega, show ¬ a < 0x60000 by omega, show ¬ a < 0x70000 by omega, show ¬ a < 0x80000 by omega, hhi]
  unfold resetWord
  split
  next r hr =>
    rw [regAt, hrows] at hr
    obtain ⟨row, hrow, hbase, ix, hix, hfields⟩ := findReg_row hr
    obtain hend | hzero := rowsBrl_below_tables row hrow
    · have hreach := matchDims_le_reach (by rw [hix]; rfl : (matchDims (a - row.base) row.dims).isSome = true)
      omega
    · rw [hfields, hzero]
  · rfl

/-- A register whose entry is dropped reads as at reset; the others read as before. -/
theorem rdR_filter (m : SMap Word) (keep : Nat → Bool) (a : Nat) :
    rdR (m.filter fun p => keep p.1) a = if keep a then rdR m a else resetWord a := by
  have hget : smGet (m.filter fun p => keep p.1) a = if keep a then smGet m a else none := by
    induction m with
    | nil => simp [smGet]
    | cons p m ih =>
      rw [List.filter_cons]
      by_cases hp : p.1 = a
      · cases hk : keep a
        · simpa [hp, hk] using ih
        · simp [smGet, hp, hk]
      · cases hk : keep p.1
        · simpa [smGet, hp] using ih
        · simpa [smGet, hp] using ih
  rw [rdR, hget]
  split <;> rfl

/-- A register of a station's feed-forward tables. -/
def inTables (n : Fin 8) (a : Nat) : Bool := R.BRL_FF_ENTRY n 0 0 ≤ a && a < R.BRL_FF_ENTRY n 0 0 + 0x1000

theorem inTables_iff {n : Fin 8} {a : Nat} : inTables n a = true ↔ R.BRL_FF_ENTRY n 0 0 ≤ a ∧ a < R.BRL_FF_ENTRY n 0 0 + 0x1000 := by
  simp [inTables]

/-- The entries of a station's feed-forward tables are dropped. -/
def tablesDropped (s : State) (n : Fin 8) : State := { s with regs := s.regs.filter fun p => !inTables n p.1 }

theorem tablesDropped_rd (s : State) (n : Fin 8) (a : Nat) : (tablesDropped s n).rd a = if inTables n a then 0#32 else s.rd a := by
  have hdrop : (tablesDropped s n).rd a = if !inTables n a then s.rd a else resetWord a := rdR_filter s.regs (fun a => !inTables n a) a
  rw [hdrop]
  cases hin : inTables n a
  · rfl
  · have hn := n.isLt
    rw [inTables_iff, R.BRL_FF_ENTRY] at hin
    exact resetWord_ffTables (by omega) (by omega)

theorem seqStatus_not_inTables (n : Fin 8) : inTables n (R.BRL_STN_SEQ_STATUS n) = false := by
  rw [← Bool.not_eq_true, inTables_iff, R.BRL_FF_ENTRY, R.BRL_STN_SEQ_STATUS]
  omega

theorem ffEntry_inTables (n : Fin 8) (k : Fin 2) (i : Fin 512) : inTables n (R.BRL_FF_ENTRY n k i) = true := by
  have hk := k.isLt
  have hi := i.isLt
  rw [inTables_iff, R.BRL_FF_ENTRY, R.BRL_FF_ENTRY]
  omega

/-- What FF_CLEAR leaves: both tables read 0, FF_VALID 0 and DONE 1; nothing else has changed. -/
theorem ffCleared_shows (s : State) (n : Fin 8) {t : State} (ht : (ffTablesClear s n).u (R.BRL_STN_SEQ_STATUS_DONE n) 1 = t) :
    t.on (R.BRL_STN_SEQ_STATUS_DONE n) = true ∧ t.on (R.BRL_STN_SEQ_STATUS_FF_VALID n) = false ∧
      t.g (R.BRL_STN_SEQ_STATUS_LAST_CMD n) = s.g (R.BRL_STN_SEQ_STATUS_LAST_CMD n) ∧
      ∀ a, a ≠ R.BRL_STN_SEQ_STATUS n → t.rd a = if inTables n a then 0#32 else s.rd a := by
  obtain ⟨f, hclear⟩ : ∃ f, ffTablesClear s n = ((tablesDropped s n).u (R.BRL_STN_SEQ_STATUS_FF_VALID n) 0).seqU n f := ⟨_, rfl⟩
  have hvalid := State.on_u_self (tablesDropped s n) (f := R.BRL_STN_SEQ_STATUS_FF_VALID n) ⟨Nat.le_of_ble_eq_true rfl, rfl⟩ false
  have hlast := (tablesDropped s n).g_u_bits (R.BRL_STN_SEQ_STATUS_FF_VALID n) (R.BRL_STN_SEQ_STATUS_LAST_CMD n) 0
    (.inl (Nat.le_of_ble_eq_true rfl)) (Nat.le_of_ble_eq_true rfl)
  have hdropped : (tablesDropped s n).g (R.BRL_STN_SEQ_STATUS_LAST_CMD n) = s.g (R.BRL_STN_SEQ_STATUS_LAST_CMD n) := by
    refine congrArg (getF · _) ((tablesDropped_rd s n _).trans (if_neg ?_))
    exact Bool.eq_false_iff.mp (seqStatus_not_inTables n)
  rw [hclear] at ht
  subst ht
  refine ⟨State.on_u_self _ ⟨Nat.le_of_ble_eq_true rfl, rfl⟩ true, ?_, ?_, fun a ha => ?_⟩
  · exact (State.on_u_bits _ _ (.inl (Nat.le_of_ble_eq_true rfl)) (Nat.le_of_ble_eq_true rfl)).trans hvalid
  · exact (State.g_u_bits _ _ _ _ (.inl (Nat.le_of_ble_eq_true rfl)) (Nat.le_of_ble_eq_true rfl)).trans (hlast.trans hdropped)
  · exact (State.rd_u_other _ _ _ ha).trans ((State.rd_u_other (tablesDropped s n) _ _ ha).trans (tablesDropped_rd s n a))

/-! The commands of the sequencer (R200 to R202). -/

/-- A command is taken: LAST_CMD names it, and the sequencer keeps its argument. -/
def commandTaken (s : State) (n : Fin 8) (cmd : Nat) (arg : Int) : State :=
  (s.u (R.BRL_STN_SEQ_STATUS_LAST_CMD n) cmd).seqU n fun q => { q with cmd := cmd, arg := arg }

theorem commandTaken_last (s : State) (n : Fin 8) {cmd : Nat} (arg : Int) (h : cmd < 256) :
    (commandTaken s n cmd arg).g (R.BRL_STN_SEQ_STATUS_LAST_CMD n) = cmd :=
  (State.g_u_self s (R.BRL_STN_SEQ_STATUS_LAST_CMD n) cmd (Nat.le_of_ble_eq_true rfl)).trans (Nat.mod_eq_of_lt h)

theorem seqStep_commandTaken (s : State) (n : Fin 8) (cmd : Nat) (arg : Int) :
    SeqStep s (commandTaken s n cmd arg) [R.BRL_STN_SEQ_STATUS n] := (seqStep_u s _ cmd).trans ((loopStep_seqU _ n _).seq _)

/-- A jump starts at once, or waits while a beam of the station writes (R202). -/
def startsOrWaits (s : State) (n : Fin 8) (go : State → Fin 8 → State) : State :=
  if s.g (R.WRS_STATUS_WRITING n) = 0 then go s n else seqEnter s n sqWAIT 0

theorem seqCommand_stop (s : State) (n : Fin 8) (arg : Int) : seqCommand s n 4 arg = seqStopNow (commandTaken s n 4 arg) n := rfl

section
variable {s : State} {n : Fin 8} (hidle : seqSt s n = sqIDLE ∨ seqSt s n = sqSTOPPED)
include hidle

theorem not_busy_of_idle : ¬ (seqSt s n ≠ sqIDLE ∧ seqSt s n ≠ sqSTOPPED) := fun h => hidle.elim h.1 h.2

theorem seqCommand_ffClear (arg : Int) :
    seqCommand s n 5 arg = (ffTablesClear (commandTaken s n 5 arg) n).u (R.BRL_STN_SEQ_STATUS_DONE n) 1 := if_neg (not_busy_of_idle hidle)

theorem seqCommand_setLayer {arg : Int} (harg : 0 ≤ arg ∧ arg ≤ 15) : seqCommand s n 6 arg =
    (commandTaken s n 6 arg).us [(R.BRL_STN_SEQ_STATUS_LAYER n, arg.toNat), (R.BRL_STN_SEQ_STATUS_DONE n, 1)] := by
  have hrange : ¬ (arg < 0 ∨ 15 < arg) := by omega
  simp only [seqCommand, commandTaken, not_busy_of_idle hidle, hrange, Nat.reduceEqDiff, Nat.reduceLT, or_self, if_true, if_false]

section
variable (hreg : s.on (R.SPN_STATUS_IN_REG n) = true)
include hreg

theorem seqCommand_focusAcq (arg : Int) : seqCommand s n 1 arg = startAcq (commandTaken s n 1 arg) n := by
  simp only [seqCommand, commandTaken, inReg, not_busy_of_idle hidle, hreg, Nat.reduceEqDiff, Nat.reduceLT, Bool.not_true, Bool.false_eq_true,
    or_self, if_true, if_false]

variable (hflock : s.on (R.BRL_STN_SEQ_STATUS_FLOCK n) = true)
include hflock

theorem seqCommand_trackJump {arg : Int} (htlock : s.on (R.BRL_STN_SEQ_STATUS_TLOCK n) = true) (h0 : arg ≠ 0) (harg : -64 ≤ arg ∧ arg ≤ 64) :
    seqCommand s n 2 arg = startsOrWaits (commandTaken s n 2 arg) n startTrackJump := by
  have hrange : ¬ arg < -64 ∧ ¬ 64 < arg := by omega
  simp only [seqCommand, inReg, not_busy_of_idle hidle, hreg, hflock, htlock, h0, hrange, Nat.reduceEqDiff, Nat.reduceLT, Bool.not_true,
    Bool.false_eq_true, or_self, if_true, if_false]
  rfl

theorem seqCommand_layerJump {arg : Int} (harg : 0 ≤ arg ∧ arg ≤ 15) (hlayer : arg ≠ (s.g (R.BRL_STN_SEQ_STATUS_LAYER n) : Int)) :
    seqCommand s n 3 arg = startsOrWaits (commandTaken s n 3 arg) n startLayerJump := by
  have hrange : ¬ arg < 0 ∧ ¬ 15 < arg := by omega
  simp only [seqCommand, inReg, not_busy_of_idle hidle, hreg, hflock, hlayer, hrange, Nat.reduceEqDiff, Nat.reduceLT, Bool.not_true,
    Bool.false_eq_true, or_self, if_false]
  rfl

end
end

theorem seqStatus_ne_wrsStatus (n : Fin 8) : R.WRS_STATUS n ∉ [R.BRL_STN_SEQ_STATUS n] := by
  have hn := n.isLt
  simp only [List.mem_singleton, R.WRS_STATUS, R.BRL_STN_SEQ_STATUS]
  omega

/-- A jump that waits shows WAIT, and moves no loop (R202). -/
theorem seqWaits_shows (s : State) (n : Fin 8) {t : State} (ht : seqEnter s n sqWAIT 0 = t) :
    t.g (R.BRL_STN_SEQ_STATUS_STATE n) = 1 ∧ t.g (R.BRL_STN_SEQ_STATUS_LAST_CMD n) = s.g (R.BRL_STN_SEQ_STATUS_LAST_CMD n) ∧
      t.brl.loops = s.brl.loops ∧ RegsBut s t [R.BRL_STN_SEQ_STATUS n] := by
  subst ht
  exact ⟨seqEnter_state s n 0 (by decide), seqEnter_keeps s n _ 0 (Nat.le_of_ble_eq_true rfl) (Nat.le_of_ble_eq_true rfl),
    seqEnter_loops s n _ 0, (seqStep_seqEnter s n _ 0).regs⟩

/-- What a jump command that is admitted shows: at once its first state, or WAIT while a beam of the station writes. -/
structure Jumps (s t : State) (n : Fin 8) (cmd st : Nat) (regs : List Nat) : Prop where
  last : t.g (R.BRL_STN_SEQ_STATUS_LAST_CMD n) = cmd
  regs : RegsBut s t (R.BRL_STN_SEQ_STATUS n :: regs)
  starts : s.g (R.WRS_STATUS_WRITING n) = 0 → t.g (R.BRL_STN_SEQ_STATUS_STATE n) = st ∧ t.on (R.BRL_STN_SEQ_STATUS_TLOCK n) = false
  waits : s.g (R.WRS_STATUS_WRITING n) ≠ 0 →
    t.g (R.BRL_STN_SEQ_STATUS_STATE n) = 1 ∧ t.brl.loops = s.brl.loops ∧ RegsBut s t [R.BRL_STN_SEQ_STATUS n]

theorem startsOrWaits_jumps (s : State) (n : Fin 8) {cmd st : Nat} (arg : Int) {go : State → Fin 8 → State} {regs : List Nat}
    (hgo : ∀ u, Starts u (go u n) n st regs) (hcmd : cmd < 256) {t : State} (ht : startsOrWaits (commandTaken s n cmd arg) n go = t) :
    Jumps s t n cmd st regs := by
  have htaken := (seqStep_commandTaken s n cmd arg).regs
  have hlast := commandTaken_last s n arg hcmd
  have hwriting : (commandTaken s n cmd arg).g (R.WRS_STATUS_WRITING n) = s.g (R.WRS_STATUS_WRITING n) := htaken.g (seqStatus_ne_wrsStatus n)
  have hloops : (commandTaken s n cmd arg).brl.loops = s.brl.loops := rfl
  generalize commandTaken s n cmd arg = u at *
  unfold startsOrWaits at ht
  rw [hwriting] at ht
  split at ht
  next hw =>
    have h := hgo u
    rw [ht] at h
    exact ⟨h.last.trans hlast, (htaken.trans h.regs).mono (by simp), fun _ => ⟨h.state, h.tlock⟩, fun hno => absurd hw hno⟩
  next hw =>
    obtain ⟨hstate, hkeep, hsame, hregs⟩ := seqWaits_shows u n ht
    exact ⟨hkeep.trans hlast, (htaken.trans hregs).mono (by simp), fun h => absurd h hw,
      fun _ => ⟨hstate, hsame.trans hloops, htaken.andThen hregs⟩⟩

theorem setLayer_shows (s : State) (n : Fin 8) {v : Nat} (hv : v < 16) {t : State}
    (ht : s.us [(R.BRL_STN_SEQ_STATUS_LAYER n, v), (R.BRL_STN_SEQ_STATUS_DONE n, 1)] = t) :
    t.g (R.BRL_STN_SEQ_STATUS_LAST_CMD n) = s.g (R.BRL_STN_SEQ_STATUS_LAST_CMD n) ∧ t.g (R.BRL_STN_SEQ_STATUS_LAYER n) = v ∧
      t.on (R.BRL_STN_SEQ_STATUS_DONE n) = true ∧ RegsBut s t [R.BRL_STN_SEQ_STATUS n] ∧ t.brl.loops = s.brl.loops := by
  subst ht
  simp only [State.us_cons, State.us_nil]
  refine ⟨?_, ?_, State.on_u_self _ ⟨Nat.le_of_ble_eq_true rfl, rfl⟩ true,
    ((seqStep_u s (R.BRL_STN_SEQ_STATUS_LAYER n) v).trans (seqStep_u _ (R.BRL_STN_SEQ_STATUS_DONE n) 1)).regs, rfl⟩
  · exact (State.g_u_bits _ _ _ _ (.inl (Nat.le_of_ble_eq_true rfl)) (Nat.le_of_ble_eq_true rfl)).trans
      (State.g_u_bits _ _ _ _ (.inr (Nat.le_of_ble_eq_true rfl)) (Nat.le_of_ble_eq_true rfl))
  · refine (State.g_u_bits _ _ _ _ (.inl (Nat.le_of_ble_eq_true rfl)) (Nat.le_of_ble_eq_true rfl)).trans ?_
    exact (State.g_u_self _ _ _ (Nat.le_of_ble_eq_true rfl)).trans (Nat.mod_eq_of_lt hv)

/-- Settles O18: each command goes through the rule of what it starts. -/
theorem sequencerCommandsRun : Obligations.SequencerCommandsRun := by
  intro s n hs st last lanes butOffsets jumps
  refine ⟨?stop, fun hidle => ⟨fun arg harg => ?setLayer, ?ffClear, fun hreg => ?acq, fun arg hjumps h0 hlo hhi htlock => ?track,
    fun arg hjumps harg hlayer => ?layer⟩⟩
  case stop =>
    refine does_of_answer hs rfl ?_
    rw [seqStop, seqCommand_stop]
    generalize ht : seqStopNow _ n = t
    obtain ⟨hstate, hflock, htlock, hlast, hstep⟩ := seqStopNow_shows _ n ht
    have h := (seqStep_commandTaken s n 4 0).trans hstep
    exact ⟨hlast.trans (commandTaken_last s n 0 (by decide)), hstate, hflock, htlock, h.regs, h.eq⟩
  case setLayer =>
    refine does_of_answer hs rfl ?_
    rw [setLayer, seqCommand_setLayer hidle (by omega), Int.toNat_natCast]
    generalize ht : State.us _ _ = t
    obtain ⟨hlast, hlayer, hdone, hregs, hloops⟩ := setLayer_shows _ n harg ht
    exact ⟨hlast.trans (commandTaken_last s n _ (by decide)), hlayer, hdone, (seqStep_commandTaken s n 6 _).regs.andThen hregs, hloops⟩
  case ffClear =>
    refine does_of_answer hs rfl ?_
    rw [ffClear, seqCommand_ffClear hidle]
    generalize ht : State.u _ _ 1 = t
    obtain ⟨hdone, hvalid, hlast, hrd⟩ := ffCleared_shows _ n ht
    have htaken := (seqStep_commandTaken s n 5 0).regs
    refine ⟨hlast.trans (commandTaken_last s n 0 (by decide)), hdone, hvalid, fun k i => ?_, fun a hout ha => ?_⟩
    · have hin := ffEntry_inTables n k i
      rw [hrd _ fun e => ?_, if_pos hin]
      rw [e, seqStatus_not_inTables] at hin
      cases hin
    · have hin : ¬ inTables n a = true := by
        rw [inTables_iff]
        omega
      rw [hrd a ha, if_neg hin]
      exact htaken a (by simpa using ha)
  case acq =>
    refine does_of_answer hs rfl ?_
    rw [focusAcq, seqCommand_focusAcq hidle hreg]
    generalize ht : startAcq _ n = t
    obtain ⟨hstate, hflock, htlock, hlast, hregs⟩ := startAcq_shows _ n ht
    have h := (seqStep_commandTaken s n 1 0).regs.trans hregs
    exact ⟨hlast.trans (commandTaken_last s n 0 (by decide)), hstate, hflock, htlock,
      fun a ha hoff => h a (by simpa [ha, mem_slotOffsets] using hoff)⟩
  case track =>
    refine does_of_answer hs rfl ?_
    have harg : arg.toInt ≠ 0 := fun h => h0 (BitVec.eq_of_toInt_eq h)
    rw [trackJump, seqCommand_trackJump hidle hjumps.1 hjumps.2 htlock harg ⟨hlo, hhi⟩]
    generalize ht : startsOrWaits _ n startTrackJump = t
    have h := startsOrWaits_jumps s n arg.toInt (startTrackJump_starts · n) (by decide) ht
    exact ⟨h.last, fun a ha hl => h.regs a (List.mem_cons.not.mpr (not_or.mpr ⟨ha, mem_lanesShown.not.mpr hl⟩)), h.starts, h.waits⟩
  case layer =>
    refine does_of_answer hs rfl ?_
    rw [layerJump, seqCommand_layerJump hidle hjumps.1 hjumps.2 (by omega) (by exact_mod_cast hlayer)]
    generalize ht : startsOrWaits _ n startLayerJump = t
    have h := startsOrWaits_jumps s n (arg.toNat : Int) (startLayerJump_starts · n) (by decide) ht
    refine ⟨h.last, fun a ha hoff hl => h.regs a ?_, h.starts, h.waits⟩
    simp only [List.mem_cons, List.mem_append, mem_lanesShown, mem_slotOffsets, ha, false_or, not_or]
    exact ⟨hl, fun ⟨k, hk⟩ => hoff k hk⟩

end Sys2Proof.Machine

/-!
PROOF. O20: the steps of a running sequence (R95, R202 to R207). First what its operations do to the loops, then one rule per step, then the
obligation.
-/

namespace Sys2Proof.Machine

/-! What an operation does to the loop that a slot runs. -/

theorem State.loop_loopU_self (s : State) (k : Fin 96) (f : Loop → Loop) : (s.loopU k f).brl.loops[k] = f s.brl.loops[k] := vmod_self _ _ _

theorem State.seq_seqU_self (s : State) (n : Fin 8) (f : Seq → Seq) : (s.seqU n f).brl.seq[n] = f s.brl.seq[n] := vmod_self _ _ _

theorem loopOf_of_slot {s : State} {n typ : Nat} {k : Fin 96} (h : slotFor s n typ = some k) (f : Loop → Loop) :
    s.loopOf n typ f = s.loopU k f := by
  rw [State.loopOf, h]

/-- Which slot runs a loop is a matter of the registers. -/
theorem LoopStep.slotFor {s t : State} (h : LoopStep s t) (n typ : Nat) : slotFor t n typ = slotFor s n typ := by
  obtain ⟨_, rfl⟩ := h
  rfl

/-- Entering a state, where the sequencer does not leave IDLE, sets the state and notes the time (R214). -/
theorem seqEnter_busy {s : State} {n : Fin 8} {st : Nat} (h : seqSt s n ≠ sqIDLE ∨ st = sqIDLE) (sub : Nat) :
    seqEnter s n st sub = (s.u (R.BRL_STN_SEQ_STATUS_STATE n) st).seqU n fun q => { q with sub := sub, since := s.now } := by
  rw [seqEnter, jspLeavesIdle_busy h]

/-- What is entered from a state other than IDLE changes registers and Beryl's loops and sequencers alone. -/
theorem seqEnter_only {s u : State} {n : Fin 8} (h : LoopStep s u) (hbusy : seqSt s n ≠ sqIDLE) (st sub : Nat) :
    seqEnter u n st sub = { s with regs := (seqEnter u n st sub).regs, brl := (seqEnter u n st sub).brl } ∧
      RegsBut s (seqEnter u n st sub) [R.BRL_STN_SEQ_STATUS n] := by
  refine ⟨?_, (h.regsBut _).andThen (seqStep_seqEnter u n st sub).regs⟩
  have hbusy' : seqSt u n ≠ sqIDLE := fun e => hbusy ((congrArg (getF · _) (h.rd _)).symm.trans e)
  rw [seqEnter_busy (.inl hbusy')]
  obtain ⟨b, rfl⟩ := h
  rfl

/-! Waits, times and crossings (R202 to R205). -/

section
variable {s : State} {n : Fin 8} {st : Nat} (hst : seqSt s n = st)
include hst

theorem jumpWaitRelease_starts (hwait : st = 1) (hwriting : s.g (R.WRS_STATUS_WRITING n) = 0) :
    jumpWaitRelease n s = if s.brl.seq[n].cmd = 2 then startTrackJump s n else startLayerJump s n := by
  subst hwait
  exact if_neg (by simp [hst, hwriting, sqWAIT])

theorem seqTimer_settled (hacq : st = 2) (htaken : s.brl.seq[n].saTaken = true) : seqTimer n s =
    if s.brl.seq[n].since + 100000 * s.g (R.BRL_STN_SEQT_SA_SETTLE n) ≤ s.now then seqEnter (sweepFrom s n true) n sqSWEEP 0 else s := by
  refine (if_pos (hst.trans hacq)).trans (if_congr ?_ rfl rfl)
  rw [State.sq, htaken, Bool.true_and, decide_eq_true_eq]

theorem seqTimer_kickEnds (hjump : st = 7) (hsub : s.brl.seq[n].sub = 0)
    (hpassed : s.brl.seq[n].since + 2500 * s.g (R.BRL_STN_JUMP_KICK_T n) ≤ s.now) : seqTimer n s = kickOff s n 1 := by
  subst hjump
  simp only [seqTimer, hst, sqACQ_SA, sqFOCUS_SETTLE, sqTRACK_SETTLE, sqLAYER_SA, sqLAYER_TRANSIT, sqTRACK_JUMP, State.sq, hsub, hpassed,
    Nat.reduceEqDiff, or_true, decide_true, if_true, if_false]

theorem seqCrossing_counts (hjump : st = 7) (hcount : s.brl.seq[n].count + 3 < 8 * s.brl.seq[n].arg.natAbs) (d : Int) :
    seqCrossing n false d s = s.seqU n fun q => { q with count := s.brl.seq[n].count + 1 } := by
  subst hjump
  have hmore : s.brl.seq[n].count + 1 ≠ 8 * s.brl.seq[n].arg.natAbs ∧ s.brl.seq[n].count + 1 + 2 ≠ 8 * s.brl.seq[n].arg.natAbs := by omega
  simp only [seqCrossing, hst, sqSWEEP, sqTRACK_CLOSE, sqTRACK_JUMP, State.sq, hmore, Nat.reduceEqDiff, Bool.false_eq_true, if_true, if_false]

theorem seqCrossing_closes (hclose : st = 5) (d : Int) : seqCrossing n false d s = trackCloses s n := by
  subst hclose
  simp only [seqCrossing, hst, sqSWEEP, sqTRACK_CLOSE, Nat.reduceEqDiff, Bool.not_false, if_true, if_false]

theorem sweepEnd_turns (hsweep : st = 3) (hsub : s.brl.seq[n].sub = 0) {k : Fin 96} {a b : Int} {i len : Nat}
    (hslot : slotFor s n tyFOCUS = some k) (hdrive : s.brl.loops[k].drive = .ramp a b i len) (hend : len ≤ i) :
    sweepEnd n s = seqPart (sweepFrom s n false) n 1 := by
  subst hsweep
  simp only [sweepEnd, hst, hslot, hdrive, hend, hsub, sqSWEEP, State.loop, State.sq, ne_eq, not_true_eq_false, decide_true, Bool.not_true,
    Bool.false_eq_true, or_self, if_true, if_false]

theorem jumpTimeout_eq (hjump : st = 7 ∨ st = 9) (hsub : s.brl.seq[n].sub ≠ 0) : jumpTimeout n s =
    if s.brl.seq[n].kickEnd + 100000 * s.g (R.BRL_STN_SEQT_JUMP_TIMEOUT n) ≤ s.now then disturbance (seqFails s n) n 0 else s := by
  have hstep : seqSt s n = sqTRACK_JUMP ∨ seqSt s n = sqLAYER_TRANSIT := by rwa [hst]
  simp only [jumpTimeout, hstep, hsub, State.sq, ne_eq, not_false_eq_true, true_and]

end

/-! What the steps show. -/

theorem loopStep_sweepFrom (s : State) (n : Fin 8) (up : Bool) : LoopStep s (sweepFrom s n up) := loopStep_focus s n _

/-- A loop is kicked no more. -/
def unkick (s : State) (n typ : Nat) : State := s.loopOf n typ fun l => { l with kick := 0 }

theorem loopStep_unkick (s : State) (n typ : Nat) : LoopStep s (unkick s n typ) := loopStep_loopOf s n typ _

theorem unkick_kick {s : State} {n typ : Nat} {k : Fin 96} (h : slotFor s n typ = some k) : (unkick s n typ).brl.loops[k].kick = 0 := by
  rw [unkick, loopOf_of_slot h, State.loop_loopU_self]

/-- The end of a kick notes the time, and no loop is kicked (R205). -/
theorem kickOff_shows (s : State) (n : Fin 8) {t : State} (ht : kickOff s n 1 = t) : t.brl.seq[n].sub = 1 ∧ t.brl.seq[n].kickEnd = s.now ∧
    t = { s with brl := t.brl } ∧ ∀ k, slotFor s n tyTRACK = some k → t.brl.loops[k].kick = 0 := by
  have hfocus := loopStep_unkick s n tyFOCUS
  have hboth := hfocus.trans (loopStep_unkick _ n tyTRACK)
  have hkick (k : Fin 96) (hk : slotFor s n tyTRACK = some k) : (unkick (unkick s n tyFOCUS) n tyTRACK).brl.loops[k].kick = 0 :=
    unkick_kick ((hfocus.slotFor n tyTRACK).trans hk)
  have hoff : kickOff s n 1 = seqPart ((unkick (unkick s n tyFOCUS) n tyTRACK).seqU n fun q =>
    { q with kickEnd := (unkick (unkick s n tyFOCUS) n tyTRACK).now }) n 1 := rfl
  rw [hoff] at ht
  generalize unkick (unkick s n tyFOCUS) n tyTRACK = u at *
  obtain ⟨b, rfl⟩ := hboth
  subst ht
  have hend := State.seq_seqU_self { s with brl := b } n fun q => { q with kickEnd := s.now }
  refine ⟨congrArg Seq.sub (State.seq_seqU_self _ n _), ?_, rfl, hkick⟩
  exact (congrArg Seq.kickEnd (State.seq_seqU_self _ n _)).trans (congrArg Seq.kickEnd hend)

theorem trackCloses_shows {s : State} {n : Fin 8} {t : State} (ht : trackCloses s n = t) :
    t.g (R.BRL_STN_SEQ_STATUS_STATE n) = 6 ∧
      (∀ k, slotFor s n tyTRACK = some k → t.brl.loops[k].drive = .closed ∧ t.brl.loops[k].seqBank = true) ∧
      RegsBut s t [R.BRL_STN_SEQ_STATUS n] := by
  subst ht
  have hloop := loopStep_loopOf s n tyTRACK fun l => { l with drive := .closed, seqBank := true, frozen := false, kick := 0 }
  refine ⟨seqEnter_state _ n 0 (by decide), fun k hk => ?_,
    ((hloop.trans (loopStep_seqU _ n _)).regsBut _).andThen (seqStep_seqEnter _ n _ 0).regs⟩
  have hclosed : (trackCloses s n).brl.loops[k] = { s.brl.loops[k] with drive := .closed, seqBank := true, frozen := false, kick := 0 } := by
    rw [trackCloses, seqEnter_loops, loopOf_of_slot hk]
    exact State.loop_loopU_self s k _
  rw [hclosed]
  exact ⟨rfl, rfl⟩

/-- The sweep turns back: the focus output goes from OUT_MAX to OUT_MIN (R204). -/
theorem sweepBack_shows {s : State} {n : Fin 8} {k : Fin 96} (hslot : slotFor s n tyFOCUS = some k) {t : State}
    (ht : seqPart (sweepFrom s n false) n 1 = t) : t.brl.seq[n].sub = 1 ∧
      t.brl.loops[k].drive = .ramp (outMax s k) (outMin s k) 0 (400 * s.g (R.BRL_STN_SEQT_SWEEP_T n)) ∧ t = { s with brl := t.brl } := by
  subst ht
  have hsweep : sweepFrom s n false =
      s.loopU k fun l => { l with drive := .ramp (outMax s k) (outMin s k) 0 (400 * s.g (R.BRL_STN_SEQT_SWEEP_T n)) } := by
    rw [sweepFrom, hslot]
    rfl
  rw [hsweep]
  exact ⟨congrArg Seq.sub (State.seq_seqU_self _ n _), congrArg Loop.drive (State.loop_loopU_self s k _), rfl⟩

/-- A sequence that fails (R207). -/
theorem seqFails_shows (s : State) (n : Fin 8) {t : State} (ht : seqFails s n = t) : t.on (R.BRL_STN_SEQ_STATUS_FAILED n) = true ∧
    t.g (R.BRL_STN_SEQ_STATUS_STATE n) = 0 ∧ t.on (R.BRL_STN_SEQ_STATUS_FLOCK n) = false ∧ Logged s t 0x105 n [0, seqSt s n] 0 ∧
      RegsBut s t [R.BRL_STN_SEQ_STATUS n] ∧ t.stn = s.stn := by
  have hv : ∃ v, seqFails s n = seqEnter ((locksOff v n).u (R.BRL_STN_SEQ_STATUS_FAILED n) 1) n sqIDLE 0 ∧ LoopStep (logLockLost s n 0) v := by
    refine ⟨_, rfl, ?_⟩
    exact (((LoopStep.each (fun s t => loopStep_releaseLoop s n t) _ _).trans (LoopStep.each (fun s t => loopStep_holdLoop s n t) _ _)).trans
      (loopStep_rampDown _ n)).trans (loopStep_seqU _ n _)
  obtain ⟨v, heq, hv⟩ := hv
  have hstep : SeqStep (logLockLost s n 0) t [R.BRL_STN_SEQ_STATUS n] := by
    rw [← ht, heq]
    exact (((hv.seq _).trans (seqStep_locksOff v n)).trans (seqStep_u _ (R.BRL_STN_SEQ_STATUS_FAILED n) 1)).trans (seqStep_seqEnter _ n _ 0)
  have hkeeps {f : FRef} (hlo : 4 ≤ f.lo) (hf : f.lo + f.w ≤ 32) :
      t.on f = ((locksOff v n).u (R.BRL_STN_SEQ_STATUS_FAILED n) 1).on f := by
    rw [← ht, heq]
    exact congrArg (· == 1) (seqEnter_keeps _ n sqIDLE 0 hlo hf)
  refine ⟨?_, ?_, ?_, ?_, hstep.regs, ?_⟩
  · exact (hkeeps (Nat.le_of_ble_eq_true rfl) (Nat.le_of_ble_eq_true rfl)).trans (State.on_u_self _ ⟨Nat.le_of_ble_eq_true rfl, rfl⟩ true)
  · rw [← ht, heq]
    exact seqEnter_state _ n 0 (by decide)
  · refine (hkeeps (Nat.le_of_ble_eq_true rfl) (Nat.le_of_ble_eq_true rfl)).trans ?_
    exact (State.on_u_bits _ _ (.inr (Nat.le_of_ble_eq_true rfl)) (Nat.le_of_ble_eq_true rfl)).trans (locksOff_off v n).1
  · rw [Logged, hstep.eq]
    rfl
  · rw [hstep.eq]
    rfl

theorem seqStatus_ne_stnStatus (n : Fin 8) : R.STN_STATUS n ∉ [R.BRL_STN_SEQ_STATUS n] := by
  have hn := n.isLt
  simp only [List.mem_singleton, R.STN_STATUS, R.BRL_STN_SEQ_STATUS]
  omega

/-- A station that neither recovers, wakes nor mounts takes no notice of a disturbance (R278, R287). -/
theorem disturbance_quiet {s : State} {n : Fin 8} (hactive : stSt s n ≠ stACTIVE) (hmounting : stSt s n ≠ stMOUNTING)
    (htask : s.stn[n].task ≠ .wake) (k : Nat) : disturbance s n k = s := by
  have hrecovers : recovers s n = false := by simp [recovers, hactive, hmounting]
  simp only [disturbance, hrecovers, htask, hmounting, Bool.not_false, false_and, if_true, if_false]

/-- Settles O20: each clause goes through the rule of its step. -/
theorem sequenceSteps : Obligations.SequenceSteps := by
  intro s n hs q st
  have hst : seqSt s n = st := rfl
  refine ⟨fun h hw => ⟨fun hcmd => ?track, fun hcmd => ?layer⟩, fun h htaken => ⟨fun hpassed => ?settled, fun hnot => ?settling⟩,
    fun h hsub hpassed => ?kick, fun h hcount d => ?counts, fun h d => ?closes, fun h hsub k a b i len hslot hdrive hend => ?turns,
    fun h hsub => ⟨fun hpassed => ?fails, fun hnot => ?early⟩⟩
  case track =>
    refine does_of_answer hs rfl ?_
    rw [jumpWaitRelease_starts hst h hw, if_pos hcmd]
    have hstart := startTrackJump_starts s n
    refine ⟨hstart.state, fun a ha hl => hstart.regs a (List.mem_cons.not.mpr (not_or.mpr ⟨ha, mem_lanesShown.not.mpr ?_⟩))⟩
    rintro ⟨l, rfl | rfl⟩
    · exact (hl l).1 rfl
    · exact (hl l).2 rfl
  case layer =>
    refine does_of_answer hs rfl ?_
    rw [jumpWaitRelease_starts hst h hw, if_neg (by rw [hcmd]; decide)]
    exact (startLayerJump_starts s n).state
  case settled =>
    refine does_of_answer hs rfl ?_
    rw [seqTimer_settled hst h htaken, if_pos hpassed]
    obtain ⟨honly, hregs⟩ := seqEnter_only (loopStep_sweepFrom s n true) (by rw [hst, h]; decide) sqSWEEP 0
    exact ⟨seqEnter_state _ n 0 (by decide), hregs, honly⟩
  case settling => exact (answer_live _ hs).trans (congrArg _ ((seqTimer_settled hst h htaken).trans (if_neg (Nat.not_le.mpr hnot))))
  case kick =>
    refine does_of_answer hs rfl ?_
    rw [seqTimer_kickEnds hst h hsub hpassed]
    exact kickOff_shows s n rfl
  case counts =>
    refine does_of_answer hs rfl ?_
    rw [seqCrossing_counts hst h hcount]
    exact ⟨congrArg Seq.count (State.seq_seqU_self s n _), rfl, rfl⟩
  case closes =>
    refine does_of_answer hs rfl ?_
    rw [seqCrossing_closes hst h]
    exact trackCloses_shows rfl
  case turns =>
    refine does_of_answer hs rfl ?_
    rw [sweepEnd_turns hst h hsub hslot hdrive hend]
    exact sweepBack_shows hslot rfl
  case fails =>
    obtain ⟨hfailed, hstate, hflock, hlogged, hregs, hstn⟩ := seqFails_shows s n rfl
    have htimeout : jumpTimeout n s = disturbance (seqFails s n) n 0 := (jumpTimeout_eq hst h hsub).trans (if_pos hpassed)
    refine ⟨(answer_live _ hs).trans (congrArg _ htimeout), hfailed, hstate, hflock, hlogged, fun hmounting hactive htask => ?_⟩
    have hstation : stSt (seqFails s n) n = stSt s n := hregs.g (seqStatus_ne_stnStatus n)
    have hquiet : disturbance (seqFails s n) n 0 = seqFails s n :=
      disturbance_quiet (by rwa [hstation]) (by rwa [hstation]) (by rwa [hstn]) 0
    refine does_of_answer hs rfl ?_
    rw [htimeout, hquiet]
    exact ⟨hfailed, hstate, hflock, hlogged⟩
  case early => exact (answer_live _ hs).trans (congrArg _ ((jumpTimeout_eq hst h hsub).trans (if_neg (Nat.not_le.mpr hnot))))

end Sys2Proof.Machine

/-!
PROOF. O35: a lane's figures at the end of a cluster, the pickup temperature, and what raises a calibration (R113, R168, R302, R307, R309, R311).
First how a calibration is raised, then the pickup temperature, then what power control leaves alone, then the figures, then the obligation.
-/

namespace Sys2Proof.Machine

/-! A set of stations as bits (R311). -/

theorem maskOf_filter (p : Fin 8 → Bool) :
    maskOf (stations.filter p) = stations.foldl (fun a n => a + b2n (p n) * 2 ^ n.val) 0 := by
  have hstep : (fun (a : Nat) (n : Fin 8) => if p n = true then a + 2 ^ n.val else a) = fun a n => a + b2n (p n) * 2 ^ n.val := by
    funext a n
    cases p n <;> simp [b2n]
  rw [maskOf, List.foldl_filter, hstep]

/-- Bit n of a set of stations says whether station n is in it. -/
theorem bitOf_maskOf (p : Fin 8 → Bool) (n : Fin 8) : bitOf (maskOf (stations.filter p)) n = b2n (p n) ∧ maskOf (stations.filter p) < 256 := by
  have hbit (m : Fin 8) : b2n (p m) ≤ 1 := by cases p m <;> decide
  have h0 := hbit 0
  have h1 := hbit 1
  have h2 := hbit 2
  have h3 := hbit 3
  have h4 := hbit 4
  have h5 := hbit 5
  have h6 := hbit 6
  have h7 := hbit 7
  rw [maskOf_filter]
  simp only [stations, List.foldl_cons, List.foldl_nil, bitOf]
  fin_cases n <;> simp <;> omega

/-! A calibration is raised (R307, R309, R311). -/

theorem refreshCal_cal (s : State) : (refreshCal s).cal = s.cal := State.us_proj State.cal (fun _ _ _ => rfl) _ s

theorem refreshCal_lanes (s : State) : (refreshCal s).lanes = s.lanes := State.us_lanes s _

theorem refreshCal_regs (s : State) : RegsBut s (refreshCal s) [R.CAL_STATUS] :=
  (us_onlyRegs s _).2.mono (by simp [R.CAL_STATUS_BUSY, R.CAL_STATUS_PENDING])

/-- Bit n of PENDING says whether a calibration of station n waits. -/
theorem refreshCal_pending (s : State) (n : Fin 8) : bitOf ((refreshCal s).g R.CAL_STATUS_PENDING) n = b2n !(s.cal[n]).pend.isEmpty := by
  obtain ⟨hbit, hlt⟩ := bitOf_maskOf (fun n => !(s.cal[n]).pend.isEmpty) n
  rw [refreshCal, State.us_cons, State.us_cons, State.us_nil, State.g_u_self _ _ _ (Nat.le_of_ble_eq_true rfl)]
  exact (congrArg (bitOf · n) (Nat.mod_eq_of_lt hlt)).trans hbit

theorem regsBut_calU (s : State) (n : Fin 8) (f : CalStn → CalStn) (l : List Nat) : RegsBut s (s.calU n f) l :=
  RegsBut.of_regs (State.calU_regs s n f) l

theorem State.cal_calU_self (s : State) (n : Fin 8) (f : CalStn → CalStn) : (s.calU n f).cal[n] = f s.cal[n] := vmod_self _ _ _

/-- The calibrations that wait, after one of a layer has been raised: it merges with one of its layer (R309). -/
def pendRaised (l : List CalPend) (layer time : Nat) (now : Bool) : List CalPend :=
  if l.any fun p => p.layer == layer then l.map fun p => if p.layer = layer then { p with now := p.now || now } else p
  else l ++ [⟨layer, time, now⟩]

theorem pendRaised_any (l : List CalPend) (layer time : Nat) (now : Bool) :
    (pendRaised l layer time now).any (fun p => p.layer == layer && (p.now || !now)) = true := by
  unfold pendRaised
  split
  next h =>
    obtain ⟨p, hp, hlayer⟩ := List.any_eq_true.mp h
    refine List.any_eq_true.mpr ⟨_, List.mem_map_of_mem hp, ?_⟩
    rw [if_pos (beq_iff_eq.mp hlayer)]
    cases now <;> simp [beq_iff_eq.mp hlayer]
  next h =>
    refine List.any_eq_true.mpr ⟨_, List.mem_append_right l (List.mem_singleton_self _), ?_⟩
    cases now <;> simp

theorem pendRaised_length (l : List CalPend) (layer time : Nat) (now : Bool) : (pendRaised l layer time now).length ≤ l.length + 1 := by
  unfold pendRaised
  split
  · simp
  · simp

theorem calRaise_eq {s : State} {n : Fin 8} (h : (s.cal[n]).run = none) (layer : Nat) (now : Bool) :
    calRaise s n layer now = refreshCal (s.calU n fun c => { c with pend := pendRaised c.pend layer s.now now }) := if_neg (by rw [h]; simp)

theorem calRaise_shows {s : State} {n : Fin 8} (h : (s.cal[n]).run = none) {layer : Nat} {now : Bool} {t : State}
    (ht : calRaise s n layer now = t) : (t.cal[n]).pend.any (fun p => p.layer == layer && (p.now || !now)) = true ∧
      bitOf (t.g R.CAL_STATUS_PENDING) n = 1 ∧ (t.cal[n]).pend.length ≤ (s.cal[n]).pend.length + 1 ∧ RegsBut s t [R.CAL_STATUS] := by
  have hpend : ((s.calU n fun c => { c with pend := pendRaised c.pend layer s.now now }).cal[n]).pend =
      pendRaised (s.cal[n]).pend layer s.now now := by rw [State.cal_calU_self]
  have hany := pendRaised_any (s.cal[n]).pend layer s.now now
  rw [calRaise_eq h] at ht
  subst ht
  rw [refreshCal_pending, refreshCal_cal, hpend]
  refine ⟨hany, ?_, pendRaised_length _ _ _ _, (regsBut_calU s n _ _).andThen (refreshCal_regs _)⟩
  cases hl : pendRaised (s.cal[n]).pend layer s.now now with
  | nil => rw [hl] at hany; cases hany
  | cons p l => rfl

/-! The pickup temperature (R302). -/

theorem tempTrigger_off {s : State} (h : s.on R.CAL_CTRL_TEMP_EN = false) (n : Fin 8) : tempTrigger s n = s := by
  unfold tempTrigger
  split
  · exact if_neg (by rw [h]; simp)
  · rfl

/-- CAL_TEMP shows a temperature, whether it is valid, and where it comes from. -/
def pickupShown (s : State) (n : Fin 8) (temp valid source : Nat) : State :=
  s.us [(R.CAL_TEMP_TEMP n, temp), (R.CAL_TEMP_VALID n, valid), (R.CAL_TEMP_SOURCE n, source)]

theorem pickupShown_shows (s : State) (n : Fin 8) (temp valid : Nat) (source : Bool) {t : State}
    (ht : pickupShown s n temp valid (b2n source) = t) : t.g (R.CAL_TEMP_TEMP n) = temp % 2 ^ 16 ∧ t.g (R.CAL_TEMP_VALID n) = valid % 2 ^ 1 ∧
      t.on (R.CAL_TEMP_SOURCE n) = source ∧ RegsBut s t [R.CAL_TEMP n] ∧ t.on R.CAL_CTRL_TEMP_EN = s.on R.CAL_CTRL_TEMP_EN := by
  subst ht
  have hregs : RegsBut s (pickupShown s n temp valid (b2n source)) [R.CAL_TEMP n] :=
    (us_onlyRegs s _).2.mono (by simp [R.CAL_TEMP_TEMP, R.CAL_TEMP_VALID, R.CAL_TEMP_SOURCE])
  have hctrl : R.CAL_CTRL ∉ [R.CAL_TEMP n] := by
    simp only [List.mem_singleton, R.CAL_CTRL, R.CAL_TEMP]
    omega
  refine ⟨?_, ?_, ?_, hregs, hregs.on hctrl⟩
  · simp only [pickupShown, State.us_cons, State.us_nil]
    refine (State.g_u_bits _ _ _ _ (.inr (Nat.le_of_ble_eq_true rfl)) (Nat.le_of_ble_eq_true rfl)).trans ?_
    refine (State.g_u_bits _ _ _ _ (.inr (Nat.le_of_ble_eq_true rfl)) (Nat.le_of_ble_eq_true rfl)).trans ?_
    exact State.g_u_self s _ _ (Nat.le_of_ble_eq_true rfl)
  · simp only [pickupShown, State.us_cons, State.us_nil]
    refine (State.g_u_bits _ _ _ _ (.inl (Nat.le_of_ble_eq_true rfl)) (Nat.le_of_ble_eq_true rfl)).trans ?_
    exact State.g_u_self _ _ _ (Nat.le_of_ble_eq_true rfl)
  · simp only [pickupShown, State.us_cons, State.us_nil]
    exact State.on_u_self _ ⟨Nat.le_of_ble_eq_true rfl, rfl⟩ source

/-- A good reading is shown, from the sensor. -/
theorem pickupTempRead_good {s : State} (hoff : s.on R.CAL_CTRL_TEMP_EN = false) (n : Fin 8) {v : Int} (hv : -32768 ≤ v ∧ v ≤ 32767) {t : State}
    (ht : pickupTempRead n (some v) s = t) : t.gi (R.CAL_TEMP_TEMP n) = v ∧ t.on (R.CAL_TEMP_VALID n) = true ∧
      t.on (R.CAL_TEMP_SOURCE n) = false ∧ (t.cal[n]).badReads = 0 ∧ RegsBut s t [R.CAL_TEMP n] := by
  obtain ⟨u, hu⟩ : ∃ u, u = pickupShown s n (ofSigned 16 v) 1 (b2n false) := ⟨_, rfl⟩
  obtain ⟨htemp, hvalid, hsource, hregs, hctrl⟩ := pickupShown_shows s n (ofSigned 16 v) 1 false hu.symm
  have heq : pickupTempRead n (some v) s = tempTrigger (u.calU n fun c => { c with badReads := 0 }) n := by rw [hu]; rfl
  rw [heq, tempTrigger_off ((State.calU_on u n _ _).trans (hctrl.trans hoff))] at ht
  subst ht
  refine ⟨?_, ?_, (State.calU_on u n _ _).trans hsource, ?_, hregs.andThen (regsBut_calU u n _ _)⟩
  · rw [State.gi, State.calU_g, htemp]
    exact toSigned_ofSigned_16 hv
  · rw [State.calU_on, State.on, hvalid]
    rfl
  · rw [State.cal_calU_self]

/-- A failed reading counts; the first two change no register. -/
theorem pickupTempRead_failed {s : State} {n : Fin 8} (hbad : (s.cal[n]).badReads < 2) {t : State} (ht : pickupTempRead n none s = t) :
    (t.cal[n]).badReads = (s.cal[n]).badReads + 1 ∧ t = { s with cal := t.cal } := by
  have hcount : ((s.calU n fun c => { c with badReads := min 3 (c.badReads + 1) }).cal[n]).badReads = (s.cal[n]).badReads + 1 := by
    rw [State.cal_calU_self]
    exact min_eq_right (by omega)
  have heq : pickupTempRead n none s = s.calU n fun c => { c with badReads := min 3 (c.badReads + 1) } :=
    if_pos (by rw [hcount]; omega)
  rw [heq] at ht
  subst ht
  exact ⟨hcount, rfl⟩

/-- After the third failure running the port sensor serves. -/
theorem pickupTempRead_third {s : State} (hoff : s.on R.CAL_CTRL_TEMP_EN = false) {n : Fin 8} (hbad : (s.cal[n]).badReads = 2) {t : State}
    (ht : pickupTempRead n none s = t) : t.on (R.CAL_TEMP_SOURCE n) = true ∧
      t.g (R.CAL_TEMP_TEMP n) = s.g (R.GLB_TEMP_VALUE (if n.val < 4 then 5 else 6)) ∧ RegsBut s t [R.CAL_TEMP n] := by
  obtain ⟨u, hu⟩ : ∃ u, u = s.calU n fun c => { c with badReads := min 3 (c.badReads + 1) } := ⟨_, rfl⟩
  have hcount : (u.cal[n]).badReads = 3 := by
    rw [hu, State.cal_calU_self]
    exact congrArg (fun k => min 3 (k + 1)) hbad
  have hsame : RegsBut s u [R.CAL_TEMP n] := hu ▸ regsBut_calU s n _ _
  have hon : u.on R.CAL_CTRL_TEMP_EN = false := by rw [hu, State.calU_on, hoff]
  have hport (k : Nat) : u.g (R.GLB_TEMP_VALUE k) = s.g (R.GLB_TEMP_VALUE k) := by rw [hu, State.calU_g]
  have heq : ∃ valid, pickupTempRead n none s =
      tempTrigger (pickupShown u n (u.g (R.GLB_TEMP_VALUE (if n.val < 4 then 5 else 6))) valid (b2n true)) n := by
    refine ⟨u.g (R.GLB_TEMP_VALID (if n.val < 4 then 5 else 6)), ?_⟩
    unfold pickupTempRead
    dsimp only
    rw [← hu, if_neg (by rw [hcount]; decide)]
    rfl
  obtain ⟨valid, heq⟩ := heq
  generalize hw : pickupShown u n _ valid (b2n true) = w at heq
  obtain ⟨htemp, -, hsource, hregs, hctrl⟩ := pickupShown_shows u n _ valid true hw
  rw [heq, tempTrigger_off (hctrl.trans hon)] at ht
  subst ht
  refine ⟨hsource, ?_, hsame.andThen hregs⟩
  rw [htemp, hport]
  exact Nat.mod_eq_of_lt (getF_lt _ _)

/-! What power control and the quality trigger leave alone (R168, R307). -/

/-- The lanes stand, and no registers but those of a list have changed. -/
structure LanesStand (s t : State) (regs : List Nat) : Prop where
  regs : RegsBut s t regs
  lanes : t.lanes = s.lanes

theorem LanesStand.trans {s t u : State} {regs : List Nat} (h : LanesStand s t regs) (h' : LanesStand t u regs) : LanesStand s u regs :=
  ⟨h.regs.andThen h'.regs, h'.lanes.trans h.lanes⟩

theorem LanesStand.each {α : Type} {k : State → α → State} {regs : List Nat} (hk : ∀ s x, LanesStand s (k s x) regs) (l : List α) (s : State) :
    LanesStand s (s.each l k) regs := ⟨RegsBut.each (fun s x => (hk s x).regs) l s, State.each_proj State.lanes k (fun s x => (hk s x).lanes) l s⟩

/-- The registers in which power control and the quality trigger show what they do: a beam's live power, PC_LIMIT and PENDING. -/
def powerRegs (n : Fin 8) : List Nat := R.CAL_STATUS :: R.WRS_STATUS n :: beams.map fun (m : Fin 4) => R.WRS_PW_LIVE n m

theorem nearest_lanes (s : State) (num den : Int) : (s.nearest num den).2.lanes = s.lanes := by
  unfold State.nearest
  extract_lets twice
  split <;> rfl

theorem livePower_stands (view s : State) (n : Fin 8) (m : Fin 4) : LanesStand s (livePower view s n m) (powerRegs n) := by
  obtain ⟨num, den, v, h⟩ : ∃ num den v, livePower view s n m = (s.nearest num den).2.u (R.WRS_PW_LIVE_PW n m) v := ⟨_, _, _, rfl⟩
  rw [h]
  refine ⟨(RegsBut.of_regs (nearest_regs s _ _) _).andThen ((regsBut_u _ _ _).mono fun a ha => ?_), nearest_lanes s _ _⟩
  have hm : m ∈ beams := by fin_cases m <;> decide
  rw [List.mem_singleton.mp ha]
  exact List.mem_cons_of_mem _ (List.mem_cons_of_mem _ (List.mem_map_of_mem hm))

theorem linkPut_stands (s : State) (n : Fin 8) (m : Fin 4) (w : BitVec 40) (regs : List Nat) : LanesStand s (linkPut s n m w) regs := by
  unfold linkPut
  split
  · exact ⟨RegsBut.of_regs rfl _, rfl⟩
  · exact ⟨RegsBut.of_regs rfl _, rfl⟩

theorem sendLevels_stands (view s : State) (n : Fin 8) (m : Fin 4) (levels : List Nat) (atNext : Bool) (regs : List Nat) :
    LanesStand s (sendLevels view s n m levels atNext) regs := by
  refine LanesStand.each (fun s level => ?_) levels s
  have hput := linkPut_stands { s with free := (powerValue { view with free := s.free } n m level).2.free } n m
    (powerWord level (powerValue { view with free := s.free } n m level).1.toNat atNext) regs
  exact ⟨hput.regs, hput.lanes⟩

theorem powerControl_stands (s : State) (n : Fin 8) (m : Fin 4) (asym : Int) : LanesStand s (powerControl s n m asym) (powerRegs n) := by
  unfold powerControl
  split
  · exact ⟨RegsBut.of_regs rfl _, rfl⟩
  · extract_lets raw step lim off beam limit live v
    have hlimit : LanesStand s limit (powerRegs n) := by
      simp only [limit]
      split
      · exact ⟨(regsBut_u beam _ _).mono (by simp [powerRegs, R.WRS_STATUS_PC_LIMIT]), rfl⟩
      · exact ⟨RegsBut.of_regs rfl _, rfl⟩
    have hlive : LanesStand s live (powerRegs n) := hlimit.trans (livePower_stands _ limit n m)
    split
    · exact hlive.trans (sendLevels_stands _ live n m _ true _)
    · split
      · exact hlive
      · exact hlive.trans (sendLevels_stands _ live n m _ true _)

theorem calRaise_stands (s : State) (n : Fin 8) (layer : Nat) (now : Bool) : LanesStand s (calRaise s n layer now) [R.CAL_STATUS] := by
  unfold calRaise
  split
  · exact ⟨RegsBut.of_regs rfl _, rfl⟩
  · exact ⟨(regsBut_calU s n _ _).andThen (refreshCal_regs _), refreshCal_lanes _⟩

theorem qualityTrigger_stands (s : State) (n : Fin 8) (m : Fin 4) (mean : Option Nat) :
    LanesStand s (qualityTrigger s n m mean) (powerRegs n) := by
  unfold qualityTrigger
  extract_lets low u
  have hu : LanesStand s u (powerRegs n) := ⟨regsBut_calU s n _ _, rfl⟩
  split
  · have hraise := calRaise_stands u n (workLayer u n) false
    exact hu.trans ⟨hraise.regs.mono (by simp [powerRegs]), hraise.lanes⟩
  · exact hu

/-! The figures of a cluster (R113). -/

/-- Counts and figures start again: no register changes, and the lane has no half frame with a margin. -/
theorem figuresReset_shows (s : State) (l : Fin 68) {t : State} (ht : figuresReset s l = t) :
    LaneStep s t [] ∧ t.free = s.free ∧ (t.lanes[l]).sawResync = false ∧ (t.lanes[l]).erased = 0 ∧ (t.lanes[l]).halves = 0 := by
  subst ht
  have hlane : (figuresReset s l).lanes[l].sawResync = false ∧ (figuresReset s l).lanes[l].erased = 0 ∧ (figuresReset s l).lanes[l].halves = 0 := by
    rw [figuresReset, State.lane_laneU_self]
    exact ⟨rfl, rfl, rfl⟩
  exact ⟨laneStep_laneU s l _, rfl, hlane⟩

/-- The figures are withheld (R113). -/
theorem figuresWithheld_shows (s : State) (l : Fin 68) {t : State}
    (ht : figuresReset (s.us [(R.OPL_QUALITY_VALID l, 0), (R.OPL_ASYM_VALID l, 0)]) l = t) :
    t.on (R.OPL_QUALITY_VALID l) = false ∧ t.on (R.OPL_ASYM_VALID l) = false ∧ (t.lanes[l]).sawResync = false ∧ (t.lanes[l]).erased = 0 ∧
      LaneStep s t [R.OPL_QUALITY l, R.OPL_ASYM l] ∧ t.free = s.free := by
  obtain ⟨hstep, hfree, hresync, herased, -⟩ := figuresReset_shows _ l ht
  have hset := (laneStep_us s [(R.OPL_QUALITY_VALID l, 0), (R.OPL_ASYM_VALID l, 0)]).trans hstep
  have hne : R.OPL_QUALITY l ≠ R.OPL_ASYM l := by
    simp only [R.OPL_QUALITY, R.OPL_ASYM]
    omega
  have hquality : (s.us [(R.OPL_QUALITY_VALID l, 0), (R.OPL_ASYM_VALID l, 0)]).on (R.OPL_QUALITY_VALID l) = false := by
    simp only [State.us_cons, State.us_nil, State.on]
    rw [State.g_u_addr _ _ _ _ hne]
    exact State.on_u_self s ⟨Nat.le_of_ble_eq_true rfl, rfl⟩ false
  have hasym : (s.us [(R.OPL_QUALITY_VALID l, 0), (R.OPL_ASYM_VALID l, 0)]).on (R.OPL_ASYM_VALID l) = false := by
    simp only [State.us_cons, State.us_nil]
    exact State.on_u_self _ ⟨Nat.le_of_ble_eq_true rfl, rfl⟩ false
  refine ⟨(hstep.regs.on List.not_mem_nil).trans hquality, (hstep.regs.on List.not_mem_nil).trans hasym, hresync, herased, hset, ?_⟩
  exact hfree.trans (State.us_proj State.free (fun _ _ _ => rfl) _ s)

/-- A whole quotient is taken as it is. -/
theorem quant_whole (s : State) {num den : Int} (h : num % den = 0) : s.quant num den = (num / den, s) := if_pos h

theorem quantR_int (s : State) {r : Rat} {a : Int} (h : r = a) : s.quantR r = (a, s) := by
  subst h
  rw [State.quantR, quant_whole]
  · simp
  · simp

/-- The mean of a level, from its sum and its count. -/
def levelMean (sums : List (Int × Nat)) (i : Nat) : Rat := (((sums[i]?).getD (0, 0)).1 : Rat) / ((((sums[i]?).getD (0, 0)).2 : Nat) : Rat)

theorem laneStep_asymmetry (s : State) (sums : List (Int × Nat)) : LaneStep s (asymmetry s sums).2 [] := by
  unfold asymmetry
  extract_lets mean
  dsimp only
  split
  · exact laneStep_free s _
  · exact LaneStep.quant s _ _

theorem asymmetry_whole (s : State) {sums : List (Int × Nat)} {a : Int} (hseen : ∀ i < 4, ((sums[i]?).getD (0, 0)).2 ≠ 0)
    (hlevels : levelMean sums 1 ≠ levelMean sums 0)
    (ha : (a : Rat) = ((levelMean sums 0 + levelMean sums 1) - (levelMean sums 2 + levelMean sums 3)) /
      (2 * (levelMean sums 1 - levelMean sums 0)) * 32768) : (asymmetry s sums).1 = clampI (-32768) 32767 a := by
  have h0 := hseen 0 (by decide)
  have h1 := hseen 1 (by decide)
  have h2 := hseen 2 (by decide)
  have h3 := hseen 3 (by decide)
  unfold asymmetry
  extract_lets mean
  dsimp only
  rw [if_neg (by simp only [mean, h0, h1, h2, h3, false_or]; exact hlevels)]
  exact congrArg (fun p => clampI (-32768) 32767 p.1) (quantR_int s ha.symm)

/-- The margins are published. -/
def marginsShown (s : State) (l : Fin 68) (mean least : Nat) : State :=
  s.us [(R.OPL_QUALITY_VALID l, 1), (R.OPL_QUALITY_MARGIN_MEAN l, mean), (R.OPL_QUALITY_MARGIN_MIN l, least)]

theorem laneStep_marginsShown (s : State) (l : Fin 68) (mean least : Nat) : LaneStep s (marginsShown s l mean least) [R.OPL_QUALITY l] :=
  (laneStep_us s _).mono (by simp [R.OPL_QUALITY_VALID, R.OPL_QUALITY_MARGIN_MEAN, R.OPL_QUALITY_MARGIN_MIN])

theorem marginsShown_shows (s : State) (l : Fin 68) (mean least : Nat) {t : State} (ht : marginsShown s l mean least = t) :
    t.on (R.OPL_QUALITY_VALID l) = true ∧ t.g (R.OPL_QUALITY_MARGIN_MIN l) = least % 2 ^ 8 ∧
      t.g (R.OPL_QUALITY_MARGIN_MEAN l) = mean % 2 ^ 8 := by
  subst ht
  simp only [marginsShown, State.us_cons, State.us_nil]
  refine ⟨?_, State.g_u_self _ _ _ (Nat.le_of_ble_eq_true rfl), ?_⟩
  · refine (State.on_u_bits _ _ (.inl (Nat.le_of_ble_eq_true rfl)) (Nat.le_of_ble_eq_true rfl)).trans ?_
    refine (State.on_u_bits _ _ (.inl (Nat.le_of_ble_eq_true rfl)) (Nat.le_of_ble_eq_true rfl)).trans ?_
    exact State.on_u_self s ⟨Nat.le_of_ble_eq_true rfl, rfl⟩ true
  · refine (State.g_u_bits _ _ _ _ (.inr (Nat.le_of_ble_eq_true rfl)) (Nat.le_of_ble_eq_true rfl)).trans ?_
    exact State.g_u_self _ _ _ (Nat.le_of_ble_eq_true rfl)

/-- The asymmetry is published. -/
def asymShown (s : State) (l : Fin 68) (a : Int) : State := s.us [(R.OPL_ASYM_VALID l, 1), (R.OPL_ASYM_ASYM l, ofSigned 16 a)]

theorem laneStep_asymShown (s : State) (l : Fin 68) (a : Int) : LaneStep s (asymShown s l a) [R.OPL_ASYM l] :=
  (laneStep_us s _).mono (by simp [R.OPL_ASYM_VALID, R.OPL_ASYM_ASYM])

/-- A signed field of 16 bits reads the value it was set to (R7). -/
theorem gi_of_ui_16 (s : State) {f : FRef} (hf : f.lo + f.w ≤ 32 ∧ f.w = 16) {v : Int} (hv : -32768 ≤ v ∧ v ≤ 32767) :
    (s.ui f v).gi f = v := by
  rw [State.gi, State.ui, State.g_u_self _ _ _ hf.1, hf.2]
  exact toSigned_ofSigned_16 hv

theorem asymShown_shows (s : State) (l : Fin 68) (a : Int) {t : State} (ht : asymShown s l a = t) :
    t.on (R.OPL_ASYM_VALID l) = true ∧ (-32768 ≤ a ∧ a ≤ 32767 → t.gi (R.OPL_ASYM_ASYM l) = a) := by
  subst ht
  simp only [asymShown, State.us_cons, State.us_nil]
  refine ⟨?_, fun ha => gi_of_ui_16 _ ⟨Nat.le_of_ble_eq_true rfl, rfl⟩ ha⟩
  refine (State.on_u_bits _ _ (.inl (Nat.le_of_ble_eq_true rfl)) (Nat.le_of_ble_eq_true rfl)).trans ?_
  exact State.on_u_self s ⟨Nat.le_of_ble_eq_true rfl, rfl⟩ true

/-- One tap's mean is shown (R113). -/
def tapShown (s : State) (l : Fin 68) (x : Dsp) (i : Nat) : State :=
  let p := s.quant ((x.tapSum[i]?).getD 0) (max 1 x.tapN : Nat)
  if i % 2 = 0 then p.2.ui (R.OPL_EQ_LIVE_TAP_LO l (i / 2)) p.1 else p.2.ui (R.OPL_EQ_LIVE_TAP_HI l (i / 2)) p.1

theorem liveTaps_eq (s : State) (l : Fin 68) (x : Dsp) : liveTaps s l x = s.each (List.range 15) fun s i => tapShown s l x i := rfl

theorem laneStep_tapShown (s : State) (l : Fin 68) (x : Dsp) (i : Nat) : LaneStep s (tapShown s l x i) [R.OPL_EQ_LIVE l (i / 2)] := by
  have hquant := LaneStep.quant s ((x.tapSum[i]?).getD 0) (max 1 x.tapN : Nat)
  unfold tapShown
  extract_lets p
  split
  · exact hquant.trans (laneStep_u _ _ _)
  · exact hquant.trans (laneStep_u _ _ _)

/-- The registers in which a lane shows its taps. -/
def tapRegs (l : Fin 68) : List Nat := (List.range 8).map fun i => R.OPL_EQ_LIVE l i

theorem laneStep_each {α : Type} {k : State → α → State} {regs : List Nat} (xs : List α) (s : State)
    (hk : ∀ s, ∀ x ∈ xs, LaneStep s (k s x) regs) : LaneStep s (s.each xs k) regs := by
  induction xs generalizing s with
  | nil => exact (LaneStep.refl s).mono (List.nil_subset _)
  | cons x xs ih =>
    have hstep := (hk s x List.mem_cons_self).trans (ih (k s x) fun s y hy => hk s y (List.mem_cons_of_mem x hy))
    exact hstep.mono (List.append_subset.mpr ⟨List.Subset.refl _, List.Subset.refl _⟩)

theorem laneStep_liveTaps (s : State) (l : Fin 68) (x : Dsp) : LaneStep s (liveTaps s l x) (tapRegs l) := by
  rw [liveTaps_eq]
  refine laneStep_each _ s fun s i hi => (laneStep_tapShown s l x i).mono fun a ha => ?_
  rw [List.mem_singleton.mp ha]
  exact List.mem_map_of_mem (List.mem_range.mpr (by have := List.mem_range.mp hi; omega))

/-- The mean of tap i, where it is whole, is what its field shows. -/
def tapIs (l : Fin 68) (x : Dsp) (i : Nat) (t : State) : Prop :=
  i % 2 = 0 → ∀ v : Int, -32768 ≤ v → v ≤ 32767 → (x.tapSum[i]?).getD 0 = v * (max 1 x.tapN : Nat) →
    t.gi (R.OPL_EQ_LIVE_TAP_LO l (i / 2)) = v

theorem tapIs_tapShown (l : Fin 68) (x : Dsp) (s : State) (i : Nat) : tapIs l x i (tapShown s l x i) := by
  intro heven v hlo hhi hsum
  have hpos : ((max 1 x.tapN : Nat) : Int) ≠ 0 := by omega
  have hquant : s.quant ((x.tapSum[i]?).getD 0) (max 1 x.tapN : Nat) = (v, s) := by
    rw [hsum, quant_whole s (Int.mul_emod_left _ _), Int.mul_ediv_cancel _ hpos]
  simp only [tapShown, hquant, heven, if_true]
  exact gi_of_ui_16 s ⟨Nat.le_of_ble_eq_true rfl, rfl⟩ ⟨hlo, hhi⟩

/-- Showing another tap leaves a tap's field alone. -/
theorem tapIs_tapShown_other (l : Fin 68) (x : Dsp) (s : State) (i j : Nat) (h : tapIs l x i s) : tapIs l x i (tapShown s l x j) := by
  by_cases hj : j = i
  · exact hj ▸ tapIs_tapShown l x s j
  · intro heven v hlo hhi hsum
    refine Eq.trans (congrArg (toSigned _) ?_) (h heven v hlo hhi hsum)
    by_cases hword : j / 2 = i / 2
    · have hodd : ¬ j % 2 = 0 := by omega
      have hquant := LaneStep.quant s ((x.tapSum[j]?).getD 0) (max 1 x.tapN : Nat)
      simp only [tapShown, hodd, if_false]
      refine (State.g_u_bits _ _ _ _ (.inr (Nat.le_of_ble_eq_true rfl)) (Nat.le_of_ble_eq_true rfl)).trans ?_
      exact hquant.regs.g List.not_mem_nil
    · refine (laneStep_tapShown s l x j).regs.g fun hm => hword ?_
      have haddr := List.mem_singleton.mp hm
      simp only [R.OPL_EQ_LIVE_TAP_LO, R.OPL_EQ_LIVE] at haddr
      omega

theorem liveTaps_shows (s : State) (l : Fin 68) (x : Dsp) {i : Nat} (hi : i < 15) : tapIs l x i (liveTaps s l x) := by
  rw [liveTaps_eq]
  exact State.each_sets (P := tapIs l x) (fun s i => tapIs_tapShown l x s i) (fun s i j h => tapIs_tapShown_other l x s i j h) _ s i
    (List.mem_range.mpr hi)

/-! A cluster's figures are published (R113). -/

/-- The registers in which a lane publishes its figures. -/
def figureRegs (l : Fin 68) : List Nat := R.OPL_QUALITY l :: R.OPL_ASYM l :: tapRegs l

theorem mem_figureRegs {l : Fin 68} {a : Nat} (h : a ∈ figureRegs l) : laneBase l + 0x8C ≤ a ∧ a < laneBase l + 0xE0 := by
  simp only [figureRegs, tapRegs, List.mem_cons, List.mem_map, List.mem_range, R.OPL_QUALITY, R.OPL_ASYM, R.OPL_EQ_LIVE] at h
  obtain rfl | rfl | ⟨i, hi, rfl⟩ := h
  · omega
  · omega
  · omega

theorem figureRegs_not_powerRegs {l : Fin 68} {a : Nat} (h : a ∈ figureRegs l) (n : Fin 8) : a ∉ powerRegs n := by
  have ha := mem_figureRegs h
  have hl := l.isLt
  have hn := n.isLt
  have hbase : laneBase l % 0x10000 + 0x200 ≤ 0x2000 ∧ 0x81000 ≤ laneBase l ∧ laneBase l % 0x200 = 0 ∧
      (laneBase l < 0x100000 ∨ 0x200000 ≤ laneBase l) := by
    unfold laneBase
    split <;> omega
  simp only [powerRegs, beams, List.map_cons, List.map_nil, List.mem_cons, List.not_mem_nil, or_false, R.CAL_STATUS, R.WRS_STATUS, R.WRS_PW_LIVE]
  omega

theorem spareMap_not_figureReg (l : Fin 68) : R.OPL_SPARE_MAP ∉ figureRegs l := fun h => by
  have ha := mem_figureRegs h
  have hl := l.isLt
  simp only [R.OPL_SPARE_MAP, laneBase] at ha
  split at ha <;> omega

/-- A lane publishes the figures of the cluster that `x` has counted, and starts again. -/
def figuresPublished (s : State) (l : Fin 68) (x : Lane) (mean : Nat) (a : Int) : State :=
  figuresReset (liveTaps (asymShown (marginsShown s l mean x.marginMin) l a) l x.dsp) l

theorem figuresShown_eq (s : State) (l : Fin 68) (mean least : Nat) (a : Int) :
    s.us [(R.OPL_QUALITY_VALID l, 1), (R.OPL_QUALITY_MARGIN_MEAN l, mean), (R.OPL_QUALITY_MARGIN_MIN l, least), (R.OPL_ASYM_VALID l, 1),
      (R.OPL_ASYM_ASYM l, ofSigned 16 a)] = asymShown (marginsShown s l mean least) l a := by
  simp only [asymShown, marginsShown, State.us_cons, State.us_nil]

/-- After the figures a verify lane steps the power control of its beam, and may raise a calibration. -/
theorem clusterStatistics_published {s s₁ s₂ : State} {l : Fin 68} {x : Lane} {mean a : Int} (hx : s.lanes[l] = x)
    (hmode : s.g (R.OPL_MODE_MODE l) ≠ 0) (hshow : ¬ (x.sawResync = true ∨ 32 < x.erased ∨ x.halves = 0))
    (hmean : s.quant x.marginSum x.halves = (mean, s₁)) (hasym : asymmetry s₁ x.dsp.sums = (a, s₂)) {u : State}
    (hu : figuresPublished s₂ l x mean.toNat a = u) : clusterStatistics l s = u ∧ (∀ n m, laneBeam u l ≠ some (n, m, true)) ∨
      ∃ n m, laneBeam u l = some (n, m, true) ∧ clusterStatistics l s = qualityTrigger (powerControl u n m a) n m (some mean.toNat) := by
  unfold clusterStatistics
  simp only [hx, hmode, hshow, hmean, hasym, if_false, figuresShown_eq]
  rw [figuresPublished] at hu
  rw [hu]
  split
  next n m hbeam => exact .inr ⟨n, m, hbeam, rfl⟩
  next hother => exact .inl ⟨rfl, fun n m h => hother n m h⟩

theorem laneStep_figuresPublished (s : State) (l : Fin 68) (x : Lane) (mean : Nat) (a : Int) :
    LaneStep s (figuresPublished s l x mean a) (figureRegs l) := by
  have hmargins := laneStep_marginsShown s l mean x.marginMin
  have htaps := (hmargins.trans (laneStep_asymShown _ l a)).trans (laneStep_liveTaps _ l x.dsp)
  exact (htaps.trans (figuresReset_shows _ l rfl).1).mono (by simp [figureRegs])

theorem quality_not_tapRegs (l : Fin 68) : R.OPL_QUALITY l ∉ tapRegs l ∧ R.OPL_ASYM l ∉ tapRegs l ∧ R.OPL_QUALITY l ≠ R.OPL_ASYM l := by
  simp only [tapRegs, List.mem_map, List.mem_range, R.OPL_QUALITY, R.OPL_ASYM, R.OPL_EQ_LIVE, not_exists, not_and]
  exact ⟨fun i _ => by omega, fun i _ => by omega, by omega⟩

theorem figuresPublished_shows (s : State) (l : Fin 68) (x : Lane) (mean : Nat) (a : Int) {u : State} (hu : figuresPublished s l x mean a = u) :
    u.on (R.OPL_QUALITY_VALID l) = true ∧ u.on (R.OPL_ASYM_VALID l) = true ∧ (u.lanes[l]).halves = 0 ∧
      u.g (R.OPL_QUALITY_MARGIN_MIN l) = x.marginMin % 2 ^ 8 ∧ u.g (R.OPL_QUALITY_MARGIN_MEAN l) = mean % 2 ^ 8 ∧
      (-32768 ≤ a ∧ a ≤ 32767 → u.gi (R.OPL_ASYM_ASYM l) = a) ∧ ∀ i < 15, tapIs l x.dsp i u := by
  obtain ⟨hquality, hasym, hne⟩ := quality_not_tapRegs l
  obtain ⟨v, hv⟩ : ∃ v, marginsShown s l mean x.marginMin = v := ⟨_, rfl⟩
  obtain ⟨w, hw⟩ : ∃ w, asymShown v l a = w := ⟨_, rfl⟩
  obtain ⟨hvalid, hmin, hmean⟩ := marginsShown_shows s l mean x.marginMin hv
  obtain ⟨hasymValid, hasymShown⟩ := asymShown_shows v l a hw
  have hstep : LaneStep v w [R.OPL_ASYM l] := hw ▸ laneStep_asymShown v l a
  have htaps := laneStep_liveTaps w l x.dsp
  rw [figuresPublished, hv, hw] at hu
  obtain ⟨hreset, -, -, -, hhalves⟩ := figuresReset_shows _ l hu
  have hlast : RegsBut w u (tapRegs l) := htaps.regs.trans hreset.regs |>.mono (by simp)
  have hboth : R.OPL_QUALITY l ∉ [R.OPL_ASYM l] := by simpa using hne
  refine ⟨(hlast.on hquality).trans ((hstep.regs.on hboth).trans hvalid), (hlast.on hasym).trans hasymValid, hhalves,
    (hlast.g hquality).trans ((hstep.regs.g hboth).trans hmin), (hlast.g hquality).trans ((hstep.regs.g hboth).trans hmean),
    fun ha => (congrArg (toSigned _) (hlast.g hasym)).trans (hasymShown ha), fun i hi heven t hlo hhi hsum => ?_⟩
  exact (congrArg (toSigned _) (hreset.regs.g List.not_mem_nil)).trans (liveTaps_shows w l x.dsp hi heven t hlo hhi hsum)

/-- What follows the figures changes neither the lanes nor the registers in which they are shown, and with no verify lane nothing. -/
theorem clusterStatistics_stands {s s₁ s₂ : State} {l : Fin 68} {x : Lane} {mean a : Int} (hx : s.lanes[l] = x)
    (hmode : s.g (R.OPL_MODE_MODE l) ≠ 0) (hshow : ¬ (x.sawResync = true ∨ 32 < x.erased ∨ x.halves = 0))
    (hmean : s.quant x.marginSum x.halves = (mean, s₁)) (hasym : asymmetry s₁ x.dsp.sums = (a, s₂)) {u t : State}
    (hu : figuresPublished s₂ l x mean.toNat a = u) (ht : clusterStatistics l s = t) : ∃ regs, (∀ b ∈ figureRegs l, b ∉ regs) ∧
      LanesStand u t regs ∧ RegsBut s u (figureRegs l) ∧ ((∀ n m, laneBeam s l ≠ some (n, m, true)) → t = u) := by
  have hfree : LaneStep s s₂ [] := by
    have hquant := LaneStep.quant s x.marginSum x.halves
    rw [hmean] at hquant
    have hthen := hquant.trans (laneStep_asymmetry s₁ x.dsp.sums)
    rwa [hasym] at hthen
  have hregs : RegsBut s u (figureRegs l) := hu ▸ (hfree.trans (laneStep_figuresPublished s₂ l x mean.toNat a)).regs
  have hbeam : laneBeam u l = laneBeam s l := laneBeam_of_map (hregs _ (spareMap_not_figureReg l)) l
  obtain ⟨heq, -⟩ | ⟨n, m, hverify, heq⟩ := clusterStatistics_published hx hmode hshow hmean hasym hu
  · obtain rfl : t = u := ht.symm.trans heq
    exact ⟨[], fun b _ => List.not_mem_nil, ⟨RegsBut.of_regs rfl _, rfl⟩, hregs, fun _ => rfl⟩
  · have hstand := (powerControl_stands u n m a).trans (qualityTrigger_stands (powerControl u n m a) n m (some mean.toNat))
    rw [← heq, ht] at hstand
    exact ⟨powerRegs n, fun b hb => figureRegs_not_powerRegs hb n, hstand, hregs, fun hnone => absurd (hbeam.symm.trans hverify) (hnone n m)⟩

/-! The interval since the newest set (R307). -/

/-- The age of a set of a layer, in seconds. -/
def setAge (s : State) (n : Fin 8) (layer k : Nat) : Nat := (s.now / 1000000000 % 2 ^ 32 + 2 ^ 32 - s.g (R.CAL_SET7_TIME n layer k)) % 2 ^ 32

/-- The working layer has a set, and every one it has is INTERVAL minutes old. -/
def setsOld (s : State) (n : Fin 8) : Prop :=
  (∃ k : Fin 8, s.on (R.CAL_SET0_VALID n (workLayer s n) k) = true) ∧
    ∀ k : Fin 8, s.on (R.CAL_SET0_VALID n (workLayer s n) k) = true → 60 * s.g R.CAL_TRIG_INTERVAL ≤ setAge s n (workLayer s n) k

theorem calibrationInterval_raises {s : State} {n : Fin 8} (hon : s.on R.CAL_CTRL_INTERVAL_EN = true) (hold : setsOld s n) :
    calibrationInterval n s = calRaise s n (workLayer s n) false := by
  obtain ⟨⟨k, hk⟩, hall⟩ := hold
  refine if_pos ⟨hon, ?_, List.all_eq_true.mpr fun a ha => ?_⟩
  · exact List.ne_nil_of_mem (List.mem_map_of_mem (List.mem_filter.mpr ⟨List.mem_range.mpr k.isLt, hk⟩))
  · obtain ⟨j, hj, rfl⟩ := List.mem_map.mp ha
    obtain ⟨hlt, hvalid⟩ := List.mem_filter.mp hj
    exact decide_eq_true (hall ⟨j, List.mem_range.mp hlt⟩ hvalid)

theorem calibrationInterval_waits {s : State} {n : Fin 8} (h : s.on R.CAL_CTRL_INTERVAL_EN = false ∨ ¬ setsOld s n) :
    calibrationInterval n s = s := by
  refine if_neg fun ⟨hon, hsome, hall⟩ => h.elim (fun hoff => Bool.false_ne_true (hoff.symm.trans hon)) fun hnot => hnot ⟨?_, fun k hk => ?_⟩
  · obtain ⟨a, ha⟩ := List.exists_mem_of_ne_nil _ hsome
    obtain ⟨j, hj, -⟩ := List.mem_map.mp ha
    obtain ⟨hlt, hvalid⟩ := List.mem_filter.mp hj
    exact ⟨⟨j, List.mem_range.mp hlt⟩, hvalid⟩
  · have hvalid : k.val ∈ (List.range 8).filter fun t => s.on (R.CAL_SET0_VALID n (workLayer s n) t) :=
      List.mem_filter.mpr ⟨List.mem_range.mpr k.isLt, hk⟩
    have hmem := List.mem_map_of_mem (f := setAge s n (workLayer s n)) hvalid
    exact of_decide_eq_true (List.all_eq_true.mp hall _ hmem)

/-- Settles O35: each clause goes through the rule of its case. -/
theorem calibrationFiguresAndTriggers : Obligations.CalibrationFiguresAndTriggers := by
  intro s hs
  refine ⟨fun l => ?figures, fun hoff n => ⟨fun v hlo hhi => ?good, fun hbad => ?failed, fun hbad => ?third⟩,
    fun n => ⟨fun h => ?waits, fun hon hold hrun => ?raises⟩, fun n layer now => ⟨fun h3 h4 h5 => ?elsewhere, fun hst hrun => ?calibrates⟩⟩
  case figures =>
    intro x mean seen
    have hx : s.lanes[l] = x := rfl
    clear_value x
    refine ⟨fun hmode => ?off, fun hmode hhide => ?withheld, fun hmode hresync herased hhalves => ?published⟩
    case off => exact (answer_live _ hs).trans (congrArg _ (if_pos hmode))
    case withheld =>
      refine does_of_answer hs rfl ?_
      have heq : clusterStatistics l s = figuresReset (s.us [(R.OPL_QUALITY_VALID l, 0), (R.OPL_ASYM_VALID l, 0)]) l := by
        subst hx
        exact (if_neg hmode).trans (if_pos hhide)
      obtain ⟨hquality, hasym, hseen, hnone, hstep, hfree⟩ := figuresWithheld_shows s l heq.symm
      exact ⟨hquality, hasym, hseen, hnone, hstep.regs, hstep.eq_of_free hfree⟩
    case published =>
      refine does_of_answer hs rfl ?_
      obtain ⟨m, s₁, hmean⟩ : ∃ m s₁, s.quant x.marginSum x.halves = (m, s₁) := ⟨_, _, rfl⟩
      obtain ⟨a, s₂, hasym⟩ : ∃ a s₂, asymmetry s₁ x.dsp.sums = (a, s₂) := ⟨_, _, rfl⟩
      have hshow : ¬ (x.sawResync = true ∨ 32 < x.erased ∨ x.halves = 0) := by
        simp only [hresync, Bool.false_eq_true, false_or]
        omega
      generalize hu : figuresPublished s₂ l x m.toNat a = u
      generalize ht : clusterStatistics l s = t
      obtain ⟨regs, hout, hstand, hregs, hsame⟩ := clusterStatistics_stands hx hmode hshow hmean hasym hu ht
      obtain ⟨hvalid, hasymValid, hnone, hmin, hmargin, hasymShown, htaps⟩ := figuresPublished_shows s₂ l x m.toNat a hu
      have hquality : R.OPL_QUALITY l ∉ regs := hout _ List.mem_cons_self
      have hasymReg : R.OPL_ASYM l ∉ regs := hout _ (List.mem_cons_of_mem _ List.mem_cons_self)
      have htapReg (i : Fin 8) : R.OPL_EQ_LIVE l i ∉ regs :=
        hout _ (List.mem_cons_of_mem _ (List.mem_cons_of_mem _ (List.mem_map_of_mem (List.mem_range.mpr i.isLt))))
      refine ⟨(hstand.regs.on hquality).trans hvalid, (hstand.regs.on hasymReg).trans hasymValid,
        (congrArg (fun v : Vector Lane 68 => v[l].halves) hstand.lanes).trans hnone, (hstand.regs.g hquality).trans hmin,
        fun hwhole => (hstand.regs.g hquality).trans (hmargin.trans ?_), fun b hseen hlevels hb => ?_, fun i v hlo hhi hsum => ?_,
        fun hno b hq ha hlive => ?_⟩
      · have hdiv : ((x.marginSum : Int) / x.halves, s) = (m, s₁) := (quant_whole s (by exact_mod_cast hwhole)).symm.trans hmean
        have hm : m = ((x.marginSum / x.halves : Nat) : Int) := (congrArg Prod.fst hdiv).symm.trans (Int.natCast_div _ _).symm
        rw [hm, Int.toNat_natCast]
        rfl
      · have hclamp : a = clampI (-32768) 32767 b := (congrArg Prod.fst hasym).symm.trans (asymmetry_whole s₁ hseen hlevels hb)
        refine (congrArg (toSigned _) (hstand.regs.g hasymReg)).trans ((hasymShown ?_).trans hclamp)
        exact hclamp ▸ clampI_bounds (by decide) b
      · have htap := htaps (2 * i.val) (by omega) (by omega) v hlo hhi hsum
        rw [Nat.mul_div_cancel_left _ (by decide)] at htap
        exact (congrArg (toSigned _) (hstand.regs.g (htapReg i))).trans htap
      · rw [hsame hno]
        refine hregs b ?_
        simp only [figureRegs, tapRegs, List.mem_cons, List.mem_map, List.mem_range, not_or, not_exists, not_and]
        exact ⟨hq, ha, fun i hi e => hlive ⟨i, hi⟩ e.symm⟩
  case good =>
    refine does_of_answer hs rfl ?_
    exact pickupTempRead_good hoff n ⟨hlo, Int.le_of_lt_add_one hhi⟩ rfl
  case failed =>
    refine does_of_answer hs rfl ?_
    exact pickupTempRead_failed hbad rfl
  case third =>
    refine does_of_answer hs rfl ?_
    exact pickupTempRead_third hoff hbad rfl
  case waits => exact (answer_live _ hs).trans (congrArg _ (calibrationInterval_waits h))
  case raises =>
    refine does_of_answer hs rfl ?_
    rw [calibrationInterval_raises hon hold]
    obtain ⟨hany, hbit, -, hregs⟩ := calRaise_shows hrun (layer := workLayer s n) (now := false) rfl
    exact ⟨by simpa using hany, hbit, hregs⟩
  case elsewhere => exact (answer_live _ hs).trans (congrArg _ (if_neg fun h => h.elim h3 fun h => h.elim h4 h5))
  case calibrates =>
    refine does_of_answer hs rfl ?_
    have heq : calCalibrate n layer now s = calRaise s n layer now := if_pos hst
    rw [heq]
    exact calRaise_shows hrun rfl

end Sys2Proof.Machine

/-!
PROOF. O15 fails: STRIPE_SERIAL_ASSIGN does not only place the stripe (R135, R525). Where the serial that it issues brings the next one within a
quarter of its reservation of the ceiling, Garnet takes a delta checkpoint at once (R363).
-/

namespace Sys2Proof.Machine

/-- A stripe that has closed short with one data member and waits for its serial (R134, R525). -/
def waitingStripe : Stripe := ⟨1, 0, 1, 1, false, 0, [⟨1, 1, 0, 0, 1, 0, [5], []⟩], none, true, 0, [], 0⟩

/-- A device out of reset with its map loaded, stations 1 and 2 available for the members of stripe 1, no number near its ceiling: the stripe
ceiling lies one quarter of a reservation above the serial after the next. -/
def serialBelowQuarter : State :=
  { (({ State.reset with sys := ⟨.no, true, true, 0, 0, false⟩, regs := [(R.TRU_STATUS, 0#32)] } : State).us
      [(R.STN_STATUS_STATE 1, stACTIVE), (R.STN_STATUS_DISC_KIND 1, 1), (R.STN_STATUS_STATE 2, stACTIVE), (R.STN_STATUS_DISC_KIND 2, 1),
        (R.GRN_STATUS_LOADED, 1)]) with
    stn := Vector.replicate 8 { Stn.init with fronts := Vector.replicate 4 (some (mkPca 0 0 0 dataFirst)) }
    tpz := { Tpz.init with stripes := [waitingStripe] }
    grn := { Grn.init with ceilGroup := 2 ^ 16, ceilReel := 2 ^ 12, ceilStripe := 2 ^ 22 + 2 } }

/-- How many checkpoints are in progress. -/
def ckptCount (s : State) : Nat := s.grn.ckpts.length

theorem serialBelowQuarter_places : serialBelowQuarter.live = true ∧ placeable serialBelowQuarter = some waitingStripe ∧
    nextSerial serialBelowQuarter < serialBelowQuarter.grn.ceilStripe ∧ serialSpent serialBelowQuarter = false := by decide +kernel

/-- Placing the stripe begins no checkpoint. -/
theorem placeStripe_noCkpt : ckptCount (placeStripe serialBelowQuarter waitingStripe) = 0 := by decide +kernel

/-- The command begins one: the serial after the one it issued is a quarter of a reservation below the ceiling (R363). -/
theorem stripeSerialAssign_takesCkpt : ckptCount (stripeSerialAssign serialBelowQuarter) = 1 := by decide +kernel

/-- Refutes O15: a stripe is placed with the last serial before the ceiling of R363 comes near, and the command takes a checkpoint as well, where
the statement has it do nothing but place the stripe. -/
theorem not_topazClustersAndStripes : ¬ Obligations.TopazClustersAndStripes := by
  intro h
  obtain ⟨hlive, hplace, hceiling, hspent⟩ := serialBelowQuarter_places
  obtain ⟨-, -, hassign, -⟩ := h serialBelowQuarter 0 0 hlive
  obtain ⟨hstated, -⟩ := hassign waitingStripe hplace hceiling hspent
  have hexec : exec .stripeSerialAssign serialBelowQuarter = .next (stripeSerialAssign serialBelowQuarter) := answer_live _ hlive
  have hsame : stripeSerialAssign serialBelowQuarter = placeStripe serialBelowQuarter waitingStripe :=
    Host.Outcome.next.inj (hexec.symm.trans hstated)
  exact Nat.one_ne_zero (stripeSerialAssign_takesCkpt.symm.trans ((congrArg ckptCount hsame).trans placeStripe_noCkpt))

end Sys2Proof.Machine

/-!
PROOF. O46 fails: a READ hands its data to the endpoint, which sends what waits before it, and an MSI-X message of a masked vector sets a bit of the
pending bit array instead (R393, R432). The statement speaks of every state; where the message that waits is of a vector far past the table's 2,048
(R408), its bit lies in another register, here in a counter of the READ's.
-/

namespace Sys2Proof.Machine

/-- The vector whose pending bit is bit 0 of TPZ_CNT_RECONSTRUCTED, were the array to go on past its end. -/
def strayVector : Nat := 32 * ((R.TPZ_CNT_RECONSTRUCTED - 0x38000) / 4)

/-- A READ of one block of volume 2, which has never been written. -/
def blockRead : Cmd := ⟨1, 0, 7, ⟨oREAD, 0, 3, 2, 0, 0, 100, 1, 0, 0, 0, 0, 0, 0, 0⟩, 1, .running, 0, [], none, none, 0, false, [⟨0, 4096⟩], none, none, []⟩

/-- A device out of reset that runs the READ. Function 0 is bus master with MSI-X enabled and every vector masked, and a message of the stray
vector waits to be sent. -/
def strayMessage : State :=
  { State.reset with
    sys := ⟨.no, true, true, 0, 0, false⟩
    regs := [(R.TRU_STATUS, 0#32)]
    hqe := { Hqe.init with cmds := [blockRead] }
    pcx := { Pcx.init with cfg := [(0x04 / 4, 0x00100006#32), (0x50 / 4, 0xC7FF7011#32)], tx := [.msix 0 strayVector] } }

/-- What the READ finds: zeroes, since the block has no version (R335). -/
def zeroBlock : BlockSrc := .data (List.replicate 4096 0#8) false none false

theorem strayMessage_reads : strayMessage.live = true ∧ running strayMessage 1 oREAD = some blockRead ∧
    heldBack strayMessage blockRead = false ∧ cmdOf strayMessage 1 = some blockRead ∧ blockPlace strayMessage [] 2 100 0 = .unwritten := by
  decide +kernel

theorem strayMessage_blocks : readBlocks (pageErrors strayMessage (readPages strayMessage blockRead) []) blockRead.hidden blockRead.sqe.vol
    blockRead.sqe.version ((List.range blockRead.sqe.blocks).map (fun i => blockRead.sqe.lba + i)) = ([zeroBlock], strayMessage) := by
  obtain ⟨-, -, -, -, hplace⟩ := strayMessage_reads
  show readBlocks strayMessage [] 2 0 [100] = _
  rw [readBlocks, hplace]
  rfl

/-- The READ has nothing rebuilt, and yet the counter of rebuilt members changes. -/
theorem read_setsStrayBit : strayMessage.rd R.TPZ_CNT_RECONSTRUCTED = 0#32 ∧
    (read 1 [] strayMessage).rd R.TPZ_CNT_RECONSTRUCTED = 1#32 := by decide +kernel

/-- Refutes O46: a READ for which no member was rebuilt counts none in TPZ_CNT_RECONSTRUCTED, but what the endpoint sends along with its data sets a
bit there, in a state in which a message of a vector past the MSI-X table waits. -/
theorem not_readsWritesAndFlushes : ¬ Obligations.ReadsWritesAndFlushes := by
  intro h
  obtain ⟨hlive, hrun, hheld, hcmd, -⟩ := strayMessage_reads
  obtain ⟨-, -, -, -, -, -, -, -, hread, -⟩ := h strayMessage 1 hlive
  obtain ⟨-, hserved, -⟩ := hread blockRead [] hrun
  have hready : BlockSrc.wait ∉ [zeroBlock] := fun hw => nomatch List.mem_singleton.mp hw
  obtain ⟨t, ht, hcounted, -⟩ := (hserved hheld [zeroBlock] strayMessage strayMessage_blocks).2 hready hcmd
  have hexec : exec (.read 1 []) strayMessage = .next (read 1 [] strayMessage) := answer_live _ hlive
  obtain rfl : read 1 [] strayMessage = t := Host.Outcome.next.inj (hexec.symm.trans ht)
  obtain ⟨hbefore, hafter⟩ := read_setsStrayBit
  unfold Counted at hcounted
  rw [hbefore, hafter] at hcounted
  exact absurd hcounted (by decide)

end Sys2Proof.Machine

/-!
PROOF. O22: the commands of a Jasper capture (R213, R214). First several fields of one register set in turn, then one rule per command, then the
obligation.
-/

namespace Sys2Proof.Machine

/-! Several fields of a register, set in turn. -/

theorem BitsBut.trans {s t u : State} {a : Nat} {l l' : List FRef} (h : BitsBut s t a l) (h' : BitsBut t u a l') : BitsBut s u a (l ++ l') :=
  fun f ha hf hbits => (h' f ha hf fun g hg => hbits g (List.mem_append_right l hg)).trans
    (h f ha hf fun g hg => hbits g (List.mem_append_left l' hg))

theorem bitsBut_us (s : State) (a : Nat) (fs : List (FRef × Nat)) : BitsBut s (s.us fs) a (fs.map Prod.fst) := by
  induction fs generalizing s with
  | nil => exact fun _ _ _ _ => rfl
  | cons p fs ih =>
    have hfirst : BitsBut s (s.u p.1 p.2) a [p.1] :=
      fun f _ hf hbits => s.g_u_bits p.1 f p.2 (hbits p.1 (List.mem_singleton_self _)).symm hf
    exact hfirst.trans (ih (s.u p.1 p.2))

/-- Setting fields of one register changes no bit of it outside them, and nothing else. -/
theorem onlyFields_us (s : State) {a : Nat} {fs : List (FRef × Nat)} (h : ∀ p ∈ fs, p.1.addr = a) : OnlyFields s (s.us fs) a (fs.map Prod.fst) := by
  obtain ⟨honly, hregs⟩ := us_onlyRegs s fs
  refine ⟨⟨honly, hregs.mono fun b hb => ?_⟩, bitsBut_us s a fs⟩
  obtain ⟨p, hp, rfl⟩ := List.mem_map.mp hb
  exact List.mem_singleton.mpr (h p hp)

/-! What the commands do to JSP_STATUS (R214). -/

/-- A capture is armed, and has neither triggered nor wrapped. -/
def captureBegun (s : State) : State := s.us [(R.JSP_STATUS_ARMED, 1), (R.JSP_STATUS_TRIGGERED, 0), (R.JSP_STATUS_WRAPPED, 0)]

theorem captureBegun_only (s : State) :
    OnlyFields s (captureBegun s) R.JSP_STATUS [R.JSP_STATUS_ARMED, R.JSP_STATUS_TRIGGERED, R.JSP_STATUS_WRAPPED] :=
  onlyFields_us s (by decide)

theorem captureBegun_shows (s : State) : (captureBegun s).on R.JSP_STATUS_ARMED = true ∧ (captureBegun s).on R.JSP_STATUS_TRIGGERED = false ∧
    (captureBegun s).on R.JSP_STATUS_WRAPPED = false := by
  simp only [captureBegun, State.us_cons, State.us_nil]
  refine ⟨?_, ?_, State.on_u_self _ (by decide) false⟩
  · rw [State.on_u_bits _ _ (by decide) (by decide), State.on_u_bits _ _ (by decide) (by decide)]
    exact State.on_u_self s (by decide) true
  · rw [State.on_u_bits _ _ (by decide) (by decide)]
    exact State.on_u_self _ (by decide) false

/-- A channel's register is not JSP_STATUS, so ARM copies it as it stood. -/
theorem captureBegun_channel (s : State) (c : Nat) : (captureBegun s).rd (R.JSP_CH c) = s.rd (R.JSP_CH c) := by
  obtain ⟨⟨-, hregs⟩, -⟩ := captureBegun_only s
  refine hregs _ (List.mem_singleton.not.mpr ?_)
  simp only [R.JSP_CH, R.JSP_STATUS]
  omega

/-- The end of a capture. -/
theorem jspCaptureDone_ends {s : State} (harmed : s.on R.JSP_STATUS_ARMED = true) (htrig : s.on R.JSP_STATUS_TRIGGERED = true)
    (hleft : s.jsp.left = 0) : jspCaptureDone s = s.us [(R.JSP_STATUS_DONE, 1), (R.JSP_STATUS_ARMED, 0)] :=
  if_pos ⟨harmed, htrig, hleft⟩

/-- Settles O22: each clause is read off the rule of its command. -/
theorem jasperCapture : Obligations.JasperCapture := by
  intro s hs
  refine ⟨does_of_answer hs rfl ?arm, does_of_answer hs rfl ?disarm, does_of_answer hs rfl ?force,
    fun harmed htrig hleft => does_of_answer hs rfl ?done⟩
  case arm =>
    obtain ⟨⟨honly, hregs⟩, hbits⟩ := captureBegun_only s
    obtain ⟨harmed, htrig, hwrapped⟩ := captureBegun_shows s
    have hdone : (captureBegun s).on R.JSP_STATUS_DONE = s.on R.JSP_STATUS_DONE :=
      congrArg (· == 1) (hbits R.JSP_STATUS_DONE rfl (by decide) (by decide))
    refine ⟨harmed, htrig, hwrapped, hregs _ (by decide), hregs _ (by decide), hregs _ (by decide), fun c => ?_, rfl, ?_, hregs, hdone, ?_⟩
    · exact (Vector.getElem_ofFn c.isLt).trans (captureBegun_channel s c)
    · exact congrArg (fun t => t.jsp.mem) honly
    · rfl
  case disarm => exact ⟨State.on_u_self s (by decide) false, onlyFields_u s R.JSP_STATUS_ARMED 0⟩
  case force =>
    refine ⟨fun hoff => if_neg ?_, fun harmed htrig => if_pos ?_⟩
    · simp [hoff]
    · simp [harmed, htrig]
  case done =>
    rw [jspCaptureDone_ends harmed htrig hleft]
    have honly : OnlyFields s (s.us [(R.JSP_STATUS_DONE, 1), (R.JSP_STATUS_ARMED, 0)]) R.JSP_STATUS [R.JSP_STATUS_DONE, R.JSP_STATUS_ARMED] :=
      onlyFields_us s (by decide)
    refine ⟨?_, State.on_u_self _ (by decide) false, honly⟩
    rw [State.us_cons, State.us_cons, State.us_nil, State.on_u_bits _ _ (by decide) (by decide)]
    exact State.on_u_self s (by decide) true

end Sys2Proof.Machine

/-!
PROOF. O17: what the sequencer refuses, and STOP (R201). First which commands are refused, then a layer jump that stays, then the obligation.
-/

namespace Sys2Proof.Machine

/-! Which commands are refused (R201). -/

section
variable {s : State} {n : Fin 8} {cmd : Nat} {arg : Int}

/-- Any command but STOP is refused while a sequence runs or waits. -/
theorem seqCommand_busy (hcmd : cmd ≠ 4 ∧ cmd ≠ 0 ∧ cmd ≤ 6) (hbusy : seqSt s n ≠ sqIDLE ∧ seqSt s n ≠ sqSTOPPED) :
    seqCommand s n cmd arg = seqRefuse s n := by
  obtain ⟨hstop, hzero, hlast⟩ := hcmd
  have hknown : ¬ (cmd = 0 ∨ 6 < cmd) := by omega
  exact (if_neg hstop).trans ((if_neg hknown).trans (if_pos hbusy))

/-- A FOCUS_ACQ or a jump is refused while the spindle is not in CAV regulation. -/
theorem seqCommand_unregulated (hcmd : cmd = 1 ∨ cmd = 2 ∨ cmd = 3) (hreg : inReg s n = false) : seqCommand s n cmd arg = seqRefuse s n := by
  by_cases hbusy : seqSt s n ≠ sqIDLE ∧ seqSt s n ≠ sqSTOPPED
  · exact seqCommand_busy (by omega) hbusy
  · have hnot : cmd ≠ 4 ∧ ¬ (cmd = 0 ∨ 6 < cmd) ∧ cmd ≠ 5 ∧ cmd ≠ 6 := by omega
    simp only [seqCommand, hnot, hbusy, hreg, Bool.not_false, if_true, if_false]

/-- A TRACK_JUMP is refused for its number of tracks, or without both locks. -/
theorem seqCommand_trackJump_refused (hrefuse : arg = 0 ∨ arg < -64 ∨ 64 < arg ∨ s.on (R.BRL_STN_SEQ_STATUS_FLOCK n) = false ∨
    s.on (R.BRL_STN_SEQ_STATUS_TLOCK n) = false) : seqCommand s n 2 arg = seqRefuse s n := by
  by_cases hbusy : seqSt s n ≠ sqIDLE ∧ seqSt s n ≠ sqSTOPPED
  · exact seqCommand_busy (by decide) hbusy
  · cases hreg : inReg s n
    · exact seqCommand_unregulated (.inr (.inl rfl)) hreg
    · simp only [seqCommand, hbusy, hreg, Nat.reduceEqDiff, Nat.reduceLT, or_self, Bool.not_true, Bool.false_eq_true, Bool.not_eq_true',
        if_true, if_false]
      exact if_pos hrefuse

/-- A LAYER_JUMP is refused without focus lock. -/
theorem seqCommand_layerJump_unlocked (hflock : s.on (R.BRL_STN_SEQ_STATUS_FLOCK n) = false) : seqCommand s n 3 arg = seqRefuse s n := by
  by_cases hbusy : seqSt s n ≠ sqIDLE ∧ seqSt s n ≠ sqSTOPPED
  · exact seqCommand_busy (by decide) hbusy
  · cases hreg : inReg s n
    · exact seqCommand_unregulated (.inr (.inr rfl)) hreg
    · simp only [seqCommand, hbusy, hreg, hflock, Nat.reduceEqDiff, Nat.reduceLT, or_self, Bool.not_true, Bool.not_false, Bool.false_eq_true,
        true_or, if_true, if_false]

end

/-- What a refused command does: REFUSED is set, and nothing else changes. -/
theorem does_refused {i : Instr} {s : State} {n : Fin 8} {cmd : Nat} {arg : Int} (hs : s.live = true)
    (hi : exec i s = answer s fun s => seqCommand s n cmd arg) (h : seqCommand s n cmd arg = seqRefuse s n) :
    Does i s fun t => t.on (R.BRL_STN_SEQ_STATUS_REFUSED n) = true ∧
      OnlyFields s t (R.BRL_STN_SEQ_STATUS n) [R.BRL_STN_SEQ_STATUS_REFUSED n] := by
  refine does_of_answer hs hi ?_
  rw [h]
  exact ⟨State.on_u_self s ⟨Nat.le_of_ble_eq_true rfl, rfl⟩ true, onlyFields_u s (R.BRL_STN_SEQ_STATUS_REFUSED n) 1⟩

/-! A layer jump that stays (R201). -/

theorem seqCommand_layerJump_here {s : State} {n : Fin 8} {arg : Int} (hidle : seqSt s n = sqIDLE ∨ seqSt s n = sqSTOPPED)
    (hreg : s.on (R.SPN_STATUS_IN_REG n) = true) (hflock : s.on (R.BRL_STN_SEQ_STATUS_FLOCK n) = true)
    (hlayer : (s.g (R.BRL_STN_SEQ_STATUS_LAYER n) : Int) = arg) :
    seqCommand s n 3 arg = (commandTaken s n 3 arg).u (R.BRL_STN_SEQ_STATUS_DONE n) 1 := by
  have hlt : s.g (R.BRL_STN_SEQ_STATUS_LAYER n) < 16 := getF_lt _ _
  have hrange : ¬ (arg < 0 ∨ 15 < arg) := by omega
  subst hlayer
  simp only [seqCommand, inReg, not_busy_of_idle hidle, hreg, hflock, hrange, Nat.reduceEqDiff, Nat.reduceLT, Bool.not_true, Bool.false_eq_true,
    or_self, false_or, if_true, if_false]
  rfl

/-- A command that is taken and done at once changes LAST_CMD and DONE alone. -/
theorem commandDone_shows (s : State) (n : Fin 8) (cmd : Nat) (arg : Int) {t : State}
    (ht : (commandTaken s n cmd arg).u (R.BRL_STN_SEQ_STATUS_DONE n) 1 = t) :
    t.on (R.BRL_STN_SEQ_STATUS_DONE n) = true ∧ RegsBut s t [R.BRL_STN_SEQ_STATUS n] ∧ t.brl.loops = s.brl.loops ∧
      BitsBut s t (R.BRL_STN_SEQ_STATUS n) [R.BRL_STN_SEQ_STATUS_DONE n, R.BRL_STN_SEQ_STATUS_LAST_CMD n] := by
  subst ht
  have hdone : SeqStep (commandTaken s n cmd arg) _ [R.BRL_STN_SEQ_STATUS n] := seqStep_u _ (R.BRL_STN_SEQ_STATUS_DONE n) 1
  have hbits := bitsBut_us s (R.BRL_STN_SEQ_STATUS n) [(R.BRL_STN_SEQ_STATUS_LAST_CMD n, cmd), (R.BRL_STN_SEQ_STATUS_DONE n, 1)]
  refine ⟨State.on_u_self _ ⟨Nat.le_of_ble_eq_true rfl, rfl⟩ true, ((seqStep_commandTaken s n cmd arg).trans hdone).regs, rfl,
    fun f ha hf hout => hbits f ha hf fun g hg => hout g (by simpa [or_comm] using hg)⟩

/-- Settles O17: a command is refused by the rule that its condition names; STOP goes through its own. -/
theorem sequencerRefusals : Obligations.SequencerRefusals := by
  intro s n arg hs refused st
  refine ⟨fun hidle hstopped => ?busy, fun hreg => ?unregulated, fun htrack => ?track, fun hflock => ?layer, fun hidle hreg hflock hlayer => ?here,
    does_of_answer hs rfl ?stop⟩
  case busy =>
    have hbusy : seqSt s n ≠ sqIDLE ∧ seqSt s n ≠ sqSTOPPED := ⟨hidle, hstopped⟩
    exact ⟨does_refused hs rfl (seqCommand_busy (by decide) hbusy), does_refused hs rfl (seqCommand_busy (by decide) hbusy),
      does_refused hs rfl (seqCommand_busy (by decide) hbusy), does_refused hs rfl (seqCommand_busy (by decide) hbusy),
      does_refused hs rfl (seqCommand_busy (by decide) hbusy)⟩
  case unregulated =>
    exact ⟨does_refused hs rfl (seqCommand_unregulated (.inl rfl) hreg), does_refused hs rfl (seqCommand_unregulated (.inr (.inl rfl)) hreg),
      does_refused hs rfl (seqCommand_unregulated (.inr (.inr rfl)) hreg)⟩
  case track =>
    have hzero : arg = 0#8 → arg.toInt = 0 := fun h => congrArg BitVec.toInt h
    exact does_refused hs rfl (seqCommand_trackJump_refused (htrack.imp_left hzero))
  case layer => exact does_refused hs rfl (seqCommand_layerJump_unlocked hflock)
  case here =>
    refine does_of_answer hs rfl ?_
    rw [layerJump, seqCommand_layerJump_here hidle hreg hflock (congrArg Nat.cast hlayer)]
    exact commandDone_shows s n 3 _ rfl
  case stop =>
    rw [seqStop, seqCommand_stop]
    obtain ⟨hstate, -⟩ := seqStopNow_shows (commandTaken s n 4 0) n rfl
    exact hstate

end Sys2Proof.Machine

/-!
PROOF. O21: the laws of a loop's sample (R188, R190 to R192, R194). First what narrowing and noting leave alone, then the biquads, then the stages
of the compensator, then the output and the feed-forward, then the obligation.
-/

namespace Sys2Proof.Machine

/-! Narrowing a fraction and noting a saturation move no loop. -/

theorem quant_brl (s : State) (num den : Int) : (s.quant num den).2.brl = s.brl := by
  unfold State.quant
  split <;> rfl

theorem nearest_brl (s : State) (num den : Int) : (s.nearest num den).2.brl = s.brl := by
  unfold State.nearest
  extract_lets twice
  split <;> rfl

theorem noteSat_brl (s : State) (k : Nat) (c : Bool) : (noteSat s k c).brl = s.brl := by cases c <;> rfl

theorem regsBut_noteSat (s : State) (k : Nat) (c : Bool) : RegsBut s (noteSat s k c) [R.BRL_SLOT_STATUS k] := by
  cases c
  · exact RegsBut.of_regs rfl _
  · exact regsBut_u s (R.BRL_SLOT_STATUS_SAT k) 1

/-- The loop of a slot after an update of it that follows what moves no loop. -/
theorem loop_loopU_of_brl {s u : State} (h : u.brl = s.brl) (k : Fin 96) (f : Loop → Loop) : (u.loopU k f).brl.loops[k] = f s.brl.loops[k] :=
  (State.loop_loopU_self u k f).trans (congrArg (fun b : Brl => f b.loops[k]) h)

/-! The biquads (R191). -/

/-- A disabled biquad passes its input, and its states are zero. -/
theorem biquad_disabled {s : State} {k : Fin 96} {q : Fin 5} (h : bitOf (s.g (R.BRL_SLOT_CFG_BQ_EN k)) q.val = 0) (v : Int) :
    biquad s k q v = (v, s.loopU k fun l => { l with bq := vmod l.bq q fun _ => ⟨0, 0, 0, 0⟩ }) := if_pos h

/-- What a biquad's accumulator is rounded to: a free value where it exceeds 48 bits. -/
def biquadSum (s : State) (acc : Int) : Int × State :=
  if acc < -2 ^ 47 ∨ 2 ^ 47 ≤ acc then (toSigned 24 (s.freeVal % 2 ^ 24), s.tick) else s.nearest acc (2 ^ 21)

theorem biquadSum_brl (s : State) (acc : Int) : (biquadSum s acc).2.brl = s.brl := by
  unfold biquadSum
  split
  · rfl
  · exact nearest_brl s acc _

theorem biquad_enabled {s : State} {k : Fin 96} {q : Fin 5} (h : bitOf (s.g (R.BRL_SLOT_CFG_BQ_EN k)) q.val ≠ 0) (v : Int) :
    ∃ acc out c, biquad s k q v = (out, (noteSat (biquadSum s acc).2 k c).loopU k fun l =>
      { l with bq := vmod l.bq q fun z => ⟨v, z.x1, out, z.y1⟩ }) := ⟨_, _, _, if_neg h⟩

/-- A biquad leaves the integrator of its slot alone. -/
theorem biquad_integ (s : State) (k : Fin 96) (q : Fin 5) (v : Int) : (biquad s k q v).2.brl.loops[k].integ = s.brl.loops[k].integ := by
  by_cases h : bitOf (s.g (R.BRL_SLOT_CFG_BQ_EN k)) q.val = 0
  · rw [biquad_disabled h, State.loop_loopU_self]
  · obtain ⟨acc, out, c, hb⟩ := biquad_enabled h v
    rw [hb, loop_loopU_of_brl ((noteSat_brl _ k c).trans (biquadSum_brl s acc))]

/-- The five biquads of a slot, one after the other. -/
def biquads (s : State) (k : Fin 96) (v : Int) : Int × State :=
  let (v, s) := biquad s k 0 v
  let (v, s) := biquad s k 1 v
  let (v, s) := biquad s k 2 v
  let (v, s) := biquad s k 3 v
  biquad s k 4 v

theorem biquads_integ (s : State) (k : Fin 96) (v : Int) : (biquads s k v).2.brl.loops[k].integ = s.brl.loops[k].integ := by
  simp only [biquads, biquad_integ]

/-! The stages of the compensator (R188, R190, R192). -/

/-- The gain stage. -/
def gained (s : State) (k : Fin 96) (b : Nat) (e : Int) : Int × State :=
  let (g0, s) := s.quant (s.gi (R.BRL_BANK_GAIN_GAIN b k) * e * 2 ^ (s.gi (R.BRL_BANK_GAIN_GAIN_EXP b k) + 8).toNat) (2 ^ 30)
  (sat24 g0, noteSat s k (sat24 g0 != g0))

/-- The limit of the integrator in a bank, in the integrator's units (R188). -/
def integLimit (s : State) (k : Fin 96) (b : Nat) : Int := s.gi (R.BRL_BANK_ILIM_VALUE b k) * 128

/-- The integrator of a loop is kept: the loop is frozen, or its output is saturated the way the input goes (R192). -/
def integKept (l : Loop) (g : Int) (frozen : Bool) : Bool := frozen || (l.satHi && decide (0 < g)) || (l.satLo && decide (g < 0))

/-- What the integrator of a loop becomes: it is kept, or moved, within its limit. -/
def integNext (s : State) (k : Fin 96) (b : Nat) (l : Loop) (g : Int) (frozen : Bool) : Int × State :=
  let lim := integLimit s k b
  if integKept l g frozen then (clampI (-lim) lim l.integ, s)
  else
    let (d, s) := s.quant (s.gi (R.BRL_BANK_KI_VALUE b k) * g) (2 ^ 16)
    (clampI (-lim) lim (l.integ + d), s)

/-- The integrator takes a value, and I_CLAMP shows whether it is at its limit. -/
def integSet (s : State) (k : Fin 96) (lim i : Int) : State :=
  (s.whenB (decide (i = lim ∨ i = -lim)) fun s => s.u (R.BRL_SLOT_STATUS_I_CLAMP k) 1).loopU k fun l => { l with integ := i }

/-- Gain and integrator are added, and go through the biquads. -/
def summed (s : State) (k : Fin 96) (g i : Int) : Int × State :=
  let (v0, s) := s.quant (g * 128 + i) 128
  biquads (noteSat s k (sat24 v0 != v0)) k (sat24 v0)

/-- The compensator, stage by stage. -/
theorem compensate_eq (s : State) (k : Fin 96) (e : Int) (frozen : Bool) : compensate s k e frozen =
    match gained s k (bankOf s k) e with
    | (g, u) => match integNext u k (bankOf s k) s.brl.loops[k] g frozen with
      | (i, v) => summed (integSet v k (integLimit u k (bankOf s k)) i) k g i := by
  unfold compensate gained integNext
  rfl

/-- The gain stage changes no limit. -/
theorem gained_limit (s : State) (k : Fin 96) (b : Nat) (e : Int) : integLimit (gained s k b e).2 k b = integLimit s k b := by
  have hregs : RegsBut s (gained s k b e).2 [R.BRL_SLOT_STATUS k] := (RegsBut.of_regs (quant_regs s _ _) _).andThen (regsBut_noteSat _ _ _)
  have hne : R.BRL_BANK_ILIM b k ∉ [R.BRL_SLOT_STATUS k] := by
    simp only [List.mem_singleton, R.BRL_BANK_ILIM, R.BRL_SLOT_STATUS]
    omega
  exact congrArg (fun v => toSigned 24 v * 128) (hregs.g hne)

/-- The next integrator lies d away, within the limit; that of a frozen loop is not moved. -/
theorem integNext_clamped (s : State) (k : Fin 96) (b : Nat) (l : Loop) (g : Int) (frozen : Bool) :
    ∃ d, (integNext s k b l g frozen).1 = clampI (-integLimit s k b) (integLimit s k b) (l.integ + d) ∧ (frozen = true → d = 0) := by
  unfold integNext
  extract_lets lim
  split
  · exact ⟨0, by rw [Int.add_zero], fun _ => rfl⟩
  next hmoved =>
    refine ⟨_, rfl, fun hfrozen => absurd ?_ hmoved⟩
    simp [integKept, hfrozen]

/-- The stages after the integrator leave it as it was set. -/
theorem summed_integ (s : State) (k : Fin 96) (lim g i : Int) : (summed (integSet s k lim i) k g i).2.brl.loops[k].integ = i := by
  simp only [summed, biquads_integ, noteSat_brl, quant_brl]
  exact congrArg Loop.integ (State.loop_loopU_self _ k _)

/-- What the compensator does to the integrator of its slot. -/
theorem compensate_integ (s : State) (k : Fin 96) (e : Int) (frozen : Bool) :
    ∃ d, (compensate s k e frozen).2.brl.loops[k].integ =
      clampI (-integLimit s k (bankOf s k)) (integLimit s k (bankOf s k)) (s.brl.loops[k].integ + d) ∧ (frozen = true → d = 0) := by
  rw [compensate_eq, ← gained_limit s k (bankOf s k) e]
  obtain ⟨d, hnext, hkept⟩ := integNext_clamped (gained s k (bankOf s k) e).2 k (bankOf s k) s.brl.loops[k] (gained s k (bankOf s k) e).1 frozen
  exact ⟨d, (summed_integ _ k _ _ _).trans hnext, hkept⟩

/-! The output and the feed-forward (R190, R194). -/

theorem clampI_within {lo hi v : Int} (hlo : lo ≤ v) (hhi : v ≤ hi) : clampI lo hi v = v := by
  rw [clampI, if_neg (Int.not_lt.mpr hlo), if_neg (Int.not_lt.mpr hhi)]

theorem ffOf_invalid {s : State} {n : Nat} (h : s.on (R.SPN_STATUS_ANGLE_VALID n) = false) (t : Nat) : ffOf s n t = (0, s) := by
  rw [ffOf, h]
  rfl

/-- The output of a running slot lies within OUTMIN and OUTMAX (R190, R217). -/
theorem clampOut_bounds {s : State} {k : Fin 96} (h : outMin s k ≤ outMax s k) (v ff : Int) :
    outMin s k ≤ (clampOut s k v ff).1 ∧ (clampOut s k v ff).1 ≤ outMax s k := clampI_bounds h _

/-- Settles O21: each law is that of the stage it speaks of. -/
theorem berylSampleLaws : Obligations.BerylSampleLaws := by
  intro s k v ff e frozen
  refine ⟨fun hbounds => clampOut_bounds hbounds v ff, ?integrator, fun q hq => ?biquad, fun n t hangle => congrArg Prod.fst (ffOf_invalid hangle t)⟩
  case integrator =>
    intro lim hlim
    obtain ⟨d, hinteg, hkept⟩ := compensate_integ s k e frozen
    obtain ⟨hlo, hhi⟩ := clampI_bounds (lo := -lim) (hi := lim) (by omega) (s.brl.loops[k].integ + d)
    rw [hinteg]
    refine ⟨hlo, hhi, fun hfrozen hmin hmax => ?_⟩
    rw [hkept hfrozen, Int.add_zero]
    exact clampI_within hmin hmax
  case biquad =>
    rw [biquad_disabled hq, State.loop_loopU_self]
    exact ⟨rfl, vmod_self _ _ _⟩

end Sys2Proof.Machine

/-!
PROOF. O19: focus and tracking lock, the servo hold, and a tick in which no slot runs (R182, R184, R197 to R199, R207, R210, R279). First what
setting a field of SEQ_STATUS leaves alone, then how a lock is gained, how focus opens and how tracking lock is lost, then the tick, then the
obligation.
-/

namespace Sys2Proof.Machine

/-! What setting a field of SEQ_STATUS leaves alone. -/

theorem seqStatus_ne_time (n : Fin 8) : R.QTZ_TIME_LO ∉ [R.BRL_STN_SEQ_STATUS n] ∧ R.QTZ_TIME_LO + 4 ∉ [R.BRL_STN_SEQ_STATUS n] := by
  simp only [List.mem_singleton, R.QTZ_TIME_LO, R.BRL_STN_SEQ_STATUS]
  omega

theorem seqSt_u_above (s : State) (n : Nat) {f : FRef} (hf : 4 ≤ f.lo) (v : Nat) : seqSt (s.u f v) n = seqSt s n :=
  s.g_u_bits f (R.BRL_STN_SEQ_STATUS_STATE n) v (.inr hf) (Nat.le_of_ble_eq_true rfl)

theorem stSt_u_seqStatus (s : State) (n : Fin 8) {f : FRef} (hf : f.addr = R.BRL_STN_SEQ_STATUS n) (v : Nat) : stSt (s.u f v) n = stSt s n :=
  (regsBut_u s f v).g (hf ▸ seqStatus_ne_stnStatus n)

theorem now_u_seqStatus (s : State) (n : Fin 8) {f : FRef} (hf : f.addr = R.BRL_STN_SEQ_STATUS n) (v : Nat) : (s.u f v).now = s.now :=
  (regsBut_u s f v).now (hf ▸ seqStatus_ne_time n)

theorem stamp_u_seqStatus (s : State) (n : Fin 8) {f : FRef} (hf : f.addr = R.BRL_STN_SEQ_STATUS n) (v : Nat) (d : Fin 15) :
    (s.u f v).stamp d = s.stamp d := by
  rw [State.stamp, State.stamp, now_u_seqStatus s n hf v]
  rfl

/-! A lock is gained (R197). -/

/-- The settle time of a sequence begins where it has waited for a lock. -/
def settleBegins (s : State) (n : Fin 8) (st : Nat) : State := if seqSt s n = st ∧ (s.sq n).sub = 0 then seqPart s n 1 else s

theorem settleBegins_loops (s : State) (n : Fin 8) (st : Nat) : (settleBegins s n st).brl.loops = s.brl.loops := by
  unfold settleBegins
  split <;> rfl

theorem loopStep_settleBegins (s : State) (n : Fin 8) (st : Nat) : LoopStep s (settleBegins s n st) := by
  unfold settleBegins
  split
  · exact loopStep_seqU s n _
  · exact LoopStep.refl s

/-- A mount begins to wait for an address (R279). -/
def addressAwaited (s : State) (n : Fin 8) : State :=
  s.whenB (stSt s n == stLOADING || stSt s n == stMOUNTING) fun s => s.stnU n fun x => { x with since := s.now }

theorem focusGained_gains {s : State} {n : Fin 8} (hflock : s.on (R.BRL_STN_SEQ_STATUS_FLOCK n) = false) (hclosed : loopClosed s n tyFOCUS = true)
    (hgood : 64 ≤ s.brl.seq[n].fGood) :
    focusGained n s = settleBegins (addressAwaited (s.u (R.BRL_STN_SEQ_STATUS_FLOCK n) 1) n) n sqFOCUS_SETTLE := by
  refine if_neg ?_
  simp only [hflock, hclosed, State.sq, Bool.not_true, Bool.false_eq_true, false_or]
  omega

/-- No settle time begins where the sequencer does not wait for a lock. -/
theorem settleBegins_elsewhere {s : State} {n : Fin 8} {st : Nat} (h : seqSt s n ≠ st) : settleBegins s n st = s := if_neg fun hc => h hc.1

theorem trackGained_gains {s : State} {n : Fin 8} (htlock : s.on (R.BRL_STN_SEQ_STATUS_TLOCK n) = false)
    (hflock : s.on (R.BRL_STN_SEQ_STATUS_FLOCK n) = true) (hclosed : loopClosed s n tyTRACK = true) (hgood : 64 ≤ s.brl.seq[n].tGood)
    (hst : seqSt s n ≠ sqTRACK_SETTLE) : trackGained n s = stnRun (s.u (R.BRL_STN_SEQ_STATUS_TLOCK n) 1) n := by
  have hstate := seqSt_u_above s n (f := R.BRL_STN_SEQ_STATUS_TLOCK n) (Nat.le_of_ble_eq_true rfl) 1
  have hgains : trackGained n s = stnRun (settleBegins (s.u (R.BRL_STN_SEQ_STATUS_TLOCK n) 1) n sqTRACK_SETTLE) n := by
    refine if_neg ?_
    simp only [htlock, hflock, hclosed, State.sq, Bool.not_true, Bool.false_eq_true, false_or]
    omega
  rw [hgains, settleBegins_elsewhere (by rwa [hstate])]

/-- What focus lock gained shows, and what it may change: the sequencer's part, and since when a mount waits. -/
theorem focusGained_shows (s : State) (n : Fin 8) {t : State}
    (ht : settleBegins (addressAwaited (s.u (R.BRL_STN_SEQ_STATUS_FLOCK n) 1) n) n sqFOCUS_SETTLE = t) :
    t.on (R.BRL_STN_SEQ_STATUS_FLOCK n) = true ∧
      OnlyFields s { t with brl := s.brl, stn := s.stn } (R.BRL_STN_SEQ_STATUS n) [R.BRL_STN_SEQ_STATUS_FLOCK n] ∧
      t.brl.loops = s.brl.loops ∧ t.stn = (addressAwaited (s.u (R.BRL_STN_SEQ_STATUS_FLOCK n) 1) n).stn := by
  have hon := State.on_u_self s (f := R.BRL_STN_SEQ_STATUS_FLOCK n) ⟨Nat.le_of_ble_eq_true rfl, rfl⟩ true
  have hmount : ∃ x, addressAwaited (s.u (R.BRL_STN_SEQ_STATUS_FLOCK n) 1) n = { s.u (R.BRL_STN_SEQ_STATUS_FLOCK n) 1 with stn := x } := by
    unfold addressAwaited State.whenB
    split <;> exact ⟨_, rfl⟩
  obtain ⟨x, hx⟩ := hmount
  have hloops := settleBegins_loops (addressAwaited (s.u (R.BRL_STN_SEQ_STATUS_FLOCK n) 1) n) n sqFOCUS_SETTLE
  obtain ⟨b, hb⟩ := loopStep_settleBegins (addressAwaited (s.u (R.BRL_STN_SEQ_STATUS_FLOCK n) 1) n) n sqFOCUS_SETTLE
  rw [ht] at hb hloops
  rw [hx] at hb hloops ⊢
  subst hb
  exact ⟨hon, onlyFields_u s (R.BRL_STN_SEQ_STATUS_FLOCK n) 1, hloops, rfl⟩

theorem addressAwaited_other {s : State} {n : Fin 8} (hloading : stSt s n ≠ stLOADING) (hmounting : stSt s n ≠ stMOUNTING) :
    addressAwaited s n = s := by
  simp only [addressAwaited, beq_eq_false_iff_ne.mpr hloading, beq_eq_false_iff_ne.mpr hmounting, Bool.or_self, State.whenB_false]

theorem addressAwaited_mount {s : State} {n : Fin 8} (h : stSt s n = stLOADING ∨ stSt s n = stMOUNTING) :
    addressAwaited s n = s.stnU n fun x => { x with since := s.now } := by
  have hmount : (stSt s n == stLOADING || stSt s n == stMOUNTING) = true := by simpa using h
  rw [addressAwaited, hmount, State.whenB_true]

/-- A station with no task under way goes on with none. -/
theorem stnRun_idle {s : State} {n : Fin 8} (h : s.stn[n].task = .none) : stnRun s n = s := by
  have hadvance : stnAdvance s n = s := if_pos (by rw [h]; decide)
  simp only [stnRun, hadvance]

/-! Focus opens (R198, R207). -/

/-- What the loss of focus lock leaves on a station that does not recover by itself. -/
structure FocusOpened (s t : State) (n : Fin 8) : Prop where
  flock : t.on (R.BRL_STN_SEQ_STATUS_FLOCK n) = false
  tlock : t.on (R.BRL_STN_SEQ_STATUS_TLOCK n) = false
  logged : Logged s t 0x105 n [0, seqSt s n] 0
  regs : RegsBut s t [R.BRL_STN_SEQ_STATUS n]
  only : ∃ r b e, t = { s with regs := r, brl := b, evl := e }
  ramps : ∀ k, slotFor s n tyFOCUS = some k → ∃ b, t.brl.loops[k].drive = .ramp (outOf s k) b 0 400

theorem FocusOpened.eq {s t : State} {n : Fin 8} (h : FocusOpened s t n) : t = { s with regs := t.regs, brl := t.brl, evl := t.evl } := by
  obtain ⟨_, _, _, rfl⟩ := h.only
  rfl

theorem rampDown_ramps {s : State} {n : Nat} {k : Fin 96} (h : slotFor s n tyFOCUS = some k) :
    (rampDown s n).brl.loops[k].drive = .ramp (outOf s k) (outMin s k) 0 400 := by
  rw [rampDown, h]
  exact congrArg Loop.drive (State.loop_loopU_self s k _)

theorem LoopStep.outOf {s t : State} (h : LoopStep s t) (k : Fin 96) : outOf t k = outOf s k := by
  obtain ⟨_, rfl⟩ := h
  rfl

theorem logLockLost_logged (s : State) (n which : Nat) : Logged s (logLockLost s n which) 0x105 n [which, seqSt s n] 0 := rfl

/-- LOCK_LOST is logged, and then nothing but Beryl's loops and sequencers has changed. -/
theorem LoopStep.logged {s u : State} {n which : Nat} (h : LoopStep (logLockLost s n which) u) :
    Logged s u 0x105 n [which, seqSt s n] 0 ∧ ∃ b e, u = { s with brl := b, evl := e } := by
  obtain ⟨b, rfl⟩ := h
  exact ⟨logLockLost_logged s n which, b, _, rfl⟩

theorem locksOff_seqSt (s : State) (n : Nat) : seqSt (locksOff s n) n = seqSt s n := by
  rw [locksOff, State.us_cons, State.us_cons, State.us_nil, seqSt_u_above _ n (Nat.le_of_ble_eq_true rfl),
    seqSt_u_above _ n (Nat.le_of_ble_eq_true rfl)]

/-- Before the locks read 0, LOCK_LOST is logged and the focus output begins its ramp. -/
theorem focusOpens_before (s : State) (n : Fin 8) : ∃ u, focusOpens s n = locksOff u n ∧ LoopStep (logLockLost s n 0) u ∧
    ∀ k, slotFor s n tyFOCUS = some k → ∃ b, u.brl.loops[k].drive = .ramp (outOf s k) b 0 400 := by
  have hv : ∃ v f, focusOpens s n = locksOff ((rampDown v n).seqU n f) n ∧ LoopStep (logLockLost s n 0) v :=
    ⟨_, _, rfl, (LoopStep.each (fun s t => loopStep_releaseLoop s n t) _ _).trans (LoopStep.each (fun s t => loopStep_holdLoop s n t) _ _)⟩
  obtain ⟨v, f, heq, hv⟩ := hv
  refine ⟨_, heq, (hv.trans (loopStep_rampDown v n)).trans (loopStep_seqU _ n f), fun k hk => ⟨outMin v k, ?_⟩⟩
  have hslot : slotFor v n tyFOCUS = some k := (hv.slotFor n tyFOCUS).trans hk
  have hout : outOf v k = outOf s k := hv.outOf k
  rw [← hout]
  exact rampDown_ramps hslot

theorem focusOpens_opened (s : State) (n : Fin 8) : FocusOpened s (focusOpens s n) n ∧ seqSt (focusOpens s n) n = seqSt s n := by
  obtain ⟨u, heq, hu, hramps⟩ := focusOpens_before s n
  obtain ⟨hlogged, b, e, rfl⟩ := hu.logged
  obtain ⟨hflock, htlock⟩ := locksOff_off { s with brl := b, evl := e } n
  have hlocks : OnlyRegs { s with brl := b, evl := e } (locksOff { s with brl := b, evl := e } n)
    [R.BRL_STN_SEQ_STATUS n, R.BRL_STN_SEQ_STATUS n] := us_onlyRegs _ _
  rw [heq]
  refine ⟨⟨hflock, htlock, hlogged, hlocks.2.mono (by simp), ?_, hramps⟩, locksOff_seqSt _ n⟩
  exact ⟨_, b, e, hlocks.1⟩

/-- So it does where the sequence that runs fails besides: FAILED is set, and the sequencer is IDLE (R207). -/
theorem FocusOpened.fails {s t : State} {n : Fin 8} (h : FocusOpened s t n) :
    FocusOpened s (seqEnter (t.u (R.BRL_STN_SEQ_STATUS_FAILED n) 1) n sqIDLE 0) n := by
  have hkeeps {f : FRef} (hlo : 4 ≤ f.lo) (hhi : f.lo + f.w ≤ 13) : (seqEnter (t.u (R.BRL_STN_SEQ_STATUS_FAILED n) 1) n sqIDLE 0).on f = t.on f :=
    (congrArg (· == 1) (seqEnter_keeps _ n sqIDLE 0 hlo (by omega))).trans (State.on_u_bits t 1 (.inr hhi) (by omega))
  have hregs := ((seqStep_u t (R.BRL_STN_SEQ_STATUS_FAILED n) 1).trans (seqStep_seqEnter _ n sqIDLE 0)).regs
  have hloops : (seqEnter (t.u (R.BRL_STN_SEQ_STATUS_FAILED n) 1) n sqIDLE 0).brl.loops = t.brl.loops := seqEnter_loops _ n sqIDLE 0
  refine ⟨(hkeeps (Nat.le_of_ble_eq_true rfl) (Nat.le_of_ble_eq_true rfl)).trans h.flock,
    (hkeeps (Nat.le_of_ble_eq_true rfl) (Nat.le_of_ble_eq_true rfl)).trans h.tlock, ?_, h.regs.andThen hregs, ?_, fun k hk => ?_⟩
  · rw [seqEnter_busy (.inr rfl)]
    exact h.logged
  · rw [seqEnter_busy (.inr rfl)]
    obtain ⟨_, _, _, rfl⟩ := h.only
    exact ⟨_, _, _, rfl⟩
  · rw [hloops]
    exact h.ramps k hk

theorem seqFails_opened (s : State) (n : Fin 8) : FocusOpened s (seqFails s n) n := (focusOpens_opened s n).1.fails

/-- What the loss of focus lock does to the sequencer: a sequence that runs fails (R198, R207). -/
def focusDrops (s : State) (n : Fin 8) : State := if seqBusy s n then seqFails s n else focusOpens s n

theorem focusLost_eq (s : State) (n : Fin 8) : focusLost s n = disturbance (focusDrops s n) n 0 := rfl

theorem focusDrops_opened (s : State) (n : Fin 8) : FocusOpened s (focusDrops s n) n := by
  unfold focusDrops
  split
  · exact seqFails_opened s n
  · exact (focusOpens_opened s n).1

theorem focusDrops_running {s : State} {n : Fin 8} (hidle : seqSt s n ≠ 0) (hstopped : seqSt s n ≠ 10) : focusDrops s n = seqFails s n :=
  if_pos (by simp [seqBusy, sqIDLE, sqSTOPPED, hidle, hstopped])

theorem focusDrops_resting {s : State} {n : Fin 8} (h : seqSt s n = 0 ∨ seqSt s n = 10) : focusDrops s n = focusOpens s n :=
  if_neg (by rcases h with h | h <;> simp [seqBusy, sqIDLE, sqSTOPPED, h])

theorem focusLost_quiet {s : State} {n : Fin 8} (hactive : stSt s n ≠ stACTIVE) (hmounting : stSt s n ≠ stMOUNTING)
    (htask : s.stn[n].task = .none) : focusLost s n = focusDrops s n := by
  have hopened := focusDrops_opened s n
  have hstation : stSt (focusDrops s n) n = stSt s n := hopened.regs.g (seqStatus_ne_stnStatus n)
  have hstn : (focusDrops s n).stn = s.stn := by rw [hopened.eq]
  rw [focusLost_eq]
  exact disturbance_quiet (by rwa [hstation]) (by rwa [hstation]) (by rw [hstn, htask]; decide) 0

theorem focusLockLost_loses {s : State} {n : Fin 8} (hflock : s.on (R.BRL_STN_SEQ_STATUS_FLOCK n) = true) (hbad : 16 ≤ s.brl.seq[n].fBad) :
    focusLockLost n s = focusLost s n := (if_neg (Nat.not_lt.mpr hbad)).trans (if_pos hflock)

theorem servoHoldExpiry_held {s : State} {n : Fin 8} {h : Nat} (hheld : s.brl.seq[n].held = some h) :
    servoHoldExpiry n s = if h ≤ s.g (R.BRL_STN_FOK_HOLD_MAX n) then s else focusLost s n := by
  rw [servoHoldExpiry, State.sq, hheld]

/-! Tracking lock is lost (R199). -/

/-- Tracking lock reads 0, LOCK_LOST is logged, and the wait for tracking lock begins anew. -/
def trackDrops (s : State) (n : Fin 8) : State :=
  seqPart ((logLockLost (s.u (R.BRL_STN_SEQ_STATUS_TLOCK n) 0) n 1).seqU n fun q => { q with tGood := 0 }) n 0

theorem trackLost_settling {s : State} {n : Fin 8} (htlock : s.on (R.BRL_STN_SEQ_STATUS_TLOCK n) = true) (hbad : 8 ≤ s.brl.seq[n].tBad)
    (hst : seqSt s n = 6) : trackLost n s = trackDrops s n :=
  (if_neg (Nat.not_lt.mpr hbad)).trans ((if_neg (by simp [htlock])).trans (if_pos ((seqSt_u_above s n (Nat.le_of_ble_eq_true rfl) 0).trans hst)))

theorem trackDrops_logged (s : State) (n : Fin 8) : Logged s (trackDrops s n) 0x105 n [1, seqSt s n] 0 := by
  have hlogged := logLockLost_logged (s.u (R.BRL_STN_SEQ_STATUS_TLOCK n) 0) n 1
  rw [Logged, stamp_u_seqStatus s n rfl, seqSt_u_above s n (Nat.le_of_ble_eq_true rfl)] at hlogged
  exact hlogged

theorem trackDrops_onlyBits (s : State) (n : Fin 8) : RegsBut s (trackDrops s n) [R.BRL_STN_SEQ_STATUS n] ∧
    BitsBut s (trackDrops s n) (R.BRL_STN_SEQ_STATUS n) [R.BRL_STN_SEQ_STATUS_TLOCK n] := by
  obtain ⟨⟨-, hregs⟩, hbits⟩ := onlyFields_u s (R.BRL_STN_SEQ_STATUS_TLOCK n) 0
  exact ⟨hregs, hbits⟩

/-! A tick in which no slot runs (R182, R184, R210). -/

/-- The photodiode inputs of the last 16 ticks. -/
def inputsKept (s : State) (pd : List (List Int)) : State :=
  { s with brl := { s.brl with pds := Vector.ofFn fun n : Fin 8 => (((pd[n.val]?).getD []) :: s.brl.pds[n]).take 16 } }

/-- The tick of a STOP ends at stations of a list. -/
def stopsEnd (s : State) (l : List (Fin 8)) : State := s.each l fun s n => s.seqU n fun q => { q with atStop := none }

theorem stopsEnd_seq (l : List (Fin 8)) (s : State) (m : Fin 8) :
    (stopsEnd s l).brl.seq[m] = if m ∈ l then { s.brl.seq[m] with atStop := none } else s.brl.seq[m] := by
  induction l generalizing s with
  | nil => rfl
  | cons n l ih =>
    have hturn : stopsEnd s (n :: l) = stopsEnd (s.seqU n fun q => { q with atStop := none }) l := rfl
    rw [hturn, ih]
    by_cases hm : m = n
    · subst hm
      rw [State.seq_seqU_self]
      simp
    · have hother : (s.seqU n fun q => { q with atStop := none }).brl.seq[m] = s.brl.seq[m] := vmod_other _ _ hm
      rw [hother]
      simp [hm]

/-- Nothing else changes as the tick of a STOP ends. -/
theorem stopsEnd_only (s : State) (l : List (Fin 8)) : stopsEnd s l = { s with brl := { s.brl with seq := (stopsEnd s l).brl.seq } } := by
  induction l generalizing s with
  | nil => rfl
  | cons n l ih => exact ih (s.seqU n fun q => { q with atStop := none })

theorem jspTick_off {s : State} (h : s.on R.JSP_STATUS_ARMED = false) (pd : List (List Int)) : jspTick s pd = s := if_pos (by rw [h]; rfl)

/-- The tick number advances, modulo 400. -/
def tickCounted (s : State) : State := { s with brl := { s.brl with tick := (s.brl.tick + 1) % 400 } }

theorem State.each_nil {α : Type} (s : State) (k : State → α → State) : s.each [] k = s := rfl

theorem sampleTick_idle {s : State} (hdue : dueSlots s s.brl.tick = []) (hoff : s.on R.JSP_STATUS_ARMED = false) (pd : List (List Int)) :
    sampleTick pd [] [] s = tickCounted (stopsEnd (inputsKept s pd) stations) := by
  have hcapture : (stopsEnd (inputsKept s pd) stations).on R.JSP_STATUS_ARMED = false := by
    rw [stopsEnd_only]
    exact hoff
  have htick : (stopsEnd (inputsKept s pd) stations).brl.tick = s.brl.tick := by
    rw [stopsEnd_only]
    rfl
  rw [tickCounted, htick, ← jspTick_off hcapture pd]
  simp only [sampleTick, State.each_nil, hdue, sharePipes, List.filter_nil, List.map_nil, List.nil_append, List.isEmpty_nil, if_true]
  rfl

theorem sampleTick_idle_shows (s : State) (pd : List (List Int)) {t : State} (ht : tickCounted (stopsEnd (inputsKept s pd) stations) = t) :
    t = { s with brl := { s.brl with tick := (s.brl.tick + 1) % 400, seq := t.brl.seq, pds := t.brl.pds } } ∧
      (∀ m : Fin 8, t.brl.seq[m] = { s.brl.seq[m] with atStop := none }) ∧
      ∀ m : Fin 8, t.brl.pds[m] = (((pd[m.val]?).getD []) :: s.brl.pds[m]).take 16 := by
  have hseq (m : Fin 8) : (stopsEnd (inputsKept s pd) stations).brl.seq[m] = { s.brl.seq[m] with atStop := none } :=
    (stopsEnd_seq stations (inputsKept s pd) m).trans (if_pos (by revert m; decide))
  have honly := stopsEnd_only (inputsKept s pd) stations
  generalize stopsEnd (inputsKept s pd) stations = u at *
  generalize u.brl.seq = q at *
  subst honly ht
  exact ⟨rfl, hseq, fun m => Vector.getElem_ofFn m.isLt⟩

/-- Settles O19: each clause goes through the rule of its command. -/
theorem servoLocksAndHold : Obligations.ServoLocksAndHold := by
  intro s n hs q st quiet lost
  have hlost (hquiet : quiet) : lost (focusLost s n) := by
    obtain ⟨hactive, hmounting, htask⟩ := hquiet
    rw [focusLost_quiet hactive hmounting htask]
    have h := focusDrops_opened s n
    refine ⟨h.flock, h.tlock, h.logged, h.regs, h.eq, h.ramps, fun hidle hstopped => ?_, fun hrest => ?_⟩
    · rw [focusDrops_running hidle hstopped]
      obtain ⟨hfailed, hstate, -⟩ := seqFails_shows s n rfl
      exact ⟨hfailed, hstate⟩
    · rw [focusDrops_resting hrest]
      exact (focusOpens_opened s n).2
  refine ⟨fun hflock hclosed hgood => ?gained, fun htlock hflock hclosed hgood hst => ⟨?track, fun htask => ?trackIdle⟩,
    fun hflock hbad => ⟨?bad, fun hquiet => ?badQuiet⟩, fun h hheld => ⟨fun hlong => ⟨?expired, fun hquiet => ?expiredQuiet⟩, fun hshort => ?held⟩,
    fun htlock hbad hst => ?settling, fun pd hdue hoff => ?tick⟩
  case gained =>
    refine does_of_answer hs rfl ?_
    rw [focusGained_gains hflock hclosed hgood]
    obtain ⟨hon, honly, hloops, hstn⟩ := focusGained_shows s n rfl
    have hstation : stSt (s.u (R.BRL_STN_SEQ_STATUS_FLOCK n) 1) n = stSt s n := stSt_u_seqStatus s n rfl 1
    refine ⟨hon, honly, hloops, fun hloading hmounting => ?_, fun hmount => ?_⟩
    · rw [hstn, addressAwaited_other (by rwa [hstation]) (by rwa [hstation])]
      rfl
    · rw [hstn, addressAwaited_mount (by rwa [hstation]), now_u_seqStatus s n rfl 1]
      exact ⟨vmod_self _ _ _, fun k hk => vmod_other _ _ hk⟩
  case track => exact (answer_live _ hs).trans (congrArg _ (trackGained_gains htlock hflock hclosed hgood hst))
  case trackIdle =>
    refine does_of_answer hs rfl ?_
    rw [trackGained_gains htlock hflock hclosed hgood hst, stnRun_idle (s := s.u _ 1) htask]
    exact ⟨State.on_u_self s ⟨Nat.le_of_ble_eq_true rfl, rfl⟩ true, onlyFields_u s (R.BRL_STN_SEQ_STATUS_TLOCK n) 1⟩
  case bad => exact (answer_live _ hs).trans (congrArg _ (focusLockLost_loses hflock hbad))
  case badQuiet =>
    refine does_of_answer hs rfl ?_
    rw [focusLockLost_loses hflock hbad]
    exact hlost hquiet
  case expired => exact (answer_live _ hs).trans (congrArg _ ((servoHoldExpiry_held hheld).trans (if_neg (Nat.not_le.mpr hlong))))
  case expiredQuiet =>
    refine does_of_answer hs rfl ?_
    rw [servoHoldExpiry_held hheld, if_neg (Nat.not_le.mpr hlong)]
    exact hlost hquiet
  case held => exact (answer_live _ hs).trans (congrArg _ ((servoHoldExpiry_held hheld).trans (if_pos hshort)))
  case settling =>
    refine does_of_answer hs rfl ?_
    rw [trackLost_settling htlock hbad hst]
    obtain ⟨hregs, hbits⟩ := trackDrops_onlyBits s n
    refine ⟨State.on_u_self s ⟨Nat.le_of_ble_eq_true rfl, rfl⟩ false, ?_, rfl, hregs, hbits⟩
    have hlogged := trackDrops_logged s n
    rwa [show seqSt s n = 6 from hst] at hlogged
  case tick =>
    refine does_of_answer hs rfl ?_
    rw [sampleTick_idle hdue hoff]
    exact sampleTick_idle_shows s pd rfl

end Sys2Proof.Machine

/-!
PROOF. O23: how a spindle starts, and what the catch of a turning motor chooses (R234, R235, R237, R238). First what the operations of the drive
leave alone and what entering a state shows, then the loss queue and the open loop, then the outcomes of the measurement, then the obligation.
-/

namespace Sys2Proof.Machine

/-! What an operation of the drive leaves alone. -/

/-- An operation of the drive: nothing but registers of a list, spindles and stations has changed. -/
structure DriveStep (s t : State) (l : List Nat) : Prop where
  regs : RegsBut s t l
  only : ∃ r p q, t = { s with regs := r, spn := p, stn := q }

theorem DriveStep.refl (s : State) (l : List Nat) : DriveStep s s l := ⟨RegsBut.of_regs rfl _, _, _, _, rfl⟩

theorem DriveStep.trans {s t u : State} {l : List Nat} (h : DriveStep s t l) (h' : DriveStep t u l) : DriveStep s u l := by
  obtain ⟨_, _, _, rfl⟩ := h.only
  obtain ⟨_, _, _, rfl⟩ := h'.only
  exact ⟨h.regs.andThen h'.regs, _, _, _, rfl⟩

theorem DriveStep.mono {s t : State} {l l' : List Nat} (h : DriveStep s t l) (hl : l ⊆ l') : DriveStep s t l' := ⟨h.regs.mono hl, h.only⟩

theorem DriveStep.eq {s t : State} {l : List Nat} (h : DriveStep s t l) : t = { s with regs := t.regs, spn := t.spn, stn := t.stn } := by
  obtain ⟨_, _, _, rfl⟩ := h.only
  rfl

theorem driveStep_u (s : State) {f : FRef} (v : Nat) {l : List Nat} (hf : f.addr ∈ l) : DriveStep s (s.u f v) l :=
  ⟨(regsBut_u s f v).mono (List.cons_subset.mpr ⟨hf, List.nil_subset _⟩), _, _, _, rfl⟩

theorem driveStep_bump (s : State) {a : Nat} {l : List Nat} (ha : a ∈ l) : DriveStep s (s.bump a) l :=
  ⟨(regsBut_bump s a).mono (List.cons_subset.mpr ⟨ha, List.nil_subset _⟩), _, _, _, rfl⟩

theorem driveStep_spnU (s : State) (n : Fin 8) (f : Spn → Spn) (l : List Nat) : DriveStep s (s.spnU n f) l := ⟨RegsBut.of_regs rfl _, _, _, _, rfl⟩

theorem driveStep_stn (s : State) (q : Vector Stn 8) (l : List Nat) : DriveStep s { s with stn := q } l := ⟨RegsBut.of_regs rfl _, _, _, _, rfl⟩

/-- The time stands while no register of it is written (R457). -/
theorem DriveStep.now {s t : State} {l : List Nat} (h : DriveStep s t l) (hl : ∀ a ∈ l, a < R.QTZ_TIME_LO) : t.now = s.now :=
  h.regs.now ⟨fun hm => Nat.lt_irrefl _ (hl _ hm), fun hm => absurd (hl _ hm) (by decide)⟩

/-- Two fields lie in different registers, or in different bits of one. -/
abbrev apart (f g : FRef) : Prop := g.addr ≠ f.addr ∨ f.lo + f.w ≤ g.lo ∨ g.lo + g.w ≤ f.lo

theorem State.g_u_apart (s : State) {f g : FRef} (v : Nat) (h : apart f g) (hg : g.lo + g.w ≤ 32) : (s.u f v).g g = s.g g := by
  obtain haddr | hbits := h
  · exact s.g_u_addr f g v haddr
  · exact s.g_u_bits f g v hbits hg

theorem State.on_u_apart (s : State) {f g : FRef} (v : Nat) (h : apart f g) (hg : g.lo + g.w ≤ 32) : (s.u f v).on g = s.on g :=
  congrArg (· == 1) (s.g_u_apart v h hg)

theorem spn_spnU_self (s : State) (n : Fin 8) (f : Spn → Spn) : (s.spnU n f).spn[n] = f s.spn[n] := vmod_self _ _ _

theorem spn_spnU_other (s : State) {n k : Fin 8} (f : Spn → Spn) (h : k ≠ n) : (s.spnU n f).spn[k] = s.spn[k] := vmod_other _ _ h

/-! A spindle enters a state (R246). -/

/-- The registers that show the state of a spindle (R239, R246). -/
def stateRegs (n : Fin 8) : List Nat := [R.SPN_STATUS n, R.SPN_BUS_STATUS]

/-- A spindle has entered a state: its STATE and its drive show it; the other fields of SPN_STATUS, and of the bus all but the loss queue, stand. -/
structure Entered (s t : State) (n : Fin 8) (st : Nat) (bridge : Bool) : Prop where
  state : spSt t n = st
  drive : t.spn[n] = { s.spn[n] with since := s.now, bridge := bridge, iqFloor := none }
  others : ∀ k : Fin 8, k ≠ n → t.spn[k] = s.spn[k]
  step : DriveStep s t (stateRegs n)
  status : ∀ f : FRef, f.addr = R.SPN_STATUS n → 4 ≤ f.lo → f.lo + f.w ≤ 32 → t.g f = s.g f
  bus : ∀ f : FRef, f.addr = R.SPN_BUS_STATUS → f.lo + f.w ≤ 16 → t.g f = s.g f

theorem busStatus_ne_status (n : Fin 8) : R.SPN_BUS_STATUS ≠ R.SPN_STATUS n := by
  unfold R.SPN_BUS_STATUS R.SPN_STATUS
  omega

theorem status_ne_status {n k : Fin 8} (h : k ≠ n) : R.SPN_STATUS k ≠ R.SPN_STATUS n := by
  have hval : k.val ≠ n.val := fun e => h (Fin.ext e)
  unfold R.SPN_STATUS
  omega

theorem spEnter_entered (s : State) (n : Fin 8) {st : Nat} (hst : st < 16) (bridge : Bool) : Entered s (spEnter s n st bridge) n st bridge := by
  obtain ⟨v, q, heq⟩ : ∃ v q, spEnter s n st bridge = { (((s.u (R.SPN_STATUS_STATE n) st).spnU n fun x => { x with
      since := s.now, bridge := bridge, iqFloor := none }).u R.SPN_BUS_STATUS_LOSS_QUEUE v) with stn := q } := by
    cases bridge
    all_goals exact ⟨_, _, rfl⟩
  have hg (f : FRef) : (spEnter s n st bridge).g f = ((s.u (R.SPN_STATUS_STATE n) st).u R.SPN_BUS_STATUS_LOSS_QUEUE v).g f := by
    rw [heq]
    rfl
  refine ⟨?state, ?drive, fun k hk => ?others, ?step, fun f hf hlo h32 => ?status, fun f hf hhi => ?bus⟩
  case state =>
    refine (hg _).trans ((State.g_u_apart _ _ (.inl (busStatus_ne_status n).symm) (Nat.le_of_ble_eq_true rfl)).trans ?_)
    exact (s.g_u_self _ st (Nat.le_of_ble_eq_true rfl)).trans (Nat.mod_eq_of_lt hst)
  case drive =>
    rw [heq]
    exact spn_spnU_self _ n _
  case others =>
    rw [heq]
    exact spn_spnU_other _ _ hk
  case step =>
    rw [heq]
    have hstate : DriveStep s (s.u (R.SPN_STATUS_STATE n) st) (stateRegs n) := driveStep_u s st (List.mem_cons_self ..)
    have hqueue (u : State) : DriveStep u (u.u R.SPN_BUS_STATUS_LOSS_QUEUE v) (stateRegs n) :=
      driveStep_u u v (List.mem_cons_of_mem _ (List.mem_cons_self ..))
    exact ((hstate.trans (driveStep_spnU _ n _ _)).trans (hqueue _)).trans (driveStep_stn _ q _)
  case status =>
    refine (hg _).trans ((State.g_u_apart _ _ (.inl ?_) h32).trans (s.g_u_apart _ (.inr (.inl hlo)) h32))
    exact hf.trans_ne (busStatus_ne_status n).symm
  case bus =>
    have h32 : f.lo + f.w ≤ 32 := Nat.le_trans hhi (by decide)
    exact (hg _).trans ((State.g_u_apart _ _ (.inr (.inr hhi)) h32).trans (s.g_u_apart _ (.inl (hf.trans_ne (busStatus_ne_status n))) h32))

theorem Entered.on {s t : State} {n : Fin 8} {st : Nat} {bridge : Bool} (h : Entered s t n st bridge) {f : FRef} (hf : f.addr = R.SPN_STATUS n)
    (hlo : 4 ≤ f.lo) (h32 : f.lo + f.w ≤ 32) : t.on f = s.on f := congrArg (· == 1) (h.status f hf hlo h32)

/-- Whether the chopper may be used hangs on two fields (R239, R242). -/
theorem chopUsable_congr {s t : State} (hctrl : t.rd R.SPN_BUS_CTRL = s.rd R.SPN_BUS_CTRL)
    (hfault : t.g R.SPN_BUS_STATUS_CHOP_FAULT = s.g R.SPN_BUS_STATUS_CHOP_FAULT) : chopUsable t = chopUsable s := by
  have hen : t.on R.SPN_BUS_CTRL_CHOP_EN = s.on R.SPN_BUS_CTRL_CHOP_EN := congrArg (fun w => getF w R.SPN_BUS_CTRL_CHOP_EN == 1) hctrl
  have hcf : t.on R.SPN_BUS_STATUS_CHOP_FAULT = s.on R.SPN_BUS_STATUS_CHOP_FAULT := congrArg (· == 1) hfault
  rw [chopUsable, chopUsable, hen, hcf]

theorem DriveStep.chopUsable {s t : State} {l : List Nat} (h : DriveStep s t l) (hl : R.SPN_BUS_CTRL ∉ l ∧ R.SPN_BUS_STATUS ∉ l) :
    chopUsable t = chopUsable s := chopUsable_congr (h.regs _ hl.1) (h.regs.g hl.2)

theorem bus_beside_status (n : Fin 8) : R.SPN_BUS_CTRL ∉ [R.SPN_STATUS n] ∧ R.SPN_BUS_STATUS ∉ [R.SPN_STATUS n] := by
  simp only [List.mem_singleton, R.SPN_BUS_CTRL, R.SPN_BUS_STATUS, R.SPN_STATUS]
  omega

theorem Entered.chopUsable {s t : State} {n : Fin 8} {st : Nat} {bridge : Bool} (h : Entered s t n st bridge) : chopUsable t = chopUsable s := by
  refine chopUsable_congr (h.step.regs _ ?_) (h.bus _ rfl (by decide))
  simp [stateRegs, R.SPN_BUS_CTRL, R.SPN_STATUS, R.SPN_BUS_STATUS]
  omega

/-! The loss queue goes on (R239). -/

/-- The loss queue goes on with no station, or without a usable chopper with one that waits. -/
theorem nextLoss_cases (s : State) : nextLoss s = s ∨
    ∃ k : Fin 8, chopUsable s = false ∧ spSt s k = spLOSS_WAIT ∧ nextLoss s = spEnter (refFromSpeed s k) k spLOSS true := by
  unfold nextLoss
  split
  · exact .inl rfl
  next hnone =>
    split
    next k _ =>
      split
      next hwait => exact .inr ⟨k, by simp_all, hwait, rfl⟩
      · exact .inl rfl
    · exact .inl rfl

/-- The registers that show what the loss queue does next: none while the chopper may be used. -/
def lossRegs (s : State) : List Nat := if chopUsable s then [] else R.SPN_BUS_STATUS :: stations.map fun (k : Fin 8) => R.SPN_STATUS k

theorem mem_stations : ∀ n : Fin 8, n ∈ stations := by decide

theorem nextLoss_step (s : State) : DriveStep s (nextLoss s) (lossRegs s) := by
  obtain h | ⟨k, hchop, -, h⟩ := nextLoss_cases s
  · rw [h]
    exact DriveStep.refl s _
  · rw [h]
    refine ((driveStep_spnU s k _ _).trans (spEnter_entered _ k (by decide) true).step).mono fun a ha => ?_
    rw [lossRegs, hchop]
    obtain rfl | rfl : a = R.SPN_STATUS k ∨ a = R.SPN_BUS_STATUS := by simpa [stateRegs] using ha
    · exact List.mem_cons_of_mem _ (List.mem_map_of_mem (mem_stations k))
    · exact List.mem_cons_self ..

/-- A station that does not wait in the loss queue is spared. -/
theorem nextLoss_spares {s : State} {n : Fin 8} (hn : spSt s n ≠ spLOSS_WAIT) :
    (nextLoss s).spn[n] = s.spn[n] ∧ (nextLoss s).rd (R.SPN_STATUS n) = s.rd (R.SPN_STATUS n) := by
  obtain h | ⟨k, -, hwait, h⟩ := nextLoss_cases s
  · rw [h]
    exact ⟨rfl, rfl⟩
  · have hk : n ≠ k := fun e => hn (e ▸ hwait)
    have hent := spEnter_entered (refFromSpeed s k) k (st := spLOSS) (by decide) true
    rw [h]
    refine ⟨(hent.others n hk).trans (spn_spnU_other s _ hk), hent.step.regs _ ?_⟩
    simpa [stateRegs] using ⟨status_ne_status hk, (busStatus_ne_status n).symm⟩

/-- The loss queue moves no field of the bus but LOSS_QUEUE. -/
theorem nextLoss_bus (s : State) {f : FRef} (hf : f.addr = R.SPN_BUS_STATUS) (hhi : f.lo + f.w ≤ 16) : (nextLoss s).g f = s.g f := by
  obtain h | ⟨k, -, -, h⟩ := nextLoss_cases s
  · rw [h]
  · rw [h]
    exact (spEnter_entered (refFromSpeed s k) k (st := spLOSS) (by decide) true).bus f hf hhi

theorem lossRegs_congr {s t : State} (h : chopUsable t = chopUsable s) : lossRegs t = lossRegs s := by rw [lossRegs, lossRegs, h]

/-- A spindle has entered a state in which it does not wait to brake, and the loss queue has gone on. -/
structure Settled (s t : State) (n : Fin 8) (st : Nat) (bridge : Bool) : Prop where
  state : spSt t n = st
  drive : t.spn[n] = { s.spn[n] with since := s.now, bridge := bridge, iqFloor := none }
  step : DriveStep s t (stateRegs n ++ lossRegs s)
  status : ∀ f : FRef, f.addr = R.SPN_STATUS n → 4 ≤ f.lo → f.lo + f.w ≤ 32 → t.g f = s.g f
  bus : ∀ f : FRef, f.addr = R.SPN_BUS_STATUS → f.lo + f.w ≤ 16 → t.g f = s.g f
  spared : ∀ k : Fin 8, k ≠ n → spSt s k ≠ spLOSS_WAIT → spSt t k = spSt s k

theorem Entered.settled {s t : State} {n : Fin 8} {st : Nat} {bridge : Bool} (h : Entered s t n st bridge) (hst : st ≠ spLOSS_WAIT) :
    Settled s (nextLoss t) n st bridge := by
  obtain ⟨hspn, hrd⟩ := nextLoss_spares (n := n) (s := t) (h.state.trans_ne hst)
  refine ⟨(congrArg (getF · _) hrd).trans h.state, hspn.trans h.drive, ?_, fun f hf hlo h32 => ?_,
    fun f hf hhi => (nextLoss_bus t hf hhi).trans (h.bus f hf hhi), fun k hk hwait => ?_⟩
  · rw [← lossRegs_congr h.chopUsable]
    exact (h.step.mono (List.subset_append_left _ _)).trans ((nextLoss_step t).mono (List.subset_append_right _ _))
  · refine Eq.trans ?_ (h.status f hf hlo h32)
    rw [State.g, hf, hrd, ← hf, State.g]
  · have hstate : spSt t k = spSt s k := h.step.regs.g (by simpa [stateRegs] using ⟨status_ne_status hk, (busStatus_ne_status k).symm⟩)
    exact (congrArg (getF · _) (nextLoss_spares (hstate.trans_ne hwait)).2).trans hstate

theorem Settled.on {s t : State} {n : Fin 8} {st : Nat} {bridge : Bool} (h : Settled s t n st bridge) {f : FRef} (hf : f.addr = R.SPN_STATUS n)
    (hlo : 4 ≤ f.lo) (h32 : f.lo + f.w ≤ 32) : t.on f = s.on f := congrArg (· == 1) (h.status f hf hlo h32)

/-! The angle ends, and the drive sets it (R228, R234). -/

theorem rotorOk_apart (n : Fin 8) : R.WRS_STATUS n ≠ R.SPN_STATUS n := by
  unfold R.WRS_STATUS R.SPN_STATUS
  omega

/-- The registers in which an angle begins and ends. -/
def angleRegs (n : Fin 8) : List Nat := [R.SPN_STATUS n, R.WRS_STATUS n]

theorem angleInvalid_shows (s : State) (n : Fin 8) {t : State} (ht : angleInvalid s n = t) :
    t.on (R.SPN_STATUS_ANGLE_VALID n) = false ∧ t.on (R.SPN_STATUS_IN_REG n) = false ∧ t.on (R.WRS_STATUS_ROTOR_OK n) = false ∧
      spSt t n = spSt s n ∧ DriveStep s t (angleRegs n) ∧ t.spn[n] = { s.spn[n] with errLow := none, inBand := none } ∧ t.stn = s.stn := by
  obtain rfl : ((((s.u (R.SPN_STATUS_ANGLE_VALID n) 0).u (R.SPN_STATUS_IN_REG n) 0).u (R.WRS_STATUS_ROTOR_OK n) 0).spnU n fun x =>
    { x with errLow := none, inBand := none }) = t := ht
  have hrotor : R.SPN_STATUS n ≠ R.WRS_STATUS n := (rotorOk_apart n).symm
  have hstatus (u : State) {f : FRef} (hf : f.addr = R.SPN_STATUS n) : DriveStep u (u.u f 0) (angleRegs n) :=
    driveStep_u u 0 (hf ▸ List.mem_cons_self ..)
  refine ⟨?_, ?_, ?_, ?_, (((hstatus _ rfl).trans (hstatus _ rfl)).trans (driveStep_u _ 0 (List.mem_cons_of_mem _ (List.mem_cons_self ..)))).trans
    (driveStep_spnU _ n _ _), spn_spnU_self _ n _, rfl⟩
  · rw [State.spnU_on, State.on_u_apart _ _ (.inl hrotor) (Nat.le_of_ble_eq_true rfl),
      State.on_u_apart _ _ (.inr (.inr (Nat.le_of_ble_eq_true rfl))) (Nat.le_of_ble_eq_true rfl)]
    exact State.on_u_self s ⟨Nat.le_of_ble_eq_true rfl, rfl⟩ false
  · rw [State.spnU_on, State.on_u_apart _ _ (.inl hrotor) (Nat.le_of_ble_eq_true rfl)]
    exact State.on_u_self _ ⟨Nat.le_of_ble_eq_true rfl, rfl⟩ false
  · rw [State.spnU_on]
    exact State.on_u_self _ ⟨Nat.le_of_ble_eq_true rfl, rfl⟩ false
  · rw [spSt, State.spnU_g, State.g_u_apart _ _ (.inl hrotor) (Nat.le_of_ble_eq_true rfl),
      State.g_u_apart _ _ (.inr (.inr (Nat.le_of_ble_eq_true rfl))) (Nat.le_of_ble_eq_true rfl),
      State.g_u_apart _ _ (.inr (.inr (Nat.le_of_ble_eq_true rfl))) (Nat.le_of_ble_eq_true rfl), spSt]

/-- The angle, where one is published, ends. -/
def angleEnded (s : State) (n : Fin 8) : State := if s.on (R.SPN_STATUS_ANGLE_VALID n) then angleInvalid s n else s

theorem angleEnded_shows (s : State) (n : Fin 8) {t : State} (ht : angleEnded s n = t) :
    t.on (R.SPN_STATUS_ANGLE_VALID n) = false ∧ DriveStep s t (angleRegs n) ∧ (t.spn[n]).ifFrom = (s.spn[n]).ifFrom := by
  subst ht
  unfold angleEnded
  split
  · obtain ⟨hvalid, -, -, -, hstep, hspn, -⟩ := angleInvalid_shows s n rfl
    exact ⟨hvalid, hstep, by rw [hspn]⟩
  next hoff => exact ⟨Bool.eq_false_iff.mpr hoff, DriveStep.refl s _, rfl⟩

/-- The registers in which a state and the end of an angle show. -/
def loopRegs (n : Fin 8) : List Nat := [R.SPN_STATUS n, R.WRS_STATUS n, R.SPN_BUS_STATUS]

theorem stateRegs_loopRegs (n : Fin 8) : stateRegs n ⊆ loopRegs n := by simp [stateRegs, loopRegs]

theorem angleRegs_loopRegs (n : Fin 8) : angleRegs n ⊆ loopRegs n := by simp [angleRegs, loopRegs]

/-- A step in which the drive sets the angle: its own begins at `a`, and none is published (R234). -/
theorem openLoop_shows (s : State) (n : Fin 8) {st : Nat} (hst : st < 16) (a : Nat) {t : State} (ht : openLoop s n st a = t) :
    spSt t n = st ∧ t.on (R.SPN_STATUS_ANGLE_VALID n) = false ∧ (t.spn[n]).bridge = true ∧ (t.spn[n]).elec = a ∧ (t.spn[n]).waitObs = false ∧
      (t.spn[n]).ifFrom = (s.spn[n]).ifFrom ∧ DriveStep s t (loopRegs n) := by
  obtain ⟨hvalid, hstep, hfrom⟩ := angleEnded_shows s n rfl
  obtain ⟨f, hf, hopen⟩ : ∃ f : Spn → Spn, (∀ x, f x = { x with elec := a, rate := 0, elecOld := a, rateOld := 0, waitObs := false }) ∧
    openLoop s n st a = spEnter ((angleEnded s n).spnU n f) n st true := ⟨_, fun _ => rfl, rfl⟩
  have hent := spEnter_entered ((angleEnded s n).spnU n f) n hst true
  rw [← hopen, ht] at hent
  have hdrive := hent.drive
  rw [spn_spnU_self, hf] at hdrive
  refine ⟨hent.state, ?_, ?_, ?_, ?_, ?_, ?_⟩
  · exact (hent.on rfl (Nat.le_of_ble_eq_true rfl) (Nat.le_of_ble_eq_true rfl)).trans hvalid
  · rw [hdrive]
  · rw [hdrive]
  · rw [hdrive]
  · rw [hdrive]
    exact hfrom
  · exact ((hstep.mono (angleRegs_loopRegs n)).trans (driveStep_spnU _ n f _)).trans (hent.step.mono (stateRegs_loopRegs n))

/-! What the measurement finds (R234, R235). -/

/-- A signed field of 24 bits reads the value it was set to (R7). -/
theorem gi_ui_24 (s : State) {f : FRef} (hf : f.lo + f.w ≤ 32 ∧ f.w = 24) {v : Int} (hv : -8388608 ≤ v ∧ v ≤ 8388607) : (s.ui f v).gi f = v := by
  rw [State.gi, State.ui, State.g_u_self _ _ _ hf.1, hf.2, toSigned, ofSigned]
  split <;> omega

theorem sat24_bounds (v : Int) : -8388608 ≤ sat24 v ∧ sat24 v ≤ 8388607 := clampI_bounds (by decide) v

/-- The speed that the measurement finds. -/
def foundSpeed (s : State) (n : Fin 8) : Int := sat24 (emfSpeed s n)

/-- SPN_SPEED shows the speed found. -/
def speedShown (s : State) (n : Fin 8) : State := s.ui (R.SPN_SPEED_SPEED n) (foundSpeed s n)

/-- A turning motor is caught: the catch counts. -/
def motorCaught (s : State) (n : Fin 8) : State := (speedShown s n).bump (R.SPN_CNT_CATCHES n)

/-- One that turns backward will brake, from the speed found. -/
def caughtBackward (s : State) (n : Fin 8) : State :=
  (motorCaught s n).spnU n fun x => { x with thenAlign := true, ref := (foundSpeed s n : Int) }

/-- One that turns backward at 600 rpm or more brakes down to that speed first. -/
def caughtFast (s : State) (n : Fin 8) : State :=
  (seedObserver (caughtBackward s n) n (foundSpeed s n)).spnU n fun x => { x with lossTo600 := true }

/-- The registers in which the measurement shows what it finds. -/
def foundRegs (n : Fin 8) : List Nat := [R.SPN_SPEED n, R.SPN_CNT_CATCHES n]

/-- A register lies apart from what the measurement reads, and from what a step of the drive writes. -/
structure BesideMeasure (n : Fin 8) (a : Nat) : Prop where
  loop : a ∉ loopRegs n
  speeds : a ≠ R.SPN_SPEEDS n
  obs : a ≠ R.SPN_OBS n
  flux : a ≠ R.SPN_FLUX n
  ctrl : a ≠ R.SPN_BUS_CTRL

theorem foundRegs_beside (n : Fin 8) {a : Nat} (ha : a ∈ foundRegs n) : BesideMeasure n a := by
  suffices h : a ∉ loopRegs n ∧ a ≠ R.SPN_SPEEDS n ∧ a ≠ R.SPN_OBS n ∧ a ≠ R.SPN_FLUX n ∧ a ≠ R.SPN_BUS_CTRL by
    obtain ⟨hloop, hspeeds, hobs, hflux, hctrl⟩ := h
    exact ⟨hloop, hspeeds, hobs, hflux, hctrl⟩
  simp only [foundRegs, loopRegs, List.mem_cons, List.not_mem_nil, or_false, not_or, R.SPN_SPEED, R.SPN_CNT_CATCHES, R.SPN_STATUS, R.WRS_STATUS,
    R.SPN_BUS_STATUS, R.SPN_SPEEDS, R.SPN_OBS, R.SPN_FLUX, R.SPN_BUS_CTRL] at ha ⊢
  omega

theorem speedShown_step (s : State) (n : Fin 8) : DriveStep s (speedShown s n) (foundRegs n) := driveStep_u s _ (List.mem_cons_self ..)

theorem motorCaught_step (s : State) (n : Fin 8) : DriveStep s (motorCaught s n) (foundRegs n) :=
  (speedShown_step s n).trans (driveStep_bump _ (List.mem_cons_of_mem _ (List.mem_cons_self ..)))

theorem caughtBackward_step (s : State) (n : Fin 8) : DriveStep s (caughtBackward s n) (foundRegs n) :=
  (motorCaught_step s n).trans (driveStep_spnU _ n _ _)

theorem seedObserver_step (s : State) (n : Fin 8) (v : Int) (l : List Nat) : DriveStep s (seedObserver s n v) l := driveStep_spnU s n _ l

theorem caughtFast_step (s : State) (n : Fin 8) : DriveStep s (caughtFast s n) (foundRegs n) :=
  ((caughtBackward_step s n).trans (seedObserver_step _ n _ _)).trans (driveStep_spnU _ n _ _)

theorem found_chopUsable {s t : State} {n : Fin 8} (h : DriveStep s t (foundRegs n)) : chopUsable t = chopUsable s := by
  refine h.chopUsable ⟨fun hm => ?_, fun hm => ?_⟩
  · exact (foundRegs_beside n hm).ctrl rfl
  · exact (foundRegs_beside n hm).loop (by simp [loopRegs])

/-- What the measurement chooses, once its time has passed. -/
theorem measureEnd_outcome {s : State} {n : Fin 8} (hst : spSt s n = spMEASURE) (htime : (s.spn[n]).since + 20000000 ≤ s.now) :
    measureEnd n s =
      if (foundSpeed s n).natAbs < rpm 60 then openLoop (speedShown s n) n spALIGN 0
      else if 0 < foundSpeed s n then
        if foundSpeed s n < rpm (s.g (R.SPN_SPEEDS_IF_SPEED n)) then
          openLoop ((motorCaught s n).spnU n fun x => { x with ifFrom := foundSpeed s n }) n spIF_RAMP (emfAngle s n)
        else runFrom (seedObserver (motorCaught s n) n (foundSpeed s n)) n
      else if (foundSpeed s n).natAbs < rpm (s.g (R.SPN_OBS_OBS_MIN n)) then spEnter (caughtBackward s n) n spSHORT true
      else if (foundSpeed s n).natAbs < rpm 600 then brake (seedObserver (caughtBackward s n) n (foundSpeed s n)) n
      else if chopUsable s then spEnter (caughtFast s n) n spLOSS true else nextLoss (spEnter (caughtFast s n) n spLOSS_WAIT true) := by
  have hif : (speedShown s n).g (R.SPN_SPEEDS_IF_SPEED n) = s.g (R.SPN_SPEEDS_IF_SPEED n) :=
    (speedShown_step s n).regs.g fun hm => (foundRegs_beside n hm).speeds rfl
  have hobs : (caughtBackward s n).g (R.SPN_OBS_OBS_MIN n) = s.g (R.SPN_OBS_OBS_MIN n) :=
    (caughtBackward_step s n).regs.g fun hm => (foundRegs_beside n hm).obs rfl
  unfold measureEnd
  rw [if_neg (by simp [hst]; omega), ← hif, ← hobs, ← found_chopUsable (caughtFast_step s n)]
  rfl

/-- The registers in which a step of the start may show: the station's own, and without a usable chopper what waits to brake. -/
def spinRegs (s : State) (n : Fin 8) : List Nat :=
  [R.SPN_STATUS n, R.SPN_SPEED n, R.SPN_CNT_CATCHES n, R.SPN_BUS_STATUS, R.WRS_STATUS n] ++
    (if chopUsable s then [] else stations.map fun (k : Fin 8) => R.SPN_STATUS k)

theorem loopRegs_spinRegs (s : State) (n : Fin 8) : loopRegs n ⊆ spinRegs s n :=
  List.subset_append_of_subset_left _ (by simp [loopRegs])

theorem foundRegs_spinRegs (s : State) (n : Fin 8) : foundRegs n ⊆ spinRegs s n :=
  List.subset_append_of_subset_left _ (by simp [foundRegs])

theorem lossRegs_spinRegs (s : State) (n : Fin 8) : lossRegs s ⊆ spinRegs s n := by
  unfold lossRegs spinRegs
  split
  · exact List.nil_subset _
  · exact List.cons_subset.mpr ⟨List.mem_append_left _ (by simp), List.subset_append_right _ _⟩

theorem cnt_ne_speed (n : Fin 8) : R.SPN_CNT_CATCHES n ≠ R.SPN_SPEED n := by
  unfold R.SPN_CNT_CATCHES R.SPN_SPEED
  omega

theorem motorCaught_shows (s : State) (n : Fin 8) : Counted s (motorCaught s n) (R.SPN_CNT_CATCHES n) 1 ∧
    (motorCaught s n).gi (R.SPN_SPEED_SPEED n) = foundSpeed s n := by
  have hne := cnt_ne_speed n
  constructor
  · exact (counted_bump (speedShown s n) _).after (regsBut_u s (R.SPN_SPEED_SPEED n) _) (mt List.mem_singleton.mp hne)
  · exact (State.gi_of_g ((regsBut_bump (speedShown s n) (R.SPN_CNT_CATCHES n)).g (mt List.mem_singleton.mp hne.symm))).trans
      (gi_ui_24 s ⟨Nat.le_of_ble_eq_true rfl, rfl⟩ (sat24_bounds _))

/-- The catch stands in the count and in SPN_SPEED after a step of the drive that follows it. -/
theorem motorCaught_then {s t : State} {n : Fin 8} (h : DriveStep (motorCaught s n) t (loopRegs n)) :
    (Counted s t (R.SPN_CNT_CATCHES n) 1 ∧ t.gi (R.SPN_SPEED_SPEED n) = foundSpeed s n) ∧ DriveStep s t (spinRegs s n) := by
  obtain ⟨hcounted, hshown⟩ := motorCaught_shows s n
  refine ⟨⟨hcounted.before h.regs (foundRegs_beside n (by simp [foundRegs])).loop, ?_⟩, ?_⟩
  · exact (State.gi_of_g (h.regs.g (foundRegs_beside n (List.mem_cons_self ..)).loop)).trans hshown
  · exact ((motorCaught_step s n).mono (foundRegs_spinRegs s n)).trans (h.mono (loopRegs_spinRegs s n))

/-- The angle of the back-EMF is that before the catch. -/
theorem emfAngle_motorCaught (s : State) (n : Fin 8) : emfAngle (motorCaught s n) n = emfAngle s n := by
  have hke : (motorCaught s n).g (R.SPN_FLUX_KE n) = s.g (R.SPN_FLUX_KE n) :=
    (motorCaught_step s n).regs.g fun hm => (foundRegs_beside n hm).flux rfl
  unfold emfAngle emfSpeed
  rw [hke]
  rfl

/-- The reference ramps from the measured speed as the spindle enters RUN (R234 step 5, R235). -/
theorem runFrom_shows (s : State) (n : Fin 8) {t : State} (ht : runFrom s n = t) :
    spSt t n = spRUN ∧ (t.spn[n]).ref = ((spSpeed s n : Int) : Rat) ∧ (t.spn[n]).obsSpeed = (s.spn[n]).obsSpeed ∧
      (t.spn[n]).obsAngle = (s.spn[n]).obsAngle ∧ DriveStep s t (stateRegs n) := by
  obtain ⟨f, hf, hrun⟩ : ∃ f : Spn → Spn, (∀ x, f x = { x with tries := 0, waitObs := false }) ∧
    runFrom s n = spEnter ((refFromSpeed s n).spnU n f) n spRUN true := ⟨_, fun _ => rfl, rfl⟩
  have hent := spEnter_entered ((refFromSpeed s n).spnU n f) n (st := spRUN) (by decide) true
  rw [← hrun, ht] at hent
  have hdrive := hent.drive
  rw [spn_spnU_self, hf, refFromSpeed, spn_spnU_self] at hdrive
  refine ⟨hent.state, ?_, ?_, ?_, ?_⟩
  · rw [hdrive]
  · rw [hdrive]
  · rw [hdrive]
  · exact ((driveStep_spnU s n _ _).trans (driveStep_spnU _ n f _)).trans hent.step

/-- Braking with a usable chopper is active from the reference in force (R237, R239). -/
theorem brake_active {s : State} (n : Fin 8) (hchop : chopUsable s = true) {t : State} (ht : brake s n = t) :
    spSt t n = spACTIVE ∧ DriveStep s t (stateRegs n) ∧
      t.spn[n] = { s.spn[n] with since := (s.u (R.SPN_STATUS_IN_REG n) 0).now, bridge := true, iqFloor := none } := by
  have hstep : DriveStep s (s.u (R.SPN_STATUS_IN_REG n) 0) [R.SPN_STATUS n] := driveStep_u s 0 (List.mem_cons_self ..)
  have hbrake : brake s n = spEnter (s.u (R.SPN_STATUS_IN_REG n) 0) n spACTIVE true :=
    if_pos ((hstep.chopUsable (bus_beside_status n)).trans hchop)
  have hent := spEnter_entered (s.u (R.SPN_STATUS_IN_REG n) 0) n (st := spACTIVE) (by decide) true
  rw [← hbrake, ht] at hent
  exact ⟨hent.state, (hstep.mono (by simp [stateRegs])).trans hent.step, hent.drive⟩

/-- A measurement begins: the bridge is off, and regulation is lost (R232, R234, R235). -/
theorem measure_shows (s : State) (n : Fin 8) {t : State} (ht : measure s n = t) :
    spSt t n = spMEASURE ∧ t.on (R.SPN_STATUS_IN_REG n) = false ∧ (t.spn[n]).bridge = false ∧ (t.spn[n]).losses = (s.spn[n]).losses ∧
      t.on (R.SPN_STATUS_ANGLE_VALID n) = s.on (R.SPN_STATUS_ANGLE_VALID n) ∧ DriveStep s t (stateRegs n ++ lossRegs s) := by
  obtain ⟨f, hmeasure, hf⟩ : ∃ f : Spn → Spn, measure s n = nextLoss (spEnter ((s.u (R.SPN_STATUS_IN_REG n) 0).spnU n f) n spMEASURE false) ∧
    ∀ x, (f x).losses = x.losses := ⟨_, rfl, fun _ => rfl⟩
  have hreg : DriveStep s (s.u (R.SPN_STATUS_IN_REG n) 0) [R.SPN_STATUS n] := driveStep_u s 0 (List.mem_cons_self ..)
  have hset := (spEnter_entered ((s.u (R.SPN_STATUS_IN_REG n) 0).spnU n f) n (st := spMEASURE) (by decide) false).settled (by decide)
  rw [← hmeasure, ht] at hset
  have hloss : lossRegs ((s.u (R.SPN_STATUS_IN_REG n) 0).spnU n f) = lossRegs s := lossRegs_congr (hreg.chopUsable (bus_beside_status n))
  have hdrive := hset.drive
  rw [spn_spnU_self] at hdrive
  refine ⟨hset.state, ?_, ?_, ?_, ?_, ?_⟩
  · rw [hset.on rfl (Nat.le_of_ble_eq_true rfl) (Nat.le_of_ble_eq_true rfl), State.spnU_on]
    exact State.on_u_self s ⟨Nat.le_of_ble_eq_true rfl, rfl⟩ false
  · rw [hdrive]
  · rw [hdrive]
    exact hf _
  · rw [hset.on rfl (Nat.le_of_ble_eq_true rfl) (Nat.le_of_ble_eq_true rfl), State.spnU_on]
    exact s.on_u_apart 0 (.inr (.inr (Nat.le_of_ble_eq_true rfl))) (Nat.le_of_ble_eq_true rfl)
  · rw [← hloss]
    exact ((hreg.mono (by simp [stateRegs])).trans (driveStep_spnU _ n f _)).trans hset.step

/-- A motor caught at IF_SPEED or above runs on: the reference and the observer start from what was found (R235). -/
theorem runFrom_caught (s : State) (n : Fin 8) {t : State} (ht : runFrom (seedObserver (motorCaught s n) n (foundSpeed s n)) n = t) :
    spSt t n = spRUN ∧ (t.spn[n]).ref = ((foundSpeed s n : Int) : Rat) ∧ (t.spn[n]).obsSpeed = ((foundSpeed s n : Int) : Rat) ∧
      (t.spn[n]).obsAngle = ((emfAngle s n : Nat) : Rat) ∧ DriveStep (motorCaught s n) t (loopRegs n) := by
  obtain ⟨hstate, href, hspeed, hangle, hstep⟩ := runFrom_shows _ n ht
  have hshown : spSpeed (seedObserver (motorCaught s n) n (foundSpeed s n)) n = foundSpeed s n := (motorCaught_shows s n).2
  rw [hshown] at href
  rw [seedObserver, spn_spnU_self] at hspeed hangle
  rw [emfAngle_motorCaught] at hangle
  exact ⟨hstate, href, hspeed, hangle, (seedObserver_step _ n _ _).trans (hstep.mono (stateRegs_loopRegs n))⟩

/-! The steps that a time ends (R234). -/

theorem alignEnd_ends {s : State} {n : Fin 8} (hst : spSt s n = spALIGN)
    (htime : (s.spn[n]).since + 5000000 * s.g (R.SPN_START_ALIGN_T n) ≤ s.now) :
    alignEnd n s = openLoop (s.spnU n fun x => { x with ifFrom := 0 }) n spIF_RAMP 0 := if_neg (by simp [hst]; omega)

theorem ifRampEnd_ends {s : State} {n : Fin 8} (hst : spSt s n = spIF_RAMP) (hwait : (s.spn[n]).waitObs = false)
    (htime : (s.spn[n]).since + 5000000 * s.g (R.SPN_START_IF_T n) ≤ s.now) :
    ifRampEnd n s = s.spnU n fun x => { x with waitObs := true, since := s.now } :=
  if_neg (not_or.mpr ⟨not_not_intro hst, not_or.mpr ⟨Bool.eq_false_iff.mp hwait, Nat.not_lt.mpr htime⟩⟩)

/-- An attempt fails, and is not the third. -/
theorem obsTimeout_retries {s : State} {n : Fin 8} (hst : spSt s n = spIF_RAMP) (hwait : (s.spn[n]).waitObs = true)
    (htime : (s.spn[n]).since + 5000000 * s.g (R.SPN_START_OBS_T n) ≤ s.now) (htries : (s.spn[n]).tries < 2) :
    obsTimeout n s = spEnter (s.spnU n fun x => { x with tries := x.tries + 1, waitObs := false }) n spRETRY false := by
  unfold obsTimeout
  have hdue : ¬ (spSt s n ≠ spIF_RAMP ∨ (!(s.spn[n]).waitObs) = true ∨ s.now < (s.spn[n]).since + 5000000 * s.g (R.SPN_START_OBS_T n)) :=
    not_or.mpr ⟨not_not_intro hst, not_or.mpr ⟨by rw [hwait]; decide, Nat.not_lt.mpr htime⟩⟩
  rw [if_neg hdue, if_neg (by omega)]

theorem retryEnd_ends {s : State} {n : Fin 8} (hst : spSt s n = spRETRY) (htime : (s.spn[n]).since + 200000000 ≤ s.now) :
    retryEnd n s = measure s n := if_neg (by simp [hst]; omega)

/-- Settles O23: each clause goes through the rule of its step. -/
theorem spindleStartAndCatch : Obligations.SpindleStartAndCatch := by
  intro s n hs x st goes
  have hgo {c : Instr} {k : State → State} {t : State} {dest : Nat} {P : State → Prop} (hc : exec c s = answer s k) (ht : k s = t)
      (hst : spSt t n = dest) (hP : P t) (hstep : DriveStep s t (spinRegs s n)) : goes c dest P :=
    does_of_answer hs hc (by rw [ht]; exact ⟨hst, hP, hstep.regs, hstep.eq⟩)
  refine ⟨fun hst => ⟨fun hearly => ?early, fun htime => ?measured⟩, fun hst htime => ?align, fun hst hwait htime => ?ramp,
    fun hst hwait htime htries => ?timeout, fun hst htime => ?retry⟩
  case early => exact (answer_live _ hs).trans (congrArg _ (if_pos (.inr hearly)))
  case measured =>
    intro v caught
    have hout := measureEnd_outcome hst htime
    have hv : foundSpeed s n = v := rfl
    have h60 : rpm 60 = 30720 := rfl
    have h600 : rpm 600 = 307200 := rfl
    rw [hv] at hout
    refine ⟨fun hrest => ?rest, fun hturn hslow => ?ramps, fun hturn hfast => ?runs, fun hback hslow => ?shorts,
      fun hback hobs hslow hchop => ?brakes, fun hback hobs hchop => ?loss⟩
    case rest =>
      rw [if_pos hrest] at hout
      obtain ⟨hstate, -, hbridge, -, -, -, hstep⟩ := openLoop_shows (speedShown s n) n (st := spALIGN) (by decide) 0 hout.symm
      have hcnt : R.SPN_CNT_CATCHES n ∉ loopRegs n := (foundRegs_beside n (by simp [foundRegs])).loop
      refine hgo rfl rfl hstate ⟨(hstep.regs _ hcnt).trans (s.rd_u_other _ _ (cnt_ne_speed n)), hbridge⟩ ?_
      exact ((speedShown_step s n).mono (foundRegs_spinRegs s n)).trans (hstep.mono (loopRegs_spinRegs s n))
    case ramps =>
      rw [if_neg (by omega), if_pos (by omega), if_pos hslow] at hout
      obtain ⟨hstate, -, -, -, -, -, hstep⟩ := openLoop_shows _ n (st := spIF_RAMP) (by decide) _ hout.symm
      obtain ⟨hcaught, hall⟩ := motorCaught_then ((driveStep_spnU _ n _ _).trans hstep)
      exact hgo rfl rfl hstate hcaught hall
    case runs =>
      rw [if_neg (by omega), if_pos (by omega), if_neg (by omega)] at hout
      obtain ⟨hstate, href, hspeed, hangle, hstep⟩ := runFrom_caught s n hout.symm
      obtain ⟨hcaught, hall⟩ := motorCaught_then hstep
      exact hgo rfl rfl hstate ⟨hcaught, href, hspeed, hangle⟩ hall
    case shorts =>
      rw [if_neg (by omega), if_neg (by omega), if_pos (by omega)] at hout
      have hent := spEnter_entered (caughtBackward s n) n (st := spSHORT) (by decide) true
      obtain ⟨hcaught, hall⟩ := motorCaught_then ((driveStep_spnU _ n _ _).trans (hent.step.mono (stateRegs_loopRegs n)))
      exact hgo rfl hout hent.state hcaught hall
    case brakes =>
      rw [if_neg (by omega), if_neg (by omega), if_neg (by omega), if_pos (by omega)] at hout
      have husable := found_chopUsable ((caughtBackward_step s n).trans (seedObserver_step _ n v _))
      obtain ⟨hstate, hstep, -⟩ := brake_active n (husable.trans hchop) hout.symm
      obtain ⟨hcaught, hall⟩ := motorCaught_then
        (((driveStep_spnU _ n _ _).trans (seedObserver_step _ n v _)).trans (hstep.mono (stateRegs_loopRegs n)))
      exact hgo rfl rfl hstate hcaught hall
    case loss =>
      rw [if_neg (by omega), if_neg (by omega), if_neg (by omega), if_neg (by omega), if_pos hchop] at hout
      have hent := spEnter_entered (caughtFast s n) n (st := spLOSS) (by decide) true
      obtain ⟨hcaught, hall⟩ := motorCaught_then ((((driveStep_spnU _ n _ _).trans (seedObserver_step _ n v _)).trans
        (driveStep_spnU _ n _ _)).trans (hent.step.mono (stateRegs_loopRegs n)))
      exact hgo rfl hout hent.state hcaught hall
  case align =>
    obtain ⟨hstate, hvalid, -, helec, hwait, hfrom, hstep⟩ := openLoop_shows _ n (st := spIF_RAMP) (by decide) 0 (alignEnd_ends hst htime).symm
    rw [spn_spnU_self] at hfrom
    exact hgo rfl rfl hstate ⟨hfrom, helec, hwait, hvalid⟩ ((driveStep_spnU s n _ _).trans (hstep.mono (loopRegs_spinRegs s n)))
  case ramp =>
    refine does_of_answer hs rfl ?_
    rw [ifRampEnd_ends hst hwait htime]
    rw [spn_spnU_self]
    exact ⟨rfl, rfl, rfl⟩
  case timeout =>
    have hent := spEnter_entered (s.spnU n fun x => { x with tries := x.tries + 1, waitObs := false }) n (st := spRETRY) (by decide) false
    have hdrive := hent.drive
    rw [spn_spnU_self] at hdrive
    refine hgo rfl (obsTimeout_retries hst hwait htime htries) hent.state ⟨?_, ?_⟩ ?_
    · rw [hdrive]
    · rw [hdrive]
    · exact (driveStep_spnU s n _ _).trans (hent.step.mono (List.Subset.trans (stateRegs_loopRegs n) (loopRegs_spinRegs s n)))
  case retry =>
    obtain ⟨hstate, hreg, hbridge, -, -, hstep⟩ := measure_shows s n rfl
    refine hgo rfl (retryEnd_ends hst htime) hstate ⟨hbridge, hreg⟩ (hstep.mono ?_)
    exact List.append_subset.mpr ⟨List.Subset.trans (stateRegs_loopRegs n) (loopRegs_spinRegs s n), lossRegs_spinRegs s n⟩

end Sys2Proof.Machine
/-!
PROOF. O26: the bus unit (R240 to R243, R294). First a sample of the bus in its stages, then the tests of the chopper, then what a trip and its
release do at each station, then the obligation.
-/

namespace Sys2Proof.Machine

/-! What an operation of the bus unit leaves alone. -/

/-- Every field that lies apart from those of a list reads as before. -/
def FieldsBut (s t : State) (l : List FRef) : Prop := ∀ g : FRef, g.lo + g.w ≤ 32 → (∀ f ∈ l, apart f g) → t.g g = s.g g

/-- An operation of the bus unit: nothing but fields of a list and what the bus unit holds has changed. -/
structure BusStep (s t : State) (l : List FRef) : Prop where
  fields : FieldsBut s t l
  regs : RegsBut s t (l.map FRef.addr)
  only : ∃ r b, t = { s with regs := r, bus := b }

theorem BusStep.refl (s : State) (l : List FRef) : BusStep s s l := ⟨fun _ _ _ => rfl, RegsBut.of_regs rfl _, _, _, rfl⟩

theorem BusStep.trans {s t u : State} {l l' : List FRef} (h : BusStep s t l) (h' : BusStep t u l') : BusStep s u (l ++ l') := by
  refine ⟨fun g hg hl => ?_, ?_, ?_⟩
  · rw [h'.fields g hg fun f hf => hl f (List.mem_append_right _ hf), h.fields g hg fun f hf => hl f (List.mem_append_left _ hf)]
  · rw [List.map_append]
    exact h.regs.trans h'.regs
  · obtain ⟨_, _, rfl⟩ := h.only
    obtain ⟨_, _, rfl⟩ := h'.only
    exact ⟨_, _, rfl⟩

theorem BusStep.mono {s t : State} {l l' : List FRef} (h : BusStep s t l) (hl : l ⊆ l') : BusStep s t l' :=
  ⟨fun g hg hapart => h.fields g hg fun f hf => hapart f (hl hf), h.regs.mono (List.map_subset _ hl), h.only⟩

theorem BusStep.eq {s t : State} {l : List FRef} (h : BusStep s t l) : t = { s with regs := t.regs, bus := t.bus } := by
  obtain ⟨_, _, rfl⟩ := h.only
  rfl

theorem BusStep.on {s t : State} {l : List FRef} (h : BusStep s t l) {g : FRef} (hg : g.lo + g.w ≤ 32) (hl : ∀ f ∈ l, apart f g) : t.on g = s.on g :=
  congrArg (· == 1) (h.fields g hg hl)

theorem busStep_u (s : State) (f : FRef) (v : Nat) : BusStep s (s.u f v) [f] :=
  ⟨fun _ hg hl => s.g_u_apart v (hl f (List.mem_singleton_self f)) hg, regsBut_u s f v, _, _, rfl⟩

theorem busStep_bump (s : State) {f : FRef} (hf : f.lo = 0 ∧ f.w = 32) : BusStep s (s.bump f.addr) [f] := by
  refine ⟨fun g hg hl => ?_, regsBut_bump s f.addr, _, _, rfl⟩
  obtain haddr | hbits := hl f (List.mem_singleton_self f)
  · exact (regsBut_bump s f.addr).g (mt List.mem_singleton.mp haddr)
  · have hw : g.w = 0 := by omega
    simp [State.g, getF, hw, Nat.mod_one]

/-- The state with what the bus unit holds put in. -/
def State.withBus (s : State) (b : Bus) : State := { s with bus := b }

theorem busStep_withBus (s : State) (b : Bus) (l : List FRef) : BusStep s (s.withBus b) l := ⟨fun _ _ _ => rfl, RegsBut.of_regs rfl _, _, _, rfl⟩

/-! A sample of the bus (R240, R241). -/

/-- The sample shows: the voltage, its peak, the current and the undervoltage flag (R240). -/
def busShown (s : State) (v i : Nat) : State :=
  let u := s.us [(R.SPN_BUS_VOLT_VOLT, v), (R.SPN_BUS_VOLT_PEAK, max v (s.g R.SPN_BUS_VOLT_PEAK)), (R.SPN_BUS_CHOP_CURRENT, i)]
  u.u R.SPN_BUS_STATUS_UV (if v < 1800 then 1 else if 1850 ≤ v then 0 else u.g R.SPN_BUS_STATUS_UV)

/-- The chopper turns on and off (R241, R242). -/
def chopSwitched (s : State) (v : Nat) : State :=
  if !chopControlled s then s.u R.SPN_BUS_STATUS_CHOP_ON 0
  else if !s.on R.SPN_BUS_STATUS_CHOP_ON ∧ 2700 ≤ v then
    ((s.withBus { s.bus with chopOn := s.now }).u R.SPN_BUS_STATUS_CHOP_ON 1).bump R.SPN_BUS_CNT_CHOP
  else if s.on R.SPN_BUS_STATUS_CHOP_ON ∧ v ≤ 2650 ∧ s.bus.chopOn + 20000 ≤ s.now then s.u R.SPN_BUS_STATUS_CHOP_ON 0
  else s

/-- The regeneration limit is set and cleared (R241). -/
def regenSwitched (s : State) (v : Nat) : State :=
  if !s.on R.SPN_BUS_STATUS_REGEN_LIMIT ∧ 2850 ≤ v then (s.u R.SPN_BUS_STATUS_REGEN_LIMIT 1).bump R.SPN_BUS_CNT_REGEN
  else if v ≤ 2800 then s.u R.SPN_BUS_STATUS_REGEN_LIMIT 0 else s

/-- The stages of a sample. -/
theorem busSample_eq {v i : Nat} (hv : v < 4096) (hi : i < 4096) (s : State) : ∃ b b' : Bus,
    busSample v i s = (regenSwitched ((chopSwitched (busShown s v i) v).withBus b) v).withBus b' := by
  have hv' : min v 4095 = v := by omega
  have hi' : min i 4095 = i := by omega
  unfold busSample
  rw [hv', hi']
  exact ⟨_, _, rfl⟩

theorem State.g_u_fits (s : State) {f : FRef} {v : Nat} (hf : f.lo + f.w ≤ 32) (hv : v < 2 ^ f.w) : (s.u f v).g f = v :=
  (s.g_u_self f v hf).trans (Nat.mod_eq_of_lt hv)

/-- What the sample shows of the voltage, its peak, the current and the undervoltage. -/
theorem busShown_shows (s : State) {v i : Nat} (hv : v < 4096) (hi : i < 4096) :
    let t := busShown s v i
    t.g R.SPN_BUS_VOLT_VOLT = v ∧ t.g R.SPN_BUS_VOLT_PEAK = max v (s.g R.SPN_BUS_VOLT_PEAK) ∧ t.g R.SPN_BUS_CHOP_CURRENT = i ∧
      (v < 1800 → t.on R.SPN_BUS_STATUS_UV = true) ∧ (1850 ≤ v → t.on R.SPN_BUS_STATUS_UV = false) ∧
      BusStep s t [R.SPN_BUS_VOLT_VOLT, R.SPN_BUS_VOLT_PEAK, R.SPN_BUS_CHOP_CURRENT, R.SPN_BUS_STATUS_UV] := by
  let s₁ := s.u R.SPN_BUS_VOLT_VOLT v
  let s₂ := s₁.u R.SPN_BUS_VOLT_PEAK (max v (s.g R.SPN_BUS_VOLT_PEAK))
  let s₃ := s₂.u R.SPN_BUS_CHOP_CURRENT i
  let q := if v < 1800 then 1 else if 1850 ≤ v then 0 else s₃.g R.SPN_BUS_STATUS_UV
  have heq : busShown s v i = s₃.u R.SPN_BUS_STATUS_UV q := rfl
  have hpeak : max v (s.g R.SPN_BUS_VOLT_PEAK) < 4096 := by
    have hold : s.g R.SPN_BUS_VOLT_PEAK < 4096 := Nat.mod_lt _ (by decide)
    omega
  have h₁ := busStep_u s R.SPN_BUS_VOLT_VOLT v
  have h₂ := busStep_u s₁ R.SPN_BUS_VOLT_PEAK (max v (s.g R.SPN_BUS_VOLT_PEAK))
  have h₃ := busStep_u s₂ R.SPN_BUS_CHOP_CURRENT i
  have h₄ := busStep_u s₃ R.SPN_BUS_STATUS_UV q
  refine ⟨?volt, ?peak, ?current, fun h => ?low, fun h => ?high, ?step⟩
  all_goals rw [heq]
  case volt => exact ((h₂.trans h₃).trans h₄).fields _ (by decide) (by decide) |>.trans (s.g_u_fits (by decide) hv)
  case peak => exact (h₃.trans h₄).fields _ (by decide) (by decide) |>.trans (s₁.g_u_fits (by decide) hpeak)
  case current => exact h₄.fields _ (by decide) (by decide) |>.trans (s₂.g_u_fits (by decide) hi)
  case low =>
    have hq : q = 1 := if_pos h
    rw [hq]
    exact State.on_u_self s₃ (by decide) true
  case high =>
    have hq : q = 0 := (if_neg (by omega)).trans (if_pos h)
    rw [hq]
    exact State.on_u_self s₃ (by decide) false
  case step => exact ((h₁.trans h₂).trans h₃).trans h₄

theorem chopSwitched_step (s : State) (v : Nat) : BusStep s (chopSwitched s v) [R.SPN_BUS_STATUS_CHOP_ON, R.SPN_BUS_CNT_CHOP_COUNT] := by
  have hoff : BusStep s (s.u R.SPN_BUS_STATUS_CHOP_ON 0) [R.SPN_BUS_STATUS_CHOP_ON, R.SPN_BUS_CNT_CHOP_COUNT] :=
    (busStep_u s _ 0).mono (List.cons_subset_cons _ (List.nil_subset _))
  unfold chopSwitched
  split
  · exact hoff
  · split
    · exact ((busStep_withBus s _ []).trans (busStep_u _ R.SPN_BUS_STATUS_CHOP_ON 1)).trans (busStep_bump _ (f := R.SPN_BUS_CNT_CHOP_COUNT) (by decide))
    · split
      · exact hoff
      · exact BusStep.refl s _

/-- The chopper is on from 27.0 V while the bus unit controls it (R241). -/
theorem chopSwitched_on {s : State} {v : Nat} (hctl : chopControlled s = true) (hv : 2700 ≤ v) :
    (chopSwitched s v).on R.SPN_BUS_STATUS_CHOP_ON = true := by
  have hlow : ¬ v ≤ 2650 := by omega
  by_cases hon : s.on R.SPN_BUS_STATUS_CHOP_ON
  · simp [chopSwitched, hctl, hon, hlow]
  · have heq : chopSwitched s v =
        ((s.withBus { s.bus with chopOn := s.now }).u R.SPN_BUS_STATUS_CHOP_ON 1).bump R.SPN_BUS_CNT_CHOP := by
      simp [chopSwitched, hctl, hon, hv]
    rw [heq]
    exact ((busStep_bump _ (f := R.SPN_BUS_CNT_CHOP_COUNT) (by decide)).on (by decide) (by decide)).trans (State.on_u_self _ (by decide) true)

/-- The chopper is off at 26.5 V once its 20 µs have passed, or when the bus unit does not control it (R241, R242). -/
theorem chopSwitched_off {s : State} {v : Nat} (hv : v ≤ 2650) (hnow : s.bus.chopOn + 20000 ≤ s.now) :
    (chopSwitched s v).on R.SPN_BUS_STATUS_CHOP_ON = false := by
  have hoff : (s.u R.SPN_BUS_STATUS_CHOP_ON 0).on R.SPN_BUS_STATUS_CHOP_ON = false := State.on_u_self s (by decide) false
  have hhigh : ¬ 2700 ≤ v := by omega
  unfold chopSwitched
  split
  · exact hoff
  · rw [if_neg (fun h => hhigh h.2)]
    split
    · exact hoff
    next h => exact Bool.eq_false_iff.mpr fun hon => h ⟨hon, hv, hnow⟩

theorem regenSwitched_step (s : State) (v : Nat) : BusStep s (regenSwitched s v) [R.SPN_BUS_STATUS_REGEN_LIMIT, R.SPN_BUS_CNT_REGEN_COUNT] := by
  unfold regenSwitched
  split
  · exact (busStep_u s R.SPN_BUS_STATUS_REGEN_LIMIT 1).trans (busStep_bump _ (f := R.SPN_BUS_CNT_REGEN_COUNT) (by decide))
  · split
    · exact (busStep_u s _ 0).mono (List.cons_subset_cons _ (List.nil_subset _))
    · exact BusStep.refl s _

/-- The regeneration limit is set from 28.5 V and counted (R241). -/
theorem regenSwitched_set {s : State} {v : Nat} (hlim : s.on R.SPN_BUS_STATUS_REGEN_LIMIT = false) (hv : 2850 ≤ v) :
    (regenSwitched s v).on R.SPN_BUS_STATUS_REGEN_LIMIT = true ∧ Counted s (regenSwitched s v) R.SPN_BUS_CNT_REGEN 1 := by
  have heq : regenSwitched s v = (s.u R.SPN_BUS_STATUS_REGEN_LIMIT 1).bump R.SPN_BUS_CNT_REGEN := by simp [regenSwitched, hlim, hv]
  rw [heq]
  exact ⟨((busStep_bump _ (f := R.SPN_BUS_CNT_REGEN_COUNT) (by decide)).on (by decide) (by decide)).trans (State.on_u_self s (by decide) true),
    (counted_bump _ _).after (regsBut_u s R.SPN_BUS_STATUS_REGEN_LIMIT 1) (by decide)⟩

/-- The regeneration limit is cleared at 28.0 V (R241). -/
theorem regenSwitched_cleared {s : State} {v : Nat} (hv : v ≤ 2800) : (regenSwitched s v).on R.SPN_BUS_STATUS_REGEN_LIMIT = false := by
  have hhigh : ¬ 2850 ≤ v := by omega
  have heq : regenSwitched s v = s.u R.SPN_BUS_STATUS_REGEN_LIMIT 0 := by simp [regenSwitched, hv, hhigh]
  rw [heq]
  exact State.on_u_self s (by decide) false

/-- What a sample of the bus shows, and what it leaves alone. -/
theorem busSample_shows (s : State) {v i : Nat} (hv : v < 4096) (hi : i < 4096) :
    let t := busSample v i s
    t.g R.SPN_BUS_VOLT_VOLT = v ∧ t.g R.SPN_BUS_VOLT_PEAK = max v (s.g R.SPN_BUS_VOLT_PEAK) ∧ t.g R.SPN_BUS_CHOP_CURRENT = i ∧
      (v < 1800 → t.on R.SPN_BUS_STATUS_UV = true) ∧ (1850 ≤ v → t.on R.SPN_BUS_STATUS_UV = false) ∧
      (chopControlled s = true → 2700 ≤ v → t.on R.SPN_BUS_STATUS_CHOP_ON = true) ∧
      (v ≤ 2650 → s.bus.chopOn + 20000 ≤ s.now → t.on R.SPN_BUS_STATUS_CHOP_ON = false) ∧
      (s.on R.SPN_BUS_STATUS_REGEN_LIMIT = false → 2850 ≤ v → t.on R.SPN_BUS_STATUS_REGEN_LIMIT = true ∧ Counted s t R.SPN_BUS_CNT_REGEN 1) ∧
      (v ≤ 2800 → t.on R.SPN_BUS_STATUS_REGEN_LIMIT = false) ∧
      RegsBut s t [R.SPN_BUS_VOLT, R.SPN_BUS_CHOP, R.SPN_BUS_STATUS, R.SPN_BUS_CNT_CHOP, R.SPN_BUS_CNT_REGEN] ∧
      t = { s with regs := t.regs, bus := t.bus } := by
  intro t
  obtain ⟨b, b', heq⟩ := busSample_eq hv hi s
  have ht : t = (regenSwitched ((chopSwitched (busShown s v i) v).withBus b) v).withBus b' := heq
  let s₁ := busShown s v i
  let s₂ := chopSwitched s₁ v
  let s₃ : State := s₂.withBus b
  obtain ⟨hvolt, hpeak, hcur, huv, huv', h₁⟩ := busShown_shows s hv hi
  have h₂ : BusStep s₁ s₂ [R.SPN_BUS_STATUS_CHOP_ON, R.SPN_BUS_CNT_CHOP_COUNT] := chopSwitched_step s₁ v
  have h₃ : BusStep s₂ s₃ [] := busStep_withBus s₂ b []
  have h₄ : BusStep s₃ t [R.SPN_BUS_STATUS_REGEN_LIMIT, R.SPN_BUS_CNT_REGEN_COUNT] := by
    rw [ht]
    exact (regenSwitched_step s₃ v).trans (busStep_withBus _ b' [])
  have h₂₄ := (h₂.trans h₃).trans h₄
  have h₁₃ := (h₁.trans h₂).trans h₃
  have h := h₁.trans h₂₄
  have hgen (f : FRef) : t.on f = (regenSwitched s₃ v).on f := by
    rw [ht]
    rfl
  have hctl : chopControlled s₁ = chopControlled s := by
    have hen : s₁.on R.SPN_BUS_CTRL_CHOP_EN = s.on R.SPN_BUS_CTRL_CHOP_EN := h₁.on (by decide) (by decide)
    have hcf : s₁.on R.SPN_BUS_STATUS_CHOP_FAULT = s.on R.SPN_BUS_STATUS_CHOP_FAULT := h₁.on (by decide) (by decide)
    have hcause : s₁.g R.SPN_BUS_STATUS_CHOP_CAUSE = s.g R.SPN_BUS_STATUS_CHOP_CAUSE := h₁.fields _ (by decide) (by decide)
    rw [chopControlled, chopControlled, hen, hcf, hcause]
  have hbus : s₁.bus = s.bus := rfl
  have hnow : s₁.now = s.now := h₁.regs.now (by decide)
  refine ⟨?volt, ?peak, ?current, fun hl => ?low, fun hl => ?high, fun hc hl => ?chopOn, fun hl hn => ?chopOff, fun hr hl => ?regen,
    fun hl => ?release, ?regs, h.eq⟩
  case volt => exact (h₂₄.fields _ (by decide) (by decide)).trans hvolt
  case peak => exact (h₂₄.fields _ (by decide) (by decide)).trans hpeak
  case current => exact (h₂₄.fields _ (by decide) (by decide)).trans hcur
  case low => exact (h₂₄.on (by decide) (by decide)).trans (huv hl)
  case high => exact (h₂₄.on (by decide) (by decide)).trans (huv' hl)
  case chopOn => exact ((h₃.trans h₄).on (by decide) (by decide)).trans (chopSwitched_on (hctl.trans hc) hl)
  case chopOff => exact ((h₃.trans h₄).on (by decide) (by decide)).trans (chopSwitched_off (s := s₁) hl (by rwa [hbus, hnow]))
  case regen =>
    obtain ⟨hset, hcount⟩ := regenSwitched_set (s := s₃) ((h₁₃.on (by decide) (by decide)).trans hr) hl
    refine ⟨(hgen _).trans hset, ?_⟩
    rw [ht]
    exact hcount.after h₁₃.regs (by decide)
  case release => exact (hgen _).trans (regenSwitched_cleared hl)
  case regs => exact h.regs.mono (by decide)

/-! The tests of the chopper (R242). -/

/-- What the test of a cause asks (R242). -/
theorem chopFails_of {s : State} {c : Nat}
    (h : (c = 1 ∧ s.on R.SPN_BUS_STATUS_CHOP_ON = true ∧ s.bus.drawn = false ∧ s.bus.chopOn + 20000 ≤ s.now) ∨
       (c = 2 ∧ s.on R.SPN_BUS_STATUS_CHOP_ON = true ∧ ∃ p q, s.bus.rise.head? = some p ∧ s.bus.rise.getLast? = some q ∧
          p.1 + 1000000 ≤ q.1 ∧ p.2 + 50 < q.2) ∨
       (c = 3 ∧ s.on R.SPN_BUS_STATUS_CHOP_ON = false ∧ ∃ t0, s.bus.stuck = some t0 ∧ t0 + 100000 ≤ s.now)) :
    chopFails s c = true ∧ c < 4 := by
  obtain ⟨rfl, hon, hdrawn, hnow⟩ | ⟨rfl, hon, p, q, hp, hq, ht, hrise⟩ | ⟨rfl, hoff, t, hstuck, hnow⟩ := h
  · exact ⟨by simp [chopFails, hon, hdrawn, hnow], by decide⟩
  · exact ⟨by simp [chopFails, hon, hp, hq, ht, hrise], by decide⟩
  · exact ⟨by simp [chopFails, hoff, hstuck, hnow], by decide⟩

/-- An event logged while the time and what is on its way stand as before. -/
theorem logged_log {s u : State} (hnow : u.now = s.now) (hqtz : u.qtz = s.qtz) (hevl : u.evl = s.evl) (code src : Nat) (args : List Nat) (cause : Nat) :
    Logged s (u.log code src args cause) code src args cause := by
  simp only [Logged, State.log, State.stamp, hnow, hqtz, hevl]

theorem Logged.of_evl {s t u : State} {code src : Nat} {args : List Nat} {cause : Nat} (h : Logged s t code src args cause) (he : u.evl = t.evl) :
    Logged s u code src args cause := by
  rw [Logged, he]
  exact h

theorem BusStep.now {s t : State} {l : List FRef} (h : BusStep s t l) (hl : R.QTZ_TIME_LO ∉ l.map FRef.addr ∧ R.QTZ_TIME_LO + 4 ∉ l.map FRef.addr) :
    t.now = s.now := h.regs.now hl

/-- A fault of the chopper shows its cause, turns it off unless it is stuck on, and is logged (R242). -/
theorem chopperFault_shows {s : State} {c : Nat} (hfault : s.on R.SPN_BUS_STATUS_CHOP_FAULT = false) (hfails : chopFails s c = true) (hc : c < 4) :
    let t := chopperFault c s
    t.on R.SPN_BUS_STATUS_CHOP_FAULT = true ∧ t.g R.SPN_BUS_STATUS_CHOP_CAUSE = c ∧ (c ≠ 3 → t.on R.SPN_BUS_STATUS_CHOP_ON = false) ∧
      Logged s t 0x10B 0xFF [c, s.g R.SPN_BUS_VOLT_VOLT] 0 ∧ RegsBut s t [R.SPN_BUS_STATUS] := by
  let u := (s.u R.SPN_BUS_STATUS_CHOP_FAULT 1).u R.SPN_BUS_STATUS_CHOP_CAUSE c
  let v := if c = 3 then u else u.u R.SPN_BUS_STATUS_CHOP_ON 0
  have heq : chopperFault c s = v.log 0x10B 0xFF [c, v.g R.SPN_BUS_VOLT_VOLT] := by
    simp only [chopperFault, hfault, hfails, Bool.false_eq_true, Bool.not_true, or_self, if_false]
    rfl
  have hset := busStep_u s R.SPN_BUS_STATUS_CHOP_FAULT 1
  have hcause := busStep_u (s.u R.SPN_BUS_STATUS_CHOP_FAULT 1) R.SPN_BUS_STATUS_CHOP_CAUSE c
  have hoff : BusStep u v [R.SPN_BUS_STATUS_CHOP_ON] := by
    by_cases hstuck : c = 3
    · have hv : v = u := if_pos hstuck
      rw [hv]
      exact BusStep.refl u _
    · have hv : v = u.u R.SPN_BUS_STATUS_CHOP_ON 0 := if_neg hstuck
      rw [hv]
      exact busStep_u u R.SPN_BUS_STATUS_CHOP_ON 0
  have h := (hset.trans hcause).trans hoff
  have hvolt : v.g R.SPN_BUS_VOLT_VOLT = s.g R.SPN_BUS_VOLT_VOLT := h.fields _ (by decide) (by decide)
  have hqtz : v.qtz = s.qtz := by rw [h.eq]
  have hevl : v.evl = s.evl := by rw [h.eq]
  simp only [heq, State.log_on, State.log_g]
  refine ⟨?_, ?_, fun hne => ?_, ?_, ?_⟩
  · exact ((hcause.trans hoff).on (by decide) (by decide)).trans (State.on_u_self s (by decide) true)
  · exact (hoff.fields _ (by decide) (by decide)).trans (State.g_u_fits _ (by decide) hc)
  · have hv : v = u.u R.SPN_BUS_STATUS_CHOP_ON 0 := if_neg hne
    rw [hv]
    exact State.on_u_self u (by decide) false
  · rw [hvolt]
    exact logged_log (h.now (by decide)) hqtz hevl _ _ _ _
  · exact h.regs.mono (by decide)

theorem chopperFault_quiet {s : State} {c : Nat} (h : chopFails s c = false) : chopperFault c s = s := if_pos (.inr (by rw [h]; rfl))

theorem chopperClear_shows (s : State) : (chopperClear s).on R.SPN_BUS_STATUS_CHOP_FAULT = false ∧ (chopperClear s).g R.SPN_BUS_STATUS_CHOP_CAUSE = 0 ∧
    OnlyFields s (chopperClear s) R.SPN_BUS_STATUS [R.SPN_BUS_STATUS_CHOP_FAULT, R.SPN_BUS_STATUS_CHOP_CAUSE] := by
  let u := s.u R.SPN_BUS_STATUS_CHOP_FAULT 0
  have heq : chopperClear s = u.u R.SPN_BUS_STATUS_CHOP_CAUSE 0 := rfl
  refine ⟨?_, ?_, onlyFields_us s (by simp; decide)⟩
  · rw [heq, u.on_u_apart 0 (by decide) (by decide)]
    exact State.on_u_self s (by decide) false
  · rw [heq]
    exact u.g_u_fits (by decide) (by decide)

/-! The bridges of a sled go off (R254, R270). -/

/-- The registers that show the state of a sled. -/
def sledRegs (n : Fin 8) : List Nat := [R.SLD_STATUS n, R.SLD_POS n, R.SLD_VEL n]

/-- An operation of a sled: nothing but its registers, the sleds and the free choices has changed. -/
structure SledStep (s t : State) (n : Fin 8) : Prop where
  regs : RegsBut s t (sledRegs n)
  only : ∃ r d f, t = { s with regs := r, sld := d, free := f }

theorem SledStep.trans {s t u : State} {n : Fin 8} (h : SledStep s t n) (h' : SledStep t u n) : SledStep s u n := by
  obtain ⟨_, _, _, rfl⟩ := h.only
  obtain ⟨_, _, _, rfl⟩ := h'.only
  exact ⟨h.regs.andThen h'.regs, _, _, _, rfl⟩

theorem SledStep.refl (s : State) (n : Fin 8) : SledStep s s n := ⟨RegsBut.of_regs rfl _, _, _, _, rfl⟩

theorem SledStep.eq {s t : State} {n : Fin 8} (h : SledStep s t n) : t = { s with regs := t.regs, sld := t.sld, free := t.free } := by
  obtain ⟨_, _, _, rfl⟩ := h.only
  rfl

theorem sledStep_u (s : State) (n : Fin 8) {f : FRef} (v : Nat) (hf : f.addr ∈ sledRegs n) : SledStep s (s.u f v) n :=
  ⟨(regsBut_u s f v).mono (List.cons_subset.mpr ⟨hf, List.nil_subset _⟩), _, _, _, rfl⟩

theorem sledStep_sldU (s : State) (n : Fin 8) (f : Sld → Sld) : SledStep s (s.sldU n f) n := ⟨RegsBut.of_regs rfl _, _, _, _, rfl⟩

theorem sledStep_quantR (s : State) (n : Fin 8) (r : Rat) : SledStep s (s.quantR r).2 n := by
  refine ⟨RegsBut.of_regs (quant_regs s _ _) _, ?_⟩
  unfold State.quantR State.quant
  split
  · exact ⟨_, _, _, rfl⟩
  · exact ⟨_, _, _, rfl⟩

theorem sledStep_slRest (s : State) (n : Fin 8) (st : Nat) : SledStep s (slRest s n st) n := by
  have hunref (t : State) : SledStep t (if st = slUNREF then t.u (R.SLD_STATUS_REFERENCED n) 0 else t) n := by
    split
    · exact sledStep_u t n 0 (List.mem_cons_self ..)
    · exact SledStep.refl t n
  exact ((hunref s).trans (sledStep_u _ n st (List.mem_cons_self ..))).trans (sledStep_sldU _ n _)

theorem sledStep_refreshPos (s : State) (n : Fin 8) : SledStep s (refreshPos s n) n :=
  ((sledStep_quantR s n _).trans (sledStep_u _ n _ (List.mem_cons_of_mem _ (List.mem_cons_self ..)))).trans
    (sledStep_u _ n _ (List.mem_cons_of_mem _ (List.mem_cons_of_mem _ (List.mem_cons_self ..))))

theorem sledStep_bridgeOff (s : State) (n : Fin 8) (st : Nat) : SledStep s (bridgeOff s n st) n := by
  have hfold := (sledStep_sldU s n fun x => { x with geared := x.cmd, pos := (x.cmd : Rat) / q40, prev := (x.cmd : Rat) / q40 }).trans
    (sledStep_sldU (foldGear s n) n fun x => { x with subs := 0, halt := false })
  have hflags (t : State) : SledStep t (t.us [(R.SLD_STATUS_REFERENCED n, 0), (R.SLD_STATUS_CHANGE_ARMED n, 0)]) n :=
    (sledStep_u t n 0 (List.mem_cons_self ..)).trans (sledStep_u _ n 0 (List.mem_cons_self ..))
  exact ((hfold.trans (hflags _)).trans (sledStep_slRest _ n st)).trans (sledStep_refreshPos _ n)

/-- In the block of a station the registers of its sled lie above those of the station, of its spindle and of the bus. -/
theorem not_mem_sledRegs (n : Fin 8) {a : Nat} (ha : a % 0x10000 < 0x5000) : a ∉ sledRegs n := by
  simp only [sledRegs, List.mem_cons, List.not_mem_nil, or_false, R.SLD_STATUS, R.SLD_POS, R.SLD_VEL]
  omega

theorem spnStatus_below_sled (k : Fin 8) : R.SPN_STATUS k % 0x10000 < 0x5000 := by
  unfold R.SPN_STATUS
  omega

/-! The trip of the bus and its release (R241, R243). -/

/-- A loop that keeps an invariant and sets something of each element, which no other turn undoes. -/
theorem State.each_settles {α : Type} {I : State → Prop} {P : α → State → Prop} {k : State → α → State} (hinv : ∀ s x, I s → I (k s x))
    (hset : ∀ s x, I s → P x (k s x)) (hkeep : ∀ s x y, I s → P x s → P x (k s y)) (l : List α) :
    ∀ s, I s → I (s.each l k) ∧ ∀ x ∈ l, P x (s.each l k) := by
  induction l with
  | nil => exact fun _ hs => ⟨hs, fun _ h => absurd h List.not_mem_nil⟩
  | cons y l ih =>
    intro s hs
    have hy : I (k s y) := hinv s y hs
    obtain ⟨hI, hall⟩ := ih (k s y) hy
    refine ⟨hI, fun x hx => ?_⟩
    obtain rfl | hx := List.mem_cons.mp hx
    · exact (State.each_keeps (fun t => I t ∧ P x t) k (fun t z ht => ⟨hinv t z ht.1, hkeep t x z ht.1 ht.2⟩) l _ ⟨hy, hset s x hs⟩).2
    · exact hall x hx

/-- What the trip or its release at one station does not touch: the other stations, the counter of the trips, the bus but its queue, the events. -/
structure StationStep (s t : State) (n : Fin 8) : Prop where
  others : ∀ k : Fin 8, k ≠ n → t.rd (R.SPN_STATUS k) = s.rd (R.SPN_STATUS k) ∧ t.spn[k] = s.spn[k]
  bus : ∀ f : FRef, f.addr = R.SPN_BUS_STATUS → f.lo + f.w ≤ 16 → t.g f = s.g f
  count : t.rd R.SPN_BUS_CNT_TRIP = s.rd R.SPN_BUS_CNT_TRIP
  evl : t.evl = s.evl

theorem StationStep.trans {s t u : State} {n : Fin 8} (h : StationStep s t n) (h' : StationStep t u n) : StationStep s u n :=
  ⟨fun k hk => ⟨((h'.others k hk).1).trans (h.others k hk).1, ((h'.others k hk).2).trans (h.others k hk).2⟩,
    fun f hf hhi => (h'.bus f hf hhi).trans (h.bus f hf hhi), h'.count.trans h.count, h'.evl.trans h.evl⟩

theorem SledStep.station {s t : State} {n : Fin 8} (h : SledStep s t n) : StationStep s t n where
  others k _ := ⟨h.regs _ (not_mem_sledRegs n (spnStatus_below_sled k)), by rw [h.eq]⟩
  bus f hf _ := h.regs.g (hf ▸ not_mem_sledRegs n (by decide))
  count := h.regs _ (not_mem_sledRegs n (by decide))
  evl := by rw [h.eq]

theorem SledStep.spindle {s t : State} {n : Fin 8} (h : SledStep s t n) (k : Fin 8) :
    t.rd (R.SPN_STATUS k) = s.rd (R.SPN_STATUS k) ∧ t.spn = s.spn := ⟨h.regs _ (not_mem_sledRegs n (spnStatus_below_sled k)), by rw [h.eq]⟩

theorem Entered.station {s t : State} {n : Fin 8} {st : Nat} {bridge : Bool} (h : Entered s t n st bridge) : StationStep s t n where
  others k hk := ⟨h.step.regs _ (by simpa [stateRegs] using ⟨status_ne_status hk, (busStatus_ne_status k).symm⟩), h.others k hk⟩
  bus := h.bus
  count := h.step.regs _ (by simp [stateRegs, R.SPN_BUS_CNT_TRIP, R.SPN_STATUS, R.SPN_BUS_STATUS]; omega)
  evl := by rw [h.step.eq]

theorem angleRegs_apart {n k : Fin 8} (h : k ≠ n) : R.SPN_STATUS k ∉ angleRegs n := by
  have hval : k.val ≠ n.val := fun e => h (Fin.ext e)
  simp only [angleRegs, List.mem_cons, List.not_mem_nil, or_false, R.SPN_STATUS, R.WRS_STATUS]
  omega

theorem angleRegs_bus (n : Fin 8) : R.SPN_BUS_STATUS ∉ angleRegs n ∧ R.SPN_BUS_CNT_TRIP ∉ angleRegs n := by
  simp only [angleRegs, List.mem_cons, List.not_mem_nil, or_false, R.SPN_STATUS, R.WRS_STATUS, R.SPN_BUS_STATUS, R.SPN_BUS_CNT_TRIP]
  omega

theorem station_angleInvalid (s : State) (n : Fin 8) : StationStep s (angleInvalid s n) n := by
  obtain ⟨-, -, -, -, hstep, -, -⟩ := angleInvalid_shows s n rfl
  exact ⟨fun k hk => ⟨hstep.regs _ (angleRegs_apart hk), spn_spnU_other _ _ hk⟩, fun f hf _ => hstep.regs.g (hf ▸ (angleRegs_bus n).1),
    hstep.regs _ (angleRegs_bus n).2, by rw [hstep.eq]⟩

/-- What the trip leaves of the intents of a spindle (R241). -/
def Spn.intentsDropped (x : Spn) : Spn := { x with thenAlign := false, thenFault := false, lossTo600 := false, lossShort := false }

theorem station_intentsDropped (s : State) (n : Fin 8) : StationStep s (s.spnU n Spn.intentsDropped) n :=
  ⟨fun _ hk => ⟨rfl, spn_spnU_other _ _ hk⟩, fun _ _ _ => rfl, rfl, rfl⟩

/-- The trip of a spindle: one in FAULT stays there, any other goes to TRIPPED with its bridge off. -/
def spinTripped (s : State) (n : Fin 8) : State :=
  if spSt s n = spFAULT then s else spEnter (s.spnU n Spn.intentsDropped) n spTRIPPED false

/-- The trip of a sled: one in FAULT or OFF stays there, any other goes to OFF. -/
def sledTripped (s : State) (n : Fin 8) : State :=
  if slSt s n = slFAULT ∨ slSt s n = slOFF then s else (bridgeOff s n slOFF).sldU n fun x => { x with tripped := true }

theorem tripStation_eq (s : State) (n : Fin 8) : tripStation s n = sledTripped (spinTripped (angleInvalid s n) n) n := rfl

theorem sledStep_sledTripped (s : State) (n : Fin 8) : SledStep s (sledTripped s n) n := by
  unfold sledTripped
  split
  · exact SledStep.refl s n
  · exact (sledStep_bridgeOff s n slOFF).trans (sledStep_sldU _ n _)

/-- The trip of one station: its spindle, unless in FAULT, is TRIPPED with the bridge off; no angle is valid (R241, R244). -/
theorem tripStation_shows (s : State) (n : Fin 8) :
    let t := tripStation s n
    StationStep s t n ∧ t.on (R.SPN_STATUS_ANGLE_VALID n) = false ∧ (spSt s n = spFAULT → spSt t n = spFAULT) ∧
      (spSt s n ≠ spFAULT → spSt t n = spTRIPPED ∧ (t.spn[n]).bridge = false) := by
  let u := angleInvalid s n
  let v := spinTripped u n
  obtain ⟨hangle, -, -, hstate, -, -, -⟩ := angleInvalid_shows s n (t := u) rfl
  have hsled := sledStep_sledTripped v n
  obtain ⟨hrd, hspn⟩ := hsled.spindle n
  have hst : spSt (sledTripped v n) n = spSt v n := congrArg (getF · _) hrd
  have hon : (sledTripped v n).on (R.SPN_STATUS_ANGLE_VALID n) = v.on (R.SPN_STATUS_ANGLE_VALID n) := congrArg (getF · _ == 1) hrd
  rw [tripStation_eq]
  by_cases hfault : spSt u n = spFAULT
  · have hv : v = u := if_pos hfault
    rw [hv] at hsled hst hon
    have hspin : spinTripped (angleInvalid s n) n = u := hv
    rw [hspin]
    exact ⟨(station_angleInvalid s n).trans hsled.station, hon.trans hangle, fun _ => hst.trans hfault, fun h => absurd (hstate.symm.trans hfault) h⟩
  · have hent := spEnter_entered (u.spnU n Spn.intentsDropped) n (st := spTRIPPED) (by decide) false
    have hv : v = spEnter (u.spnU n Spn.intentsDropped) n spTRIPPED false := if_neg hfault
    rw [← hv] at hent
    refine ⟨(((station_angleInvalid s n).trans (station_intentsDropped u n)).trans hent.station).trans hsled.station, hon.trans ?_,
      fun h => absurd (hstate.trans h) hfault, fun _ => ⟨hst.trans hent.state, ?_⟩⟩
    · rw [hent.on rfl (Nat.le_of_ble_eq_true rfl) (Nat.le_of_ble_eq_true rfl), State.spnU_on]
      exact hangle
    · rw [hspn, hent.drive]

/-- What the trip shows of a station: no valid angle, and a spindle that was not in FAULT in TRIPPED with its bridge off (R241). -/
def OffBy (s t : State) (n : Fin 8) : Prop :=
  t.on (R.SPN_STATUS_ANGLE_VALID n) = false ∧ (spSt s n ≠ spFAULT → spSt t n = spTRIPPED ∧ (t.spn[n]).bridge = false)

/-- A trip of the bus gates off every spindle that is not in FAULT, and ends every angle (R241). -/
theorem tripAll_shows (s : State) :
    let t := s.each stations tripStation
    (∀ f : FRef, f.addr = R.SPN_BUS_STATUS → f.lo + f.w ≤ 16 → t.g f = s.g f) ∧
      t.rd R.SPN_BUS_CNT_TRIP = s.rd R.SPN_BUS_CNT_TRIP ∧ t.evl = s.evl ∧ ∀ n : Fin 8, OffBy s t n := by
  have hstep (u : State) (k : Fin 8) : StationStep u (tripStation u k) k := (tripStation_shows u k).1
  have hinv (u : State) (k : Fin 8) (hu : ∀ n : Fin 8, spSt s n ≠ spFAULT → spSt u n ≠ spFAULT) (n : Fin 8) (hn : spSt s n ≠ spFAULT) :
      spSt (tripStation u k) n ≠ spFAULT := by
    obtain rfl | hne := eq_or_ne n k
    · obtain ⟨-, -, -, htrip⟩ := tripStation_shows u n
      rw [(htrip (hu n hn)).1]
      decide
    · exact (congrArg (getF · _) ((hstep u k).others n hne).1).trans_ne (hu n hn)
  have hset (u : State) (n : Fin 8) (hu : ∀ n : Fin 8, spSt s n ≠ spFAULT → spSt u n ≠ spFAULT) : OffBy s (tripStation u n) n := by
    obtain ⟨-, hangle, -, htrip⟩ := tripStation_shows u n
    exact ⟨hangle, fun hn => htrip (hu n hn)⟩
  have hkeep (u : State) (n k : Fin 8) (hu : ∀ n : Fin 8, spSt s n ≠ spFAULT → spSt u n ≠ spFAULT) (hn : OffBy s u n) :
      OffBy s (tripStation u k) n := by
    obtain rfl | hne := eq_or_ne n k
    · exact hset u n hu
    · obtain ⟨hrd, hspn⟩ := (hstep u k).others n hne
      obtain ⟨hangle, htrip⟩ := hn
      refine ⟨(congrArg (getF · _ == 1) hrd).trans hangle, fun h => ?_⟩
      rw [hspn]
      exact ⟨(congrArg (getF · _) hrd).trans (htrip h).1, (htrip h).2⟩
  obtain ⟨-, hall⟩ := State.each_settles hinv hset hkeep stations s fun _ h => h
  refine ⟨fun f hf hhi => ?_, ?_, ?_, fun n => hall n (mem_stations n)⟩
  · exact s.each_proj (fun u => u.g f) _ (fun u k => (hstep u k).bus f hf hhi) _
  · exact s.each_proj (fun u => u.rd R.SPN_BUS_CNT_TRIP) _ (fun u k => (hstep u k).count) _
  · exact s.each_proj State.evl _ (fun u k => (hstep u k).evl) _

/-- What a trip of the bus shows. -/
theorem busTrip_shows {s : State} (hoff : s.on R.SPN_BUS_STATUS_TRIPPED = false) (v : Nat) :
    let t := busTrip v s
    t.on R.SPN_BUS_STATUS_TRIPPED = true ∧ Counted s t R.SPN_BUS_CNT_TRIP 1 ∧
      Logged s t 0x10A 0xFF [max v (s.g R.SPN_BUS_VOLT_VOLT), s.g R.SPN_BUS_STATUS_LOSS_QUEUE] 0 ∧
      ∀ n : Fin 8, OffBy s t n := by
  let p := s.log 0x10A 0xFF [max v (s.g R.SPN_BUS_VOLT_VOLT), s.g R.SPN_BUS_STATUS_LOSS_QUEUE]
  obtain ⟨b, heq⟩ : ∃ b, busTrip v s = (((p.u R.SPN_BUS_STATUS_TRIPPED 1).bump R.SPN_BUS_CNT_TRIP).withBus b).each stations tripStation := by
    unfold busTrip
    rw [if_neg (Bool.eq_false_iff.mp hoff)]
    exact ⟨_, rfl⟩
  let q := ((p.u R.SPN_BUS_STATUS_TRIPPED 1).bump R.SPN_BUS_CNT_TRIP).withBus b
  have hbump : BusStep (p.u R.SPN_BUS_STATUS_TRIPPED 1) q [R.SPN_BUS_CNT_TRIP_COUNT] :=
    (busStep_bump _ (f := R.SPN_BUS_CNT_TRIP_COUNT) (by decide)).trans (busStep_withBus _ b [])
  have hq : BusStep p q _ := (busStep_u p R.SPN_BUS_STATUS_TRIPPED 1).trans hbump
  obtain ⟨hbus, hcount, hevl, hall⟩ := tripAll_shows q
  rw [heq]
  refine ⟨?_, ?_, ?_, fun n => ⟨(hall n).1, fun hn => (hall n).2 ?_⟩⟩
  · exact (congrArg (· == 1) (hbus R.SPN_BUS_STATUS_TRIPPED rfl (by decide))).trans
      ((hbump.on (by decide) (by decide)).trans (State.on_u_self p (by decide) true))
  · have hc := (counted_bump (p.u R.SPN_BUS_STATUS_TRIPPED 1) R.SPN_BUS_CNT_TRIP).before (busStep_withBus _ b []).regs (by decide)
    have hq' : Counted p q R.SPN_BUS_CNT_TRIP 1 := hc.after (regsBut_u p R.SPN_BUS_STATUS_TRIPPED 1) (by decide)
    exact hcount.trans hq'
  · have hlog : Logged s p 0x10A 0xFF [max v (s.g R.SPN_BUS_VOLT_VOLT), s.g R.SPN_BUS_STATUS_LOSS_QUEUE] 0 := logged_log rfl rfl rfl _ _ _ _
    have hqevl : q.evl = p.evl := by rw [hq.eq]
    exact hlog.of_evl (hevl.trans hqevl)
  · refine (hq.regs.g ?_).trans_ne hn
    simp only [List.map_append, List.map_cons, List.map_nil, List.mem_append, List.mem_cons, List.not_mem_nil, or_false]
    exact not_or.mpr ⟨(busStatus_ne_status n).symm, by
      simp only [R.SPN_STATUS_STATE, R.SPN_STATUS, R.SPN_BUS_CNT_TRIP_COUNT, R.SPN_BUS_CNT_TRIP]
      omega⟩

/-- The release of the trip at a spindle without restart: one in TRIPPED goes to STOPPED (R243). -/
def spinReleased (s : State) (n : Fin 8) : State :=
  if spSt s n ≠ spTRIPPED then s
  else if s.on R.SPN_BUS_CTRL_TRIP_RESTART ∧ s.g (R.SPN_CTRL_SPEED_SEL n) ≠ 0 then measure s n else spStopped s n

/-- The release of the trip at a sled: one that the trip took to OFF is UNREFERENCED (R254). -/
def sledReleased (s : State) (n : Fin 8) : State :=
  if (s.sld[n]).tripped then slRest (s.sldU n fun x => { x with tripped := false }) n slUNREF else s

theorem sledStep_sledReleased (s : State) (n : Fin 8) : SledStep s (sledReleased s n) n := by
  unfold sledReleased
  split
  · exact (sledStep_sldU s n _).trans (sledStep_slRest _ n slUNREF)
  · exact SledStep.refl s n

theorem lossRegs_busCtrl (s : State) (n : Fin 8) : R.SPN_BUS_CTRL ∉ stateRegs n ++ lossRegs s := by
  have hspindle (k : Fin 8) : R.SPN_BUS_CTRL ≠ R.SPN_STATUS k := by
    unfold R.SPN_BUS_CTRL R.SPN_STATUS
    omega
  have hbus : R.SPN_BUS_CTRL ≠ R.SPN_BUS_STATUS := by decide
  unfold lossRegs
  split
  · simp [stateRegs, hspindle n, hbus]
  · simp [stateRegs, hbus, hspindle, fun k : Fin 8 => (hspindle k).symm]

/-- What one station of a release shows: its spindle goes from TRIPPED to STOPPED; a spindle elsewhere that does not wait to brake stands. -/
theorem spinReleased_shows {s : State} (hstay : s.on R.SPN_BUS_CTRL_TRIP_RESTART = false) (n : Fin 8) :
    let t := spinReleased s n
    t.on R.SPN_BUS_CTRL_TRIP_RESTART = false ∧ t.on R.SPN_BUS_STATUS_TRIPPED = s.on R.SPN_BUS_STATUS_TRIPPED ∧
      (spSt s n = spTRIPPED → spSt t n = spSTOPPED) ∧ (spSt s n = spSTOPPED → spSt t n = spSTOPPED) ∧
      ∀ k : Fin 8, k ≠ n → spSt s k ≠ spLOSS_WAIT → spSt t k = spSt s k := by
  by_cases htrip : spSt s n = spTRIPPED
  · have heq : spinReleased s n = spStopped s n := by simp [spinReleased, htrip, hstay]
    have hset : Settled s (spStopped s n) n spSTOPPED false := (spEnter_entered s n (by decide) false).settled (by decide)
    rw [heq]
    exact ⟨(hset.step.regs.on (lossRegs_busCtrl s n)).trans hstay, congrArg (· == 1) (hset.bus R.SPN_BUS_STATUS_TRIPPED rfl (by decide)),
      fun _ => hset.state, fun _ => hset.state, hset.spared⟩
  · have heq : spinReleased s n = s := if_pos htrip
    rw [heq]
    exact ⟨hstay, rfl, fun h => absurd h htrip, id, fun _ _ _ => rfl⟩

/-- What a release keeps at every turn: no restart, the trip over, and each spindle that was in TRIPPED there or in STOPPED. -/
structure Releasing (s t : State) : Prop where
  stay : t.on R.SPN_BUS_CTRL_TRIP_RESTART = false
  ended : t.on R.SPN_BUS_STATUS_TRIPPED = false
  spindles : ∀ n : Fin 8, spSt s n = spTRIPPED → spSt t n = spTRIPPED ∨ spSt t n = spSTOPPED

/-- The release of the trip at a station (R243, R254). -/
def stationReleased (s : State) (n : Fin 8) : State := sledReleased (spinReleased s n) n

theorem stationReleased_spSt (s : State) (n k : Fin 8) : spSt (stationReleased s n) k = spSt (spinReleased s n) k :=
  congrArg (getF · _) ((sledStep_sledReleased (spinReleased s n) n).spindle k).1

theorem Releasing.turn {s t : State} (h : Releasing s t) (n : Fin 8) : Releasing s (stationReleased t n) := by
  obtain ⟨hstay, hover, htrip, hstop, hothers⟩ := spinReleased_shows h.stay n
  have hsled := sledStep_sledReleased (spinReleased t n) n
  refine ⟨(hsled.regs.on (not_mem_sledRegs n (by decide))).trans hstay,
    (hsled.regs.on (not_mem_sledRegs n (by decide))).trans (hover.trans h.ended), fun k hk => ?_⟩
  rw [stationReleased_spSt]
  obtain rfl | hne := eq_or_ne k n
  · exact .inr ((h.spindles k hk).elim htrip hstop)
  · have hwait : spSt t k ≠ spLOSS_WAIT := (h.spindles k hk).elim (fun e => e.trans_ne (by decide)) fun e => e.trans_ne (by decide)
    rw [hothers k hne hwait]
    exact h.spindles k hk

/-- A release of the trip ends TRIPPED and, with no restart, stops every spindle that was in it (R241, R243). -/
theorem busTripRelease_shows {s : State} {t₀ : Nat} (hbelow : s.bus.below = some t₀) (htrip : s.on R.SPN_BUS_STATUS_TRIPPED = true)
    (hnow : t₀ + 10000000 ≤ s.now) (hstay : s.on R.SPN_BUS_CTRL_TRIP_RESTART = false) :
    (busTripRelease s).on R.SPN_BUS_STATUS_TRIPPED = false ∧ ∀ n : Fin 8, spSt s n = spTRIPPED → spSt (busTripRelease s) n = spSTOPPED := by
  let u := s.u R.SPN_BUS_STATUS_TRIPPED 0
  have heq : busTripRelease s = u.each stations stationReleased := by
    simp only [busTripRelease, hbelow, htrip, Bool.not_true, Bool.false_eq_true, false_or, if_neg (Nat.not_lt.mpr hnow)]
    rfl
  have hstart : Releasing s u := by
    have hreg := regsBut_u s R.SPN_BUS_STATUS_TRIPPED 0
    exact ⟨(hreg.on (by decide)).trans hstay, State.on_u_self s (by decide) false,
      fun n hn => .inl ((hreg.g (mt List.mem_singleton.mp (busStatus_ne_status n).symm)).trans hn)⟩
  have hset (t : State) (n : Fin 8) (ht : Releasing s t) (hn : spSt s n = spTRIPPED) : spSt (stationReleased t n) n = spSTOPPED := by
    obtain ⟨-, -, htripped, hstopped, -⟩ := spinReleased_shows ht.stay n
    rw [stationReleased_spSt]
    exact (ht.spindles n hn).elim htripped hstopped
  have hkeep (t : State) (n k : Fin 8) (ht : Releasing s t) (h : spSt s n = spTRIPPED → spSt t n = spSTOPPED) (hn : spSt s n = spTRIPPED) :
      spSt (stationReleased t k) n = spSTOPPED := by
    obtain rfl | hne := eq_or_ne n k
    · exact hset t n ht hn
    · obtain ⟨-, -, -, -, hothers⟩ := spinReleased_shows ht.stay k
      rw [stationReleased_spSt, hothers n hne ((h hn).trans_ne (by decide)), h hn]
  obtain ⟨hend, hall⟩ := State.each_settles (fun t n ht => ht.turn n) hset hkeep stations u hstart
  rw [heq]
  exact ⟨hend.ended, fun n => hall n (mem_stations n)⟩

theorem busTripRelease_early {s : State} {t₀ : Nat} (hbelow : s.bus.below = some t₀) (hnow : s.now < t₀ + 10000000) : busTripRelease s = s := by
  simp [busTripRelease, hbelow, hnow]

/-! The safe speed (R294). -/

theorem safeSpeed_switching {s : State} {n : Fin 8} (h : (s.spn[n]).bridge = true) : safeSpeed n s = s := if_pos h

theorem safeSpeed_shows {s : State} {n : Fin 8} (h : (s.spn[n]).bridge = false) :
    ((safeSpeed n s).stn[n]).slow = decide (((emfSpeed s n).natAbs : Int) < rpm 60) ∧ RegsBut s (safeSpeed n s) [R.STN_STATUS n] := by
  let u := s.stnU n fun x => { x with slow := decide (((emfSpeed s n).natAbs : Int) < rpm 60) }
  have heq : safeSpeed n s = refreshSafe u n := if_neg (Bool.eq_false_iff.mp h)
  have hstn : (refreshSafe u n).stn = vmod s.stn n fun x => { x with slow := decide (((emfSpeed s n).natAbs : Int) < rpm 60) } := rfl
  rw [heq]
  refine ⟨?_, fun a ha => regsBut_u u (R.STN_STATUS_SAFE n) _ a ha⟩
  rw [hstn, vmod_self]

/-- Settles O26: each unit of the motor bus does what R240 to R243 and R294 name. -/
theorem motorBusUnit : Obligations.MotorBusUnit := by
  unfold Obligations.MotorBusUnit
  intro s hs
  refine ⟨fun v i hv hi => ?sample, fun c hfault hfails => ?fault, fun c hquiet => ?quiet, ?clear,
    fun v => ⟨fun htrip => ?tripped, fun hoff => ?trip⟩, fun t₀ hbelow htrip => ⟨fun hearly => ?early, fun hnow hstay => ?release⟩,
    fun n => ⟨fun hon => ?switching, fun hoff => ?safe⟩⟩
  case sample => exact does_of_answer hs rfl (busSample_shows s hv hi)
  case fault =>
    obtain ⟨hc, hc'⟩ := chopFails_of hfails
    exact does_of_answer hs rfl (chopperFault_shows hfault hc hc')
  case quiet => exact (answer_live _ hs).trans (congrArg _ (chopperFault_quiet hquiet))
  case clear => exact does_of_answer hs rfl (chopperClear_shows s)
  case tripped => exact (answer_live _ hs).trans (congrArg _ (if_pos htrip))
  case trip => exact does_of_answer hs rfl (busTrip_shows hoff v)
  case early => exact (answer_live _ hs).trans (congrArg _ (busTripRelease_early hbelow hearly))
  case release => exact does_of_answer hs rfl (busTripRelease_shows hbelow htrip hnow hstay)
  case switching => exact (answer_live _ hs).trans (congrArg _ (safeSpeed_switching hon))
  case safe => exact does_of_answer hs rfl (safeSpeed_shows hoff)

end Sys2Proof.Machine
/-!
PROOF. O25: the angle and the speed of a spindle (R224 to R246). First a PWM period, step by step as the model takes it, then the encoder and the
observer, then the reference and the regulation, then the obligation.
-/

namespace Sys2Proof.Machine

/-! Free choices and fields of a spindle. -/

theorem quant_spn (s : State) (num den : Int) : (s.quant num den).2.spn = s.spn := by
  unfold State.quant
  split <;> rfl

theorem quantR_regs (s : State) (r : Rat) : (s.quantR r).2.regs = s.regs := quant_regs s _ _

theorem quantR_spn (s : State) (r : Rat) : (s.quantR r).2.spn = s.spn := quant_spn s _ _

/-- A value that is rounded lies within 1 of what it rounds. -/
theorem quantR_near (s : State) (r : Rat) : r < ((s.quantR r).1 : Rat) + 1 ∧ ((s.quantR r).1 : Rat) < r + 1 := by
  have hfloor : r.num / r.den = ⌊r⌋ := Rat.floor_def'.symm
  have hle : ((⌊r⌋ : Int) : Rat) ≤ r := Int.floor_le r
  have hlt : r < ((⌊r⌋ : Int) : Rat) + 1 := Int.lt_floor_add_one r
  unfold State.quantR State.quant
  split
  · rw [hfloor]
    exact ⟨hlt, by linarith⟩
  next hrem =>
    have hne : ((⌊r⌋ : Int) : Rat) ≠ r := fun h => hrem (by
      have hden : r.den = 1 := by rw [← h]; exact Rat.den_intCast _
      rw [hden]
      exact Int.emod_one _)
    have hstrict : ((⌊r⌋ : Int) : Rat) < r := lt_of_le_of_ne hle hne
    rw [hfloor]
    obtain h | h := Nat.mod_two_eq_zero_or_one s.freeVal
    · simp only [h]
      push_cast
      constructor <;> linarith
    · simp only [h]
      push_cast
      constructor <;> linarith

/-- What the measurement and the observer put into a spindle in a PWM period: duty, speed, currents, angle and back-EMF (R224, R227). -/
def Spn.figures (x : Spn) : Vector Rat 3 × Rat × (Rat × Rat) × Nat × (Rat × Rat) := (x.duty, x.obsSpeed, x.amps, x.elecOld, x.emf)

/-! A PWM period up to its braking (R224, R227). -/

/-- The registers that a PWM period writes beside those of braking. -/
def pwmRegs (n : Fin 8) : List Nat := [R.SPN_SPEED n, R.SPN_STATUS n, R.SPN_CNT_VSAT n]

/-- What a stage of a PWM period leaves alone: all registers but those of the period, and the state of the spindle. -/
structure PwmStage (s t : State) (n : Fin 8) : Prop where
  regs : RegsBut s t (pwmRegs n)
  state : spSt t n = spSt s n

theorem PwmStage.trans {s t u : State} {n : Fin 8} (h : PwmStage s t n) (h' : PwmStage t u n) : PwmStage s u n :=
  ⟨h.regs.andThen h'.regs, h'.state.trans h.state⟩

theorem PwmStage.of_regs {s t : State} (n : Fin 8) (h : t.regs = s.regs) : PwmStage s t n :=
  ⟨RegsBut.of_regs h _, (RegsBut.of_regs h []).g List.not_mem_nil⟩

theorem vsat_ne_status (n : Fin 8) : R.SPN_STATUS n ≠ R.SPN_CNT_VSAT n := by
  unfold R.SPN_STATUS R.SPN_CNT_VSAT
  omega

theorem status_ne_speed (n : Fin 8) : R.SPN_STATUS n ≠ R.SPN_SPEED n := by
  unfold R.SPN_STATUS R.SPN_SPEED
  omega

theorem speed_ne_vsat (n : Fin 8) : R.SPN_SPEED n ≠ R.SPN_CNT_VSAT n := by
  unfold R.SPN_SPEED R.SPN_CNT_VSAT
  omega

/-- The voltage that the current slots ask for, and the count of its limit (R224). -/
theorem voltageOf_shows (s : State) (n : Fin 8) : let t := (voltageOf s n).2.2
    RegsBut s t [R.SPN_STATUS n, R.SPN_CNT_VSAT n] ∧ spSt t n = spSt s n ∧ t.spn = s.spn := by
  unfold voltageOf
  dsimp only
  split
  next =>
    generalize hd : s.quant (outFor s n tyCURD * 2 ^ 23) (max 1 (isqrt (outFor s n tyCURD * outFor s n tyCURD +
      outFor s n tyCURQ * outFor s n tyCURQ).toNat) : Nat) = d
    generalize hq : d.2.quant (outFor s n tyCURQ * 2 ^ 23) (max 1 (isqrt (outFor s n tyCURD * outFor s n tyCURD +
      outFor s n tyCURQ * outFor s n tyCURQ).toNat) : Nat) = q
    have hregs : q.2.regs = s.regs := by rw [← hq, quant_regs, ← hd, quant_regs]
    have hspn : q.2.spn = s.spn := by rw [← hq, quant_spn, ← hd, quant_spn]
    refine ⟨?_, ?_, hspn⟩
    · exact (RegsBut.of_regs hregs []).trans ((regsBut_u q.2 (R.SPN_STATUS_VSAT n) 1).trans (regsBut_bump _ (R.SPN_CNT_VSAT n)))
    · refine ((regsBut_bump _ _).g (mt List.mem_singleton.mp (vsat_ne_status n))).trans ?_
      exact (State.g_u_apart _ _ (.inr (.inr (Nat.le_of_ble_eq_true rfl))) (Nat.le_of_ble_eq_true rfl)).trans
        ((RegsBut.of_regs hregs []).g List.not_mem_nil)
  · exact ⟨RegsBut.of_regs rfl _, rfl, rfl⟩

/-- The observer moves: it keeps the currents and takes the back-EMF of the sample (R227). -/
theorem observe_shows (s : State) (n : Fin 8) (v i : Rat × Rat) :
    let t := observe s n v i
    t.regs = s.regs ∧ (t.spn[n]).amps = i ∧ (t.spn[n]).emf = backEmf s n v i (s.spn[n]).amps ∧ (t.spn[n]).lossTo600 = (s.spn[n]).lossTo600 := by
  obtain ⟨b, f, heq, hf⟩ : ∃ (b : Bool) (f : Spn → Spn), observe s n v i = (if b then s.tick else s).spnU n f ∧
      ∀ y, (f y).amps = i ∧ (f y).emf = backEmf s n v i (s.spn[n]).amps ∧ (f y).lossTo600 = y.lossTo600 :=
    ⟨_, _, rfl, fun _ => ⟨rfl, rfl, rfl⟩⟩
  obtain ⟨hregs, hspn⟩ : (if b then s.tick else s).regs = s.regs ∧ (if b then s.tick else s).spn = s.spn := by
    split
    · exact ⟨rfl, rfl⟩
    · exact ⟨rfl, rfl⟩
  obtain ⟨hamps, hemf, hloss⟩ := hf (if b then s.tick else s).spn[n]
  have hself : (observe s n v i).spn[n] = f (if b then s.tick else s).spn[n] := by rw [heq, spn_spnU_self]
  refine ⟨?_, ?_, ?_, ?_⟩
  · rw [heq]
    exact hregs
  · rw [hself]
    exact hamps
  · rw [hself]
    exact hemf
  · rw [hself, hloss, hspn]

/-- SPN_SPEED shows the observer's speed, but in MEASURE (R246). -/
theorem showSpeed_shows (s : State) (n : Fin 8) : let t := showSpeed s n
    PwmStage s t n ∧ t.spn = s.spn ∧ (spSt s n = spMEASURE → t.rd (R.SPN_SPEED n) = s.rd (R.SPN_SPEED n)) ∧
      (spSt s n ≠ spMEASURE → t.gi (R.SPN_SPEED_SPEED n) = sat24 (s.quantR (s.spn[n]).obsSpeed).1) := by
  by_cases hst : spSt s n = spMEASURE
  · have heq : showSpeed s n = s := if_pos hst
    rw [heq]
    exact ⟨PwmStage.of_regs n rfl, rfl, fun _ => rfl, fun h => absurd hst h⟩
  · let q := s.quantR (s.spn[n]).obsSpeed
    have heq : showSpeed s n = q.2.ui (R.SPN_SPEED_SPEED n) (sat24 q.1) := if_neg hst
    have hq : PwmStage s q.2 n := PwmStage.of_regs n (quantR_regs s _)
    have hu : PwmStage q.2 (showSpeed s n) n := by
      have hreg := regsBut_u q.2 (R.SPN_SPEED_SPEED n) (ofSigned 24 (sat24 q.1))
      rw [heq]
      exact ⟨hreg.mono (by simp [pwmRegs, R.SPN_SPEED_SPEED]), hreg.g (mt List.mem_singleton.mp (status_ne_speed n))⟩
    refine ⟨hq.trans hu, ?_, fun h => absurd h hst, fun _ => ?_⟩
    · rw [heq]
      exact quantR_spn s _
    · rw [heq]
      exact gi_ui_24 q.2 ⟨Nat.le_of_ble_eq_true rfl, rfl⟩ (sat24_bounds _)

theorem driveAngle_stands (s : State) (n : Fin 8) : (driveAngle s n).2.2.regs = s.regs ∧ (driveAngle s n).2.2.spn = s.spn := by
  unfold driveAngle
  dsimp only
  split
  · exact ⟨rfl, rfl⟩
  · split
    · exact ⟨quantR_regs s _, quantR_spn s _⟩
    · exact ⟨rfl, rfl⟩

theorem dqOf_stands (s : State) (n : Nat) (ia ib ic : Int) (elec : Nat) :
    (dqOf s n ia ib ic elec).2.2.regs = s.regs ∧ (dqOf s n ia ib ic elec).2.2.spn = s.spn :=
  ⟨(quantR_regs _ _).trans (quantR_regs s _), (quantR_spn _ _).trans (quantR_spn s _)⟩

/-- How far the drive angle goes on from the sample before to the middle of the period, after the voltage is limited (R224). -/
def pwmAhead (s : State) (n : Fin 8) : Int × State :=
  (voltageOf s n).2.2.quantR (elecTurn (voltageOf s n).2.2 n (s.spn[n]).rateOld 50000)

/-- The duty of the period: none while the bridge is off or shorted (R224, R239). -/
def pwmDuty (s : State) (n : Fin 8) : Vector Rat 3 :=
  if (s.spn[n]).bridge && spSt s n != spSHORT then
    modulate (pwmAhead s n).2 n (voltageOf s n).1 (voltageOf s n).2.1 (((s.spn[n]).elecOld : Int) + (pwmAhead s n).1) (s.spn[n]).phase[0]
      (s.spn[n]).phase[1] (s.spn[n]).phase[2]
  else #v[0, 0, 0]

/-- The inputs of a PWM period: the phase currents, the bus voltage and the voltages sensed. -/
structure PwmInputs where
  ia : Int
  ib : Int
  ic : Int
  vbus : Nat
  va : Int
  vb : Int
  vc : Int

/-- The voltages of the period, driven or sensed (R227). -/
def PwmInputs.volts (i : PwmInputs) (s : State) (n : Fin 8) : Rat × Rat := phaseVolts (pwmAhead s n).2 n (pwmDuty s n) i.vbus i.va i.vb i.vc

/-- The currents of its sample (R224). -/
def PwmInputs.amps (i : PwmInputs) (s : State) (n : Fin 8) : Rat × Rat :=
  clarke (pwmAhead s n).2 n (phaseAmps (pwmAhead s n).2 n i.ia) (phaseAmps (pwmAhead s n).2 n i.ib) (phaseAmps (pwmAhead s n).2 n i.ic)

/-- The observer has moved (R227). -/
def PwmInputs.observed (i : PwmInputs) (s : State) (n : Fin 8) : State := observe (pwmAhead s n).2 n (i.volts s n) (i.amps s n)

/-- The speed of the observer after the period. -/
def PwmInputs.speed (i : PwmInputs) (s : State) (n : Fin 8) : Rat := ((i.observed s n).spn[n]).obsSpeed

/-- The back-EMF of the period (R227). -/
def PwmInputs.emf (i : PwmInputs) (s : State) (n : Fin 8) : Rat × Rat := backEmf s n (i.volts s n) (i.amps s n) (s.spn[n]).amps

/-- The period. -/
def PwmInputs.period (i : PwmInputs) (s : State) (n : Fin 8) : State := pwmPeriod n i.ia i.ib i.ic i.vbus i.va i.vb i.vc s

/-- What a period shows of a spindle: its figures, and in SPN_SPEED the speed of the observer but in MEASURE. -/
structure PwmShown (i : PwmInputs) (s t : State) (n : Fin 8) : Prop where
  figures : (t.spn[n]).figures = (pwmDuty s n, i.speed s n, i.amps s n, (s.spn[n]).elec, i.emf s n)
  hidden : spSt s n = spMEASURE → t.rd (R.SPN_SPEED n) = s.rd (R.SPN_SPEED n)
  shown : spSt s n ≠ spMEASURE → t.gi (R.SPN_SPEED_SPEED n) = sat24 (((i.observed s n).quantR (i.speed s n)).1)

theorem pwmAhead_stage (s : State) (n : Fin 8) :
    RegsBut s (pwmAhead s n).2 [R.SPN_STATUS n, R.SPN_CNT_VSAT n] ∧ spSt (pwmAhead s n).2 n = spSt s n ∧ (pwmAhead s n).2.spn = s.spn := by
  obtain ⟨hregs, hstate, hspn⟩ := voltageOf_shows s n
  have hq : (pwmAhead s n).2.regs = (voltageOf s n).2.2.regs := quantR_regs _ _
  exact ⟨fun a ha => ((RegsBut.of_regs hq [] a List.not_mem_nil)).trans (hregs a ha), ((RegsBut.of_regs hq []).g List.not_mem_nil).trans hstate,
    (quantR_spn _ _).trans hspn⟩

theorem model_beside (n : Fin 8) : R.SPN_MODEL n ∉ [R.SPN_STATUS n, R.SPN_CNT_VSAT n] := by
  simp only [List.mem_cons, List.not_mem_nil, or_false, R.SPN_MODEL, R.SPN_STATUS, R.SPN_CNT_VSAT]
  omega

/-- A period up to its braking: the figures are taken, and the braking goes on from there. -/
theorem period_sampled (i : PwmInputs) (s : State) (n : Fin 8) : ∃ p : State, i.period s n = overspeed (bands (brakeOn p n) n) n ∧
    PwmStage s p n ∧ PwmShown i s p n ∧ (p.spn[n]).lossTo600 = (s.spn[n]).lossTo600 := by
  let u := (pwmAhead s n).2
  let o := i.observed s n
  let w := showSpeed o n
  let a := (driveAngle w n).2.2
  let d := (dqOf a n i.ia i.ib i.ic (driveAngle w n).1).2.2
  obtain ⟨f, heq, hf⟩ : ∃ f : Spn → Spn, i.period s n = overspeed (bands (brakeOn (d.spnU n f) n) n) n ∧ ∀ y : Spn,
      (f y).figures = (pwmDuty s n, y.obsSpeed, y.amps, (s.spn[n]).elec, y.emf) ∧ (f y).lossTo600 = y.lossTo600 :=
    ⟨_, rfl, fun _ => ⟨rfl, rfl⟩⟩
  obtain ⟨huregs, hustate, huspn⟩ := pwmAhead_stage s n
  obtain ⟨horegs, hamps, hemf, hloss⟩ := observe_shows u n (i.volts s n) (i.amps s n)
  obtain ⟨hshow, hwspn, hhidden, hshown⟩ := showSpeed_shows o n
  obtain ⟨haregs, haspn⟩ := driveAngle_stands w n
  obtain ⟨hdregs, hdspn⟩ := dqOf_stands a n i.ia i.ib i.ic (driveAngle w n).1
  have hu : PwmStage s u n := ⟨huregs.mono (by simp [pwmRegs]), hustate⟩
  have ho : PwmStage s o n := hu.trans (PwmStage.of_regs n horegs)
  have hlast : (d.spnU n f).regs = w.regs := hdregs.trans haregs
  have hspn : (d.spnU n f).spn[n] = f o.spn[n] := by rw [spn_spnU_self, hdspn, haspn, hwspn]
  have hspeed : (d.spnU n f).rd (R.SPN_SPEED n) = w.rd (R.SPN_SPEED n) := RegsBut.of_regs hlast [] _ List.not_mem_nil
  have hbackEmf : backEmf u n (i.volts s n) (i.amps s n) (u.spn[n]).amps = i.emf s n := by
    have hrs : u.g (R.SPN_MODEL_RS n) = s.g (R.SPN_MODEL_RS n) := huregs.g (model_beside n)
    have hls : u.g (R.SPN_MODEL_LS n) = s.g (R.SPN_MODEL_LS n) := huregs.g (model_beside n)
    rw [PwmInputs.emf, backEmf, backEmf, hrs, hls, huspn]
  obtain ⟨hfigures, hkept⟩ := hf o.spn[n]
  refine ⟨d.spnU n f, heq, (ho.trans hshow).trans (PwmStage.of_regs n hlast), ⟨?_, fun h => ?_, fun h => ?_⟩, ?_⟩
  · rw [hspn, hfigures]
    exact congr_arg₂ (fun am e => (pwmDuty s n, i.speed s n, am, (s.spn[n]).elec, e)) hamps (hemf.trans hbackEmf)
  · refine (hspeed.trans (hhidden (ho.state.trans h))).trans ?_
    refine (RegsBut.of_regs horegs [] _ List.not_mem_nil).trans (huregs _ ?_)
    simpa using ⟨(status_ne_speed n).symm, speed_ne_vsat n⟩
  · exact (State.gi_of_g (congrArg (getF · _) hspeed)).trans (hshown (ho.state.trans_ne h))
  · rw [hspn, hkept]
    exact hloss.trans (by rw [huspn])

/-! The braking of a period (R239). -/

theorem Entered.figures {s t : State} {n : Fin 8} {st : Nat} {bridge : Bool} (h : Entered s t n st bridge) (k : Fin 8) :
    (t.spn[k]).figures = (s.spn[k]).figures := by
  obtain rfl | hne := eq_or_ne k n
  · rw [h.drive]
    rfl
  · rw [h.others k hne]

theorem figures_spnU (s : State) (n k : Fin 8) {f : Spn → Spn} (hf : ∀ y, (f y).figures = y.figures) :
    ((s.spnU n f).spn[k]).figures = (s.spn[k]).figures := by
  obtain rfl | hne := eq_or_ne k n
  · rw [spn_spnU_self, hf]
  · rw [spn_spnU_other s f hne]

theorem nextLoss_figures (s : State) (k : Fin 8) : ((nextLoss s).spn[k]).figures = (s.spn[k]).figures := by
  obtain h | ⟨j, -, -, h⟩ := nextLoss_cases s
  · rw [h]
  · rw [h]
    exact ((spEnter_entered (refFromSpeed s j) j (st := spLOSS) (by decide) true).figures k).trans (figures_spnU s j k fun _ => rfl)

theorem speed_beside (s : State) (n : Fin 8) : R.SPN_SPEED n ∉ stateRegs n ++ lossRegs s := by
  have hspindle (k : Fin 8) : R.SPN_SPEED n ≠ R.SPN_STATUS k := by
    unfold R.SPN_SPEED R.SPN_STATUS
    omega
  have hbus : R.SPN_SPEED n ≠ R.SPN_BUS_STATUS := by
    unfold R.SPN_SPEED R.SPN_BUS_STATUS
    omega
  unfold lossRegs
  split
  · simp [stateRegs, hspindle n, hbus]
  · simp [stateRegs, hspindle, hbus, fun k : Fin 8 => (hspindle k).symm]

/-- What braking keeps of a period: the figures of the spindle and its speed. -/
structure FiguresKept (s t : State) (n : Fin 8) : Prop where
  figures : (t.spn[n]).figures = (s.spn[n]).figures
  speed : t.rd (R.SPN_SPEED n) = s.rd (R.SPN_SPEED n)

theorem FiguresKept.trans {s t u : State} {n : Fin 8} (h : FiguresKept s t n) (h' : FiguresKept t u n) : FiguresKept s u n :=
  ⟨h'.figures.trans h.figures, h'.speed.trans h.speed⟩

theorem PwmShown.after {i : PwmInputs} {s t u : State} {n : Fin 8} (h : PwmShown i s t n) (hkept : FiguresKept t u n) : PwmShown i s u n :=
  ⟨hkept.figures.trans h.figures, fun hst => hkept.speed.trans (h.hidden hst),
    fun hst => (State.gi_of_g (congrArg (getF · _) hkept.speed)).trans (h.shown hst)⟩

theorem figuresKept_spnU (s : State) (n : Fin 8) {f : Spn → Spn} (hf : ∀ y, (f y).figures = y.figures) : FiguresKept s (s.spnU n f) n :=
  ⟨figures_spnU s n n hf, rfl⟩

theorem Entered.figuresKept {s t : State} {n : Fin 8} {st : Nat} {bridge : Bool} (h : Entered s t n st bridge) : FiguresKept s t n :=
  ⟨h.figures n, h.step.regs _ fun hm => speed_beside s n (List.mem_append_left _ hm)⟩

theorem figuresKept_nextLoss (s : State) (n : Fin 8) : FiguresKept s (nextLoss s) n :=
  ⟨nextLoss_figures s n, (nextLoss_step s).regs _ fun hm => speed_beside s n (List.mem_append_right _ hm)⟩

/-- Loss braking that goes over to active braking at 600 rpm may do so below it (R235). -/
def below600 (s : State) (n : Fin 8) : State :=
  if (s.spn[n]).lossTo600 ∧ (spSpeed s n).natAbs < rpm 600 then s.spnU n (fun y => { y with lossTo600 := false }) else s

theorem below600_shows (s : State) (n : Fin 8) : (below600 s n).regs = s.regs ∧ FiguresKept s (below600 s n) n ∧
    ((s.spn[n]).lossTo600 = false → ((below600 s n).spn[n]).lossTo600 = false) := by
  unfold below600
  split
  · exact ⟨rfl, figuresKept_spnU s n fun _ => rfl, fun _ => by rw [spn_spnU_self]⟩
  · exact ⟨rfl, ⟨rfl, rfl⟩, id⟩

/-- How a braking spindle goes over between active and loss braking as the chopper can be used (R239). -/
def brakeOver (s : State) (n : Fin 8) : State :=
  let st := spSt s n
  if !chopUsable s then if st = spACTIVE then nextLoss (spEnter s n spLOSS_WAIT true) else s
  else if st = spLOSS then if (s.spn[n]).lossTo600 then s else brake (refFromSpeed s n) n
  else if st = spLOSS_WAIT then if (s.spn[n]).lossTo600 then spEnter (refFromSpeed s n) n spLOSS true else brake (refFromSpeed s n) n
  else s

/-- A spindle that brakes as the chopper allows goes on as it is. -/
theorem brakeOver_stays {s : State} {n : Fin 8} (hactive : spSt s n = spACTIVE → chopUsable s = true)
    (hloss : spSt s n = spLOSS ∨ spSt s n = spLOSS_WAIT → chopUsable s = false) : brakeOver s n = s := by
  unfold brakeOver
  dsimp only
  cases hchop : chopUsable s
  · rw [hchop] at hactive
    exact if_neg fun h => Bool.false_ne_true (hactive h)
  · rw [hchop] at hloss
    rw [if_neg (by decide), if_neg fun h => Bool.false_ne_true (hloss (.inl h)).symm, if_neg fun h => Bool.false_ne_true (hloss (.inr h)).symm]

/-- A spindle that waits to brake may be the one that the loss queue takes (R239). -/
theorem nextLoss_waiting {s : State} {n : Fin 8} (hst : spSt s n = spLOSS_WAIT) :
    spSt (nextLoss s) n = spLOSS ∨ spSt (nextLoss s) n = spLOSS_WAIT := by
  obtain h | ⟨k, -, -, h⟩ := nextLoss_cases s
  · rw [h]
    exact .inr hst
  · have hk := spEnter_entered (refFromSpeed s k) k (st := spLOSS) (by decide) true
    rw [h]
    obtain rfl | hne := eq_or_ne n k
    · exact .inl hk.state
    · refine .inr (Eq.trans (hk.step.regs.g (f := R.SPN_STATUS_STATE n) ?_) hst)
      simpa [stateRegs, R.SPN_STATUS_STATE] using ⟨status_ne_status hne, (busStatus_ne_status n).symm⟩

/-- Active braking without a usable chopper becomes loss braking, or the wait for it. -/
theorem brakeOver_waits {s : State} {n : Fin 8} (hst : spSt s n = spACTIVE) (hchop : chopUsable s = false) :
    (spSt (brakeOver s n) n = spLOSS ∨ spSt (brakeOver s n) n = spLOSS_WAIT) ∧ FiguresKept s (brakeOver s n) n := by
  let q := spEnter s n spLOSS_WAIT true
  have hent : Entered s q n spLOSS_WAIT true := spEnter_entered s n (by decide) true
  have heq : brakeOver s n = nextLoss q := by
    unfold brakeOver
    rw [hchop]
    exact (if_pos rfl).trans (if_pos hst)
  rw [heq]
  exact ⟨nextLoss_waiting hent.state, hent.figuresKept.trans (figuresKept_nextLoss q n)⟩

/-- Loss braking, or the wait for it, becomes active braking with a usable chopper. -/
theorem brakeOver_active {s : State} {n : Fin 8} (hst : spSt s n = spLOSS ∨ spSt s n = spLOSS_WAIT) (hchop : chopUsable s = true)
    (hto : (s.spn[n]).lossTo600 = false) : spSt (brakeOver s n) n = spACTIVE ∧ FiguresKept s (brakeOver s n) n := by
  have heq : brakeOver s n = brake (refFromSpeed s n) n := by
    have hgo : ¬ (s.spn[n]).lossTo600 = true := Bool.eq_false_iff.mp hto
    unfold brakeOver
    rw [hchop]
    refine (if_neg Bool.false_ne_true).trans ?_
    obtain h | h := hst
    · exact (if_pos h).trans (if_neg hgo)
    · exact (if_neg (h.trans_ne (by decide))).trans ((if_pos h).trans (if_neg hgo))
  obtain ⟨hstate, hstep, hspn⟩ := brake_active (s := refFromSpeed s n) n hchop heq.symm
  refine ⟨hstate, (figuresKept_spnU s n (f := fun x => { x with ref := (spSpeed s n : Int) }) fun _ => rfl).trans ⟨?_, ?_⟩⟩
  · rw [hspn]
    rfl
  · exact hstep.regs _ fun hm => speed_beside s n (List.mem_append_left _ hm)

theorem bands_shows (s : State) (n : Fin 8) : (bands s n).regs = s.regs ∧ FiguresKept s (bands s n) n :=
  ⟨rfl, figuresKept_spnU s n fun _ => rfl⟩

/-- Below 9000 rpm there is no overspeed (R233). -/
theorem overspeed_quiet {s : State} {n : Fin 8} (hlow : ((-(rpm 8999) : Int) : Rat) ≤ (s.spn[n]).obsSpeed)
    (hhigh : (s.spn[n]).obsSpeed ≤ ((rpm 8999 : Int) : Rat)) : overspeed s n = s := by
  have hturns : turnsAt s n (rpm 9000) = false := by
    simp only [rpm] at hlow hhigh
    push_cast at hlow hhigh
    refine decide_eq_false fun h => ?_
    simp only [rpm] at h
    push_cast at h
    obtain h | h := h
    · linarith
    · linarith
  exact if_pos (.inl (by rw [hturns]; rfl))

/-- The speed that a period shows lies within 1 of the observer's. -/
theorem shown_near {r : Rat} (hlow : ((-(rpm 8999) : Int) : Rat) ≤ r) (hhigh : r ≤ ((rpm 8999 : Int) : Rat)) (s : State) :
    r < ((sat24 (s.quantR r).1 : Int) : Rat) + 1 ∧ ((sat24 (s.quantR r).1 : Int) : Rat) < r + 1 := by
  obtain ⟨hup, hdown⟩ := quantR_near s r
  have hbounds : -8388608 ≤ (s.quantR r).1 ∧ (s.quantR r).1 ≤ 8388607 := by
    simp only [rpm] at hlow hhigh
    push_cast at hlow hhigh
    constructor
    · have h : ((-8388608 : Int) : Rat) < ((s.quantR r).1 : Rat) := by
        push_cast
        linarith
      exact (Int.cast_lt.mp h).le
    · have h : ((s.quantR r).1 : Rat) < ((8388607 : Int) : Rat) := by
        push_cast
        linarith
      exact (Int.cast_lt.mp h).le
  rw [sat24, clampI_within hbounds.1 hbounds.2]
  exact ⟨hup, hdown⟩

/-- A period up to its choice of braking, from which the braking and the bands make the outcome. -/
structure Braking (i : PwmInputs) (s q : State) (n : Fin 8) : Prop where
  stage : PwmStage s q n
  shown : PwmShown i s q n
  to600 : (s.spn[n]).lossTo600 = false → (q.spn[n]).lossTo600 = false
  ends : i.period s n = overspeed (bands (brakeOver q n) n) n

theorem period_braking (i : PwmInputs) (s : State) (n : Fin 8) : ∃ q, Braking i s q n := by
  obtain ⟨p, hends, hstage, hshown, hto⟩ := period_sampled i s n
  obtain ⟨hregs, hkept, hto'⟩ := below600_shows p n
  exact ⟨below600 p n, hstage.trans (PwmStage.of_regs n hregs), hshown.after hkept, fun h => hto' (hto.trans h), hends⟩

theorem PwmStage.chopUsable {s t : State} {n : Fin 8} (h : PwmStage s t n) : chopUsable t = chopUsable s := by
  have hbus : R.SPN_BUS_CTRL ∉ pwmRegs n ∧ R.SPN_BUS_STATUS ∉ pwmRegs n := by
    simp only [pwmRegs, List.mem_cons, List.not_mem_nil, or_false, R.SPN_BUS_CTRL, R.SPN_BUS_STATUS, R.SPN_SPEED, R.SPN_STATUS, R.SPN_CNT_VSAT]
    omega
  exact chopUsable_congr (h.regs _ hbus.1) (h.regs.g hbus.2)

/-- Below 9000 rpm a period whose braking keeps the figures shows them, in the registers that the braking leaves. -/
theorem Braking.shows {i : PwmInputs} {s q : State} {n : Fin 8} (h : Braking i s q n) (hkept : FiguresKept q (brakeOver q n) n)
    (hlow : ((-(rpm 8999) : Int) : Rat) ≤ i.speed s n) (hhigh : i.speed s n ≤ ((rpm 8999 : Int) : Rat)) :
    PwmShown i s (i.period s n) n ∧ (i.period s n).regs = (brakeOver q n).regs := by
  obtain ⟨hregs, hbands⟩ := bands_shows (brakeOver q n) n
  have hshown : PwmShown i s (bands (brakeOver q n) n) n := h.shown.after (hkept.trans hbands)
  have hspeed : ((bands (brakeOver q n) n).spn[n]).obsSpeed = i.speed s n := congrArg (fun x => x.2.1) hshown.figures
  rw [h.ends, overspeed_quiet (by rwa [hspeed]) (by rwa [hspeed])]
  exact ⟨hshown, hregs⟩

/-- The figures and the speed that a period shows. -/
theorem PwmShown.all {i : PwmInputs} {s t : State} {n : Fin 8} (h : PwmShown i s t n) (hlow : ((-(rpm 8999) : Int) : Rat) ≤ i.speed s n)
    (hhigh : i.speed s n ≤ ((rpm 8999 : Int) : Rat)) :
    (t.spn[n]).duty = pwmDuty s n ∧ (t.spn[n]).obsSpeed = i.speed s n ∧ (t.spn[n]).amps = i.amps s n ∧ (t.spn[n]).elecOld = (s.spn[n]).elec ∧
      (t.spn[n]).emf = i.emf s n ∧ (spSt s n = spMEASURE → t.rd (R.SPN_SPEED n) = s.rd (R.SPN_SPEED n)) ∧
      (spSt s n ≠ spMEASURE → i.speed s n < ((t.gi (R.SPN_SPEED_SPEED n) : Int) : Rat) + 1 ∧
        ((t.gi (R.SPN_SPEED_SPEED n) : Int) : Rat) < i.speed s n + 1) := by
  refine ⟨congrArg (fun x => x.1) h.figures, congrArg (fun x => x.2.1) h.figures, congrArg (fun x => x.2.2.1) h.figures,
    congrArg (fun x => x.2.2.2.1) h.figures, congrArg (fun x => x.2.2.2.2) h.figures, h.hidden, fun hst => ?_⟩
  rw [h.shown hst]
  exact shown_near hlow hhigh _

/-- How a period leaves the braking of a spindle (R239). -/
theorem period_shows (i : PwmInputs) (s : State) (n : Fin 8) (hlow : ((-(rpm 8999) : Int) : Rat) ≤ i.speed s n)
    (hhigh : i.speed s n ≤ ((rpm 8999 : Int) : Rat)) : let t := i.period s n
    ((spSt s n = spACTIVE → chopUsable s = true) → (spSt s n = spLOSS ∨ spSt s n = spLOSS_WAIT → chopUsable s = false) →
        (spSt t n = spSt s n ∧ RegsBut s t (pwmRegs n)) ∧ PwmShown i s t n) ∧
      (spSt s n = spACTIVE → chopUsable s = false → (spSt t n = spLOSS ∨ spSt t n = spLOSS_WAIT) ∧ PwmShown i s t n) ∧
      (spSt s n = spLOSS ∨ spSt s n = spLOSS_WAIT → chopUsable s = true → (s.spn[n]).lossTo600 = false →
        spSt t n = spACTIVE ∧ PwmShown i s t n) := by
  obtain ⟨q, hq⟩ := period_braking i s n
  have hchop := hq.stage.chopUsable
  have hst := hq.stage.state
  have hout (hkept : FiguresKept q (brakeOver q n) n) :
      PwmShown i s (i.period s n) n ∧ spSt (i.period s n) n = spSt (brakeOver q n) n ∧ (i.period s n).regs = (brakeOver q n).regs := by
    obtain ⟨hshown, hregs⟩ := hq.shows hkept hlow hhigh
    exact ⟨hshown, (RegsBut.of_regs hregs []).g List.not_mem_nil, hregs⟩
  refine ⟨fun hactive hloss => ?stays, fun hactive husable => ?waits, fun hloss husable hto => ?active⟩
  case stays =>
    have hstays : brakeOver q n = q := brakeOver_stays (by rwa [hst, hchop]) (by rwa [hst, hchop])
    obtain ⟨hshown, hstate, hregs⟩ := hout (by rw [hstays]; exact ⟨rfl, rfl⟩)
    rw [hstays] at hstate hregs
    exact ⟨⟨hstate.trans hst, fun a ha => (RegsBut.of_regs hregs [] a List.not_mem_nil).trans (hq.stage.regs a ha)⟩, hshown⟩
  case waits =>
    obtain ⟨hgoes, hkept⟩ := brakeOver_waits (hst.trans hactive) (hchop.trans husable)
    obtain ⟨hshown, hstate, -⟩ := hout hkept
    rw [hstate]
    exact ⟨hgoes, hshown⟩
  case active =>
    obtain ⟨hgoes, hkept⟩ := brakeOver_active (by rwa [hst]) (hchop.trans husable) (hq.to600 hto)
    obtain ⟨hshown, hstate, -⟩ := hout hkept
    exact ⟨hstate.trans hgoes, hshown⟩

/-! The encoder (R229). -/

theorem encoderUpdate_invalid {s : State} {n : Fin 8} (h : s.on (R.SPN_STATUS_ANGLE_VALID n) = false) : encoderUpdate n s = s :=
  if_pos (by rw [h]; rfl)

theorem toSigned_diff_self (a : Nat) : toSigned 16 ((((a : Int) - a) % 65536).toNat) = 0 := by
  rw [Int.sub_self]
  rfl

/-- An encoder update moves the angle alone, and in forward rotation never backward (R229). -/
theorem encoderUpdate_shows {s : State} {n : Fin 8} (h : s.on (R.SPN_STATUS_ANGLE_VALID n) = true) : let t := encoderUpdate n s
    RegsBut s t [R.SPN_ANGLE n] ∧ t.g (R.SPN_ANGLE_EPOCH n) = s.g (R.SPN_ANGLE_EPOCH n) ∧ t = { s with regs := t.regs, spn := t.spn } ∧
      (0 < (s.spn[n]).obsSpeed → 0 ≤ toSigned 16 ((((t.g (R.SPN_ANGLE_ANGLE n) : Int) - s.g (R.SPN_ANGLE_ANGLE n)) % 65536).toNat)) := by
  let u := s.spnU n fun x => { x with subs := x.subs + 1 }
  have hspeed : (u.spn[n]).obsSpeed = (s.spn[n]).obsSpeed := by rw [spn_spnU_self]
  obtain ⟨a, ha, heq⟩ : ∃ a : Nat, a < 65536 ∧ encoderUpdate n s =
      if 0 < (u.spn[n]).obsSpeed ∧ toSigned 16 ((((a : Int) - u.g (R.SPN_ANGLE_ANGLE n)) % 65536).toNat) < 0 then u
      else u.u (R.SPN_ANGLE_ANGLE n) a := by
    refine ⟨(((u.spn[n]).mech + (u.spn[n]).obsSpeed * ((u.spn[n]).subs : Rat) / 93750).floor % 65536).toNat, by omega, ?_⟩
    unfold encoderUpdate
    rw [h]
    rfl
  rw [heq]
  split
  · exact ⟨RegsBut.of_regs rfl _, rfl, rfl, fun _ => (toSigned_diff_self _).ge⟩
  next hforward =>
    refine ⟨regsBut_u u (R.SPN_ANGLE_ANGLE n) a, State.g_u_apart u a (.inr (.inl (Nat.le_of_ble_eq_true rfl))) (Nat.le_of_ble_eq_true rfl), rfl,
      fun hpos => ?_⟩
    have hangle : (u.u (R.SPN_ANGLE_ANGLE n) a).g (R.SPN_ANGLE_ANGLE n) = a := State.g_u_fits u (Nat.le_of_ble_eq_true rfl) ha
    rw [hangle]
    exact not_lt.mp fun hback => hforward ⟨hspeed ▸ hpos, hback⟩

/-! The observer becomes valid (R228, R230). -/

theorem spindle_not_inTables (n : Fin 8) : inTables n (R.SPN_STATUS n) = false ∧ inTables n (R.SPN_ANGLE n) = false ∧
    inTables n (R.STN_STATUS n) = false := by
  simp only [← Bool.not_eq_true, inTables_iff, R.BRL_FF_ENTRY, R.SPN_STATUS, R.SPN_ANGLE, R.STN_STATUS]
  omega

theorem spindle_ne_seqStatus (n : Fin 8) : R.SPN_STATUS n ≠ R.BRL_STN_SEQ_STATUS n ∧ R.SPN_ANGLE n ≠ R.BRL_STN_SEQ_STATUS n ∧
    R.STN_STATUS n ≠ R.BRL_STN_SEQ_STATUS n := by
  simp only [R.SPN_STATUS, R.SPN_ANGLE, R.STN_STATUS, R.BRL_STN_SEQ_STATUS]
  omega

/-- The registers of a spindle in which a new epoch begins. -/
def epochShown (s : State) (n : Fin 8) : State :=
  (((s.u (R.SPN_STATUS_ANGLE_VALID n) 1).u (R.WRS_STATUS_ROTOR_OK n) 1).u (R.SPN_ANGLE_EPOCH n) ((s.g (R.SPN_ANGLE_EPOCH n) + 1) % 256)).u
    (R.SPN_ANGLE_ANGLE n) 0

theorem angle_ne_status (n : Fin 8) : R.SPN_STATUS n ≠ R.SPN_ANGLE n ∧
    R.STN_STATUS n ∉ [R.SPN_STATUS n, R.WRS_STATUS n, R.SPN_ANGLE n, R.SPN_ANGLE n] := by
  simp only [R.SPN_STATUS, R.SPN_ANGLE, R.STN_STATUS, R.WRS_STATUS, List.mem_cons, List.not_mem_nil, or_false]
  omega

theorem epochShown_shows (s : State) (n : Fin 8) : let t := epochShown s n
    t.on (R.SPN_STATUS_ANGLE_VALID n) = true ∧ t.g (R.SPN_ANGLE_EPOCH n) = (s.g (R.SPN_ANGLE_EPOCH n) + 1) % 256 ∧
      t.g (R.SPN_ANGLE_ANGLE n) = 0 ∧ spSt t n = spSt s n ∧ t.rd (R.STN_STATUS n) = s.rd (R.STN_STATUS n) := by
  let s₁ := s.u (R.SPN_STATUS_ANGLE_VALID n) 1
  let s₂ := s₁.u (R.WRS_STATUS_ROTOR_OK n) 1
  let s₃ := s₂.u (R.SPN_ANGLE_EPOCH n) ((s.g (R.SPN_ANGLE_EPOCH n) + 1) % 256)
  have hangle := regsBut_u s₃ (R.SPN_ANGLE_ANGLE n) 0
  have hepoch := regsBut_u s₂ (R.SPN_ANGLE_EPOCH n) ((s.g (R.SPN_ANGLE_EPOCH n) + 1) % 256)
  have hrotor := regsBut_u s₁ (R.WRS_STATUS_ROTOR_OK n) 1
  have hstatus (f : FRef) (hf : f.addr = R.SPN_STATUS n) : (epochShown s n).g f = s₁.g f := by
    have ha : f.addr ∉ [R.SPN_ANGLE n] := mt List.mem_singleton.mp (hf.trans_ne (angle_ne_status n).1)
    exact (hangle.g ha).trans ((hepoch.g ha).trans (hrotor.g (mt List.mem_singleton.mp (hf.trans_ne (rotorOk_apart n).symm))))
  refine ⟨?_, ?_, ?_, ?_, ?_⟩
  · exact (congrArg (· == 1) (hstatus (R.SPN_STATUS_ANGLE_VALID n) rfl)).trans (State.on_u_self s ⟨Nat.le_of_ble_eq_true rfl, rfl⟩ true)
  · exact (State.g_u_apart s₃ 0 (.inr (.inl (Nat.le_of_ble_eq_true rfl))) (Nat.le_of_ble_eq_true rfl)).trans
      (s₂.g_u_fits (Nat.le_of_ble_eq_true rfl) (Nat.mod_lt _ (by decide)))
  · exact s₃.g_u_fits (Nat.le_of_ble_eq_true rfl) (Nat.two_pow_pos _)
  · exact (hstatus (R.SPN_STATUS_STATE n) rfl).trans (State.g_u_apart s 1 (.inr (.inr (Nat.le_of_ble_eq_true rfl))) (Nat.le_of_ble_eq_true rfl))
  · have h := (((regsBut_u s (R.SPN_STATUS_ANGLE_VALID n) 1).trans hrotor).trans hepoch).trans hangle
    exact h _ (angle_ne_status n).2

/-- A new epoch begins with an angle of 0 and with both feed-forward tables cleared (R228, R230). -/
theorem angleValid_shows (s : State) (n : Fin 8) : let t := angleValid s n
    (t.on (R.SPN_STATUS_ANGLE_VALID n) = true ∧ t.g (R.SPN_ANGLE_EPOCH n) = (s.g (R.SPN_ANGLE_EPOCH n) + 1) % 256 ∧
      t.g (R.SPN_ANGLE_ANGLE n) = 0 ∧ ∀ (k : Fin 2) (i : Fin 512), t.rd (R.BRL_FF_ENTRY n k i) = 0#32) ∧
    spSt t n = spSt s n ∧ stSt t n = stSt s n ∧ t.stn = s.stn := by
  obtain ⟨f, g, heq⟩ : ∃ f g, angleValid s n =
      ((tablesDropped ((epochShown s n).spnU n f) n).u (R.BRL_STN_SEQ_STATUS_FF_VALID n) 0).seqU n g := ⟨_, _, rfl⟩
  have hrd {a : Nat} (ha : a ≠ R.BRL_STN_SEQ_STATUS n) : (angleValid s n).rd a = if inTables n a then 0#32 else (epochShown s n).rd a := by
    rw [heq, State.seqU_rd, State.rd_u_other _ _ _ ha, tablesDropped_rd, State.spnU_rd]
  obtain ⟨hstatus, hangle, hstation⟩ := spindle_not_inTables n
  obtain ⟨hstatus', hangle', hstation'⟩ := spindle_ne_seqStatus n
  have hstatusRd : (angleValid s n).rd (R.SPN_STATUS n) = (epochShown s n).rd (R.SPN_STATUS n) := by rw [hrd hstatus', hstatus]; rfl
  have hangleRd : (angleValid s n).rd (R.SPN_ANGLE n) = (epochShown s n).rd (R.SPN_ANGLE n) := by rw [hrd hangle', hangle]; rfl
  have hstationRd : (angleValid s n).rd (R.STN_STATUS n) = (epochShown s n).rd (R.STN_STATUS n) := by rw [hrd hstation', hstation]; rfl
  obtain ⟨hvalid, hepoch, hzero, hstate, hstn⟩ := epochShown_shows s n
  refine ⟨⟨(congrArg (getF · _ == 1) hstatusRd).trans hvalid, (congrArg (getF · _) hangleRd).trans hepoch,
    (congrArg (getF · _) hangleRd).trans hzero, fun k i => ?_⟩, (congrArg (getF · _) hstatusRd).trans hstate,
    congrArg (getF · _) (hstationRd.trans hstn), ?_⟩
  · have hentry : R.BRL_FF_ENTRY n k i ≠ R.BRL_STN_SEQ_STATUS n := fun h =>
      Bool.false_ne_true ((seqStatus_not_inTables n).symm.trans (h ▸ ffEntry_inTables n k i))
    rw [hrd hentry, ffEntry_inTables]
    rfl
  · rw [heq]
    rfl

/-- The observer has been good for 2 ms, on a bus that is not tripped (R228). -/
theorem observerValid_good {s : State} {n : Fin 8} {t₀ : Nat} (hvalid : s.on (R.SPN_STATUS_ANGLE_VALID n) = false)
    (herr : (s.spn[n]).errLow = some t₀) (hnow : t₀ + 2000000 ≤ s.now) (hturns : turnsAt s n (rpm (s.g (R.SPN_OBS_OBS_MIN n))) = true)
    (htrip : s.on R.SPN_BUS_STATUS_TRIPPED = false) : observerValid n s =
      if spSt s n = spALIGN then s
      else if spSt s n = spIF_RAMP then if (s.spn[n]).waitObs then disturbance (angleValid (runFrom s n) n) n 11 else s
      else disturbance (angleValid s n) n 11 := by
  unfold observerValid
  simp only [hvalid, herr, hturns, htrip, hnow, decide_true, Bool.and_self, Bool.not_true, Bool.false_eq_true, false_or]

/-! The speed reference and the regulation (R231, R232). -/

/-- How far a rate moves the reference in a tenth of a millisecond; a rate of 0 acts as 1 (R231). -/
def rampStep (v : Nat) : Rat := ((512 * max 1 v : Nat) : Rat) / 10000

theorem rampStep_nonneg (v : Nat) : 0 ≤ rampStep v := div_nonneg (Nat.cast_nonneg _) (by norm_num)

/-- The reference moves toward its goal. -/
def refToward (goal up down ref : Rat) : Rat := if ref < goal then min goal (ref + up) else max goal (ref - down)

theorem refToward_between {goal up down ref : Rat} (hup : 0 ≤ up) (hdown : 0 ≤ down) :
    (ref ≤ goal → ref ≤ refToward goal up down ref ∧ refToward goal up down ref ≤ goal ∧ refToward goal up down ref ≤ ref + up) ∧
      (goal ≤ ref → goal ≤ refToward goal up down ref ∧ refToward goal up down ref ≤ ref ∧ ref ≤ refToward goal up down ref + down) := by
  unfold refToward
  refine ⟨fun hle => ?_, fun hge => ?_⟩
  · split
    · exact ⟨le_min hle (by linarith), min_le_left _ _, min_le_right _ _⟩
    next hnot =>
      have heq : ref = goal := le_antisymm hle (not_lt.mp hnot)
      rw [max_eq_left (by linarith)]
      exact ⟨hle, le_refl _, by linarith⟩
  · rw [if_neg (not_lt.mpr hge)]
    refine ⟨le_max_left _ _, max_le hge (by linarith), ?_⟩
    have h : ref - down ≤ max goal (ref - down) := le_max_right _ _
    linarith

/-- In RUN the reference moves toward the set-point by the rates of the ramp, and nothing else changes (R231). -/
theorem speedRefUpdate_shows {s : State} {n : Fin 8} (hst : spSt s n = spRUN) : let t := speedRefUpdate n s
    t = { s with spn := t.spn } ∧ (t.spn[n]).ref = refToward ((setPoint s n : Int) : Rat) (rampStep (s.g (R.SPN_RAMP_ACCEL n)))
      (rampStep (s.g (R.SPN_RAMP_DECEL n))) (s.spn[n]).ref := by
  obtain ⟨f, heq, hf⟩ : ∃ f : Spn → Spn, speedRefUpdate n s = s.spnU n f ∧ ∀ y, (f y).ref = refToward ((setPoint s n : Int) : Rat)
      (rampStep (s.g (R.SPN_RAMP_ACCEL n))) (rampStep (s.g (R.SPN_RAMP_DECEL n))) y.ref := by
    unfold speedRefUpdate
    rw [hst]
    exact ⟨_, rfl, fun _ => rfl⟩
  rw [heq]
  exact ⟨rfl, by rw [spn_spnU_self, hf]⟩

/-- CAV regulation is gained after 10 ms in band (R232). -/
theorem regulationGained_gains {s : State} {n : Fin 8} {t₀ : Nat} (hband : (s.spn[n]).inBand = some t₀)
    (hreg : s.on (R.SPN_STATUS_IN_REG n) = false) (hst : spSt s n = spRUN) (hangle : s.on (R.SPN_STATUS_ANGLE_VALID n) = true)
    (hnow : t₀ + 10000000 ≤ s.now) : regulationGained n s = stnRun (s.u (R.SPN_STATUS_IN_REG n) 1) n := by
  have hlate : ¬ s.now < t₀ + 10000000 := Nat.not_lt.mpr hnow
  unfold regulationGained
  rw [hband]
  exact if_neg (by simp [hreg, hst, hangle, hlate])

theorem regulationGained_early {s : State} {n : Fin 8} {t₀ : Nat} (hband : (s.spn[n]).inBand = some t₀) (hnow : s.now < t₀ + 10000000) :
    regulationGained n s = s := by
  unfold regulationGained
  rw [hband]
  exact if_pos (.inr (.inl hnow))

theorem regulationGained_idle (s : State) (n : Fin 8) (htask : (s.stn[n]).task = .none) : let t := stnRun (s.u (R.SPN_STATUS_IN_REG n) 1) n
    t.on (R.SPN_STATUS_IN_REG n) = true ∧ OnlyFields s t (R.SPN_STATUS n) [R.SPN_STATUS_IN_REG n] := by
  rw [stnRun_idle (s := s.u (R.SPN_STATUS_IN_REG n) 1) htask]
  exact ⟨State.on_u_self s ⟨Nat.le_of_ble_eq_true rfl, rfl⟩ true, onlyFields_u s (R.SPN_STATUS_IN_REG n) 1⟩

/-- CAV regulation is lost after 1 ms out of band (R232). -/
theorem regulationLost_shows {s : State} {n : Fin 8} {t₀ : Nat} (hband : (s.spn[n]).offBand = some t₀) (hnow : t₀ + 1000000 ≤ s.now) :
    let t := regulationLost n s
    t.on (R.SPN_STATUS_IN_REG n) = false ∧ OnlyFields s t (R.SPN_STATUS n) [R.SPN_STATUS_IN_REG n] := by
  have heq : regulationLost n s = s.u (R.SPN_STATUS_IN_REG n) 0 := by
    unfold regulationLost
    rw [hband]
    exact if_neg (Nat.not_lt.mpr hnow)
  rw [heq]
  exact ⟨State.on_u_self s ⟨Nat.le_of_ble_eq_true rfl, rfl⟩ false, onlyFields_u s (R.SPN_STATUS_IN_REG n) 0⟩

/-- Settles O25: each operation of the angle and the speed does what R224 to R246 name. -/
theorem spindleAngleAndSpeed : Obligations.SpindleAngleAndSpeed := by
  unfold Obligations.SpindleAngleAndSpeed
  intro s n hs x st
  refine ⟨?pwm, fun hvalid => ?invalid, fun hvalid => ?encoder,
    fun t₀ hvalid herr hnow hturns htrip => ⟨fun hst => ?held, fun hst hwait => ⟨?started, ?running⟩, fun h2 h3 => ?valid,
      fun h2 h3 hmounting hactive htask => ?quiet, (angleValid_shows s n).1⟩, fun hst => ?reference,
    fun t₀ hband hreg hst hangle => ⟨fun hnow => ⟨?gained, fun htask => ?idle⟩, fun hnow => ?early⟩, fun t₀ hband hnow => ?lost⟩
  case pwm =>
    intro ia ib ic vbus va vb vc w ahead u duty volts amps r rs ls run hlow hhigh
    let i : PwmInputs := ⟨ia, ib, ic, vbus, va, vb, vc⟩
    obtain ⟨hstays, hwaits, hgoes⟩ := period_shows i s n hlow hhigh
    have hrun {P : State → Prop} (h : P (i.period s n) ∧ PwmShown i s (i.period s n) n) : run P := by
      obtain ⟨hP, hshown⟩ := h
      exact does_of_answer hs rfl ⟨hP, hshown.all hlow hhigh⟩
    exact ⟨fun hactive hloss => hrun (hstays hactive hloss), fun hactive hchop => hrun (hwaits hactive hchop),
      fun hloss hchop hto => hrun (hgoes hloss hchop hto)⟩
  case invalid => exact (answer_live _ hs).trans (congrArg _ (encoderUpdate_invalid hvalid))
  case encoder => exact does_of_answer hs rfl (encoderUpdate_shows hvalid)
  case held =>
    refine (answer_live _ hs).trans (congrArg _ ((observerValid_good hvalid herr hnow hturns htrip).trans ?_))
    obtain hst | ⟨hst, hwait⟩ := hst
    · exact if_pos hst
    · exact (if_neg (hst.trans_ne (by decide))).trans ((if_pos hst).trans (if_neg (Bool.eq_false_iff.mp hwait)))
  case started =>
    refine (answer_live _ hs).trans (congrArg _ ((observerValid_good hvalid herr hnow hturns htrip).trans ?_))
    exact (if_neg (hst.trans_ne (by decide))).trans ((if_pos hst).trans (if_pos hwait))
  case running => exact (runFrom_shows s n rfl).1
  case valid =>
    refine (answer_live _ hs).trans (congrArg _ ((observerValid_good hvalid herr hnow hturns htrip).trans ?_))
    exact (if_neg h2).trans (if_neg h3)
  case quiet =>
    obtain ⟨⟨hshown, hepoch, hangle, -⟩, hstate, hstation, hstn⟩ := angleValid_shows s n
    have heq : observerValid n s = angleValid s n := by
      refine (observerValid_good hvalid herr hnow hturns htrip).trans ((if_neg h2).trans ((if_neg h3).trans ?_))
      exact disturbance_quiet (hstation.trans_ne hactive) (hstation.trans_ne hmounting) (by rwa [hstn]) 11
    refine does_of_answer hs rfl ?_
    rw [heq]
    exact ⟨hshown, hepoch, hangle, hstate⟩
  case reference =>
    obtain ⟨honly, href⟩ := speedRefUpdate_shows hst
    refine does_of_answer hs rfl ⟨honly, ?_⟩
    rw [href]
    exact refToward_between (rampStep_nonneg _) (rampStep_nonneg _)
  case gained => exact (answer_live _ hs).trans (congrArg _ (regulationGained_gains hband hreg hst hangle hnow))
  case idle =>
    refine does_of_answer hs rfl ?_
    rw [regulationGained_gains hband hreg hst hangle hnow]
    exact regulationGained_idle s n htask
  case early => exact (answer_live _ hs).trans (congrArg _ (regulationGained_early hband hnow))
  case lost => exact does_of_answer hs rfl (regulationLost_shows hband hnow)

end Sys2Proof.Machine
/-!
PROOF. O24: short brakes, overcurrent and a lost observer (R226 to R239). First what the state of a station and its last fault stand through,
as far as a fault of its spindle goes, then the fault of the station, then the brakes and the losses, then the obligation.
-/

namespace Sys2Proof.Machine

/-! The state of a station and its last fault, and what leaves them alone (R276, R288). -/

/-- The state of a station and the cause of its last fault. -/
def faultView (n : Fin 8) (s : State) : Nat × Nat := (stSt s n, s.g (R.STN_STATUS_LAST_FAULT n))

/-- A register outside the blocks of the stations. -/
abbrev offStations (a : Nat) : Prop := a < 0x80000 ∨ 0x100000 ≤ a

theorem stnStatus_ne_off (n : Fin 8) {a : Nat} (ha : offStations a) : R.STN_STATUS n ≠ a := by
  unfold R.STN_STATUS
  omega

theorem faultView_of_rd {n : Fin 8} {s t : State} (h : t.rd (R.STN_STATUS n) = s.rd (R.STN_STATUS n)) : faultView n t = faultView n s :=
  Prod.ext (congrArg (getF · _) h) (congrArg (getF · _) h)

theorem faultView_of_regsBut {n : Fin 8} {s t : State} {l : List Nat} (h : RegsBut s t l) (hl : R.STN_STATUS n ∉ l) : faultView n t = faultView n s :=
  faultView_of_rd (h _ hl)

section
variable (n : Fin 8) (s : State)

theorem faultView_bump_off {a : Nat} (ha : offStations a) : faultView n (s.bump a) = faultView n s :=
  faultView_of_regsBut (regsBut_bump s a) (mt List.mem_singleton.mp (stnStatus_ne_off n ha))

theorem faultView_us_off (l : List (FRef × Nat)) (hl : ∀ p ∈ l, offStations p.1.addr) : faultView n (s.us l) = faultView n s :=
  faultView_of_rd (s.rd_us_other l fun p hp => stnStatus_ne_off n (hl p hp))

/-- A field of a station's status between its state and the cause of its last fault. -/
theorem faultView_u_between (k : Fin 8) {f : FRef} (v : Nat) (hf : f.addr = R.STN_STATUS k ∧ 4 ≤ f.lo ∧ f.lo + f.w ≤ 20) :
    faultView n (s.u f v) = faultView n s :=
  Prod.ext (s.g_u_apart v (.inr (.inr hf.2.1)) (Nat.le_of_ble_eq_true rfl)) (s.g_u_apart v (.inr (.inl hf.2.2)) (Nat.le_of_ble_eq_true rfl))

@[simp] theorem faultView_log (c r : Nat) (l : List Nat) (k : Nat) : faultView n (s.log c r l k) = faultView n s := rfl
@[simp] theorem faultView_tick : faultView n s.tick = faultView n s := rfl
@[simp] theorem faultView_stnU (k : Fin 8) (f : Stn → Stn) : faultView n (s.stnU k f) = faultView n s := rfl
@[simp] theorem faultView_tpzU (f : Tpz → Tpz) : faultView n (s.tpzU f) = faultView n s := rfl
@[simp] theorem faultView_tpz (z : Tpz) : faultView n { s with tpz := z } = faultView n s := rfl
@[simp] theorem faultView_wrsU (k : Fin 8) (f : Wrs → Wrs) : faultView n (s.wrsU k f) = faultView n s := rfl
@[simp] theorem faultView_onxU (f : Onx → Onx) : faultView n (s.onxU f) = faultView n s := rfl
@[simp] theorem faultView_grn (g : Grn) : faultView n { s with grn := g } = faultView n s := rfl

/-! The changes of the map (R341 to R349). -/

@[simp] theorem faultView_noteUse (set way : Nat) : faultView n (noteUse s set way) = faultView n s := rfl

@[simp] theorem faultView_refreshOnx : faultView n (refreshOnx s) = faultView n s := faultView_us_off n s _ (by simp; decide)

@[simp] theorem faultView_refreshJournal : faultView n (refreshJournal s) = faultView n s := faultView_us_off n s _ (by simp; decide)

@[simp] theorem faultView_refreshMap : faultView n (refreshMap s) = faultView n s := by
  have hus (m k : Nat) : faultView n (s.us [(R.GRN_MAP_FREE_COUNT, m), (R.GRN_STATUS_MAP_LOW, k)]) = faultView n s :=
    faultView_us_off n s _ (by simp; decide)
  unfold refreshMap
  extract_lets free low t
  split
  · exact (faultView_log n t _ _ _ _).trans (hus _ _)
  · exact hus _ _

@[simp] theorem faultView_writeBack (l : Nat) : faultView n (writeBack s l) = faultView n s := by
  rw [writeBack, faultView_refreshJournal, faultView_refreshOnx]
  exact faultView_bump_off n _ (by decide)

@[simp] theorem faultView_whenB_writeBack (d : Bool) (l : Nat) : faultView n (s.whenB d fun s => writeBack s l) = faultView n s := by
  cases d
  · rfl
  · exact faultView_writeBack n s l

@[simp] theorem faultView_trimVictims : faultView n (trimVictims s) = faultView n s := by
  unfold trimVictims
  split
  · rfl
  · split
    · rfl
    · rw [faultView_onxU, faultView_whenB_writeBack]

@[simp] theorem faultView_evict (set way : Nat) : faultView n (evict s set way) = faultView n s := by
  unfold evict
  split
  · rfl
  · dsimp only
    split
    · rw [faultView_refreshOnx, faultView_trimVictims, faultView_onxU, faultView_onxU]
    · rw [faultView_onxU, faultView_whenB_writeBack]

@[simp] theorem faultView_installAt (l way : Nat) (d : Bool) : faultView n (installAt s l way d) = faultView n s := by
  rw [installAt, faultView_refreshOnx, faultView_noteUse, faultView_onxU, faultView_evict]

@[simp] theorem faultView_touch (l : Nat) (d : Bool) : faultView n (touch s l d).2 = faultView n s := by
  unfold touch
  split
  · simp (disch := decide) [faultView_bump_off]
  · split
    · simp (disch := decide) [faultView_bump_off]
    · dsimp only
      split
      · rfl
      · split
        · rfl
        · simp (disch := decide) [faultView_bump_off]

@[simp] theorem faultView_journalRoom : faultView n (journalRoom s) = faultView n s := by
  unfold journalRoom
  split
  · rfl
  · split
    · rfl
    · exact faultView_writeBack n s _

@[simp] theorem faultView_mapFlit (i : Nat) : faultView n (mapFlit s i) = faultView n s := by
  unfold mapFlit queueFlits
  split
  · split
    · rfl
    · rfl
  · rfl

@[simp] theorem faultView_changed (i : Nat) : faultView n (changed s i) = faultView n s := by
  rw [changed, faultView_refreshMap, faultView_refreshJournal, faultView_bump_off n _ (by decide), faultView_touch]
  exact (faultView_mapFlit n _ i).trans (faultView_journalRoom n s)

@[simp] theorem faultView_addEntry (e : Entry) : faultView n (addEntry s e) = faultView n s := by
  unfold addEntry
  split
  · rfl
  · exact faultView_changed n _ _

@[simp] theorem faultView_dropEntry (i : Nat) : faultView n (dropEntry s i) = faultView n s := by
  unfold dropEntry
  dsimp only
  split
  · exact faultView_changed n _ i
  · rw [faultView_addEntry]
    exact faultView_changed n _ i

/-! Rebuilds, and a disc that is retired (R293). -/

@[simp] theorem faultView_refreshRebuild : faultView n (refreshRebuild s) = faultView n s := faultView_us_off n s _ (by simp; decide)

@[simp] theorem faultView_memU (S r : Nat) (f : Mem → Mem) : faultView n (memU s S r f) = faultView n s := rfl

@[simp] theorem faultView_queueRebuild (r : Rebuild) : faultView n (queueRebuild s r) = faultView n s := by
  unfold queueRebuild
  split
  · rfl
  · rw [faultView_refreshRebuild, faultView_tpzU]

@[simp] theorem faultView_retireDisc (k : Fin 8) (id : Nat) : faultView n (retireDisc s k id) = faultView n s := by
  have hproj {α : Type} (f : State → α → State) (hf : ∀ t x, faultView n (f t x) = faultView n t) (l : List α) (t : State) :
      faultView n (t.each l f) = faultView n t := State.each_proj (faultView n) f hf l t
  unfold retireDisc
  extract_lets retired lost put
  have hlost : faultView n lost = faultView n s := by
    refine (hproj _ (fun t x => ?_) _ retired).trans (faultView_tpzU n s _)
    exact hproj _ (fun t m => by rw [faultView_queueRebuild, faultView_memU]) _ t
  split
  · exact hlost
  next =>
    have hput (t : State) (S i : Nat) : faultView n (put t S i) = faultView n t := by
      simp only [put]
      split
      · rfl
      · split
        · rfl
        · exact faultView_queueRebuild n t _
    extract_lets members' runs'
    have hmembers : faultView n members' = faultView n lost := hproj _ (fun t q => hput t _ _) _ _
    have hruns : faultView n runs' = faultView n members' := hproj _ (fun t q => hproj _ (fun t i => hput t _ _) _ t) _ _
    exact (hproj _ (fun t i => faultView_dropEntry n t i) _ _).trans (hruns.trans (hmembers.trans hlost))

/-! The work of a station that is lost (R71, R276, R288). -/

@[simp] theorem faultView_refreshWork (k : Fin 8) : faultView n (refreshWork s k) = faultView n s := by
  unfold refreshWork
  dsimp only
  rw [faultView_u_between n _ k _ ⟨rfl, Nat.le_of_ble_eq_true rfl, Nat.le_of_ble_eq_true rfl⟩]
  split <;> rfl

@[simp] theorem faultView_recallEnc (k : Fin 8) (m : Fin 4) : faultView n (recallEnc s k m) = faultView n s := by
  unfold recallEnc
  split <;> rfl

theorem faultView_recallIf (p : State → Fin 4 → Bool) (k : Fin 8) (l : List (Fin 4)) :
    faultView n (s.each l fun t m => if p t m then recallEnc t k m else t) = faultView n s :=
  State.each_proj (faultView n) _ (fun t m => by split; exacts [faultView_recallEnc n t k m, rfl]) l s

@[simp] theorem faultView_queueJob (k : Fin 8) (j : Job) (front : Bool) : faultView n (queueJob s k j front) = faultView n s := by
  unfold queueJob
  split
  · rw [faultView_refreshWork, faultView_wrsU]
  · split
    · rw [faultView_refreshWork, faultView_wrsU]
    · extract_lets t
      rw [faultView_refreshWork, faultView_wrsU]
      exact faultView_recallIf n s _ k beams

@[simp] theorem faultView_reheadJobs (k : Fin 8) (p : Job → Bool) (f : Hdr → Hdr) : faultView n (reheadJobs s k p f) = faultView n s := by
  unfold reheadJobs
  extract_lets t
  rw [faultView_wrsU]
  exact faultView_recallIf n s _ k beams.reverse

@[simp] theorem faultView_logDegraded (S : Nat) (always : Bool) : faultView n (logDegraded s S always) = faultView n s := by
  unfold logDegraded
  dsimp only
  split
  · rfl
  · split <;> rfl

@[simp] theorem faultView_memberAbsent (S r : Nat) (always : Bool) : faultView n (memberAbsent s S r always) = faultView n s := by
  unfold memberAbsent
  split
  · rfl
  · dsimp only
    rw [faultView_logDegraded, faultView_queueRebuild]
    exact State.each_proj (faultView n) _ (fun t k => faultView_reheadJobs n t k _ _) _ _

@[simp] theorem faultView_loseJob (k : Fin 8) (j : Job) : faultView n (loseJob s k j) = faultView n s := by
  unfold loseJob
  split
  case h_3 => split <;> simp
  all_goals simp

theorem stnStatus_ne_writePath (k : Fin 8) : R.STN_STATUS n ≠ R.WRS_CNT_INTERRUPTED k ∧ R.STN_STATUS n ≠ R.WRS_CNT_FAILED k ∧
    R.STN_STATUS n ≠ R.WRS_STATUS k := by
  unfold R.STN_STATUS R.WRS_CNT_INTERRUPTED R.WRS_CNT_FAILED R.WRS_STATUS
  omega

theorem faultView_bumpN {a : Nat} (k : Nat) (ha : R.STN_STATUS n ≠ a) : faultView n (s.bumpN a k) = faultView n s :=
  faultView_of_regsBut (regsBut_bumpN s a k) (mt List.mem_singleton.mp ha)

@[simp] theorem faultView_loseStation (k : Fin 8) (all : Bool) : faultView n (loseStation s k all) = faultView n s := by
  obtain ⟨hint, hfail, hstatus⟩ := stnStatus_ne_writePath n k
  unfold loseStation
  extract_lets jobs cut counted emptied ended lost out
  have hcounted : faultView n counted = faultView n s := (faultView_bumpN n _ _ hfail).trans (faultView_bumpN n _ _ hint)
  have hemptied : faultView n emptied = faultView n counted := faultView_wrsU n counted k _
  have hended : faultView n ended = faultView n emptied := by
    cases all
    · rfl
    · exact faultView_of_rd (emptied.rd_u_other _ _ hstatus)
  have hlost : faultView n lost = faultView n ended := State.each_proj (faultView n) _ (fun t j => faultView_loseJob n t k j) jobs ended
  rw [faultView_refreshWork, faultView_refreshRebuild]
  exact hlost.trans (hended.trans (hemptied.trans hcounted))

@[simp] theorem faultView_refreshAvail : faultView n (refreshAvail s) = faultView n s := by
  unfold refreshAvail
  extract_lets a p t un t'
  have hstn : faultView n t = faultView n s := State.each_proj (faultView n) _
    (fun t k => faultView_u_between n t k _ ⟨rfl, Nat.le_of_ble_eq_true rfl, Nat.le_of_ble_eq_true rfl⟩) _ s
  have hus (v v' v'' : Nat) : faultView n (t.us [(R.TPZ_STATUS_UNAVAIL, v), (R.TPZ_STATUS_NARROW, v'), (R.TPZ_STATUS_STALLED, v'')]) = faultView n t :=
    faultView_us_off n t _ (by simp; decide)
  have htpz : faultView n t' = faultView n t := hus _ _ _
  exact (faultView_tpz n t' _).trans (htpz.trans hstn)

/-! A calibration that is abandoned (R309). -/

@[simp] theorem faultView_refreshCal : faultView n (refreshCal s) = faultView n s := faultView_us_off n s _ (by simp; decide)

theorem stnStatus_not_offset : R.STN_STATUS n ∉ slotOffsets := by
  rw [mem_slotOffsets]
  rintro ⟨k, hk⟩
  unfold R.STN_STATUS R.BRL_SLOT_OFFSET at hk
  omega

@[simp] theorem faultView_writeOffset (k typ : Nat) (v : Int) : faultView n (writeOffset s k typ v) = faultView n s :=
  faultView_of_regsBut (regsBut_writeOffset s k typ v) (stnStatus_not_offset n)

theorem stnStatus_not_power (k : Fin 8) : R.STN_STATUS n ∉ powerRegs k := by
  simp only [powerRegs, List.mem_cons, List.mem_map, R.STN_STATUS, R.CAL_STATUS, R.WRS_STATUS, R.WRS_PW_LIVE, not_or, not_exists]
  refine ⟨by omega, by omega, fun m hm => ?_⟩
  omega

@[simp] theorem faultView_restorePowers (k : Fin 8) : faultView n (restorePowers s k) = faultView n s := by
  refine State.each_proj (faultView n) _ (fun t m => ?_) _ s
  have hsend := (sendLevels_stands (beamView (livePower (beamView t k m) t k m) k m) (livePower (beamView t k m) t k m) k m [0, 1, 2, 3, 4]
    (writing t k m) []).regs
  exact (faultView_of_regsBut hsend List.not_mem_nil).trans (faultView_of_regsBut (livePower_stands _ t k m).regs (stnStatus_not_power n k))

@[simp] theorem faultView_calUndo (k : Fin 8) (r : CalRun) : faultView n (calUndo s k r) = faultView n s := by
  unfold calUndo
  extract_lets t
  have ht : faultView n t = faultView n s := by
    simp only [t]
    split
    · simp
    · rfl
  split
  · exact (faultView_restorePowers n t k).trans ht
  · exact ht

@[simp] theorem faultView_calAbandon (k : Fin 8) : faultView n (calAbandon s k) = faultView n s := by
  unfold calAbandon
  split
  · rfl
  next r _ =>
    extract_lets idle undone
    have hidle : faultView n idle = faultView n s := rfl
    split
    · exact (faultView_refreshCal n idle).trans hidle
    · have hundone : faultView n undone = faultView n s := (faultView_calUndo n idle k r).trans hidle
      refine (faultView_log n _ _ _ _ _).trans ((faultView_refreshCal n _).trans ?_)
      exact (faultView_bump_off n undone (by decide)).trans hundone

@[simp] theorem faultView_dropResults (k : Fin 8) : faultView n (dropResults s k) = faultView n s := rfl

/-! The sequencer, the spindle and the sled of a station in fault (R209, R254, R276). -/

@[simp] theorem faultView_seqStopNow (k : Fin 8) : faultView n (seqStopNow s k) = faultView n s := by
  obtain ⟨-, -, -, -, hstep⟩ := seqStopNow_shows s k rfl
  refine faultView_of_regsBut hstep.regs (mt List.mem_singleton.mp ?_)
  unfold R.STN_STATUS R.BRL_STN_SEQ_STATUS
  omega

theorem stnStatus_not_state (k : Fin 8) : R.STN_STATUS n ∉ stateRegs k ++ lossRegs s := by
  have hspindle (j : Fin 8) : R.STN_STATUS n ≠ R.SPN_STATUS j := by
    unfold R.STN_STATUS R.SPN_STATUS
    omega
  have hbus : R.STN_STATUS n ≠ R.SPN_BUS_STATUS := by
    unfold R.STN_STATUS R.SPN_BUS_STATUS
    omega
  unfold lossRegs
  split
  · simp [stateRegs, hspindle, hbus]
  · simp [stateRegs, hspindle, hbus, fun j : Fin 8 => (hspindle j).symm]

@[simp] theorem faultView_spEnter (k : Fin 8) {st : Nat} (hst : st < 16) (b : Bool) : faultView n (spEnter s k st b) = faultView n s :=
  faultView_of_regsBut (spEnter_entered s k hst b).step.regs fun hm => stnStatus_not_state n s k (List.mem_append_left _ hm)

@[simp] theorem faultView_nextLoss : faultView n (nextLoss s) = faultView n s :=
  faultView_of_regsBut (nextLoss_step s).regs fun hm => stnStatus_not_state n s n (List.mem_append_right _ hm)

@[simp] theorem faultView_spStopped (k : Fin 8) : faultView n (spStopped s k) = faultView n s :=
  (faultView_nextLoss n _).trans (faultView_spEnter n s k (by decide) false)

theorem faultView_u_spindle (k : Fin 8) {f : FRef} (v : Nat) (hf : f.addr = R.SPN_STATUS k) : faultView n (s.u f v) = faultView n s := by
  refine faultView_of_rd (s.rd_u_other f v ?_)
  rw [hf]
  unfold R.STN_STATUS R.SPN_STATUS
  omega

@[simp] theorem faultView_brake (k : Fin 8) : faultView n (brake s k) = faultView n s := by
  unfold brake
  dsimp only
  split
  · exact (faultView_spEnter n _ k (by decide) true).trans (faultView_u_spindle n s k 0 rfl)
  · exact (faultView_nextLoss n _).trans ((faultView_spEnter n _ k (by decide) true).trans (faultView_u_spindle n s k 0 rfl))

@[simp] theorem faultView_ffTablesClear (k : Fin 8) : faultView n (ffTablesClear s k) = faultView n s := by
  obtain ⟨f, heq⟩ : ∃ f, ffTablesClear s k = ((tablesDropped s k).u (R.BRL_STN_SEQ_STATUS_FF_VALID k) 0).seqU k f := ⟨_, rfl⟩
  have hin : inTables k (R.STN_STATUS n) = false := by
    simp only [← Bool.not_eq_true, inTables_iff, R.BRL_FF_ENTRY, R.STN_STATUS]
    omega
  have hne : R.STN_STATUS n ≠ R.BRL_STN_SEQ_STATUS k := by
    unfold R.STN_STATUS R.BRL_STN_SEQ_STATUS
    omega
  refine faultView_of_rd ?_
  rw [heq, State.seqU_rd, State.rd_u_other _ _ _ hne, tablesDropped_rd, hin]
  rfl

theorem faultView_uBoth {f : FRef} (v : Nat) (hf : R.STN_STATUS n ≠ f.addr) : faultView n (s.uBoth f v) = faultView n s :=
  faultView_of_regsBut (regsBut_uBoth s f v) (mt List.mem_singleton.mp hf)

/-- The speed of a spindle is selected away (R231, R246). -/
theorem faultView_writeSpeedSel_zero (k : Fin 8) : faultView n (writeSpeedSel s k 0) = faultView n s := by
  unfold writeSpeedSel speedSelChanged
  extract_lets old t cleared kept st started
  have ht : faultView n t = faultView n s := by
    have hctrl : R.STN_STATUS n ≠ R.SPN_CTRL k := by
      unfold R.STN_STATUS R.SPN_CTRL
      omega
    have hboth := faultView_uBoth n s (f := R.SPN_CTRL_SPEED_SEL k) 0 hctrl
    simp only [t]
    split
    · exact ((faultView_spStopped n _ k).trans (faultView_u_spindle n _ k 0 rfl)).trans hboth
    · exact hboth
  have hkept : faultView n kept = faultView n t := (faultView_ffTablesClear n _ k).trans (faultView_u_spindle n t k 0 rfl)
  split
  · exact ht
  · rw [if_pos rfl]
    split
    · exact (faultView_spStopped n kept k).trans (hkept.trans ht)
    · split
      · exact (faultView_brake n kept k).trans (hkept.trans ht)
      · exact hkept.trans ht

theorem stnStatus_not_sled (k : Fin 8) : R.STN_STATUS n ∉ sledRegs k := by
  refine not_mem_sledRegs k ?_
  unfold R.STN_STATUS
  omega

@[simp] theorem faultView_faultedRest (k : Fin 8) : faultView n (faultedRest s k) = faultView n s := by
  unfold faultedRest
  split
  · exact faultView_of_regsBut (sledStep_bridgeOff s k slOFF).regs (stnStatus_not_sled n k)
  · rfl

end

/-! A station in fault (R288). -/

/-- A station in another state enters the new one; the cause of its last fault stands. -/
theorem setSt_shows {s : State} {n : Fin 8} {new : Nat} (hne : stSt s n ≠ new) (hnew : new < 16) :
    faultView n (setSt s n new) = (new, s.g (R.STN_STATUS_LAST_FAULT n)) := by
  unfold setSt
  extract_lets old was moved left shown lost dropped
  rw [if_neg hne]
  have hmoved : faultView n moved = (new, s.g (R.STN_STATUS_LAST_FAULT n)) :=
    Prod.ext (s.g_u_fits (Nat.le_of_ble_eq_true rfl) hnew) (s.g_u_apart new (.inr (.inl (Nat.le_of_ble_eq_true rfl))) (Nat.le_of_ble_eq_true rfl))
  have hleft : faultView n left = faultView n moved := by
    simp only [left]
    split
    · rfl
    · exact faultView_calAbandon n moved n
  have hshown : faultView n shown = faultView n left := faultView_refreshAvail n left
  have hlost : faultView n lost = faultView n shown := by
    simp only [lost]
    split
    · exact faultView_loseStation n shown n _
    · rfl
  have hdropped : faultView n dropped = faultView n lost := by
    simp only [dropped]
    split
    · rfl
    · exact faultView_dropResults n lost n
  exact (faultView_stnU n dropped n _).trans (hdropped.trans (hlost.trans (hshown.trans (hleft.trans hmoved))))

/-- A fault takes a station that is in use to FAULTED, and shows its cause. -/
theorem enterFaulted_shows {s : State} {n : Fin 8} (hlo : 1 ≤ stSt s n) (hhi : stSt s n ≤ 6) {cause : Nat} (hcause : cause < 6) :
    faultView n (enterFaulted s n cause) = (stFAULTED, cause) := by
  have huse : (stSt s n == stLOADING || stSt s n == stMOUNTING || stSt s n == stACTIVE || stSt s n == stIDLE || stSt s n == stPARKED ||
      stSt s n == stRELEASING) = true := by
    simp only [Bool.or_eq_true, beq_iff_eq, stLOADING, stMOUNTING, stACTIVE, stIDLE, stPARKED, stRELEASING]
    omega
  unfold enterFaulted
  extract_lets st id retired stopped entered told idle gone
  rw [if_neg (by rw [huse]; decide)]
  have hretired : stSt retired n = stSt s n := by
    simp only [retired]
    split
    · exact congrArg Prod.fst (faultView_retireDisc n s n id)
    · rfl
  have hcounted : faultView n ((retired.u (R.STN_STATUS_LAST_FAULT n) cause).bump (R.STN_CNT_FAULTS n)) = (stSt s n, cause) := by
    have hcnt : R.STN_STATUS n ≠ R.STN_CNT_FAULTS n := by
      unfold R.STN_STATUS R.STN_CNT_FAULTS
      omega
    refine (faultView_of_regsBut (regsBut_bump _ _) (mt List.mem_singleton.mp hcnt)).trans (Prod.ext ?_ ?_)
    · exact (retired.g_u_apart cause (.inr (.inr (Nat.le_of_ble_eq_true rfl))) (Nat.le_of_ble_eq_true rfl)).trans hretired
    · exact retired.g_u_fits (Nat.le_of_ble_eq_true rfl) (Nat.lt_trans hcause (by decide : 6 < 2 ^ 4))
  have hstopped : faultView n stopped = (stSt s n, cause) := (faultView_seqStopNow n _ n).trans hcounted
  have hentered : faultView n entered = (stFAULTED, cause) := by
    have hne : stSt stopped n ≠ stFAULTED := by
      have hstays : stSt stopped n = stSt s n := congrArg Prod.fst hstopped
      rw [hstays, stFAULTED]
      omega
    refine (faultView_u_between n _ n 0 ⟨rfl, Nat.le_of_ble_eq_true rfl, Nat.le_of_ble_eq_true rfl⟩).trans ((setSt_shows hne (by decide)).trans ?_)
    exact congrArg (Prod.mk stFAULTED) (congrArg Prod.snd hstopped)
  have htold : faultView n told = faultView n entered := by
    simp only [told]
    split
    · rfl
    · rfl
  have hgone : gone = idle := by
    simp only [gone, State.whenB]
    exact if_neg (by simp; omega)
  rw [faultView_faultedRest, faultView_writeSpeedSel_zero, hgone]
  exact htold.trans hentered

/-- A station that is not in use takes no fault. -/
theorem enterFaulted_quiet {s : State} {n : Fin 8} (h : stSt s n = 0 ∨ 6 < stSt s n) (cause : Nat) : enterFaulted s n cause = s := by
  have hout : (stSt s n == stLOADING || stSt s n == stMOUNTING || stSt s n == stACTIVE || stSt s n == stIDLE || stSt s n == stPARKED ||
      stSt s n == stRELEASING) = false := by
    simp only [Bool.or_eq_false_iff, beq_eq_false_iff_ne, stLOADING, stMOUNTING, stACTIVE, stIDLE, stPARKED, stRELEASING]
    omega
  exact if_pos (by rw [hout]; rfl)

/-! The short brake (R237, R239). -/

/-- A braking spindle goes to the short brake at its speed and below it. -/
theorem shortStart_brakes {s : State} {n : Fin 8} (hst : spSt s n = spACTIVE ∨ spSt s n = spLOSS ∨ spSt s n = spLOSS_WAIT)
    (hspeed : (((spSpeed s n).natAbs : Nat) : Int) ≤ rpm (s.g (R.SPN_SPEEDS_SHORT_SPEED n))) : let t := shortStart n s
    spSt t n = spSHORT ∧ (t.spn[n]).bridge = true ∧ RegsBut s t [R.SPN_STATUS n, R.SPN_BUS_STATUS] := by
  obtain ⟨f, heq⟩ : ∃ f, shortStart n s = spEnter (s.spnU n f) n spSHORT true := by
    have hbrakes : (spSt s n == spACTIVE || spSt s n == spLOSS || spSt s n == spLOSS_WAIT) = true := by
      simpa only [Bool.or_eq_true, beq_iff_eq, or_assoc] using hst
    refine ⟨_, if_neg ?_⟩
    rw [hbrakes, decide_eq_false (not_lt.mpr hspeed)]
    decide
  have hent := spEnter_entered (s.spnU n f) n (st := spSHORT) (by decide) true
  rw [heq]
  exact ⟨hent.state, by rw [hent.drive], hent.step.regs⟩

theorem shortStart_goes_on {s : State} {n : Fin 8} (hspeed : ¬ (((spSpeed s n).natAbs : Nat) : Int) ≤ rpm (s.g (R.SPN_SPEEDS_SHORT_SPEED n))) :
    shortStart n s = s := by
  refine if_pos ?_
  rw [decide_eq_true (not_le.mp hspeed), Bool.or_true]

/-- The short brake of a plain stop ends in STOPPED, and the angle stands. -/
theorem shortEnd_stops {s : State} {n : Fin 8} (hst : spSt s n = spSHORT)
    (hnow : (s.spn[n]).since + 5000000 * s.g (R.SPN_START_SHORT_T n) ≤ s.now) (halign : (s.spn[n]).thenAlign = false)
    (hfault : (s.spn[n]).thenFault = false) : let t := shortEnd n s
    spSt t n = spSTOPPED ∧ (t.spn[n]).bridge = false ∧ t.on (R.SPN_STATUS_ANGLE_VALID n) = s.on (R.SPN_STATUS_ANGLE_VALID n) := by
  obtain ⟨f, heq⟩ : ∃ f, shortEnd n s = spStopped (s.spnU n f) n := by
    refine ⟨_, (if_neg ?_).trans ((if_neg (Bool.eq_false_iff.mp halign)).trans (if_neg (Bool.eq_false_iff.mp hfault)))⟩
    exact not_or.mpr ⟨not_not.mpr hst, not_lt.mpr hnow⟩
  have hset := (spEnter_entered (s.spnU n f) n (st := spSTOPPED) (by decide) false).settled (by decide)
  rw [heq]
  refine ⟨hset.state, ?_, ?_⟩
  · rw [spStopped, hset.drive]
  · exact (hset.on rfl (Nat.le_of_ble_eq_true rfl) (Nat.le_of_ble_eq_true rfl)).trans (s.spnU_on n f _)

/-! A phase overcurrent (R226). -/

theorem DriveStep.evl {s t : State} {l : List Nat} (h : DriveStep s t l) : t.evl = s.evl := by
  obtain ⟨_, _, _, rfl⟩ := h.only
  rfl

/-- A spindle in fault shows the cause, with its bridge off, and is logged; its station does not judge it here. -/
theorem spFaults_shows (s : State) (n : Fin 8) {cause : Nat} (hcause : cause < 8) : let t := spFaults s n cause
    spSt t n = spFAULT ∧ t.g (R.SPN_STATUS_FAULT_CAUSE n) = cause ∧ (t.spn[n]).bridge = false ∧ Logged s t 0x106 n [cause] 0 ∧
      faultView n t = faultView n s := by
  let p := s.log 0x106 n [cause]
  let u := (p.u (R.SPN_STATUS_FAULT_CAUSE n) cause).u (R.SPN_STATUS_IN_REG n) 0
  obtain ⟨f, heq⟩ : ∃ f, spFaults s n cause = nextLoss (spEnter (u.spnU n f) n spFAULT false) := ⟨_, rfl⟩
  have hset := (spEnter_entered (u.spnU n f) n (st := spFAULT) (by decide) false).settled (by decide)
  have hu : DriveStep p (u.spnU n f) [R.SPN_STATUS n] :=
    ((driveStep_u p (f := R.SPN_STATUS_FAULT_CAUSE n) cause (List.mem_cons_self ..)).trans
      (driveStep_u _ (f := R.SPN_STATUS_IN_REG n) 0 (List.mem_cons_self ..))).trans (driveStep_spnU u n f _)
  rw [heq]
  refine ⟨hset.state, ?_, ?_, ?_, ?_⟩
  · rw [hset.status _ rfl (Nat.le_of_ble_eq_true rfl) (Nat.le_of_ble_eq_true rfl), State.spnU_g]
    exact ((p.u (R.SPN_STATUS_FAULT_CAUSE n) cause).g_u_apart 0 (.inr (.inl (Nat.le_of_ble_eq_true rfl))) (Nat.le_of_ble_eq_true rfl)).trans
      (p.g_u_fits (Nat.le_of_ble_eq_true rfl) hcause)
  · rw [hset.drive]
  · have hlog : Logged s p 0x106 n [cause] 0 := logged_log rfl rfl rfl _ _ _ _
    exact hlog.of_evl (hset.step.evl.trans hu.evl)
  · refine (faultView_of_regsBut hset.step.regs (stnStatus_not_state n _ n)).trans ?_
    refine (faultView_of_regsBut hu.regs (mt List.mem_singleton.mp ?_)).trans rfl
    unfold R.STN_STATUS R.SPN_STATUS
    omega

theorem watchFaults_spindle {s : State} {n : Fin 8} (hst : spSt s n = spFAULT) : watchFaults s n = enterFaulted s n 1 := if_pos hst

theorem phaseOvercurrent_below {s : State} {n : Fin 8} {i : Int} (h : (i.natAbs : Int) < cur24 (s.g (R.SPN_LIMIT_I_TRIP n))) :
    phaseOvercurrent n i s = s := if_pos (.inl h)

theorem phaseOvercurrent_trips {s : State} {n : Fin 8} {i : Int} (h : cur24 (s.g (R.SPN_LIMIT_I_TRIP n)) ≤ (i.natAbs : Int))
    (hst : spSt s n ≠ spFAULT) : phaseOvercurrent n i s = watchFaults (spFaults s n 1) n := if_neg (not_or.mpr ⟨not_lt.mpr h, hst⟩)

/-! An observer that is lost (R228, R232, R236). -/

/-- A loss of the observer in RUN: the third within a second is a fault, any other starts a catch (R236). -/
def lossInRun (s : State) (n : Fin 8) : State :=
  let recent := (s.spn[n]).losses.filter (fun t => decide (s.now < t + 1000000000)) ++ [s.now]
  let u := s.spnU n (fun x => { x with losses := recent })
  if 3 ≤ recent.length then watchFaults (spFaults u n 4) n else measure u n

theorem lossInRun_first {s : State} {n : Fin 8} (h : (s.spn[n]).losses = []) :
    lossInRun s n = measure (s.spnU n fun x => { x with losses := [s.now] }) n := by
  unfold lossInRun
  rw [h]
  exact if_neg (by simp)

/-- Below 0.8 of the speed from which the observer holds, the angle ends, and a loss in RUN counts (R228, R236). -/
theorem observerInvalid_slow {s : State} {n : Fin 8} (hvalid : s.on (R.SPN_STATUS_ANGLE_VALID n) = true)
    (hlow : -((8 * rpm (s.g (R.SPN_OBS_OBS_MIN n)) : Int) : Rat) < 10 * (s.spn[n]).obsSpeed)
    (hhigh : 10 * (s.spn[n]).obsSpeed < ((8 * rpm (s.g (R.SPN_OBS_OBS_MIN n)) : Int) : Rat)) : observerInvalid n s =
      if spSt (angleInvalid s n) n ≠ spRUN then angleInvalid s n else lossInRun ((angleInvalid s n).bump (R.SPN_CNT_OBS_LOST n)) n := by
  have hslow : (if 10 * (s.spn[n]).obsSpeed < 0 then -(10 * (s.spn[n]).obsSpeed) else 10 * (s.spn[n]).obsSpeed) <
      ((8 * rpm (s.g (R.SPN_OBS_OBS_MIN n)) : Int) : Rat) := by
    split
    · linarith
    · exact hhigh
  unfold observerInvalid
  refine if_neg ?_
  rw [hvalid, decide_eq_true hslow, Bool.or_true]
  decide

/-- Outside RUN a lost observer ends the angle and the regulation alone. -/
theorem observerInvalid_ends {s : State} {n : Fin 8} (hvalid : s.on (R.SPN_STATUS_ANGLE_VALID n) = true)
    (hlow : -((8 * rpm (s.g (R.SPN_OBS_OBS_MIN n)) : Int) : Rat) < 10 * (s.spn[n]).obsSpeed)
    (hhigh : 10 * (s.spn[n]).obsSpeed < ((8 * rpm (s.g (R.SPN_OBS_OBS_MIN n)) : Int) : Rat)) (hst : spSt s n ≠ spRUN) :
    let t := observerInvalid n s
    t.on (R.SPN_STATUS_ANGLE_VALID n) = false ∧ t.on (R.SPN_STATUS_IN_REG n) = false ∧ t.on (R.WRS_STATUS_ROTOR_OK n) = false ∧
      spSt t n = spSt s n ∧ RegsBut s t [R.SPN_STATUS n, R.WRS_STATUS n] := by
  obtain ⟨hangle, hreg, hrotor, hstate, hstep, -, -⟩ := angleInvalid_shows s n rfl
  have heq : observerInvalid n s = angleInvalid s n := (observerInvalid_slow hvalid hlow hhigh).trans (if_pos (hstate.trans_ne hst))
  rw [heq]
  exact ⟨hangle, hreg, hrotor, hstate, hstep.regs⟩

theorem obsLost_ne_status (n k : Fin 8) : R.SPN_CNT_OBS_LOST n ≠ R.SPN_STATUS k := by
  unfold R.SPN_CNT_OBS_LOST R.SPN_STATUS
  omega

theorem obsLost_not_angle (n : Fin 8) : R.SPN_CNT_OBS_LOST n ∉ angleRegs n := by
  simp only [angleRegs, List.mem_cons, List.not_mem_nil, or_false, R.SPN_CNT_OBS_LOST, R.SPN_STATUS, R.WRS_STATUS]
  omega

theorem obsLost_not_state (s : State) (n : Fin 8) : R.SPN_CNT_OBS_LOST n ∉ stateRegs n ++ lossRegs s := by
  have hbus : R.SPN_CNT_OBS_LOST n ≠ R.SPN_BUS_STATUS := by
    unfold R.SPN_CNT_OBS_LOST R.SPN_BUS_STATUS
    omega
  unfold lossRegs
  split
  · simp [stateRegs, obsLost_ne_status, hbus]
  · simp [stateRegs, obsLost_ne_status, hbus, fun k : Fin 8 => (obsLost_ne_status n k).symm]

theorem obsLost_time (n : Fin 8) : R.QTZ_TIME_LO ∉ [R.SPN_CNT_OBS_LOST n] ∧ R.QTZ_TIME_LO + 4 ∉ [R.SPN_CNT_OBS_LOST n] := by
  simp only [List.mem_singleton, R.SPN_CNT_OBS_LOST, R.QTZ_TIME_LO]
  omega

theorem angleRegs_time (n : Fin 8) : R.QTZ_TIME_LO ∉ angleRegs n ∧ R.QTZ_TIME_LO + 4 ∉ angleRegs n := by
  simp only [angleRegs, List.mem_cons, List.not_mem_nil, or_false, R.SPN_STATUS, R.WRS_STATUS, R.QTZ_TIME_LO]
  omega

/-- The first loss of the observer in RUN counts and starts a catch. -/
theorem observerInvalid_catches {s : State} {n : Fin 8} (hvalid : s.on (R.SPN_STATUS_ANGLE_VALID n) = true)
    (hlow : -((8 * rpm (s.g (R.SPN_OBS_OBS_MIN n)) : Int) : Rat) < 10 * (s.spn[n]).obsSpeed)
    (hhigh : 10 * (s.spn[n]).obsSpeed < ((8 * rpm (s.g (R.SPN_OBS_OBS_MIN n)) : Int) : Rat)) (hst : spSt s n = spRUN)
    (hlosses : (s.spn[n]).losses = []) : let t := observerInvalid n s
    t.on (R.SPN_STATUS_ANGLE_VALID n) = false ∧ spSt t n = spMEASURE ∧ Counted s t (R.SPN_CNT_OBS_LOST n) 1 ∧ (t.spn[n]).losses = [s.now] ∧
      (t.spn[n]).bridge = false := by
  obtain ⟨hangle, -, -, hstate, hstep, hspn, -⟩ := angleInvalid_shows s n rfl
  have hends := (observerInvalid_slow hvalid hlow hhigh).trans (if_neg (not_not.mpr (hstate.trans hst)))
  generalize angleInvalid s n = a at hangle hstate hstep hspn hends
  let u := a.bump (R.SPN_CNT_OBS_LOST n)
  let v := u.spnU n fun x => { x with losses := [u.now] }
  have hbump : RegsBut a u [R.SPN_CNT_OBS_LOST n] := regsBut_bump a (R.SPN_CNT_OBS_LOST n)
  have hnow : u.now = s.now := (hbump.now (obsLost_time n)).trans (hstep.regs.now (angleRegs_time n))
  have hnone : ((a.bump (R.SPN_CNT_OBS_LOST n)).spn[n]).losses = [] := by
    rw [State.bump_spn, hspn]
    exact hlosses
  have heq : observerInvalid n s = measure v n := hends.trans (lossInRun_first hnone)
  obtain ⟨hmeasures, -, hbridge, hkept, hangle', hdrive⟩ := measure_shows v n (t := measure v n) rfl
  rw [heq]
  refine ⟨?_, hmeasures, ?_, ?_, hbridge⟩
  · rw [hangle', State.spnU_on]
    exact (hbump.on (mt List.mem_singleton.mp (obsLost_ne_status n n).symm)).trans hangle
  · have hcount : Counted a u (R.SPN_CNT_OBS_LOST n) 1 := counted_bump _ _
    exact (hcount.after hstep.regs (obsLost_not_angle n)).before ((driveStep_spnU u n _ _).trans hdrive).regs (obsLost_not_state v n)
  · rw [hkept, spn_spnU_self, hnow]

/-- Settles O24: brakes, an overcurrent and a lost observer do what R226 to R239 name. -/
theorem spindleBrakingAndFaults : Obligations.SpindleBrakingAndFaults := by
  unfold Obligations.SpindleBrakingAndFaults
  intro s n hs x st atShort
  refine ⟨fun hst => ⟨fun hspeed => ?brakes, fun hspeed => ?braking⟩, fun hst hnow halign hfault => ?stops,
    fun i => ⟨fun hbelow => ?below, fun htrip hst => ?trips⟩, fun hvalid hlow hhigh => ⟨fun hst => ?ends, fun hst hlosses => ?catches⟩⟩
  case brakes => exact does_of_answer hs rfl (shortStart_brakes hst hspeed)
  case braking => exact (answer_live _ hs).trans (congrArg _ (shortStart_goes_on hspeed))
  case stops => exact does_of_answer hs rfl (shortEnd_stops hst hnow halign hfault)
  case below => exact (answer_live _ hs).trans (congrArg _ (phaseOvercurrent_below hbelow))
  case trips =>
    have heq := phaseOvercurrent_trips htrip hst
    obtain ⟨hstate, hcause, hbridge, hlog, hview⟩ := spFaults_shows s n (cause := 1) (by decide)
    have hstation : stSt (spFaults s n 1) n = s.g (R.STN_STATUS_STATE n) := congrArg Prod.fst hview
    refine ⟨(answer_live _ hs).trans (congrArg _ heq), hstate, hcause, hbridge, hlog, fun hidle => ?_, fun hlo hhi => ?_⟩
    · refine does_of_answer hs rfl ?_
      rw [heq, watchFaults_spindle hstate, enterFaulted_quiet (by rwa [hstation]) 1]
      exact ⟨hstate, hcause, hbridge, hlog⟩
    · have hview := enterFaulted_shows (s := spFaults s n 1) (by rwa [hstation]) (by rwa [hstation]) (cause := 1) (by decide)
      refine does_of_answer hs rfl ?_
      rw [heq, watchFaults_spindle hstate]
      exact ⟨congrArg Prod.fst hview, congrArg Prod.snd hview⟩
  case ends => exact does_of_answer hs rfl (observerInvalid_ends hvalid hlow hhigh hst)
  case catches => exact does_of_answer hs rfl (observerInvalid_catches hvalid hlow hhigh hst hlosses)

end Sys2Proof.Machine
